-- ==== Sys2Proof/Word.lean ====
section
/-! DEFINITION. Word types and the plainest arithmetic: bytes, little-endian fields (00 "Numbers, bits and units"),
saturating sums, CRC-32 (11 R378) and SHA-256 (FIPS 180-4, used by 09 R308, R316, R351, R343 and 12 R441). -/

namespace Sys2Proof

abbrev Byte := BitVec 8
abbrev Word := BitVec 32

/-- The `k` low bytes of `n`, little-endian. -/
def le : Nat → Nat → List Byte
  | 0, _ => []
  | k + 1, n => BitVec.ofNat 8 n :: le k (n / 256)

/-- A signed value as `k` bytes of two's complement, little-endian. -/
def leInt (k : Nat) (z : Int) : List Byte := le k (z % (2 ^ (8 * k) : Nat)).toNat

/-- The number that little-endian bytes spell. -/
def ofLe : List Byte → Nat
  | [] => 0
  | b :: bs => b.toNat + 256 * ofLe bs

/-- `k` bytes of `bs` from offset `off`, read little-endian (bytes beyond the end read as nothing). -/
def getLe (bs : List Byte) (off k : Nat) : Nat := ofLe ((bs.drop off).take k)

/-- The byte at an offset, 0 beyond the end. -/
def byteAt (bs : List Byte) (off : Nat) : Nat := (bs.getD off 0).toNat

/-- A field read as two's complement. -/
def getLeInt (bs : List Byte) (off k : Nat) : Int :=
  let n := getLe bs off k
  if n < 2 ^ (8 * k - 1) then n else (n : Int) - (2 ^ (8 * k) : Nat)

/-- `k` bytes of zero. -/
def zeros (k : Nat) : List Byte := List.replicate k 0

/-- The first `k` bytes of a list, padded with zeros to exactly `k`. -/
def fit (k : Nat) (bs : List Byte) : List Byte := (bs ++ zeros k).take k

/-- A sum that stays at `m` once it reaches it. -/
def satAdd (m a b : Nat) : Nat := min m (a + b)

/-- Saturating counters of the spec's widths. -/
def sat8 (a : Nat) : Nat := satAdd 0xFF a 1
def sat16 (a : Nat) : Nat := satAdd 0xFFFF a 1
def sat32 (a : Nat) : Nat := satAdd 0xFFFF_FFFF a 1

/-- A flag as a number. -/
def b2n (b : Bool) : Nat := if b then 1 else 0

/-- Ceiling of a quotient. -/
def ceilDiv (a b : Nat) : Nat := (a + b - 1) / b

/-- Round half up of a quotient of integers by a positive number. -/
def roundDiv (a : Int) (b : Nat) : Int := (2 * a + b) / (2 * b)

/-- A value limited to a range. -/
def clampInt (lo hi z : Int) : Int := max lo (min hi z)

/-- One bit of the reflected CRC-32 shift register (11 R378). -/
def crcBit (c : Nat) : Nat := if c % 2 = 1 then (c / 2) ^^^ 0xEDB88320 else c / 2

def crcByte (c : Nat) (b : Byte) : Nat :=
  crcBit (crcBit (crcBit (crcBit (crcBit (crcBit (crcBit (crcBit (c ^^^ b.toNat))))))))

/-- CRC-32 of 11 R378: initial value and final exclusive-or 0xFFFF_FFFF. -/
def crc32 (bs : List Byte) : Nat := (bs.foldl crcByte 0xFFFF_FFFF) ^^^ 0xFFFF_FFFF

/-! SHA-256 over bytes. -/

def shaK : List Word := [
  0x428a2f98, 0x71374491, 0xb5c0fbcf, 0xe9b5dba5, 0x3956c25b, 0x59f111f1, 0x923f82a4, 0xab1c5ed5,
  0xd807aa98, 0x12835b01, 0x243185be, 0x550c7dc3, 0x72be5d74, 0x80deb1fe, 0x9bdc06a7, 0xc19bf174] ++ [
  0xe49b69c1, 0xefbe4786, 0x0fc19dc6, 0x240ca1cc, 0x2de92c6f, 0x4a7484aa, 0x5cb0a9dc, 0x76f988da,
  0x983e5152, 0xa831c66d, 0xb00327c8, 0xbf597fc7, 0xc6e00bf3, 0xd5a79147, 0x06ca6351, 0x14292967] ++ [
  0x27b70a85, 0x2e1b2138, 0x4d2c6dfc, 0x53380d13, 0x650a7354, 0x766a0abb, 0x81c2c92e, 0x92722c85,
  0xa2bfe8a1, 0xa81a664b, 0xc24b8b70, 0xc76c51a3, 0xd192e819, 0xd6990624, 0xf40e3585, 0x106aa070] ++ [
  0x19a4c116, 0x1e376c08, 0x2748774c, 0x34b0bcb5, 0x391c0cb3, 0x4ed8aa4a, 0x5b9cca4f, 0x682e6ff3,
  0x748f82ee, 0x78a5636f, 0x84c87814, 0x8cc70208, 0x90befffa, 0xa4506ceb, 0xbef9a3f7, 0xc67178f2]

structure ShaState where
  a : Word
  b : Word
  c : Word
  d : Word
  e : Word
  f : Word
  g : Word
  h : Word

def shaInit : ShaState :=
  ⟨0x6a09e667, 0xbb67ae85, 0x3c6ef372, 0xa54ff53a, 0x510e527f, 0x9b05688c, 0x1f83d9ab, 0x5be0cd19⟩

def ror32 (x : Word) (n : Nat) : Word := x.rotateRight n

/-- Big-endian word of four bytes. -/
def beWord (a b c d : Byte) : Word := (a ++ b ++ c ++ d).cast (by decide)

def toWords : List Byte → List Word
  | a :: b :: c :: d :: r => beWord a b c d :: toWords r
  | _ => []

def wordBytes (w : Word) : List Byte :=
  [w.extractLsb' 24 8, w.extractLsb' 16 8, w.extractLsb' 8 8, w.extractLsb' 0 8]

/-- The message schedule: sixteen words extended to sixty-four. -/
def shaExtend : Nat → List Word → List Word
  | 0, ws => ws
  | k + 1, ws =>
    let i := ws.length
    let w15 := ws.getD (i - 15) 0
    let w2 := ws.getD (i - 2) 0
    let s0 := ror32 w15 7 ^^^ ror32 w15 18 ^^^ (w15 >>> 3)
    let s1 := ror32 w2 17 ^^^ ror32 w2 19 ^^^ (w2 >>> 10)
    shaExtend k (ws ++ [ws.getD (i - 16) 0 + s0 + ws.getD (i - 7) 0 + s1])

def shaRound (s : ShaState) (kw : Word × Word) : ShaState :=
  let t1 := s.h + (ror32 s.e 6 ^^^ ror32 s.e 11 ^^^ ror32 s.e 25) + ((s.e &&& s.f) ^^^ (~~~s.e &&& s.g)) + kw.1 + kw.2
  let t2 := (ror32 s.a 2 ^^^ ror32 s.a 13 ^^^ ror32 s.a 22) + ((s.a &&& s.b) ^^^ (s.a &&& s.c) ^^^ (s.b &&& s.c))
  ⟨t1 + t2, s.a, s.b, s.c, s.d + t1, s.e, s.f, s.g⟩

def shaBlock (s : ShaState) (ws : List Word) : ShaState :=
  let r := (shaK.zip (shaExtend 48 ws)).foldl shaRound s
  ⟨s.a + r.a, s.b + r.b, s.c + r.c, s.d + r.d, s.e + r.e, s.f + r.f, s.g + r.g, s.h + r.h⟩

def shaBlocks : Nat → ShaState → List Word → ShaState
  | 0, s, _ => s
  | k + 1, s, ws => shaBlocks k (shaBlock s (ws.take 16)) (ws.drop 16)

/-- SHA-256 of a byte list: 32 bytes, most significant first. -/
def sha256 (m : List Byte) : List Byte :=
  let padded := m ++ [0x80] ++ zeros ((119 - m.length % 64) % 64) ++ (le 8 (8 * m.length)).reverse
  let s := shaBlocks (padded.length / 64) shaInit (toWords padded)
  [s.a, s.b, s.c, s.d, s.e, s.f, s.g, s.h].flatMap wordBytes

end Sys2Proof
end

