-- ==== Sys2Proof/Syntax.lean ====
section
/-! DEFINITION. The commands and events of the block (spec/opcode_table.json) and their operands. -/

namespace Sys2Proof

/-- Cores: 0–2 D0–D2, 3 the supervisor pair, 4–7 the loop pairs of clusters 0–3 (01 R13). -/
abbrev CoreId := Fin 8

/-- Drum cores D0–D2. -/
abbrev DrumCore := Fin 3

/-- A destination or source register of IN and OUT (16 R550). -/
inductive AXY where
  | a
  | x
  | y
  deriving DecidableEq, Repr

def AXY.num : AXY → Nat
  | .a => 0
  | .x => 1
  | .y => 2

/-- A transaction as it lies in a command ring: the ring and the bytes of its slots (11 R387). -/
structure Txn where
  ring : Fin 4
  bytes : List Byte
  deriving DecidableEq, Repr

/-- A Kakel frame (13 R458), less CRC and HSEQ: `ftype` its type, `seg` its payload. -/
structure Frame where
  ftype : Nat
  first : Bool
  last : Bool
  abandon : Bool
  dev : Nat
  ring : Nat
  seg : List Byte
  deriving DecidableEq, Repr, Inhabited

/-- A frame as received: its HSEQ, whether its CRC is good, whether it ended with EAB (13 R455, R460), the code and disparity errors met on
the lane since the last (R480). -/
structure RxFrame where
  frame : Frame
  hseq : Nat
  crcOk : Bool
  aborted : Bool
  errors : Nat := 0
  deriving DecidableEq, Repr, Inhabited

/-- A lane: CHU (upstream) or CHD (downstream). -/
inductive LaneId where
  | chu
  | chd
  deriving DecidableEq, Repr, Inhabited

def LaneId.num : LaneId → Nat
  | .chu => 0
  | .chd => 1

/-- A stamp of an alignment frame: the tick's DT and INTERP (13 R469). -/
structure Stamp where
  dt : Nat
  interp : Nat
  deriving DecidableEq, Repr, Inhabited

/-- A character on a UART's receive line after its start bit (14 R484, R486): of each bit in turn, through the first stop bit, the levels of
samples 7, 8 and 9, or of the one sample of slow mode. -/
structure UartChar where
  bits : List (List Bool)
  deriving DecidableEq, Repr, Inhabited

/-- A CAN frame on the bus (14 R496). -/
structure CanFrame where
  id : BitVec 29
  ide : Bool
  rtr : Bool
  dlc : BitVec 4
  fdf : Bool
  brs : Bool
  esi : Bool
  data : List Byte
  deriving DecidableEq, Repr, Inhabited

/-- Kinds of bus error (14 R508). -/
inductive CanError where
  | bit
  | stuff
  | form
  | crc
  | ack
  deriving DecidableEq, Repr, Inhabited

/-- What a bank holds of one hypothesis at the end of a pass (04 R119, R124): signal, SV, code bin and Doppler bin, each counted from the
lowest of its grid, and the sum of its N_NC squared magnitudes. -/
structure Cell where
  signal : Nat
  sv : Nat
  bin : Nat
  dop : Nat
  sum : Nat
  deriving DecidableEq, Repr, Inhabited

/-- What an accumulation boundary of a lane dumps (05 R166, R171, R173, R176, R179, R191): whether the residues match and, of a mismatch,
whether in the pilot; the loop component's prompt sums of the primary code periods since the last boundary, in order; its early and
late sums; the in-phase sums of the eleven multipath arms; the sums of the array arms by antenna; the data component's prompt sums of
the same periods, where the lane has a pilot. -/
structure Sums where
  residueOk : Bool
  pilot : Bool
  prompts : List (Int × Int)
  early : Int × Int
  late : Int × Int
  arms : List Int
  array : List (Int × Int)
  data : List (Int × Int)
  deriving DecidableEq, Repr, Inhabited

/-- One model of the multipath estimator (05 R177): residual sum of squares, line-of-sight delay in 1/8,192 chip, delay
(1/128 chip) and relative amplitude (1/128) of each reflection, residual below line-of-sight power in 0.5 dB. -/
structure PathFit where
  rss : Nat
  los : Int
  reflections : List (Nat × Int)
  residual : Nat
  deriving DecidableEq, Repr, Inhabited

/-- A broadcast offset (07 R240, 08 R283): 1 UTC, 2 GGTO, 3 BDT–GPST, 4 τ_GPS, 5 QZSST–GPST, 6 NavIC–GPST. The scale less GPS time is `a0` ps
and `a1` in 10⁻¹⁸ from GPS second `ref` on, less the leap seconds `leap`, from GPS second `till` on `leapNext`. -/
structure ScaleOffset where
  code : Nat
  a0 : Int
  a1 : Int
  ref : Nat
  leap : Int
  leapNext : Int
  till : Nat
  deriving DecidableEq, Repr, Inhabited

/-- A navigation unit completed (06 R229–R232): its bits and, for each of its checks, 0 passed, 1 passed after correction, 2
failed; and what it settles: the system time of week, as the millisecond of its second at which the unit begins, an inverted polarity
(none where no known bits show it), an ephemeris with the seconds of its validity, broadcast offsets. -/
structure UnitIn where
  channel : Nat
  lower : Bool
  kind : Nat
  bits : List Bool
  words : List Nat
  symbolErrors : Nat
  dtStart : Nat
  dtEnd : Nat
  tow : Option Nat
  inverted : Option Bool
  ephemeris : Option Nat
  offsets : List ScaleOffset
  deriving DecidableEq, Repr, Inhabited

/-- A satellite at a solution (07 R237, R248, R265): what the solver computes of it. Elevation in degrees, azimuth in 2°, both as a direction
in 0.01°, normalised range residual in 0.01, the whole ambiguity periods of its flight where an earlier solution resolves them. -/
structure SatIn where
  channel : Nat
  elevation : Int
  azimuth : Nat
  dir : Int × Nat
  residual : Int
  whole : Option Nat
  deriving DecidableEq, Repr, Inhabited

/-- A confirmed twin at a solution (07 R251): the channel of the tracked peak, each peak's normalised residual in 0.01 against a solution
without the pair, tracked peak first. -/
structure TwinIn where
  channel : Nat
  residual : Nat × Nat
  deriving DecidableEq, Repr, Inhabited

/-- What the solver computes at a solution point (07 R240–R258) from the satellites used: satellites the residual test
drops and the statistic it leaves (1/256 of its threshold), position (10⁻⁷ degree, mm), velocity (mm/s), GPS time of the
DT in 2⁻³² s, RATE (10⁻¹²), bounds (0.1 m, 0.01 m/s, ps), attitude (0.01°), PDOP (0.01), rms (mm), the single direction of R257 (0.01°), the span
of the directions (degrees). -/
structure SolveIn where
  sats : List SatIn
  twins : List TwinIn
  dropped : List Nat
  statistic : Nat
  lat : Int
  lon : Int
  height : Int
  velE : Int
  velN : Int
  velU : Int
  gps : Nat
  rate : Int
  hpe : Nat
  vpe : Nat
  velBound : Nat
  timeBound : Nat
  heading : Nat
  headingBound : Nat
  pitch : Int
  roll : Int
  pdop : Nat
  rms : Nat
  single : Int × Nat
  deriving DecidableEq, Repr, Inhabited

/-- What a calibration search finds on a port (10 R360): its strongest cell, the noise reference, the strongest cell outside ±1.5 chip of it. -/
structure CalPeak where
  port : Nat
  peak : Nat
  noise : Nat
  second : Nat
  deriving DecidableEq, Repr, Inhabited

/-- What a calibration run measures (10 R360–R363): the interpolated delay of each port in ps, Σ A_a × conj(P_0) of each cluster's channel for
antennas 1–3, D_TP in ps. -/
structure CalIn where
  delays : List Int
  sums : List (List (Int × Int))
  dtp : List Int
  deriving DecidableEq, Repr, Inhabited

/-- The lane bytes of a capture (04 R141): the post-notch samples of the antenna's ports, upper band and lower band. -/
structure CaptureIn where
  upper : List Byte
  lower : List Byte
  deriving DecidableEq, Repr, Inhabited

/-- What takes a lane down (13 R456): the lane, and the code and disparity errors met. -/
structure LaneDrop where
  lane : LaneId
  errors : Nat
  deriving DecidableEq, Repr

/-- The commands and events of the block: one constructor for each row of spec/opcode_table.json. An operand of type `Unit` carries nothing,
and its meaning does not read it (log 18). -/
inductive Instr where
  /-- NOP (R549). -/
  | nop (c : CoreId) (f : BitVec 26)
  /-- LDI (R549). -/
  | ldi (c : CoreId) (f : BitVec 26)
  /-- MOV (R549). -/
  | mov (c : CoreId) (f : BitVec 26)
  /-- LEA (R549). -/
  | lea (c : CoreId) (f : BitVec 26)
  /-- ADD (R549). -/
  | add (c : CoreId) (f : BitVec 26)
  /-- SUB (R549). -/
  | sub (c : CoreId) (f : BitVec 26)
  /-- RSB (R549). -/
  | rsb (c : CoreId) (f : BitVec 26)
  /-- AND (R549). -/
  | and (c : CoreId) (f : BitVec 26)
  /-- OR (R549). -/
  | or (c : CoreId) (f : BitVec 26)
  /-- XOR (R549). -/
  | xor (c : CoreId) (f : BitVec 26)
  /-- SHL (R549). -/
  | shl (c : CoreId) (byReg : Bool) (reg : BitVec 6) (imm : BitVec 16)
  /-- SHR (R549). -/
  | shr (c : CoreId) (byReg : Bool) (reg : BitVec 6) (imm : BitVec 16)
  /-- SAR (R549). -/
  | sar (c : CoreId) (byReg : Bool) (reg : BitVec 6) (imm : BitVec 16)
  /-- ROR (R549). -/
  | ror (c : CoreId) (byReg : Bool) (reg : BitVec 6) (imm : BitVec 16)
  /-- MUL (R519). -/
  | mul (c : CoreId) (f : BitVec 26)
  /-- MULU (R519). -/
  | mulu (c : CoreId) (f : BitVec 26)
  /-- BARE_MUL_PRODUCT_LAND (R519). -/
  | bareMulProductLand (c : CoreId)
  /-- LDW (R550). -/
  | ldw (c : CoreId) (f : BitVec 26)
  /-- LDH (R550). -/
  | ldh (c : CoreId) (f : BitVec 26)
  /-- LDHU (R550). -/
  | ldhu (c : CoreId) (f : BitVec 26)
  /-- LDB (R550). -/
  | ldb (c : CoreId) (f : BitVec 26)
  /-- LDBU (R550). -/
  | ldbu (c : CoreId) (f : BitVec 26)
  /-- STW (R550). -/
  | stw (c : CoreId) (f : BitVec 26)
  /-- STH (R550). -/
  | sth (c : CoreId) (f : BitVec 26)
  /-- STB (R550). -/
  | stb (c : CoreId) (f : BitVec 26)
  /-- PUSH (R520). -/
  | push (c : CoreId) (f : BitVec 26)
  /-- POP (R520). -/
  | pop (c : CoreId) (f : BitVec 26)
  /-- IN (R550). -/
  | inp (c : CoreId) (f : BitVec 26)
  /-- OUT (R550). -/
  | outp (c : CoreId) (f : BitVec 26)
  /-- CBR (R553). -/
  | cbr (c : CoreId) (f : BitVec 26)
  /-- CBI (R553). -/
  | cbi (c : CoreId) (f : BitVec 26)
  /-- BR (R552). -/
  | br (c : CoreId) (f : BitVec 26)
  /-- JMP (R552). -/
  | jmp (c : CoreId) (f : BitVec 26)
  /-- CALL (R521). -/
  | call (c : CoreId) (f : BitVec 26)
  /-- JMPR (R552). -/
  | jmpr (c : CoreId) (reg : BitVec 6) (imm : BitVec 16)
  /-- CALLR (R552). -/
  | callr (c : CoreId) (reg : BitVec 6) (imm : BitVec 16)
  /-- RET (R521). -/
  | ret (c : CoreId) (f : BitVec 26)
  /-- RETT (R535). -/
  | rett (c : CoreId) (f : BitVec 26)
  /-- LOOP (R555). -/
  | loop (c : CoreId) (f : BitVec 26)
  /-- REP (R556). -/
  | rep (c : CoreId) (f : BitVec 26) (next : Word) (intAfter : Option Nat)
  /-- WFE (R529). -/
  | wfe (c : CoreId) (f : BitVec 26)
  /-- WFE_COMPLETE (R529). -/
  | wfeComplete (c : CoreId)
  /-- SEV (R528). -/
  | sev (c : CoreId) (f : BitVec 26)
  /-- WAITT (R530). -/
  | waitt (c : CoreId) (f : BitVec 26)
  /-- WAITT_COMPLETE (R530). -/
  | waittComplete (c : CoreId)
  /-- MFC (R552). -/
  | mfc (c : CoreId) (f : BitVec 26)
  /-- MTC (R552). -/
  | mtc (c : CoreId) (f : BitVec 26)
  /-- INTERRUPT_ENTRY (R537). -/
  | interruptEntry (c : DrumCore)
  /-- AON_DTF_READ (R98). -/
  | aonDtfRead (c : DrumCore) (r : AXY)
  /-- EVT_STAT_READ (R105). -/
  | evtStatRead (c : DrumCore) (r : AXY)
  /-- MBX_CCOUNT_READ (R570). -/
  | mbxCcountRead (c : DrumCore) (r : AXY)
  /-- RING_DROP_READ (R400). -/
  | ringDropRead (c : DrumCore) (n : Fin 16) (r : AXY)
  /-- INTC_CLAIM (R539). -/
  | intcClaim (c : DrumCore) (n : Fin 3) (r : AXY)
  /-- INTC_EOI (R539). -/
  | intcEoi (c : DrumCore) (n : Fin 3) (v : Word)
  /-- UART_RXD_POP (R492). -/
  | uartRxdPop (c : DrumCore) (u : Fin 7) (r : AXY)
  /-- UART_TXD_PUSH (R492). -/
  | uartTxdPush (c : DrumCore) (u : Fin 7) (v : Word)
  /-- UART_FLUSH_RX (R492). -/
  | uartFlushRx (c : DrumCore) (u : Fin 7) (v : Word)
  /-- UART_FLUSH_TX (R492). -/
  | uartFlushTx (c : DrumCore) (u : Fin 7) (v : Word)
  /-- UART_BREAK_SEND (R489). -/
  | uartBreakSend (c : DrumCore) (u : Fin 7) (v : Word)
  /-- RING_PROD_WRITE (R401). -/
  | ringProdWrite (c : DrumCore) (n : Fin 16) (v : Word)
  /-- RING_CONS_WRITE (R401). -/
  | ringConsWrite (c : DrumCore) (n : Fin 16) (v : Word)
  /-- RING_CFG_WRITE (R401). -/
  | ringCfgWrite (c : DrumCore) (n : Fin 16) (v : Word)
  /-- CAN_CFG_WRITE (R501). -/
  | canCfgWrite (c : DrumCore) (m : Fin 2) (v : Word)
  /-- CAN_RXCONS_WRITE (R496). -/
  | canRxconsWrite (c : DrumCore) (m : Fin 2) (v : Word)
  /-- CAN_TXPROD_WRITE (R496). -/
  | canTxprodWrite (c : DrumCore) (m : Fin 2) (v : Word)
  /-- DMA_START (R585). -/
  | dmaStart (c : DrumCore) (n : Fin 16) (v : Word)
  /-- DMA_RESUME (R584). -/
  | dmaResume (c : DrumCore) (n : Fin 16) (v : Word)
  /-- DMA_ABORT (R584). -/
  | dmaAbort (c : DrumCore) (n : Fin 16) (v : Word)
  /-- MMU_INVALIDATE_PAGE (R576). -/
  | mmuInvalidatePage (c : DrumCore) (n : Fin 4) (v : Word)
  /-- MMU_INVALIDATE_ASID (R576). -/
  | mmuInvalidateAsid (c : DrumCore) (n : Fin 4) (v : Word)
  /-- MMU_INVALIDATE_ALL (R576). -/
  | mmuInvalidateAll (c : DrumCore) (n : Fin 4) (v : Word)
  /-- PWR_REQ_RUN (R592). -/
  | pwrReqRun (c : DrumCore) (v : Word)
  /-- PWR_REQ_ENTRY (R592). -/
  | pwrReqEntry (c : DrumCore) (v : Word)
  /-- LTIM_CFG_WRITE (R608). -/
  | ltimCfgWrite (c : DrumCore) (t : Fin 4) (v : Word)
  /-- WDT_KICK (R630). -/
  | wdtKick (c : DrumCore) (n : Fin 3) (v : Word)
  /-- PMON_CLEAR (R636). -/
  | pmonClear (c : DrumCore) (n : Fin 16) (v : Word)
  /-- PMON_VALL_READ (R636). -/
  | pmonVallRead (c : DrumCore) (n : Fin 16) (r : AXY)
  /-- MBX_DOORBELL_OUT (R570). -/
  | mbxDoorbellOut (c : DrumCore) (v : Word)
  /-- REGISTER_WRITE (R6). -/
  | registerWrite (c : DrumCore) (addr : BitVec 16) (v : Word)
  /-- READ_STATUS (R448). -/
  | readStatus (quad : Bool) (n : Nat)
  /-- WRITE_PACKET (R449). -/
  | writePacket (quad : Bool) (bytes : List Byte)
  /-- READ_RING (R450). -/
  | readRing (quad : Bool) (rsel : BitVec 8) (n : Nat)
  /-- READ_CHAIN (R450). -/
  | readChain (quad : Bool) (n : Nat)
  /-- HPORT_UNKNOWN_INSTRUCTION (R447). -/
  | hportUnknownInstruction (code : BitVec 8)
  /-- MALFORMED_TRANSACTION (R387). -/
  | malformedTransaction (t : Txn)
  /-- UNDEFINED_OPCODE (R385). -/
  | undefinedOpcode (t : Txn)
  /-- REPLY_RELEASE (R407). -/
  | replyRelease (q : Fin 4)
  /-- VARNISH_RECORD_OFFER (R334). -/
  | varnishRecordOffer
  /-- MAILBOX_OUTPUT_DELIVERY (R22). -/
  | mailboxOutputDelivery
  /-- MAILBOX_PACKET_TAKE (R18). -/
  | mailboxPacketTake (lenOk : Bool) (crcOk : Bool)
  /-- MAILBOX_COLLISION (R569). -/
  | mailboxCollision (word : BitVec 14) (aLanes : BitVec 4) (bLanes : BitVec 4) (aData : Word) (bData : Word)
  /-- SYS_NOP (R420). -/
  | sysNop (t : Txn)
  /-- SYS_GET_IDENT (R421). -/
  | sysGetIdent (t : Txn)
  /-- SYS_GET_STATUS (R422). -/
  | sysGetStatus (t : Txn)
  /-- SYS_RESET (R423). -/
  | sysReset (t : Txn)
  /-- SYS_ECHO (R420). -/
  | sysEcho (t : Txn)
  /-- PWR_SET_PROFILE (R611). -/
  | pwrSetProfile (t : Txn)
  /-- PROFILE_CHANGE_EFFECT (R27). -/
  | profileChangeEffect
  /-- PWR_GET_STATE (R613). -/
  | pwrGetState (t : Txn)
  /-- PWR_ENTER (R612). -/
  | pwrEnter (t : Txn)
  /-- PWR_SET_WAKE (R614). -/
  | pwrSetWake (t : Txn)
  /-- PWR_GET_WAKE (R614). -/
  | pwrGetWake (t : Txn)
  /-- PWR_SET_TIMER (R615). -/
  | pwrSetTimer (t : Txn)
  /-- PWR_SET_VCORE (R616). -/
  | pwrSetVcore (t : Txn)
  /-- PWR_GET_RLINK (R617). -/
  | pwrGetRlink (t : Txn)
  /-- TIME_GET (R115). -/
  | timeGet (t : Txn)
  /-- TIME_GET_MAP (R116). -/
  | timeGetMap (t : Txn)
  /-- TIME_SET_EVT (R117). -/
  | timeSetEvt (t : Txn)
  /-- TIME_GET_EVT (R117). -/
  | timeGetEvt (t : Txn)
  /-- INPUT_SET_PORT (R76). -/
  | inputSetPort (t : Txn)
  /-- INPUT_GET_PORT (R77). -/
  | inputGetPort (t : Txn)
  /-- INPUT_TRAIN (R78). -/
  | inputTrain (t : Txn)
  /-- INPUT_GET_HISTOGRAM (R79). -/
  | inputGetHistogram (t : Txn)
  /-- INPUT_GET_SPECTRUM (R80). -/
  | inputGetSpectrum (t : Txn)
  /-- SPECTRUM_JOB_COMPLETE (R64). -/
  | spectrumJobComplete (p : Fin 8) (power : List Nat) (_u : Unit := ())
  /-- INPUT_SET_NOTCH (R81). -/
  | inputSetNotch (t : Txn)
  /-- INPUT_GET_NOTCH (R82). -/
  | inputGetNotch (t : Txn)
  /-- INPUT_SET_ARRAY (R83). -/
  | inputSetArray (t : Txn)
  /-- INPUT_GET_ARRAY (R83). -/
  | inputGetArray (t : Txn)
  /-- INPUT_SET_GLOBAL (R84). -/
  | inputSetGlobal (t : Txn)
  /-- INPUT_GET_GLOBAL (R84). -/
  | inputGetGlobal (t : Txn)
  /-- ACQ_SEARCH (R156). -/
  | acqSearch (t : Txn)
  /-- ACQ_ABORT (R157). -/
  | acqAbort (t : Txn)
  /-- ACQ_CAPTURE (R158). -/
  | acqCapture (t : Txn)
  /-- CAPTURE_START (R144). -/
  | captureStart (temp : Int)
  /-- CAPTURE_END (R141). -/
  | captureEnd (data : CaptureIn)
  /-- ACQ_SKETCH_FIX (R159). -/
  | acqSketchFix (t : Txn)
  /-- SKETCH_FIX_COMPLETE (R148). -/
  | sketchFixComplete (sol : SolveIn) (coarse : Int)
  /-- ACQ_GET_STATUS (R160). -/
  | acqGetStatus (t : Txn)
  /-- ACQ_SET_WATCH (R161). -/
  | acqSetWatch (t : Txn)
  /-- ACQ_GET_WATCH (R161). -/
  | acqGetWatch (t : Txn)
  /-- ACQ_LIST_CAPTURES (R162). -/
  | acqListCaptures (t : Txn)
  /-- ACQ_READ_CAPTURE (R163). -/
  | acqReadCapture (t : Txn)
  /-- ACQ_FREE_CAPTURE (R164). -/
  | acqFreeCapture (t : Txn)
  /-- ACQ_SET_SKETCH (R165). -/
  | acqSetSketch (t : Txn)
  /-- ACQ_GET_SKETCH (R165). -/
  | acqGetSketch (t : Txn)
  /-- BANK_PASS_END (R119). -/
  | bankPassEnd (b : Fin 8) (cells : List Cell)
  /-- HANDOVER_QUEUE_TIMEOUT (R135). -/
  | handoverQueueTimeout
  /-- TRK_SET_LOOP (R200). -/
  | trkSetLoop (t : Txn)
  /-- TRK_GET_LOOP (R201). -/
  | trkGetLoop (t : Txn)
  /-- TRK_SET_PALETTE (R202). -/
  | trkSetPalette (t : Txn)
  /-- TRK_GET_PALETTE (R202). -/
  | trkGetPalette (t : Txn)
  /-- TRK_ASSIGN (R203). -/
  | trkAssign (t : Txn)
  /-- TRK_RELEASE (R204). -/
  | trkRelease (t : Txn)
  /-- TRK_GET_CHANNEL (R205). -/
  | trkGetChannel (t : Txn)
  /-- TRK_GET_SUMMARY (R206). -/
  | trkGetSummary (t : Txn)
  /-- TRK_SET_CONFIG (R207). -/
  | trkSetConfig (t : Txn)
  /-- TRK_GET_CONFIG (R207). -/
  | trkGetConfig (t : Txn)
  /-- ACCUMULATION_DUMP (R191). -/
  | accumulationDump (ch : Fin 192) (lower : Bool) (d : Sums)
  /-- SIDE_PEAK_CHECK_END (R175). -/
  | sidePeakCheckEnd (ch : Fin 192) (lower : Bool)
  /-- SELF_CHECK_COMPLETE (R192). -/
  | selfCheckComplete (ch : Fin 192) (pass : Bool)
  /-- LOOP_STATE_CHECKPOINT (R193). -/
  | loopStateCheckpoint
  /-- LOCKSTEP_MISMATCH (R193). -/
  | lockstepMismatch (pair : Fin 5)
  /-- LOOP_PAIR_RESTART_COMPLETE (R193). -/
  | loopPairRestartComplete (pair : Fin 5)
  /-- PULL_IN_TIMEOUT (R185). -/
  | pullInTimeout (ch : Fin 192) (lower : Bool)
  /-- SYNC_TIMEOUT (R185). -/
  | syncTimeout (ch : Fin 192) (lower : Bool)
  /-- LOSS_TIME_EXPIRY (R185). -/
  | lossTimeExpiry (ch : Fin 192) (lower : Bool)
  /-- LOST_COAST_EXPIRY (R185). -/
  | lostCoastExpiry (ch : Fin 192)
  /-- REACQ_TIMEOUT (R185). -/
  | reacqTimeout (ch : Fin 192)
  /-- LOST_LANE_CHECK (R185). -/
  | lostLaneCheck (ch : Fin 192) (lower : Bool) (_u : Unit := ())
  /-- LOST_LANE_REENTRY (R186). -/
  | lostLaneReentry (ch : Fin 192) (lower : Bool)
  /-- MULTIPATH_FIT (R177). -/
  | multipathFit (ch : Fin 192) (lower : Bool) (_u : Unit := ())
  /-- MEASUREMENT_EPOCH (R208). -/
  | measurementEpoch (temp : Int) (units : List UnitIn) (sol : Option SolveIn) (_u : Unit := ())
  /-- SIGNATURE_COMPLETE (R332). -/
  | signatureComplete
  /-- CLAIM_RELEASE (R34). -/
  | claimRelease
  /-- CAL_UNITS_RELEASE (R360). -/
  | calUnitsRelease (peaks : List CalPeak)
  /-- CAL_RUN_COMPLETE (R368). -/
  | calRunComplete (m : CalIn)
  /-- CAL_RETRY_HOLDOFF_EXPIRY (R359). -/
  | calRetryHoldoffExpiry
  /-- ODOMETER_COMMIT (R324). -/
  | odometerCommit
  /-- NAV_SET_CONFIG (R273). -/
  | navSetConfig (t : Txn)
  /-- NAV_GET_CONFIG (R273). -/
  | navGetConfig (t : Txn)
  /-- NAV_SET_PRIOR (R274). -/
  | navSetPrior (t : Txn)
  /-- NAV_SET_TIME (R275). -/
  | navSetTime (t : Txn)
  /-- NAV_LOAD_UNIT (R276). -/
  | navLoadUnit (t : Txn)
  /-- NAV_GET_EPH (R277). -/
  | navGetEph (t : Txn)
  /-- NAV_GET_SOLUTION (R278). -/
  | navGetSolution (t : Txn)
  /-- INTEG_SET_CONFIG (R279). -/
  | integSetConfig (t : Txn)
  /-- INTEG_GET_CONFIG (R279). -/
  | integGetConfig (t : Txn)
  /-- INTEG_GET_STATUS (R280). -/
  | integGetStatus (t : Txn)
  /-- TP_SET (R303). -/
  | tpSet (t : Txn)
  /-- TP_GET (R303). -/
  | tpGet (t : Txn)
  /-- TP_SET_HOLDOVER (R304). -/
  | tpSetHoldover (t : Txn)
  /-- TP_GET_HOLDOVER (R304). -/
  | tpGetHoldover (t : Txn)
  /-- TP_GET_STATE (R305). -/
  | tpGetState (t : Txn)
  /-- TP_PULSE (R287). -/
  | tpPulse (g : Fin 2) (temp : Int) (_u _v : Unit := ())
  /-- TP_LEADING_EDGE (R285). -/
  | tpLeadingEdge (g : Fin 2)
  /-- TP_TRAILING_EDGE (R282). -/
  | tpTrailingEdge (g : Fin 2)
  /-- HOLDOVER_START (R293). -/
  | holdoverStart (rq : Nat)
  /-- HOLDOVER_DT_MAP (R295). -/
  | holdoverDtMap (temp : Int)
  /-- HOLD_LIMIT_REACHED (R296). -/
  | holdLimitReached
  /-- CAL_RUN (R373). -/
  | calRun (t : Txn)
  /-- CAL_GET_STATUS (R374). -/
  | calGetStatus (t : Txn)
  /-- CAL_SET_CONFIG (R375). -/
  | calSetConfig (t : Txn)
  /-- CAL_GET_CONFIG (R375). -/
  | calGetConfig (t : Txn)
  /-- CAL_GET_VALUES (R376). -/
  | calGetValues (t : Txn)
  /-- DOME_GET_IDENT (R347). -/
  | domeGetIdent (t : Txn)
  /-- DOME_GET_CERT (R346). -/
  | domeGetCert (t : Txn)
  /-- DOME_SEAL (R312). -/
  | domeSeal (t : Txn)
  /-- DOME_GET_COUNTERS (R346). -/
  | domeGetCounters (t : Txn)
  /-- DOME_READ_AUDIT (R348). -/
  | domeReadAudit (t : Txn)
  /-- DOME_AUDIT_ACK (R320). -/
  | domeAuditAck (t : Txn)
  /-- DOME_READ_RECORD (R348). -/
  | domeReadRecord (t : Txn)
  /-- DOME_RECORD_ACK (R335). -/
  | domeRecordAck (t : Txn)
  /-- DOME_GET_STORE (R349). -/
  | domeGetStore (t : Txn)
  /-- DOME_GET_ODOMETER (R346). -/
  | domeGetOdometer (t : Txn)
  /-- DOME_SET_ODO_CONFIG (R350). -/
  | domeSetOdoConfig (t : Txn)
  /-- DOME_GET_ODO_CONFIG (R346). -/
  | domeGetOdoConfig (t : Txn)
  /-- DOME_ZONE_LOAD_BEGIN (R351). -/
  | domeZoneLoadBegin (t : Txn)
  /-- DOME_ZONE_LOAD_DATA (R351). -/
  | domeZoneLoadData (t : Txn)
  /-- DOME_ZONE_LOAD_COMMIT (R328). -/
  | domeZoneLoadCommit (t : Txn)
  /-- DOME_ZONE_LOAD_CANCEL (R351). -/
  | domeZoneLoadCancel (t : Txn)
  /-- DOME_ZONE_GET (R346). -/
  | domeZoneGet (t : Txn)
  /-- DOME_MARK (R329). -/
  | domeMark (t : Txn)
  /-- DOME_CHALLENGE (R352). -/
  | domeChallenge (t : Txn)
  /-- DOME_SET_REFCLK (R346). -/
  | domeSetRefclk (t : Txn)
  /-- DOME_FW_LOAD_BEGIN (R343). -/
  | domeFwLoadBegin (t : Txn)
  /-- DOME_FW_LOAD_DATA (R343). -/
  | domeFwLoadData (t : Txn)
  /-- DOME_FW_LOAD_COMMIT (R343). -/
  | domeFwLoadCommit (t : Txn)
  /-- DOME_FW_LOAD_CANCEL (R343). -/
  | domeFwLoadCancel (t : Txn)
  /-- DOME_FW_ACTIVATE (R344). -/
  | domeFwActivate (t : Txn)
  /-- SEAL_LOOP_OPEN (R311). -/
  | sealLoopOpen
  /-- U6_PACKET (R340). -/
  | u6Packet (bytes : List Byte)
  /-- U6_ACTIVE_TIMEOUT (R342). -/
  | u6ActiveTimeout
  /-- OUT_SET_RING (R426). -/
  | outSetRing (t : Txn)
  /-- OUT_GET_RING (R428). -/
  | outGetRing (t : Txn)
  /-- OUT_SET_OUTPUT (R429). -/
  | outSetOutput (t : Txn)
  /-- OUT_GET_OUTPUT (R429). -/
  | outGetOutput (t : Txn)
  /-- OUT_Q15_LOSS_ADD (R430). -/
  | outQ15LossAdd (t : Txn)
  /-- OUT_Q15_LOSS_CLEAR (R430). -/
  | outQ15LossClear (t : Txn)
  /-- MEM_GET_STATUS (R431). -/
  | memGetStatus (t : Txn)
  /-- MEM_TEST_RUN (R432). -/
  | memTestRun (t : Txn)
  /-- MEM_TEST_STOP (R432). -/
  | memTestStop (t : Txn)
  /-- MEM_TEST_BLOCK (R571). -/
  | memTestBlock (marchOk : Bool)
  /-- MEM_SCRUB (R433). -/
  | memScrub (t : Txn)
  /-- MEM_SCRUB_COMPLETE (R433). -/
  | memScrubComplete (target : BitVec 3)
  /-- MEM_NV_READ (R434). -/
  | memNvRead (t : Txn)
  /-- MEM_NV_WRITE (R434). -/
  | memNvWrite (t : Txn)
  /-- MEM_NV_WEAR (R434). -/
  | memNvWear (t : Txn)
  /-- MON_SET_COUNTER (R436). -/
  | monSetCounter (t : Txn)
  /-- MON_GET_COUNTERS (R437). -/
  | monGetCounters (t : Txn)
  /-- MON_GET_REJECTS (R438). -/
  | monGetRejects (t : Txn)
  /-- MON_GET_HEALTH (R439). -/
  | monGetHealth (t : Txn)
  /-- FW_GET_INFO (R440). -/
  | fwGetInfo (t : Txn)
  /-- FW_LOAD_BEGIN (R441). -/
  | fwLoadBegin (t : Txn)
  /-- FW_LOAD_DATA (R441). -/
  | fwLoadData (t : Txn)
  /-- FW_LOAD_COMMIT (R441). -/
  | fwLoadCommit (t : Txn)
  /-- FW_LOAD_CANCEL (R441). -/
  | fwLoadCancel (t : Txn)
  /-- FW_ACTIVATE (R442). -/
  | fwActivate (t : Txn)
  /-- CHAIN_GET_STATUS (R475). -/
  | chainGetStatus (t : Txn)
  /-- CHAIN_ENUMERATE (R476). -/
  | chainEnumerate (t : Txn)
  /-- CHAIN_SET_CONFIG (R477). -/
  | chainSetConfig (t : Txn)
  /-- CHAIN_GET_CONFIG (R477). -/
  | chainGetConfig (t : Txn)
  /-- CHAIN_GET_COUNTERS (R480). -/
  | chainGetCounters (t : Txn)
  /-- CHAIN_WAKE (R478). -/
  | chainWake (t : Txn)
  /-- SERIAL_SET_UART (R503). -/
  | serialSetUart (t : Txn)
  /-- SERIAL_GET_UART (R504). -/
  | serialGetUart (t : Txn)
  /-- SERIAL_SEND_BREAK (R505). -/
  | serialSendBreak (t : Txn)
  /-- SERIAL_SET_CAN (R506). -/
  | serialSetCan (t : Txn)
  /-- SERIAL_GET_CAN (R507). -/
  | serialGetCan (t : Txn)
  /-- SERIAL_GET_COUNTERS (R508). -/
  | serialGetCounters (t : Txn)
  /-- AGC_WINDOW (R58). -/
  | agcWindow (p : Fin 8) (ci cq : List Nat)
  /-- FRM_FRAME (R47). -/
  | frmFrame
  /-- LINE_DETECTOR_UPDATE (R67). -/
  | lineDetectorUpdate (p : Fin 8) (lines own : List (Int × Int))
  /-- NOISE_FLOOR_UPDATE (R70). -/
  | noiseFloorUpdate
  /-- EYE_TRACK_UPDATE (R52). -/
  | eyeTrackUpdate (p : Fin 8) (correction : Int) (edgeBytes : Nat)
  /-- FE_START_DELAY_EXPIRY (R49). -/
  | feStartDelayExpiry
  /-- TRAINING_MARKER (R51). -/
  | trainingMarker (p : Fin 8) (good : BitVec 64)
  /-- TRAINING_VERIFY_END (R49). -/
  | trainingVerifyEnd (p : Fin 8) (ok : Bool)
  /-- TRAINING_ATTEMPT_TIMEOUT (R50). -/
  | trainingAttemptTimeout (p : Fin 8)
  /-- EVT_EDGE (R106). -/
  | evtEdge (n : Fin 4) (level : Bool) (interp : Fin 64)
  /-- UART_CHARACTER_RECEIVED (R487). -/
  | uartCharacterReceived (u : Fin 8) (ch : UartChar)
  /-- UART_BREAK_RECEIVED (R488). -/
  | uartBreakReceived (u : Fin 8) (_u : Unit := ())
  /-- UART_CHARACTER_SENT (R485). -/
  | uartCharacterSent (u : Fin 8)
  /-- UART_BREAK_SENT (R489). -/
  | uartBreakSent (u : Fin 8)
  /-- UART_WAKE_EDGE (R491). -/
  | uartWakeEdge (u : Fin 8)
  /-- CAN_FRAME_RECEIVED (R497). -/
  | canFrameReceived (m : Fin 2) (f : CanFrame) (sof : Nat)
  /-- CAN_FRAME_SENT (R497). -/
  | canFrameSent (m : Fin 2) (sof : Nat)
  /-- CAN_ARBITRATION_LOSS (R498). -/
  | canArbitrationLoss (m : Fin 2)
  /-- CAN_BUS_ERROR (R499). -/
  | canBusError (m : Fin 2) (kind : CanError) (tx : Bool) (large : Bool)
  /-- CAN_BUS_OFF_RECOVERY (R499). -/
  | canBusOffRecovery (m : Fin 2)
  /-- CAN_WAKE_EDGE (R500). -/
  | canWakeEdge (m : Fin 2)
  /-- DMA_BURST (R582). -/
  | dmaBurst
  /-- TIMER_EXPIRY (R541). -/
  | timerExpiry (t : Fin 4)
  /-- PMON_OVERFLOW (R637). -/
  | pmonOverflow (n : Fin 16)
  /-- LANTERN_TIMER_EXPIRY (R600). -/
  | lanternTimerExpiry (t : Fin 4)
  /-- LINK_UP (R456). -/
  | linkUp (l : LaneId)
  /-- LINK_DOWN (R456). -/
  | linkDown (d : LaneDrop)
  /-- DOWN (R461). -/
  | down (f : RxFrame)
  /-- UP (R463). -/
  | up (f : RxFrame)
  /-- ALIGN_REQ (R469). -/
  | alignReq (f : RxFrame) (t2 : Stamp) (t3 : Stamp)
  /-- ALIGN_RSP (R469). -/
  | alignRsp (f : RxFrame) (t4 : Stamp)
  /-- ALIGN_FUP (R470). -/
  | alignFup (f : RxFrame)
  /-- ALIGN_EXCHANGE_DUE (R469). -/
  | alignExchangeDue (t1 : Stamp)
  /-- ALIGN_EXCHANGE_VOID (R469). -/
  | alignExchangeVoid
  /-- UNALIGNED_TIMEOUT (R111). -/
  | unalignedTimeout
  /-- ENUM (R467). -/
  | enum (f : RxFrame)
  /-- ENUM_END (R468). -/
  | enumEnd (f : RxFrame)
  /-- ENUM_REQ (R466). -/
  | enumReq (f : RxFrame)
  /-- ENUMERATION_TIMEOUT (R468). -/
  | enumerationTimeout
  /-- LINK_SLEEP (R457). -/
  | linkSleep (l : LaneId) (f : RxFrame)
  /-- RESERVED_FRAME (R458). -/
  | reservedFrame (l : LaneId) (f : RxFrame)
  /-- ACK (R460). -/
  | ack (l : LaneId) (n : Fin 256)
  /-- NAK (R460). -/
  | nak (l : LaneId) (n : Fin 256)
  /-- CREDIT (R460). -/
  | credit (l : LaneId) (k : Fin 256)
  /-- REPLAY_TIMEOUT (R460). -/
  | replayTimeout (l : LaneId)
  /-- UNIT_ABANDON (R459). -/
  | unitAbandon (l : LaneId)
  /-- DOWN_HOLD_EXPIRY (R462). -/
  | downHoldExpiry
  /-- UNIT_BOUNDARY_ARBITRATION (R463). -/
  | unitBoundaryArbitration
  /-- HEAD_TIMEOUT (R444). -/
  | headTimeout
  /-- KAKEL_WAKE_ACTIVITY (R471). -/
  | kakelWakeActivity (l : LaneId)
  /-- HPORT_WAKE_EDGE (R452). -/
  | hportWakeEdge
  /-- WAKE_PIN (R599). -/
  | wakePin (high : Bool)
  /-- ENTRY_GRANT (R593). -/
  | entryGrant (p : Fin 9)
  /-- ENTRY_REFUSE (R594). -/
  | entryRefuse (p : Fin 9)
  /-- ENTRY_DELAY (R593). -/
  | entryDelay (p : Fin 9) (bound : Nat)
  /-- ENTRY_DELAY_EXPIRY (R593). -/
  | entryDelayExpiry (p : Fin 9)
  /-- ENTRY_NO_ANSWER (R594). -/
  | entryNoAnswer (p : Fin 9)
  /-- ENTRY_DELAY_LIMIT (R594). -/
  | entryDelayLimit
  /-- ENTRY_S0 (R595). -/
  | entryS0
  /-- ISOLATION_END (R595). -/
  | isolationEnd
  /-- RLINK_ACK (R604). -/
  | rlinkAck (status : Option (BitVec 16)) (canary : List (Nat × Nat × Nat))
  /-- RLINK_POLL (R604). -/
  | rlinkPoll (status : BitVec 16)
  /-- RLINK_NACK (R604). -/
  | rlinkNack
  /-- RLINK_ATTEMPT_TIMEOUT (R604). -/
  | rlinkAttemptTimeout
  /-- RLINK_RETRY (R601). -/
  | rlinkRetry
  /-- FRONT_PLL_LOCK (R601). -/
  | frontPllLock
  /-- HANDOVER (R94). -/
  | handover
  /-- REFCLK_LOST (R87). -/
  | refclkLost (_u : Unit := ())
  /-- REFCLK_REGAINED (R87). -/
  | refclkRegained
  /-- POWER_FAIL_WARNING (R338). -/
  | powerFailWarning (sig : Option Bool)
  /-- VIN_RESTORE (R647). -/
  | vinRestore
  /-- VIN_LOSS (R647). -/
  | vinLoss
  /-- COLD_START (R622). -/
  | coldStart (wakeFromOff : Bool) (pfLatched : Bool)
  /-- STAGE1_RETRY (R622). -/
  | stage1Retry
  /-- IMAGE_CHECK_COMPLETE (R623). -/
  | imageCheckComplete (dome : Bool) (ok : Bool) (reason : Nat)
  /-- STARTUP_COMPLETE (R627). -/
  | startupComplete
  /-- EARLY_DOMAIN_RETRY (R627). -/
  | earlyDomainRetry
  /-- PIN_RESET (R618). -/
  | pinReset
  /-- DOME_RESET (R629). -/
  | domeReset
  /-- DRUM_RESET (R628). -/
  | drumReset
  /-- DOME_WDT_EXPIRY (R631). -/
  | domeWdtExpiry
  /-- DRUM_WDT_EXPIRY (R630). -/
  | drumWdtExpiry
  /-- CORE_WDT_EXPIRY (R630). -/
  | coreWdtExpiry (n : Fin 3)
  /-- SEAL_LOOP_CLOSED (R310). -/
  | sealLoopClosed
  /-- SYMBOL_LOCK (R456). -/
  | symbolLock (l : LaneId)
  /-- UART_START_EDGE (R486). -/
  | uartStartEdge (u : Fin 8) (samples : List Bool)
  /-- CAN_BUS_JOIN (R500). -/
  | canBusJoin (m : Fin 2)
  /-- U6_IDLE_LINE_BOUNDARY (R340). -/
  | u6IdleLineBoundary
  /-- RLINK_TRANSACTION_END (R603). -/
  | rlinkTransactionEnd (voutMode : Option (BitVec 8))
  /-- SRAM_CLEAR_COMPLETE (R565). -/
  | sramClearComplete
  /-- DOMAIN_POWER_UP_COMPLETE (R589). -/
  | domainPowerUpComplete (d : Fin 10) (pass : Bool)
  /-- CLUSTER_SELF_TEST_COMPLETE (R627). -/
  | clusterSelfTestComplete (cl : Fin 4) (pass : Bool)
  /-- LOAD_COMMIT_CHECK_END (R343). -/
  | loadCommitCheckEnd (which : Fin 3) (sigOk : Bool) (imageOk : Bool)
  deriving DecidableEq, Repr

end Sys2Proof
end

