-- ==== Sys2Proof/WellFormed.lean ====
section
/-! DEFINITION. Well-formed commands: operands of the sizes that the spec gives them. -/

namespace Sys2Proof

/-- A transaction is whole slots of 64 bytes, at least one and at most 64 (11 R379, R387). -/
def Txn.ok (t : Txn) : Bool := t.bytes.length % 64 == 0 && decide (64 ≤ t.bytes.length) && decide (t.bytes.length ≤ 4096)

/-- A frame's header fields and its segment of at most 1,024 bytes (13 R458). -/
def Frame.ok (f : Frame) : Bool :=
  decide (f.ftype < 16) && decide (f.dev < 256) && decide (f.ring < 256) && decide (f.seg.length ≤ 1024)

def RxFrame.ok (f : RxFrame) : Bool := f.frame.ok && decide (f.hseq < 256)

/-- An INTERP field counts 64ths of a tick (03 R106). -/
def Stamp.ok (t : Stamp) : Bool := decide (t.dt < 2 ^ 64) && decide (t.interp < 64)

def CanFrame.ok (f : CanFrame) : Bool := decide (f.data.length ≤ 64)

/-- The widest grid has 40,920 code bins (04 R122, R124). -/
def Cell.ok (c : Cell) : Bool := decide (c.bin < 40920)

/-- Prompt sums of at most 100 ms, eleven multipath arms and four array arms, or none. -/
def Sums.ok (d : Sums) : Bool :=
  decide (d.prompts.length ≤ 100) && decide (d.data.length ≤ 100) && (d.arms.isEmpty || d.arms.length == 11) &&
    (d.array.isEmpty || d.array.length == 4)

def UnitIn.ok (u : UnitIn) : Bool := decide (u.channel < 192) && decide (u.dtStart ≤ u.dtEnd)

def SolveIn.ok (i : SolveIn) : Bool :=
  i.sats.all (fun s => decide (s.channel < 192) && decide (s.azimuth < 180)) && i.twins.all (fun t => decide (t.channel < 192))

/-- Eight ports, four clusters of three antennas, two generators (10 R363). -/
def CalIn.ok (m : CalIn) : Bool :=
  m.delays.length == 8 && m.sums.length == 4 && m.sums.all (·.length == 3) && m.dtp.length == 2

/-- Whether a command's operands have the sizes that the spec gives them. -/
def Instr.wf : Instr → Bool
  | .nop _ _ => true
  | .ldi _ _ => true
  | .mov _ _ => true
  | .lea _ _ => true
  | .add _ _ => true
  | .sub _ _ => true
  | .rsb _ _ => true
  | .and _ _ => true
  | .or _ _ => true
  | .xor _ _ => true
  | .shl _ _ _ _ => true
  | .shr _ _ _ _ => true
  | .sar _ _ _ _ => true
  | .ror _ _ _ _ => true
  | .mul _ _ => true
  | .mulu _ _ => true
  | .bareMulProductLand _ => true
  | .ldw _ _ => true
  | .ldh _ _ => true
  | .ldhu _ _ => true
  | .ldb _ _ => true
  | .ldbu _ _ => true
  | .stw _ _ => true
  | .sth _ _ => true
  | .stb _ _ => true
  | .push _ _ => true
  | .pop _ _ => true
  | .inp _ _ => true
  | .outp _ _ => true
  | .cbr _ _ => true
  | .cbi _ _ => true
  | .br _ _ => true
  | .jmp _ _ => true
  | .call _ _ => true
  | .jmpr _ _ _ => true
  | .callr _ _ _ => true
  | .ret _ _ => true
  | .rett _ _ => true
  | .loop _ _ => true
  | .rep _ _ _ _ => true
  | .wfe _ _ => true
  | .wfeComplete _ => true
  | .sev _ _ => true
  | .waitt _ _ => true
  | .waittComplete _ => true
  | .mfc _ _ => true
  | .mtc _ _ => true
  | .interruptEntry _ => true
  | .aonDtfRead _ _ => true
  | .evtStatRead _ _ => true
  | .mbxCcountRead _ _ => true
  | .ringDropRead _ _ _ => true
  | .intcClaim _ _ _ => true
  | .intcEoi _ _ _ => true
  | .uartRxdPop _ _ _ => true
  | .uartTxdPush _ _ _ => true
  | .uartFlushRx _ _ _ => true
  | .uartFlushTx _ _ _ => true
  | .uartBreakSend _ _ _ => true
  | .ringProdWrite _ _ _ => true
  | .ringConsWrite _ _ _ => true
  | .ringCfgWrite _ _ _ => true
  | .canCfgWrite _ _ _ => true
  | .canRxconsWrite _ _ _ => true
  | .canTxprodWrite _ _ _ => true
  | .dmaStart _ _ _ => true
  | .dmaResume _ _ _ => true
  | .dmaAbort _ _ _ => true
  | .mmuInvalidatePage _ _ _ => true
  | .mmuInvalidateAsid _ _ _ => true
  | .mmuInvalidateAll _ _ _ => true
  | .pwrReqRun _ _ => true
  | .pwrReqEntry _ _ => true
  | .ltimCfgWrite _ _ _ => true
  | .wdtKick _ _ _ => true
  | .pmonClear _ _ _ => true
  | .pmonVallRead _ _ _ => true
  | .mbxDoorbellOut _ _ => true
  | .registerWrite _ _ _ => true
  | .readStatus _ _ => true
  | .writePacket _ bytes => decide (bytes.length ≤ 4096)
  | .readRing _ _ _ => true
  | .readChain _ _ => true
  | .hportUnknownInstruction _ => true
  | .malformedTransaction t => t.ok
  | .undefinedOpcode t => t.ok
  | .replyRelease _ => true
  | .varnishRecordOffer => true
  | .mailboxOutputDelivery => true
  | .mailboxPacketTake _ _ => true
  | .mailboxCollision _ _ _ _ _ => true
  | .sysNop t => t.ok
  | .sysGetIdent t => t.ok
  | .sysGetStatus t => t.ok
  | .sysReset t => t.ok
  | .sysEcho t => t.ok
  | .pwrSetProfile t => t.ok
  | .profileChangeEffect => true
  | .pwrGetState t => t.ok
  | .pwrEnter t => t.ok
  | .pwrSetWake t => t.ok
  | .pwrGetWake t => t.ok
  | .pwrSetTimer t => t.ok
  | .pwrSetVcore t => t.ok
  | .pwrGetRlink t => t.ok
  | .timeGet t => t.ok
  | .timeGetMap t => t.ok
  | .timeSetEvt t => t.ok
  | .timeGetEvt t => t.ok
  | .inputSetPort t => t.ok
  | .inputGetPort t => t.ok
  | .inputTrain t => t.ok
  | .inputGetHistogram t => t.ok
  | .inputGetSpectrum t => t.ok
  | .spectrumJobComplete _ power _ => power.length == 1024
  | .inputSetNotch t => t.ok
  | .inputGetNotch t => t.ok
  | .inputSetArray t => t.ok
  | .inputGetArray t => t.ok
  | .inputSetGlobal t => t.ok
  | .inputGetGlobal t => t.ok
  | .acqSearch t => t.ok
  | .acqAbort t => t.ok
  | .acqCapture t => t.ok
  | .captureStart _ => true
  | .captureEnd _ => true
  | .acqSketchFix t => t.ok
  | .sketchFixComplete sol _ => sol.ok
  | .acqGetStatus t => t.ok
  | .acqSetWatch t => t.ok
  | .acqGetWatch t => t.ok
  | .acqListCaptures t => t.ok
  | .acqReadCapture t => t.ok
  | .acqFreeCapture t => t.ok
  | .acqSetSketch t => t.ok
  | .acqGetSketch t => t.ok
  | .bankPassEnd _ cells => cells.all Cell.ok
  | .handoverQueueTimeout => true
  | .trkSetLoop t => t.ok
  | .trkGetLoop t => t.ok
  | .trkSetPalette t => t.ok
  | .trkGetPalette t => t.ok
  | .trkAssign t => t.ok
  | .trkRelease t => t.ok
  | .trkGetChannel t => t.ok
  | .trkGetSummary t => t.ok
  | .trkSetConfig t => t.ok
  | .trkGetConfig t => t.ok
  | .accumulationDump _ _ d => d.ok
  | .sidePeakCheckEnd _ _ => true
  | .selfCheckComplete _ _ => true
  | .loopStateCheckpoint => true
  | .lockstepMismatch _ => true
  | .loopPairRestartComplete _ => true
  | .pullInTimeout _ _ => true
  | .syncTimeout _ _ => true
  | .lossTimeExpiry _ _ => true
  | .lostCoastExpiry _ => true
  | .reacqTimeout _ => true
  | .lostLaneCheck _ _ _ => true
  | .lostLaneReentry _ _ => true
  | .multipathFit _ _ _ => true
  | .measurementEpoch _ units sol _ => units.all UnitIn.ok && sol.all SolveIn.ok
  | .signatureComplete => true
  | .claimRelease => true
  | .calUnitsRelease peaks => peaks.all fun k => decide (k.port < 8) && decide (k.noise > 0)
  | .calRunComplete m => m.ok
  | .calRetryHoldoffExpiry => true
  | .odometerCommit => true
  | .navSetConfig t => t.ok
  | .navGetConfig t => t.ok
  | .navSetPrior t => t.ok
  | .navSetTime t => t.ok
  | .navLoadUnit t => t.ok
  | .navGetEph t => t.ok
  | .navGetSolution t => t.ok
  | .integSetConfig t => t.ok
  | .integGetConfig t => t.ok
  | .integGetStatus t => t.ok
  | .tpSet t => t.ok
  | .tpGet t => t.ok
  | .tpSetHoldover t => t.ok
  | .tpGetHoldover t => t.ok
  | .tpGetState t => t.ok
  | .tpPulse _ _ _ _ => true
  | .tpLeadingEdge _ => true
  | .tpTrailingEdge _ => true
  | .holdoverStart _ => true
  | .holdoverDtMap _ => true
  | .holdLimitReached => true
  | .calRun t => t.ok
  | .calGetStatus t => t.ok
  | .calSetConfig t => t.ok
  | .calGetConfig t => t.ok
  | .calGetValues t => t.ok
  | .domeGetIdent t => t.ok
  | .domeGetCert t => t.ok
  | .domeSeal t => t.ok
  | .domeGetCounters t => t.ok
  | .domeReadAudit t => t.ok
  | .domeAuditAck t => t.ok
  | .domeReadRecord t => t.ok
  | .domeRecordAck t => t.ok
  | .domeGetStore t => t.ok
  | .domeGetOdometer t => t.ok
  | .domeSetOdoConfig t => t.ok
  | .domeGetOdoConfig t => t.ok
  | .domeZoneLoadBegin t => t.ok
  | .domeZoneLoadData t => t.ok
  | .domeZoneLoadCommit t => t.ok
  | .domeZoneLoadCancel t => t.ok
  | .domeZoneGet t => t.ok
  | .domeMark t => t.ok
  | .domeChallenge t => t.ok
  | .domeSetRefclk t => t.ok
  | .domeFwLoadBegin t => t.ok
  | .domeFwLoadData t => t.ok
  | .domeFwLoadCommit t => t.ok
  | .domeFwLoadCancel t => t.ok
  | .domeFwActivate t => t.ok
  | .sealLoopOpen => true
  | .u6Packet _ => true
  | .u6ActiveTimeout => true
  | .outSetRing t => t.ok
  | .outGetRing t => t.ok
  | .outSetOutput t => t.ok
  | .outGetOutput t => t.ok
  | .outQ15LossAdd t => t.ok
  | .outQ15LossClear t => t.ok
  | .memGetStatus t => t.ok
  | .memTestRun t => t.ok
  | .memTestStop t => t.ok
  | .memTestBlock _ => true
  | .memScrub t => t.ok
  | .memScrubComplete _ => true
  | .memNvRead t => t.ok
  | .memNvWrite t => t.ok
  | .memNvWear t => t.ok
  | .monSetCounter t => t.ok
  | .monGetCounters t => t.ok
  | .monGetRejects t => t.ok
  | .monGetHealth t => t.ok
  | .fwGetInfo t => t.ok
  | .fwLoadBegin t => t.ok
  | .fwLoadData t => t.ok
  | .fwLoadCommit t => t.ok
  | .fwLoadCancel t => t.ok
  | .fwActivate t => t.ok
  | .chainGetStatus t => t.ok
  | .chainEnumerate t => t.ok
  | .chainSetConfig t => t.ok
  | .chainGetConfig t => t.ok
  | .chainGetCounters t => t.ok
  | .chainWake t => t.ok
  | .serialSetUart t => t.ok
  | .serialGetUart t => t.ok
  | .serialSendBreak t => t.ok
  | .serialSetCan t => t.ok
  | .serialGetCan t => t.ok
  | .serialGetCounters t => t.ok
  | .agcWindow _ ci cq => ci.length == 16 && cq.length == 16 && ci.sum == cq.sum
  | .frmFrame => true
  | .lineDetectorUpdate _ _ _ => true
  | .noiseFloorUpdate => true
  | .eyeTrackUpdate _ _ _ => true
  | .feStartDelayExpiry => true
  | .trainingMarker _ _ => true
  | .trainingVerifyEnd _ _ => true
  | .trainingAttemptTimeout _ => true
  | .evtEdge _ _ _ => true
  | .uartCharacterReceived _ _ => true
  | .uartBreakReceived _ _ => true
  | .uartCharacterSent _ => true
  | .uartBreakSent _ => true
  | .uartWakeEdge _ => true
  | .canFrameReceived _ f _ => f.ok
  | .canFrameSent _ _ => true
  | .canArbitrationLoss _ => true
  | .canBusError _ _ _ _ => true
  | .canBusOffRecovery _ => true
  | .canWakeEdge _ => true
  | .dmaBurst => true
  | .timerExpiry _ => true
  | .pmonOverflow _ => true
  | .lanternTimerExpiry _ => true
  | .linkUp _ => true
  | .linkDown _ => true
  | .down f => f.ok
  | .up f => f.ok
  | .alignReq f t2 t3 => f.ok && t2.ok && t3.ok
  | .alignRsp f t4 => f.ok && t4.ok
  | .alignFup f => f.ok
  | .alignExchangeDue t1 => t1.ok
  | .alignExchangeVoid => true
  | .unalignedTimeout => true
  | .enum f => f.ok
  | .enumEnd f => f.ok
  | .enumReq f => f.ok
  | .enumerationTimeout => true
  | .linkSleep _ f => f.ok
  | .reservedFrame _ f => f.ok
  | .ack _ _ => true
  | .nak _ _ => true
  | .credit _ _ => true
  | .replayTimeout _ => true
  | .unitAbandon _ => true
  | .downHoldExpiry => true
  | .unitBoundaryArbitration => true
  | .headTimeout => true
  | .kakelWakeActivity _ => true
  | .hportWakeEdge => true
  | .wakePin _ => true
  | .entryGrant _ => true
  | .entryRefuse _ => true
  | .entryDelay _ bound => decide (1 ≤ bound) && decide (bound ≤ 255)
  | .entryDelayExpiry _ => true
  | .entryNoAnswer _ => true
  | .entryDelayLimit => true
  | .entryS0 => true
  | .isolationEnd => true
  | .rlinkAck _ canary => canary.all fun b => decide (b.1 ≤ 5) && decide (0 < b.2.2)
  | .rlinkPoll _ => true
  | .rlinkNack => true
  | .rlinkAttemptTimeout => true
  | .rlinkRetry => true
  | .frontPllLock => true
  | .handover => true
  | .refclkLost _ => true
  | .refclkRegained => true
  | .powerFailWarning _ => true
  | .vinRestore => true
  | .vinLoss => true
  | .coldStart _ _ => true
  | .stage1Retry => true
  | .imageCheckComplete _ _ reason => decide (reason < 256)
  | .startupComplete => true
  | .earlyDomainRetry => true
  | .pinReset => true
  | .domeReset => true
  | .drumReset => true
  | .domeWdtExpiry => true
  | .drumWdtExpiry => true
  | .coreWdtExpiry _ => true
  | .sealLoopClosed => true
  | .symbolLock _ => true
  | .uartStartEdge _ _ => true
  | .canBusJoin _ => true
  | .u6IdleLineBoundary => true
  | .rlinkTransactionEnd _ => true
  | .sramClearComplete => true
  | .domainPowerUpComplete _ _ => true
  | .clusterSelfTestComplete _ _ => true
  | .loadCommitCheckEnd _ _ _ => true

/-- The command is well formed. -/
abbrev WellFormed (i : Instr) : Prop := i.wf = true

end Sys2Proof
end

