-- ==== Sys2Proof/Config.lean ====
section
/-! DEFINITION. What an implementation fixes, and the values the spec leaves open. Every constant without a body is a
free value: nothing can be proved about what it is. -/

namespace Sys2Proof

/-- SYS_IDENT at module revision B0 (20 R633). -/
def Config.sysIdent : Word := 0x5A319220

/-- Free values drawn by the model's counter `State.free` (DESIGN CHOICE, log 2). -/
opaque Config.freeNat : Nat → Nat
opaque Config.freeByte : Nat → Byte

/-- Contents of the boot ROM, by word index (17 R559): the spec gives none (DESIGN CHOICE, log 3). -/
opaque Config.bootRom : Nat → Word

/-- Fused column repair of this module (17 R563, DESIGN CHOICE, log 4). -/
opaque Config.drumSpare : BitVec 32
opaque Config.drumExcess : BitVec 32
opaque Config.domeSpare : BitVec 16
opaque Config.domeExcess : BitVec 16

/-- DEVICE_SERIAL (09 R307) and the DER certificate (DESIGN CHOICE, log 4). -/
opaque Config.serial : Nat
opaque Config.certificate : List Byte

/-- Bytes of output records that the Dome's part of the mailbox holds (01 R17, R22; DESIGN CHOICE, log 5). -/
opaque Config.mailboxBytes : Nat

/-- The TLB entry that pseudo-LRU replacement gives up, by draw (17 R575; DESIGN CHOICE, log 6). -/
opaque Config.tlbVictim : Nat → Nat

/-- Whether a quotient that is not whole is rounded up where the spec gives no rounding (DESIGN CHOICE, log 7). -/
opaque Config.roundsUp : Int → Nat → Bool

/-- The 64 signature bytes, r then s, by draw and digest (09 R332): a P-256 signature needs the device's private key
and a secret number (DESIGN CHOICE, log 8). -/
opaque Config.signature : Nat → List Byte → List Byte

/-- Real-valued results whose rounding the spec does not give, as functions of their operands (DESIGN CHOICE, log 9): the horizontal
speed √(VEL_E² + VEL_N²) in mm/s (09 R322), the geodesic distance on WGS-84 in mm (R323), the distance to the nearest
edge of a polygon in mm (R326), the place at which a segment meets the edge as a fraction of 2³² (R327). -/
opaque Config.hspeed : Int → Int → Nat
opaque Config.geodesic : Int → Int → Int → Int → Nat
opaque Config.edgeDistance : Int → Int → List (Int × Int) → Nat
opaque Config.crossFraction : Int × Int → Int × Int → List (Int × Int) → Nat

/-- Version and rollback level of a Dome image: its format is private (09 R343; DESIGN CHOICE, log 24). -/
opaque Config.domeImageVersion : List Byte → Nat
opaque Config.domeImageRollback : List Byte → Nat

/-- Elevation in degrees that the Dome predicts for a satellite from almanac or ephemeris, by draw, prior position, signal and SV
(04 R125, R146; DESIGN CHOICE, log 49): almanac and orbit computation are not in the spec. -/
opaque Config.predictedElevation : Nat → Int × Int × Int → Nat → Nat → Int

/-- Doppler in mHz and code phase in 1/1,024 chip that the Dome predicts for a satellite, by draw, prior position, signal and SV (04 R125, R147;
DESIGN CHOICE, log 49). -/
opaque Config.predictedDoppler : Nat → Int × Int × Int → Nat → Nat → Int
opaque Config.predictedCode : Nat → Int × Int × Int → Nat → Nat → Nat

/-- Cosine of an elevation in degrees, in 10⁻⁶ (07 R248; DESIGN CHOICE, log 9). -/
opaque Config.cosine : Int → Int

/-- What the check of a loaded navigation unit gives (07 R276): its VERDICT of R231 (modulo 4), the seconds for which an
ephemeris that it completes is valid, the broadcast offsets that it carries (DESIGN CHOICE, log 50): the checks and the contents of units
are those of the signals' published specifications. -/
opaque Config.loadedVerdict : List Byte → Nat
opaque Config.loadedEphemeris : List Byte → Option Nat
opaque Config.loadedOffsets : List Byte → List ScaleOffset

/-- Chips of the secondary and overlay codes by signal, SV, component (the pilot's or not) and place, `true` the inverting chip (05 R167;
DESIGN CHOICE, log 56): they are those of the signals' published specifications. -/
opaque Config.secondaryChip : Nat → Nat → Bool → Nat → Bool

/-- Place of an 1,800-chip overlay predicted from GNSS time (2⁻³² s), prior position, signal and SV (05 R172; DESIGN CHOICE, log 56). -/
opaque Config.predictedOverlay : Nat → Int × Int × Int → Nat → Nat → Nat

/-- atan2 of two sums in 2⁻¹⁶ cycle, −2¹⁵ to 2¹⁵ (05 R181, 07 R253; DESIGN CHOICE, log 9). -/
opaque Config.angle : Int → Int → Int

/-- Chips, in 2⁻¹⁶, for a full early-minus-late discriminator of a signal class at spacing d (05 R181; DESIGN CHOICE, log 56); the
discriminator where both magnitudes are 0, in 2⁻¹⁶. -/
opaque Config.codeSlope : Nat → Nat → Int
opaque Config.openRatio : Int

/-- Coefficients of the loop filters in 2⁻³², by input and place (0 phase to frequency output, 1 phase to frequency state, 2 phase to rate state,
3 FLL to frequency state, 4 FLL to rate state, 5 code error to output, 6 code error to code state), order, bandwidth in 10⁻⁶ Hz and
period in ms (05 R181; DESIGN CHOICE, log 56). -/
opaque Config.loopGain : Nat → Nat → Nat → Nat → Int

/-- The least-squares models of one, two and three paths for eleven averages at their offsets, of a signal, within R177's constraints
(05 R177; DESIGN CHOICE, log 56). -/
opaque Config.pathFits : Nat → List Int → List Int → List PathFit

/-- Group delay in ps and phase delay in 2⁻¹⁶ cycle of an engaged notch at an offset in Hz from its centre, for its width in Hz (02 R57; DESIGN CHOICE,
log 56). -/
opaque Config.notchDelay : Int → Nat → Int
opaque Config.notchPhase : Int → Nat → Int

/-- What published specifications give of a satellite from its navigation data (07 R238, R239; DESIGN CHOICE, log 57): the broadcast group
delay of a signal in ps; clock and relativistic clock term in ps and place in mm at a transmit time in 2⁻³² s; the ionosphere's delay in mm at
a carrier (0: the GPS model at 1,575.42 MHz) by the system's data, direction, position and time. -/
opaque Config.groupDelay : Nat → List (List Byte) → Int
opaque Config.satelliteClock : List (List Byte) → Int → Int
opaque Config.relativity : List (List Byte) → Int → Int
opaque Config.orbit : List (List Byte) → Int → Int × Int × Int
opaque Config.ionosphere : Nat → List (List Byte) → Int × Nat → Int × Int × Int → Int → Int

/-- A place turned with the Earth over a flight time in 2⁻³² s (07 R239; DESIGN CHOICE, log 57). -/
opaque Config.earthTurned : Int × Int × Int → Int → Int × Int × Int

/-- Saastamoinen zenith delays in mm at a height, and Niell mapping functions in 10⁻⁶ at a latitude, height and elevation (07 R239; DESIGN
CHOICE, log 57). -/
opaque Config.zenithDry : Int → Int
opaque Config.zenithWet : Int → Int
opaque Config.niellDry : Int → Int → Int → Int
opaque Config.niellWet : Int → Int → Int

/-- (sin el)² × 10^((C/N0 − 45)/10) in 10⁻⁶ (07 R240; DESIGN CHOICE, log 9). -/
opaque Config.rangeWeight : Int → Nat → Nat

/-- The part in 2⁻³² by which an average of time constant 100 s follows over a span of DT (07 R247; DESIGN CHOICE, log 9). -/
opaque Config.decay : Nat → Int

/-- bᵀRᵀu / λ in 2⁻¹⁶ cycle for an attitude and a direction in 0.01°, a baseline in 0.1 mm and a carrier (07 R254; DESIGN CHOICE, log 9). -/
opaque Config.baselinePhase : Int × Int × Int → Int × Int × Int → Int × Nat → Nat → Int

/-- The private body of a calibration slot of a GENERATION (10 R366; DESIGN CHOICE, log 57). -/
opaque Config.calBody : Nat → List Byte

/-- Angle between two directions in 0.01° (07 R257; DESIGN CHOICE, log 9). -/
opaque Config.separation : Int × Nat → Int × Nat → Nat

end Sys2Proof
end

