-- ==== Sys2Proof/Machine/StAcq.lean ====
section
/-! DEFINITION. State of the Easel, the snapshot memory, Sketch fixes and the twin watch (04 R118–R165). -/

namespace Sys2Proof.Machine

/-- A correlation peak above threshold (04 R130–R132): code phase in 1/1,024 chip, Doppler in mHz, its sum, the noise reference as the
sum `noise` of `cells` hypotheses, T_COH, and DT_DET, the DT of the first sample of its dwell. -/
structure Peak where
  signal : Nat
  sv : Nat
  code : Nat
  doppler : Int
  sum : Nat
  noise : Nat
  cells : Nat := 1
  tCoh : Nat := 1
  dt : Nat
  deriving DecidableEq, Repr, Inhabited

/-- The grid of one satellite and signal (04 R124–R126): code centre in 1/1,024 chip at the DT `dt`, half-width in quarter chips, none
for the full period; Doppler centre in mHz and the bins on each side of it; `derived`: the windows of R126. -/
structure Grid where
  signal : Nat
  sv : Nat
  code : Nat := 0
  dt : Nat := 0
  half : Option Nat := none
  derived : Bool := false
  doppler : Int := 0
  span : Nat := 0
  deriving DecidableEq, Repr, Inhabited

/-- A candidate of a job (04 R131, R132): `flags` are byte 2 of its entry (R156). -/
structure Candidate where
  peak : Peak
  flags : Nat := 0
  channel : Nat := 255
  deriving DecidableEq, Repr, Inhabited

/-- What a job of the Easel serves. -/
inductive JobKind where
  | search
  | reacq (channel : Nat)
  | sketch
  | twin (channel : Nat)
  deriving DecidableEq, Repr, Inhabited

/-- ACQ_SET_WATCH (04 R161). -/
structure WatchConfig where
  en : Bool := true
  track : Bool := true
  margin : Nat := 10
  span : Nat := 10
  deriving DecidableEq, Repr, Inhabited

/-- One job (04 R119–R140). `cmd` is the command it answers, `upLeft`, `loLeft` the bank passes not yet started on the
upper band (or the replay stream) and on the lower band, `dwell` the dwell of a pass in ticks, `cap` the hypotheses of
one pass, `hypUp`, `hypLo` the hypotheses not yet started, `grids` what is searched, `lowerOpen` whether the lower band waits for its port to
be trained (R127), `parts` the passes that gave way to other work (hypotheses, band, ticks done; 01 R32), `rules` the settings of
a visit of the watch (R161). -/
structure EaselJob where
  id : Nat
  kind : JobKind
  cmd : Option Nat
  ring : Nat := 0
  accepted : Nat := 0
  antenna : Nat := 0
  capture : Option Nat := none
  replay : Nat := 0
  handover : Bool := false
  derived : Bool := false
  stage : Nat := 1
  tCoh : Nat := 1
  nnc : Nat := 8
  limit : Nat := 8
  pfaExp : Nat := 3
  dwell : Nat
  hypUp : Nat := 0
  hypLo : Nat := 0
  grids : List Grid := []
  lowerOpen : Bool := false
  parts : List (Nat × Bool × Nat) := []
  rules : WatchConfig := {}
  done : Nat := 0
  passes : Nat := 0
  cands : List Candidate := []
  deriving DecidableEq, Repr, Inhabited

/-- One bank: the job it serves, since which tick, whether on the lower band, how many hypotheses its pass holds; `waits`
while the lane of its port is out of lock (04 R154), `roundOver` when its part of a replay round has ended (R120), `dt` the DT of the
first sample of its dwell. -/
structure Bank where
  job : Option Nat := none
  start : Nat := 0
  lower : Bool := false
  hyps : Nat := 0
  waits : Bool := false
  roundOver : Bool := false
  dt : Nat := 0
  cal : Bool := false
  deriving DecidableEq, Repr, Inhabited

/-- A candidate waiting for a channel (04 R135). -/
structure Waiting where
  peak : Peak
  since : Nat
  job : Option Nat
  antenna : Nat := 0
  deriving DecidableEq, Repr, Inhabited

/-- A capture requested (04 R143, R158), with the directory entry reserved for it: `forFix` marks the capture of a Sketch fix. -/
structure CaptureReq where
  cmd : Option Nat
  id : Nat
  antenna : Nat
  format : Nat
  band : Nat
  length : Nat
  forFix : Bool
  deriving DecidableEq, Repr, Inhabited

/-- A directory entry (04 R144, R162). -/
structure Capture where
  antenna : Nat
  format : Nat
  band : Nat
  samples : Nat
  dt : Nat
  words : Nat × Nat
  js : Nat × Nat
  first : Nat
  units : Nat
  temp : Int
  order : Nat
  writing : Bool := true
  data : List Byte := []
  deriving DecidableEq, Repr, Inhabited

/-- The capture being written: its request and its first tick. -/
structure Capturing where
  req : CaptureReq
  start : Nat
  deriving DecidableEq, Repr, Inhabited

/-- Where a Sketch fix stands (04 R147). -/
inductive SketchStage where
  | capture
  | search
  | solve
  deriving DecidableEq, Repr, Inhabited

/-- A Sketch fix (04 R146–R149, R159): `step` 1–3 an attempt of step A, 4 step B, 5 step C; `pred` the anchors predicted
at or above 5° and not yet searched, highest first; POS_UNC in mm, TIME_UNC in ns; `prior` the position used (10⁻⁷ degree, mm); `bias` the
receiver clock bias of step B in 1/1,024 chip at 2.046 Mcps. -/
structure SketchFix where
  cmd : Option Nat
  existing : Bool
  capture : Option Nat
  keep : Bool
  lower : Bool
  antenna : Nat
  format : Nat
  mask : Nat
  length : Nat
  stage : SketchStage := .capture
  retried : Bool := false
  restarted : Bool := false
  step : Nat := 0
  pred : List (Nat × Nat) := []
  found : List Candidate := []
  searchFrom : Nat := 0
  searchTo : Nat := 0
  hyps : Nat := 0
  posUnc : Nat := 0
  timeUnc : Nat := 0
  prior : Int × Int × Int := (0, 0, 0)
  bias : Int := 0
  deriving DecidableEq, Repr, Inhabited

/-- ACQ_SET_SKETCH (04 R165). -/
structure SketchConfig where
  interval : Nat := 900
  length : Nat := 20
  antenna : Nat := 0
  format : Nat := 0
  rest : Nat := 1
  keepSnap : Bool := false
  lower : Bool := true
  speed : Nat := 250
  mask : Nat := 7
  deriving DecidableEq, Repr, Inhabited

/-- A twin of a tracked satellite (04 R151): `channel` is the tracked channel. -/
structure Twin where
  channel : Nat
  signal : Nat
  sv : Nat
  peak : Peak
  relative : Int
  confirmed : Bool := false
  source : Nat
  misses : Nat := 0
  own : Nat := 255
  resolution : Nat := 0
  method : Nat := 0
  deriving DecidableEq, Repr, Inhabited

/-- Counts of a background job (01 R33, R34). -/
structure Deferral where
  consecutive : Nat := 0
  total : Nat := 0
  overdue : Bool := false
  deriving DecidableEq, Repr, Inhabited

/-- The twin watch (04 R150–R153): `next` the channel after which the round goes on, `cycle` the tick at which the present
cycle began (none before the first visit), `revisit` the time of the last complete cycle in ticks, `claim` the epoch of an overdue claim. -/
structure Watch where
  cfg : WatchConfig := {}
  pending : Option WatchConfig := none
  def_ : Deferral := {}
  next : Nat := 0
  cycle : Option Nat := none
  revisit : Nat := 0
  claimed : Option Nat := none
  twins : List Twin := []
  confirmed : Nat := 0
  deriving DecidableEq, Repr, Inhabited

structure Easel where
  banks : Vector Bank 8 := Vector.replicate 8 {}
  jobs : List EaselJob := []
  nextJob : Nat := 0
  queue : List Waiting := []
  dropped : Nat := 0
  captures : Vector (Option Capture) 8 := Vector.replicate 8 none
  order : Nat := 0
  reqs : List CaptureReq := []
  capturing : Option Capturing := none
  fix : Option SketchFix := none
  waitingFixes : List SketchFix := []
  sketch : SketchConfig := {}
  sketchPending : Option SketchConfig := none
  lastCapture : Option Nat := none
  fixDue : Option Nat := none
  skipped : Nat := 0
  fixes : Nat := 0
  restDue : Bool := false
  watch : Watch := {}
  deriving DecidableEq, Repr, Inhabited

end Sys2Proof.Machine
end

