-- ==== Sys2Proof/Machine/StCal.lean ====
section
/-! DEFINITION. State of calibration (10 R353–R376). -/

namespace Sys2Proof.Machine

/-- The oscillator model (10 R364): c0–c3 in the units of R376, the fitted span in °C, rms in 10⁻¹², K_T, AGE. -/
structure OscModel where
  valid : Bool := false
  c0 : Int := 0
  c1 : Int := 0
  c2 : Int := 0
  c3 : Int := 0
  spanLo : Int := 0
  spanHi : Int := 0
  rms : Nat := 0
  kt : Nat := 20000
  age : Nat := 10000
  deriving DecidableEq, Repr, Inhabited

/-- Calibration values (10 R353): D_IB per antenna in ps; φ (2⁻¹⁶ cycle) and τ (ps) in the order of R376; D_TP in ps;
N_REF in 1/256 dB per port where stored. -/
structure CalValues where
  dib : List Int := [0, 0, 0, 0]
  phi : List Int := [0, 0, 0, 0, 0, 0]
  tau : List Int := [0, 0, 0, 0, 0, 0]
  dtp : List Int := [0, 0]
  model : OscModel := {}
  nref : List (Option Int) := [none, none, none, none, none, none, none, none]
  deriving DecidableEq, Repr, Inhabited

/-- A calibration slot (10 R366): header fields and values, with the temperatures at which D_IB, φ and τ, D_TP and the
model were last applied, the oscillator bins; `lastC0` the c0 of an earlier model and the GPS second at which it was applied (R364); `valid`: its
CRC-32 matches and its GENERATION is not 0 (R367). -/
structure CalSlot where
  valid : Bool := false
  generation : Nat := 0
  count : Nat := 0
  epoch : Nat := 0
  dt : Nat := 0
  week : Nat := 0
  tow : Nat := 0
  temp : Int := 0
  trigger : Nat := 0
  scope : Nat := 0
  values : CalValues := {}
  temps : List Int := [0, 0, 0, 0]
  bins : List (Int × Nat × Int) := []
  crc : Nat := 0
  lastC0 : Option (Int × Nat) := none
  overdue : Bool := false
  deriving DecidableEq, Repr, Inhabited

structure CalConfig where
  deltaT : Nat := 5
  glaze : Nat := 10
  delays : List Int := [0, 0, 0, 0, 0, 0, 0, 0]
  phases : List Int := [0, 0, 0, 0, 0, 0, 0, 0]
  deriving DecidableEq, Repr, Inhabited

/-- A run in progress (10 R360): DT and tick of its tick 0, the settings in force there (R372), channels borrowed, ports needed; `released` once
its units are free. -/
structure CalRun where
  tick0 : Nat
  dt0 : Nat
  temp : Int
  trigger : Nat
  profile : Nat
  overdue : Bool
  cfg : CalConfig
  mask : Nat
  ports : List Nat
  clusters : List Nat
  channels : List Nat
  released : Bool := false
  disturbed : Option (Nat × Nat) := none
  deriving DecidableEq, Repr, Inhabited

/-- A ready run: its trigger, the DT before which it is not attempted, a wait for the audit hold to end. -/
structure CalReady where
  trigger : Nat
  from_ : Nat := 0
  hold : Bool := false
  deriving DecidableEq, Repr, Inhabited

/-- `late`: clusters whose part of an overdue claim is still to be taken (01 R37). -/
structure Cal where
  slots : Vector CalSlot 2 := Vector.replicate 2 {}
  inForce : Bool := false
  cfg : CalConfig := {}
  bins : List (Int × Nat × Int) := []
  values : CalValues := {}
  start : CalValues := {}
  glazing : Bool := false
  alpha : Nat := 0
  ready : Option CalReady := none
  cmds : List Nat := []
  storeNref : Bool := false
  def_ : Deferral := {}
  run : Option CalRun := none
  aborts : Nat := 0
  lastReason : Nat := 0
  calref : Bool := false
  late : List Nat := []
  deriving DecidableEq, Repr, Inhabited

end Sys2Proof.Machine
end

