-- ==== Sys2Proof/Machine/StCore.lean ====
section
/-! DEFINITION. State of the Finial cores (15 R509–R542), the interrupt controller and Drum timers (15 R539, R541),
the watchdogs (19 R630, R631), the performance monitor (20 R636) and the event inputs (03 R105). -/

namespace Sys2Proof.Machine

/-- Why a core's clock is stopped between instructions (15 R529, R530). -/
inductive CoreWait where
  | none
  | wfe
  | waitt
  deriving DecidableEq, Repr, Inhabited

/-- A load into A, X or Y whose value lands at the end of the next instruction (15 R518): 0 A, 1 X, 2 Y. -/
structure SlotLoad where
  reg : Nat
  value : Word
  deriving DecidableEq, Repr, Inhabited

/-- A Bare-mode product on its way to MPH:MPL (15 R519). -/
structure Product where
  issue : Nat
  hi : Word
  lo : Word
  deriving DecidableEq, Repr, Inhabited

/-- One Finial core, or one lockstep pair (15 R509–R512). `ret` is the return stack, newest entry first. -/
structure Core where
  a : Word := 0
  x : Word := 0
  y : Word := 0
  mph : Word := 0
  mpl : Word := 0
  dsp : Word := 0
  ret : List (BitVec 24) := []
  rsLimit : Nat := 32
  sr : Word
  evr : BitVec 3 := 0
  tcmp : Word := 0
  ls : Vector (BitVec 24) 4 := Vector.replicate 4 0
  le : Vector (BitVec 24) 4 := Vector.replicate 4 0
  lc : Vector Word 4 := Vector.replicate 4 0
  tpc : BitVec 24 := 0
  tsr : Word := 0
  tcause : Word := 0
  taddr : Word := 0
  trc : Word := 0
  tvec : BitVec 24 := 0xFF0200
  segBase : Vector Word 4 := Vector.replicate 4 0
  segLimit : Vector Word 4 := Vector.replicate 4 0
  pc : BitVec 24
  slot : Option SlotLoad := none
  products : List Product := []
  cycle : Nat := 0
  wait : CoreWait := .none
  resume : Option Word := none
  held : Bool
  deriving DecidableEq, Repr, Inhabited

/-- One interrupt source register (15 R539), the PRIO and CORE in force, which follow a write from the next tick (R540), and the level last
sampled. -/
structure IntSource where
  prio : BitVec 4 := 0
  core : BitVec 2 := 0
  prioNow : BitVec 4 := 0
  coreNow : BitVec 2 := 0
  active : Bool := false
  swset : Bool := false
  sampled : Bool := false
  deriving DecidableEq, Repr, Inhabited

/-- What a Drum timer compares with (15 R541). -/
structure TimerSet where
  en : Bool
  periodic : Bool
  cmp : Word
  period : BitVec 31
  deriving DecidableEq, Repr, Inhabited

/-- One Drum timer (15 R541). `old` is what is in force in a tick in which a write has changed it. -/
structure DrumTimer where
  en : Bool := false
  periodic : Bool := false
  ie : Bool := false
  cmp : Word := 0
  period : BitVec 31 := 81840
  old : Option TimerSet := none
  expired : Bool := false
  missed : Bool := false
  deriving DecidableEq, Repr, Inhabited

/-- One Drum watchdog (19 R630): `since` is the DT at which its count last restarted. -/
structure Watchdog where
  en : Bool
  lock : Bool := false
  period : BitVec 16 := 1000
  since : Nat := 0
  expired : Bool := false
  deriving DecidableEq, Repr, Inhabited

/-- One performance counter (20 R636). -/
structure PerfCounter where
  event : BitVec 8 := 0
  en : Bool := false
  ovie : Bool := false
  value : BitVec 48 := 0
  high : BitVec 16 := 0
  ovf : Bool := false
  deriving DecidableEq, Repr, Inhabited

/-- What stood in the W1C and RC fields of the Drum's registers at the start of the tick, against which a clear of this tick is judged
(00 R7): the words that are not 0 with their addresses, and the counts. -/
structure TickStart where
  bits : List (Nat × Nat) := []
  collisions : Nat := 0
  merged : Vector Nat 4 := Vector.replicate 4 0
  drops : Vector Nat 16 := Vector.replicate 16 0
  deriving DecidableEq, Repr, Inhabited

/-- A setting of a counter that takes effect from the next tick (12 R436). -/
structure PerfSet where
  counter : Nat
  event : Nat
  en : Bool
  ovie : Bool
  clear : Bool
  deriving DecidableEq, Repr, Inhabited

structure Pmon where
  counters : Vector PerfCounter 16 := Vector.replicate 16 {}
  sets : List PerfSet := []
  freeze : Bool := false
  freezeOnOvf : Bool := false
  freezing : Bool := false
  deriving DecidableEq, Repr, Inhabited

/-- One translation held in a TLB (17 R575). -/
structure TlbEntry where
  vpn : BitVec 20
  asid : BitVec 8
  global : Bool
  ppn : BitVec 20
  writable : Bool
  pl : BitVec 2
  deriving DecidableEq, Repr, Inhabited

/-- One MMU (17 R576): 0–2 the Drum cores, 3 the DMA engine. -/
structure Mmu where
  en : Bool := false
  asid : BitVec 8 := 0
  root : BitVec 20 := 0
  tlb : List TlbEntry := []
  deriving DecidableEq, Repr, Inhabited

/-- One protection window (17 R579). -/
structure Window where
  base : BitVec 26 := 0
  en : Bool := false
  r : Bool := false
  w : Bool := false
  x : Bool := false
  maxPriv : BitVec 2 := 0
  limit : BitVec 26 := 0
  deriving DecidableEq, Repr, Inhabited

structure Master where
  en : Bool := false
  windows : Vector Window 32 := Vector.replicate 32 {}
  deriving DecidableEq, Repr, Inhabited

/-- A descriptor of a DMA chain as loaded (17 R580). -/
structure Descriptor where
  src : Word
  dst : Word
  count : Nat
  esize : Nat
  srcIo : Bool
  dstIo : Bool
  last : Bool
  wb : Bool
  irq : Bool
  req : Nat
  sstride : Int
  dstride : Int
  next : Word
  deriving DecidableEq, Repr, Inhabited

/-- States of a DMA channel (17 R585). -/
inductive DmaState where
  | idle
  | waiting
  | active
  | preempted
  | faulted
  deriving DecidableEq, Repr, Inhabited

/-- One DMA channel (17 R585). `desc` is the descriptor loaded, `k` the element next to move, `held` a value read from
I/O whose write faulted, `tokens` the timer expiries not yet served (R581). -/
structure DmaChannel where
  prio : BitVec 2 := 3
  priv : BitVec 2 := 2
  xlate : Bool := false
  ie : BitVec 3 := 0
  addr : BitVec 27 := 0
  state : DmaState := .idle
  fault : BitVec 4 := 0
  fside : BitVec 2 := 0
  faddr : Word := 0
  doneBytes : Nat := 0
  held : Option Word := none
  doneF : Bool := false
  faultF : Bool := false
  abortedF : Bool := false
  desc : Option Descriptor := none
  k : Nat := 0
  tokens : Nat := 0
  deriving DecidableEq, Repr, Inhabited

structure DmaEngine where
  channels : Vector DmaChannel 16 := Vector.replicate 16 {}
  owner : Nat := 0
  deriving DecidableEq, Repr, Inhabited

end Sys2Proof.Machine
end

