-- ==== Sys2Proof/Machine/StInput.lean ====
section
/-! DEFINITION. State of the antenna inputs: ports, lane training, AGC, notches, spectral and histogram jobs, the FRM line
and the array geometry (02 R39–R84). -/

namespace Sys2Proof.Machine

/-- States of a port's lane (02 R48). -/
inductive PortState where
  | off
  | wait
  | training
  | locked
  | failed
  deriving DecidableEq, Repr, Inhabited

def PortState.code : PortState → Nat
  | .off => 0
  | .wait => 1
  | .training => 2
  | .locked => 3
  | .failed => 4

/-- Where a training attempt stands (02 R49): waiting for the TRAIN_START slot; in the sweep and alignment since tick 0 =
`t0`; verifying after the marker; verification failed, or TRAIN_END waiting for its slot; TRAIN_END sent, LOCKED from
tick `lock`. -/
inductive TrainStep where
  | startFrame
  | sweep (t0 : Nat)
  | verify (t0 l : Nat)
  | spoiled (t0 : Nat)
  | endFrame (t0 : Nat)
  | closing (t0 lock : Nat)
  deriving DecidableEq, Repr, Inhabited

/-- One notch (02 R66, R67): `reported` is the centre of its last event, `below` the DT since which its line has been
weak, `releaseDue` a release that a freeze holds back (R68, R74). -/
structure Notch where
  mode : Nat := 1
  width : Nat := 1
  offset : Int := 0
  engaged : Bool := false
  centre : Int := 0
  power : Int := 0
  engagements : Nat := 0
  reported : Int := 0
  below : Option Nat := none
  releaseDue : Bool := false
  deriving DecidableEq, Repr, Inhabited

/-- A notch setting waiting for its detector update (02 R81). -/
structure NotchSet where
  notch : Nat
  mode : Nat
  width : Nat
  offset : Int
  thresh : Nat
  deriving DecidableEq, Repr, Inhabited

/-- A histogram job in progress (02 R62). -/
structure Histogram where
  cmd : Nat
  left : Nat
  startWord : Option Nat := none
  changes : Nat := 0
  samples : Nat := 0
  i : List Nat := List.replicate 16 0
  q : List Nat := List.replicate 16 0
  deriving DecidableEq, Repr, Inhabited

/-- A spectral job in progress (02 R64): `skipped` of its blocks have held blanked samples, `out` is the first of the blocks
that the present loss of lock spoils, `judged` the number of blocks before which every block is counted. -/
structure SpectrumJob where
  cmd : Nat
  tap : Nat
  blocks : Nat
  start : Nat
  skipped : Nat := 0
  out : Option Nat := none
  judged : Nat := 0
  deriving DecidableEq, Repr, Inhabited

/-- Settings of a port (02 R76): ENABLE, INVERT and the fields of bytes 2–11. -/
structure PortConfig where
  enable : Bool
  invert : Bool := false
  mode : Nat := 0
  manual : Nat := 0
  agcMin : Nat := 0
  agcMax : Nat := 63
  target : Nat := 88
  step : Nat := 16
  centre : Nat
  deriving DecidableEq, Repr, Inhabited

/-- One port. `window` is the tick at which the present AGC window began, `live` whether the lane was LOCKED at any time in
it, `held` whether a freeze was in force at any time in it, `nref` N_REF in units of 1/19,200 dB, `minP`
the lowest window P of the running second, in 1/256 dB, `jMax` the largest J of the epoch, `epochBlank` a blanked sample in the epoch interval. -/
structure Port where
  cfg : PortConfig
  lane : PortState := .off
  waitFrom : Nat := 0
  step : TrainStep := .startFrame
  failures : Nat := 0
  latency : Nat := 0
  tap : Nat := 0
  trained : Nat := 0
  retrains : Nat := 0
  stuck : Bool := false
  stuckCount : Nat := 0
  agcLimit : Bool := false
  word : Nat := 0
  window : Nat := 0
  live : Bool := false
  held : Bool := false
  settled : Bool := false
  windows : Nat := 0
  j : Nat := 0
  jMax : Nat := 0
  nref : Option Int := none
  minP : Option Int := none
  epochBlank : Bool := true
  blankTill : Nat := 0
  eyeTick : Nat := 0
  hists : List Histogram := []
  spec : Option SpectrumJob := none
  notches : Vector Notch 4 := Vector.replicate 4 {}
  thresh : Nat := 15
  notchSets : List NotchSet := []
  detector : Nat := 0
  wantStart : Bool := false
  wantEnd : Bool := false
  wantGain : Bool := false
  deriving DecidableEq, Repr, Inhabited

/-- Array geometry (02 R72): ANT_MASK and nine coordinates in 0.1 mm. -/
structure ArrayGeometry where
  mask : Nat := 1
  coords : List Int := List.replicate 9 0
  deriving DecidableEq, Repr, Inhabited

/-- A frame on FRM: the slot and its 16 bits, first tick first (02 R45). -/
structure FrmSlot where
  slot : Nat
  bits : List Bool
  deriving DecidableEq, Repr, Inhabited

/-- An INPUT_SET_PORT waiting for its boundary (02 R76). -/
structure PortSet where
  cmd : Nat
  port : Nat
  cfg : PortConfig
  deriving DecidableEq, Repr, Inhabited

/-- An INPUT_TRAIN in progress (02 R78). -/
structure TrainCmd where
  cmd : Nat
  mask : Nat
  deriving DecidableEq, Repr, Inhabited

/-- `frozen`: AGC and notches are held; `linked`: a calibration run and a capture due together share one freeze (R74). -/
structure Inputs where
  ports : Vector Port 8
  sets : List PortSet := []
  trains : List TrainCmd := []
  feStart : Nat := 1000
  autoRetrain : Bool := true
  jCaution : Nat := 24
  jAlert : Nat := 80
  jPending : Option (Nat × Nat) := none
  array : ArrayGeometry := {}
  arrayPending : Option ArrayGeometry := none
  frm : Option FrmSlot := none
  lastGain : Nat := 7
  noiseAt : Nat := 0
  frozen : Bool := false
  linked : Bool := false
  deriving DecidableEq, Repr, Inhabited

/-- Default centre frequency of a port (02 R39). -/
def defaultCentre (p : Nat) : Nat := if p % 2 = 0 then 1584000000 else 1177500000

/-- The inputs at reset: SP0 and SP1 enabled (02 R40, R76, R84). -/
def Inputs.initial : Inputs :=
  { ports := Vector.ofFn fun i : Fin 8 => { cfg := { enable := decide (i.val < 2), centre := defaultCentre i.val } } }

end Sys2Proof.Machine
end

