-- ==== Sys2Proof/Machine/StLink.lean ====
section
/-! DEFINITION. State of the host port and the Kakel chain (13 R444–R480). -/

namespace Sys2Proof.Machine

/-- States of a lane (13 R457). -/
inductive LaneState where
  | off
  | down
  | training
  | up
  | asleep
  deriving DecidableEq, Repr, Inhabited

def LaneState.code : LaneState → Nat
  | .off => 0
  | .down => 1
  | .training => 2
  | .up => 3
  | .asleep => 4

/-- A frame sent and not yet acknowledged (13 R460); `own` names the ring and the slots of
the unit that ends with it (R463), or a down buffer (ring 16). -/
structure SentFrame where
  hseq : Nat
  frame : Frame
  own : Option (Nat × Nat)
  sentDt : Nat
  deriving DecidableEq, Repr, Inhabited

/-- A frame waiting for a credit or for the lane. -/
structure QueuedFrame where
  frame : Frame
  own : Option (Nat × Nat)
  deriving DecidableEq, Repr, Inhabited

/-- A unit being received or forwarded, with the bytes so far (13 R459). -/
structure PartUnit where
  dev : Nat
  ring : Nat
  bytes : List Byte
  deriving DecidableEq, Repr, Inhabited

/-- One lane, CHU or CHD (13 R456–R463). `sending` is set while a unit's segments occupy the lane, since `lastSeg`; `grants` the credits that the
neighbour holds (R460); `slept`: the lane left UP for a sleep or a Drum reset (R457), after which numbers stand (R467, R474). -/
structure Lane where
  st : LaneState := .off
  lock : Bool := false
  hseq : Nat := 0
  credits : Nat := 0
  replay : List SentFrame := []
  queue : List QueuedFrame := []
  replays : Nat := 0
  expect : Nat := 0
  bad : Bool := false
  rx : Option PartUnit := none
  sending : Bool := false
  lastSeg : Nat := 0
  grants : Nat := 0
  slept : Bool := false
  deriving DecidableEq, Repr, Inhabited

/-- DOWN frames that wait in their buffers: the first of a unit that finds no room in its command ring, and what came after it (13 R462). -/
structure HeldUnit where
  frames : List Frame
  since : Nat
  deriving DecidableEq, Repr, Inhabited

/-- An enumeration in progress at the head (13 R466–R468) and the commands it answers. -/
structure Enumeration where
  started : Nat
  cmds : List Nat
  deriving DecidableEq, Repr, Inhabited

/-- A CHAIN_WAKE in progress (13 R478). -/
structure WakeCmd where
  id : Nat
  till : Nat
  deriving DecidableEq, Repr, Inhabited

/-- `lanes` 0 CHU, 1 CHD. `crx` holds complete units with their tags (13 R451), `downBufs` the packets in the down
buffers, `sleepCause` the cause of the last LINK_SLEEP received per lane, `headCount` the ticks counted toward the 100 ms of
R444, `hopUp` forwarded frames not yet on CHU, `current` the unit in progress on CHU (forwarded or own), `sentSlots`
slots of each ring sent and not acknowledged. -/
structure Chain where
  number : Nat := 0
  unnumbered : Bool := true
  head : Bool := false
  lanes : Vector Lane 2 := Vector.replicate 2 {}
  wakeRelay : Bool := true
  autoEnum : Bool := true
  alignEn : Bool := true
  wakeUpRelay : Bool := false
  downHold : BitVec 14 := 1000
  downBufs : List (List Byte) := []
  crx : List Byte := []
  crxUnit : Option PartUnit := none
  held : Option HeldUnit := none
  length : Nat := 0
  changed : Nat := 0
  enum : Option Enumeration := none
  enumAtStart : Bool := false
  wakeCmds : List WakeCmd := []
  headCount : Nat := 0
  hopUp : List Frame := []
  current : Option Bool := none
  sentSlots : Vector Nat 16 := Vector.replicate 16 0
  forwarded : Nat := 0
  robin : Nat := 8
  relayDown : Bool := false
  relayUp : Bool := false
  counters : Vector Nat 18 := Vector.replicate 18 0
  deriving DecidableEq, Repr, Inhabited

/-- The HLK registers and the port's outputs: `out` is what the last transaction returned to the host. -/
structure Hport where
  en : Bool := true
  crxThresh : BitVec 13 := 0
  wrOvf : Bool := false
  downBusy : Bool := false
  err : Bool := false
  crxThr : Bool := false
  woken : Bool := false
  inten : BitVec 5 := 0
  ringThr : Bool := false
  ready : Bool := false
  selected : Bool := false
  out : List Byte := []
  deriving DecidableEq, Repr, Inhabited

end Sys2Proof.Machine
end

