-- ==== Sys2Proof/Machine/StMem.lean ====
section
/-! DEFINITION. The memories of the module as sparse bytes (17 R559, R586) and the state of the MEM block
(17 R573, 12 R431–R434). -/

namespace Sys2Proof.Machine

/-- Bytes by offset, offsets strictly rising, no entry 0: an unlisted byte reads 0, as a cleared SRAM does (17 R565). -/
abbrev Bytes := List Host.Cell

/-- What a byte that no entry names reads as. -/
def unlistedByte : Byte := 0

/-- Canonical form: offsets strictly rising and no entry equal to `unlistedByte`. -/
def Bytes.wf : Bytes → Bool
  | [] => true
  | [c] => c.2 != unlistedByte
  | c :: d :: r => c.2 != unlistedByte && decide (c.1 < d.1) && Bytes.wf (d :: r)

def Bytes.read (m : Bytes) (a : Nat) : Byte :=
  match m with
  | [] => unlistedByte
  | c :: r => if c.1 = a then c.2 else Bytes.read r a

/-- A write keeps the canonical form: writing `unlistedByte` removes the entry. -/
def Bytes.write (m : Bytes) (a : Nat) (v : Byte) : Bytes :=
  match m with
  | [] => if v = unlistedByte then [] else [(a, v)]
  | c :: r =>
    if c.1 < a then c :: Bytes.write r a v
    else if c.1 = a then (if v = unlistedByte then r else (a, v) :: r)
    else if v = unlistedByte then c :: r else (a, v) :: c :: r

def Bytes.readN (m : Bytes) (a : Nat) : Nat → List Byte
  | 0 => []
  | k + 1 => m.read a :: Bytes.readN m (a + 1) k

def Bytes.writeN (m : Bytes) (a : Nat) : List Byte → Bytes
  | [] => m
  | v :: vs => Bytes.writeN (m.write a v) (a + 1) vs

/-- The entries outside a range: clearing the range to the unlisted value. -/
def Bytes.clearRange (m : Bytes) (a n : Nat) : Bytes := m.filter fun c => decide (c.1 < a) || decide (a + n ≤ c.1)

/-- An ECC error standing in a word of a memory (17 R561): `mem` 0 Drum SRAM, 1 Dome SRAM, 2 Lantern SRAM, 3 mailbox
RAM; `word` the word index. -/
structure EccMark where
  mem : Nat
  word : Nat
  double : Bool
  deriving DecidableEq, Repr, Inhabited

/-- A running online test (17 R571, 12 R432). -/
structure MemTest where
  lastBlock : Nat
  next : Nat
  tested : Nat := 0
  failed : Nat := 0
  firstFailed : Nat := 0xFFFF_FFFF
  cmd : Nat
  due : Nat
  deriving DecidableEq, Repr, Inhabited

/-- A running scrub pass (12 R433, 17 R568): `cmd` is none for the pass after a wake. -/
structure Scrub where
  target : BitVec 3
  cmd : Option Nat
  start : Nat
  deriving DecidableEq, Repr, Inhabited

/-- Fused column repair (17 R563): banks using spares and banks with more faults than spares. -/
structure Repair where
  drumSpare : BitVec 32
  drumExcess : BitVec 32
  domeSpare : BitVec 16
  domeExcess : BitVec 16
  deriving DecidableEq, Repr, Inhabited

structure Mem where
  sram : Bytes := []
  mailbox : Bytes := []
  lantern : Bytes := []
  user : Bytes := []
  dome : Bytes := []
  wear : List (Nat × Nat) := []
  ecc : List EccMark := []
  lostDrum : BitVec 32 := 0
  lostDome : BitVec 16 := 0
  lostCluster : BitVec 4 := 0
  lostEasel : Bool := false
  lostLantern : Bool := false
  lostMbx : Bool := false
  ce : Bool := false
  ue : Bool := false
  testFail : Bool := false
  lost : Bool := false
  errAddr : Word := 0
  inten : BitVec 4 := 0
  repair : Repair
  drumCe : Nat := 0
  drumUe : Nat := 0
  domeCe : Nat := 0
  domeUe : Nat := 0
  blocksTested : Nat := 0
  test : Option MemTest := none
  scrubs : List Scrub := []
  deriving DecidableEq, Repr, Inhabited

end Sys2Proof.Machine
end

