-- ==== Sys2Proof/Machine/StTime.lean ====
section
/-! DEFINITION. State of Device Time (03 R89–R98), chain alignment (03 R109–R113) and the event inputs (03 R102–R106). -/

namespace Sys2Proof.Machine

/-- Alignment states (03 R111). -/
inductive AlignState where
  | master
  | unaligned
  | acquiring
  | aligned
  deriving DecidableEq, Repr, Inhabited

def AlignState.code : AlignState → Nat
  | .master => 0
  | .unaligned => 1
  | .acquiring => 2
  | .aligned => 3

/-- An alignment exchange in progress (13 R469): `t1` sent, `t4` received, in chain time scaled by 5,237,760,000 per
2⁻³² s (1/64 tick is then 2³²); with t4 the DT of its tick. -/
structure Exchange where
  started : Nat
  t1 : Int
  t4 : Option (Int × Nat) := none
  deriving DecidableEq, Repr, Inhabited

/-- DT and TICK. `acc` is DT in units of 2⁻⁴⁰ s (03 R90); `phase` and `slowPhase` spread the further units and ticks
evenly (R90, R92). -/
structure Clock where
  acc : Nat := 0
  tick : Nat := 0
  phase : Nat := 0
  slowPhase : Nat := 0
  epoch : Nat
  latchS : Word := 0
  latchTick : Nat := 0
  steer : Int := 0
  steerTill : Nat := 0
  offset : Int := 0
  offsetHeld : Bool := false
  align : AlignState := .unaligned
  good : Nat := 0
  lastE : Int := 0
  lastH : Int := 0
  lastExchange : Option Nat := none
  nextExchange : Nat := 0
  tries : Nat := 0
  exchange : Option Exchange := none
  masterEpoch : Nat := 0
  deriving DecidableEq, Repr, Inhabited

/-- DT: 32 bits of seconds, 32 bits of fraction. -/
def Clock.dt (c : Clock) : Nat := c.acc / 256 % 2 ^ 64

/-- The steering ends with the second in which it removes an error (03 R110). -/
def Clock.steered (c : Clock) : Clock := if c.steer ≠ 0 ∧ c.steerTill ≤ c.dt then { c with steer := 0 } else c

/-- One event input (03 R105). `last` is the tick of the previous stamped edge, `since` the edges merged since the
previous record, `woke` a waking edge stamped and not yet handed over (R104). -/
structure EvtInput where
  en : Bool := false
  edge : BitVec 2 := 0
  wake : Bool := false
  merged : Nat := 0
  pend : Bool := false
  ie : Bool := false
  level : Bool := false
  last : Option Nat := none
  since : Nat := 0
  before : Bool := false
  woke : Bool := false
  deriving DecidableEq, Repr, Inhabited

/-- A DT_MAP in force (03 R107); `segment` numbers the mapping segments. -/
structure TimeMap where
  ref : Nat
  week : Nat
  tow : Nat
  frac : Nat
  rate : Int
  bound : Nat
  qualified : Bool
  holdover : Bool
  newSegment : Bool
  segment : Nat
  deriving DecidableEq, Repr, Inhabited

end Sys2Proof.Machine
end

