-- ==== Sys2Proof/Machine/StNav.lean ====
section
/-! DEFINITION. State of navigation, solutions and integrity (07 R236–R280). -/

namespace Sys2Proof.Machine

/-- A unit of navigation data that has passed, of a system's satellite (07 R237). -/
structure NavUnit where
  sys : Nat
  sv : Nat
  bytes : List Byte
  deriving DecidableEq, Repr, Inhabited

/-- A usable ephemeris (07 R237, R277): loaded or decoded, the DT at which its validity ends, the units it is assembled from. -/
structure Ephemeris where
  signal : Nat
  sv : Nat
  loaded : Bool
  till : Nat
  data : List (List Byte) := []
  deriving DecidableEq, Repr, Inhabited

/-- A position that serves as prior (04 R146, 07 R274): with its DT and its uncertainty in mm; `supplied` by the host. -/
structure Prior where
  lat : Int
  lon : Int
  height : Int
  unc : Nat
  dt : Nat
  supplied : Bool := false
  deriving DecidableEq, Repr, Inhabited

/-- NAV_SET_TIME (07 R275): BOUND in µs. -/
structure TimeAid where
  ref : Nat
  week : Nat
  tow : Nat
  frac : Nat
  bound : Nat
  deriving DecidableEq, Repr, Inhabited

structure NavConfig where
  rate : Nat := 1
  elev : Nat := 5
  cn0 : Nat := 25
  use : Nat := 0x3F
  deriving DecidableEq, Repr, Inhabited

/-- INTEG_SET_CONFIG (07 R279). -/
structure IntegConfig where
  ccdIf : Nat := 15
  ccdRate : Nat := 20
  cn0Zen : Nat := 48
  cn0Hor : Nat := 38
  cn0High : Nat := 12
  cn0Flat : Nat := 10
  xbNeg : Nat := 5
  xbMax : Nat := 60
  xbDop : Nat := 10
  clkDrift : Nat := 5
  clkJump : Nat := 100
  cupSat : Nat := 15
  cupSingle : Nat := 8
  cupAtt : Nat := 20
  exclCaution : Nat := 2
  hold : Nat := 10
  qualLimit : Nat := 1000
  deriving DecidableEq, Repr, Inhabited

/-- A flag that needs consecutive solutions to set and 10 s without its condition to clear (07 R247–R257). -/
structure Watchful where
  count : Nat := 0
  set : Bool := false
  falseFrom : Option Nat := none
  deriving DecidableEq, Repr, Inhabited

/-- Code minus carrier of a satellite (07 R247) in mm: the locks it stands on, its average of 100 s and its last value's DT, the points of the
last 10 s. -/
structure Divergence where
  lock : List Nat := []
  mean : Int := 0
  last : Nat := 0
  points : List (Nat × Int) := []
  deriving DecidableEq, Repr, Inhabited

/-- The flags of one channel's satellite. -/
structure SatFlags where
  who : Option (Nat × Nat) := none
  series : Divergence := {}
  ccd : Watchful := {}
  high : Watchful := {}
  sky : Watchful := {}
  cross : Watchful := {}
  cupola : Watchful := {}
  deriving DecidableEq, Repr, Inhabited

/-- What a solution takes of a satellite: the corrected range in mm, where the satellite was when it sent, seen in the frame of reception (mm),
and the weight of R240 in 10⁻⁶. -/
structure RangeIn where
  ch : Nat
  range : Int
  place : Int × Int × Int
  weight : Nat
  deriving DecidableEq, Repr, Inhabited

structure Nav where
  map : Option TimeMap := none
  sol : Option TimeMap := none
  mapSecond : Option Nat := none
  lastMap : Option TimeMap := none
  mapPayload : Option (List Byte) := none
  held : Nat := 2
  segment : Nat := 0
  lastAccepted : Bool := false
  cfg : NavConfig := {}
  integ : IntegConfig := {}
  prior : Option Prior := none
  aid : Option TimeAid := none
  eph : List Ephemeris := []
  units : List NavUnit := []
  ranges : List RangeIn := []
  decoded : List ScaleOffset := []
  solNo : Nat := 0
  solution : Option (List Byte) := none
  heldFrom : Nat := 0
  lowerFrom : Option (Nat × Nat) := none
  globals : Nat := 0
  sats : Vector SatFlags 192 := Vector.replicate 192 {}
  flat : Watchful := {}
  drift : Watchful := {}
  single : Watchful := {}
  jumpTill : Option Nat := none
  lastRate : Option (Int × Nat × Int) := none
  driftFrom : Option Nat := none
  cupola : Bool := false
  changes : Nat := 0
  alerts : Nat := 0
  alertSecs : Nat := 0
  deniedSecs : Nat := 0
  singles : Nat := 0
  excluded : Nat := 0
  worstJ : Nat := 0
  temperature : Int := 3200
  deriving DecidableEq, Repr, Inhabited

end Sys2Proof.Machine
end

