-- ==== Sys2Proof/Machine/StPower.lean ====
section
/-! DEFINITION. State of the power controller (18 R589–R608), RLINK (18 R603–R607), the Lantern timers (18 R608) and
the bring-up of the two parts (19 R618–R631). -/

namespace Sys2Proof.Machine

/-- Where the device stands among its power states (18 R595, R601; 19 R622). -/
inductive Phase where
  | unpowered
  | off
  | lantern
  | wakingOn
  | waking
  | locked
  | running
  | handshake
  | committed
  | isolating
  | turningOff
  | turningBack
  | sleep
  | deep
  | refclkLost
  deriving DecidableEq, Repr, Inhabited

/-- States that can be requested (18 R606). -/
inductive Target where
  | run
  | sleep
  | deep
  | off
  deriving DecidableEq, Repr, Inhabited

/-- A participant's answer to ENTRY_REQ (18 R593): not yet (the DT at which it was asked), granted, refused with a
reason, delayed until a DT. -/
inductive Answer where
  | asked (at_ : Nat)
  | granted
  | delayed (till : Nat)
  deriving DecidableEq, Repr, Inhabited

/-- Who asked for an entry (18 R592). -/
inductive Requester where
  | command (id : Nat)
  | drum
  | dome
  deriving DecidableEq, Repr, Inhabited

structure EntryReq where
  target : Target
  snapSr : Bool
  delayMax : Nat
  from_ : Requester
  deriving DecidableEq, Repr, Inhabited

/-- A failed entry on its way back to RUN (18 R594): reason, block, DT, and for reason 7 whether the last attempt met a
NACK rather than a timeout. -/
structure EntryFailure where
  reason : Nat
  block : Nat
  dt : Nat
  nack : Bool
  deriving DecidableEq, Repr, Inhabited

/-- The entry in progress: its request, DT of acceptance, the participants' answers, time in delays in ms. -/
structure Entry where
  req : EntryReq
  accepted : Nat
  answers : Vector Answer 9
  delays : Nat := 0
  failure : Option EntryFailure := none
  deriving DecidableEq, Repr, Inhabited

/-- A wake event latched: source, COARSE DT, whether it came after the point of no return. -/
structure WakeEvent where
  source : Nat
  dt : Nat
  late : Bool
  deriving DecidableEq, Repr, Inhabited

/-- One Lantern timer (18 R608); `armed` is the comparator's copy of the target while armed. -/
structure LanternTimer where
  mode : BitVec 2 := 0
  expired : Bool := false
  tgtF : Word := 0
  tgtS : Word := 0
  period : BitVec 17 := 0
  armed : Option Nat := none
  deriving DecidableEq, Repr, Inhabited

/-- A profile request waiting for its boundary (01 R27, 18 R611). -/
structure ProfileReq where
  profile : Nat
  cmd : Option Nat
  deriving DecidableEq, Repr, Inhabited

/-- A power-up of a domain in progress: domain number of 18 R589. -/
structure PowerUp where
  domain : Nat
  started : Nat
  deriving DecidableEq, Repr, Inhabited

structure Pwr where
  phase : Phase
  idle : Bool := false
  entry : Option Entry := none
  pendingReq : Option EntryReq := none
  lastReason : Nat := 0
  lastBlock : Nat := 15
  woke : Bool := false
  entryFail : Bool := false
  ltimerF : Bool := false
  veto : BitVec 3 := 0
  autoIdle : Bool := true
  inten : BitVec 3 := 0
  wakeEn : BitVec 10 := 0x3EF
  wakeSource : Nat := 0
  wakeFrom : Nat := 0
  wakeFlags : BitVec 4 := 0
  wakeDt : Nat := 0
  wakeSlow : Nat := 0
  wakes : Nat := 0
  slow : Nat := 0
  s0Dt : Nat := 0
  wakeEvent : Option WakeEvent := none
  rlinkRetry : Bool := false
  warned : Bool := false
  restored : Bool := false
  lastDone : Nat := 0
  completed : Nat := 0
  failed : Nat := 0
  aborted : Nat := 0
  domains : BitVec 10 := 0
  powerUps : List PowerUp := []
  failedDomains : BitVec 10 := 0
  profile : Nat := 3
  startup : Option Nat := none
  profileReq : Option ProfileReq := none
  vin : Nat
  pfThresh : Nat := 48
  pfWarnings : Nat := 0
  vddio33 : Bool := true
  lowSupply : Bool := false
  wakePin : Bool := false
  sealLevel : Bool := false
  windowTimers : BitVec 4 := 0
  pendingProfile : Option ProfileReq := none
  lostBanks : List (Nat × Nat × Nat) := []
  pinReset : Bool := false
  handoverTick : Option Nat := none
  deriving DecidableEq, Repr, Inhabited

/-- What an RLINK sequence is for. -/
inductive RPurpose where
  | stageOneMode
  | stageOneVolt
  | stageOneOn
  | stageFive
  | profileRaise
  | profileLower
  | setVcore (cmd point : Nat)
  | entryOff
  | entryBack
  | wakeOn
  deriving DecidableEq, Repr, Inhabited

/-- The transaction of the attempt in progress (18 R604). -/
inductive RTransaction where
  | page
  | main
  | ack
  deriving DecidableEq, Repr, Inhabited

/-- RLINK_CFG (18 R607): address, packet error checking, PAGE, ACK_SRC, TIMEOUT. -/
structure RlinkCfg where
  addr : BitVec 7 := 0x40
  pec : Bool := false
  page : BitVec 8 := 0xFF
  ackSrc : BitVec 2 := 2
  timeout : BitVec 8 := 20
  deriving DecidableEq, Repr, Inhabited

/-- A transaction on the regulator's bus (18 R603): address, command code, the data bytes that the device sends, and whether they end with a
packet error code. -/
structure RWire where
  addr : BitVec 7
  code : Nat
  data : List Byte
  pec : Bool
  deriving DecidableEq, Repr, Inhabited

/-- A sequence in progress, with the settings in force at its start (18 R607): its purpose, the voltage
 commanded (mV) where it is a VOUT_COMMAND, retries used. -/
structure RSequence where
  purpose : RPurpose
  volts : Nat
  cfg : RlinkCfg := {}
  at_ : RTransaction
  retries : Nat := 0
  stop : Nat := 0
  lastNack : Bool := false
  deriving DecidableEq, Repr, Inhabited

/-- RLINK; `wire` is the last transaction on the bus. -/
structure Rlink where
  cfg : RlinkCfg := {}
  wire : Option RWire := none
  state : Nat := 0
  n : BitVec 5 := 0
  voutMode : BitVec 8 := 0
  pgood : Bool := false
  status : BitVec 16 := 0
  faults : Nat := 0
  failures : Nat := 0
  retries : Nat := 0
  vFull : Nat := 800
  vRun : Nat := 720
  vBare : Nat := 700
  volts : Nat := 0
  outputOn : Bool := false
  seq : Option RSequence := none
  queue : List (RPurpose × Nat) := []
  retryAt : Option Nat := none
  deriving DecidableEq, Repr, Inhabited

/-- Where a part stands in its bring-up (19 R622): `none` in the Lantern stages, then Bare mode, its image check, its
service, or the service without a valid image (R624). -/
inductive PartStage where
  | lantern
  | bare
  | images
  | service
  | noImage
  deriving DecidableEq, Repr, Inhabited

/-- Resets and bring-up (19). -/
structure Boot where
  dome : PartStage
  drum : PartStage
  domeSource : Nat := 1
  domeEarlier : List (Nat × Nat × Bool) := []
  drumWith : Bool := false
  resetDt : Nat := 0
  drumResetDt : Nat := 0
  drumRejects : Nat := 0
  complete : Bool := false
  srcDrum : Nat := 1
  srcD1 : Nat := 0
  srcD2 : Nat := 0
  stage : Nat := 0
  stageFiveDone : Bool := false
  clustersTested : BitVec 4 := 0
  clustersFailed : BitVec 4 := 0
  testFrom : Vector Nat 4 := Vector.replicate 4 0
  toClear : Bool := true
  epochStart : Bool := true
  fromOff : Bool := false
  loopAtStart : Bool := true
  domeStarts : Nat := 0
  domeStartDt : Nat := 0
  retryAt : Option Nat := none
  rejected : List (Bool × Nat) := []
  refclk : Nat := 16368000
  deriving DecidableEq, Repr, Inhabited

end Sys2Proof.Machine
end

