-- ==== Sys2Proof/Machine/StRing.lean ====
section
/-! DEFINITION. State of the rings, the interpreter and the mailbox output (11 R390–R407, 01 R22), and of the image
slots and loads (12 R440, 09 R343, R351). -/

namespace Sys2Proof.Machine

/-- A transaction lying in a command ring: its slots and the tick of its arrival (11 R387, R667). -/
structure Arrival where
  slots : Nat
  tick : Nat
  deriving DecidableEq, Repr, Inhabited

/-- A reply waiting for room (11 R407); `frees` is the in-flight command its writing ends. -/
structure WaitingReply where
  bytes : List Byte
  frees : Option Nat
  deriving DecidableEq, Repr, Inhabited

/-- One ring (11 R400). `prodT`, `consT` are the indices at the start of the tick (R401), `above` says that the level
stood at or above THRESH at the end of the last tick (R669), `passed` is the pass-over count (R398). -/
structure Ring where
  base : BitVec 16 := 0
  sizeLog2 : BitVec 4 := 4
  en : Bool := false
  side : Bool := false
  full : Bool := false
  thresh : BitVec 13 := 0
  prod : BitVec 32 := 0
  cons : BitVec 32 := 0
  prodT : BitVec 32 := 0
  consT : BitVec 32 := 0
  next : Nat := 0
  pending : Nat := 0
  drops : Nat := 0
  thr : Bool := false
  above : Bool := false
  arrivals : List Arrival := []
  passed : Nat := 0
  waiting : List WaitingReply := []
  deriving DecidableEq, Repr, Inhabited

/-- A command in flight (11 R390). `id` is the model's own serial number of the command. -/
structure InFlight where
  id : Nat
  tag : Nat
  ring : Nat
  opcode : Nat
  noReply : Bool
  accepted : Nat
  dome : Bool
  deriving DecidableEq, Repr, Inhabited

/-- A Dome output record held in the mailbox (01 R22): its ring, TYPE word, DT and payload. -/
structure OutRecord where
  ring : Nat
  rtype : Nat
  dt : Nat
  payload : List Byte
  deriving DecidableEq, Repr, Inhabited

/-- A scheduled reset (12 R423, R442, 09 R344). `dome`, `drum` are the ticks of the two resets, `reply` the reply ring
and the index that its CONS must pass for the Drum's to come earlier, `source` the number of 19 R618; `made` the tick from which the two are
counted, `waits` the command whose reply is not yet written. -/
structure ResetPlan where
  source : Nat
  dome : Option Nat
  drum : Option Nat
  reply : Option (Nat × BitVec 32)
  made : Nat := 0
  waits : Option Nat := none
  deriving DecidableEq, Repr, Inhabited

/-- The interpreter: `measNow`, `mpNow`, `navNow` are the values of `meas`, `mpDetail`, `navMode` in force (12 R429). -/
structure Interp where
  inflight : List InFlight := []
  nextId : Nat := 0
  rejects : Vector Nat 8 := Vector.replicate 8 0
  took : Bool := false
  plans : List ResetPlan := []
  startDt : Nat := 0
  starts : Nat := 0
  recovery : Bool := false
  meas : Nat := 1
  mpDetail : Bool := false
  navMode : Nat := 0
  measNow : Nat := 1
  mpNow : Bool := false
  navNow : Nat := 0
  deriving DecidableEq, Repr, Inhabited

/-- The mailbox (17 R570, 01 R18, R22): output held for D0, drops not yet reported per ring. -/
structure Mailbox where
  out : List OutRecord := []
  dropped : Vector Nat 16 := Vector.replicate 16 0
  droppedTotal : Nat := 0
  lost : Vector Nat 16 := Vector.replicate 16 0
  discards : Nat := 0
  dbIn : Bool := false
  dbOut : Bool := false
  collide : Bool := false
  collIe : Bool := false
  word : BitVec 14 := 0
  lanes : BitVec 4 := 0
  count : Nat := 0
  auditSecond : Option Nat := none
  sinceEntry : Nat := 0
  deriving DecidableEq, Repr, Inhabited

/-- One slot of firmware: a Drum image (12 R440) or a Dome image (09 R343). -/
structure ImageSlot where
  valid : Bool
  interp : Nat
  customer : Nat
  length : Nat
  sha : List Byte
  rollback : Nat
  data : List (Nat × Byte) := []
  deriving DecidableEq, Repr, Inhabited

/-- An open load (09 R351, 12 R441): `got` the ranges delivered, `check` the COMMIT being checked. -/
structure Load where
  length : Nat
  sha : List Byte
  counts : List Nat := []
  data : List (Nat × Byte) := []
  got : List (Nat × Nat) := []
  check : Option Nat := none
  deriving DecidableEq, Repr, Inhabited

/-- The image slots of a part: the active slot, a trial of a newly activated slot (the DT by which it must succeed),
the fused rollback level, an open load. -/
structure Images where
  a : ImageSlot
  b : ImageSlot
  active : Bool
  trial : Option Nat := none
  fused : Nat
  load : Option Load := none
  deriving DecidableEq, Repr, Inhabited

end Sys2Proof.Machine
end

