-- ==== Sys2Proof/Machine/StSeal.lean ====
section
/-! DEFINITION. State of the Dome's sealing, audit trail, odometer, zones and record store (09 R309–R351). -/

namespace Sys2Proof.Machine

/-- Seal states (09 R309). -/
inductive SealState where
  | unsealed
  | sealed
  | opened
  deriving DecidableEq, Repr, Inhabited

def SealState.code : SealState → Nat
  | .unsealed => 0
  | .sealed => 1
  | .opened => 2

/-- An audit entry or a signed record as stored: its sequence number, the rank and index of its cause (09 R334) in the
upper byte of TYPE, its DT and its bytes. -/
structure Stored where
  seq : Nat
  cause : Nat
  dt : Nat
  bytes : List Byte
  deriving DecidableEq, Repr, Inhabited

/-- A signed record due and not yet signed (09 R332): `kind`, the cause, and body bytes 48–111. -/
structure DueRecord where
  kind : Nat
  cause : Nat
  dt : Nat
  flags : Nat
  verdict : Nat
  body : List Byte
  late : Bool := false
  deriving DecidableEq, Repr, Inhabited

/-- Counts kept for the next GAP record (09 R331 kind 3, R336). -/
structure GapCounts where
  odometer : Nat := 0
  zone : Nat := 0
  mark : Nat := 0
  abandoned : Bool := false
  deriving DecidableEq, Repr, Inhabited

/-- A RECORD_HOLD in progress (09 R336). -/
structure Hold where
  start : Nat
  epoch : Nat := 0
  measured : Nat
  bridged : Nat
  worst : Nat := 0
  deriving DecidableEq, Repr, Inhabited

/-- A break of R323 in progress: its CAUSE, the worst held verdict in it, whether the GAP record of a hold has covered it (R337). -/
structure Break where
  cause : Nat
  worst : Nat
  covered : Bool := false
  deriving DecidableEq, Repr, Inhabited

/-- An accepted solution as the odometer and the zones keep it (09 R321–R324). -/
structure Accepted where
  epoch : Nat
  dt : Nat
  segment : Nat
  solNo : Nat
  lat : Int
  lon : Int
  height : Int
  hpe : Nat
  velE : Int
  velN : Int
  velValid : Bool
  sketch : Bool
  measured : Nat := 0
  deriving DecidableEq, Repr, Inhabited

/-- Polygon of the zone table (09 R325, R351). -/
structure Polygon where
  id : Nat
  cls : Nat
  vertices : List (Int × Int)
  deriving DecidableEq, Repr, Inhabited

/-- A polygon's state (09 R326). -/
inductive ZoneSide where
  | unknown
  | inside
  | outside
  deriving DecidableEq, Repr, Inhabited

/-- A polygon's state, its last accepted solution on the old side, the first on the new side, confirmations so far. -/
structure ZoneState where
  side : ZoneSide := .unknown
  out : Option Accepted := none
  first : Option Accepted := none
  confirms : Nat := 0
  gap : Bool := false
  deriving DecidableEq, Repr, Inhabited

structure ZoneTable where
  generation : Nat := 0
  crc : Nat := 0
  polygons : List Polygon := []
  sha : List Byte := []
  auditSeq : Nat := 0
  deriving DecidableEq, Repr, Inhabited

/-- Settings of R350. -/
structure OdoConfig where
  minSpeed : Nat := 30
  gap : Nat := 10
  interval : Nat := 900
  margin : Nat := 20
  confirm : Nat := 3
  deriving DecidableEq, Repr, Inhabited

/-- What a commit of R324 keeps in MRAM. -/
structure OdoCommit where
  measured : Nat := 0
  bridged : Nat := 0
  last : Option Accepted := none
  zones : List ZoneState := []
  deriving DecidableEq, Repr, Inhabited

structure Seal where
  state : SealState := .unsealed
  loopOpen : Bool := true
  latched : Option (Nat × Bool) := none
  pfLatched : Option (Nat × Bool) := none
  main : List Stored := []
  pinned : List Stored := []
  auditSeq : Nat := 0
  auditAck : Nat := 0
  auditOffer : Nat := 1
  overflowed : Bool := false
  notEntered : Nat := 0
  notEnteredDt : Nat := 0
  counters : Vector Nat 18 := Vector.replicate 18 0
  records : List Stored := []
  storeSeq : Nat := 0
  storeAck : Nat := 0
  storeOffer : Nat := 1
  due : List DueRecord := []
  hold : Option Hold := none
  counts : GapCounts := {}
  brk : Option Break := none
  measured : Nat := 0
  measuredSub : Nat := 0
  bridged : Nat := 0
  last : Option Accepted := none
  integrating : Bool := false
  accepted : Nat := 0
  sinceOdo : Nat := 0
  nextOdo : Option Nat := none
  commit : OdoCommit := {}
  commitDt : Nat := 0
  odo : OdoConfig := {}
  odoNext : Option OdoConfig := none
  table : ZoneTable := {}
  oldTable : ZoneTable := {}
  tableSlot : Bool := false
  zones : List ZoneState := []
  u6Tx : List Byte := []
  u6Resync : Bool := false
  u6Last : Option Nat := none
  lowFrom : Option Hold := none
  deriving DecidableEq, Repr, Inhabited

end Sys2Proof.Machine
end

