-- ==== Sys2Proof/Machine/StSerial.lean ====
section
/-! DEFINITION. State of the UARTs and the CAN controllers (14 R481–R508). -/

namespace Sys2Proof.Machine

/-- An entry of a receive FIFO (14 R487, R492): RXD bits [21:0] and the DT stamp. -/
structure RxEntry where
  bits : BitVec 22
  dt : Nat
  deriving DecidableEq, Repr, Inhabited

/-- A break being sent: its command, if SERIAL_SEND_BREAK asked for it (14 R489, R505). -/
structure SendBreak where
  length : Nat
  cmd : Option Nat
  deriving DecidableEq, Repr, Inhabited

/-- Settings that change a character's timing or format (14 R490). -/
structure LineSettings where
  dbits : BitVec 3 := 3
  parity : BitVec 3 := 0
  stop2 : Bool := false
  slow : Bool := false
  slowRate : BitVec 2 := 0
  div : BitVec 16 := 44
  frac : BitVec 8 := 0
  deriving DecidableEq, Repr, Inhabited

/-- One UART. `txLine`, `rxLine` are the settings with which the character in the shifter is sent, and the one being
received came in (14 R490), `txStart`, `rxStart` the DTs at which they began; `shifter` the character being sent, `brkReq` a break waiting for
the shifter; `changed` the DT of the last change of `line`, and what it was before that tick. -/
structure Uart where
  line : LineSettings := {}
  txLine : LineSettings := {}
  rxLine : Option LineSettings := none
  txStart : Nat := 0
  rxStart : Nat := 0
  changed : Option (Nat × LineSettings) := none
  rxen : Bool := false
  txen : Bool := false
  wake : Bool := false
  tx : List (BitVec 9) := []
  rx : List RxEntry := []
  shifter : Option (BitVec 9) := none
  popDt : Nat := 0
  breakActive : Bool := false
  sending : Option SendBreak := none
  brkReq : Option SendBreak := none
  dropped : Bool := false
  wokeNext : Bool := false
  overrun : Bool := false
  rxThr : Bool := false
  txThr : Bool := false
  breakEnd : Bool := false
  woken : Bool := false
  rxThresh : BitVec 7 := 1
  txThresh : BitVec 6 := 0
  inten : BitVec 5 := 0
  brkLen : BitVec 16 := 0
  nRx : Nat := 0
  nTx : Nat := 0
  nParity : Nat := 0
  nFraming : Nat := 0
  nBreaksRx : Nat := 0
  nDropped : Nat := 0
  nBreaksTx : Nat := 0
  nWakes : Nat := 0
  deriving DecidableEq, Repr, Inhabited

/-- An acceptance filter (14 R495). -/
structure CanFilter where
  id : BitVec 29 := 0
  ide : Bool := false
  en : Bool := false
  mask : BitVec 29 := 0
  deriving DecidableEq, Repr, Inhabited

/-- Counters of R508 for a CAN controller. -/
structure CanCounts where
  rx : Nat := 0
  tx : Nat := 0
  dropped : Nat := 0
  bit : Nat := 0
  stuff : Nat := 0
  form : Nat := 0
  crc : Nat := 0
  ack : Nat := 0
  busOff : Nat := 0
  arb : Nat := 0
  deriving DecidableEq, Repr, Inhabited

/-- One CAN controller (14 R501). `state` 0 error-active, 1 error-passive, 2 bus-off; `losses` the arbitration losses of
the transmit entry in service, `lost` the frames dropped since the last stored entry. -/
structure Can where
  en : Bool := false
  fd : Bool := false
  mode : BitVec 2 := 0
  autoRecover : Bool := false
  wake : Bool := false
  tdc : Bool := false
  nbt : BitVec 31 := 0x0F1E7C00
  dbt : BitVec 25 := 0x1DFC0
  rxBase : BitVec 16 := 0
  rxLog2 : BitVec 4 := 4
  txBase : BitVec 16 := 0
  txLog2 : BitVec 4 := 4
  rxProd : BitVec 32 := 0
  rxCons : BitVec 32 := 0
  txProd : BitVec 32 := 0
  txCons : BitVec 32 := 0
  state : Nat := 0
  busIdle : Bool := false
  tec : Nat := 0
  rec_ : Nat := 0
  rxNew : Bool := false
  txDone : Bool := false
  rxDrop : Bool := false
  stateChg : Bool := false
  woken : Bool := false
  inten : BitVec 5 := 0
  filters : Vector CanFilter 32 := Vector.replicate 32 {}
  losses : Nat := 0
  lost : Nat := 0
  counts : CanCounts := {}
  deriving DecidableEq, Repr, Inhabited

end Sys2Proof.Machine
end

