-- ==== Sys2Proof/Machine/StTp.lean ====
section
/-! DEFINITION. State of the time pulses and of holdover (08 R281–R305). -/

namespace Sys2Proof.Machine

/-- Generator states (08 R291). -/
inductive TpState where
  | off
  | wait
  | locked
  | holdover
  | recovering
  | stopped
  deriving DecidableEq, Repr, Inhabited

def TpState.code : TpState → Nat
  | .off => 0
  | .wait => 1
  | .locked => 2
  | .holdover => 3
  | .recovering => 4
  | .stopped => 5

/-- TP_SET (08 R303). -/
structure TpConfig where
  en : Bool
  polarity : Bool := false
  unqual : Bool := false
  limitStop : Bool := false
  scale : Nat := 0
  period : Nat := 1000000
  width : Nat := 100000000
  antDelay : Int := 0
  userDelay : Int := 0
  stepThresh : Nat := 1000
  slew : Nat := 20
  deriving DecidableEq, Repr, Inhabited

/-- An announced pulse (08 R287, R288): the ticks of its leading and trailing edges with their core cycles, its PULSE_NO, whether its
leading edge has been emitted. -/
structure Announced where
  tick : Nat
  trailing : Nat
  cycle : Nat := 0
  tcycle : Nat := 0
  no : Nat
  leading : Bool := false
  deriving DecidableEq, Repr, Inhabited

/-- One generator. `next` is the scale instant of the next pulse in µs, none before a realignment has chosen it; `ideal`
the final ideal instant of the last announced pulse (ps of DT) with its scale instant, `leaps` the leap-second count at that; `step` a step announced for the
next pulse, with whether that pulse is omitted; `good` consecutive qualified solutions; `no` pulses announced since it
was enabled; `polarity` the one in force at the output; `after` the state, with its cause, that it enters once the announced
pulses are emitted (R296, R302). -/
structure Generator where
  cfg : TpConfig
  st : TpState
  high : Bool := false
  polarity : Bool := false
  after : Option (TpState × Nat) := none
  announced : List Announced := []
  next : Option Nat := none
  ideal : Option (Int × Nat) := none
  leaps : Int := 0
  no : Nat := 0
  lastNo : Nat := 0
  lastFlags : Nat := 0
  lastBound : Nat := 0
  remain : Int := 0
  step : Option (Int × Bool) := none
  good : Nat := 0
  slewing : Bool := false
  steps : Nat := 0
  slews : Nat := 0
  cancelled : Nat := 0
  omitted : Nat := 0
  deriving DecidableEq, Repr, Inhabited

/-- Holdover (08 R293, R294): DT_REF of the last qualified map, its rate and bound, its temperature, R_q, the largest
temperature change; `map` the extrapolated mapping, at its latest record. -/
structure Holdover where
  ref : Nat
  rate : Int
  bound : Nat
  temp : Int
  rq : Nat
  map : TimeMap
  dtMax : Nat := 0
  limit : Bool := false
  deriving DecidableEq, Repr, Inhabited

/-- The mapping of the last qualified solution, and the temperature at its DT_REF. -/
structure Qualified where
  map : TimeMap
  temp : Int
  deriving DecidableEq, Repr, Inhabited

/-- `map` is the latest qualified DT_MAP record in force, `late` the TP_PULSE records (cause, DT, payload) that a restart of the
supervisor pair holds back (R302), `limitNext` a HOLD_LIMIT that waits for an announcement (R304). -/
structure Pulses where
  gens : Vector Generator 2
  limit : Nat := 600
  limitNext : Option Nat := none
  last : Option Qualified := none
  map : Option TimeMap := none
  late : List (Nat × Nat × List Byte) := []
  holdover : Option Holdover := none
  entered : Nat := 0
  deriving DecidableEq, Repr, Inhabited

/-- The generators at reset: TP0 enabled and in WAIT, TP1 disabled. -/
def Pulses.initial : Pulses :=
  { gens := #v[{ cfg := { en := true }, st := .wait }, { cfg := { en := false }, st := .off }] }

end Sys2Proof.Machine
end

