-- ==== Sys2Proof/Machine/StTrk.lean ====
section
/-! DEFINITION. State of the tracking channels, their lanes, clusters and settings (05 R166–R207) and of the measurement
epochs (06 R208–R235). -/

namespace Sys2Proof.Machine

/-- Lane states (05 R184). -/
inductive TrkState where
  | absent
  | pullIn
  | sync
  | track
  | lost
  deriving DecidableEq, Repr, Inhabited

def TrkState.code : TrkState → Nat
  | .absent => 0
  | .pullIn => 2
  | .sync => 3
  | .track => 4
  | .lost => 5

/-- A loop setting of a signal (05 R200): PLL and FLL bandwidths in 0.1 Hz, DLL bandwidth in 0.01 Hz, T_P in ms, spacing
in 1/64 chip, 0 the class default. -/
structure LoopSet where
  order3 : Bool := true
  dll2 : Bool := false
  tp : Nat := 10
  spacing : Nat := 0
  pll : Nat := 100
  fll : Nat := 20
  dll : Nat := 50
  deriving DecidableEq, Repr, Inhabited

/-- Loop parameters in force: bandwidths in 10⁻⁶ Hz (DEDUCED, log 45), T in ms, d in 1/64 chip. -/
structure LoopNow where
  pll : Nat := 0
  fll : Nat := 0
  dll : Nat := 0
  t : Nat := 1
  d : Nat := 0
  order3 : Bool := false
  dll2 : Bool := false
  deriving DecidableEq, Repr, Inhabited

/-- A glaze ramp (05 R196): its grid's start, the steps taken, a change of T waiting for its boundary. -/
structure Ramp where
  start : Nat
  steps : Nat := 0
  deriving DecidableEq, Repr, Inhabited

/-- State of a lane's loop filters (05 R181, R183, R185, R193, R196): the frequency state in mHz, the Doppler-rate state in mHz/s,
the state and the output of the code loop in 10⁻⁶ chip/s, the prompt sum of the last update with its period in ms, and the frequency
errors (mHz) and code errors (2⁻¹⁶ chip) of the last updates, newest first. -/
structure LoopState where
  freq : Int := 0
  rate : Int := 0
  codeInt : Int := 0
  codeRate : Int := 0
  last : Option ((Int × Int) × Nat) := none
  freqs : List Int := []
  dlls : List Int := []
  deriving DecidableEq, Repr, Inhabited

/-- One lane. `signal` is 0 when the lane is not wanted, `since` the DT of its present state, `check` a side-peak check (its start and
the moves made), `windows` the last ten C/N0 windows as (S, N × T_pri in units of 10⁻⁶), `fresh` the prompt sums since the last window.
The NCOs stand at DT `codeDt`: `doppler` the carrier NCO's frequency less the carrier in mHz, `code` the code NCO's count in 2⁻³² of
1/1,024 chip, modulo 18 s (whole periods known as far as AMB says), `carrier` the accumulated phase in 2⁻³²/1,000 cycle, `base` what
CARRIER is counted from. `sums` are the sums of the last accumulation boundary, `signs` the signs of the prompts since SYNC began (newest
first, `true` negative), `changes` the histogram of sign changes, `synced` whether the secondary or symbol phase is known, `pairs`
the products of array arms and prompt of the last 100 ms with their periods, `mp` the sums of the multipath arms since `mpFrom`
and their number, `symbol` the sum of the symbol in progress, `symHalf` whether the polarity was open at the first of `symbols`, the `anchor…` fields the NCOs and the Doppler rate at a conversion. -/
structure TrkLane where
  st : TrkState := .absent
  signal : Nat := 0
  since : Nat := 0
  phase2 : Option Nat := none
  check : Option (Nat × Nat) := none
  checkSums : Nat × Nat × Nat := (0, 0, 0)
  good : Option Nat := none
  bad : Option Nat := none
  prompts : List (Int × Int) := []
  fresh : Nat := 0
  checkedAt : Nat := 0
  windows : List (Nat × Nat) := []
  doppler : Int := 0
  code : Nat := 0
  codeDt : Nat := 0
  carrier : Int := 0
  base : Int := 0
  loop : LoopState := {}
  sums : Sums := default
  signs : List Bool := []
  changes : List Nat := []
  synced : Bool := false
  pairs : List (Nat × List (Int × Int)) := []
  mp : List Int := []
  mpCount : Nat := 0
  mpFrom : Nat := 0
  symbol : Option Int := none
  lockFrom : Nat := 0
  restarts : Nat := 0
  discont : Bool := false
  amb : Nat := 0
  polarity : Option Bool := none
  halfAdj : Bool := false
  slips : Bool := false
  keepSync : Bool := false
  now : LoopNow := {}
  nextT : Option Nat := none
  ramp : Option Ramp := none
  los : Int := -32768
  reflections : List (Nat × Int) := []
  residual : Nat := 0
  residue : Bool := false
  symbols : List Int := []
  levels : List Nat := []
  symFrom : Nat := 0
  symHalf : Bool := false
  symbolsLost : Nat := 0
  unitLost : Bool := false
  converted : Bool := false
  reentry : Nat := 0
  convertTo : Option Nat := none
  anchorCode : Nat := 0
  anchorDoppler : Int := 0
  anchorRate : Int := 0
  anchorDt : Nat := 0
  deriving DecidableEq, Repr, Inhabited

/-- What a lane has in its cluster's state RAM (05 R193): its filters and its loop parameters at the last checkpoint. -/
structure Saved where
  loop : LoopState := {}
  now : LoopNow := {}
  deriving DecidableEq, Repr, Inhabited

/-- A residue failure whose record is still to be written (05 R195): lane, component, place of its event, DT of its tick. -/
structure ResidueNote where
  lower : Bool
  pilot : Bool
  cause : Nat
  dt : Nat
  deriving DecidableEq, Repr, Inhabited

/-- One channel. `anchor`, `sv` name the satellite held, `since` the DT of its present state, `tracked` whether it was in
TRACK since its last ASSIGNED, `derives` whether UPPER_SIGNAL selected the derived signal at its handover, `lostFrom` and `reacqFrom` when
it entered LOST and REACQ, `expiring` whether its REACQ time limit is reached in this tick, `releasing` a TRK_RELEASE that waits for its
next loop update, `slot` the slot behind its number, `selfCheck` the end of a self-check, `checkOwn` whether that runs in the channel's
own datapath, `failing` the residue failures since it started, `retireAt` a retirement that waits for the next loop update (the place
of its event, the DT of its tick), `savedUpper` and `savedLower` the checkpoint of its lanes. -/
structure Channel where
  anchor : Option Nat := none
  sv : Nat := 0
  twin : Bool := false
  since : Nat := 0
  elevation : Int := 0
  tracked : Bool := false
  derives : Bool := false
  noConvert : Bool := false
  lostFrom : Option Nat := none
  reacqFrom : Option Nat := none
  expiring : Bool := false
  releasing : Bool := false
  upper : TrkLane := {}
  lower : TrkLane := {}
  savedUpper : Option Saved := none
  savedLower : Option Saved := none
  slot : Nat
  out : Bool := false
  residues : Nat := 0
  recent : List Nat := []
  selfCheck : Option Nat := none
  checkOwn : Bool := false
  failing : List ResidueNote := []
  claimed : Bool := false
  retireAt : Option (Nat × Nat) := none
  palette : Bool := false
  deriving DecidableEq, Repr, Inhabited

/-- A lockstep mismatch whose LOCKSTEP record is still to be written (05 R195): DT of its tick, place of its event, mismatches in the last
10 s, age of the checkpoint used. -/
structure LockstepNote where
  dt : Nat
  cause : Nat
  count : Nat
  age : Nat
  deriving DecidableEq, Repr, Inhabited

/-- One cluster: retired slots, the last mismatches of its pair, a restart in progress (its DT) and its notes, whether the
epoch is frozen, the DT of the last checkpoint. -/
structure Cluster where
  retired : List Nat := []
  spares : List Nat := [48, 49]
  mismatches : List Nat := []
  restart : Option Nat := none
  notes : List LockstepNote := []
  frozen : Bool := false
  checkpoint : Nat := 0
  deriving DecidableEq, Repr, Inhabited

structure Palette where
  offsets : List Int := [-96, -64, -32, -16, -8, 0, 8, 16, 32, 64, 96]
  avg : Nat := 100
  accept : Nat := 6
  deriving DecidableEq, Repr, Inhabited

/-- TRK_SET_CONFIG (05 R207). -/
structure TrkConfig where
  reacq : Bool := true
  upper : Nat := 7
  primary : Nat := 0
  elev : Int := 0
  pullIn : Nat := 1000
  sync : Nat := 6000
  loss : Nat := 200
  coast : Nat := 1000
  reacqTime : Nat := 30
  trackMin : Nat := 24
  lossMin : Nat := 20
  deriving DecidableEq, Repr, Inhabited

/-- Measurement epochs: EPOCH_NO, tick of the last epoch and its grid point (on chain time or not, k, F), the rate in force. -/
structure Epochs where
  no : Nat := 0
  last : Option Nat := none
  point : Option (Bool × Int × Nat) := none
  lastMp : Option Nat := none
  mpDue : Bool := false
  rate : Nat := 1
  deriving DecidableEq, Repr, Inhabited

/-- `before`: the channels that loop updates or transitions of this tick have changed, as they stood at its start (06 R210);
`primaryNext`: a PRIMARY_ANT that waits for an epoch boundary (05 R180). -/
structure Tracking where
  channels : Vector Channel 192
  before : List (Nat × Channel) := []
  clusters : Vector Cluster 4 := Vector.replicate 4 {}
  loops : Vector LoopSet 15 := Vector.replicate 15 {}
  loopSets : List (Nat × LoopSet) := []
  palette : Palette := {}
  palettePending : Option Palette := none
  cfg : TrkConfig := {}
  primary : Nat := 0
  primaryNext : Option Nat := none
  supRestart : Option Nat := none
  supMismatches : List Nat := []
  supFrozen : Bool := false
  pullInFails : Nat := 0
  lockstep : Nat := 0
  residueTotal : Nat := 0
  retirements : Nat := 0
  epochs : Epochs := {}
  deriving DecidableEq, Repr, Inhabited

/-- Tracking at reset: channel n stands on slot n mod 48 of its cluster. -/
def Tracking.initial : Tracking := { channels := Vector.ofFn fun i : Fin 192 => { slot := i.val % 48 } }

end Sys2Proof.Machine
end

