-- ==== Sys2Proof/Machine/State.lean ====
section
/-! DEFINITION. The state of the module, its faults and refusals, and the state after reset. -/

namespace Sys2Proof.Machine

/-- Reasons for which the block stops. No command or event of the spec stops the module, so there is one reason only. -/
inductive Fault where
  /-- Raised by no meaning: the spec names no command or event that stops the module. Safe. -/
  | stopped
  deriving DecidableEq, Repr, Inhabited

/-- Reasons for which a command has no meaning here. -/
inductive Refusal where
  /-- A command of the table whose meaning is not written yet; raised by an arm of `exec` only. Safe. -/
  | notModelled (mnemonic : String)
  /-- An IN or OUT executed by a Dome core: the Dome's I/O space is "Dome internal; not documented by register"
  (15 R542). Raised by the meanings of IN and OUT for cores 3–7. Safe. -/
  | domeIo
  deriving DecidableEq, Repr, Inhabited

structure State where
  pending : List Instr
  free : Nat
  ranks : Vector Nat 10
  clk : Clock
  cores : Vector Core 8
  intc : Vector IntSource 64
  timers : Vector DrumTimer 4
  wdts : Vector Watchdog 3
  pmon : Pmon
  start : TickStart
  evt : Vector EvtInput 4
  evtHeld : List OutRecord
  mem : Mem
  mmus : Vector Mmu 4
  masters : Vector Master 4
  dma : DmaEngine
  rings : Vector Ring 16
  interp : Interp
  mbx : Mailbox
  drumImages : Images
  domeImages : Images
  zoneLoad : Option Load
  pwr : Pwr
  ltimers : Vector LanternTimer 4
  rlink : Rlink
  boot : Boot
  sealed : Seal
  chain : Chain
  hport : Hport
  uarts : Vector Uart 8
  cans : Vector Can 2
  nav : Nav
  input : Inputs
  easel : Easel
  trk : Tracking
  tp : Pulses
  cal : Cal
  deriving DecidableEq, Repr, Inhabited

/-! The state right after reset: the cold start of the Lantern, DT 0, stage 0 (19 R622). -/

/-- A core out of reset in Bare mode at `entry` (15 R510, 19 R623); numbers 3–7 are the Dome's pairs. -/
def coreAt (n : Nat) (entry : BitVec 24) (held : Bool) : Core :=
  { sr := if n < 3 then 0x208 else 0x8208, pc := entry, held := held }

/-- The image that a slot holds at manufacture (DESIGN CHOICE, log 40). -/
def factorySlot : ImageSlot := { valid := true, interp := 1, customer := 0, length := 128, sha := zeros 32, rollback := 0 }

/-- The MANUFACTURE entry (09 R316, R317). -/
def manufactureEntry : List Byte :=
  le 4 1 ++ zeros 12 ++ le 2 0x0001 ++ zeros 10 ++ fit 20 (le 8 Config.serial ++ le 4 factorySlot.interp) ++ zeros 16

def State.reset : State where
  pending := []
  free := 0
  ranks := Vector.replicate 10 0
  clk := { epoch := 1 }
  cores := Vector.ofFn fun i : Fin 8 => coreAt i.val 0xFF0000 true
  intc := Vector.replicate 64 {}
  timers := Vector.replicate 4 {}
  wdts := #v[{ en := true }, { en := false }, { en := false }]
  pmon := {}
  start := {}
  evt := Vector.replicate 4 {}
  evtHeld := []
  mem := { repair := ⟨Config.drumSpare, Config.drumExcess, Config.domeSpare, Config.domeExcess⟩ }
  mmus := Vector.replicate 4 {}
  masters := Vector.replicate 4 {}
  dma := {}
  rings := Vector.replicate 16 {}
  interp := {}
  mbx := {}
  drumImages := { a := factorySlot, b := { factorySlot with valid := false }, active := false, fused := 0 }
  domeImages := { a := factorySlot, b := { factorySlot with valid := false }, active := false, fused := 0 }
  zoneLoad := none
  pwr := { phase := .lantern, vin := 120 }
  ltimers := Vector.replicate 4 {}
  rlink := { seq := some { purpose := .stageOneMode, volts := 0, at_ := .main } }
  boot := { dome := .lantern, drum := .lantern, drumWith := true }
  sealed :=
    { main := [⟨1, 0, 0, manufactureEntry⟩]
      pinned := [⟨1, 0, 0, manufactureEntry.set 19 2⟩]
      auditSeq := 1
      counters := Vector.ofFn fun i : Fin 18 => if i.val = 0 then 1 else 0 }
  chain := {}
  hport := {}
  uarts := Vector.replicate 8 {}
  cans := Vector.replicate 2 {}
  nav := {}
  input := Inputs.initial
  easel := {}
  trk := Tracking.initial
  tp := Pulses.initial
  cal := {}

end Sys2Proof.Machine
end

