-- ==== Sys2Proof/Machine/Ops.lean ====
section
/-! DEFINITION. The named operations over the state: vectors, time, order of events, counters, memory, rings, replies,
records. Meanings are written over these. -/

namespace Sys2Proof.Machine

/-- The three outcomes of a meaning. -/
abbrev Res := Host.Outcome State Fault Refusal

/-! Fixed arrays by number: a read beyond the end gives the default, a write beyond the end nothing. -/

def vget {α : Type} {n : Nat} [Inhabited α] (v : Vector α n) (i : Nat) : α := v.getD i default

def vset {α : Type} {n : Nat} (v : Vector α n) (i : Nat) (a : α) : Vector α n := v.setIfInBounds i a

def vmod {α : Type} {n : Nat} [Inhabited α] (v : Vector α n) (i : Nat) (f : α → α) : Vector α n :=
  vset v i (f (vget v i))

/-- Fold of a state update over the numbers below `n`, ascending. -/
def forUpto {σ : Type} (n : Nat) (f : Nat → σ → σ) (s : σ) : σ := (List.range n).foldl (fun s i => f i s) s

def bit (n i : Nat) : Bool := n.testBit i

/-- A mask of the numbers below `n` for which `f` holds. -/
def maskOf (n : Nat) (f : Nat → Bool) : Nat := (List.range n).foldl (fun a i => a + if f i then 2 ^ i else 0) 0

/-! Time. -/

/-- DT of the present tick, or of the present slow edge while the fast clocks are stopped (03 R89, R93). -/
def State.now (s : State) : Nat := s.clk.dt

/-- Units of 2⁻³² s in one second, and in whole microseconds (rounded down). -/
def second : Nat := 2 ^ 32
def ms (n : Nat) : Nat := n * 2 ^ 32 / 1000
def us (n : Nat) : Nat := n * 2 ^ 32 / 1000000

/-- The fast clocks run (03 R92, 18 R595): RUN or IDLE, or an entry before S0. -/
def Phase.fast : Phase → Bool
  | .running | .handshake | .committed => true
  | _ => false

def State.fast (s : State) : Bool := s.pwr.phase.fast

/-- The Drum serves: its interpreter takes commands (19 R622 stage 4) while the fast clocks run. -/
def State.drumUp (s : State) : Bool :=
  s.fast && (s.boot.drum == .service || s.boot.drum == .noImage)

/-- The Dome can take commands (11 R668). -/
def State.domeUp (s : State) : Bool :=
  s.fast && (s.boot.dome == .service || s.boot.dome == .noImage)

/-- The Dome measures and solves: its firmware runs (19 R624). -/
def State.domeService (s : State) : Bool := s.fast && s.boot.dome == .service

/-- Draws the next free value's number. -/
def State.draw (s : State) : Nat × State := (s.free, { s with free := s.free + 1 })

/-- Takes the next place among the events of one rank in this tick: the upper byte of TYPE (03 R101). -/
def State.claim (s : State) (rank : Nat) : Nat × State :=
  (rank * 16 + min 15 (vget s.ranks rank), { s with ranks := vmod s.ranks rank (· + 1) })

/-! Performance counters (20 R635–R637). -/

/-- One counter counts `k` core cycles in which its event occurs. -/
def PerfCounter.count (k : Nat) (c : PerfCounter) : PerfCounter :=
  if c.value.toNat + k ≥ 2 ^ 48 then { c with value := BitVec.ofNat 48 (c.value.toNat + k), ovf := true }
  else { c with value := BitVec.ofNat 48 (c.value.toNat + k) }

/-- Event `ev` occurs in `k` core cycles. An overflow with FREEZE_ON_OVF freezes every counter at the end of the
tick (R637). -/
def Pmon.event (p : Pmon) (ev k : Nat) : Pmon :=
  if p.freeze then p else
  let hit (c : PerfCounter) : Bool := c.en && c.event.toNat == ev
  let past := p.counters.toList.any fun c => hit c && decide (c.value.toNat + k ≥ 2 ^ 48)
  { p with
    counters := p.counters.map fun c => if hit c then c.count k else c
    freezing := p.freezing || (past && p.freezeOnOvf) }

/-- PMON_CFGc as written (20 R636). -/
def PerfCounter.configure (c : PerfCounter) (event : Nat) (en ovie clear : Bool) : PerfCounter :=
  { c with event := BitVec.ofNat 8 event, en := en, ovie := ovie, value := if clear then 0 else c.value }

/-- The settings of MON_SET_COUNTER come into force after the events of their tick (12 R436, R443). -/
def Pmon.settle (p : Pmon) : Pmon :=
  p.sets.foldl (fun p t => { p with counters := vmod p.counters t.counter fun c => c.configure t.event t.en t.ovie t.clear }) { p with sets := [] }

def State.count (s : State) (ev : Nat) : State := { s with pmon := s.pmon.event ev 1 }

/-! Drum SRAM. -/

def State.sramWrite (s : State) (a : Nat) (bs : List Byte) : State :=
  { s with mem := { s.mem with sram := s.mem.sram.writeN a bs } }

/-! Rings (11 R399–R407). -/

def Ring.slots (r : Ring) : Nat := 2 ^ r.sizeLog2.toNat

/-- Slots used now, for a producer of this tick (CONS as at the start of the tick), for a consumer (PROD as at the
start of the tick). -/
def Ring.used (r : Ring) : Nat := (r.prod - r.cons).toNat
def Ring.usedByProducer (r : Ring) : Nat := (r.prod - r.consT).toNat
def Ring.free (r : Ring) : Nat := r.slots - r.usedByProducer
def Ring.ready (r : Ring) : Nat := (r.prodT - r.cons).toNat

/-- Byte offset in Drum SRAM of byte `k` counted from index `i`: past the last slot it goes on at slot 0. -/
def Ring.addr (r : Ring) (i k : Nat) : Nat := r.base.toNat * 64 + (i * 64 + k) % (r.slots * 64)

/-- Bytes of `n` slots from index `i`. -/
def Ring.bytes (r : Ring) (m : Bytes) (i n : Nat) : List Byte := (List.range (n * 64)).map fun k => m.read (r.addr i k)

def Ring.put (r : Ring) (m : Bytes) (i : Nat) (bs : List Byte) : Bytes :=
  ((List.range bs.length).zip bs).foldl (fun m kb => m.write (r.addr i kb.1) kb.2) m

/-- Lies wholly within Drum SRAM. -/
def Ring.inside (base slots : Nat) : Bool := decide (base + 64 * slots ≤ 0x400000)

/-- The bits of W1C register `a` that stood at the start of the tick. -/
def State.stood (s : State) (a : Nat) : Nat := ((s.start.bits.find? fun e => e.1 == a).map Prod.snd).getD 0

def State.modRing (s : State) (n : Nat) (f : Ring → Ring) : State := { s with rings := vmod s.rings n f }

def slotsOf (bytes : Nat) : Nat := ceilDiv bytes 64

/-- Bytes filled with zeros to whole slots (11 R379). -/
def padSlots (bs : List Byte) : List Byte := fit (64 * slotsOf bs.length) bs

/-- Writes whole slots at PROD and advances it. -/
def State.produce (s : State) (n : Nat) (bs : List Byte) : State :=
  let r := vget s.rings n
  let p := padSlots bs
  let s := { s with mem := { s.mem with sram := r.put s.mem.sram r.prod.toNat p } }
  s.modRing n fun r => { r with prod := r.prod + BitVec.ofNat 32 (slotsOf bs.length), full := false }

/-- Clearing EN (11 R401). -/
def Ring.disable (r : Ring) : Ring :=
  { r with en := false, prod := 0, cons := 0, prodT := 0, consT := 0, pending := 0, arrivals := [], passed := 0,
           full := false, above := false }

/-- The frame carries the end of a unit of ring `n`. -/
def isOwn (n : Nat) (o : Option (Nat × Nat)) : Bool := o.any fun p => p.1 == n

/-- Ring `n` loses its contents (11 R401): units of it still on a lane free no slots any more. -/
def State.forgetSent (s : State) (n : Nat) : State :=
  { s with chain := { s.chain with
      sentSlots := vset s.chain.sentSlots n 0
      lanes := s.chain.lanes.map fun a =>
        { a with queue := a.queue.map fun q => if isOwn n q.own then { q with own := none } else q
                 replay := a.replay.map fun q => if isOwn n q.own then { q with own := none } else q } } }

/-- Setting EN: SEQ restarts from 0 (11 R406) and the level counts as below THRESH (R669). -/
def Ring.enable (r : Ring) : Ring := if r.en then r else { r with en := true, next := 0, pending := 0, above := false }

/-- Header and payload of an output record (11 R404). -/
def recordBytes (rtype seq lost dt : Nat) (payload : List Byte) : List Byte :=
  le 2 rtype ++ le 2 seq ++ le 2 lost ++ le 2 payload.length ++ le 8 dt ++ payload

/-- The record fits in ring `n` whole (11 R405). -/
def State.recordFits (s : State) (n len : Nat) : Bool :=
  let r := vget s.rings n
  r.en && decide (slotsOf (16 + len) ≤ r.free)

/-- Offers a record to its ring: written whole with SEQ and LOST, or dropped and counted (11 R401, R405, R406). -/
def State.offer (s : State) (n rtype dt : Nat) (payload : List Byte) : State :=
  let r := vget s.rings n
  if !r.en then (s.modRing n fun r => { r with drops := satAdd 0xFFFF_FFFF r.drops 1 }).count 56
  else if slotsOf (16 + payload.length) ≤ r.free then
    let s := s.produce n (recordBytes rtype r.next r.pending dt payload)
    (s.modRing n fun r => { r with next := (r.next + 1) % 65536, pending := 0 }).count 55
  else
    (s.modRing n fun r => { r with pending := satAdd 0xFFFF r.pending 1, drops := satAdd 0xFFFF_FFFF r.drops 1,
                                   full := true }).count 56

/-- A record of the Drum side: TYPE is the cause (rank and index) over the record type. -/
def State.drumRecord (s : State) (n cause rtype dt : Nat) (payload : List Byte) : State :=
  s.offer n (cause * 256 + rtype) dt payload

/-- Bytes that output held in the mailbox takes. -/
def Mailbox.held (m : Mailbox) : Nat := (m.out.map fun o => 16 + o.payload.length).sum

/-- The Dome hands a record to the mailbox, or drops and counts it when its part is full (01 R22). -/
def State.domeRecord (s : State) (n cause rtype dt : Nat) (payload : List Byte) : State :=
  let m := s.mbx
  if m.held + 16 + payload.length ≤ Config.mailboxBytes then
    { s with mbx := { m with out := m.out ++ [⟨n, cause * 256 + rtype, dt, payload⟩] } }
  else
    { s with mbx := { m with dropped := vmod m.dropped n (satAdd 0xFFFF · 1),
                             droppedTotal := satAdd 0xFFFF m.droppedTotal 1 } }

/-- EPOCH_START is still to come: no other record enters Q11 before it (03 R95). -/
def State.epochHeld (s : State) : Bool :=
  s.boot.epochStart || s.mbx.out.any fun o => o.ring == 11 && o.rtype % 256 == 0x02

/-- Records for Q11 that waited, for EPOCH_START or for the handover (03 R95, R104), enter it in order. -/
def State.releaseHeld (s : State) : State :=
  if s.epochHeld then s
  else s.evtHeld.foldl (fun s o => s.offer o.ring o.rtype o.dt o.payload) { s with evtHeld := [] }

def State.holdRecord (s : State) (cause rtype dt : Nat) (payload : List Byte) : State :=
  { s with evtHeld := s.evtHeld ++ [⟨11, cause * 256 + rtype, dt, payload⟩] }

/-! Status codes, packets and replies (11 R377–R397). -/

inductive Status where
  | ok | accepted | undefinedOpcode | reservedNonzero | lengthInvalid | lengthExceeds | crcError | tagInUse | busy
  | badAddress | paramRange | stateConflict | resourceExhausted | privilege | sealedDenied | notReady | aborted
  | timeout | calInputState | fault
  deriving DecidableEq, Repr

def Status.code : Status → Nat
  | .ok => 0x0000
  | .accepted => 0x0001
  | .undefinedOpcode => 0x0100
  | .reservedNonzero => 0x0101
  | .lengthInvalid => 0x0102
  | .lengthExceeds => 0x0103
  | .crcError => 0x0104
  | .tagInUse => 0x0105
  | .busy => 0x0106
  | .badAddress => 0x0107
  | .paramRange => 0x0200
  | .stateConflict => 0x0201
  | .resourceExhausted => 0x0202
  | .privilege => 0x0203
  | .sealedDenied => 0x0204
  | .notReady => 0x0205
  | .aborted => 0x0206
  | .timeout => 0x0207
  | .calInputState => 0x0208
  | .fault => 0x0209

/-- A whole packet: header, payload, CRC (11 R377, R378). -/
def packetBytes (opcode dev tag queue flags dt : Nat) (payload : List Byte) : List Byte :=
  let h := le 2 opcode ++ le 1 dev ++ le 1 tag ++ le 2 payload.length ++ le 1 queue ++ le 1 flags ++ le 8 dt ++ payload
  h ++ le 4 (crc32 h)

/-- A command ends: its tag is free (11 R390). -/
def State.endCommand (s : State) (id : Nat) : State :=
  { s with interp := { s.interp with inflight := s.interp.inflight.filter fun f => f.id != id } }

def State.endOption (s : State) : Option Nat → State
  | none => s
  | some id => s.endCommand id

/-- Room for a packet in reply ring `n` (11 R401). -/
def Ring.fitsPacket (r : Ring) (len : Nat) : Bool := r.en && decide (slotsOf len ≤ r.free)

/-- A reply packet enters its ring, or waits in order until it fits (11 R407). -/
def State.sendReply (s : State) (n : Nat) (bs : List Byte) (frees : Option Nat) : State :=
  let r := vget s.rings n
  if r.waiting.isEmpty && r.fitsPacket bs.length then ((s.produce n bs).count 54).endOption frees
  else s.modRing n fun r => { r with waiting := r.waiting ++ [⟨bs, frees⟩], full := true }

/-- The device number this device answers with (11 R377, 13 R473). -/
def State.number (s : State) : Nat := s.chain.number

def State.modPwr (s : State) (f : Pwr → Pwr) : State := { s with pwr := f s.pwr }
def State.modBoot (s : State) (f : Boot → Boot) : State := { s with boot := f s.boot }
def State.modRlink (s : State) (f : Rlink → Rlink) : State := { s with rlink := f s.rlink }

/-! Domains (18 R589, 01 R24). Bit d − 1 stands for domain d. -/

def domainBit (d : Nat) : BitVec 10 := BitVec.ofNat 10 (2 ^ (d - 1))

/-- Domains that a profile keeps powered: 0 SKETCH, 1 SENTINEL, 2 FULL, 3 EARLY. -/
def profileDomains (profile : Nat) : List Nat :=
  if profile = 0 then [1, 2, 10]
  else if profile = 1 then [1, 2, 5, 9, 10]
  else if profile = 2 then [1, 2, 3, 4, 5, 6, 7, 8, 9, 10]
  else [1, 2, 3, 5, 9, 10]

/-- Domains not failed for good: a failed cluster stays off until the next Dome reset (05 R194). -/
def State.usable (s : State) (d : Nat) : Bool := !(5 ≤ d && d ≤ 8 && s.boot.clustersFailed.toNat.testBit (d - 5))

def State.poweredOn (s : State) (d : Nat) : Bool := s.pwr.domains &&& domainBit d != 0

/-- Power-up of domains, ascending, at most one start in any 20 µs (18 R589). -/
def State.powerDomains (s : State) (ds : List Nat) : State :=
  let add (t : State) (d : Nat) : State :=
    if t.poweredOn d || !t.usable d || t.pwr.powerUps.any (fun p => p.domain == d) then t
    else
      let from_ := match t.pwr.powerUps.getLast? with
        | none => t.now
        | some p => max t.now (p.started + us 20)
      t.modPwr fun p => { p with powerUps := p.powerUps ++ [{ domain := d, started := from_ }],
                                 failedDomains := p.failedDomains &&& ~~~domainBit d }
  ds.foldl add s

/-- Up time of a domain (18 R589): SNAP from off. -/
def upTime (d : Nat) : Nat :=
  if d = 1 then us 500 else if d = 4 then us 2000 else if 5 ≤ d ∧ d ≤ 8 then us 300 else if d = 10 then us 100 else us 200

end Sys2Proof.Machine
end

