-- ==== Sys2Proof/Machine/Operands.lean ====
section
/-! DEFINITION. Operand forms: the header of a packet, the opcode map (12 R414–R417), the checks of 11 R383, the fields
of payloads, and the interpreter's handling of a transaction (11 R380–R398, R667, R668). -/

namespace Sys2Proof.Machine

/-! Packets. -/

/-- The header of a transaction's packet (11 R377). -/
structure Header where
  opcode : Nat
  dev : Nat
  tag : Nat
  len : Nat
  queue : Nat
  noReply : Bool
  payload : List Byte

def parseHeader (bs : List Byte) : Header :=
  { opcode := getLe bs 0 2, dev := byteAt bs 2 % 128, tag := byteAt bs 3 % 64, len := getLe bs 4 2,
    queue := byteAt bs 6 % 16, noReply := bit (byteAt bs 7) 0, payload := (bs.drop 16).take (getLe bs 4 2) }

/-- Checks 1 and 2 of R383: LEN against the slots, and the CRC. -/
def framing (bs : List Byte) (slots : Nat) : Option (Status × Nat) :=
  let len := getLe bs 4 2
  if len > 4076 || slotsOf (20 + len) ≠ slots then some (.lengthInvalid, 0xFFFF)
  else if crc32 (bs.take (16 + len)) ≠ getLe bs (16 + len) 4 then some (.crcError, 0)
  else none

/-- The first offset among those given whose byte has a bit of its mask set (11 R386). -/
def firstReserved (bs : List Byte) : List (Nat × Nat) → Option Nat
  | [] => none
  | (k, m) :: r => if byteAt bs k &&& m ≠ 0 then some k else firstReserved bs r

/-- Reserved header bits and the DT of a command (check 4). -/
def headerReserved : List (Nat × Nat) :=
  [(2, 0x80), (3, 0xC0), (6, 0xF0), (7, 0xFE), (8, 0xFF), (9, 0xFF), (10, 0xFF), (11, 0xFF), (12, 0xFF), (13, 0xFF),
   (14, 0xFF), (15, 0xFF)]

/-! The opcode map. -/

/-- A row of 12 R414–R417: permitted lengths (lowest, highest, step; several alternatives), the largest reply, whether
firmware may send it, whether it may be broadcast, whether it goes to the Dome. -/
structure CmdRow where
  lens : List (Nat × Nat × Nat)
  reply : Nat
  anyone : Bool
  bcast : Bool
  dome : Bool

def CmdRow.permits (r : CmdRow) (len : Nat) : Bool :=
  r.lens.any fun l => decide (l.1 ≤ len) && decide (len ≤ l.2.1) && (len - l.1) % l.2.2 == 0

def CmdRow.lowest (r : CmdRow) : Nat := (r.lens.map fun l => l.1).foldl min 0xFFFF


def cmdGroup00 : Nat → Option CmdRow
  | 0x0000 => some ⟨[(0, 0, 1)], 4, true, true, false⟩ -- SYS_NOP
  | 0x0001 => some ⟨[(0, 0, 1)], 32, true, true, false⟩ -- SYS_GET_IDENT
  | 0x0002 => some ⟨[(0, 0, 1)], 32, true, true, false⟩ -- SYS_GET_STATUS
  | 0x0003 => some ⟨[(4, 4, 1)], 4, false, false, false⟩ -- SYS_RESET
  | 0x0004 => some ⟨[(0, 4072, 1)], 4, true, true, false⟩ -- SYS_ECHO
  | _ => none

def cmdGroup01 : Nat → Option CmdRow
  | 0x0100 => some ⟨[(4, 4, 1)], 4, false, true, true⟩ -- PWR_SET_PROFILE
  | 0x0101 => some ⟨[(0, 0, 1)], 32, true, true, false⟩ -- PWR_GET_STATE
  | 0x0102 => some ⟨[(8, 8, 1)], 8, false, true, false⟩ -- PWR_ENTER
  | 0x0103 => some ⟨[(8, 8, 1)], 4, false, true, false⟩ -- PWR_SET_WAKE
  | 0x0104 => some ⟨[(0, 0, 1)], 24, true, true, false⟩ -- PWR_GET_WAKE
  | 0x0105 => some ⟨[(16, 16, 1)], 4, true, true, false⟩ -- PWR_SET_TIMER
  | 0x0106 => some ⟨[(4, 4, 1)], 4, false, false, false⟩ -- PWR_SET_VCORE
  | 0x0107 => some ⟨[(0, 0, 1)], 24, true, true, false⟩ -- PWR_GET_RLINK
  | _ => none

def cmdGroup02 : Nat → Option CmdRow
  | 0x0200 => some ⟨[(0, 0, 1)], 32, true, true, false⟩ -- TIME_GET
  | 0x0201 => some ⟨[(0, 0, 1)], 36, true, true, false⟩ -- TIME_GET_MAP
  | 0x0202 => some ⟨[(4, 4, 1)], 4, true, true, false⟩ -- TIME_SET_EVT
  | 0x0203 => some ⟨[(0, 0, 1)], 12, true, true, false⟩ -- TIME_GET_EVT
  | _ => none

def cmdGroup03 : Nat → Option CmdRow
  | 0x0300 => some ⟨[(12, 12, 1)], 4, false, true, true⟩ -- INPUT_SET_PORT
  | 0x0301 => some ⟨[(1, 1, 1)], 28, true, true, true⟩ -- INPUT_GET_PORT
  | 0x0302 => some ⟨[(1, 1, 1)], 8, false, true, true⟩ -- INPUT_TRAIN
  | 0x0303 => some ⟨[(4, 4, 1)], 140, true, true, true⟩ -- INPUT_GET_HISTOGRAM
  | 0x0304 => some ⟨[(4, 4, 1)], 2056, true, true, true⟩ -- INPUT_GET_SPECTRUM
  | 0x0305 => some ⟨[(12, 12, 1)], 4, false, true, true⟩ -- INPUT_SET_NOTCH
  | 0x0306 => some ⟨[(1, 1, 1)], 56, true, true, true⟩ -- INPUT_GET_NOTCH
  | 0x0307 => some ⟨[(40, 40, 1)], 4, false, true, true⟩ -- INPUT_SET_ARRAY
  | 0x0308 => some ⟨[(0, 0, 1)], 44, true, true, true⟩ -- INPUT_GET_ARRAY
  | 0x0309 => some ⟨[(8, 8, 1)], 4, false, true, true⟩ -- INPUT_SET_GLOBAL
  | 0x030A => some ⟨[(0, 0, 1)], 12, true, true, true⟩ -- INPUT_GET_GLOBAL
  | _ => none

def cmdGroup04 : Nat → Option CmdRow
  | 0x0400 => some ⟨[(24, 1048, 16)], 1552, true, true, true⟩ -- ACQ_SEARCH
  | 0x0401 => some ⟨[(4, 4, 1)], 4, true, false, true⟩ -- ACQ_ABORT
  | 0x0402 => some ⟨[(8, 8, 1)], 20, true, true, true⟩ -- ACQ_CAPTURE
  | 0x0403 => some ⟨[(32, 32, 1)], 44, true, true, true⟩ -- ACQ_SKETCH_FIX
  | 0x0404 => some ⟨[(0, 0, 1)], 24, true, true, true⟩ -- ACQ_GET_STATUS
  | 0x0405 => some ⟨[(4, 4, 1)], 4, false, true, true⟩ -- ACQ_SET_WATCH
  | 0x0406 => some ⟨[(0, 0, 1)], 8, true, true, true⟩ -- ACQ_GET_WATCH
  | 0x0407 => some ⟨[(0, 0, 1)], 200, true, true, true⟩ -- ACQ_LIST_CAPTURES
  | 0x0408 => some ⟨[(12, 12, 1)], 4008, true, false, true⟩ -- ACQ_READ_CAPTURE
  | 0x0409 => some ⟨[(4, 4, 1)], 4, true, true, true⟩ -- ACQ_FREE_CAPTURE
  | 0x040A => some ⟨[(16, 16, 1)], 4, false, true, true⟩ -- ACQ_SET_SKETCH
  | 0x040B => some ⟨[(0, 0, 1)], 20, true, true, true⟩ -- ACQ_GET_SKETCH
  | _ => none

def cmdGroup05 : Nat → Option CmdRow
  | 0x0500 => some ⟨[(12, 12, 1)], 4, false, true, true⟩ -- TRK_SET_LOOP
  | 0x0501 => some ⟨[(1, 1, 1)], 16, true, true, true⟩ -- TRK_GET_LOOP
  | 0x0502 => some ⟨[(16, 16, 1)], 4, false, true, true⟩ -- TRK_SET_PALETTE
  | 0x0503 => some ⟨[(0, 0, 1)], 20, true, true, true⟩ -- TRK_GET_PALETTE
  | 0x0504 => some ⟨[(24, 24, 1)], 8, true, false, true⟩ -- TRK_ASSIGN
  | 0x0505 => some ⟨[(4, 4, 1)], 4, true, true, true⟩ -- TRK_RELEASE
  | 0x0506 => some ⟨[(1, 1, 1)], 40, true, true, true⟩ -- TRK_GET_CHANNEL
  | 0x0507 => some ⟨[(0, 0, 1)], 32, true, true, true⟩ -- TRK_GET_SUMMARY
  | 0x0508 => some ⟨[(20, 20, 1)], 4, false, true, true⟩ -- TRK_SET_CONFIG
  | 0x0509 => some ⟨[(0, 0, 1)], 24, true, true, true⟩ -- TRK_GET_CONFIG
  | _ => none

def cmdGroup06 : Nat → Option CmdRow
  | 0x0600 => some ⟨[(12, 12, 1)], 4, false, false, false⟩ -- OUT_SET_RING
  | 0x0601 => some ⟨[(1, 1, 1)], 24, true, true, false⟩ -- OUT_GET_RING
  | 0x0602 => some ⟨[(4, 4, 1)], 4, false, true, false⟩ -- OUT_SET_OUTPUT
  | 0x0603 => some ⟨[(0, 0, 1)], 8, true, true, false⟩ -- OUT_GET_OUTPUT
  | 0x0604 => some ⟨[(4, 4, 1)], 4, true, false, false⟩ -- OUT_Q15_LOSS
  | _ => none

def cmdGroup07 : Nat → Option CmdRow
  | 0x0700 => some ⟨[(12, 12, 1)], 4, false, true, true⟩ -- NAV_SET_CONFIG
  | 0x0701 => some ⟨[(0, 0, 1)], 16, true, true, true⟩ -- NAV_GET_CONFIG
  | 0x0702 => some ⟨[(16, 16, 1)], 4, true, true, true⟩ -- NAV_SET_PRIOR
  | 0x0703 => some ⟨[(24, 24, 1)], 4, true, true, true⟩ -- NAV_SET_TIME
  | 0x0704 => some ⟨[(18, 91, 1)], 4, true, true, true⟩ -- NAV_LOAD_UNIT
  | 0x0705 => some ⟨[(0, 0, 1)], 1360, true, true, true⟩ -- NAV_GET_EPH
  | 0x0706 => some ⟨[(0, 0, 1)], 88, true, true, true⟩ -- NAV_GET_SOLUTION
  | _ => none

def cmdGroup08 : Nat → Option CmdRow
  | 0x0800 => some ⟨[(24, 24, 1)], 4, false, true, true⟩ -- INTEG_SET_CONFIG
  | 0x0801 => some ⟨[(0, 0, 1)], 28, true, true, true⟩ -- INTEG_GET_CONFIG
  | 0x0802 => some ⟨[(0, 0, 1)], 32, true, true, true⟩ -- INTEG_GET_STATUS
  | _ => none

def cmdGroup09 : Nat → Option CmdRow
  | 0x0900 => some ⟨[(32, 32, 1)], 4, false, true, true⟩ -- TP_SET
  | 0x0901 => some ⟨[(1, 1, 1)], 36, true, true, true⟩ -- TP_GET
  | 0x0902 => some ⟨[(8, 8, 1)], 4, false, true, true⟩ -- TP_SET_HOLDOVER
  | 0x0903 => some ⟨[(0, 0, 1)], 28, true, true, true⟩ -- TP_GET_HOLDOVER
  | 0x0904 => some ⟨[(1, 1, 1)], 32, true, true, true⟩ -- TP_GET_STATE
  | _ => none

def cmdGroup0A : Nat → Option CmdRow
  | 0x0A00 => some ⟨[(4, 4, 1)], 12, false, true, true⟩ -- CAL_RUN
  | 0x0A01 => some ⟨[(0, 0, 1)], 40, true, true, true⟩ -- CAL_GET_STATUS
  | 0x0A02 => some ⟨[(56, 56, 1)], 4, false, true, true⟩ -- CAL_SET_CONFIG
  | 0x0A03 => some ⟨[(0, 0, 1)], 60, true, true, true⟩ -- CAL_GET_CONFIG
  | 0x0A04 => some ⟨[(4, 4, 1)], 128, true, true, true⟩ -- CAL_GET_VALUES
  | _ => none

def cmdGroup0B : Nat → Option CmdRow
  | 0x0B00 => some ⟨[(0, 0, 1)], 76, true, true, true⟩ -- DOME_GET_IDENT
  | 0x0B01 => some ⟨[(0, 0, 1)], 1032, true, true, true⟩ -- DOME_GET_CERT
  | 0x0B02 => some ⟨[(0, 0, 1)], 4, false, false, true⟩ -- DOME_SEAL
  | 0x0B03 => some ⟨[(0, 0, 1)], 76, true, true, true⟩ -- DOME_GET_COUNTERS
  | 0x0B04 => some ⟨[(8, 8, 1)], 3852, true, true, true⟩ -- DOME_READ_AUDIT
  | 0x0B05 => some ⟨[(4, 4, 1)], 4, false, false, true⟩ -- DOME_AUDIT_ACK
  | 0x0B06 => some ⟨[(8, 8, 1)], 3884, true, true, true⟩ -- DOME_READ_RECORD
  | 0x0B07 => some ⟨[(4, 4, 1)], 4, false, false, true⟩ -- DOME_RECORD_ACK
  | 0x0B08 => some ⟨[(0, 0, 1)], 32, true, true, true⟩ -- DOME_GET_STORE
  | 0x0B09 => some ⟨[(0, 0, 1)], 36, true, true, true⟩ -- DOME_GET_ODOMETER
  | 0x0B0A => some ⟨[(12, 12, 1)], 4, false, true, true⟩ -- DOME_SET_ODO_CONFIG
  | 0x0B0B => some ⟨[(0, 0, 1)], 16, true, true, true⟩ -- DOME_GET_ODO_CONFIG
  | 0x0B0C => some ⟨[(44, 44, 1), (9, 4008, 1), (4, 4, 1)], 4, false, true, true⟩ -- DOME_ZONE_LOAD
  | 0x0B0D => some ⟨[(0, 0, 1)], 108, true, true, true⟩ -- DOME_ZONE_GET
  | 0x0B0E => some ⟨[(16, 16, 1)], 8, true, true, true⟩ -- DOME_MARK
  | 0x0B0F => some ⟨[(16, 16, 1)], 180, true, true, true⟩ -- DOME_CHALLENGE
  | 0x0B10 => some ⟨[(4, 4, 1)], 4, false, true, true⟩ -- DOME_SET_REFCLK
  | 0x0B11 => some ⟨[(40, 40, 1), (9, 4008, 1), (4, 4, 1)], 4, false, false, true⟩ -- DOME_FW_LOAD
  | 0x0B12 => some ⟨[(4, 4, 1)], 4, false, false, true⟩ -- DOME_FW_ACTIVATE
  | _ => none

def cmdGroup0C : Nat → Option CmdRow
  | 0x0C00 => some ⟨[(0, 0, 1)], 32, true, true, false⟩ -- CHAIN_GET_STATUS
  | 0x0C01 => some ⟨[(0, 0, 1)], 8, false, false, false⟩ -- CHAIN_ENUMERATE
  | 0x0C02 => some ⟨[(8, 8, 1)], 4, false, true, false⟩ -- CHAIN_SET_CONFIG
  | 0x0C03 => some ⟨[(0, 0, 1)], 12, true, true, false⟩ -- CHAIN_GET_CONFIG
  | 0x0C04 => some ⟨[(0, 0, 1)], 40, true, true, false⟩ -- CHAIN_GET_COUNTERS
  | 0x0C05 => some ⟨[(4, 4, 1)], 8, false, false, false⟩ -- CHAIN_WAKE
  | _ => none

def cmdGroup0D : Nat → Option CmdRow
  | 0x0D00 => some ⟨[(16, 16, 1)], 4, true, true, false⟩ -- SERIAL_SET_UART
  | 0x0D01 => some ⟨[(1, 1, 1)], 28, true, true, false⟩ -- SERIAL_GET_UART
  | 0x0D02 => some ⟨[(4, 4, 1)], 4, true, false, false⟩ -- SERIAL_SEND_BREAK
  | 0x0D03 => some ⟨[(24, 24, 1)], 4, true, true, false⟩ -- SERIAL_SET_CAN
  | 0x0D04 => some ⟨[(1, 1, 1)], 32, true, true, false⟩ -- SERIAL_GET_CAN
  | 0x0D05 => some ⟨[(1, 1, 1)], 32, true, true, false⟩ -- SERIAL_GET_COUNTERS
  | _ => none

def cmdGroup0E : Nat → Option CmdRow
  | 0x0E00 => some ⟨[(0, 0, 1)], 48, true, true, false⟩ -- MEM_GET_STATUS
  | 0x0E01 => some ⟨[(4, 4, 1)], 16, false, true, false⟩ -- MEM_TEST
  | 0x0E02 => some ⟨[(4, 4, 1)], 12, false, true, false⟩ -- MEM_SCRUB
  | 0x0E03 => some ⟨[(8, 8, 1)], 4008, true, false, false⟩ -- MEM_NV_READ
  | 0x0E04 => some ⟨[(9, 4008, 1)], 4, true, false, false⟩ -- MEM_NV_WRITE
  | 0x0E05 => some ⟨[(4, 4, 1)], 1736, true, false, false⟩ -- MEM_NV_WEAR
  | _ => none

def cmdGroup0F : Nat → Option CmdRow
  | 0x0F00 => some ⟨[(4, 4, 1)], 4, true, true, false⟩ -- MON_SET_COUNTER
  | 0x0F01 => some ⟨[(0, 0, 1)], 136, true, true, false⟩ -- MON_GET_COUNTERS
  | 0x0F02 => some ⟨[(0, 0, 1)], 20, true, true, false⟩ -- MON_GET_REJECTS
  | 0x0F03 => some ⟨[(0, 0, 1)], 32, true, true, false⟩ -- MON_GET_HEALTH
  | _ => none

def cmdGroup10 : Nat → Option CmdRow
  | 0x1000 => some ⟨[(0, 0, 1)], 108, true, true, false⟩ -- FW_GET_INFO
  | 0x1001 => some ⟨[(40, 40, 1), (9, 4008, 1), (4, 4, 1)], 4, false, false, false⟩ -- FW_LOAD
  | 0x1002 => some ⟨[(4, 4, 1)], 4, false, false, false⟩ -- FW_ACTIVATE
  | _ => none

/-- The opcode map by group (12 R413). -/
def cmdRow (op : Nat) : Option CmdRow :=
  match op / 256 with
  | 0 => cmdGroup00 op
  | 1 => cmdGroup01 op
  | 2 => cmdGroup02 op
  | 3 => cmdGroup03 op
  | 4 => cmdGroup04 op
  | 5 => cmdGroup05 op
  | 6 => cmdGroup06 op
  | 7 => cmdGroup07 op
  | 8 => cmdGroup08 op
  | 9 => cmdGroup09 op
  | 10 => cmdGroup0A op
  | 11 => cmdGroup0B op
  | 12 => cmdGroup0C op
  | 13 => cmdGroup0D op
  | 14 => cmdGroup0E op
  | 15 => cmdGroup0F op
  | 16 => cmdGroup10 op
  | _ => none

/-- The largest final reply, of which R389 judges the room: SYS_ECHO's depends on LEN (12 R414). -/
def largestReply (op len : Nat) (r : CmdRow) : Nat := if op = 0x0004 then 4 + len else r.reply

/-! Taking a transaction (11 R398, R667). -/

/-- Ring `q` is eligible: a whole transaction that arrived in an earlier tick, no reply of the ring waiting, its reply ring enabled (12 R427). -/
def State.eligible (s : State) (q : Nat) : Bool :=
  let r := vget s.rings q
  let p := vget s.rings (q + 4)
  r.en && p.en && p.waiting.isEmpty &&
    match r.arrivals with
    | [] => false
    | a :: _ => decide (a.tick < s.clk.tick)

/-- A SYS_RESET or FW_ACTIVATE whose target includes the Drum has been taken (12 R424). -/
def State.drumResetPlanned (s : State) : Bool := s.interp.plans.any fun p => p.drum.isSome

/-- The interpreter may take a command in this tick. -/
def State.serving (s : State) : Bool := s.drumUp && !s.interp.took && !s.drumResetPlanned

/-- The ring of the next take. -/
def State.chosen (s : State) : Option Nat :=
  if !s.serving then none else
  let el := [0, 1, 2, 3].filter s.eligible
  match el.find? (fun q => decide ((vget s.rings q).passed ≥ 32)) with
  | some q => some q
  | none => el.head?

/-- The bytes of the transaction at the front of ring `q`. -/
def State.front (s : State) (q : Nat) : List Byte :=
  let r := vget s.rings q
  match r.arrivals with
  | [] => []
  | a :: _ => r.bytes s.mem.sram r.cons.toNat a.slots

/-- `t` is the transaction that the interpreter takes next. -/
def State.takes (s : State) (t : Txn) : Bool := s.chosen == some t.ring.val && s.front t.ring.val == t.bytes

/-- The take: CONS advances past the transaction, pass-over counts follow R398, one take per tick. -/
def State.take (s : State) (q : Nat) : State :=
  let el := s.eligible
  let passed (n : Nat) (r : Ring) : Ring := if n = q || !el n then { r with passed := 0 } else { r with passed := r.passed + 1 }
  let slots := match (vget s.rings q).arrivals with | [] => 0 | a :: _ => a.slots
  let s := forUpto 4 (fun n s => s.modRing n (passed n)) s
  let s := s.modRing q fun r => { r with cons := r.cons + BitVec.ofNat 32 slots, arrivals := r.arrivals.tail }
  { s with interp := { s.interp with took := true } }.count 52

/-! Answers. -/

/-- A command as its meaning sees it. -/
structure Cmd where
  id : Nat
  ring : Nat
  noReply : Bool
  payload : List Byte

/-- What a command answers once it has passed checks 1–9: a final reply; ACCEPTED, the work going on; ACCEPTED and at
once a final reply (11 R391); or the meaning has sent, or will send, its replies itself. -/
inductive Ans where
  | final (st : Status) (detail : Nat) (payload : List Byte)
  | running
  | both (st : Status) (detail : Nat) (payload : List Byte)
  | quiet

def Ans.okay (payload : List Byte) : Ans := .final .ok 0 payload
def Ans.err (st : Status) (detail : Nat) : Ans := .final st detail []

/-- A meaning of a command, over the state after the take. -/
abbrev Body := Cmd → State → State × Ans

/-- The first failing check decides (11 R383 steps 10–13). -/
def firstBad : List (Bool × Ans) → Option Ans
  | [] => none
  | (b, a) :: r => if b then some a else firstBad r

/-- A reserved payload field that is not zero (check 10), given as payload offsets and masks. -/
def reservedPayload (p : List Byte) (l : List (Nat × Nat)) : Bool × Ans :=
  match firstReserved p l with
  | none => (false, .running)
  | some k => (true, .err .reservedNonzero (16 + k))

/-- A payload field outside its range (check 12): DETAIL is the packet offset of the field. -/
def outOfRange (bad : Bool) (off : Nat) : Bool × Ans := (bad, .err .paramRange (16 + off))

/-- Runs `k` if every check passes; otherwise the state is unchanged and the first failing check is the answer. -/
def checked (s : State) (l : List (Bool × Ans)) (k : State × Ans) : State × Ans :=
  match firstBad l with
  | some a => (s, a)
  | none => k

def statusBytes (st : Status) (detail : Nat) : List Byte := le 2 st.code ++ le 2 detail

/-- The reply packet to a command in flight (11 R377, R392, R394). -/
def State.replyPacket (s : State) (f : InFlight) (final : Bool) (st : Status) (detail : Nat) (payload : List Byte) :
    List Byte :=
  packetBytes f.opcode s.number f.tag (f.ring + 4) (b2n f.noReply + 2 * b2n final)
    (if final then s.now else f.accepted) (statusBytes st detail ++ payload)

def State.inflight? (s : State) (id : Nat) : Option InFlight := s.interp.inflight.find? fun f => f.id == id

/-- The final reply of a command; none once a Drum reset has ended it (11 R396). NO_REPLY_ON_OK suppresses an OK. -/
def State.finalReply (s : State) (id : Nat) (st : Status) (detail : Nat) (payload : List Byte) : State :=
  match s.inflight? id with
  | none => s
  | some f =>
    if f.noReply && st == .ok then s.endCommand id
    else s.sendReply (f.ring + 4) (s.replyPacket f true st detail payload) (some id)

def State.finalOption (s : State) (id : Option Nat) (st : Status) (detail : Nat) (payload : List Byte) : State :=
  match id with
  | none => s
  | some id => s.finalReply id st detail payload

/-- ACCEPTED, which NO_REPLY_ON_OK does not suppress (11 R393). -/
def State.acceptedReply (s : State) (id : Nat) : State :=
  match s.inflight? id with
  | none => s
  | some f => s.sendReply (f.ring + 4) (s.replyPacket f false .accepted 0 []) none

def State.answer (s : State) (id : Nat) : Ans → State
  | .final st d p => s.finalReply id st d p
  | .running => s.acceptedReply id
  | .both st d p => (s.acceptedReply id).finalReply id st d p
  | .quiet => s

/-! Rejections at steps 1–9 (11 R384, R392). -/

/-- Place of a status among the counters of 12 R438. -/
def Status.rejectIndex : Status → Nat
  | .lengthInvalid => 0
  | .crcError => 1
  | .badAddress => 2
  | .reservedNonzero => 3
  | .undefinedOpcode => 4
  | .busy => 5
  | .tagInUse => 6
  | _ => 7

/-- The reply of a rejected transaction: UNTAKEN and FINAL set, the tag not taken, the rejection counted. -/
def State.reject (s : State) (q : Nat) (bs : List Byte) (st : Status) (detail : Nat) : State :=
  let s := { s with interp := { s.interp with rejects := vmod s.interp.rejects st.rejectIndex sat16 } }.count 53
  s.sendReply (q + 4)
    (packetBytes (getLe bs 0 2) s.number (byteAt bs 3 % 64) (q + 4) (byteAt bs 7 % 2 + 6) s.now (statusBytes st detail))
    none

/-- Checks 3–9 of R383. -/
def State.headerChecks (s : State) (q : Nat) (bs : List Byte) : Option (Status × Nat) :=
  let h := parseHeader bs
  if h.dev ≠ s.number ∧ h.dev ≠ 127 then some (.badAddress, 1)
  else if h.queue ≠ q then some (.badAddress, 2)
  else match firstReserved bs headerReserved with
  | some k => some (.reservedNonzero, k)
  | none =>
    match cmdRow h.opcode with
    | none => some (.undefinedOpcode, 0)
    | some row =>
      if !row.permits h.len then some (.lengthInvalid, row.lowest)
      else if s.interp.inflight.length ≥ 64 then some (.busy, 64)
      else if s.interp.inflight.any (fun f => f.tag == h.tag) then some (.tagInUse, 0)
      else if !row.anyone && (vget s.rings q).side then some (.privilege, 0)
      else if h.dev = 127 ∧ !row.bcast then some (.badAddress, 3)
      else none

/-- Opcodes that the Dome's boot ROM serves when both Dome slots fail (19 R624). -/
def bootRomServes (op : Nat) : Bool := [0x0B00, 0x0B01, 0x0B03, 0x0B04, 0x0B06, 0x0B08].contains op

/-- What stands in the way of a command that passed checks 1–9: room for its reply (R389), the Dome's start (R668), an
interpreter or a Dome without a valid image (19 R624). -/
def State.notServed (s : State) (q op len : Nat) (row : CmdRow) : Option (Status × Nat) :=
  if slotsOf (20 + largestReply op len row) > (vget s.rings (q + 4)).slots then some (.resourceExhausted, 0xFFFF)
  else if s.boot.drum == .noImage && !(op / 256 == 0 || op / 256 == 0x10 || op / 256 == 0x0B) then
    some (.notReady, 0xFFFF)
  else if row.dome && !s.domeUp then some (.notReady, 0xFFFE)
  else if row.dome && s.boot.dome == .noImage && !bootRomServes op then some (.notReady, 0xFFFF)
  else none

/-- The interpreter's whole handling of a transaction whose framing is good (11 R383, R389–R395). -/
def State.interpret (s : State) (body : Body) (q : Nat) (bs : List Byte) : State :=
  let chk := s.headerChecks q bs
  let s := s.take q
  match chk with
  | some (st, d) => s.reject q bs st d
  | none =>
    let h := parseHeader bs
    match cmdRow h.opcode with
    | none => s
    | some row =>
      let id := s.interp.nextId
      let f : InFlight := { id := id, tag := h.tag, ring := q, opcode := h.opcode, noReply := h.noReply,
                            accepted := s.now, dome := row.dome }
      let s := { s with interp := { s.interp with nextId := id + 1, inflight := s.interp.inflight ++ [f] } }
      match s.notServed q h.opcode h.len row with
      | some (st, d) => s.finalReply id st d []
      | none =>
        let r := body { id := id, ring := q, noReply := h.noReply, payload := h.payload } s
        r.1.answer id r.2

/-- The row of a host command: it runs when the interpreter takes `t` next, `t`'s framing is good and `t` carries this
command; otherwise the transaction belongs to another row, or is not taken, and nothing changes. -/
def hostCommand (isRow : Nat → List Byte → Bool) (body : Body) (t : Txn) (s : State) : Res :=
  let h := parseHeader t.bytes
  if s.takes t && (framing t.bytes (t.bytes.length / 64)).isNone && isRow h.opcode h.payload then
    .next (s.interpret body t.ring.val t.bytes)
  else .next s

/-- The rows of a command with one row for its opcode. -/
def opIs (op : Nat) : Nat → List Byte → Bool := fun o _ => o == op

/-- The rows of a command whose payload byte `off` selects the row. -/
def opByte (op off v : Nat) : Nat → List Byte → Bool := fun o p => o == op && byteAt p off == v

/-- MALFORMED_TRANSACTION (11 R387): a transaction that fails step 1 or 2 is discarded whole. -/
def execMalformedTransaction (t : Txn) (s : State) : Res :=
  match framing t.bytes (t.bytes.length / 64) with
  | none => .next s
  | some (st, d) =>
    if s.takes t then .next ((s.take t.ring.val).reject t.ring.val t.bytes st d) else .next s

/-- UNDEFINED_OPCODE (11 R385): no side effect but the reply and the count; an earlier failing check is reported first. -/
def execUndefinedOpcode (t : Txn) (s : State) : Res :=
  hostCommand (fun o _ => (cmdRow o).isNone) (fun _ s => (s, .running)) t s

/-- A reply that waited is written: the resets that follow it are counted from now (12 R423). -/
def ResetPlan.written (p : ResetPlan) (id : Option Nat) (now : Nat) (prod : BitVec 32) : ResetPlan :=
  if p.waits.isSome && p.waits == id then
    { p with waits := none, made := now, dome := p.dome.map (· + (now - p.made)), drum := p.drum.map (· + (now - p.made))
             reply := p.reply.map fun r => (r.1, prod) }
  else p

/-- REPLY_RELEASE (11 R407): the oldest reply waiting of ring `q` + 4 is written once it fits. -/
def execReplyRelease (q : Fin 4) (s : State) : Res :=
  let n := q.val + 4
  let r := vget s.rings n
  match r.waiting with
  | [] => .next s
  | w :: ws =>
    if s.drumUp && r.fitsPacket w.bytes.length then
      let s := (((s.modRing n fun r => { r with waiting := ws }).produce n w.bytes).count 54).endOption w.frees
      .next { s with interp := { s.interp with plans := s.interp.plans.map fun p => p.written w.frees s.clk.tick (vget s.rings n).prod } }
    else .next s

end Sys2Proof.Machine
end

