-- ==== Sys2Proof/Machine/Varnish.lean ====
section
/-! DEFINITION. Varnish: the audit trail (09 R315–R320), the odometer and the zones (R321–R328), the signed records and
their store (R329–R337), and their offering to Q13 (R334). -/

namespace Sys2Proof.Machine

/-- A quotient, rounded as the device rounds it where the spec does not say (DESIGN CHOICE, log 7). -/
def rnd (num : Int) (den : Nat) : Int :=
  num / den + if num % den ≠ 0 ∧ Config.roundsUp num den then 1 else 0

/-! GPS time from the mapping in force (03 R108). -/

/-- GPS time of a DT, in units of 2⁻³² s from the GPS origin. -/
def TimeMap.gps (m : TimeMap) (dt : Nat) : Int :=
  ((m.week * 604800 + m.tow) * 2 ^ 32 + m.frac : Nat) + ((dt : Int) - m.ref) + rnd (((dt : Int) - m.ref) * m.rate) (10 ^ 12)

/-- WEEK, TOW_S and TOW_FRAC of a GPS time. -/
def gpsFields (g : Int) : Nat × Nat × Nat :=
  let n := g.toNat
  (n / 2 ^ 32 / 604800, n / 2 ^ 32 % 604800, n % 2 ^ 32)

/-- Time fields of records and entries: WEEK, TOW_S, TOW_FRAC, bound in ns; zero without a mapping (09 R316, R330). -/
def State.timeFields (s : State) (dt : Nat) : Nat × Nat × Nat × Nat :=
  match s.nav.map with
  | none => (0, 0, 0, 0)
  | some m =>
    let f := gpsFields (m.gps dt)
    (f.1, f.2.1, f.2.2, min 0xFFFF_FFFF (rnd m.bound 1000).toNat)

/-- The time is QUALIFIED (03 R107). -/
def State.timeQualified (s : State) : Bool :=
  match s.nav.map with
  | none => false
  | some m => m.qualified

/-! The audit trail. -/

def State.modSeal (s : State) (f : Seal → Seal) : State := { s with sealed := f s.sealed }

/-- Main-area entries not acknowledged (09 R320). -/
def Seal.auditUnacked (v : Seal) : Nat := v.auditSeq - v.auditAck

/-- AUDIT_HOLD: 3,776 entries unacknowledged (09 R320). -/
def Seal.auditHold (v : Seal) : Bool := decide (v.auditUnacked ≥ 3776)

/-- `k` entries can be written without passing the hold's limit (09 R314). -/
def Seal.canEnter (v : Seal) (k : Nat) : Bool := !v.auditHold && decide (v.auditUnacked + k ≤ 3776)

/-- CHAIN: the first 16 bytes of the SHA-256 of the previous entry (09 R316). -/
def Seal.chainHead (v : Seal) : List Byte :=
  match v.main.getLast? with
  | none => zeros 16
  | some e => (sha256 e.bytes).take 16

/-- An entry's 64 bytes (09 R316). -/
def State.entryBytes (s : State) (type dt : Nat) (coarse atStart : Bool) (detail : List Byte) : List Byte :=
  let t := s.timeFields dt
  le 4 (s.sealed.auditSeq + 1) ++ le 4 s.clk.epoch ++ le 8 dt ++ le 2 type ++
    le 1 s.sealed.state.code ++ le 1 (bitsOfEntry coarse s.nav.map.isSome atStart) ++ le 2 t.1 ++ le 2 0 ++ le 4 t.2.1 ++
    fit 20 detail ++ s.sealed.chainHead
where
  bitsOfEntry (coarse gnss atStart : Bool) : Nat := b2n coarse + 4 * b2n gnss + 8 * b2n atStart

/-- Sets bit 1 of byte 19 in a pinned copy. -/
def pinnedCopy (bs : List Byte) : List Byte := bs.take 19 ++ le 1 (byteAt bs 19 ||| 2) ++ bs.drop 20

/-- Writes an entry into the main area (3,840 entries, oldest reused first), pinned types also into the pinned area. -/
def State.writeEntry (s : State) (type cause dt : Nat) (coarse atStart : Bool) (detail : List Byte) : State :=
  let bs := s.entryBytes type dt coarse atStart detail
  let n := s.sealed.auditSeq + 1
  let pin := type = 0x0001 ∨ type = 0x0007
  s.modSeal fun v =>
    let main : List Stored := v.main ++ [({ seq := n, cause := cause, dt := dt, bytes := bs } : Stored)]
    { v with
      main := main.drop (main.length - 3840)
      pinned := if pin then (v.pinned ++ [({ seq := n, cause := cause, dt := dt, bytes := pinnedCopy bs } : Stored)]).take 256 else v.pinned
      auditSeq := n
      counters := vmod v.counters 0 sat32 }

/-- An event with an audit entry: its counter (a row of 09 R318) advances whether or not the entry can be written; with
one slot left AUDIT_OVERFLOW takes it; later events advance only their counters and AUDIT_OVERFLOWS (R320). -/
def State.audit (s : State) (type : Nat) (row : Option Nat) (cause dt : Nat) (coarse atStart : Bool)
    (detail : List Byte) : State :=
  let s := match row with
    | none => s
    | some r => s.modSeal fun v => { v with counters := vmod v.counters r sat32 }
  if s.sealed.auditUnacked < 3839 then s.writeEntry type cause dt coarse atStart detail
  else
    let s' := if s.sealed.auditUnacked = 3839 then
        s.writeEntry 0x0011 cause dt coarse atStart
          (le 16 (match row with | none => if type = 0x000C then 2 ^ 12 else 0 | some r => 2 ^ r))
      else s
    s'.modSeal fun v =>
      { v with counters := vmod v.counters 17 sat32, overflowed := true, notEntered := v.notEntered + 1,
               notEnteredDt := dt }

/-! Signed records. -/

def Seal.storeUnacked (v : Seal) : Nat := v.storeSeq - v.storeAck

/-- Bytes 0–111 of a signed record at its signing (09 R330). -/
def State.recordBody (s : State) (r : DueRecord) : List Byte :=
  let t := s.timeFields r.dt
  le 2 1 ++ le 1 r.kind ++ le 1 s.sealed.state.code ++ le 4 (s.sealed.storeSeq + 1) ++ le 8 Config.serial ++
    le 4 s.clk.epoch ++ le 8 r.dt ++ le 2 t.1 ++ le 1 r.verdict ++ le 1 (r.flags + 8 * b2n s.sealed.auditHold) ++
    le 4 t.2.1 ++ le 4 t.2.2.1 ++ le 4 t.2.2.2 ++ le 4 s.sealed.auditSeq ++ fit 64 r.body

/-- Counts a record that is not written for the next GAP record (09 R331, R336). -/
def GapCounts.add (g : GapCounts) (kind : Nat) : GapCounts :=
  if kind = 1 then { g with odometer := satAdd 0xFFFF_FFFF g.odometer 1 }
  else if kind = 2 then { g with zone := sat16 g.zone }
  else if kind = 5 then { g with mark := sat16 g.mark }
  else g

/-- The worst held verdict of what a GAP record will cover (R331). -/
def Seal.worstSeen (v : Seal) (held : Nat) : Seal :=
  let up (h : Hold) : Hold := { h with worst := max h.worst held }
  { v with hold := v.hold.map up, lowFrom := v.lowFrom.map up }

/-- A hold or a low supply begins. -/
def State.startHold (s : State) (dt : Nat) : Hold :=
  { start := dt, epoch := s.clk.epoch, measured := s.sealed.measured, bridged := s.sealed.bridged, worst := s.nav.held }

/-- A record falls due (09 R336, 21 R649): it joins the records to be signed; in a hold, or under low supply, it is
counted by kind; with the store full, RECORD_HOLD is entered. A SEAL_STATE record takes the reserved slot. -/
def State.recordDue (s : State) (r : DueRecord) : State :=
  let v := s.sealed
  if r.kind = 3 then s.modSeal fun v => { v with due := v.due ++ [r] }
  else if v.hold.isSome then
    if r.kind = 4 ∧ v.storeUnacked + v.due.length ≤ 10239 then s.modSeal fun v => { v with due := v.due ++ [r] }
    else s.modSeal fun v => { v with counts := v.counts.add r.kind }
  else if v.storeUnacked + v.due.length ≥ 10239 then
    let s := s.audit 0x000D (some 13) r.cause s.now false false (le 4 v.storeSeq)
    s.modSeal fun v =>
      { v with
        hold := some (s.startHold r.dt)
        due := if r.kind = 4 then v.due ++ [r] else v.due
        counts := if r.kind = 4 then v.counts else v.counts.add r.kind }
  else if s.pwr.lowSupply ∧ r.kind ≠ 4 then s.modSeal fun v => { v with counts := v.counts.add r.kind }
  else s.modSeal fun v => { v with due := v.due ++ [r] }

/-- Flags of byte 31 (09 R330), less AUDIT_HOLD which stands at the signing. -/
def State.recordFlags (s : State) (sketch inGap coarse : Bool) : Nat :=
  b2n s.timeQualified + 2 * b2n sketch + 4 * b2n inGap + 16 * b2n coarse

/-- A SEAL_STATE record at a change of seal state (09 R329, R331 kind 4). -/
def State.sealStateRecord (s : State) (old : SealState) (cause dt : Nat) (coarse atStart : Bool) : State :=
  let img := if s.domeImages.active then s.domeImages.b else s.domeImages.a
  s.recordDue
    { kind := 4, cause := cause, dt := dt, flags := s.recordFlags false false coarse, verdict := s.nav.held,
      body := le 1 old.code ++ le 1 s.sealed.state.code ++ le 1 (b2n atStart) ++ le 1 0 ++
        le 4 (vget s.sealed.counters 1) ++ le 4 (vget s.sealed.counters 2) ++ fit 32 img.sha ++ le 4 img.interp }

/-- The loop opens in SEALED (09 R311): OPENED, SEAL_OPENED entry, SEAL_BREAKS, SEAL_STATE record. -/
def State.sealOpened (s : State) (dt : Nat) (coarse atStart : Bool) : State :=
  if s.sealed.state ≠ .sealed then s else
  let (cause, s) := s.claim 3
  let s := s.modSeal fun v => { v with state := .opened }
  let s := s.audit 0x0002 (some 1) cause dt coarse atStart (le 4 (satAdd 0xFFFF_FFFF (vget s.sealed.counters 1) 1))
  s.sealStateRecord .sealed cause dt coarse atStart

/-- A GAP record falls due (09 R331 kind 3, R336, 21 R649). -/
def State.gapRecord (s : State) (cause : Nat) (gapCause worst : Nat) (dtFrom dtTo measFrom bridgedFrom epochFrom : Nat) :
    State :=
  let c := s.sealed.counts
  let s := s.modSeal fun v => { v with counts := {} }
  s.recordDue
    { kind := 3, cause := cause, dt := dtTo, flags := s.recordFlags false false false, verdict := s.nav.held,
      body := le 1 gapCause ++ le 1 worst ++ le 2 0 ++ le 8 dtFrom ++ le 8 dtTo ++ le 4 c.odometer ++ le 2 c.zone ++
        le 2 c.mark ++ le 4 0 ++ le 8 measFrom ++ le 8 s.sealed.measured ++ le 8 (s.sealed.bridged - bridgedFrom) ++
        le 4 epochFrom ++ le 1 (b2n c.abandoned) }

/-- The engine completes the oldest due record (09 R332): it takes the next STORE_SEQ and enters the store; a GAP record is
entered in the audit trail. Under low supply only GAP and SEAL_STATE records are signed. -/
def State.signOldest (s : State) : State :=
  match s.sealed.due with
  | [] => s
  | r :: rest =>
    if !s.domeService || (s.pwr.lowSupply && !(r.kind == 3 || r.kind == 4)) then s else
    let (k, s) := s.draw
    let body := s.recordBody r
    let bytes := body ++ fit 64 (Config.signature k (sha256 body))
    let n := s.sealed.storeSeq + 1
    let s := s.modSeal fun v =>
      let recs : List Stored := v.records ++ [({ seq := n, cause := r.cause, dt := r.dt, bytes := bytes } : Stored)]
      { v with due := rest, storeSeq := n, records := recs.drop (recs.length - 10240) }
    if r.kind = 3 then s.audit 0x000E (some 14) r.cause s.now false false (le 4 n ++ le 1 (byteAt r.body 0)) else s

/-- SIGNATURE_COMPLETE. -/
def execSignatureComplete (s : State) : Res := .next s.signOldest

/-! The odometer and the zones. -/

/-- Commit of R324. -/
def State.commitOdo (s : State) : State :=
  s.modSeal fun v =>
    { v with commit := { measured := v.measured, bridged := v.bridged, last := v.last, zones := v.zones }, commitDt := s.now }

/-- Even-odd rule in the latitude–longitude plane (09 R325): crossings of the edges by the parallel through the point. -/
def edgesOf : List (Int × Int) → List ((Int × Int) × (Int × Int))
  | [] => []
  | a :: r => (a :: r).zip (r ++ [a])

/-- The edge (latitudes, longitudes) is met by the ray of growing longitude from the point. -/
def rayMeets (lat lon : Int) (e : (Int × Int) × (Int × Int)) : Bool :=
  let (la, oa) := e.1
  let (lb, ob) := e.2
  if decide (la > lat) == decide (lb > lat) then false
  else
    let num := (lat - la) * (ob - oa) + oa * (lb - la) - lon * (lb - la)
    if lb > la then decide (num > 0) else decide (num < 0)

def Polygon.contains (p : Polygon) (lat lon : Int) : Bool :=
  ((edgesOf p.vertices).filter (rayMeets lat lon)).length % 2 == 1

/-- One polygon at an accepted solution (09 R326): its new state and, at a crossing, the side entered. IN_GAP stands where a break lies between
the first solution on the new side and the last on the old one, or ends at the confirming solution (R327, R345). -/
def ZoneState.update (z : ZoneState) (p : Polygon) (cfg : OdoConfig) (a : Accepted) (broke : Bool) :
    ZoneState × Option (ZoneState × ZoneSide) :=
  let found : ZoneSide := if p.contains a.lat a.lon then .inside else .outside
  if z.side = .unknown ∨ z.side = found then ({ side := found, out := some a }, none)
  else
    let first := match z.first with | none => a | some f => f
    let gap := if z.first.isNone then broke else z.gap
    let far := decide (Config.edgeDistance a.lat a.lon p.vertices > max (a.hpe * 100) (cfg.margin * 1000))
    let n := if far then z.confirms + 1 else 0
    let z' : ZoneState := { z with first := some first, confirms := n, gap := gap }
    if n ≥ cfg.confirm then ({ side := found, out := some a }, some ({ z' with gap := gap || broke }, found)) else (z', none)

/-- ZONE_CROSSING record of polygon `i` (09 R327, R331 kind 2). -/
def State.crossingRecord (s : State) (i : Nat) (p : Polygon) (z : ZoneState) (side : ZoneSide) (a : Accepted)
    (cause verdict : Nat) : State :=
  match z.out, z.first with
  | some o, some f =>
    let k := min (2 ^ 32) (Config.crossFraction (o.lat, o.lon) (f.lat, f.lon) p.vertices)
    let at_ (x y : Int) : Int := x + rnd ((y - x) * k) (2 ^ 32)
    s.recordDue
      { kind := 2, cause := cause, dt := a.dt, flags := s.recordFlags a.sketch z.gap false, verdict := verdict,
        body := le 4 p.id ++ le 1 p.cls ++ le 1 (if side = .inside then 0 else 1) ++ le 1 i ++
          le 1 (b2n (decide (o.epoch ≠ a.epoch))) ++ le 8 o.dt ++ le 8 f.dt ++ le 8 (at_ o.dt f.dt).toNat ++
          leInt 4 (at_ o.lat f.lat) ++ leInt 4 (at_ o.lon f.lon) ++ le 2 a.hpe ++ le 2 0 ++
          le 8 (at_ o.measured f.measured).toNat }
  | _, _ => s

/-- The GPS interval in which a time lies: whole multiples of ODO_INTERVAL passed (09 R329). -/
def State.odoIndex (s : State) (dt : Nat) : Option (Nat × Bool) :=
  match s.nav.map with
  | none => none
  | some m =>
    if s.sealed.odo.interval = 0 then none
    else
      let g := (m.gps dt).toNat
      some (g / (s.sealed.odo.interval * 2 ^ 32), g % (s.sealed.odo.interval * 2 ^ 32) == 0)

/-- An ODOMETER record falls due at this DT: a multiple lies after the last one served; the first of all serves only an
exact multiple (DEDUCED, log 20). -/
def State.odoFallsDue (s : State) (dt : Nat) : Bool :=
  match s.odoIndex dt, s.sealed.nextOdo with
  | none, _ => false
  | some (k, _), some l => decide (k ≠ l)
  | some (_, exact), none => exact

def State.markOdo (s : State) (dt : Nat) : State :=
  match s.odoIndex dt with
  | none => s
  | some (k, _) => s.modSeal fun v => { v with nextOdo := some k }

/-- Whether the pair of accepted solutions is integrated rather than bridged (09 R322). -/
def Seal.integrates (v : Seal) (p a : Accepted) : Bool :=
  v.brk.isNone && !p.sketch && !a.sketch && p.epoch == a.epoch && p.segment == a.segment && p.velValid && a.velValid &&
    decide (a.dt - p.dt ≤ v.odo.gap * 2 ^ 32)

/-- Speed that counts in the integral: below ODO_MIN_SPEED it is 0 (09 R322). -/
def OdoConfig.speed (c : OdoConfig) (a : Accepted) : Nat :=
  let v := Config.hspeed a.velE a.velN
  if v < c.minSpeed * 10 then 0 else v

/-- MEASURED and BRIDGED after the pair (09 R322, R323). MEASURED keeps the part below 1 mm in units of 2⁻³³ mm. -/
def Seal.advance (v : Seal) (p a : Accepted) : Seal :=
  if v.integrates p a then
    let t := v.measuredSub + (v.odo.speed p + v.odo.speed a) * (a.dt - p.dt)
    { v with measured := v.measured + t / 2 ^ 33, measuredSub := t % 2 ^ 33, integrating := true }
  else
    let d := Config.geodesic p.lat p.lon a.lat a.lon
    { v with bridged := if d > (p.hpe + a.hpe) * 100 then v.bridged + d else v.bridged, integrating := false }

/-- Zones at an accepted solution, ascending by index. -/
def State.zonesAt (s : State) (a : Accepted) (cause verdict : Nat) (broke : Bool) : State :=
  forUpto s.sealed.table.polygons.length (fun i s =>
    match s.sealed.table.polygons[i]? with
    | none => s
    | some p =>
      let z := s.sealed.zones.getD i {}
      let (z', c) := z.update p s.sealed.odo a broke
      let s := s.modSeal fun v => { v with zones := v.zones.set i z' }
      match c with
      | none => s
      | some (zc, side) => s.crossingRecord i p zc side a cause verdict) s

/-- An accepted solution (09 R321): new settings of R350 apply, the pair is integrated or bridged, a break is reported first, then crossings, then
an ODOMETER record that falls due; the state is committed every 100 m (R324). -/
def State.acceptSolution (s : State) (a : Accepted) (cause verdict : Nat) : State :=
  let s := s.modSeal fun v => { v with odo := v.odoNext.getD v.odo, odoNext := none }
  let v0 := s.sealed
  let s := match v0.last with
    | none => s
    | some p => s.modSeal fun v => v.advance p a
  let broke := v0.brk.isSome && v0.last.isSome
  let a := { a with measured := s.sealed.measured }
  let s := match v0.brk, v0.last with
    | some b, some p =>
      if v0.hold.isSome then
        s.modSeal fun v => { v with hold := v.hold.map fun (h : Hold) => { h with worst := max h.worst b.worst } }
      else if b.covered then s
      else s.gapRecord cause b.cause b.worst p.dt a.dt v0.measured v0.bridged p.epoch
    | _, _ => s
  let s := s.modSeal fun v =>
    { v with brk := none, last := some a, accepted := satAdd 0xFFFF_FFFF v.accepted 1, sinceOdo := v.sinceOdo + 1 }
  let s := s.zonesAt a cause verdict broke
  let s := if s.odoFallsDue a.dt then
      let s' := s.recordDue
        { kind := 1, cause := cause, dt := a.dt, flags := s.recordFlags a.sketch false false, verdict := verdict,
          body := le 8 s.sealed.measured ++ le 8 s.sealed.bridged ++ leInt 4 a.lat ++ leInt 4 a.lon ++ leInt 4 a.height ++
            le 2 a.hpe ++ le 2 0 ++ le 4 a.solNo ++ le 4 s.sealed.sinceOdo }
      s'.modSeal fun v => { v with sinceOdo := 0 }
    else s
  let s := s.markOdo a.dt
  if s.sealed.measured + s.sealed.bridged ≥ s.sealed.commit.measured + s.sealed.commit.bridged + 100000 then s.commitOdo
  else s

/-- A solution that is not accepted because of its verdict or an unqualified time (09 R323, R329): a break begins or
goes on; an ODOMETER record that falls due is counted. -/
def State.rejectSolution (s : State) (dt verdict : Nat) : State :=
  let s := s.modSeal fun v =>
    { v with
      integrating := false
      brk := match v.brk with
        | none => some { cause := 2, worst := verdict }
        | some b => some { b with worst := max b.worst verdict } }
  let s := if s.odoFallsDue dt then s.modSeal fun v => { v with counts := v.counts.add 1 } else s
  s.markOdo dt

/-- ODOMETER_COMMIT (09 R324): every 60 s of DT while integrating. -/
def execOdometerCommit (s : State) : Res :=
  if s.domeService && s.sealed.integrating && decide (s.now ≥ s.sealed.commitDt + 60 * second) then .next s.commitOdo
  else .next s

/-! Offering to Q13 (09 R334). -/

/-- The next record of each type to offer: the oldest not yet offered. -/
def Seal.nextAudit (v : Seal) : Option Stored := v.main.find? fun e => decide (e.seq ≥ v.auditOffer)
def Seal.nextRecord (v : Seal) : Option Stored := v.records.find? fun e => decide (e.seq ≥ v.storeOffer)

/-- After a Drum reset or a new Q13: offered again from the oldest unacknowledged record of each type. -/
def Seal.reoffer (v : Seal) : Seal := { v with auditOffer := v.auditAck + 1, storeOffer := v.storeAck + 1 }

/-- The record to offer: the older event first, an audit entry before a record of the same DT (DEDUCED, log 21). -/
def Seal.nextOffer (v : Seal) : Option (Bool × Stored) :=
  match v.nextAudit, v.nextRecord with
  | none, none => none
  | some a, none => some (true, a)
  | none, some r => some (false, r)
  | some a, some r => if a.dt ≤ r.dt then some (true, a) else some (false, r)

/-- VARNISH_RECORD_OFFER: the waiting record enters Q13 once it fits there whole. -/
def execVarnishRecordOffer (s : State) : Res :=
  match s.sealed.nextOffer with
  | none => .next s
  | some (isAudit, r) =>
    if s.drumUp && s.domeUp && s.recordFits 13 r.bytes.length then
      let s := s.offer 13 (r.cause * 256 + if isAudit then 0x71 else 0x70) r.dt r.bytes
      .next (s.modSeal fun v =>
        if isAudit then { v with auditOffer := r.seq + 1 } else { v with storeOffer := r.seq + 1 })
    else .next s

/-! The mailbox (01 R18, R22, 17 R569). -/

/-- MAILBOX_OUTPUT_DELIVERY: D0 takes the oldest held record into its ring; a written record's LOST carries the drops
made in the mailbox. With the last one D0 clears the doorbell (DESIGN CHOICE, log 59). -/
def execMailboxOutputDelivery (s : State) : Res :=
  match s.mbx.out with
  | [] => .next s
  | o :: rest =>
    if !s.drumUp then .next s else
    let s := { s with mbx := { s.mbx with out := rest, dbIn := s.mbx.dbIn && !rest.isEmpty } }
    let n := vget s.mbx.dropped o.ring
    let s := if s.recordFits o.ring o.payload.length then
        let s' := s.modRing o.ring fun r => { r with pending := satAdd 0xFFFF r.pending n }
        { s' with mbx := { s'.mbx with dropped := vset s'.mbx.dropped o.ring 0 } }
      else s
    .next (s.offer o.ring o.rtype o.dt o.payload).releaseHeld

/-- MAILBOX_PACKET_TAKE: a packet that fails its length or CRC check is discarded and counted, without effect; with it the Dome clears its
doorbell (17 R570; DESIGN CHOICE, log 59). -/
def execMailboxPacketTake (lenOk crcOk : Bool) (s : State) : Res :=
  if !s.domeUp then .next s else
  let n := if lenOk && crcOk then s.mbx.discards else satAdd 0xFFFF_FFFF s.mbx.discards 1
  .next { s with mbx := { s.mbx with discards := n, dbOut := false } }

/-- Lane `k` of a word. -/
def lane (w : Word) (k : Nat) : Byte := (w >>> (8 * k)).setWidth 8

/-- Both ports write a mailbox word: in each lane port A's byte stands. -/
def State.mailboxWrite (s : State) (word : BitVec 14) (aLanes bLanes : BitVec 4) (aData bData : Word) : State :=
  let put (m : Bytes) (k : Nat) : Bytes :=
    if aLanes.getLsbD k then m.write (4 * word.toNat + k) (lane aData k)
    else if bLanes.getLsbD k then m.write (4 * word.toNat + k) (lane bData k)
    else m
  { s with mem := { s.mem with mailbox := [0, 1, 2, 3].foldl put s.mem.mailbox } }

/-- A collision is counted. -/
def State.collided (s : State) (word : BitVec 14) (lost : BitVec 4) : State :=
  ({ s with mbx := { s.mbx with collide := true, word := word, lanes := lost, count := sat16 s.mbx.count } }.count 58).modSeal
    fun v => { v with counters := vmod v.counters 12 sat32 }

/-- MAILBOX_COLLISION (17 R569, 09 R319): port A's bytes stand where both write; a dropped port B byte is a collision,
counted, and entered at most once per second of DT. -/
def execMailboxCollision (word : BitVec 14) (aLanes bLanes : BitVec 4) (aData bData : Word) (s : State) : Res :=
  if !s.fast then .next s else
  let s := s.mailboxWrite word aLanes bLanes aData bData
  let lost := aLanes &&& bLanes
  if lost = 0 then .next s else
  let s := s.collided word lost
  let since := s.mbx.sinceEntry + 1
  let sec := s.now / 2 ^ 32
  if s.mbx.auditSecond = some sec || !s.domeUp then .next { s with mbx := { s.mbx with sinceEntry := since } }
  else
    let (cause, s) := s.claim 9
    let s := s.audit 0x000C none cause s.now false false (le 2 word.toNat ++ le 1 lost.toNat ++ le 1 0 ++ le 4 since)
    .next { s with mbx := { s.mbx with sinceEntry := 0, auditSecond := some sec } }

end Sys2Proof.Machine
end

