-- ==== Sys2Proof/Machine/DomeCmd.lean ====
section
/-! DEFINITION. The DOME group (09 R346–R352, R312, R343–R344) and the U6 inspection service (R340–R342). -/

namespace Sys2Proof.Machine

/-! Images. -/

/-- Slot A or B of a part's images. -/
def Images.slot (i : Images) (b : Bool) : ImageSlot := if b then i.b else i.a
def Images.now (i : Images) : ImageSlot := i.slot i.active
def Images.other (i : Images) : ImageSlot := i.slot (!i.active)
def Images.setSlot (i : Images) (b : Bool) (v : ImageSlot) : Images := if b then { i with b := v } else { i with a := v }

/-- FW_CHECKSUM (09 R308) and the Mbogito version in force; version 0 from the boot ROM (19 R624). -/
def State.fwChecksum (s : State) : List Byte := fit 32 s.domeImages.now.sha
def State.mbogito (s : State) : Nat := if s.boot.dome == .noImage then 0 else s.domeImages.now.interp

/-! Query bodies. -/

/-- A query: no effect but its reply. -/
def query (f : State → List Byte) : Body := fun _ s => (s, .okay (f s))

def identPayload (s : State) : List Byte :=
  le 8 Config.serial ++ le 4 Config.sysIdent.toNat ++ le 4 s.mbogito ++ le 1 (b2n s.domeImages.active) ++
    le 1 s.sealed.state.code ++ le 1 (b2n s.sealed.loopOpen) ++
    le 1 (b2n s.sealed.auditHold + 2 * b2n s.sealed.hold.isSome) ++ s.fwChecksum ++ le 4 s.clk.epoch ++
    le 4 s.sealed.auditSeq ++ le 4 s.sealed.storeSeq ++
    le 4 (if s.domeImages.other.valid then s.domeImages.other.interp else 0) ++ le 4 s.domeImages.fused

def bodyDomeGetIdent : Body := query identPayload

def bodyDomeGetCert : Body := query fun _ =>
  let c := Config.certificate.take 1024
  le 2 c.length ++ le 2 0 ++ c

def bodyDomeGetCounters : Body := query fun s => s.sealed.counters.toList.flatMap (le 4)

/-- Consecutive entries or records from a sequence number on. -/
def readStored (l : List Stored) (from_ count : Nat) : List Byte :=
  let r := (l.filter fun e => decide (e.seq ≥ from_)).take count
  le 4 (match r with | [] => 0 | e :: _ => e.seq) ++ le 1 r.length ++ zeros 3 ++ r.flatMap fun e => e.bytes

/-- DOME_READ_AUDIT (09 R348). -/
def bodyDomeReadAudit : Body := fun c s =>
  let p := c.payload
  let count := byteAt p 4
  checked s
    [reservedPayload p [(6, 0xFF), (7, 0xFF)], (decide (count > 60), .err .lengthExceeds 20),
     outOfRange (decide (getLe p 0 4 > s.sealed.auditSeq)) 0, outOfRange (count == 0) 4,
     outOfRange (decide (byteAt p 5 > 1)) 5]
    (s, .okay (readStored (if byteAt p 5 = 1 then s.sealed.pinned else s.sealed.main) (getLe p 0 4) count))

/-- DOME_READ_RECORD (09 R348). -/
def bodyDomeReadRecord : Body := fun c s =>
  let p := c.payload
  let count := byteAt p 4
  checked s
    [reservedPayload p [(5, 0xFF), (6, 0xFF), (7, 0xFF)], (decide (count > 22), .err .lengthExceeds 20),
     outOfRange (decide (getLe p 0 4 > s.sealed.storeSeq)) 0, outOfRange (count == 0) 4]
    (s, .okay (readStored s.sealed.records (getLe p 0 4) count))

/-- The oldest retained STORE_SEQ, 0 while none is retained. -/
def Seal.oldestRecord (v : Seal) : Nat := match v.records with | [] => 0 | r :: _ => r.seq

def bodyDomeGetStore : Body := query fun s =>
  let v := s.sealed
  le 2 10240 ++ le 2 v.storeUnacked ++ le 4 v.oldestRecord ++ le 4 v.storeSeq ++ le 4 v.storeAck ++
    le 2 v.auditUnacked ++ le 1 (b2n v.hold.isSome + 2 * b2n v.auditHold) ++ le 1 0 ++
    le 8 (match v.hold with | none => 0 | some h => h.start)

def bodyDomeGetOdometer : Body := query fun s =>
  let v := s.sealed
  le 8 v.measured ++ le 8 v.bridged ++ le 8 (match v.last with | none => 0 | some a => a.dt) ++ le 4 v.accepted ++
    le 1 (b2n v.integrating + 2 * b2n v.brk.isSome) ++ zeros 3

def OdoConfig.bytes (o : OdoConfig) : List Byte :=
  le 2 o.minSpeed ++ le 2 o.gap ++ le 4 o.interval ++ le 2 o.margin ++ le 1 o.confirm ++ le 1 0

def bodyDomeGetOdoConfig : Body := query fun s => s.sealed.odo.bytes

def bodyDomeZoneGet : Body := query fun s =>
  let t := s.sealed.table
  let sideMask (f : ZoneSide → Bool) : Nat := maskOf 256 fun i =>
    decide (i < t.polygons.length) && f (s.sealed.zones.getD i {}).side
  le 2 t.polygons.length ++ le 2 ((t.polygons.map fun p => p.vertices.length).sum) ++ fit 32 t.sha ++ le 4 t.auditSeq ++
    le 32 (sideMask (· == .inside)) ++ le 32 (sideMask (· == .unknown))

/-- DOME_CHALLENGE (09 R352): a signature that stores nothing. -/
def bodyDomeChallenge : Body := fun c s =>
  let (k, s) := s.draw
  let p := fit 16 c.payload ++ le 8 Config.serial ++ le 8 s.now ++ le 4 s.clk.epoch ++ le 1 s.sealed.state.code ++ zeros 3 ++
    le 4 s.sealed.auditSeq ++ s.sealed.chainHead ++ le 4 s.sealed.storeSeq ++ le 8 s.sealed.measured ++
    le 8 s.sealed.bridged ++ s.fwChecksum
  (s, .okay (p ++ fit 64 (Config.signature k (sha256 p))))

/-! Sealed parameters (09 R313, R314). -/

/-- A field that a command would write: identifier, INDEX, value in force, value given (as zero-extended words). -/
structure ParamField where
  id : Nat
  index : Nat
  old : Nat
  new : Nat

def changedFields (l : List ParamField) : List ParamField := l.filter fun f => f.old != f.new

/-- SEALED_DENIED for a command that would change a sealed parameter (09 R314). -/
def sealedChecks (s : State) (l : List ParamField) : List (Bool × Ans) :=
  let n := (changedFields l).length
  [(n != 0 && s.sealed.state == .sealed, .err .sealedDenied 1), (n != 0 && !s.sealed.canEnter n, .err .sealedDenied 2)]

/-- One PARAM_CHANGE entry for each parameter that changes. -/
def State.enterChanges (s : State) (l : List ParamField) : State :=
  match changedFields l with
  | [] => s
  | ch =>
    let (cause, s) := s.claim 6
    ch.foldl (fun s f => s.audit 0x0004 (some 3) cause s.now false false
      (le 2 f.id ++ le 1 f.index ++ le 1 0 ++ le 8 f.old ++ le 8 f.new)) s

/-! Commands with effects. -/

/-- DOME_SEAL (09 R312, R320, R345). -/
def bodyDomeSeal : Body := fun _ s =>
  checked s
    [(s.sealed.auditHold, .err .sealedDenied 3), (s.sealed.state == .sealed, .err .stateConflict 0),
     (s.sealed.loopOpen, .err .stateConflict 1)]
    (let old := s.sealed.state
     let (cause, s) := s.claim 6
     let s := s.modSeal fun v => { v with state := .sealed }
     let s := s.audit 0x0003 (some 2) cause s.now false false (le 4 (satAdd 0xFFFF_FFFF (vget s.sealed.counters 2) 1))
     (s.sealStateRecord old cause s.now false false, .okay []))

/-- DOME_AUDIT_ACK (09 R320, R345). -/
def bodyDomeAuditAck : Body := fun c s =>
  let n := getLe c.payload 0 4
  checked s [outOfRange (decide (n ≥ s.sealed.auditOffer)) 0]
    (if n ≤ s.sealed.auditAck then (s, .okay [])
     else
       let s := s.modSeal fun v => { v with auditAck := n }
       if s.sealed.overflowed then
         let k := s.sealed.notEntered
         let d := s.sealed.notEnteredDt
         let s := s.modSeal fun v => { v with overflowed := false, notEntered := 0, notEnteredDt := 0 }
         let (cause, s) := s.claim 6
         (s.audit 0x0012 none cause s.now false false (le 4 k ++ le 8 d), .okay [])
       else (s, .okay []))

/-- DOME_RECORD_ACK (09 R335–R337): the first acknowledgement that frees a slot ends a hold with one GAP record, which covers a break that
overlaps it. -/
def bodyDomeRecordAck : Body := fun c s =>
  let n := getLe c.payload 0 4
  checked s [outOfRange (decide (n ≥ s.sealed.storeOffer)) 0]
    (if n ≤ s.sealed.storeAck then (s, .okay [])
     else
       let s := s.modSeal fun v => { v with storeAck := n }
       match s.sealed.hold with
       | none => (s, .okay [])
       | some h =>
         let (cause, s) := s.claim 6
         let worst := match s.sealed.brk with | none => h.worst | some b => max h.worst b.worst
         let s := s.gapRecord cause 1 worst h.start s.now h.measured h.bridged h.epoch
         (s.modSeal fun v => { v with hold := none, brk := v.brk.map fun b => { b with covered := true } }, .okay []))

/-- DOME_SET_ODO_CONFIG (09 R350): from the next accepted solution. -/
def bodyDomeSetOdoConfig : Body := fun c s =>
  let p := c.payload
  let o := s.sealed.odoNext.getD s.sealed.odo
  let n : OdoConfig := { minSpeed := getLe p 0 2, gap := getLe p 2 2, interval := getLe p 4 4, margin := getLe p 8 2,
                         confirm := byteAt p 10 }
  let fields : List ParamField :=
    [⟨0x60, 0, o.minSpeed, n.minSpeed⟩, ⟨0x60, 2, o.gap, n.gap⟩, ⟨0x60, 4, o.interval, n.interval⟩,
     ⟨0x60, 8, o.margin, n.margin⟩, ⟨0x60, 10, o.confirm, n.confirm⟩]
  checked s
    ([reservedPayload p [(11, 0xFF)], outOfRange (decide (n.minSpeed > 200)) 0,
      outOfRange (decide (n.gap < 1 ∨ n.gap > 600)) 2,
      outOfRange (decide (n.interval ≠ 0 ∧ (n.interval < 60 ∨ n.interval > 86400))) 4,
      outOfRange (decide (n.margin < 1 ∨ n.margin > 1000)) 8, outOfRange (decide (n.confirm < 1 ∨ n.confirm > 10)) 10]
     ++ sealedChecks s fields)
    ((s.enterChanges fields).modSeal fun v => { v with odoNext := some n }, .okay [])

/-- The accepted solution that a MARK record carries: the latest epoch's, if it was accepted (09 R329, R345). -/
def State.markSolution (s : State) : Option Accepted :=
  if s.sealed.brk.isSome || !s.nav.lastAccepted then none else s.sealed.last

/-- DOME_MARK (09 R329, R331 kind 5, R345, 21 R649): STORE_SEQ is the one the record will take in its turn. -/
def bodyDomeMark : Body := fun c s =>
  if s.sealed.hold.isSome || s.pwr.lowSupply || decide (s.sealed.storeUnacked + s.sealed.due.length ≥ 10239) then
    let s := if s.sealed.hold.isSome || s.pwr.lowSupply then s.modSeal fun v => { v with counts := v.counts.add 5 }
      else
        let (cause, s) := s.claim 6
        s.recordDue { kind := 5, cause := cause, dt := s.now, flags := 0, verdict := s.nav.held, body := [] }
    (s, .err .resourceExhausted 0)
  else
    match s.markSolution with
    | none => (s, .err .notReady 0)
    | some a =>
      let n := s.sealed.storeSeq + s.sealed.due.length + 1
      let (cause, s) := s.claim 6
      (s.recordDue
        { kind := 5, cause := cause, dt := s.now, flags := s.recordFlags a.sketch false false, verdict := s.nav.held,
          body := fit 16 c.payload ++ leInt 4 a.lat ++ leInt 4 a.lon ++ leInt 4 a.height ++ le 2 a.hpe ++ le 2 0 ++
            le 8 s.sealed.measured ++ le 8 s.sealed.bridged },
       .okay (le 4 n))

/-- A REFCLK frequency that R85 accepts: 1,309.44 MHz × N / f is an integer M, N 1–8, M 25–131, f 10–52 MHz. The PLL
setting stored is the first N that serves. -/
def refclkSetting (f : Nat) : Option (Nat × Nat) :=
  if f < 10000000 ∨ f > 52000000 then none
  else ((List.range 8).map fun k => (k + 1, 1309440000 * (k + 1) / f)).find? fun nm =>
    1309440000 * nm.1 % f == 0 && decide (25 ≤ nm.2) && decide (nm.2 ≤ 131)

/-- DOME_SET_REFCLK (03 R85, 09 R313): effective at the next cold start. -/
def bodyDomeSetRefclk : Body := fun c s =>
  let f := getLe c.payload 0 4
  let fields : List ParamField := [⟨0x0001, 255, s.boot.refclk, f⟩]
  checked s ([outOfRange (refclkSetting f).isNone 0] ++ sealedChecks s fields)
    (let s := s.enterChanges fields
     ({ s with boot := { s.boot with refclk := f } }, .okay []))

/-! Loads (09 R351, R343). -/

/-- Every byte below `total` has arrived. -/
def covered (got : List (Nat × Nat)) (total : Nat) : Bool :=
  let go := (List.range got.length).foldl (fun at_ _ =>
    match got.find? (fun r => decide (r.1 ≤ at_) && decide (at_ < r.1 + r.2)) with
    | none => at_
    | some r => r.1 + r.2) 0
  decide (go ≥ total)

def Load.put (l : Load) (off : Nat) (bs : List Byte) : Load :=
  { l with data := Bytes.writeN l.data off bs, got := (off, bs.length) :: l.got }

def Load.bytes (l : Load) : List Byte := Bytes.readN l.data 0 l.length

/-- The length that a part of a load has (09 R351). -/
def partLength (part begin_ len : Nat) : Bool × Ans :=
  if part = 0 then (decide (len ≠ begin_), .err .lengthInvalid begin_)
  else if part = 1 then (decide (len < 9 ∨ len > 4008), .err .lengthInvalid 9)
  else (decide (len ≠ 4), .err .lengthInvalid 4)

def partReserved (p : List Byte) : Bool × Ans := reservedPayload p [(1, 0xFF), (2, 0xFF), (3, 0xFF)]

/-- A load is refused in SEALED and under the audit hold (09 R314, R320). -/
def loadDenied (s : State) : List (Bool × Ans) :=
  [(s.sealed.state == .sealed, .err .sealedDenied 1), (s.sealed.auditHold, .err .sealedDenied 2)]

/-- A BEGIN meets an open load; another part meets none, or a COMMIT being checked: STATE_CONFLICT. -/
def openAlready (l : Option Load) (d : Nat) : Bool × Ans := (l.isSome, .err .stateConflict d)
def notOpen (l : Option Load) (d : Nat) : Bool × Ans :=
  (match l with | none => true | some v => v.check.isSome, .err .stateConflict d)

/-- DOME_ZONE_LOAD BEGIN; a PART above 3 is out of range. -/
def bodyZoneBegin : Body := fun c s =>
  let p := c.payload
  let np := getLe p 4 2
  let nv := getLe p 6 2
  checked s
    ([outOfRange (decide (byteAt p 0 > 3)) 0, partLength 0 44 p.length, partReserved p, outOfRange (decide (np > 256)) 4,
      outOfRange (decide (nv > 4096)) 6, outOfRange (decide (getLe p 8 4 ≠ 8 * np + 8 * nv)) 8]
     ++ loadDenied s ++ [openAlready s.zoneLoad 0])
    ({ s with zoneLoad := some { length := getLe p 8 4, sha := (p.drop 12).take 32, counts := [np, nv] } }, .okay [])

/-- A DATA part: OFFSET + n within the length given at BEGIN. -/
def loadData (l : Option Load) (p : List Byte) : Bool × Ans :=
  outOfRange (match l with
    | none => false
    | some v => decide (getLe p 4 4 + (p.length - 8) > v.length)) 4

def bodyZoneData : Body := fun c s =>
  let p := c.payload
  checked s ([partLength 1 44 p.length, partReserved p] ++ loadDenied s ++ [notOpen s.zoneLoad 0, loadData s.zoneLoad p])
    ({ s with zoneLoad := s.zoneLoad.map fun l => l.put (getLe p 4 4) (p.drop 8) }, .okay [])

def bodyZoneCommit : Body := fun c s =>
  let p := c.payload
  checked s ([partLength 2 44 p.length, partReserved p] ++ loadDenied s ++ [notOpen s.zoneLoad 0])
    ({ s with zoneLoad := s.zoneLoad.map fun l => { l with check := some c.id } }, .running)

def bodyZoneCancel : Body := fun c s =>
  let p := c.payload
  checked s [partLength 3 44 p.length, partReserved p, notOpen s.zoneLoad 0] ({ s with zoneLoad := none }, .okay [])

/-- The inactive Dome slot is marked invalid when a load of it begins. -/
def Images.spoil (i : Images) : Images := i.setSlot (!i.active) { i.other with valid := false }

def bodyDomeFwBegin : Body := fun c s =>
  let p := c.payload
  let n := getLe p 4 4
  checked s
    ([outOfRange (decide (byteAt p 0 > 3)) 0, partLength 0 40 p.length, partReserved p,
      outOfRange (decide (n < 1 ∨ n > 1048576)) 4] ++ loadDenied s ++ [openAlready s.domeImages.load 0])
    ({ s with domeImages := { s.domeImages.spoil with load := some { length := n, sha := (p.drop 8).take 32 } } }, .okay [])

def bodyDomeFwData : Body := fun c s =>
  let p := c.payload
  checked s
    ([partLength 1 40 p.length, partReserved p] ++ loadDenied s ++ [notOpen s.domeImages.load 0, loadData s.domeImages.load p])
    ({ s with domeImages := { s.domeImages with load := s.domeImages.load.map fun l => l.put (getLe p 4 4) (p.drop 8) } },
     .okay [])

def bodyDomeFwCommit : Body := fun c s =>
  let p := c.payload
  checked s ([partLength 2 40 p.length, partReserved p] ++ loadDenied s ++ [notOpen s.domeImages.load 0])
    ({ s with domeImages := { s.domeImages with load := s.domeImages.load.map fun l => { l with check := some c.id } } },
     .running)

def bodyDomeFwCancel : Body := fun c s =>
  let p := c.payload
  checked s [partLength 3 40 p.length, partReserved p, notOpen s.domeImages.load 0]
    ({ s with domeImages := { s.domeImages with load := none } }, .okay [])

/-- DOME_FW_ACTIVATE (09 R344): FW_UPDATE is entered, then the Dome resets with source 7 once the reply is written. -/
def bodyDomeFwActivate : Body := fun c s =>
  let p := c.payload
  let b := byteAt p 0 == 1
  let new := s.domeImages.slot b
  checked s
    [reservedPayload p [(1, 0xFF), (2, 0xFF), (3, 0xFF)], outOfRange (decide (byteAt p 0 > 1) || !new.valid) 0,
     (s.sealed.auditHold, .err .sealedDenied 2), (s.domeImages.load.isSome, .err .stateConflict 0)]
    (let old := s.domeImages.now
     let (cause, s) := s.claim 6
     let s := s.audit 0x000A (some 10) cause s.now false false
       (le 4 old.interp ++ le 4 new.interp ++ fit 8 new.sha ++ le 1 (b2n b))
     let s := { s with domeImages := { s.domeImages with active := b, trial := some 0 } }
     let plan : ResetPlan := { source := 7, dome := some (s.clk.tick + 1), drum := none, reply := none }
     ({ s with interp := { s.interp with plans := s.interp.plans ++ [plan] } }, .okay []))

/-! Checks at COMMIT (09 R343, R351, R325, R328; 12 R441). -/

/-- Orientation of three points in the plane. -/
def orient (a b c : Int × Int) : Int := (b.1 - a.1) * (c.2 - a.2) - (b.2 - a.2) * (c.1 - a.1)

/-- Two edges cross: each separates the ends of the other. -/
def edgesCross (e f : (Int × Int) × (Int × Int)) : Bool :=
  let s1 := orient e.1 e.2 f.1
  let s2 := orient e.1 e.2 f.2
  let s3 := orient f.1 f.2 e.1
  let s4 := orient f.1 f.2 e.2
  (decide (s1 > 0) && decide (s2 < 0) || decide (s1 < 0) && decide (s2 > 0)) &&
    (decide (s3 > 0) && decide (s4 < 0) || decide (s3 < 0) && decide (s4 > 0))

def spanOver (l : List Int) : Int := l.foldl max (l.headD 0) - l.foldl min (l.headD 0)

/-- R325: no crossing edges, at most 10° in latitude and longitude, not across the ±180° meridian, three vertices. -/
def Polygon.acceptable (p : Polygon) : Bool :=
  let es := edgesOf p.vertices
  decide (p.vertices.length ≥ 3) && es.all (fun e => es.all fun f => !edgesCross e f) &&
    decide (spanOver (p.vertices.map (·.1)) ≤ 100000000) && decide (spanOver (p.vertices.map (·.2)) ≤ 100000000) &&
    p.vertices.all fun v => decide (-900000000 ≤ v.1) && decide (v.1 ≤ 900000000) && decide (-1800000000 ≤ v.2) &&
      decide (v.2 ≤ 1800000000)

def parseVertices : Nat → List Byte → List (Int × Int)
  | 0, _ => []
  | k + 1, bs => (getLeInt bs 0 4, getLeInt bs 4 4) :: parseVertices k (bs.drop 8)

def parsePolygons : Nat → List Byte → List Polygon
  | 0, _ => []
  | k + 1, bs =>
    let n := getLe bs 6 2
    { id := getLe bs 0 4, cls := byteAt bs 4, vertices := parseVertices n (bs.drop 8) } ::
      parsePolygons k (bs.drop (8 + 8 * n))

def firstIndex {α : Type} (f : α → Bool) (l : List α) : Option Nat :=
  ((List.range l.length).zip l).findSome? fun p => if f p.2 then some p.1 else none

/-- The zone COMMIT's outcome: `none` accepted, otherwise the DETAIL of PARAM_RANGE (DEDUCED, log 23). -/
def Load.zoneFault (l : Load) : Option Nat :=
  let ps := parsePolygons (l.counts.getD 0 0) l.bytes
  let nv := (ps.map fun p => p.vertices.length).sum
  if !covered l.got l.length || sha256 l.bytes != l.sha || nv != l.counts.getD 1 0 ||
      8 * ps.length + 8 * nv != l.length then some 16
  else firstIndex (fun p => !p.acceptable) ps

/-- End of a zone COMMIT (09 R328): the table in the other slot comes into force. -/
def State.zoneCommitEnd (s : State) (l : Load) (cmd : Nat) : State :=
  let s := { s with zoneLoad := none }
  match l.zoneFault with
  | some d => s.finalReply cmd .paramRange d []
  | none =>
    let ps := parsePolygons (l.counts.getD 0 0) l.bytes
    let (cause, s) := s.claim 9
    let s := s.audit 0x0010 (some 16) cause s.now false false
      (le 2 ps.length ++ le 2 (l.counts.getD 1 0) ++ fit 16 l.sha)
    let s := s.modSeal fun v =>
      { v with table := { generation := v.table.generation + 1, crc := crc32 l.bytes, polygons := ps, sha := l.sha, auditSeq := v.auditSeq }
               oldTable := v.table, tableSlot := !v.tableSlot
               zones := ps.map fun _ => {} }
    s.finalReply cmd .ok 0 []

/-- End of a Dome image's COMMIT (09 R343): the signature and the private image format are judged outside the model. -/
def State.domeFwCommitEnd (s : State) (l : Load) (cmd : Nat) (sigOk imageOk : Bool) : State :=
  let i := s.domeImages
  let reason :=
    if !sigOk then 1
    else if Config.domeImageRollback l.bytes < i.fused then 2
    else if !covered l.got l.length || sha256 l.bytes != l.sha then 3
    else if !imageOk then 4
    else 0
  let s := { s with domeImages := { i with load := none } }
  if reason = 0 then
    let slot : ImageSlot := { valid := true, interp := Config.domeImageVersion l.bytes, customer := 0, length := l.length,
                              sha := l.sha, rollback := Config.domeImageRollback l.bytes, data := l.data }
    let s := { s with domeImages := s.domeImages.setSlot (!i.active) slot }
    s.finalReply cmd .ok 0 []
  else
    let (cause, s) := s.claim 9
    let s := s.audit 0x000B (some 11) cause s.now false false (le 1 reason ++ le 1 (b2n (!i.active)))
    s.finalReply cmd .fault reason []

/-- End of a Drum image's COMMIT (12 R441, 19 R625). -/
def State.drumFwCommitEnd (s : State) (l : Load) (cmd : Nat) (sigOk : Bool) : State :=
  let i := s.drumImages
  let b := l.bytes
  let detail :=
    if !covered l.got l.length then 5
    else if getLe b 0 4 ≠ 0x4D555244 ∨ getLe b 4 4 ≠ 2 then 4
    else if !sigOk then 1
    else if getLe b 16 4 < i.fused then 2
    else if sha256 b ≠ l.sha then 3
    else 0
  let s := { s with drumImages := { i with load := none } }
  if detail = 0 then
    let slot : ImageSlot := { valid := true, interp := getLe b 8 4, customer := getLe b 12 4, length := l.length,
                              sha := l.sha, rollback := getLe b 16 4, data := l.data }
    { s with drumImages := s.drumImages.setSlot (!i.active) slot }.finalReply cmd .ok 0 []
  else s.finalReply cmd .fault detail []

/-- LOAD_COMMIT_CHECK_END: 0 the Dome image's check, 1 the zone stream's, 2 the Drum image's. -/
def execLoadCommitCheckEnd (which : Fin 3) (sigOk imageOk : Bool) (s : State) : Res :=
  let l := if which = 0 then s.domeImages.load else if which = 1 then s.zoneLoad else s.drumImages.load
  match l with
  | none => .next s
  | some l =>
    match l.check with
    | none => .next s
    | some cmd =>
      .next (if which = 0 then s.domeFwCommitEnd l cmd sigOk imageOk
             else if which = 1 then s.zoneCommitEnd l cmd
             else s.drumFwCommitEnd l cmd sigOk)

/-! U6 (09 R340–R342). -/

/-- The operations served over U6 (09 R341). -/
def u6Body (op : Nat) : Option Body :=
  if op = 0x0B00 then some bodyDomeGetIdent
  else if op = 0x0B01 then some bodyDomeGetCert
  else if op = 0x0B03 then some bodyDomeGetCounters
  else if op = 0x0B04 then some bodyDomeReadAudit
  else if op = 0x0B06 then some bodyDomeReadRecord
  else if op = 0x0B08 then some bodyDomeGetStore
  else if op = 0x0B09 then some bodyDomeGetOdometer
  else if op = 0x0B0B then some bodyDomeGetOdoConfig
  else if op = 0x0B0D then some bodyDomeZoneGet
  else if op = 0x0B0F then some bodyDomeChallenge
  else none

/-- The checks of a U6 packet, in the order of R383 with the differences of R340. -/
def u6Checks (s : State) (bs : List Byte) : Option (Status × Nat) :=
  let h := parseHeader bs
  if h.len > 4076 ∨ bs.length ≠ 20 + h.len then some (.lengthInvalid, 0xFFFF)
  else if crc32 (bs.take (16 + h.len)) ≠ getLe bs (16 + h.len) 4 then some (.crcError, 0)
  else if h.dev ≠ 0 then some (.badAddress, 1)
  else match firstReserved bs headerReserved with
  | some k => some (.reservedNonzero, k)
  | none =>
    match cmdRow h.opcode with
    | none => some (.undefinedOpcode, 0)
    | some row =>
      if !row.permits h.len then some (.lengthInvalid, row.lowest)
      else if !s.sealed.u6Tx.isEmpty then some (.busy, 1)
      else if (u6Body h.opcode).isNone then some (.privilege, 0)
      else none

def u6Reply (s : State) (bs : List Byte) (untaken : Bool) (st : Status) (d : Nat) (payload : List Byte) : List Byte :=
  packetBytes (getLe bs 0 2) 0 (byteAt bs 3 % 64) 0 (byteAt bs 7 % 2 + 2 + 4 * b2n untaken) s.now
    (statusBytes st d ++ payload)

/-- U6_PACKET (09 R340–R342): checked and served; after a framing or CRC error the service waits for a boundary. -/
def execU6Packet (bytes : List Byte) (s : State) : Res :=
  if !s.domeUp then .next s else
  let s := s.modSeal fun v => { v with u6Last := some s.now }
  if s.sealed.u6Resync then .next s else
  match u6Checks s bytes with
  | some (st, d) =>
    .next (s.modSeal fun v =>
      { v with u6Tx := v.u6Tx ++ u6Reply s bytes true st d [], u6Resync := d == 0xFFFF || st == .crcError })
  | none =>
    let h := parseHeader bytes
    match u6Body h.opcode with
    | none => .next s
    | some body =>
      let r := body { id := 0, ring := 0, noReply := h.noReply, payload := h.payload } s
      match r.2 with
      | .final st d p =>
        if h.noReply && st == .ok then .next r.1
        else .next (r.1.modSeal fun v => { v with u6Tx := v.u6Tx ++ u6Reply r.1 bytes false st d p })
      | _ => .next r.1

/-- U6_IDLE_LINE_BOUNDARY (09 R340): the service resynchronises. -/
def execU6IdleLineBoundary (s : State) : Res := .next (s.modSeal fun v => { v with u6Resync := false })

/-- U6_ACTIVE_TIMEOUT (09 R342): 60 s after the last U6 packet. -/
def execU6ActiveTimeout (s : State) : Res :=
  match s.sealed.u6Last with
  | none => .next s
  | some t => if s.now ≥ t + 60 * second then .next (s.modSeal fun v => { v with u6Last := none }) else .next s

/-! The rows. -/

def execDomeGetIdent (t : Txn) (s : State) : Res := hostCommand (opIs 0x0B00) bodyDomeGetIdent t s
def execDomeGetCert (t : Txn) (s : State) : Res := hostCommand (opIs 0x0B01) bodyDomeGetCert t s
def execDomeSeal (t : Txn) (s : State) : Res := hostCommand (opIs 0x0B02) bodyDomeSeal t s
def execDomeGetCounters (t : Txn) (s : State) : Res := hostCommand (opIs 0x0B03) bodyDomeGetCounters t s
def execDomeReadAudit (t : Txn) (s : State) : Res := hostCommand (opIs 0x0B04) bodyDomeReadAudit t s
def execDomeAuditAck (t : Txn) (s : State) : Res := hostCommand (opIs 0x0B05) bodyDomeAuditAck t s
def execDomeReadRecord (t : Txn) (s : State) : Res := hostCommand (opIs 0x0B06) bodyDomeReadRecord t s
def execDomeRecordAck (t : Txn) (s : State) : Res := hostCommand (opIs 0x0B07) bodyDomeRecordAck t s
def execDomeGetStore (t : Txn) (s : State) : Res := hostCommand (opIs 0x0B08) bodyDomeGetStore t s
def execDomeGetOdometer (t : Txn) (s : State) : Res := hostCommand (opIs 0x0B09) bodyDomeGetOdometer t s
def execDomeSetOdoConfig (t : Txn) (s : State) : Res := hostCommand (opIs 0x0B0A) bodyDomeSetOdoConfig t s
def execDomeGetOdoConfig (t : Txn) (s : State) : Res := hostCommand (opIs 0x0B0B) bodyDomeGetOdoConfig t s

/-- The row of a load's BEGIN takes also every undefined PART. -/
def beginRow (op : Nat) : Nat → List Byte → Bool := fun o p => o == op && !([1, 2, 3].contains (byteAt p 0))

def execDomeZoneLoadBegin (t : Txn) (s : State) : Res := hostCommand (beginRow 0x0B0C) bodyZoneBegin t s
def execDomeZoneLoadData (t : Txn) (s : State) : Res := hostCommand (opByte 0x0B0C 0 1) bodyZoneData t s
def execDomeZoneLoadCommit (t : Txn) (s : State) : Res := hostCommand (opByte 0x0B0C 0 2) bodyZoneCommit t s
def execDomeZoneLoadCancel (t : Txn) (s : State) : Res := hostCommand (opByte 0x0B0C 0 3) bodyZoneCancel t s
def execDomeZoneGet (t : Txn) (s : State) : Res := hostCommand (opIs 0x0B0D) bodyDomeZoneGet t s
def execDomeMark (t : Txn) (s : State) : Res := hostCommand (opIs 0x0B0E) bodyDomeMark t s
def execDomeChallenge (t : Txn) (s : State) : Res := hostCommand (opIs 0x0B0F) bodyDomeChallenge t s
def execDomeSetRefclk (t : Txn) (s : State) : Res := hostCommand (opIs 0x0B10) bodyDomeSetRefclk t s
def execDomeFwLoadBegin (t : Txn) (s : State) : Res := hostCommand (beginRow 0x0B11) bodyDomeFwBegin t s
def execDomeFwLoadData (t : Txn) (s : State) : Res := hostCommand (opByte 0x0B11 0 1) bodyDomeFwData t s
def execDomeFwLoadCommit (t : Txn) (s : State) : Res := hostCommand (opByte 0x0B11 0 2) bodyDomeFwCommit t s
def execDomeFwLoadCancel (t : Txn) (s : State) : Res := hostCommand (opByte 0x0B11 0 3) bodyDomeFwCancel t s
def execDomeFwActivate (t : Txn) (s : State) : Res := hostCommand (opIs 0x0B12) bodyDomeFwActivate t s

end Sys2Proof.Machine
end

