-- ==== Sys2Proof/Machine/Flags.lean ====
section
/-! DEFINITION. Status words and flags: the levels of the interrupt sources (15 R538), INT_N (13 R453), the status
registers of the rings, the UARTs, CAN, memory, power and the chain, and the choice of an offered interrupt (15 R540). -/

namespace Sys2Proof.Machine

/-- A word of named bits: `w [(b, i), …]` has bit i set for each b that is true. -/
def bitsOf (l : List (Bool × Nat)) : Nat := (l.map fun p => if p.1 then 2 ^ p.2 else 0).sum

/-- RING_STAT.NONEMPTY and THR (11 R400). -/
def State.ringNonempty (s : State) : Nat := maskOf 16 fun n => (vget s.rings n).prod != (vget s.rings n).cons
def State.ringThr (s : State) : Nat := maskOf 16 fun n => (vget s.rings n).thr
def State.ringStat (s : State) : Nat := s.ringNonempty + s.ringThr * 65536

/-- HLK_STAT (13 R453). -/
def Hport.stat (h : Hport) : Nat :=
  bitsOf [(h.wrOvf, 0), (h.downBusy, 1), (h.err, 2), (h.crxThr, 3), (h.woken, 4)]

/-- INT_N asserted by the head (13 R453). -/
def State.intN (s : State) : Bool :=
  s.chain.head &&
    (s.hport.stat &&& s.hport.inten.toNat != 0 ||
      (s.hport.ringThr && (List.range 12).any fun k =>
        (vget s.rings (k + 4)).thr && !(vget s.rings (k + 4)).side))

/-- UARTn_STAT (14 R492). -/
def Uart.txIdle (u : Uart) : Bool := u.shifter.isNone && u.tx.isEmpty && u.sending.isNone
def Uart.flags (u : Uart) : Nat := bitsOf [(u.overrun, 0), (u.rxThr, 1), (u.txThr, 2), (u.breakEnd, 3), (u.woken, 4)]
def Uart.stat (u : Uart) : Nat :=
  u.tx.length + u.rx.length * 256 + bitsOf [(u.txIdle, 15), (u.breakActive, 16), (u.sending.isSome, 17)] +
    u.flags * 2 ^ 24
def Uart.level (u : Uart) : Bool := u.flags &&& u.inten.toNat != 0

/-- CANm_STAT (14 R501). -/
def Can.flags (c : Can) : Nat := bitsOf [(c.rxNew, 0), (c.txDone, 1), (c.rxDrop, 2), (c.stateChg, 3), (c.woken, 4)]
def Can.stat (c : Can) : Nat :=
  c.state + bitsOf [(c.busIdle, 2)] + min 255 c.tec * 256 + min 255 c.rec_ * 65536 + c.flags * 2 ^ 24
def Can.level (c : Can) : Bool := c.flags &&& c.inten.toNat != 0

/-- MEM_STAT (17 R573). -/
def Mem.flags (m : Mem) : Nat := bitsOf [(m.ce, 0), (m.ue, 1), (m.testFail, 2), (m.lost, 3)]
def Mem.stat (m : Mem) : Nat := m.flags + bitsOf [(!m.scrubs.isEmpty, 4)]

/-- Code of a target in PWR_REQ and in records (18 R606). -/
def Target.code : Target → Nat
  | .run => 0
  | .sleep => 2
  | .deep => 3
  | .off => 4

/-- PWR_STAT (18 R606). -/
def Pwr.handshake (p : Pwr) : Bool := p.entry.isSome && p.phase == .handshake
def Pwr.flags (p : Pwr) : Nat := bitsOf [(p.woke, 0), (p.entryFail, 1), (p.ltimerF, 2)]
def Pwr.stat (p : Pwr) : Nat :=
  b2n p.handshake + (match p.pendingReq with | none => 7 | some r => r.target.code) * 2 + p.lastReason * 16 +
    p.lastBlock * 256 + p.flags * 2 ^ 24

/-- DMA_CHn_STAT (17 R585). -/
def DmaState.code : DmaState → Nat
  | .idle => 0
  | .waiting => 1
  | .active => 2
  | .preempted => 3
  | .faulted => 4
def DmaChannel.flags (c : DmaChannel) : Nat := bitsOf [(c.doneF, 0), (c.faultF, 1), (c.abortedF, 2)]
def DmaChannel.stat (c : DmaChannel) : Nat :=
  c.state.code + c.fault.toNat * 8 + bitsOf [(c.held.isSome, 7)] + c.fside.toNat * 256 + c.flags * 2 ^ 16

/-- CHN_STAT (13 R473). The alignment code reads 0 while the device is the head. -/
def State.alignCode (s : State) : Nat := if s.chain.head then 0 else s.clk.align.code
def State.chnStat (s : State) : Nat :=
  s.chain.number + bitsOf [(s.chain.unnumbered, 6), (s.chain.head, 7)] + (vget s.chain.lanes 0).st.code * 256 +
    (vget s.chain.lanes 1).st.code * 2048 + s.alignCode * 16384

/-- Level of an interrupt source (15 R538): the OR of its block's enabled status bits. -/
def State.sourceLevel (s : State) (n : Nat) : Bool :=
  if n = 0 then s.ringThr != 0
  else if n = 1 then s.hport.stat &&& s.hport.inten.toNat != 0
  else if n ≤ 7 then (vget s.uarts (n - 2)).level
  else if n = 8 then (vget s.uarts 7).level
  else if n ≤ 10 then (vget s.cans (n - 9)).level
  else if n = 11 then s.evt.toList.any fun e => e.pend && e.ie
  else if n ≤ 27 then
    let c := vget s.dma.channels (n - 12)
    c.flags &&& c.ie.toNat != 0
  else if n = 28 then s.pmon.counters.toList.any fun c => c.ovf && c.ovie
  else if n ≤ 32 then
    let t := vget s.timers (n - 29)
    t.expired && t.ie
  else if n = 33 then s.mbx.dbIn || (s.mbx.collide && s.mbx.collIe)
  else if n = 34 then s.mem.flags &&& s.mem.inten.toNat != 0
  else if n = 35 then s.pwr.flags &&& s.pwr.inten.toNat != 0
  else false

/-- INTC_SRCs.PEND (15 R539): the level, or a software-forced one; reserved sources never pend (R538). -/
def State.pend (s : State) (n : Nat) : Bool := decide (n ≤ 35) && (s.sourceLevel n || (vget s.intc n).swset)

/-- The pending, enabled, not ACTIVE sources routed to core `c` above a priority (15 R540). -/
def State.candidates (s : State) (c floor : Nat) : List Nat :=
  (List.range 64).filter fun n =>
    let r := vget s.intc n
    s.pend n && !r.active && r.coreNow.toNat == c && decide (floor < r.prioNow.toNat)

/-- The highest PRIO wins, the lower number on a tie. -/
def State.best (s : State) : List Nat → Option Nat
  | [] => none
  | n :: r =>
    match s.best r with
    | none => some n
    | some m => if (vget s.intc n).prioNow.toNat ≥ (vget s.intc m).prioNow.toNat then some n else some m

/-- The interrupt offered to Drum core `c` whose SR.IPL is `ipl`. -/
def State.offered (s : State) (c ipl : Nat) : Option Nat := s.best (s.candidates c ipl)

/-- Marks the sources of this end of tick: a source routed to a core and enabled that becomes pending sets that core's
EV and BY_INT (15 R528; DEDUCED, log 12); PRIO and CORE written in this tick come into force (R540). -/
def State.sampleSources (s : State) : State :=
  let rises (n : Nat) : Bool := s.pend n && !(vget s.intc n).sampled && (vget s.intc n).prioNow != 0
  let hit (c : Nat) : Bool := (List.range 64).any fun n => rises n && (vget s.intc n).coreNow.toNat == c
  let s' := forUpto 3 (fun c t => if hit c then { t with cores := vmod t.cores c fun k => { k with evr := k.evr ||| 5 } } else t) s
  { s' with intc := forUpto 64 (fun n v => vmod v n fun r => { r with sampled := s.pend n, prioNow := r.prio, coreNow := r.core }) s'.intc }

end Sys2Proof.Machine
end

