-- ==== Sys2Proof/Machine/Input.lean ====
section
/-! DEFINITION. The antenna inputs: ports and their lanes, FRM, AGC, notches, the jamming index and the INPUT group
(02 R39–R84). -/

namespace Sys2Proof.Machine

/-! Decibels, exactly: comparisons of 10·log10(num/den) with rational numbers of dB by integer powers. -/

/-- 10·log10(num/den) ≥ a/b dB. -/
def dbAtLeast (num den : Nat) (a : Int) (b : Nat) : Bool :=
  if 0 ≤ a then decide (num ^ (10 * b) ≥ 10 ^ a.toNat * den ^ (10 * b))
  else decide (num ^ (10 * b) * 10 ^ (-a).toNat ≥ den ^ (10 * b))

/-- 10·log10(num/den) > a/b dB. -/
def dbAbove (num den : Nat) (a : Int) (b : Nat) : Bool := !dbAtLeast den num (-a) b

/-- 10·log10(num/den) in units of 1/b dB, rounded to nearest, between −`span` and `span`. -/
def dbRound (num den b span : Nat) : Int :=
  (List.range (Nat.log2 (2 * span) + 1)).foldr
    (fun k (acc : Int) =>
      let c : Int := acc + (2 ^ k : Nat)
      if c ≤ (span : Int) && dbAtLeast num den (2 * c - 1) (2 * b) then c else acc)
    (-(span : Int))

/-! Small operations. -/

def State.modInput (s : State) (f : Inputs → Inputs) : State := { s with input := f s.input }
def State.modPort (s : State) (p : Nat) (f : Port → Port) : State :=
  s.modInput fun i => { i with ports := vmod i.ports p f }
def State.port (s : State) (p : Nat) : Port := vget s.input.ports p
def State.modCal (s : State) (f : Cal → Cal) : State := { s with cal := f s.cal }

/-- A trigger makes a calibration run ready, or joins the one that is ready or in progress; a setting changed during a run
makes a new run ready (10 R359, R372). -/
def State.calTrigger (s : State) (trigger : Nat) : State :=
  match s.cal.ready, s.cal.run with
  | none, none => s.modCal fun c => { c with ready := some { trigger := trigger } }
  | none, some _ => if trigger = 3 then s.modCal fun c => { c with ready := some { trigger := trigger } } else s
  | some _, _ => s

/-- A ready run may be attempted (10 R359). -/
def State.calAttempts (s : State) : Bool :=
  s.cal.run.isNone && s.pwr.profile != 3 &&
    match s.cal.ready with
    | none => false
    | some r => decide (s.now ≥ r.from_) && !(r.hold && s.sealed.auditHold)

/-- AGC and notches are held: a capture or a calibration run is in progress (02 R61, R68), or one of the two is over and
the other, due with it, has still to come (R74). -/
def State.freezes (s : State) : Bool :=
  s.easel.capturing.isSome || s.cal.run.any (fun r => !r.released) ||
    (s.input.frozen && s.input.linked && (s.calAttempts || !s.easel.reqs.isEmpty))

/-- The ports that FRONT serves in the profile in force (01 R24): in SKETCH the Sketch antenna's. -/
def State.served (s : State) (p : Nat) : Bool :=
  if s.pwr.profile = 0 then
    p / 2 == (match s.easel.fix, s.easel.capturing, s.easel.reqs with
      | some f, _, _ => f.antenna
      | none, some c, _ => c.req.antenna
      | none, none, r :: _ => r.antenna
      | none, none, [] => s.easel.sketch.antenna)
  else if s.pwr.profile = 1 then p == 0
  else true

/-- SCLKOUT runs: FRONT is powered and its PLL, fed by REFCLK, is locked (02 R44); else the pin is held low. -/
def State.sclkout (s : State) : Bool := s.fast && s.poweredOn 9

/-- The port's part of FRONT is powered and its PLL locked (02 R44, R48). -/
def State.frontOn (s : State) (p : Nat) : Bool := s.domeService && s.sclkout && s.served p

def Port.anyNotch (q : Port) : Bool := q.notches.toList.any (·.engaged)

/-! Notch events (02 R57, 07 R269). -/

def State.notchEvent (s : State) (p k event : Nat) : State :=
  let n := vget (s.port p).notches k
  let (cause, s) := s.claim 9
  s.domeRecord 12 cause 0x63 s.now
    (le 1 p ++ le 1 k ++ le 1 event ++ le 1 n.width ++ leInt 4 n.centre ++ leInt 2 n.power ++ zeros 6)

def State.release (s : State) (p k : Nat) : State :=
  if (vget (s.port p).notches k).engaged then
    let s := s.modPort p fun q => { q with notches := vmod q.notches k fun n =>
      { n with engaged := false, below := none, releaseDue := false } }
    s.notchEvent p k 1
  else s

def State.engage (s : State) (p k : Nat) (centre power : Int) : State :=
  let s := s.modPort p fun q => { q with notches := vmod q.notches k fun n =>
    { n with engaged := true, centre := centre, reported := centre, power := power, below := none,
             engagements := sat16 n.engagements } }
  s.notchEvent p k 0

/-- 3 dB width in Hz (02 R66). -/
def widthHz (w : Nat) : Nat := 50000 * 2 ^ w

/-- Moves an engaged notch; an event when it has moved by more than its width since its last one. -/
def State.moveNotch (s : State) (p k : Nat) (centre power : Int) : State :=
  let s := s.modPort p fun q => { q with notches := vmod q.notches k fun n => { n with centre := centre, power := power } }
  let n := vget (s.port p).notches k
  if (n.centre - n.reported).natAbs > widthHz n.width then
    (s.notchEvent p k 2).modPort p fun q => { q with notches := vmod q.notches k fun n => { n with reported := n.centre } }
  else s

/-- A setting of INPUT_SET_NOTCH takes effect (02 R81). -/
def State.applyNotch (s : State) (p : Nat) (t : NotchSet) : State :=
  let old := vget (s.port p).notches t.notch
  let s := if t.mode = 0 || (t.mode = 1 && old.mode = 2) then s.release p t.notch else s
  let s := s.modPort p fun q =>
    { q with thresh := t.thresh
             notches := vmod q.notches t.notch fun n => { n with mode := t.mode, width := t.width, offset := t.offset } }
  if t.mode = 2 then
    if old.engaged then s.moveNotch p t.notch t.offset old.power else s.engage p t.notch t.offset 0
  else s

def State.applyNotches (s : State) (p : Nat) : State :=
  let l := (s.port p).notchSets
  let s := s.modPort p fun q => { q with notchSets := [] }
  l.foldl (fun s t => s.applyNotch p t) s

/-- Releases that a freeze held back are made (02 R68, R74). -/
def State.lateReleases (s : State) (p : Nat) : State :=
  forUpto 4 (fun k s => if (vget (s.port p).notches k).releaseDue then s.release p k else s) s

/-- A freeze begins or ends: an event for each engaged notch (DEDUCED, log 47). At its end the window in progress is not a full
one for the AGC (02 R61), releases held back are made and waiting settings take effect (02 R81). -/
def State.setFrozen (s : State) (f : Bool) : State :=
  if s.input.frozen == f then s else
  let s := forUpto 8 (fun p s => forUpto 4 (fun k s =>
    if (vget (s.port p).notches k).engaged then s.notchEvent p k (if f then 3 else 4) else s) s) s
  let s := s.modInput fun i => { i with frozen := f, linked := i.linked && f, ports := i.ports.map fun q => { q with held := true } }
  if f then s else forUpto 8 (fun p s => (s.lateReleases p).applyNotches p) s

/-- Brings the freeze into line with what holds it. -/
def State.refreeze (s : State) : State := s.setFrozen s.freezes

/-! Lanes (02 R48–R53). -/

/-- Final replies of INPUT_TRAIN once every selected lane is LOCKED or FAILED (02 R78). -/
def State.finishTrains (s : State) : State :=
  let settled (m p : Nat) : Bool := !bit m p || (s.port p).lane == .locked || (s.port p).lane == .failed
  let ended := s.input.trains.filter fun t => (List.range 8).all (settled t.mask)
  let s' := s.modInput fun i => { i with trains := i.trains.filter fun t => !((List.range 8).all (settled t.mask)) }
  ended.foldl (fun s' t =>
    let failed := maskOf 8 fun p => bit t.mask p && (s.port p).lane == .failed
    s'.finalReply t.cmd (if failed = 0 then .ok else .fault) 0 (le 1 failed ++ zeros 3)) s'

/-- Jobs that need the port end ABORTED (02 R74, DEDUCED, log 48). -/
def State.abortPortJobs (s : State) (p detail : Nat) : State :=
  let q := s.port p
  let s := q.hists.foldl (fun s h => s.finalReply h.cmd .aborted detail []) s
  let s := match q.spec with
    | none => s
    | some j => s.finalReply j.cmd .aborted detail []
  let s := s.modPort p fun q => { q with hists := [], spec := none }
  let gone := s.input.trains.filter fun t => bit t.mask p
  let s := s.modInput fun i => { i with trains := i.trains.filter fun t => !bit t.mask p }
  gone.foldl (fun s t => s.finalReply t.cmd .aborted detail []) s

/-- A training attempt begins with its TRAIN_START frame. -/
def State.train (s : State) (p : Nat) : State :=
  s.modPort p fun q => { q with lane := .training, step := .startFrame, wantStart := true, epochBlank := true }

/-- Training on request or on power: the count of failures starts again (02 R49, R50). -/
def State.trainAfresh (s : State) (p : Nat) : State := (s.modPort p fun q => { q with failures := 0 }).train p

/-- The lane leaves use: OFF, with TRAIN_END sent where a training was in progress (02 R74). -/
def State.laneOff (s : State) (p : Nat) : State :=
  s.modPort p fun q =>
    { q with lane := .off, epochBlank := true, wantStart := false, wantGain := false, jMax := 0,
             wantEnd := q.wantEnd || q.lane == .training }

/-- N_REF starts from the stored value at a power-up (02 R70). -/
def State.nrefStart (s : State) (p : Nat) : State :=
  let stored := (vget s.cal.slots (b2n s.cal.inForce)).values.nref.getD p none
  s.modPort p fun q => { q with nref := stored.map (· * 75), minP := none }

/-- Lanes follow power, profile and ENABLE: a lane that gains them through power waits out FE_START_US and starts N_REF
(02 R70), one that gains them by being enabled trains at once; one that loses them goes OFF. AGC windows run on from here. -/
def State.syncPort (s : State) (powered : Bool) (detail p : Nat) : State :=
  let q := s.port p
  if q.cfg.enable && s.frontOn p then
    if q.lane != .off then s
    else
      let s := s.modPort p fun q => { q with window := s.clk.tick, live := false, stuckCount := 0 }
      if powered then (s.nrefStart p).modPort p fun q => { q with lane := .wait, waitFrom := s.now, failures := 0 }
      else s.trainAfresh p
  else if q.lane == .off then s
  else (s.abortPortJobs p detail).laneOff p

def State.syncPorts (s : State) (powered : Bool) (detail : Nat) : State := forUpto 8 (fun p t => t.syncPort powered detail p) s

/-- The block of a spectral job to which a tick belongs (02 R64). -/
def SpectrumJob.block (j : SpectrumJob) (tick : Nat) : Nat := (tick - j.start) / 1024

/-- Lock is lost in this tick: blocks from its own on hold blanked samples (02 R64, R74). -/
def SpectrumJob.lose (j : SpectrumJob) (tick : Nat) : SpectrumJob :=
  if j.out.isSome then j else { j with out := some (max j.judged (j.block tick)) }

/-- The last tick with a blanked sample is `tick`: the blocks up to its own are skipped (02 R64, R74). -/
def SpectrumJob.regain (j : SpectrumJob) (tick : Nat) : SpectrumJob :=
  match j.out with
  | none => j
  | some b =>
    let e := min j.blocks (j.block tick + 1)
    { j with out := none, skipped := j.skipped + (e - b), judged := max j.judged e }

/-- The lane leaves LOCKED by itself: a retrain is counted, and made if AUTO_RETRAIN is set (02 R49, R52, DEDUCED, log 44). A due
GAIN frame waits for the TRAIN_END frame, a spectral job goes on without the blocks that are blanked (02 R74). -/
def State.loseLock (s : State) (p : Nat) : State :=
  let s := s.modPort p fun q =>
    { q with retrains := sat16 q.retrains, epochBlank := true, spec := q.spec.map (·.lose s.clk.tick) }
  if s.input.autoRetrain then s.trainAfresh p else s.modPort p fun q => { q with lane := .failed }

/-- An attempt fails: it is repeated at once, and after the third the lane is FAILED (02 R50). -/
def State.failAttempt (s : State) (p : Nat) : State :=
  let s := s.modPort p fun q => { q with failures := q.failures + 1, wantEnd := false }
  if (s.port p).failures ≥ 3 then (s.modPort p fun q => { q with lane := .failed, wantStart := false }).finishTrains
  else s.train p

/-- The lane enters LOCKED: STUCK clears, the bytes of its first 16 ticks are blanked (02 R49, R63). AGC windows run on
(DESIGN CHOICE, log 55). -/
def State.lockLane (s : State) (p : Nat) : State :=
  (s.modPort p fun q =>
    { q with lane := .locked, stuck := false, stuckCount := 0, failures := 0, live := true, windows := 0, settled := false,
             blankTill := s.clk.tick + 16, epochBlank := true, eyeTick := s.clk.tick, trained := q.tap
             spec := q.spec.map (·.regain (s.clk.tick + 15)) }).finishTrains

/-- At a tick: lanes whose TRAIN_END slot has ended (02 R49). -/
def State.lockLanes (s : State) : State :=
  forUpto 8 (fun p s => match (s.port p).lane, (s.port p).step with
    | .training, .closing _ at_ => if s.clk.tick ≥ at_ then s.lockLane p else s
    | _, _ => s) s

/-- FE_START_DELAY_EXPIRY (02 R49). -/
def execFeStartDelayExpiry (s : State) : Res :=
  .next (forUpto 8 (fun p s =>
    let q := s.port p
    if q.lane == .wait && s.frontOn p && decide (s.now ≥ q.waitFrom + us s.input.feStart) then s.trainAfresh p else s) s)

/-- Length of the error-free run of sampling taps that begins at tap `t` (02 R49). -/
def eyeRun (good : BitVec 64) (t : Nat) : Nat := ((List.range (64 - t)).takeWhile fun k => good.getLsbD (t + k)).length

/-- Centre of the widest error-free run of the phase sweep (02 R49); none where no tap is free of errors. DESIGN CHOICE, log 55:
of equally wide runs the one at the lowest taps, of two middle taps the lower; a run does not go on from tap 63 to tap 0. -/
def eyeCentre (good : BitVec 64) : Option Nat :=
  let best := (List.range 64).foldl (fun b t => if eyeRun good b < eyeRun good t then t else b) 0
  if eyeRun good best = 0 then none else some (best + (eyeRun good best - 1) / 2)

/-- TRAINING_MARKER: 0x4D arrives at port `p` in this tick, `good` the taps that the phase sweep of this attempt found free
of errors (02 R49, R51). -/
def execTrainingMarker (p : Fin 8) (good : BitVec 64) (s : State) : Res :=
  match (s.port p).lane, (s.port p).step with
  | .training, .sweep t0 =>
    let l := s.clk.tick - t0
    if 4096 ≤ l && l ≤ 4111 then
      .next (s.modPort p fun q => { q with step := .verify t0 l, latency := l - 4096, tap := (eyeCentre good).getD q.tap })
    else .next s
  | _, _ => .next s

/-- Ticks by which the Dome delays the samples of a port, so that bytes sampled on one SCLKOUT edge are used in one tick
(02 R51). -/
def Port.delay (q : Port) : Nat := 15 - q.latency

/-- TRAINING_VERIFY_END: 1,024 bytes after the marker; `ok` when every one of them read 0xB2 (02 R49). -/
def execTrainingVerifyEnd (p : Fin 8) (ok : Bool) (s : State) : Res :=
  match (s.port p).lane, (s.port p).step with
  | .training, .verify t0 l =>
    if s.clk.tick < t0 + l + 1024 then .next s
    else .next (s.modPort p fun q => if ok then { q with step := .endFrame t0, wantEnd := true } else { q with step := .spoiled t0 })
  | _, _ => .next s

/-! FRM (02 R45–R47). -/

/-- The bits of a frame: start, TYPE, port, VALUE, even parity over ticks 2–12, two low ticks. -/
def frmBits (type p value : Nat) : List Bool :=
  let body := [bit type 1, bit type 0, bit p 2, bit p 1, bit p 0] ++ [5, 4, 3, 2, 1, 0].map (bit value)
  [true, true] ++ body ++ [(body.filter id).length % 2 == 1, false, false]

/-- The port whose GAIN frame is next, round-robin after the one last served; none while its lane trains. -/
def Inputs.nextGain (i : Inputs) : Option Nat :=
  ((List.range 8).map fun k => (i.lastGain + 1 + k) % 8).find? fun p =>
    (vget i.ports p).wantGain && (vget i.ports p).lane != .training

/-- FRM_FRAME: the slot that begins in this tick takes the next waiting frame, or stays low. -/
def execFrmFrame (s : State) : Res :=
  let slot := s.clk.tick / 16
  if !s.fast || s.clk.tick % 16 ≠ 0 || s.input.frm.any (fun f => f.slot == slot) then .next s else
  let put (s : State) (bits : List Bool) : State := s.modInput fun i => { i with frm := some ⟨slot, bits⟩ }
  match (List.range 8).find? fun p => (s.port p).wantEnd || (s.port p).wantStart with
  | some p =>
    let q := s.port p
    if q.wantEnd then
      .next (put (s.modPort p fun q =>
        { q with wantEnd := false
                 step := match q.step with
                   | .endFrame t0 => .closing t0 (s.clk.tick + 16)
                   | st => st }) (frmBits 2 p 0))
    else
      .next (put (s.modPort p fun q => { q with wantStart := false, step := .sweep (s.clk.tick + 15) }) (frmBits 1 p 0))
  | none =>
    match s.input.nextGain with
    | none => .next (put s (List.replicate 16 false))
    | some p =>
      let s' := (s.modPort p fun q => { q with wantGain := false }).modInput fun i => { i with lastGain := p }
      .next (put s' (frmBits 0 p (s.port p).word))

/-! AGC, jamming index, histograms (02 R58–R63, R69–R71). -/

/-- Counts of the 16 codes of I and of Q over a window, as the lane's bytes give them. -/
structure WindowCounts where
  i : List Nat
  q : List Nat

/-- Q is negated at the port input where INVERT is set (02 R54). -/
def WindowCounts.oriented (w : WindowCounts) (invert : Bool) : WindowCounts :=
  if invert then { w with q := w.q.reverse } else w

/-- Level of a code, squared (02 R43). -/
def levelSq (c : Nat) : Nat := ((2 * (c : Int) - 15) ^ 2).toNat

def sumSq (l : List Nat) : Nat := ((List.range 16).zip l |>.map fun c => levelSq c.1 * c.2).sum

/-- How many codes the word moves for E = 10·log10(`num`/`den`) dB and a step of g/32 dB (02 R58): an exact half of a code moves
it away from zero (DESIGN CHOICE, log 55). -/
def agcMove (num den g : Nat) : Int :=
  let up (n d : Nat) : Nat := ([1, 3, 5, 7].filter fun k => dbAtLeast n d (g * k) 64).length
  if dbAtLeast num den (-1) 2 && dbAtLeast den num (-1) 2 then 0
  else if num ≥ den then up num den else -(up den num : Int)

/-- Codes of level ±15 exceed 10 % of I or of Q. -/
def saturates (l : List Nat) : Bool := decide (10 * (l.getD 0 0 + l.getD 15 0) > l.sum)

/-- One code holds more than 99 % of I or of Q. -/
def sticks (l : List Nat) : Bool := l.any fun c => decide (100 * c > 99 * l.sum)

/-- 10·log10(num/den) ≥ x/19,200 dB, with the fraction in its lowest terms. -/
def dbReaches (num den : Nat) (x : Int) : Bool :=
  let g := max 1 (Nat.gcd x.natAbs 19200)
  dbAtLeast num den (x / (g : Int)) (19200 / g)

/-- J of a window (02 R69) for L = `num`/`den`, a gain of `gain`/32 dB and N_REF in 1/19,200 dB: the largest j up to 255 with
j − 1/2 ≤ 4·(P − N_REF), P unrounded. -/
def jOf (num den gain : Nat) (nref : Int) : Nat :=
  (List.range 8).foldr (fun k (acc : Nat) =>
    let c : Nat := acc + 2 ^ k
    if dbReaches num den (4800 * (c : Int) - 2400 + 600 * (gain : Int) + nref) then c else acc) 0

/-- The word that AUTO asks for at a window's end, before it is limited (02 R58). -/
def Port.autoWord (q : Port) (w : WindowCounts) : Int :=
  let c := q.cfg
  let m : Int := if saturates w.i || saturates w.q then -4
    else agcMove (c.target * c.target * 2 * w.i.sum) (256 * (sumSq w.i + sumSq w.q)) c.step
  q.word + m

/-- The new gain word at a window's end, `held` while a freeze holds it (02 R58, R61), and AGC_LIMIT: set while AUTO would move
the word past a limit, clear at the first window in which it would not (R59). -/
def Port.agc (q : Port) (w : WindowCounts) (held : Bool) : Nat × Bool :=
  let c := q.cfg
  let z := q.autoWord w
  let past := decide (z < c.agcMin ∨ z > c.agcMax)
  if held || c.mode = 1 then (q.word, q.agcLimit && past)
  else if c.mode = 2 then (c.manual, q.agcLimit && past)
  else ((clampInt c.agcMin c.agcMax z).toNat, past)

/-- A window is counted: the one in progress when the command was accepted counts whole, as the first (DESIGN CHOICE, log 55). -/
def Histogram.add (h : Histogram) (w : WindowCounts) (word : Nat) (changed : Bool) : Histogram :=
  { h with left := h.left - 1, startWord := some (h.startWord.getD word), changes := h.changes + b2n changed
           samples := h.samples + w.i.sum, i := List.zipWith (· + ·) h.i w.i, q := List.zipWith (· + ·) h.q w.q }

/-- A histogram job ends (02 R79). -/
def State.histogramReply (s : State) (p : Nat) (h : Histogram) : State :=
  s.finalReply h.cmd .ok 0
    (le 1 p ++ le 1 (h.startWord.getD (s.port p).word) ++ le 1 (s.port p).word ++ le 1 (min 255 h.changes) ++ le 4 h.samples ++
      h.i.flatMap (le 4) ++ h.q.flatMap (le 4))

/-- Histogram jobs of a port at a window's end: every window counts, whatever part of it was blanked (02 R62, R74, R79). The
window in progress when the command was accepted counts whole, as the first (DESIGN CHOICE, log 55). -/
def State.histograms (s : State) (p : Nat) (w : WindowCounts) (word : Nat) (changed : Bool) : State :=
  let l := (s.port p).hists.map (·.add w word changed)
  let s := s.modPort p fun q => { q with hists := l.filter fun h => decide (h.left > 0) }
  (l.filter fun h => decide (h.left = 0)).foldl (fun s h => s.histogramReply p h) s

/-- What the end of a window with samples does, less the loss of lock that STUCK brings: `w` the codes of its samples that are
not blanked, over which the mean of 02 R58 is taken (log 55). -/
def State.window (s : State) (p : Nat) (w : WindowCounts) : State :=
  let q := s.port p
  let w := w.oriented q.cfg.invert
  let n := w.i.sum
  let power := sumSq w.i + sumSq w.q
  let p256 := dbRound power (2 * n) 256 8192 - (8 * q.cfg.step * q.word : Nat)
  let (free, s) := if q.nref.isNone then s.draw else (0, s)
  let j := match q.nref with
    | some r => jOf power (2 * n) (q.cfg.step * q.word) r
    | none => Config.freeNat free % 256
  let j := if s.cal.run.any (fun r => !r.released) then q.j else j
  let (word, limit) := q.agc w (s.freezes || q.held)
  let changed := decide (word ≠ q.word)
  let stuck := sticks w.i || sticks w.q
  let s := s.modPort p fun q =>
    { q with j := j, jMax := max q.jMax j, word := word, agcLimit := limit, settled := q.settled || !changed, window := s.clk.tick
             live := q.lane == .locked, held := false, windows := q.windows + 1, wantGain := q.wantGain || changed
             minP := some (match q.minP with | none => p256 | some m => min m p256)
             stuckCount := if stuck then q.stuckCount + 1 else 0 }
  s.histograms p w q.word changed

/-- A window without one sample that is not blanked: it passes without counts (02 R74). -/
def State.blankWindow (s : State) (p : Nat) : State :=
  let s := s.modPort p fun q => { q with window := s.clk.tick, live := q.lane == .locked, held := false }
  s.histograms p { i := List.replicate 16 0, q := List.replicate 16 0 } (s.port p).word false

/-- N_REF after a second whose lowest P was `m` (02 R70): down at once, up by 0.05 dB a minute, never above the stored
value + 3 dB. -/
def nrefNext (nref : Option Int) (stored : Option Int) (m : Int) : Int :=
  match nref with
  | none => 75 * m
  | some r =>
    let up := min (75 * m) (r + 16)
    let z := if 75 * m ≤ r then 75 * m else match stored with
      | none => up
      | some v => max r (min up (75 * v + 57600))
    z

/-- NOISE_FLOOR_UPDATE: each second of DT (02 R70). -/
def execNoiseFloorUpdate (s : State) : Res :=
  if !s.domeService || s.now / second = s.input.noiseAt then .next s else
  let s := s.modInput fun i => { i with noiseAt := s.now / second }
  .next (forUpto 8 (fun p s =>
    let stored := (vget s.cal.slots (b2n s.cal.inForce)).values.nref.getD p none
    s.modPort p fun q => match q.minP with
      | none => q
      | some m => { q with nref := some (nrefNext q.nref stored m), minP := none }) s)

/-- |X|² of a full-scale complex tone of level ±15 at its bin of a Hann-windowed 1,024-point FFT: (15 × 1,024 / 2)² (02 R64). -/
def fullScale : Nat := 7680 ^ 2

/-- A bin in 1/128 dB below a full-scale tone, from its power summed over `used` blocks, rounded to nearest (log 55); −32,768
where it holds no power. -/
def binLevel (power used : Nat) : Int := if power = 0 then -32768 else dbRound power (used * fullScale) 128 32767

/-- The 1,024 values of a spectral job; free values where no block could be used, as then there is no average. -/
def spectrumBins (power : List Nat) (used draw : Nat) : List Byte :=
  (List.range 1024).flatMap fun k =>
    if used = 0 then le 2 (Config.freeNat (draw + k)) else leInt 2 (binLevel (power.getD k 0) used)

/-- SPECTRUM_JOB_COMPLETE: BLOCKS blocks have passed; `power` holds, for each bin, |X|² of the Hann-windowed FFTs summed
over the blocks without blanked samples, in level units squared (02 R64, R74, R80). -/
def execSpectrumJobComplete (p : Fin 8) (power : List Nat) (_ : Unit) (s : State) : Res :=
  match (s.port p).spec with
  | none => .next s
  | some j =>
    if s.clk.tick < j.start + 1024 * j.blocks then .next s else
    let used := j.blocks - (j.regain s.clk.tick).skipped
    let s := s.modPort p fun q => { q with spec := none }
    let draw := s.free
    let s := if used = 0 then { s with free := s.free + 1024 } else s
    .next (s.finalReply j.cmd .ok 0
      (le 1 p.val ++ le 1 j.tap ++ le 2 used ++ spectrumBins power used draw))

/-! Notches (02 R66–R68). -/

/-- A line lies within the width of an engaged notch. -/
def Port.covers (q : Port) (f : Int) : Bool :=
  q.notches.toList.any fun n => n.engaged && decide (2 * (f - n.centre).natAbs ≤ widthHz n.width)

/-- A notch's centre lies within ±40,000,000 Hz of CENTRE_HZ (02 R66). -/
def notchReach : Int := 40000000

/-- The strongest of the lines within reach that no engaged notch covers: (frequency, power above the median in 1/16 dB). -/
def Port.newLine (q : Port) (lines : List (Int × Int)) : Option (Int × Int) :=
  (lines.filter fun l => decide ((16 * q.thresh : Int) ≤ l.2) && decide (l.1.natAbs ≤ notchReach) && !q.covers l.1).foldl (fun (b : Option (Int × Int)) l => match b with
    | none => some l
    | some m => if m.2 < l.2 then some l else some m) none

/-- An engaged AUTO notch follows its line by at most 16 kHz an update, and releases after 100 ms below its threshold
less 3 dB. -/
def State.follow (s : State) (p k : Nat) (line : Int × Int) : State :=
  let q := s.port p
  let n := vget q.notches k
  if !n.engaged then s
  else if n.mode ≠ 1 then s.moveNotch p k n.centre line.2
  else
    let s := s.moveNotch p k
      (if (line.1 - n.centre).natAbs ≤ 16000 then clampInt (-notchReach) notchReach line.1 else n.centre) line.2
    if line.2 < 16 * ((q.thresh : Int) - 3) then
      match n.below with
      | none => s.modPort p fun q => { q with notches := vmod q.notches k fun n => { n with below := some s.now } }
      | some d => if s.now ≥ d + ms 100 then s.release p k else s
    else s.modPort p fun q => { q with notches := vmod q.notches k fun n => { n with below := none } }

/-- LINE_DETECTOR_UPDATE: every 64 blocks; `lines` the bins above the median, `own` for each notch the line it stands on. The
detector updates while the lane is LOCKED only, so a setting for another port stays pending until then (DESIGN CHOICE, log 55). -/
def execLineDetectorUpdate (p : Fin 8) (lines own : List (Int × Int)) (s : State) : Res :=
  if !s.domeService || s.freezes || (s.port p).lane != .locked || decide (s.clk.tick < (s.port p).detector + 65536) then .next s
  else
    let s := s.modPort p fun q => { q with detector := s.clk.tick }
    let s := s.applyNotches p
    let s := forUpto 4 (fun k s => s.follow p k (own.getD k ((vget (s.port p).notches k).centre, -32768))) s
    let q := s.port p
    match q.newLine lines, (List.range 4).find? fun k => (vget q.notches k).mode == 1 && !(vget q.notches k).engaged with
    | some l, some k => .next (s.engage p k l.1 l.2)
    | _, _ => .next s

/-! Port settings (02 R40, R55, R76). -/

def PortConfig.bytes (c : PortConfig) (p : Nat) : List Byte :=
  le 1 p ++ le 1 (b2n c.enable + 2 * b2n c.invert) ++ le 1 c.mode ++ le 1 c.manual ++ le 1 c.agcMin ++ le 1 c.agcMax ++
    le 1 c.target ++ le 1 c.step ++ le 4 c.centre

def parsePort (b : List Byte) : PortConfig :=
  { enable := bit (byteAt b 1) 0, invert := bit (byteAt b 1) 1, mode := byteAt b 2, manual := byteAt b 3, agcMin := byteAt b 4,
    agcMax := byteAt b 5, target := byteAt b 6, step := byteAt b 7, centre := getLe b 8 4 }

/-- The sealed fields of INPUT_SET_PORT (09 R313). -/
def portFields (p : Nat) (o n : PortConfig) : List ParamField :=
  [⟨0x0010, p, b2n o.enable, b2n n.enable⟩, ⟨0x0011, p, b2n o.invert, b2n n.invert⟩, ⟨0x0012, p, o.centre, n.centre⟩,
   ⟨0x0013, p, o.step, n.step⟩]

/-- A setting takes effect: AUTO notches are released at a change of CENTRE_HZ, at the end of a freeze where one is in force
(02 R68, R74), lanes follow ENABLE. -/
def State.setPort (s : State) (p : Nat) (n : PortConfig) : State :=
  let o := (s.port p).cfg
  let drop (k : Nat) (s : State) : State :=
    if (vget (s.port p).notches k).mode ≠ 1 then s
    else if s.freezes then s.modPort p fun q => { q with notches := vmod q.notches k fun n => { n with releaseDue := n.engaged } }
    else s.release p k
  let s := if o.centre ≠ n.centre then forUpto 4 drop s else s
  let s := (s.modPort p fun q => { q with cfg := n }).syncPort false 5 p
  if (changedFields (portFields p o n)).isEmpty then s else s.calTrigger 3

/-- Waiting settings take effect and their commands are answered. -/
def State.applyPorts (s : State) : State :=
  let l := s.input.sets
  let s := s.modInput fun i => { i with sets := [] }
  l.foldl (fun s t => (s.setPort t.port t.cfg).finalReply t.cmd .ok 0 []) s

/-- Ports whose lanes restart lock because CENTRE_HZ or INVERT changes (02 R55). -/
def State.recentred (s : State) : List Nat :=
  (List.range 8).filter fun p => s.input.sets.any fun t =>
    t.port == p && (t.cfg.centre != (s.port p).cfg.centre || t.cfg.invert != (s.port p).cfg.invert)

/-- The rate of epochs that the profile gives (06 R209): SKETCH has none. -/
def State.profileRate (s : State) : Nat :=
  if !s.domeService || s.pwr.profile = 0 then 0 else if s.pwr.profile = 2 then s.interp.meas else 1

/-! INPUT-group commands (02 R75–R84). -/

def bodyInputSetPort : Body := fun c s =>
  let b := c.payload
  let p := byteAt b 0
  let n := parsePort b
  let lo := if p % 2 = 0 then 1574000000 else 1155000000
  let hi := if p % 2 = 0 then 1595000000 else 1200000000
  let fields := portFields p (s.port p).cfg n
  checked s
    ([reservedPayload b [(0, 0xF8), (1, 0xFC)], outOfRange (decide (n.mode > 2)) 2,
      outOfRange (decide (n.manual > 63 ∨ n.manual < n.agcMin ∨ n.manual > n.agcMax)) 3, outOfRange (decide (n.agcMin > 63)) 4,
      outOfRange (decide (n.agcMax < n.agcMin ∨ n.agcMax > 63)) 5, outOfRange (decide (n.target < 32 ∨ n.target > 192)) 6,
      outOfRange (decide (n.step < 4 ∨ n.step > 64)) 7, outOfRange (decide (n.centre < lo ∨ n.centre > hi)) 8]
     ++ sealedChecks s fields)
    (let s := s.enterChanges fields
     if s.profileRate = 0 then (s.setPort p n, .both .ok 0 [])
     else (s.modInput fun i => { i with sets := i.sets ++ [⟨c.id, p, n⟩] }, .running))

/-- N_REF in 1/256 dB; 0 while none is learned. -/
def Port.nref256 (q : Port) : Int := match q.nref with | none => 0 | some r => r / 75

def bodyInputGetPort : Body := fun c s =>
  let p := byteAt c.payload 0
  let q := s.port p
  checked s [outOfRange (decide (p > 7)) 0]
    (s, .okay (q.cfg.bytes p ++ le 1 q.lane.code ++ le 1 q.latency ++ le 1 q.word ++ le 1 q.j ++ leInt 4 q.nref256 ++ le 1 q.tap ++
      le 1 (bitsOf [(q.agcLimit, 0), (q.stuck, 1), (q.anyNotch, 2)]) ++ le 2 q.retrains))

/-- A port that is OFF (02 R75). -/
def State.portOff (s : State) (p : Nat) : Bool × Ans := ((s.port p).lane == .off, .err .stateConflict 0)
def State.portUnlocked (s : State) (p : Nat) : Bool × Ans := ((s.port p).lane != .locked, .err .notReady 0)

def bodyInputTrain : Body := fun c s =>
  let m := byteAt c.payload 0
  let bad (p : Nat) : Bool := bit m p && (!(s.port p).cfg.enable || (s.port p).lane == .off)
  checked s [outOfRange (m == 0) 0, ((List.range 8).any bad, .err .stateConflict 0)]
    (let s := s.modInput fun i => { i with trains := i.trains ++ [⟨c.id, m⟩] }
     let fresh (p : Nat) : Bool := bit m p && (s.port p).lane != .training
     (forUpto 8 (fun p s => if fresh p then s.trainAfresh p else s) s, .running))

def bodyInputGetHistogram : Body := fun c s =>
  let b := c.payload
  let p := byteAt b 0
  let n := getLe b 2 2
  checked s
    [reservedPayload b [(1, 0xFF)], outOfRange (decide (p > 7)) 0, outOfRange (decide (n < 1 ∨ n > 1000)) 2, s.portOff p,
     s.portUnlocked p]
    (s.modPort p fun q => { q with hists := q.hists ++ [{ cmd := c.id, left := n }] }, .running)

def bodyInputGetSpectrum : Body := fun c s =>
  let b := c.payload
  let p := byteAt b 0
  let n := getLe b 2 2
  checked s
    [outOfRange (decide (p > 7)) 0, outOfRange (decide (byteAt b 1 > 1)) 1, outOfRange (decide (n < 1)) 2, s.portOff p,
     ((s.port p).spec.isSome, .err .stateConflict 0), s.portUnlocked p]
    (s.modPort p fun q => { q with spec := some { cmd := c.id, tap := byteAt b 1, blocks := n, start := s.clk.tick } }, .running)

def bodyInputSetNotch : Body := fun c s =>
  let b := c.payload
  let p := byteAt b 0
  let t : NotchSet := ⟨byteAt b 1, byteAt b 2, byteAt b 3, getLeInt b 4 4, byteAt b 8⟩
  checked s
    [reservedPayload b [(0, 0xF8), (9, 0xFF), (10, 0xFF), (11, 0xFF)], outOfRange (decide (t.notch > 3)) 1,
     outOfRange (decide (t.mode > 2)) 2, outOfRange (decide (t.width > 3)) 3,
     outOfRange (decide (t.offset.natAbs > 40000000)) 4, outOfRange (decide (t.thresh < 6 ∨ t.thresh > 30)) 8]
    (s.modPort p fun q => { q with notchSets := q.notchSets ++ [t] }, .okay [])

def Notch.bytes (n : Notch) (frozen : Bool) : List Byte :=
  le 1 n.mode ++ le 1 n.width ++ le 1 (if frozen then 2 else if n.engaged then 1 else 0) ++ le 1 0 ++ leInt 4 n.centre ++
    leInt 2 n.power ++ le 2 n.engagements

def bodyInputGetNotch : Body := fun c s =>
  let p := byteAt c.payload 0
  let q := s.port p
  checked s [outOfRange (decide (p > 7)) 0]
    (s, .okay (le 1 p ++ le 1 q.thresh ++ zeros 2 ++ q.notches.toList.flatMap (·.bytes s.freezes)))

def ArrayGeometry.bytes (a : ArrayGeometry) : List Byte := le 1 a.mask ++ zeros 3 ++ a.coords.flatMap (leInt 4)

def parseArray (b : List Byte) : ArrayGeometry :=
  { mask := byteAt b 0, coords := (List.range 9).map fun k => getLeInt b (4 + 4 * k) 4 }

/-- Coordinate of antenna `a`; antenna 0 is the origin. -/
def ArrayGeometry.at (g : ArrayGeometry) (a k : Nat) : Int := if a = 0 then 0 else g.coords.getD (3 * (a - 1) + k) 0

def ArrayGeometry.distSq (g : ArrayGeometry) (a b : Nat) : Int :=
  ([0, 1, 2].map fun k => (g.at a k - g.at b k) ^ 2).sum

/-- R72: antenna 0 present, every pair present 0.050 m to 10.000 m apart, absent antennas at zero. -/
def ArrayGeometry.ok (g : ArrayGeometry) : Bool :=
  let on (a : Nat) : Bool := bit g.mask a
  on 0 &&
    ((List.range 4).all fun a => (List.range 4).all fun b =>
      !(decide (a < b) && on a && on b) || (decide (g.distSq a b ≥ 500 ^ 2) && decide (g.distSq a b ≤ 100000 ^ 2))) &&
    ((List.range 4).all fun a => on a || [0, 1, 2].all fun k => g.at a k == 0)

/-- A signed value as the 32-bit field of a PARAM_CHANGE entry. -/
def word32 (z : Int) : Nat := (z % (2 ^ 32 : Nat)).toNat

def arrayFields (o n : ArrayGeometry) : List ParamField :=
  ⟨0x0020, 255, o.mask, n.mask⟩ ::
    ((List.range 9).map fun k => ⟨0x0021 + k % 3, 1 + k / 3, word32 (o.coords.getD k 0), word32 (n.coords.getD k 0)⟩)

/-- A geometry takes effect. -/
def State.applyArray (s : State) : State :=
  match s.input.arrayPending with
  | none => s
  | some g =>
    let changed := !(changedFields (arrayFields s.input.array g)).isEmpty
    let s := s.modInput fun i => { i with array := g, arrayPending := none }
    if changed then s.calTrigger 3 else s

/-- INPUT_SET_ARRAY (02 R83): in force from the next epoch boundary, which SKETCH does not bring. PARAM_RANGE's DETAIL is the offset of
ANT_MASK for every break of R72, as the spec names no field (DESIGN CHOICE, log 55). -/
def bodyInputSetArray : Body := fun c s =>
  let b := c.payload
  let g := parseArray b
  let fields := arrayFields s.input.array g
  checked s
    ([reservedPayload b [(0, 0xF0), (1, 0xFF), (2, 0xFF), (3, 0xFF)], outOfRange (!g.ok) 0] ++ sealedChecks s fields)
    ((s.enterChanges fields).modInput fun i => { i with arrayPending := some g }, .okay [])

def bodyInputGetArray : Body := query fun s => s.input.array.bytes

/-- New thresholds apply from the next epoch (02 R74). -/
def State.applyThresholds (s : State) : State :=
  match s.input.jPending with
  | none => s
  | some (a, b) => s.modInput fun i => { i with jCaution := a, jAlert := b, jPending := none }

/-- INPUT_SET_GLOBAL (02 R84): J_CAUTION and J_ALERT from the next epoch (R74); at once where no profile produces epochs, which the
spec leaves open (DESIGN CHOICE, log 55). -/
def bodyInputSetGlobal : Body := fun c s =>
  let b := c.payload
  let jc := byteAt b 3
  let ja := byteAt b 4
  let fields : List ParamField := [⟨0x0024, 255, s.input.jCaution, jc⟩, ⟨0x0025, 255, s.input.jAlert, ja⟩]
  checked s
    ([reservedPayload b [(2, 0xFE), (5, 0xFF), (6, 0xFF), (7, 0xFF)], outOfRange (decide (jc < 1 ∨ jc > 254)) 3,
      outOfRange (decide (ja < jc + 1)) 4] ++ sealedChecks s fields)
    (let changed := !(changedFields fields).isEmpty
     let s := (s.enterChanges fields).modInput fun i =>
       { i with feStart := getLe b 0 2, autoRetrain := bit (byteAt b 2) 0, jPending := some (jc, ja) }
     let s := if changed then s.calTrigger 3 else s
     (if s.profileRate = 0 then s.applyThresholds else s, .okay []))

def bodyInputGetGlobal : Body := query fun s =>
  let i := s.input
  le 2 i.feStart ++ le 1 (b2n i.autoRetrain) ++ le 1 i.jCaution ++ le 1 i.jAlert ++ zeros 3

def execInputGetPort (t : Txn) (s : State) : Res := hostCommand (opIs 0x0301) bodyInputGetPort t s
def execInputGetHistogram (t : Txn) (s : State) : Res := hostCommand (opIs 0x0303) bodyInputGetHistogram t s
def execInputGetSpectrum (t : Txn) (s : State) : Res := hostCommand (opIs 0x0304) bodyInputGetSpectrum t s
def execInputSetNotch (t : Txn) (s : State) : Res := hostCommand (opIs 0x0305) bodyInputSetNotch t s
def execInputGetNotch (t : Txn) (s : State) : Res := hostCommand (opIs 0x0306) bodyInputGetNotch t s
def execInputSetArray (t : Txn) (s : State) : Res := hostCommand (opIs 0x0307) bodyInputSetArray t s
def execInputGetArray (t : Txn) (s : State) : Res := hostCommand (opIs 0x0308) bodyInputGetArray t s
def execInputSetGlobal (t : Txn) (s : State) : Res := hostCommand (opIs 0x0309) bodyInputSetGlobal t s
def execInputGetGlobal (t : Txn) (s : State) : Res := hostCommand (opIs 0x030A) bodyInputGetGlobal t s

end Sys2Proof.Machine
end

