-- ==== Sys2Proof/Machine/Easel.lean ====
section
/-! DEFINITION. The Easel: signals, search grids, jobs, banks and their order; the calibrated oscillator model that grids
use (04 R118–R140, 10 R364). -/

namespace Sys2Proof.Machine

def State.modEasel (s : State) (f : Easel → Easel) : State := { s with easel := f s.easel }

/-! Signals and satellites (04 R122, R123). -/

/-- A row of R122: carrier and chip rate in Hz, chips and period of the primary code, bins per chip, the anchor that a
derived signal is searched from (itself for an anchor). -/
structure SignalRow where
  code : Nat
  upper : Bool
  carrier : Nat
  chips : Nat
  len : Nat
  period : Nat
  k : Nat
  anchor : Nat
  deriving Inhabited

def signalTable : List SignalRow := [
  ⟨0x01, true, 1575420000, 1023000, 1023, 1, 2, 0x01⟩, ⟨0x02, true, 1575420000, 1023000, 10230, 10, 4, 0x01⟩,
  ⟨0x03, false, 1176450000, 10230000, 10230, 1, 2, 0x01⟩, ⟨0x11, true, 1575420000, 1023000, 4092, 4, 4, 0x11⟩,
  ⟨0x12, false, 1176450000, 10230000, 10230, 1, 2, 0x11⟩, ⟨0x21, true, 1561098000, 2046000, 2046, 1, 2, 0x21⟩,
  ⟨0x22, true, 1575420000, 1023000, 10230, 10, 4, 0x21⟩, ⟨0x23, false, 1176450000, 10230000, 10230, 1, 2, 0x21⟩] ++ [
  ⟨0x31, true, 1602000000, 511000, 511, 1, 2, 0x31⟩, ⟨0x41, true, 1575420000, 1023000, 1023, 1, 2, 0x41⟩,
  ⟨0x42, true, 1575420000, 1023000, 10230, 10, 4, 0x41⟩, ⟨0x43, false, 1176450000, 10230000, 10230, 1, 2, 0x41⟩,
  ⟨0x51, false, 1176450000, 1023000, 1023, 1, 2, 0x51⟩, ⟨0x61, true, 1575420000, 1023000, 1023, 1, 2, 0x61⟩,
  ⟨0x62, false, 1176450000, 10230000, 10230, 1, 2, 0x61⟩]

def signalRow (code : Nat) : Option SignalRow := signalTable.find? fun r => r.code == code

/-- Number of a signal among the rows of R122. -/
def signalIndex (code : Nat) : Nat := (signalTable.findIdx? fun r => r.code == code).getD 0

/-- SV values of a system (R123). -/
def svRange (code : Nat) : Nat × Nat :=
  match code / 16 with
  | 0 => (1, 32)
  | 1 => (1, 36)
  | 2 => (1, 63)
  | 3 => (1, 14)
  | 4 => (193, 202)
  | 5 => (1, 14)
  | _ => (120, 158)

def svOk (code sv : Nat) : Bool := (signalRow code).isSome && decide ((svRange code).1 ≤ sv) && decide (sv ≤ (svRange code).2)

/-- Carrier of a satellite's signal: GLONASS by its frequency channel k = SV − 8. -/
def carrierOf (r : SignalRow) (sv : Nat) : Nat := if r.code = 0x31 then r.carrier + 562500 * sv - 8 * 562500 else r.carrier

def isAnchor (code : Nat) : Bool := (signalRow code).any fun r => r.anchor == code

/-- The derived signals of an anchor. -/
def derivedOf (anchor : Nat) : List SignalRow := signalTable.filter fun r => r.anchor == anchor && r.code != anchor

/-- The whole default search list: every anchor with its SV range. -/
def searchList : List (SignalRow × Nat) :=
  (signalTable.filter fun r => r.anchor == r.code).flatMap fun r =>
    (List.range ((svRange r.code).2 - (svRange r.code).1 + 1)).map fun k => (r, (svRange r.code).1 + k)

/-! Grids (04 R124–R126). -/

def fullBins (r : SignalRow) : Nat := r.k * r.len

/-- Code bins of a window of half-width W of `q` quarter chips, 2KW + 1 with an even K: never wider than the full period. -/
def windowBins (r : SignalRow) (q : Nat) : Nat := min (fullBins r) (r.k * q / 2 + 1)

/-- Doppler bins on each side of the centre for a half-span of num/den Hz at T_COH of `t` ms: bins 500/t Hz apart. -/
def dopplerSpan (num den t : Nat) : Nat := ceilDiv (num * t) (500 * den)
def dopplerBins (num den t : Nat) : Nat := 2 * dopplerSpan num den t + 1

/-- Half-span of COLD: 5,000 Hz × f / 1,575.42 MHz + f × U_OSC, U_OSC in 0.01 ppm; numerator and denominator in Hz. -/
def coldSpan (f uOsc : Nat) : Nat × Nat := (f * (5000 * 10 ^ 8 + uOsc * 1575420000), 1575420000 * 10 ^ 8)
def warmSpan (f uOsc : Nat) : Nat × Nat := (500 * 10 ^ 8 + f * uOsc, 10 ^ 8)
def modelSpan (f uModel : Nat) : Nat × Nat := (200 * 10 ^ 12 + f * uModel, 10 ^ 12)

/-- W_A in chips, for a position uncertainty in mm and a time uncertainty in ns (R125). -/
def assistWindow (r : SignalRow) (pos time : Nat) : Nat := ceilDiv (r.chips * (pos * 1000 + time)) (299792458 * 1000 * 1000) + 2

/-- Code bins of a derived signal at its anchor's prediction (R126): ±8 chips, or ±2 chips at each of ten offsets. -/
def derivedBins (r : SignalRow) : Nat := if r.period = 10 then 170 else 33

/-- Hypotheses of a derived signal (R126): 510 or 99. -/
def derivedHyps (r : SignalRow) : Nat := derivedBins r * 3

/-- Code bins, Doppler bins and hypotheses of a grid (R124). -/
def Grid.codeBins (g : Grid) (r : SignalRow) : Nat :=
  if g.derived then derivedBins r else match g.half with | none => fullBins r | some q => windowBins r q

def Grid.dopBins (g : Grid) : Nat := 2 * g.span + 1

def Grid.hyps (g : Grid) : Nat := match signalRow g.signal with | none => 0 | some r => g.codeBins r * g.dopBins

/-- The window takes in the whole period. -/
def Grid.whole (g : Grid) (r : SignalRow) : Bool := !g.derived && g.codeBins r == fullBins r

/-- Distance of code bin `b` from the window's centre in 1/1,024 chip; from the start of the period where the grid is whole. -/
def Grid.binOffset (g : Grid) (r : SignalRow) (b : Nat) : Int :=
  let step : Nat := 1024 / r.k
  if g.whole r then (b * step : Nat)
  else if g.derived then
    if r.period = 10 then ((b / 17 * (r.len * 1024 / 10) + b % 17 * step : Nat) : Int) - 2048 else ((b * step : Nat) : Int) - 8192
  else ((b * step : Nat) : Int) - 256 * (g.half.getD 0 : Nat)

/-- Doppler of bin `d` in mHz. -/
def Grid.binDoppler (g : Grid) (d tCoh : Nat) : Int := g.doppler + ((d : Int) - g.span) * ((500000 / tCoh : Nat) : Int)

/-- The grid of a derived signal (R126): centred where the verified anchor, at its DT, predicts code phase and Doppler. -/
def derivedGrid (a : Peak) (r : SignalRow) : Grid :=
  match signalRow a.signal with
  | none => { signal := r.code, sv := a.sv, derived := true, span := 1 }
  | some p =>
    { signal := r.code, sv := a.sv, code := a.code * r.chips / p.chips % (r.len * 1024), dt := a.dt, derived := true
      doppler := rnd (a.doppler * r.carrier) (carrierOf p a.sv), span := 1 }

/-- Advance of a code phase over a span of DT, in 1/1,024 chip: at the chip rate scaled by the Doppler (R133). -/
def codeAdvance (r : SignalRow) (sv : Nat) (doppler span : Int) : Int :=
  let f := carrierOf r sv
  (r.chips : Int) * 1024 * span * (f * 1000 + doppler) / (f * 1000 * 2 ^ 32 : Nat)

/-- A code phase at another DT. -/
def codeAt (r : SignalRow) (sv code : Nat) (doppler : Int) (from_ dest : Nat) : Nat :=
  ((code + codeAdvance r sv doppler ((dest : Int) - from_)) % (r.len * 1024 : Nat)).toNat

/-! Detection (04 R130–R132). -/

/-- Σ yᵏ/k! over the first `m` terms for y = num/den, in 2⁻¹²⁸: `t` is the term `k`. -/
def expSum : Nat → Nat → Nat → Nat → Nat → Nat
  | 0, _, _, _, _ => 0
  | m + 1, k, t, num, den => t + expSum m (k + 1) (t * num / (den * (k + 1))) num den

/-- A chi-square variable of 2n degrees of freedom exceeds 2y, y = num/den, with a probability below 1/bound:
bound × Σ_{k<n} yᵏ/k! < eʸ. Far out in the tail y stands at a limit beyond which the probability is below any bound. -/
def tailBelow (n num den bound : Nat) : Bool :=
  let y := min num (den * (2 * n + 200))
  decide (expSum n 0 (2 ^ 128) y den * bound < expSum (n + 8 * (y / den + 1) + 64) 0 (2 ^ 128) y den)

/-- Within the 3 × 3 neighbourhood. -/
def cellBeside (a b : Cell) : Bool :=
  a.signal == b.signal && a.sv == b.sv && decide (a.bin ≤ b.bin + 1 ∧ b.bin ≤ a.bin + 1 ∧ a.dop ≤ b.dop + 1 ∧ b.dop ≤ a.dop + 1)

def insertStrong (c : Cell) : List Cell → List Cell
  | [] => [c]
  | d :: r => if d.sum < c.sum then c :: d :: r else d :: insertStrong c r

/-- The five strongest cells of each satellite and signal. -/
def strongest (cs : List Cell) : List Cell :=
  cs.foldl (fun l c =>
    let own := insertStrong c (l.filter fun d => d.signal == c.signal && d.sv == c.sv)
    (l.filter fun d => !(d.signal == c.signal && d.sv == c.sv)) ++ own.take 5) []

/-- The noise reference of a pass (R130) as a sum over so many hypotheses: all but the neighbourhoods of the strongest. -/
def noiseReference (cs : List Cell) : Nat × Nat :=
  let top := strongest cs
  let rest := cs.filter fun c => !top.any (cellBeside c)
  ((rest.map (·.sum)).sum, rest.length)

/-- The cell stands above the threshold of R130: its sum, scaled to the noise reference, has a chance below PFA / H. -/
def cellAbove (c : Cell) (nnc hyps pfaExp noise cells : Nat) : Bool :=
  noise != 0 && tailBelow nnc (nnc * c.sum * cells) noise (max 1 hyps * 10 ^ pfaExp)

/-- Parabolic interpolation (R132): the offset of the peak in steps of `unit` from sums at the neighbours; none where one is missing. -/
def parabola (left mid right : Option Nat) (unit : Nat) : Int :=
  match left, mid, right with
  | some a, some b, some c =>
    if 2 * b ≤ a + c then 0 else rnd ((unit : Int) * ((c : Int) - a)) (2 * (2 * b - a - c))
  | _, _, _ => 0

def EaselJob.isTwin (j : EaselJob) : Bool := match j.kind with | .twin _ => true | _ => false
def EaselJob.isReacq (j : EaselJob) : Bool := match j.kind with | .reacq _ => true | _ => false

/-- The grid that a cell belongs to, within its bins. -/
def EaselJob.gridOf (j : EaselJob) (lower : Bool) (c : Cell) : Option (Grid × SignalRow) :=
  (j.grids.find? fun g => g.signal == c.signal && g.sv == c.sv).bind fun g =>
    (signalRow g.signal).bind fun r =>
      if decide (c.bin < g.codeBins r) && decide (c.dop < g.dopBins) && (j.replay != 0 || r.upper != lower) then some (g, r) else none

/-- A cell as a peak at DT_DET, with its estimates. -/
def cellPeak (c : Cell) (cs : List Cell) (g : Grid) (r : SignalRow) (tCoh noise cells dt : Nat) : Peak :=
  let at_ (bin dop : Nat) : Option Nat :=
    (cs.find? fun d => d.signal == c.signal && d.sv == c.sv && d.bin == bin && d.dop == dop).map (·.sum)
  let before (n : Nat) (f : Nat → Option Nat) : Option Nat := if n = 0 then none else f (n - 1)
  let mid := some c.sum
  let code : Int := g.binOffset r c.bin + parabola (before c.bin (at_ · c.dop)) mid (at_ (c.bin + 1) c.dop) (1024 / r.k)
  let doppler : Int := g.binDoppler c.dop tCoh + parabola (before c.dop (at_ c.bin)) mid (at_ c.bin (c.dop + 1)) (500000 / tCoh)
  let from_ : Nat := if g.whole r then 0 else codeAt r c.sv g.code g.doppler g.dt dt
  { signal := c.signal, sv := c.sv, code := ((from_ + code) % (r.len * 1024 : Nat)).toNat, doppler := doppler, sum := c.sum
    noise := noise, cells := cells, tCoh := tCoh, dt := dt }

/-- Distance of two code phases around the period, in 1/1,024 chip. -/
def codeDistance (r : SignalRow) (a b : Nat) : Nat :=
  let n := r.len * 1024
  let d := (a + n - b % n) % n
  min d (n - d)

/-- The cell lies within ±1.5 chips and ±1 bin of the code phase and Doppler that the grid was centred on: the region that a
visit of the watch leaves out (R150). -/
def Grid.core (g : Grid) (r : SignalRow) (dt : Nat) (c : Cell) : Bool :=
  let n := r.len * 1024
  let code := codeAt r g.sv g.code g.doppler g.dt dt
  let cell : Int := g.binOffset r c.bin + (if g.whole r then 0 else (code : Int))
  decide (codeDistance r (cell % (n : Int)).toNat code ≤ 1536) && decide (c.dop ≤ g.span + 1 ∧ g.span ≤ c.dop + 1)

/-- The cell lies in the region that its job leaves out: in a visit of the watch only. -/
def EaselJob.leavesOut (j : EaselJob) (lower : Bool) (dt : Nat) (c : Cell) : Bool :=
  j.isTwin && (j.gridOf lower c).any fun g => g.1.core g.2 dt c

/-- The peaks of a pass (R130–R132): the cells above their thresholds, but for the region that a visit leaves out. -/
def EaselJob.peaks (j : EaselJob) (lower : Bool) (dt : Nat) (cs : List Cell) : List Peak :=
  let mine := cs.filter fun c => (j.gridOf lower c).isSome
  let (noise, cells) := noiseReference mine
  (mine.filter fun c => !j.leavesOut lower dt c).filterMap fun c => (j.gridOf lower c).bind fun g =>
    if cellAbove c j.nnc g.1.hyps j.pfaExp noise cells then some (cellPeak c mine g.1 g.2 j.tCoh noise cells dt) else none

/-- The sum of the tracked peak in a visit: the strongest cell of the region left out (R150). -/
def EaselJob.trackedSum (j : EaselJob) (lower : Bool) (dt : Nat) (cs : List Cell) : Nat :=
  ((cs.filter (j.leavesOut lower dt)).map (·.sum)).foldl max 0

/-! The oscillator model (10 R364): r_model and U_MODEL in 10⁻¹² at a temperature in 1/128 °C. -/

/-- r_model(T): c0 in 10⁻¹², c1 in 10⁻¹²/°C, c2 in 10⁻¹⁵/°C², c3 in 10⁻¹⁸/°C³ (R376); without a valid fit the count-weighted
mean of the populated bins. -/
def Cal.rModel (c : Cal) (temp : Int) : Int :=
  let m := c.values.model
  if m.valid then
    let x := temp - 3200
    rnd (m.c0 * 10 ^ 6 * 2097152 + m.c1 * x * 10 ^ 6 * 16384 + m.c2 * x ^ 2 * 10 ^ 3 * 128 + m.c3 * x ^ 3) (10 ^ 6 * 2097152)
  else
    let n := (c.bins.map fun b => b.2.1).sum
    if n = 0 then 0 else rnd ((c.bins.map fun b => (b.2.1 : Int) * b.2.2).sum) n

def Cal.uModel (c : Cal) (temp : Int) : Nat :=
  let m := c.values.model
  if !m.valid then 2000000
  else
    let out := max 0 (max (128 * m.spanLo - temp) (temp - 128 * m.spanHi))
    max 20000 (3 * m.rms) + ceilDiv (50000 * out.toNat) 128

/-! Dwells. -/

def tick1ms : Nat := 81840

/-- Ticks that loading a bank takes (R119). -/
def loadTicks : Nat := 1637

/-- Dwell of a pass: T_COH × N_NC, divided by R in replay. -/
def dwellTicks (t nnc replay : Nat) : Nat := tick1ms * t * nnc / max 1 replay

/-- Hypotheses of a bank pass (R118). -/
def bankHyps (replay : Nat) : Nat := 16384 / max 1 replay

/-! Jobs and banks (04 R138, R139). -/

/-- Order of jobs: reacquisition, Sketch, commanded searches by ring and acceptance, then the twin watch. -/
def EaselJob.key (j : EaselJob) : Nat × Nat × Nat :=
  match j.kind with
  | .reacq _ => (0, 0, j.accepted)
  | .sketch => (1, 0, j.accepted)
  | .search => (2, j.ring, j.accepted)
  | .twin _ => (3, 0, j.id)

def keyBefore (a b : Nat × Nat × Nat) : Bool :=
  decide (a.1 < b.1) || (a.1 == b.1 && (decide (a.2.1 < b.2.1) || (a.2.1 == b.2.1 && decide (a.2.2 < b.2.2))))

def EaselJob.before (a b : EaselJob) : Bool := keyBefore a.key b.key || (a.key == b.key && decide (a.id < b.id))

def Easel.job (e : Easel) (id : Nat) : Option EaselJob := e.jobs.find? fun j => j.id == id
def Easel.held (e : Easel) (id : Nat) : Nat := (e.banks.toList.filter fun b => b.job == some id).length
def Easel.modJob (e : Easel) (id : Nat) (f : EaselJob → EaselJob) : Easel :=
  { e with jobs := e.jobs.map fun j => if j.id = id then f j else j }

/-- Passes that the job has not started, or has to finish. -/
def EaselJob.left (j : EaselJob) : Bool := decide (j.hypUp > 0) || decide (j.hypLo > 0) || !j.parts.isEmpty

/-- The port of a pass. -/
def EaselJob.port (j : EaselJob) (lower : Bool) : Nat := 2 * j.antenna + b2n lower

/-- The band of the job's next pass: of one to be finished, else the upper one first; the lower one once it is judged (R127). -/
def EaselJob.nextBand (j : EaselJob) : Option Bool :=
  match j.parts with
  | p :: _ => some p.2.1
  | [] => if j.hypUp > 0 then some false else if j.hypLo > 0 && !j.lowerOpen then some true else none

/-- The job may read the replay stream: it is free, or the job's own round begins in this tick (R120). -/
def State.replayFree (s : State) (j : EaselJob) : Bool :=
  s.easel.banks.toList.all fun b => match b.job.bind s.easel.job with
    | some i => i.replay == 0 || (i.id == j.id && b.start == s.clk.tick && !b.roundOver)
    | none => true

/-- The job can start a pass now. -/
def State.canPass (s : State) (j : EaselJob) : Bool :=
  decide (s.easel.held j.id < j.limit) && s.poweredOn 3 &&
    match j.nextBand with
    | none => false
    | some lower => if j.replay = 0 then (s.port (j.port lower)).lane == .locked else s.replayFree j

/-- The first job in the order of R138 that wants a bank. -/
def State.nextJob (s : State) : Option EaselJob :=
  (s.easel.jobs.filter s.canPass).foldl (fun b j => match b with
    | none => some j
    | some i => if j.before i then some j else some i) none

/-- DT after so many ticks. -/
def ticksAfter (dt ticks : Nat) : Nat := dt + ticks * 2 ^ 32 / 81840000

/-- DT_DET of a pass that is loaded in this tick: a live pass begins once its bank is loaded, a replay reads the capture from its
first sample (R119, R132). -/
def State.detectDt (s : State) (j : EaselJob) : Nat :=
  match j.capture.bind fun id => vget s.easel.captures id with
  | some c => c.dt
  | none => ticksAfter s.now loadTicks

/-- Bank `b` is loaded for a pass of job `j`; a pass that gave way goes on where it stopped (01 R32). -/
def State.startPass (s : State) (b : Nat) (j : EaselJob) : State :=
  match j.parts with
  | (n, lower, done) :: rest =>
    s.modEasel fun e =>
      { e with banks := vset e.banks b { job := some j.id, start := s.clk.tick - done, lower := lower, hyps := n, dt := s.detectDt j }
               jobs := (e.modJob j.id fun j => { j with parts := rest }).jobs }
  | [] =>
    let lower := decide (j.hypUp = 0)
    let n := min (bankHyps j.replay) (if lower then j.hypLo else j.hypUp)
    s.modEasel fun e =>
      { e with banks := vset e.banks b { job := some j.id, start := s.clk.tick, lower := lower, hyps := n, dt := s.detectDt j }
               jobs := (e.modJob j.id fun j =>
                 if lower then { j with hypLo := j.hypLo - n } else { j with hypUp := j.hypUp - n }).jobs }

/-- Every free bank goes to the first job that wants one. -/
def State.assignBanks (s : State) : State :=
  if s.cal.run.any (fun r => !r.released && r.profile != 1) then s else
  forUpto 8 (fun b s =>
    let k := vget s.easel.banks b
    if k.job.isSome || k.cal then s
    else match s.nextJob with
      | none => s
      | some j => s.startPass b j) s

/-- A bank's pass is discarded: its hypotheses are searched again later. -/
def State.discardPass (s : State) (b : Nat) : State :=
  let k := vget s.easel.banks b
  match k.job with
  | none => s
  | some id => s.modEasel fun e =>
      { e with banks := vset e.banks b {}
               jobs := (e.modJob id fun j =>
                 if k.roundOver then j
                 else if k.lower then { j with hypLo := j.hypLo + k.hyps } else { j with hypUp := j.hypUp + k.hyps }).jobs }

/-- A bank's pass gives way: its partial results are kept until it resumes (01 R32). -/
def State.suspendPass (s : State) (b : Nat) : State :=
  let k := vget s.easel.banks b
  match k.job with
  | none => s
  | some id => s.modEasel fun e =>
      { e with banks := vset e.banks b {}
               jobs := (e.modJob id fun j => { j with parts := j.parts ++ [(k.hyps, k.lower, s.clk.tick - k.start)] }).jobs }

/-- A bank that no job and no calibration run holds. -/
def Easel.bankFree (e : Easel) : Bool := (List.range 8).any fun b => (vget e.banks b).job.isNone && !(vget e.banks b).cal

/-- A reacquisition request takes a bank at once (R139): a free one, or the highest-numbered bank of the last job in the
order; a bank of the twin watch only at an epoch boundary. -/
def State.reacqBank (s : State) : State :=
  if s.easel.bankFree then s.assignBanks
  else
    let owners := s.easel.jobs.filter fun j => decide (s.easel.held j.id > 0) && !j.isTwin && !j.isReacq
    match owners.foldl (fun b j => match b with
      | none => some j
      | some i => if EaselJob.before i j then some j else some i) (none : Option EaselJob) with
    | none => s
    | some j =>
      match ((List.range 8).filter fun b => (vget s.easel.banks b).job == some j.id).getLast? with
      | none => s
      | some b => (s.discardPass b).assignBanks

def State.addJob (s : State) (j : EaselJob) : State :=
  s.modEasel fun e => { e with jobs := e.jobs ++ [{ j with id := e.nextJob }], nextJob := e.nextJob + 1 }

/-- A job ends and its banks are released at once. -/
def State.dropJob (s : State) (id : Nat) : State :=
  (s.modEasel fun e =>
    { e with jobs := e.jobs.filter fun j => j.id != id
             banks := e.banks.map fun b => if b.job = some id then {} else b }).assignBanks

/-! Power on demand (01 R24). -/

/-- Domains of the Easel, the snapshot memory and FRONT that nothing needs any more lose power in SKETCH and SENTINEL. -/
def State.powerDownIdle (s : State) : State :=
  let e := s.easel
  let busy := !e.jobs.isEmpty || e.fix.isSome || s.cal.run.any fun r => !r.released && r.profile != 1
  let taking := !e.reqs.isEmpty || e.capturing.isSome
  let off (d : Nat) (b : Bool) (s : State) : State := if b then s.modPwr fun p => { p with domains := p.domains &&& ~~~domainBit d } else s
  if s.pwr.profile = 0 then
    let s := off 3 (!busy) s
    let s := off 4 (!taking && e.captures.toList.all (·.isNone) && e.fix.isNone) s
    let live := e.jobs.any fun j => j.replay == 0
    let s := off 9 (!taking && !live && !(s.cal.run.any fun r => !r.released)) s
    s.syncPorts false 6
  else if s.pwr.profile = 1 then off 3 (!busy) s
  else s

/-- The Easel is powered for a job where the profile powers it on demand. -/
def State.powerEasel (s : State) : State := if s.pwr.profile = 2 then s else s.powerDomains [3]

/-- The grid of a channel in REACQ (R137): a window of 4 + ceil(R_c × 30 m/s × t_o / c) chips about its propagated code, 100 Hz +
10 Hz/s × t_o about its Doppler, limited to the COLD span; `out` is t_o in 2⁻³² s. The U_OSC of that span is U_MODEL, as no command
gives one (DESIGN CHOICE, log 55). -/
def reacqGrid (r : SignalRow) (sv code : Nat) (doppler : Int) (dt out uModel : Nat) : Grid :=
  let w := 4 + ceilDiv (r.chips * 30 * out) (299792458 * 2 ^ 32)
  let sp := 100 * 2 ^ 32 + 10 * out
  let cold := coldSpan (carrierOf r sv) (ceilDiv uModel 10000)
  { signal := r.code, sv := sv, code := code, dt := dt, half := some (4 * w), doppler := doppler
    span := if sp * cold.2 > cold.1 * 2 ^ 32 then dopplerSpan cold.1 cold.2 1 else dopplerSpan sp (2 ^ 32) 1 }

/-- The hypotheses of the request as a job takes them up. -/
def EaselJob.load (j : EaselJob) (g : Grid) : EaselJob :=
  let upper := (signalRow g.signal).any (·.upper)
  { j with grids := [g], hypUp := if upper then g.hyps else 0, hypLo := if upper then 0 else g.hyps }

/-- A channel in REACQ sends its request: its satellite, signal, propagated code and Doppler at this DT (R137). PFA has the default
of a search, as R137 gives none (DESIGN CHOICE, log 55). -/
def State.requestReacq (s : State) (ch signal sv code : Nat) (doppler : Int) (out antenna : Nat) : State :=
  match signalRow signal with
  | none => s
  | some r =>
    let g := reacqGrid r sv code doppler s.now out (s.cal.uModel s.nav.temperature)
    let j : EaselJob := { id := 0, kind := .reacq ch, cmd := none, accepted := s.now, antenna := antenna, handover := true, limit := 1,
                          tCoh := 1, nnc := 20, dwell := dwellTicks 1 20 0 }
    ((s.powerEasel).addJob (j.load g)).reacqBank

/-- The request of a channel is withdrawn. -/
def State.withdrawReacq (s : State) (ch : Nat) : State :=
  match s.easel.jobs.find? fun j => j.kind == .reacq ch with
  | none => s
  | some j => (s.dropJob j.id).powerDownIdle

end Sys2Proof.Machine
end

