-- ==== Sys2Proof/Machine/Track.lean ====
section
/-! DEFINITION. Tracking channels: lanes, loops and glaze, states, residues and retirement, carry-over (05 R166–R198). -/

namespace Sys2Proof.Machine

def State.modTrk (s : State) (f : Tracking → Tracking) : State := { s with trk := f s.trk }
def State.modNav (s : State) (f : Nav → Nav) : State := { s with nav := f s.nav }
def State.chan (s : State) (ch : Nat) : Channel := vget s.trk.channels ch
def State.modCluster (s : State) (c : Nat) (f : Cluster → Cluster) : State :=
  s.modTrk fun t => { t with clusters := vmod t.clusters c f }
def State.cluster (s : State) (c : Nat) : Cluster := vget s.trk.clusters c

def Channel.lane (c : Channel) (lower : Bool) : TrkLane := if lower then c.lower else c.upper
def Channel.setLane (c : Channel) (lower : Bool) (l : TrkLane) : Channel :=
  if lower then { c with lower := l } else { c with upper := l }
def Channel.modLane (c : Channel) (lower : Bool) (f : TrkLane → TrkLane) : Channel := c.setLane lower (f (c.lane lower))

/-! The NCOs (05 R166, R181, R186; 06 R210, R214). -/

/-- Units of the code count: 2⁻³² of 1/1,024 chip; the count runs modulo 18 s, which holds every code, symbol and overlay period. -/
def codeUnit : Nat := 2 ^ 32
def codeSpan (r : SignalRow) : Nat := 18 * r.chips * 1024 * codeUnit

/-- Advance of the code NCO over a span of DT: the chip rate scaled by the Doppler, and the code loop's output. -/
def TrkLane.codeAdvance (l : TrkLane) (r : SignalRow) (sv : Nat) (span : Int) : Int :=
  let f := carrierOf r sv
  (r.chips : Int) * 1024 * span * (f * 1000 + l.doppler) / (f * 1000 : Nat) + l.loop.codeRate * 1024 * span / 1000000

/-- The code count at a DT. -/
def TrkLane.codeCount (l : TrkLane) (sv dest : Nat) : Nat :=
  match signalRow l.signal with
  | none => l.code
  | some r => ((l.code + l.codeAdvance r sv ((dest : Int) - l.codeDt)) % (codeSpan r : Nat)).toNat

/-- The code phase of the prompt at a DT within the primary period, in 1/1,024 chip. -/
def TrkLane.codeNow (l : TrkLane) (sv dest : Nat) : Nat :=
  match signalRow l.signal with
  | none => 0
  | some r => l.codeCount sv dest / codeUnit % (r.len * 1024)

/-- Units of the carrier phase in a cycle; the phase falls as the Doppler rises (R214). -/
def cycle : Nat := 1000 * 2 ^ 32
def TrkLane.carrierNow (l : TrkLane) (dest : Nat) : Int := l.carrier - l.doppler * ((dest : Int) - l.codeDt)

/-- The NCOs run on to a DT at their last rates. -/
def TrkLane.roll (l : TrkLane) (sv dest : Nat) : TrkLane :=
  { l with code := l.codeCount sv dest, carrier := l.carrierNow dest, codeDt := dest }

/-- The NCOs take a code phase and a Doppler of a DT. -/
def TrkLane.load (l : TrkLane) (code : Nat) (doppler : Int) (dt : Nat) : TrkLane :=
  { l with code := code * codeUnit, doppler := doppler, codeDt := dt, loop := { freq := doppler } }

/-! States (05 R184). -/

def Channel.present (c : Channel) : List TrkLane := [c.upper, c.lower].filter fun l => l.st != .absent
def Channel.allLost (c : Channel) : Bool := !c.present.isEmpty && c.present.all (·.st == .lost)

def Channel.state (c : Channel) : Nat :=
  if c.anchor.isNone then 0
  else if c.present.isEmpty then 1
  else if c.allLost then (if c.reacqFrom.isSome then 6 else 5)
  else ((c.present.filter (·.st != .lost)).map (·.st.code)).foldl max 0

/-- Entry to LOST of the whole channel is dated; any recovery ends it. -/
def Channel.settle (c : Channel) (now : Nat) : Channel :=
  if c.allLost then (if c.lostFrom.isNone then { c with lostFrom := some now } else c)
  else { c with lostFrom := none, reacqFrom := none, expiring := false, tracked := c.tracked || c.present.any (·.st == .track) }

/-- Updates a channel and dates a change of its state; an epoch of this tick still sees the channel as it stood before (06 R210). -/
def State.modChan (s : State) (ch : Nat) (f : Channel → Channel) : State :=
  let c := s.chan ch
  let d := (f c).settle s.now
  let d := if d.state = c.state then d else { d with since := s.now }
  s.modTrk fun t =>
    { t with channels := vset t.channels ch d
             before := if t.before.any fun b => b.1 == ch then t.before else t.before ++ [(ch, c)] }

/-- A channel as it stood at the start of the tick. -/
def State.seen (s : State) (ch : Nat) : Channel := ((s.trk.before.find? fun b => b.1 == ch).map (·.2)).getD (s.chan ch)

def State.modLane (s : State) (ch : Nat) (lower : Bool) (f : TrkLane → TrkLane) : State :=
  s.modChan ch fun c => c.modLane lower f

/-- What stays with a channel's number when its satellite goes: its slot, its residues and what follows them, a claim on it. -/
def Channel.blank (c : Channel) : Channel :=
  { slot := c.slot, out := c.out, residues := c.residues, recent := c.recent, selfCheck := c.selfCheck, checkOwn := c.checkOwn
    failing := c.failing, claimed := c.claimed, retireAt := c.retireAt }

/-- The channel goes to IDLE: its request, if any, is withdrawn. -/
def State.goIdle (s : State) (ch : Nat) : State :=
  let s := if (s.chan ch).reacqFrom.isSome then s.withdrawReacq ch else s
  s.modChan ch Channel.blank

/-- The lead lane (05 R187). -/
def Channel.leadLower (c : Channel) : Bool := c.upper.signal = 0

/-! Signals as tracked (05 R167, R170, R174). -/

def hasPilot (code : Nat) : Bool := [0x02, 0x03, 0x11, 0x12, 0x22, 0x23, 0x42, 0x43].contains code

/-- Symbol period of the data component in ms. -/
def symbolPeriod (code sv : Nat) : Nat :=
  if code = 0x01 ∨ code = 0x41 ∨ code = 0x12 ∨ code = 0x51 then 20
  else if code = 0x02 ∨ code = 0x42 ∨ code = 0x03 ∨ code = 0x43 ∨ code = 0x22 ∨ code = 0x31 then 10
  else if code = 0x11 then 4
  else if code = 0x23 then 5
  else if code = 0x21 then (if 6 ≤ sv ∧ sv ≤ 58 then 20 else 2)
  else 2

def periodList : List Nat := [1, 2, 4, 5, 10, 20, 50, 100]
def primaryPeriod (code : Nat) : Nat := match signalRow code with | none => 1 | some r => r.period

/-- Chips of the secondary code of a lane's pilot or data component, 0 where it has none (R167). -/
def secondaryLen (code sv : Nat) (pilot : Bool) : Nat :=
  if pilot then
    (if code = 0x02 ∨ code = 0x42 ∨ code = 0x22 then 1800
     else if code = 0x03 ∨ code = 0x43 then 20
     else if code = 0x11 then 25
     else if code = 0x12 ∨ code = 0x23 then 100
     else 0)
  else if code = 0x03 ∨ code = 0x43 then 10
  else if code = 0x12 then 20
  else if code = 0x21 ∧ 6 ≤ sv ∧ sv ≤ 58 then 20
  else if code = 0x23 then 5
  else 0

/-- Sign that a component's primary period `k` carries by its secondary code; the meander of L1OF changes every 10 ms (PRESUMED, log 56). -/
def chipSign (code sv : Nat) (pilot : Bool) (k : Nat) : Int :=
  let n := secondaryLen code sv pilot
  if code = 0x31 then (if k / 10 % 2 = 1 then -1 else 1)
  else if n = 0 then 1
  else if Config.secondaryChip code sv pilot (k % n) then -1 else 1

/-- Permitted periods of the loop component. -/
def permitted (code sv : Nat) : List Nat :=
  periodList.filter fun t => t % primaryPeriod code == 0 && (hasPilot code || symbolPeriod code sv % t == 0)

/-- Effective period for T_P (05 R170). -/
def effectiveT (code sv tp : Nat) : Nat := ((permitted code sv).filter (· ≤ tp)).getLast?.getD (primaryPeriod code)

/-- Signal classes of R174: 0 narrow BPSK, 1 BOC, 2 wide BPSK. -/
def signalClass (code : Nat) : Nat :=
  if [0x01, 0x41, 0x21, 0x31, 0x51, 0x61].contains code then 0
  else if [0x11, 0x02, 0x42, 0x22].contains code then 1
  else 2

def spacingOk (code d : Nat) : Bool :=
  if signalClass code = 0 then decide (4 ≤ d ∧ d ≤ 64)
  else if signalClass code = 1 then decide (4 ≤ d ∧ d ≤ 16)
  else decide (16 ≤ d ∧ d ≤ 64)

def pullInSpacing (code : Nat) : Nat := if signalClass code = 1 then 16 else 64
def trackSpacing (code : Nat) : Nat := if signalClass code = 0 then 16 else if signalClass code = 1 then 8 else 32

/-- Limits of R182 on bandwidths in 10⁻⁶ Hz over a period in ms. -/
def bnLimits (pll fll dll t : Nat) (order3 : Bool) : Bool :=
  decide (pll * t ≤ (if order3 then 200000000 else 250000000)) && decide (fll * t ≤ 250000000) && decide (dll * t ≤ 250000000)

/-- The target of a lane's loops for its signal's track set (05 R200, R201). -/
def LoopSet.target (l : LoopSet) (code sv : Nat) : LoopNow :=
  { pll := l.pll * 100000, fll := l.fll * 100000, dll := l.dll * 10000, t := effectiveT code sv l.tp
    d := if l.spacing = 0 then trackSpacing code else l.spacing, order3 := l.order3, dll2 := l.dll2 }

/-- The pull-in set (05 R183): phase 1 or 2. -/
def pullInNow (code : Nat) (phase2 : Bool) : LoopNow :=
  let t := primaryPeriod code
  { pll := if phase2 then min 15000000 (200000000 / t) else 0, fll := 10000000, dll := 1000000, t := t
    d := pullInSpacing code, order3 := false, dll2 := false }

/-! Glaze (05 R196, R197). -/

/-- One step of a bandwidth toward its target: a factor of at most 1.1; 0 is neither left nor reached here. -/
def bnStep (cur tgt : Nat) : Nat :=
  if cur = 0 ∨ tgt = 0 then cur else if cur < tgt then min tgt (cur * 11 / 10) else max tgt (cur * 10 / 11)

/-- The period one place nearer to the target. -/
def tStep (l : List Nat) (cur tgt : Nat) : Nat :=
  if cur < tgt then ((l.filter (· > cur)).head?).getD cur
  else if tgt < cur then ((l.filter (· < cur)).getLast?).getD cur
  else cur

/-- One glaze step: bandwidths (a rise that the present T forbids waits), d, an FLL_BN of 0 at the last step of the other ramps (or where it
alone bars a longer T: DESIGN CHOICE, log 56), the loop order after every other ramp; and the period that may be taken at the next common
boundary. -/
def LoopNow.glaze (n g : LoopNow) (periods : List Nat) : LoopNow × Option Nat :=
  let keep (lim cur new : Nat) : Nat := if cur < new ∧ new * n.t > lim then cur else new
  let pll := keep (if n.order3 then 200000000 else 250000000) n.pll (bnStep n.pll g.pll)
  let dll := keep 250000000 n.dll (bnStep n.dll g.dll)
  let d := if n.d < g.d then n.d + 1 else if g.d < n.d then n.d - 1 else n.d
  let step := tStep periods n.t g.t
  let others := pll = g.pll ∧ dll = g.dll ∧ d = g.d ∧ (n.t = g.t ∨ (n.t < step ∧ n.fll * step > 250000000))
  let fll := if n.fll = 0 ∨ g.fll = 0 then (if others then keep 250000000 n.fll g.fll else n.fll)
    else keep 250000000 n.fll (bnStep n.fll g.fll)
  let ended := n.pll = g.pll ∧ n.fll = g.fll ∧ n.dll = g.dll ∧ n.d = g.d ∧ n.t = g.t
  let m := { n with pll := pll, fll := fll, dll := dll, d := d
                    order3 := if ended then g.order3 else n.order3, dll2 := if ended then g.dll2 else n.dll2 }
  (m, if step ≠ n.t ∧ (step < n.t ∨ bnLimits pll fll dll step m.order3) then some step else none)

/-- The steps due at a loop update. -/
def glazeSteps : Nat → LoopNow → LoopNow → Option Nat → List Nat → LoopNow × Option Nat
  | 0, n, _, t, _ => (n, t)
  | k + 1, n, g, t, ps =>
    let r := n.glaze g ps
    glazeSteps k r.1 g (if r.2.isSome then r.2 else t) ps

/-- A loop update's glaze: due steps of the 10 ms grid, then a period whose boundary is common to old and new; `index` counts
the primary periods (R171, R196). -/
def TrkLane.update (l : TrkLane) (target : LoopNow) (sv index now : Nat) : TrkLane :=
  let l := match l.ramp with
    | none => l
    | some r =>
      let due := (now - r.start) * 100 / second + 1 - r.steps
      let (n, t) := glazeSteps due l.now target l.nextT (permitted l.signal sv)
      let n := { l with now := n, nextT := t }
      if n.now = target then { n with ramp := none, nextT := none } else { n with ramp := some { r with steps := r.steps + due } }
  match l.nextT with
  | none => l
  | some t => if index * primaryPeriod l.signal % t = 0 then { l with now := { l.now with t := t }, nextT := none } else l

/-! Measures (05 R185, 06 R217). -/

def sumPairs (f : Int → Int → Nat) (l : List (Int × Int)) : Nat := (l.map fun p => f p.1 p.2).sum

/-- PLI is at least k/10. -/
def pliAtLeast (l : List (Int × Int)) (k : Nat) : Bool :=
  let i := sumPairs (fun a _ => (a * a).toNat) l
  let q := sumPairs (fun _ b => (b * b).toNat) l
  decide ((k + 10) * q ≤ (10 - k) * i) && !l.isEmpty

/-- A window's C/N0 as a ratio: S over N × T_pri, T_pri in ms (R217). -/
def cn0Window (l : List (Int × Int)) (period : Nat) : Nat × Nat :=
  let a := sumPairs (fun i _ => i.natAbs) l
  let p := sumPairs (fun i q => (i * i + q * q).toNat) l
  (1000 * a * a, (l.length * p - a * a) * period)

/-- C/N0 of a window is at least `k` dB-Hz; no window, no. -/
def cn0AtLeast (w : Option (Nat × Nat)) (k : Nat) : Bool := match w with | none => false | some (n, d) => dbAtLeast n d k 1

/-- Mean of windows in linear power, as a ratio. -/
def meanRatio (l : List (Nat × Nat)) : Nat × Nat :=
  let s := l.foldl (fun (a : Nat × Nat) w => (a.1 * w.2 + w.1 * a.2, a.2 * w.2)) (0, 1)
  (s.1, s.2 * l.length)

/-- Reported C/N0 in 1/b dB-Hz, clamped to 0–63.75 dB-Hz. -/
def TrkLane.cn0 (l : TrkLane) (b : Nat) : Nat :=
  if l.windows.isEmpty then 0
  else
    let m := meanRatio l.windows
    if m.2 = 0 then 255 * b / 4 else (clampInt 0 (255 * b / 4 : Nat) (dbRound m.1 m.2 b (64 * b))).toNat

/-- New prompt sums enter: the last 100 ms, and a window each 100 ms, the last ten kept. -/
def TrkLane.addPrompts (l : TrkLane) (ps : List (Int × Int)) : TrkLane :=
  let period := primaryPeriod l.signal
  let n := 100 / period
  let all := l.prompts ++ ps
  let last := all.drop (all.length - n)
  let fresh := l.fresh + ps.length
  if fresh ≥ n then { l with prompts := last, fresh := fresh - n, windows := (cn0Window last period :: l.windows).take 10 }
  else { l with prompts := last, fresh := fresh }

/-! Accumulation (05 R166, R171, R181). -/

/-- Primary periods since the start of the 18 s count, to the nearest: the number of the period that begins at a boundary. -/
def TrkLane.index (l : TrkLane) (sv now : Nat) : Nat :=
  match signalRow l.signal with
  | none => 0
  | some r => (2 * l.codeCount sv now + r.len * 1024 * codeUnit) / (2 * r.len * 1024 * codeUnit) % (18000 / r.period)

/-- Sum of prompt sums from period `k` on, each multiplied by its sign (R171). -/
def wiped (sign : Nat → Int) : Nat → List (Int × Int) → Int × Int
  | _, [] => (0, 0)
  | k, p :: r => ((wiped sign (k + 1) r).1 + sign k * p.1, (wiped sign (k + 1) r).2 + sign k * p.2)

def power (p : Int × Int) : Nat := (p.1 * p.1 + p.2 * p.2).toNat

/-- What the discriminators give at a loop update (R181): phase in 2⁻¹⁶ cycle, frequency in mHz where two consecutive sums of one
symbol give one, code in 2⁻¹⁶ chip, and the prompt sum. -/
structure LoopIn where
  phase : Int
  freq : Option Int
  code : Int
  sum : Int × Int
  deriving Inhabited

/-- PLL discriminator: atan2(Q, I) on a pilot, atan(Q / I) on data. -/
def phaseError (pilot : Bool) (p : Int × Int) : Int :=
  if pilot || 0 ≤ p.1 then Config.angle p.2 p.1 else Config.angle (-p.2) (-p.1)

/-- FLL discriminator: atan2(cross, dot) / (2πT) of two sums of `t` ms each. -/
def freqError (a b : Int × Int) (t : Nat) : Int :=
  rnd (Config.angle (a.1 * b.2 - a.2 * b.1) (a.1 * b.1 + a.2 * b.2) * 1000000) (65536 * t)

/-- DLL discriminator: (E² − L²) / (E² + L²) by the class's slope at d. -/
def codeError (code d : Nat) (e l : Int × Int) : Int :=
  if power e + power l = 0 then Config.openRatio else rnd (Config.codeSlope (signalClass code) d * ((power e : Int) - power l)) (power e + power l)

/-- The discriminators at a boundary where `index` periods have passed. -/
def TrkLane.measure (l : TrkLane) (d : Sums) (sv index : Nat) : LoopIn :=
  let period := primaryPeriod l.signal
  let pilot := hasPilot l.signal
  let k := (index + 18000 / period - d.prompts.length) % (18000 / period)
  let p := wiped (fun k => if l.st == .track then chipSign l.signal sv pilot k else 1) k d.prompts
  let t := d.prompts.length * period
  { phase := phaseError pilot p
    freq := match l.loop.last with
      | none => none
      | some (a, t') => if t' ≠ t || (!pilot && l.synced && k * period % symbolPeriod l.signal sv == 0) then none else some (freqError a p t)
    code := codeError l.signal l.now.d d.early d.late
    sum := p }

/-- The loop filters (R181, R183): a PLL of order 2 or 3 whose FLL input enters one integrator below the phase input, the FLL alone of order 2
where PLL_BN is 0, a DLL of order 1 or 2. In order 2 the Doppler-rate state is folded into the frequency state and stays 0 (R196). Answers the
states and the carrier NCO's frequency. -/
def LoopState.update (o : LoopState) (n : LoopNow) (e : LoopIn) (t : Nat) : LoopState × Int :=
  let g (k bn : Nat) (z : Int) : Int := if bn = 0 then 0 else Config.loopGain k (if n.order3 then 3 else 2) bn t * z / 2 ^ 32
  let f := e.freq.getD 0
  let r := if n.pll = 0 then o.rate + g 4 n.fll f else if n.order3 then o.rate + g 2 n.pll e.phase + g 4 n.fll f else o.rate
  let freq := o.freq + r * t / 1000 + g 1 n.pll e.phase + g 3 n.fll f
  let c := if n.dll2 then o.codeInt + g 6 n.dll e.code else 0
  ({ freq := freq, rate := if n.pll = 0 || n.order3 then r else 0, codeInt := c, codeRate := c + g 5 n.dll e.code, last := some (e.sum, t)
     freqs := ((match e.freq with | none => [] | some z => [z]) ++ o.freqs).take 20, dlls := (e.code :: o.dlls).take 100 },
   freq + g 0 n.pll e.phase)

/-- A loop update: the NCOs have run to `now` and take the new rates. -/
def TrkLane.drive (l : TrkLane) (e : LoopIn) (sv now : Nat) : TrkLane :=
  let l := l.roll sv now
  let r := l.loop.update l.now e l.now.t
  { l with loop := r.1, doppler := r.2 }

/-- A LOST lane coasts on its last Doppler and Doppler rate (R186). -/
def TrkLane.coast (l : TrkLane) (sv now : Nat) : TrkLane :=
  let l := l.roll sv now
  let f := l.loop.freq + l.loop.rate * l.now.t / 1000
  { l with loop := { l.loop with freq := f, last := none }, doppler := f }

/-- A LOST lane is steered by the other lane's Doppler, in proportion to the carriers (R186). -/
def TrkLane.steer (l o : TrkLane) (sv now : Nat) : TrkLane :=
  match signalRow l.signal, signalRow o.signal with
  | some r, some p =>
    let l := l.roll sv now
    let f := rnd (o.doppler * carrierOf r sv) (carrierOf p sv)
    { l with loop := { l.loop with freq := f, last := none }, doppler := f }
  | _, _ => l

/-! Synchronisation (05 R172, R187). -/

/-- The position from which satellites are predicted: the prior's. -/
def State.priorAt (s : State) : Int × Int × Int := match s.nav.prior with | none => (0, 0, 0) | some p => (p.lat, p.lon, p.height)

/-- Score of the newest signs against a code whose place at the newest is `m`. -/
def score (sign : Nat → Int) (n m : Nat) (signs : List Bool) : Int :=
  (((signs.take n).zip (List.range n)).map fun x => (if x.1 then -1 else 1) * sign ((m + n * 20 - x.2) % n)).sum

/-- A secondary code of 5–100 chips: over two consecutive code periods one rotation scores at least 0.8 of full correlation and no
other above 0.5, of either polarity (DESIGN CHOICE, log 56). Answers the place of the newest chip. -/
def rotationOf (sign : Nat → Int) (n : Nat) (signs : List Bool) : Option Nat :=
  if signs.length < 2 * n then none
  else
    let at_ (m : Nat) : List Nat := [(score sign n m signs).natAbs, (score sign n m (signs.drop n)).natAbs]
    (List.range n).find? fun m => (at_ m).all (fun z => decide (10 * z ≥ 8 * n)) &&
      (List.range n).all fun k => k == m || (at_ k).all fun z => decide (2 * z ≤ n)

/-- Disagreements of the newest 100 signs with an overlay whose place at the newest is `m`, of the better polarity (log 56). -/
def overlayMisses (sign : Nat → Int) (m : Nat) (signs : List Bool) : Nat :=
  let z := ((signs.take 100).zip (List.range 100)).countP fun x => (if x.1 then (-1 : Int) else 1) != sign ((m + 1800 - x.2) % 1800)
  min z (100 - z)

/-- An 1,800-chip overlay: the predicted place holds in 95 of 100 consecutive chips where GNSS time is known, else exactly one place has 5
or fewer disagreements. -/
def overlayOf (sign : Nat → Int) (predicted : Option Nat) (signs : List Bool) : Option Nat :=
  if signs.length < 100 then none
  else match predicted with
    | some m => if overlayMisses sign (m % 1800) signs ≤ 5 then some (m % 1800) else none
    | none => match (List.range 1800).filter fun m => decide (overlayMisses sign m signs ≤ 5) with
      | [m] => some m
      | _ => none

/-- Data without secondary code: at least 20 sign changes, at least 90 % of them in one bin. Answers the bin. -/
def boundaryOf (changes : List Nat) : Option Nat :=
  if changes.sum < 20 then none else (List.range changes.length).find? fun b => decide (10 * changes.getD b 0 ≥ 9 * changes.sum)

/-- A kept synchronisation is confirmed at the end of a predicted secondary-code period, or symbol, whose signs score 0.8 (R187; log 56). -/
def confirmed (sign : Nat → Int) (n index : Nat) (signs : List Bool) : Bool :=
  decide (index % n = 0) && decide (signs.length ≥ n) && decide (10 * (score sign n (n - 1) signs).natAbs ≥ 8 * n)

/-- The number that the period beginning now must have, modulo which period, once synchronisation is complete; `predicted` is the
overlay's place at the newest chip. -/
def TrkLane.syncFound (l : TrkLane) (sv index : Nat) (predicted : Option Nat) : Option (Nat × Nat) :=
  let pilot := hasPilot l.signal
  let n := secondaryLen l.signal sv pilot
  let per := symbolPeriod l.signal sv / primaryPeriod l.signal
  let sign := chipSign l.signal sv pilot
  if n = 0 then
    if l.keepSync && confirmed (fun _ => 1) per index l.signs then some (index % per, per)
    else (boundaryOf l.changes).map fun b => ((index + per - b) % per, per)
  else if l.keepSync && confirmed sign n index l.signs then some (index % n, n)
  else (if n = 1800 then overlayOf sign predicted l.signs else rotationOf sign n l.signs).map fun m => ((m + 1) % n, n)

/-- A prompt of SYNC enters: its sign, and a change of sign at the boundary before it. -/
def TrkLane.addSign (l : TrkLane) (sv index : Nat) (p : Int × Int) : TrkLane :=
  let per := symbolPeriod l.signal sv / primaryPeriod l.signal
  let neg := decide (p.1 < 0)
  let b := (index + per - 1) % per
  let h := if l.changes.length = per then l.changes else List.replicate per 0
  { l with signs := (neg :: l.signs).take 1800
           changes := if l.signs.head? == some (!neg) then h.set b (h.getD b 0 + 1) else h }

/-- The code count takes the number `k` modulo `n` for the period beginning now. -/
def TrkLane.renumber (l : TrkLane) (index k n : Nat) : TrkLane :=
  match signalRow l.signal with
  | none => l
  | some r => { l with code := (l.code + (k + n - index % n) % n * (r.len * 1024 * codeUnit)) % codeSpan r, synced := true }

/-- The code NCO moves by a part of 1/1,024 chip. -/
def TrkLane.shiftCode (l : TrkLane) (z : Int) : TrkLane :=
  match signalRow l.signal with
  | none => l
  | some r => { l with code := ((l.code + z * codeUnit) % (codeSpan r : Nat)).toNat }

/-! Symbols (06 R229, R233). -/

/-- The data component's sums from period `k` on enter the symbol in progress, less secondary code and with the polarity known; `out`
are the symbols completed. -/
def symbolsOf (sign : Nat → Int) (period symbol : Nat) : Nat → Option Int → List (Int × Int) → Option Int × List Int
  | _, acc, [] => (acc, [])
  | k, acc, p :: r =>
    let a := acc.map fun z => z + sign k * p.1
    if (k + 1) * period % symbol = 0 then
      let rest := symbolsOf sign period symbol (k + 1) (some 0) r
      (rest.1, (match a with | none => [] | some z => [z]) ++ rest.2)
    else symbolsOf sign period symbol (k + 1) a r

def TrkLane.collect (l : TrkLane) (d : Sums) (sv index now : Nat) : TrkLane :=
  let period := primaryPeriod l.signal
  let data := if hasPilot l.signal then d.data else d.prompts
  let k := (index + 18000 / period - data.length) % (18000 / period)
  let flip : Int := if l.polarity == some true then -1 else 1
  let r := symbolsOf (fun k => flip * chipSign l.signal sv false k) period (symbolPeriod l.signal sv) k l.symbol data
  let levels := l.levels ++ r.2.map Int.natAbs
  { l with symbol := r.1, symbols := l.symbols ++ r.2, levels := levels.drop (levels.length - 100)
           symFrom := if l.symbols.isEmpty && !r.2.isEmpty then now - ms (r.2.length * symbolPeriod l.signal sv) else l.symFrom
           symHalf := if l.symbols.isEmpty then !hasPilot l.signal && l.polarity.isNone else l.symHalf }

/-- An accumulation withheld from the symbol stream (05 R191): the symbols that it touches are lost; the loop's next sum has no
predecessor. -/
def TrkLane.withhold (l : TrkLane) (sv n index : Nat) : TrkLane :=
  let period := primaryPeriod l.signal
  let sym := symbolPeriod l.signal sv
  let ends := (List.range n).countP fun j => (index + 18000 / period - j) * period % sym == 0
  let lost := if index * period % sym = 0 then ends else if l.symbol.isSome || ends > 0 then ends + 1 else 0
  { l with loop := { l.loop with last := none }, symbol := none, symbolsLost := if l.st == .track then l.symbolsLost + lost else l.symbolsLost }

/-! Multipath and array arms (05 R177–R179, 07 R253). -/

/-- Products of array arms and conjugate prompt. -/
def products (a : List (Int × Int)) (p : Int × Int) : List (Int × Int) := a.map fun z => (z.1 * p.1 + z.2 * p.2, z.2 * p.1 - z.1 * p.2)

/-- The latest entries whose periods make up 100 ms. -/
def lastTenth : Nat → List (Nat × List (Int × Int)) → List (Nat × List (Int × Int))
  | _, [] => []
  | left, x :: r => if x.1 ≤ left then x :: lastTenth (left - x.1) r else []

def addArms : List Int → List Int → List Int
  | [], b => b
  | a, [] => a
  | a :: r, b :: t => (a + b) :: addArms r t

/-- The arms of the Palette set at an update in TRACK. -/
def TrkLane.addArms (l : TrkLane) (d : Sums) (p : Int × Int) : TrkLane :=
  { l with mp := Machine.addArms l.mp d.arms, mpCount := l.mpCount + 1
           pairs := lastTenth 100 ((l.now.t, products d.array p) :: l.pairs) }

/-- The averages of the multipath arms begin afresh, the offsets having changed (R202). -/
def TrkLane.freshArms (l : TrkLane) (now : Nat) : TrkLane := { l with mp := [], mpCount := 0, mpFrom := now }

/-- The arm set of a channel; a lane has no fit in the Triad set (06 R219), nor before its first boundary in the Palette set. -/
def Channel.setPalette (c : Channel) (on : Bool) (now : Nat) : Channel :=
  let clear (l : TrkLane) : TrkLane := { l.freshArms now with los := -32768, reflections := [], residual := 0 }
  if c.palette = on then c else { c with palette := on, upper := clear c.upper, lower := clear c.lower }

/-! Lane transitions (05 R185–R187). -/

/-- Lock restarts: RESTART, DISCONT, CARRIER from its fractional phase, AMB and the polarity afresh (06 R213–R218). -/
def TrkLane.restart (l : TrkLane) (now : Nat) : TrkLane :=
  { l with restarts := (l.restarts + 1) % 4, discont := true, lockFrom := now, base := l.carrierNow now - l.carrierNow now % cycle, amb := 0,
           polarity := none, halfAdj := false, slips := false }

def TrkLane.enter (l : TrkLane) (st : TrkState) (now : Nat) : TrkLane :=
  { l with st := st, since := now, good := none, bad := none, ramp := none, nextT := none, signs := [], changes := [] }

/-- Pending symbols and the unit in progress end with TRACK. -/
def TrkLane.dropSymbols (l : TrkLane) : TrkLane :=
  { l with unitLost := l.unitLost || l.st == .track, symbols := [], symbol := none, symbolsLost := l.symbolsLost + l.symbols.length }

/-- Entry to PULL_IN, keeping synchronisation where `keep` (R187). A BOC lane first makes its side-peak check, with its early and late arms
at −0.5 and +0.5 chip (R175). The filters start from the NCO and the Doppler rate held. -/
def TrkLane.pullIn (l : TrkLane) (now : Nat) (keep : Bool) : TrkLane :=
  let check := signalClass l.signal = 1
  let set := pullInNow l.signal false
  { (l.dropSymbols.enter .pullIn now) with
    phase2 := none, check := if check then some (now, 0) else none, checkSums := (0, 0, 0), windows := [],
    prompts := [], fresh := 0, keepSync := keep, synced := keep, now := if check then { set with d := 64 } else set,
    loop := { freq := l.doppler, rate := l.loop.rate }, los := -32768, reflections := [], pairs := [] }

/-- Entry to PULL_IN: synchronisation is kept after less than 1 s in LOST. -/
def TrkLane.enterPullIn (l : TrkLane) (now : Nat) : TrkLane :=
  l.pullIn now (l.synced && l.st == .lost && decide (now < l.since + second))

/-- A lane that a claim or a retirement interrupted resumes in PULL_IN with its synchronisation (01 R35, 05 R192). -/
def TrkLane.resume (l : TrkLane) (now : Nat) : TrkLane := l.pullIn now l.synced

/-- Entry to TRACK, synchronised. -/
def TrkLane.enterTrack (l : TrkLane) (now : Nat) : TrkLane :=
  { (l.enter .track now).restart now with ramp := some { start := now }, los := -32768, reflections := [], pairs := [], symbol := none
                                          mp := [], mpCount := 0, mpFrom := now, amb := 1 }

/-- Entry to LOST: the C/N0 over 100 ms of the coasting prediction is counted from here. -/
def TrkLane.enterLost (l : TrkLane) (now : Nat) : TrkLane :=
  { (l.dropSymbols.enter .lost now) with
    reentry := now, checkedAt := now, los := -32768, reflections := [], pairs := [], unitLost := true, convertTo := none, check := none
    prompts := [], fresh := 0 }

/-- A converted lane goes back to its anchor (R169), in PULL_IN from the anchor's state at the conversion, propagated. -/
def TrkLane.revert (l : TrkLane) (sv now : Nat) : TrkLane :=
  match signalRow l.signal with
  | none => l
  | some r =>
    let a : TrkLane := { l with signal := r.anchor, converted := false, code := l.anchorCode, doppler := l.anchorDoppler, codeDt := l.anchorDt
                                loop := { freq := l.anchorDoppler, rate := l.anchorRate } }
    (a.roll sv now).pullIn now false

/-- The upper lane takes its derived signal (R169): GPS and QZSS enter SYNC with the carrier loop undisturbed over the derived signal's primary
period, BeiDou PULL_IN with the Doppler scaled. -/
def TrkLane.convert (l : TrkLane) (code sv now : Nat) : TrkLane :=
  let l := l.roll sv now
  let kept := { l with anchorCode := l.code, anchorDoppler := l.doppler, anchorRate := l.loop.rate, anchorDt := now }
  let chips (z : Nat) : Nat := match signalRow l.signal, signalRow code with
    | some r, some q => z * q.chips / r.chips
    | _, _ => z
  let l := { kept with signal := code, converted := true, convertTo := none, code := chips l.code }.restart now
  if code = 0x22 then { l with doppler := rnd (l.doppler * 1575420) 1561098 }.pullIn now false
  else { (l.dropSymbols.enter .sync now) with now := { l.now with t := 10, d := pullInSpacing code }, prompts := [], fresh := 0, keepSync := false
                                              synced := false }

/-! Choice of channels (04 R134, 05 R190). -/

/-- The cluster is powered and serves: not failed. -/
def State.clusterUp (s : State) (c : Nat) : Bool := s.poweredOn (5 + c) && !s.boot.clustersFailed.toNat.testBit c

/-- An IDLE channel that can take a satellite. -/
def State.freeChannel (s : State) (ch : Nat) : Bool :=
  (s.chan ch).anchor.isNone && !(s.chan ch).out && !(s.chan ch).claimed && s.clusterUp (ch / 48)

def State.idleIn (s : State) (c : Nat) : List Nat := ((List.range 48).map (c * 48 + ·)).filter s.freeChannel

/-- R134 step 3: the powered cluster with the most IDLE channels, the lower-numbered on a tie, its lowest IDLE slot; in
SENTINEL only cluster 0. -/
def State.chooseChannel (s : State) : Option Nat :=
  let cs := if s.pwr.profile = 1 then [0] else [0, 1, 2, 3]
  match cs.foldl (fun (b : Option Nat) c => match b with
    | none => if (s.idleIn c).isEmpty then none else some c
    | some d => if (s.idleIn d).length < (s.idleIn c).length then some c else some d) none with
  | none => none
  | some c => (s.idleIn c).head?

/-- The channel that holds a satellite (not as a twin). -/
def State.holder (s : State) (anchor sv : Nat) : Option Nat :=
  (List.range 192).find? fun ch => (s.chan ch).anchor == some anchor && (s.chan ch).sv == sv && !(s.chan ch).twin

/-- UPPER_SIGNAL selects the derived signal of an anchor's system (05 R207). -/
def TrkConfig.derives (c : TrkConfig) (anchor : Nat) : Bool :=
  if anchor = 0x01 then bit c.upper 0 else if anchor = 0x21 then bit c.upper 1 else if anchor = 0x41 then bit c.upper 2 else false

/-- The port that serves a lane's band on the primary antenna is enabled (02 R41). -/
def State.bandOpen (s : State) (lower : Bool) : Bool := (s.port (2 * s.trk.primary + b2n lower)).cfg.enable

/-- A channel takes a satellite: ASSIGNED, one lane wanted, the UPPER_SIGNAL of this handover. -/
def State.assign (s : State) (ch anchor sv signal code : Nat) (doppler : Int) (twin : Bool) : State :=
  let lower := (signalRow signal).any fun r => !r.upper
  s.modChan ch fun c =>
    ({ c.blank with anchor := some anchor, sv := sv, twin := twin, since := s.now, derives := s.trk.cfg.derives anchor, palette := s.pwr.profile == 2 } : Channel).modLane lower
      fun l => { l with signal := signal }.load code doppler s.now

/-- Carry-over of a channel in TRACK, with its loop state, to a free one (01 R29): its lanes enter PULL_IN there with their synchronisation
(DEDUCED, log 56); in SENTINEL only upper lanes. -/
def State.carry (s : State) (from_ dest : Nat) : State :=
  let c := s.chan from_
  let on (l : TrkLane) : TrkLane := if l.st == .absent then l else l.resume s.now
  let s := s.modChan dest fun d =>
    { c with slot := d.slot, out := d.out, residues := d.residues, recent := d.recent, since := s.now, selfCheck := d.selfCheck,
             checkOwn := d.checkOwn, failing := d.failing, claimed := d.claimed, retireAt := d.retireAt, upper := on c.upper,
             lower := if s.pwr.profile = 1 then {} else on c.lower }
  s.goIdle from_

/-! Retirement (05 R191, R192, R195). -/

def recent (now span : Nat) (l : List Nat) : List Nat := l.filter fun d => decide (now < d + span)

/-- RESIDUE record (R195), with the DT of the detecting tick, once the self-check is complete or the retirement made: `failed` bit 2. -/
def State.residueRecord (s : State) (ch : Nat) (n : ResidueNote) (failed : Bool) : State :=
  s.domeRecord 11 n.cause 0x21 n.dt
    (le 1 (ch / 48) ++ le 1 ch ++ le 1 (bitsOf [(n.lower, 0), (n.pilot, 1), (failed, 2)]) ++ le 1 0 ++
      le 2 (s.chan ch).residues ++ zeros 2)

def State.residueRecords (s : State) (ch : Nat) (failed : Bool) : State :=
  ((s.chan ch).failing).foldl (fun s n => s.residueRecord ch n failed) s

/-- The loop state of a channel's lanes goes to its cluster's state RAM. -/
def Channel.save (c : Channel) : Channel :=
  { c with savedUpper := some ⟨c.upper.loop, c.upper.now⟩, savedLower := some ⟨c.lower.loop, c.lower.now⟩ }

/-- A lane goes on in a spare slot from the loop state of the last checkpoint (R192): lanes in TRACK, SYNC or PULL_IN in PULL_IN under R187's rule,
a LOST lane coasting (R198). -/
def TrkLane.moved (l : TrkLane) (saved : Option Saved) (sv now : Nat) : TrkLane :=
  if l.st == .absent then l
  else
    let k := saved.getD ⟨l.loop, l.now⟩
    let r : TrkLane := { l.roll sv now with loop := k.loop, now := k.now, doppler := k.loop.freq }
    if l.st == .lost then r else r.resume now

/-- A channel is retired: a spare slot takes its number, or it is out of service and its satellite carried. -/
def State.retire (s : State) (ch : Nat) : State :=
  let c := ch / 48
  let k := s.cluster c
  let old := (s.chan ch).slot
  let next := k.spares.head?
  let (cause, dt) := (s.chan ch).retireAt.getD (48, s.now)
  let s := s.residueRecords ch false
  let s := s.modCluster c fun k => { k with retired := k.retired ++ [old], spares := k.spares.tail }
  let left := (s.cluster c).spares.length
  let detail := le 1 c ++ le 1 old ++ le 1 ch ++ le 1 (next.getD 255) ++ le 1 left
  let s := match next with
    | some n => s.modChan ch fun c =>
        { c with slot := n, retireAt := none, selfCheck := none, failing := [], recent := [], upper := c.upper.moved c.savedUpper c.sv s.now,
                 lower := c.lower.moved c.savedLower c.sv s.now }
    | none =>
      let s := s.modChan ch fun c => { c with out := true, retireAt := none, selfCheck := none, failing := [] }
      if (s.chan ch).state = 4 then match s.chooseChannel with
        | some dest => s.carry ch dest
        | none => s.goIdle ch
      else s.goIdle ch
  let s := s.modTrk fun t => { t with retirements := sat16 t.retirements }
  let s := s.domeRecord 11 cause 0x22 dt (detail ++ zeros 3)
  s.audit 0x0007 (some 6) cause dt false false detail

/-- The map of retired slots, rebuilt from the pinned CHANNEL_RETIRED entries (R192). -/
def State.rebuildRetired (s : State) : State :=
  let es := s.sealed.pinned.filter fun e => getLe e.bytes 16 2 == 7
  es.foldl (fun s e =>
    let d := e.bytes.drop 28
    let c := byteAt d 0
    let n := byteAt d 3
    let s := s.modCluster c fun k => { k with retired := k.retired ++ [byteAt d 1], spares := k.spares.filter (· != n) }
    s.modTrk fun t => { t with channels := vmod t.channels (byteAt d 2) fun ch =>
      if n = 255 then { ch with out := true } else { ch with slot := n } }) s

/-! Carry-over (01 R29). -/

/-- Order of carry-over: descending elevation. -/
def insertByElevation (s : State) (ch : Nat) : List Nat → List Nat
  | [] => [ch]
  | d :: r => if (s.chan d).elevation < (s.chan ch).elevation then ch :: d :: r else d :: insertByElevation s ch r

/-- Channels of lost clusters: a retirement in progress completes first (05 R198); those in TRACK are carried, the rest go to IDLE. Answers
the carried and the dropped. -/
def State.carryAll (s : State) (lost : List Nat) : State × Nat × Nat :=
  let due := (lost.flatMap fun c => (List.range 48).map (c * 48 + ·)).filter fun ch => (s.chan ch).retireAt.isSome
  let s := due.foldl (fun s ch => s.retire ch) s
  let mine := (lost.flatMap fun c => (List.range 48).map (c * 48 + ·)).filter fun ch => (s.chan ch).anchor.isSome
  let trk := (mine.filter fun ch => (s.chan ch).state = 4).foldl (fun l ch => insertByElevation s ch l) []
  let r := trk.foldl (fun (r : State × Nat × Nat) ch =>
    match r.1.chooseChannel with
    | some dest => (r.1.carry ch dest, r.2.1 + 1, r.2.2)
    | none => (r.1.goIdle ch, r.2.1, r.2.2 + 1)) (s, 0, 0)
  (mine.filter fun ch => (s.chan ch).state ≠ 4).foldl (fun r ch => (r.1.goIdle ch, r.2.1, r.2.2 + 1)) r

end Sys2Proof.Machine
end

