-- ==== Sys2Proof/Machine/Front.lean ====
section
/-! DEFINITION. Where lanes meet acquisition and calibration (02 R49–R63, 04 R154, 10 R361 reason 8), and the rows of the
AGC window, the eye tracker and the training deadline. -/

namespace Sys2Proof.Machine

/-- Ports that a capture records (04 R141). -/
def CaptureReq.ports (r : CaptureReq) : List Nat :=
  if r.format ≤ 1 then [2 * r.antenna, 2 * r.antenna + 1] else [2 * r.antenna + r.band]

/-- The capture is being written, or a job or a fix, in progress or waiting, uses it (04 R154, R162). -/
def Easel.inUse (e : Easel) (id : Nat) : Bool :=
  (match vget e.captures id with | none => false | some c => c.writing) || e.jobs.any (fun j => j.capture == some id) ||
    e.fix.any (fun f => f.capture == some id) || e.waitingFixes.any (fun f => f.capture == some id)

def State.freeCapture (s : State) (id : Nat) : State := s.modEasel fun e => { e with captures := vset e.captures id none }

/-- A Sketch fix ends: its jobs stop, its capture is freed unless KEEP_CAPTURE is set and it is complete, its command is answered; a
scheduled fix lets the device return to rest (04 R148, R149). -/
def State.endFix (s : State) (st : Status) (detail : Nat) (payload : List Byte) : State :=
  match s.easel.fix with
  | none => s
  | some f =>
    let s := (s.easel.jobs.filter fun j => j.kind == .sketch).foldl (fun s j => s.dropJob j.id) s
    let s := s.modEasel fun e => { e with fix := none, reqs := e.reqs.filter fun r => !r.forFix, restDue := e.restDue || f.cmd.isNone }
    let s := match f.capture with
      | none => s
      | some id => if f.keep && (vget s.easel.captures id).any (fun (c : Capture) => !c.writing) then s else s.freeCapture id
    s.finalOption f.cmd st detail payload

/-- A lane of a capture in progress leaves LOCKED: the capture is abandoned (04 R154). -/
def State.abandonCapture (s : State) (p : Nat) : State :=
  match s.easel.capturing with
  | none => s
  | some c =>
    let s := (s.modEasel fun e => { e with capturing := none }).refreeze
    if c.req.forFix then
      match s.easel.fix with
      | none => s
      | some f =>
        if f.retried then s.endFix .fault p []
        else s.modEasel fun e => { e with fix := some { f with retried := true }, reqs := c.req :: e.reqs }
    else (s.freeCapture c.req.id).finalOption c.req.cmd .fault p []

/-- A job that needs a port whose lane is FAILED ends: a search with FAULT and the port (04 R154). -/
def State.failJobs (s : State) (p : Nat) : State :=
  let uses (j : EaselJob) : Bool := j.replay == 0 &&
    ((List.range 8).any (fun b =>
        let k := vget s.easel.banks b
        k.job == some j.id && j.port k.lower == p) ||
      (j.port false == p && decide (j.hypUp > 0)) || (j.port true == p && decide (j.hypLo > 0) && !j.lowerOpen) ||
      j.parts.any fun t => j.port t.2.1 == p)
  (s.easel.jobs.filter fun j => uses j && !j.isReacq).foldl (fun s j =>
    (s.finalOption j.cmd .fault p []).dropJob j.id) s

/-- Live passes of a port out of lock wait, and start again once it is LOCKED. -/
def State.holdPasses (s : State) : State :=
  s.modEasel fun e =>
    { e with banks := e.banks.map fun b => match b.job.bind e.job with
        | none => b
        | some j =>
          let locked := (s.port (j.port b.lower)).lane == .locked
          if j.replay != 0 then b
          else if locked && b.waits then { b with waits := false, start := s.clk.tick, dt := s.detectDt j }
          else if !locked then { b with waits := true }
          else b }

/-- A Sketch fix whose capture needs a lane that is FAILED cannot capture: it ends with FAULT (04 R154). -/
def State.failFix (s : State) (p : Nat) : State :=
  if s.easel.reqs.any fun r => r.forFix && r.ports.contains p then s.endFix .fault p [] else s

/-- A calibration run is disturbed at its first lane that leaves LOCKED. -/
def State.disturb (s : State) (reason port : Nat) : State :=
  s.modCal fun c => { c with run := c.run.map fun r => if r.disturbed.isSome || r.released then r else { r with disturbed := some (reason, port) } }

/-- Brings captures, passes, jobs and a calibration run into line with the lanes. -/
def State.followLanes (s : State) : State :=
  let lost (p : Nat) : Bool := (s.port p).lane != .locked
  let s := match s.easel.capturing with
    | none => s
    | some c => match c.req.ports.find? lost with
      | none => s
      | some p => s.abandonCapture p
  let s := match s.cal.run with
    | none => s
    | some r => match r.ports.find? lost with
      | none => s
      | some p => s.disturb 8 p
  let s := forUpto 8 (fun p s => if (s.port p).lane == .failed then (s.failJobs p).failFix p else s) s
  s.holdPasses

/-- AGC_WINDOW: 81,840 ticks after the last; `i`, `q` count the codes of I and of Q of the samples that are not blanked. STUCK
after ten windows takes the lane out of lock (02 R63). -/
def execAgcWindow (p : Fin 8) (i q : List Nat) (s : State) : Res :=
  let k := s.port p.val
  if !s.domeService || k.lane == .off || decide (s.clk.tick < k.window + 81840) then .next s
  else if !k.live || i.sum == 0 then .next (s.blankWindow p.val)
  else
    let s := s.window p.val { i := i, q := q }
    if (s.port p.val).stuckCount ≥ 10 && k.lane == .locked then
      .next ((s.modPort p.val fun q => { q with stuck := true, stuckCount := 0 }).loseLock p.val).followLanes
    else .next s

/-- EYE_TRACK_UPDATE: every 1,024 ticks the tap moves by at most one; beyond ±8 taps from the trained tap, or with 16 bytes
on an eye edge, the lane loses lock (02 R52). The tap stays between 0 and 63, the range of R77 (DESIGN CHOICE, log 55). -/
def execEyeTrackUpdate (p : Fin 8) (correction : Int) (edgeBytes : Nat) (s : State) : Res :=
  let k := s.port p.val
  if k.lane != .locked || !s.fast || decide (s.clk.tick < k.eyeTick + 1024) then .next s
  else if ((k.tap : Int) + correction - k.trained).natAbs > 8 || edgeBytes ≥ 16 then .next (s.loseLock p.val).followLanes
  else .next (s.modPort p.val fun q =>
    { q with tap := (clampInt 0 63 ((q.tap : Int) + clampInt (-1) 1 correction)).toNat, eyeTick := s.clk.tick })

/-- TRAINING_ATTEMPT_TIMEOUT: tick 4,112 without the marker, tick 8,192 without LOCKED (02 R50). -/
def execTrainingAttemptTimeout (p : Fin 8) (s : State) : Res :=
  match (s.port p.val).lane, (s.port p.val).step with
  | .training, .sweep t0 => if s.clk.tick ≥ t0 + 4112 then .next (s.failAttempt p.val).followLanes else .next s
  | .training, .verify t0 _ | .training, .spoiled t0 | .training, .endFrame t0 | .training, .closing t0 _ =>
    if s.clk.tick ≥ t0 + 8192 then .next (s.failAttempt p.val).followLanes else .next s
  | _, _ => .next s

/-! Commands that may take a lane out of lock. -/

/-- INPUT_SET_PORT (02 R76). -/
def execInputSetPort (t : Txn) (s : State) : Res :=
  hostCommand (opIs 0x0300) (fun c s => let r := bodyInputSetPort c s; (r.1.followLanes, r.2)) t s

/-- INPUT_TRAIN (02 R78). -/
def execInputTrain (t : Txn) (s : State) : Res :=
  hostCommand (opIs 0x0302) (fun c s => let r := bodyInputTrain c s; (r.1.followLanes, r.2)) t s

end Sys2Proof.Machine
end

