-- ==== Sys2Proof/Machine/CalOps.lean ====
section
/-! DEFINITION. Calibration runs: triggers, units, start, abort and release; the background jobs' deferrals and claims
(01 R31–R37, 10 R356–R362, R371). -/

namespace Sys2Proof.Machine

/-! Deferrals (01 R33, R34). -/

/-- One deferral; the eighth in a row makes the job overdue. -/
def Deferral.defer (d : Deferral) : Deferral :=
  { consecutive := d.consecutive + 1, total := sat16 d.total, overdue := d.overdue || decide (d.consecutive + 1 ≥ 8) }

/-- The job obtains its unit. -/
def Deferral.obtain (d : Deferral) : Deferral := { d with consecutive := 0, overdue := false }

/-! Triggers (10 R359). -/

def Cal.slot (c : Cal) : CalSlot := vget c.slots (b2n c.inForce)

/-- The temperatures of the quantities that a run in the profile measures: D_IB, φ and τ, D_TP, model; no run is made in EARLY. -/
def measurable (profile : Nat) : List Nat := 
  if profile = 2 then [0, 1, 2, 3] else if profile = 0 then [0, 2, 3] else if profile = 1 then [2, 3] else []

/-- The temperature trigger, at an epoch and at a Sketch capture. -/
def State.tempTrigger (s : State) (temp : Int) : State :=
  let s := { s with nav := { s.nav with temperature := temp } }
  let far (k : Nat) : Bool := decide ((temp - s.cal.slot.temps.getD k 0).natAbs > s.cal.cfg.deltaT * 128)
  if s.cal.slot.valid && (measurable s.pwr.profile).any far then s.calTrigger 0 else s

/-! Units (10 R359, R360; 01 R35, R37). -/

/-- Ports that a run in the profile in force needs LOCKED. -/
def State.calPorts (s : State) : List Nat :=
  let on (p : Nat) : Bool := (s.port p).cfg.enable
  if s.pwr.profile = 2 then (List.range 8).filter on
  else if s.pwr.profile = 0 then (List.range 8).filter fun p => on p && p / 2 == s.easel.sketch.antenna
  else []

/-- Clusters whose channels a run in FULL borrows: powered, and not restarting (R37, R362). -/
def State.calClusters (s : State) : List Nat :=
  if s.pwr.profile = 2 then (List.range 4).filter fun c => s.clusterUp c && (s.cluster c).restart.isNone else []

/-- Foreground work holds or wants a bank. -/
def State.foregroundWants (s : State) : Bool := s.easel.jobs.any fun j => !j.isTwin && (j.left || decide (s.easel.held j.id > 0))

/-- Every unit that a run needs is free of foreground work. -/
def State.calUnitsFree (s : State) : Bool :=
  s.pwr.profile == 1 || (!s.foregroundWants && s.calClusters.all fun c => !(s.idleIn c).isEmpty)

/-- The channel taken from a cluster: IDLE, the lowest-numbered of several (DESIGN CHOICE, log 55); else the highest-numbered not
in TRACK; else the highest-numbered (01 R35). -/
def State.claimChannel (s : State) (c : Nat) : Option Nat :=
  let mine := ((List.range 48).map (c * 48 + ·)).filter fun ch => !(s.chan ch).out
  match s.idleIn c with
  | ch :: _ => some ch
  | [] =>
    match (mine.filter fun ch => (s.chan ch).state ≠ 4).getLast? with
    | some ch => some ch
    | none => mine.getLast?


/-- Banks in mid-pass give way: their passes are discarded. -/
def State.clearBanks (s : State) : State := forUpto 8 (fun b s => s.discardPass b) s

/-! CALREF (10 R356). -/

/-- A step of the Fibonacci LFSR x¹⁴ + x⁵ + x³ + x + 1: stages 1 to 14, the sum of stages 14, 5, 3 and 1 enters stage 1 (DEDUCED, log 57). -/
def calStep (r : List Bool) : List Bool :=
  let at_ (k : Nat) : Bool := r.getD (k - 1) false
  (((at_ 14 != at_ 5) != at_ 3) != at_ 1) :: r.take 13

/-- The register after `n` chips from all ones. -/
def calStages : Nat → List Bool
  | 0 => List.replicate 14 true
  | n + 1 => calStep (calStages n)

/-- Level of the CALREF pin: in the injection window the code's chip, eight ticks each, its period begun at each multiple of 81,840 ticks;
low at all other times. -/
def State.calrefHigh (s : State) : Bool := s.cal.calref && (calStages (s.clk.tick % 81840 / 8)).getD 13 false

/-! Start, abort, release (10 R360, R361). -/

/-- Final replies of the CAL_RUN commands that joined the run. -/
def State.answerCal (s : State) (st : Status) (detail : Nat) (payload : List Byte) : State :=
  let cmds := s.cal.cmds
  let s := s.modCal fun c => { c with cmds := [], storeNref := false }
  cmds.foldl (fun s id => s.finalReply id st detail payload) s

/-- A channel under a claim is free again; one that tracked resumes in PULL_IN from its saved loop state (01 R35). Of a channel in another
state but IDLE the spec says nothing: its lanes in PULL_IN or SYNC resume in PULL_IN too, a LOST lane coasts on (DESIGN CHOICE, log 55). -/
def State.unclaim (s : State) (ch : Nat) : State :=
  s.modChan ch fun c => { c with claimed := false, upper := c.upper.moved c.savedUpper c.sv s.now, lower := c.lower.moved c.savedLower c.sv s.now }

/-- The part of an overdue claim that a restart delayed is taken, and released as soon as it is taken (01 R37, 10 R362). -/
def State.lateClaims (s : State) : State :=
  let due := s.cal.late.filter fun c => (s.cluster c).restart.isNone
  let s := s.modCal fun c => { c with late := c.late.filter fun k => !due.contains k }
  due.foldl (fun s c => match s.claimChannel c with | none => s | some ch => s.unclaim ch) s

/-- The shared units are released, the freeze ends, CALREF stops. -/
def State.calRelease (s : State) : State :=
  match s.cal.run with
  | none => s
  | some r =>
    if r.released then s else
    let s := s.modCal fun c => { c with calref := false, run := some { r with released := true } }
    let s := s.modEasel fun e => { e with banks := e.banks.map fun b => { b with cal := false } }
    (r.channels.foldl (fun s ch => s.unclaim ch) s).refreeze.assignBanks

/-- A run aborts (10 R361): old values stay; a temperature or setting trigger stays ready for 60 s later. -/
def State.calAbort (s : State) (trigger reason port : Nat) : State :=
  let s := s.calRelease
  let s := s.modCal fun c =>
    { c with run := none, aborts := sat16 c.aborts, lastReason := reason
             ready := if c.ready.isNone && (trigger == 0 || trigger == 3) then some { trigger := trigger, from_ := s.now + 60 * second } else c.ready }
  (s.answerCal .calInputState (reason + 256 * port) []).refreeze

/-- The checks of tick 0 and their ports. -/
def State.calChecks (s : State) (ports : List Nat) : Option (Nat × Nat) :=
  if ports.isEmpty then none
  else if !s.poweredOn 9 then some (1, 255)
  else match ports.find? fun p => (s.port p).lane != .locked with
    | some p => some (2, p)
    | none => (ports.find? fun p => (s.port p).j ≥ s.input.jAlert).map fun p => (5, p)

/-- A run takes its units at this tick; in SENTINEL it needs none, and its freeze lasts as long (02 R61, R68, 10 R359). -/
def State.calStart (s : State) (overdue : Bool) : State :=
  match s.cal.ready with
  | none => s
  | some r =>
    let ports := s.calPorts
    let s := s.modCal fun c => { c with ready := none, def_ := c.def_.obtain }
    match s.calChecks ports with
    | some (reason, port) => s.calAbort r.trigger reason port
    | none =>
      let shared := s.pwr.profile != 1
      let s := if shared then s.clearBanks else s
      let clusters := s.calClusters
      let channels := clusters.filterMap s.claimChannel
      let late := if overdue && s.pwr.profile = 2 then (List.range 4).filter fun c => s.clusterUp c && !clusters.contains c else []
      let s := channels.foldl (fun s ch => s.modTrk fun t => { t with channels := vmod t.channels ch fun c => { c.save with claimed := true } }) s
      let s := if shared then s.modEasel fun e => { e with banks := e.banks.map fun b => { b with cal := true } } else s
      let s := s.modCal fun c =>
        { c with calref := shared, late := late
                 run := some { tick0 := s.clk.tick, dt0 := s.now, temp := s.nav.temperature, trigger := r.trigger,
                               profile := s.pwr.profile, overdue := overdue, cfg := c.cfg, mask := s.input.array.mask, ports := ports, clusters := clusters,
                               channels := channels } }
      s.refreeze

/-- At a boundary: a ready run starts, defers, or takes its overdue claim (01 R33, R34, 10 R371). -/
def State.calBoundary (s : State) : State :=
  let s := s.lateClaims
  if !s.calAttempts then s
  else
    let due := s.easel.capturing.isSome || !s.easel.reqs.isEmpty
    let s := if due then s.modInput fun i => { i with linked := true } else s
    if s.cal.def_.overdue then s.calStart true
    else if s.pwr.profile != 1 && (due || !s.calUnitsFree) then s.modCal fun c => { c with def_ := c.def_.defer }
    else s.calStart false

end Sys2Proof.Machine
end

