-- ==== Sys2Proof/Machine/TrackRows.lean ====
section
/-! DEFINITION. Events of the tracking channels and the TRK group (05 R175–R207). -/

namespace Sys2Proof.Machine

/-! Accumulation dumps (05 R181–R192). -/

/-- The cluster serves its channels: powered and not failed. -/
def State.pairUp (s : State) (c : Nat) : Bool := s.domeService && s.clusterUp c

/-- The cluster's loop pair runs: powered and not restarting. -/
def State.pairRuns (s : State) (c : Nat) : Bool := s.pairUp c && (s.cluster c).restart.isNone

/-- A residue mismatch (R191): the accumulation is withheld, the epoch's measurements are marked, a self-check of 1 ms
begins (in the channel's own datapath where no spare slot remains); the third within 1 s retires the channel. -/
def State.residueFailure (s : State) (ch : Nat) (lower pilot : Bool) : State :=
  let (cause, s) := s.claim 3
  let s := s.modTrk fun t => { t with residueTotal := sat16 t.residueTotal }
  let own := (s.cluster (ch / 48)).spares.isEmpty
  s.modChan ch fun c =>
    let rs := recent s.now second (s.now :: c.recent)
    let c := c.modLane lower fun l => { l with residue := true }
    { c with residues := sat16 c.residues, recent := rs
             retireAt := match c.retireAt with | some r => some r | none => if rs.length ≥ 3 then some (cause, s.now) else none
             selfCheck := some (match c.selfCheck with | none => s.now + ms 1 | some d => d)
             checkOwn := own, failing := c.failing ++ [⟨lower, pilot, cause, s.now⟩] }

/-- Conditions of SYNC (R185): PLI ≥ 0.8, C/N0 ≥ CN0_TRACK_MIN, mean |DLL error| over the last 100 ms < 0.1 chip. -/
def TrkLane.readyToSync (l : TrkLane) (cfg : TrkConfig) : Bool :=
  let n := 100 / primaryPeriod l.signal
  pliAtLeast l.prompts 8 && cn0AtLeast l.windows.head? cfg.trackMin && decide (n ≤ l.loop.dlls.length) &&
    decide (10 * ((l.loop.dlls.take n).map Int.natAbs).sum < n * 65536)

/-- Phase 2 of PULL_IN begins (R183): the frequency error, averaged over 20 ms, is below min(10 Hz, 1 / (10T)). -/
def TrkLane.nearFrequency (l : TrkLane) : Bool :=
  let n := 20 / primaryPeriod l.signal
  decide (n ≤ l.loop.freqs.length) && decide (((l.loop.freqs.take n).sum).natAbs < n * min 10000 (100000 / l.now.t))

/-- Loss condition (R185): C/N0 < CN0_LOSS or PLI < 0.5. -/
def TrkLane.losing (l : TrkLane) (cfg : TrkConfig) : Bool :=
  !pliAtLeast l.prompts 5 || (!l.windows.isEmpty && !cn0AtLeast l.windows.head? cfg.lossMin)

/-- The phase limit of the slip detector in 2⁻¹⁶ cycle (06 R218). -/
def slipLimit (signal : Nat) : Nat := if hasPilot signal then 16384 else 8192

/-- An update in PULL_IN: the side-peak check sums powers; else phase 2 begins, or SYNC once its conditions have held for 100 ms. -/
def TrkLane.stepPullIn (l : TrkLane) (d : Sums) (e : LoopIn) (cfg : TrkConfig) (now : Nat) : TrkLane :=
  match l.check with
  | some _ => { l with checkSums := (l.checkSums.1 + power d.early, l.checkSums.2.1 + power e.sum, l.checkSums.2.2 + power d.late) }
  | none =>
    let l := if l.phase2.isNone && l.nearFrequency then { l with phase2 := some now, now := pullInNow l.signal true } else l
    let good := if l.phase2.isSome && l.readyToSync cfg then some (l.good.getD now) else none
    let l := { l with good := good }
    if good.any fun g => decide (now ≥ g + ms 100) then l.enter .sync now else l

/-- An update in SYNC: TRACK once synchronisation is complete. -/
def TrkLane.stepSync (l : TrkLane) (e : LoopIn) (index : Nat) (predicted : Option Nat) (cfg : TrkConfig) (sv now : Nat) : TrkLane :=
  let l := l.addSign sv index e.sum
  match l.syncFound sv index predicted with
  | some (k, n) => (l.renumber index k n).enterTrack now
  | none => { l with bad := if l.losing cfg then some (l.bad.getD now) else none }

/-- An update in TRACK: the slip detector, AMB 1 again after a restart, glaze, the loss condition, symbols. -/
def TrkLane.stepTrack (l : TrkLane) (d : Sums) (e : LoopIn) (index : Nat) (target : LoopNow) (cfg : TrkConfig) (sv now : Nat) : TrkLane :=
  let past := decide (e.phase.natAbs > slipLimit l.signal)
  let l := { l with amb := max l.amb 1 }
  let l := if past && l.slips then { l.restart now with slips := true } else { l with slips := past }
  { l.update target sv index now with bad := if l.losing cfg then some (l.bad.getD now) else none }.collect d sv index now

/-- A loop update of a lane in PULL_IN, SYNC or TRACK with what its discriminators give. -/
def TrkLane.step (l : TrkLane) (d : Sums) (e : LoopIn) (index : Nat) (predicted : Option Nat) (target : LoopNow) (cfg : TrkConfig)
    (sv now : Nat) : TrkLane :=
  let l := { (l.drive e sv now).addPrompts d.prompts with sums := d }
  match l.st with
  | .pullIn => l.stepPullIn d e cfg now
  | .sync => l.stepSync e index predicted cfg sv now
  | .track => l.stepTrack d e index target cfg sv now
  | _ => l

/-- The upper lane's conversion at a boundary common to both signals (R169). -/
def TrkLane.tryConvert (l : TrkLane) (sv index now : Nat) : TrkLane :=
  match l.convertTo with
  | none => l
  | some code =>
    if l.st == .track && index * primaryPeriod l.signal % Nat.lcm 10 (symbolPeriod l.signal sv) = 0 then l.convert code sv now else l

/-- The withheld lane of a residue mismatch takes no update; the channel's own self-check withholds too. -/
def State.withheld (s : State) (ch : Nat) : Bool := (s.chan ch).selfCheck.isSome && (s.chan ch).checkOwn

/-- Place of an overlay predicted from GNSS time, where the BOUND of the last DT_MAP record is below 2 ms (R172). -/
def State.overlayPlace (s : State) (signal sv : Nat) : Option Nat :=
  match s.nav.lastMap with
  | none => none
  | some m => if m.bound < 2 * 10 ^ 9 then some (Config.predictedOverlay (m.gps s.now).toNat s.priorAt signal sv) else none

/-- A dump that the loop pair takes: a wanted lane starts in PULL_IN, a LOST lane coasts or is steered, another takes its update. -/
def State.takeDump (s : State) (c : Channel) (lower : Bool) (d : Sums) : TrkLane :=
  let l := c.lane lower
  let o := c.lane (!lower)
  let index := l.index c.sv s.now
  match l.st with
  | .absent => (l.roll c.sv s.now).enterPullIn s.now
  | .lost =>
    let l := { l.addPrompts d.prompts with sums := d }
    if o.st == .track then l.steer o c.sv s.now else l.coast c.sv s.now
  | _ =>
    let e := l.measure d c.sv index
    let target := (vget s.trk.loops (signalIndex l.signal)).target l.signal c.sv
    let l := l.step d e index (s.overlayPlace l.signal c.sv) target s.trk.cfg c.sv s.now
    let l := if c.palette && l.st == .track then l.addArms d e.sum else l
    if lower then l else l.tryConvert c.sv index s.now

/-- An accumulation that is withheld or discarded leaves the lane's symbols and sums short of it. -/
def State.withholdDump (s : State) (ch : Nat) (lower : Bool) (d : Sums) (mark : Bool) : State :=
  s.modChan ch fun c => c.modLane lower fun l =>
    { l.withhold c.sv d.prompts.length (l.index c.sv s.now) with residue := l.residue || mark }

/-- ACCUMULATION_DUMP of one lane, at one of its accumulation boundaries: first what waits for the channel's next loop update, a release or
a retirement. -/
def execAccumulationDump (ch : Fin 192) (lower : Bool) (d : Sums) (s : State) : Res :=
  let ch := ch.val
  let c := s.chan ch
  let l := c.lane lower
  let runs := s.pairRuns (ch / 48)
  if !s.pairUp (ch / 48) || c.anchor.isNone || c.out || c.claimed || l.signal = 0 || (l.st == .absent && !s.bandOpen lower) then .next s
  else if runs && c.releasing then .next (s.goIdle ch)
  else if runs && c.retireAt.isSome then .next (s.retire ch)
  else if l.st != .absent && !d.residueOk then .next ((s.residueFailure ch lower d.pilot).withholdDump ch lower d true)
  else if !runs then .next (s.withholdDump ch lower d false)
  else if s.withheld ch then .next (s.withholdDump ch lower d true)
  else if l.st != .absent && decide (d.prompts.length * primaryPeriod l.signal ≠ l.now.t) then .next s
  else .next (s.modLane ch lower fun _ => s.takeDump c lower d)

/-- SIDE_PEAK_CHECK_END (R175): 20 ms of the check. The early arm's replica is ahead of the prompt's, so a move toward it takes the code
0.5 chip forward (DEDUCED, log 56). -/
def execSidePeakCheckEnd (ch : Fin 192) (lower : Bool) (s : State) : Res :=
  let l := (s.chan ch.val).lane lower
  match l.st, l.check with
  | .pullIn, some (from_, moves) =>
    if !s.pairRuns (ch.val / 48) || decide (s.now < from_ + ms 20) then .next s
    else
      let (e, p, la) := l.checkSums
      let early := dbAbove e p 3 1
      let late := dbAbove la p 3 1
      let move : Int := if early && (!late || e ≥ la) then 1 else if late then -1 else 0
      let again := decide (move ≠ 0) && decide (moves + 1 < 2)
      .next (s.modLane ch.val lower fun l =>
        { l.shiftCode (move * 512) with
          check := if again then some (s.now, moves + 1) else none, checkSums := (0, 0, 0), since := if again then l.since else s.now
          now := { l.now with d := if again then l.now.d else pullInSpacing l.signal } })
  | _, _ => .next s

/-- SELF_CHECK_COMPLETE (R191, R192): the records of the failures that it follows; a failure retires the channel. -/
def execSelfCheckComplete (ch : Fin 192) (pass : Bool) (s : State) : Res :=
  match (s.chan ch.val).selfCheck with
  | none => .next s
  | some d =>
    if s.now < d || !s.pairRuns (ch.val / 48) then .next s
    else
      let s := s.residueRecords ch.val (!pass)
      let r := s.claim 3
      let due := !pass && (s.chan ch.val).retireAt.isNone
      let s := if due then r.2 else s
      .next (s.modChan ch.val fun c =>
        { c with selfCheck := none, failing := [], retireAt := if due then some (r.1, s.now) else c.retireAt })

/-- LOOP_STATE_CHECKPOINT (R193): once every millisecond. -/
def execLoopStateCheckpoint (s : State) : Res :=
  let written (c : Nat) : Bool := s.pairRuns c && decide (s.now ≥ (s.cluster c).checkpoint + ms 1)
  let t := forUpto 4 (fun c s => if written c then s.modCluster c fun k => { k with checkpoint := s.now } else s) s
  let save (v : Vector Channel 192) (i : Fin 192) : Channel := if written (i.val / 48) then (vget v i.val).save else vget v i.val
  .next (t.modTrk fun t => { t with channels := Vector.ofFn (save t.channels) })

/-! Time limits (R185). -/

/-- PULL_IN_TIMEOUT: a converted lane reverts; a lane of a channel that was in TRACK goes to LOST; a channel never in TRACK
goes to IDLE when no other lane of it stands higher. -/
def execPullInTimeout (ch : Fin 192) (lower : Bool) (s : State) : Res :=
  let c := s.chan ch.val
  let l := c.lane lower
  if l.st != .pullIn || l.check.isSome || !s.pairRuns (ch.val / 48) || decide (s.now < l.since + ms s.trk.cfg.pullIn) then .next s
  else if l.converted then .next (s.modChan ch.val fun c => { c.modLane lower (·.revert c.sv s.now) with noConvert := true })
  else if c.tracked then .next (s.modLane ch.val lower (·.enterLost s.now))
  else if c.state = 2 then .next ((s.modTrk fun t => { t with pullInFails := sat16 t.pullInFails }).goIdle ch.val)
  else .next (s.modLane ch.val lower (·.enterLost s.now))

/-- SYNC_TIMEOUT. -/
def execSyncTimeout (ch : Fin 192) (lower : Bool) (s : State) : Res :=
  let l := (s.chan ch.val).lane lower
  if l.st != .sync || !s.pairRuns (ch.val / 48) || decide (s.now < l.since + ms s.trk.cfg.sync) then .next s
  else if l.converted then .next (s.modChan ch.val fun c => { c.modLane lower (·.revert c.sv s.now) with noConvert := true })
  else .next (s.modLane ch.val lower (·.enterLost s.now))

/-- LOSS_TIME_EXPIRY: the loss condition has held for LOSS_TIME in SYNC or TRACK. -/
def execLossTimeExpiry (ch : Fin 192) (lower : Bool) (s : State) : Res :=
  let l := (s.chan ch.val).lane lower
  match l.st, l.bad with
  | .track, some b | .sync, some b =>
    if s.pairRuns (ch.val / 48) && decide (s.now ≥ b + ms s.trk.cfg.loss) then .next (s.modLane ch.val lower (·.enterLost s.now))
    else .next s
  | _, _ => .next s

/-- LOST_COAST_EXPIRY: REACQ with a request to the Easel, or IDLE. -/
def execLostCoastExpiry (ch : Fin 192) (s : State) : Res :=
  let c := s.chan ch.val
  match c.state, c.lostFrom with
  | 5, some from_ =>
    if s.now < from_ + ms s.trk.cfg.coast then .next s
    else if s.trk.cfg.reacq then
      let s := s.modChan ch.val fun c => { c with reacqFrom := some s.now }
      let l := c.lane c.leadLower
      .next (s.requestReacq ch.val l.signal c.sv (l.codeNow c.sv s.now) l.doppler (s.now - from_) s.trk.primary)
    else .next (s.goIdle ch.val)
  | _, _ => .next s

/-- REACQ_TIMEOUT: the time reached, or the satellite predicted below REACQ_ELEV. The channel goes to IDLE at the end of the tick, for
a candidate delivered in it is accepted (R198). -/
def execReacqTimeout (ch : Fin 192) (s : State) : Res :=
  let c := s.chan ch.val
  match c.state, c.reacqFrom with
  | 6, some d =>
    if decide (s.now ≥ d + s.trk.cfg.reacqTime * second) || decide (c.elevation < s.trk.cfg.elev) then
      .next (s.modTrk fun t => { t with channels := vmod t.channels ch.val fun c => { c with expiring := true } })
    else .next s
  | _, _ => .next s

/-- Channels whose REACQ time limit was reached in the tick go to IDLE at its end. -/
def State.expireReacq (s : State) : State :=
  forUpto 192 (fun ch s => if (s.chan ch).expiring && (s.chan ch).state == 6 then s.goIdle ch else s) s

/-- LOST_LANE_CHECK: every 20 ms, over the prompt sums of the last 100 ms at the coasting prediction. -/
def execLostLaneCheck (ch : Fin 192) (lower : Bool) (_ : Unit) (s : State) : Res :=
  let l := (s.chan ch.val).lane lower
  if l.st != .lost || !s.pairRuns (ch.val / 48) || decide (s.now < l.checkedAt + ms 20) then .next s
  else if decide (l.prompts.length * primaryPeriod l.signal ≥ 100) &&
      cn0AtLeast (some (cn0Window l.prompts (primaryPeriod l.signal))) (s.trk.cfg.lossMin + 3) then
    let s := if (s.chan ch.val).reacqFrom.isSome then s.withdrawReacq ch.val else s
    .next (s.modLane ch.val lower (·.enterPullIn s.now))
  else .next (s.modLane ch.val lower fun l => { l with checkedAt := s.now })

/-- LOST_LANE_REENTRY (R186): every 10 s from the prediction of the lane in TRACK. -/
def execLostLaneReentry (ch : Fin 192) (lower : Bool) (s : State) : Res :=
  let c := s.chan ch.val
  let l := c.lane lower
  let o := c.lane (!lower)
  if l.st != .lost || o.st != .track || !s.pairRuns (ch.val / 48) || decide (s.now < l.reentry + 10 * second) then .next s
  else .next (s.modLane ch.val lower fun l => { (l.steer o c.sv s.now).enterPullIn s.now with reentry := s.now })

/-! Multipath (R177, R178). -/

/-- A model with one more path is accepted when it lowers the residual sum of squares by MP_ACCEPT dB, at 35 dB-Hz for
two paths and 40 dB-Hz for three. -/
def chooseFit (fits : List PathFit) (accept : Nat) (cn0 : Option (Nat × Nat)) : Option PathFit :=
  match fits with
  | [] => none
  | a :: r => match r with
    | [] => some a
    | b :: r =>
      if !(dbAtLeast a.rss b.rss accept 1 && cn0AtLeast cn0 35) then some a
      else match r with
        | [] => some b
        | c :: _ => if dbAtLeast b.rss c.rss accept 1 && cn0AtLeast cn0 40 then some c else some b

/-- R177's constraints: the reflections stand 1/32 to 1.5 chips after the line of sight, at most 0.95 of its amplitude. -/
def fitOk (n : Nat) (f : PathFit) : Bool :=
  decide (f.reflections.length = n) && f.reflections.all fun r => decide (4 ≤ r.1 ∧ r.1 ≤ 192) && decide (r.2.natAbs * 100 ≤ 95 * 128)

/-- The models of one, two and three paths that the constraints allow, in that order. -/
def allowedFits : Nat → List PathFit → List PathFit
  | _, [] => []
  | n, f :: r => if n < 3 && fitOk n f then f :: allowedFits (n + 1) r else []

/-- The averages of the multipath arms over MP_AVG. -/
def TrkLane.averages (l : TrkLane) : List Int := l.mp.map fun z => rnd z l.mpCount

/-- MULTIPATH_FIT: the estimate of a lane in TRACK at an MP_AVG boundary, in the Palette set. It never steers the loops. -/
def execMultipathFit (ch : Fin 192) (lower : Bool) (_ : Unit) (s : State) : Res :=
  let c := s.chan ch.val
  let l := c.lane lower
  if l.st != .track || !c.palette || !s.pairRuns (ch.val / 48) || l.mpCount = 0 ||
      decide (s.now < l.mpFrom + ms s.trk.palette.avg) then .next s
  else
    let fits := allowedFits 0 (Config.pathFits l.signal s.trk.palette.offsets l.averages)
    let s := s.modLane ch.val lower fun l =>
      let l := { l with mp := [], mpCount := 0, mpFrom := s.now }
      match chooseFit fits s.trk.palette.accept l.windows.head? with
      | none => l
      | some f => { l with los := f.los, reflections := f.reflections, residual := min 255 f.residual }
    let s := { s with interp := { s.interp with mpNow := s.interp.mpDetail } }
    .next (s.modTrk fun t => { t with epochs := { t.epochs with mpDue := true } })

/-! Candidates reach channels (04 R133–R136). -/

/-- A candidate goes to the channel that holds its satellite: it restarts a channel in REACQ, adds the lower lane, or
converts the upper one (R134 step 1, R154, 05 R169, R198). -/
def State.giveTo (s : State) (ch : Nat) (p : Peak) : State :=
  let c := s.chan ch
  match signalRow p.signal with
  | none => s
  | some r =>
    let start (l : TrkLane) : TrkLane := { l with signal := p.signal, st := .absent }.load p.code p.doppler p.dt
    if c.state = 6 then
      let s := s.withdrawReacq ch
      s.modLane ch c.leadLower fun l => ((l.load p.code p.doppler p.dt).roll c.sv s.now).enterPullIn s.now
    else if !r.upper then
      if c.lower.st == .absent && s.pwr.profile != 1 && s.bandOpen true then s.modLane ch true start else s
    else if p.signal = r.anchor then
      if c.upper.st == .absent && s.bandOpen false then s.modLane ch false start else s
    else if c.derives && !c.noConvert && !c.upper.converted &&
        (c.upper.st == .sync || c.upper.st == .track || c.upper.st == .pullIn) then
      s.modLane ch false fun l => { l with convertTo := some p.signal }
    else s

/-! TRK-group commands (05 R199–R207). -/

/-- TRK commands but the GETs get STATE_CONFLICT in SKETCH and in EARLY (R199). -/
def State.noTracking (s : State) : Bool × Ans := (s.pwr.profile == 0 || s.pwr.profile == 3, .err .stateConflict 0)

def parseLoop (b : List Byte) : LoopSet :=
  { order3 := bit (byteAt b 1) 0, dll2 := bit (byteAt b 1) 1, tp := byteAt b 2, spacing := byteAt b 3, pll := getLe b 4 2,
    fll := getLe b 6 2, dll := getLe b 8 2 }

/-- SV values whose permitted periods differ for a signal (B1I D1 and D2). -/
def svClasses (code : Nat) : List Nat := if code = 0x21 then [6, 1] else [1]

/-- A set keeps R174 and R182 for a signal. -/
def LoopSet.ok (l : LoopSet) (code : Nat) : Bool :=
  (l.spacing == 0 || spacingOk code l.spacing) &&
    (svClasses code).all fun sv =>
      let g := l.target code sv
      bnLimits g.pll g.fll g.dll g.t l.order3

def bodyTrkSetLoop : Body := fun c s =>
  let b := c.payload
  let l := parseLoop b
  let sig := byteAt b 0
  let covered := if sig = 0 then signalTable.map (·.code) else [sig]
  let broken := covered.find? fun k => !l.ok k
  checked s
    [reservedPayload b [(1, 0xFC), (10, 0xFF), (11, 0xFF)], outOfRange (sig != 0 && (signalRow sig).isNone) 0,
     outOfRange (!periodList.contains l.tp) 2, outOfRange (decide (l.spacing > 64)) 3,
     outOfRange (decide (l.pll < 10 ∨ l.pll > 400)) 4, outOfRange (decide (l.fll ≠ 0 ∧ (l.fll < 5 ∨ l.fll > 200))) 6,
     outOfRange (decide (l.dll < 1 ∨ l.dll > 500)) 8, (broken.isSome, .err .paramRange (broken.getD 0)), s.noTracking]
    (s.modTrk fun t => { t with loopSets := t.loopSets ++ [(sig, l)] }, .okay [])

/-- A waiting loop setting takes effect (R200); SPACING 0 is each signal's class default. -/
def Tracking.setLoop (t : Tracking) (sig : Nat) (l : LoopSet) : Tracking :=
  if sig = 0 then { t with loops := t.loops.map fun _ => l }
  else { t with loops := vset t.loops (signalIndex sig) l }

/-- A lane in TRACK of a signal whose set changed starts, or goes on with, a ramp from the values in force (R197). -/
def TrkLane.newTarget (l : TrkLane) (sig now : Nat) : TrkLane :=
  if l.st == .track && (sig = 0 || l.signal = sig) then { l with ramp := some { start := now }, nextT := none } else l

def State.applyLoops (s : State) : State :=
  let sets := s.trk.loopSets
  let s := s.modTrk fun t => sets.foldl (fun t p => t.setLoop p.1 p.2) { t with loopSets := [] }
  sets.foldl (fun s p => s.modTrk fun t => { t with channels := t.channels.map fun c =>
    { c with upper := c.upper.newTarget p.1 s.now, lower := c.lower.newTarget p.1 s.now } }) s

def bodyTrkGetLoop : Body := fun c s =>
  let sig := byteAt c.payload 0
  let l := vget s.trk.loops (signalIndex sig)
  checked s [outOfRange (signalRow sig).isNone 0]
    (s, .okay (le 1 sig ++ le 1 (b2n l.order3 + 2 * b2n l.dll2) ++ le 1 l.tp ++
      le 1 (if l.spacing = 0 then trackSpacing sig else l.spacing) ++ le 2 l.pll ++ le 2 l.fll ++ le 2 l.dll ++ zeros 2))

def Palette.bytes (p : Palette) : List Byte := p.offsets.flatMap (leInt 1) ++ le 1 0 ++ le 2 p.avg ++ le 1 p.accept ++ le 1 0

def increasing : List Int → Bool
  | [] => true
  | a :: r => (match r with | [] => true | b :: _ => decide (a < b)) && increasing r

def bodyTrkSetPalette : Body := fun c s =>
  let b := c.payload
  let p : Palette := { offsets := (List.range 11).map fun k => getLeInt b k 1, avg := getLe b 12 2, accept := byteAt b 14 }
  checked s
    [reservedPayload b [(11, 0xFF), (15, 0xFF)],
     outOfRange (!(increasing p.offsets && p.offsets.all (fun z => decide (-96 ≤ z ∧ z ≤ 96)) && p.offsets.getD 5 1 == 0)) 0,
     outOfRange (decide (p.avg < 20 ∨ p.avg > 1000)) 12, outOfRange (decide (p.accept < 3 ∨ p.accept > 20)) 14, s.noTracking]
    (s.modTrk fun t => { t with palettePending := some p }, .okay [])

def bodyTrkGetPalette : Body := query fun s => s.trk.palette.bytes

/-- TRK_RELEASE: a channel, or every channel, goes to IDLE at its next loop update (R185); at once where no lane of it runs. -/
def State.release_ (s : State) (ch : Nat) : State :=
  if (s.chan ch).anchor.isNone then s
  else if (s.chan ch).present.isEmpty then s.goIdle ch
  else s.modTrk fun t => { t with channels := vmod t.channels ch fun c => { c with releasing := true } }

def bodyTrkRelease : Body := fun c s =>
  let b := c.payload
  let ch := byteAt b 0
  checked s
    [reservedPayload b [(1, 0xFF), (2, 0xFF), (3, 0xFF)], outOfRange (decide (ch > 191 ∧ ch ≠ 255)) 0, s.noTracking]
    (forUpto 192 (fun k s => if k = ch || ch = 255 then s.release_ k else s) s, .okay [])

/-- Array arms of a lane: antennas of ANT_MASK but the primary whose port of the lane's band is LOCKED (05 R179). -/
def State.laneArms (s : State) (c : Channel) (lower : Bool) : Nat :=
  if !c.palette || (c.lane lower).st == .absent then 0
  else maskOf 4 fun a => a != s.trk.primary && bit s.input.array.mask a && (s.port (2 * a + b2n lower)).lane == .locked

/-- Array arms present in a channel. -/
def State.arrayArms (s : State) (c : Channel) : Nat := maskOf 4 fun a => bit (s.laneArms c false) a || bit (s.laneArms c true) a

def elapsedMs (dt : Nat) : Nat := dt * 1000 / second

def bodyTrkGetChannel : Body := fun q s =>
  let ch := byteAt q.payload 0
  let c := s.chan ch
  let u := c.upper
  let l := c.lower
  checked s [outOfRange (decide (ch > 191)) 0]
    (s, .okay (le 1 ch ++ le 1 c.state ++ le 1 (bitsOf [(c.twin, 0), (c.out, 1), (decide (c.slot ≥ 48), 2), (c.palette, 3)]) ++
      le 1 c.sv ++ le 1 (if u.st == .absent then 0 else u.signal) ++ le 1 u.st.code ++
      le 1 (if l.st == .absent then 0 else l.signal) ++ le 1 l.st.code ++ le 1 s.trk.primary ++ le 1 (s.arrayArms c) ++
      le 2 (u.cn0 100) ++ le 2 (l.cn0 100) ++ le 1 u.now.t ++ le 1 l.now.t ++ leInt 4 u.doppler ++ leInt 4 l.doppler ++
      le 2 (u.now.pll / 100000) ++ le 2 (l.now.pll / 100000) ++ le 1 u.now.d ++ le 1 l.now.d ++ le 2 c.residues ++
      le 4 (min 0xFFFF_FFFF (elapsedMs (s.now - c.since)))))

def bodyTrkGetSummary : Body := query fun s =>
  let n (k : Nat) : Nat := (s.trk.channels.toList.filter fun c => c.state == k).length
  (List.range 7).flatMap (fun k => le 1 (n k)) ++ le 1 (s.trk.channels.toList.filter (·.out)).length ++
    s.trk.clusters.toList.flatMap (fun k => le 1 k.spares.length) ++ le 1 s.boot.clustersFailed.toNat ++ zeros 3 ++
    le 2 s.trk.pullInFails ++ le 2 s.trk.lockstep ++ le 2 s.trk.residueTotal ++ le 2 s.trk.retirements ++ zeros 4

def TrkConfig.bytes (c : TrkConfig) : List Byte :=
  le 1 (b2n c.reacq) ++ le 1 c.upper ++ le 1 c.primary ++ leInt 1 c.elev ++ le 2 c.pullIn ++ le 2 c.sync ++ le 2 c.loss ++
    le 2 c.coast ++ le 2 c.reacqTime ++ le 1 c.trackMin ++ le 1 c.lossMin ++ zeros 4

def bodyTrkSetConfig : Body := fun q s =>
  let b := q.payload
  let c : TrkConfig := { reacq := bit (byteAt b 0) 0, upper := byteAt b 1, primary := byteAt b 2, elev := getLeInt b 3 1,
                         pullIn := getLe b 4 2, sync := getLe b 6 2, loss := getLe b 8 2, coast := getLe b 10 2,
                         reacqTime := getLe b 12 2, trackMin := byteAt b 14, lossMin := byteAt b 15 }
  checked s
    [reservedPayload b [(0, 0xFE), (1, 0xF8), (16, 0xFF), (17, 0xFF), (18, 0xFF), (19, 0xFF)],
     outOfRange (decide (c.primary > 3) || !bit s.input.array.mask c.primary) 2, outOfRange (decide (c.elev < -10 ∨ c.elev > 30)) 3,
     outOfRange (decide (c.pullIn < 100 ∨ c.pullIn > 5000)) 4, outOfRange (decide (c.sync < 1000 ∨ c.sync > 30000)) 6,
     outOfRange (decide (c.loss < 20 ∨ c.loss > 5000)) 8, outOfRange (decide (c.coast < 100 ∨ c.coast > 10000)) 10,
     outOfRange (decide (c.reacqTime < 1 ∨ c.reacqTime > 600)) 12, outOfRange (decide (c.trackMin < 15 ∨ c.trackMin > 40)) 14,
     outOfRange (decide (c.lossMin < 10 ∨ c.lossMin > 38 ∨ c.lossMin + 2 > c.trackMin)) 15, s.noTracking]
    (s.modTrk fun t => { t with cfg := { c with primary := t.cfg.primary }, primaryNext := some c.primary }, .okay [])

def bodyTrkGetConfig : Body := query fun s => s.trk.cfg.bytes

/-- The primary antenna that the profile gives: PRIMARY_ANT in FULL, antenna 0 otherwise (R180). -/
def State.primaryWanted (s : State) : Nat := if s.pwr.profile = 2 then s.trk.cfg.primary else 0

def execTrkSetLoop (t : Txn) (s : State) : Res := hostCommand (opIs 0x0500) bodyTrkSetLoop t s
def execTrkGetLoop (t : Txn) (s : State) : Res := hostCommand (opIs 0x0501) bodyTrkGetLoop t s
def execTrkSetPalette (t : Txn) (s : State) : Res := hostCommand (opIs 0x0502) bodyTrkSetPalette t s
def execTrkGetPalette (t : Txn) (s : State) : Res := hostCommand (opIs 0x0503) bodyTrkGetPalette t s
def execTrkRelease (t : Txn) (s : State) : Res := hostCommand (opIs 0x0505) bodyTrkRelease t s
def execTrkGetChannel (t : Txn) (s : State) : Res := hostCommand (opIs 0x0506) bodyTrkGetChannel t s
def execTrkGetSummary (t : Txn) (s : State) : Res := hostCommand (opIs 0x0507) bodyTrkGetSummary t s
def execTrkSetConfig (t : Txn) (s : State) : Res := hostCommand (opIs 0x0508) bodyTrkSetConfig t s
def execTrkGetConfig (t : Txn) (s : State) : Res := hostCommand (opIs 0x0509) bodyTrkGetConfig t s

end Sys2Proof.Machine
end

