-- ==== Sys2Proof/Machine/Acq.lean ====
section
/-! DEFINITION. Searches, captures, Sketch fixes and the twin watch as operations: grids, candidates and their handover,
snapshot allocation, the steps of a fix, the visits of the watch (04 R125–R154). -/

namespace Sys2Proof.Machine

/-! Candidates (04 R131, R132). -/

/-- Code phase of a peak at another DT (R133). -/
def propagate (p : Peak) (dest : Nat) : Peak :=
  match signalRow p.signal with
  | none => p
  | some r => { p with code := codeAt r p.sv p.code p.doppler p.dt dest, dt := dest }

/-- Peak `q` lies within `code`/1,024 chip and one Doppler bin of where peak `p` is at its DT. -/
def closeTo (p q : Peak) (code : Nat) : Bool :=
  match signalRow p.signal with
  | none => false
  | some r => decide (codeDistance r (propagate p q.dt).code q.code ≤ code) && decide ((q.doppler - p.doppler).natAbs * q.tCoh ≤ 500000)

def sameSignal (p q : Peak) : Bool := p.signal == q.signal && p.sv == q.sv

/-- A further peak of a job: the strongest of a satellite and signal is its candidate; the strongest of the others outside
the candidate's window is its twin suspect, kept as an entry of its own. -/
def mergePeak (cs : List Candidate) (p : Peak) (flags : Nat) : List Candidate :=
  let own (c : Candidate) : Bool := sameSignal c.peak p && !bit c.flags 1
  let susp (c : Candidate) : Bool := sameSignal c.peak p && bit c.flags 1
  match cs.find? own with
  | none => cs ++ [{ peak := p, flags := flags }]
  | some c =>
    let best := if p.sum > c.peak.sum then { peak := p, flags := flags } else c
    let other := if p.sum > c.peak.sum then c.peak else p
    let cs := cs.map fun d => if own d then best else d
    if closeTo best.peak other 1536 then cs.filter fun d => !(susp d && closeTo best.peak d.peak 1536)
    else match cs.find? susp with
      | none => cs ++ [{ peak := other, flags := flags ||| 2 }]
      | some d => if other.sum > d.peak.sum then cs.map fun e => if susp e then { peak := other, flags := flags ||| 2 } else e else cs

/-- The peak ratio ρ as a fraction: the sum over the noise reference (R132). -/
def Peak.ratio (p : Peak) : Nat × Nat := (p.sum * p.cells, max 1 p.noise)

/-- Insertion by descending ρ. -/
def insertByRho (c : Candidate) : List Candidate → List Candidate
  | [] => [c]
  | d :: r =>
    if d.peak.ratio.1 * c.peak.ratio.2 < c.peak.ratio.1 * d.peak.ratio.2 then c :: d :: r else d :: insertByRho c r

def byRho (cs : List Candidate) : List Candidate := cs.foldl (fun l c => insertByRho c l) []

/-- ρ in 1/b dB. -/
def rhoDb (p : Peak) (b : Nat) : Int := dbRound p.ratio.1 p.ratio.2 b (b * 100)

/-- C/N0 = 10·log10((ρ − 1) / T_COH) in 0.01 dB-Hz (R132). -/
def peakCn0 (p : Peak) : Int := dbRound ((p.ratio.1 - p.ratio.2) * 1000) (p.ratio.2 * p.tCoh) 100 12800

def Candidate.bytes (c : Candidate) : List Byte :=
  le 1 c.peak.signal ++ le 1 c.peak.sv ++ le 1 c.flags ++ le 1 c.channel ++ le 4 c.peak.code ++ leInt 4 c.peak.doppler ++
    leInt 2 (peakCn0 c.peak) ++ leInt 2 (rhoDb c.peak 16) ++ le 8 c.peak.dt

/-! Twin events (04 R151, R153; 07 R270). -/

def State.modWatch (s : State) (f : Watch → Watch) : State := s.modEasel fun e => { e with watch := f e.watch }

/-- TWIN_SUSPECT 0x64, TWIN_CONFIRMED 0x65, TWIN_LOST 0x66. -/
def State.twinRecord (s : State) (rtype cause dt : Nat) (t : Twin) : State :=
  s.domeRecord 12 cause rtype dt
    (le 1 t.signal ++ le 1 t.sv ++ le 1 t.source ++ le 1 t.channel ++ le 1 t.own ++ le 1 t.resolution ++ le 1 t.method ++ le 1 0 ++
      le 4 t.peak.code ++ leInt 4 t.peak.doppler ++ leInt 2 t.relative ++ zeros 6)

def State.twinEvent (s : State) (rtype : Nat) (t : Twin) : State :=
  let (cause, s) := s.claim 9
  s.twinRecord rtype cause s.now t

/-- The watch runs (04 R150, 01 R25). -/
def State.watchRuns (s : State) : Bool := s.pwr.profile == 2 && s.easel.watch.cfg.en

/-- A lane predicts a peak (R134): within ±1.5 chips and ±1 Doppler bin, over the shorter of the two code periods where the signals
differ. -/
def lanePredicts (l : TrkLane) (sv : Nat) (p : Peak) : Bool :=
  match signalRow l.signal, signalRow p.signal with
  | some r, some q =>
    let n := min (r.len * q.chips / r.chips) q.len * 1024
    let code := (l.codeNow sv p.dt) * q.chips / r.chips
    let d := (p.code + n - code % n) % n
    let doppler := rnd (l.doppler * carrierOf q sv) (carrierOf r sv)
    l.st != .absent && decide (min d (n - d) ≤ 1536) && decide ((p.doppler - doppler).natAbs * p.tCoh ≤ 500000)
  | _, _ => false

def State.predicts (s : State) (ch : Nat) (p : Peak) : Bool :=
  lanePredicts (s.chan ch).upper p.sv p || lanePredicts (s.chan ch).lower p.sv p

/-- A suspect is reported and passed to the watch. -/
def State.suspect (s : State) (ch : Nat) (p : Peak) (tracked : Nat) (source : Nat) : State :=
  let anchor := match signalRow p.signal with | none => p.signal | some r => r.anchor
  let t : Twin := { channel := ch, signal := anchor, sv := p.sv, peak := p,
                    relative := dbRound (max 1 p.sum) (max 1 tracked) 16 2048, source := source }
  let s := s.twinEvent 0x64 t
  if s.watchRuns && ch < 192 && !(s.easel.watch.twins.any fun u => u.channel == ch) then
    s.modWatch fun w => { w with twins := w.twins ++ [t] }
  else s

/-! Handover (04 R133–R136). -/

def State.dropCandidate (s : State) : State := s.modEasel fun e => { e with dropped := sat16 e.dropped }

/-- A candidate goes to the channel that holds its satellite, to a free one, or waits: the flags of its entry and its channel. -/
def State.handOver (s : State) (p : Peak) (antenna : Nat) (job : Option Nat) : State × Nat × Nat :=
  match signalRow p.signal with
  | none => (s, 16, 255)
  | some r =>
    let p := propagate p s.now
    if s.pwr.profile = 1 && (!r.upper || antenna ≠ 0) then (s, 16, 255)
    else match s.holder r.anchor p.sv with
      | some ch => if (s.chan ch).state == 6 || s.predicts ch p then (s.giveTo ch p, 1, ch) else (s.suspect ch p p.sum 1, 2, 255)
      | none =>
        match s.chooseChannel with
        | some ch => (s.assign ch r.anchor p.sv p.signal p.code p.doppler false, 1, ch)
        | none =>
          if s.easel.queue.length < 64 then
            (s.modEasel fun e => { e with queue := e.queue ++ [{ peak := p, since := s.now, job := job, antenna := antenna }] }, 8, 255)
          else (s.dropCandidate, 16, 255)

/-- The entry of a candidate in its job's list: the one of its satellite and signal with the flags `mask`. -/
def State.markCandidate (s : State) (job : Option Nat) (p : Peak) (mask : Nat) (f : Candidate → Candidate) : State :=
  match job with
  | none => s
  | some id => s.modEasel fun e => e.modJob id fun j =>
      { j with cands := j.cands.map fun c => if sameSignal c.peak p && c.flags &&& (2 + mask) == mask then f c else c }

/-- Candidates waiting for a channel take those that are IDLE now, oldest first (R135). -/
def State.serveQueue (s : State) : State :=
  s.easel.queue.foldl (fun s w =>
    match signalRow w.peak.signal with
    | none => s
    | some r =>
      if s.chooseChannel.isNone && (s.holder r.anchor w.peak.sv).isNone then s
      else
        let s := s.modEasel fun e => { e with queue := e.queue.filter fun v => v != w }
        let r := s.handOver w.peak w.antenna w.job
        r.1.markCandidate w.job w.peak 8 fun c => { c with flags := (c.flags &&& 0xF7) ||| r.2.1, channel := r.2.2 }) s

/-- A candidate is delivered, after those that have waited longer (R135). -/
def State.deliver (s : State) (p : Peak) (antenna : Nat) (job : Option Nat) : State × Nat × Nat :=
  s.serveQueue.handOver p antenna job

/-! TRK_ASSIGN (05 R190, R203). -/

/-- TRK_ASSIGN takes its channel after the candidates that wait (05 R190). A channel under a claim is taken too, and its lane starts once the
claim is released (01 R34). -/
def bodyTrkAssign : Body := fun c s =>
  let b := c.payload
  let s := s.serveQueue
  let sig := byteAt b 0
  let sv := byteAt b 1
  let ch := byteAt b 2
  let anchor := match signalRow sig with | none => 0 | some r => r.anchor
  let low := (signalRow sig).any fun r => !r.upper
  let period := match signalRow sig with | none => 1 | some r => r.len * 1024
  let conflict := (ch != 255 && ((s.chan ch).anchor.isSome || !s.clusterUp (ch / 48))) || (s.holder anchor sv).isSome ||
    (s.pwr.profile == 1 && (low || (ch != 255 && ch ≥ 48)))
  let pick := if ch = 255 then s.chooseChannel else if (s.chan ch).out then none else some ch
  checked s
    [reservedPayload b [(3, 0xFF), (12, 0xFF), (13, 0xFF), (14, 0xFF), (15, 0xFF)], outOfRange (signalRow sig).isNone 0,
     outOfRange (!svOk sig sv) 1, outOfRange (decide (ch > 191 ∧ ch ≠ 255)) 2, outOfRange (decide (getLe b 4 4 ≥ period)) 4,
     s.noTracking, (conflict, .err .stateConflict 0), (pick.isNone, .err .resourceExhausted 0)]
    (match pick with
     | none => (s, .err .resourceExhausted 0)
     | some ch =>
       let code := match signalRow sig with
         | none => 0
         | some r => codeAt r sv (getLe b 4 4) (getLeInt b 8 4) (getLe b 16 8) s.now
       (s.assign ch anchor sv sig code (getLeInt b 8 4) false, .okay (le 1 ch ++ zeros 3)))

def execTrkAssign (t : Txn) (s : State) : Res := hostCommand (opIs 0x0504) bodyTrkAssign t s

/-! Ephemeris, prior and time (04 R125, R146). -/

/-- Usable ephemeris: loaded or decoded, within its validity. -/
def State.usableEph (s : State) (sys sv : Nat) : Bool :=
  s.nav.eph.any fun e => e.signal / 16 == sys && e.sv == sv && decide (s.now < e.till)

/-- POS_UNC in mm: the prior's estimate and the speed given (0.1 m/s) since it, or the uncertainty that the host supplied. -/
def State.posUnc (s : State) (speed : Nat) : Option Nat :=
  s.nav.prior.map fun p => if p.supplied then p.unc else p.unc + ceilDiv (speed * 100 * (s.now - p.dt)) second

/-- Drift that the slow oscillator's tolerance of ±20 ppm (21 R662) allows over a span, in ns. -/
def slowDrift (span : Nat) : Nat := ceilDiv (span * 20000) second

/-- TIME_UNC in ns: the BOUND of the last DT_MAP record, or the assistance time's while none was written, and the drift. -/
def State.timeUnc (s : State) : Option Nat :=
  match s.nav.lastMap, s.nav.aid with
  | some m, _ => some (ceilDiv m.bound 1000 + slowDrift (s.now - m.ref))
  | none, some a => some (a.bound * 1000 + slowDrift (s.now - a.ref))
  | none, none => none

/-- Anchors predicted at or above 5°, highest first. -/
def insertByHeight (h : Nat × Nat → Int) (x : Nat × Nat) : List (Nat × Nat) → List (Nat × Nat)
  | [] => [x]
  | y :: r => if h y < h x then x :: y :: r else y :: insertByHeight h x r

def predicted (k : Nat) (at_ : Int × Int × Int) (l : List (Nat × Nat)) : List (Nat × Nat) :=
  let h (x : Nat × Nat) : Int := Config.predictedElevation k at_ x.1 x.2
  (l.filter fun x => decide (5 ≤ h x)).foldl (fun a x => insertByHeight h x a) []

/-- Systems of SYS_MASK as their anchors. -/
def maskAnchors (mask : Nat) : List Nat :=
  ((List.range 4).filter (bit mask)).map fun k => [0x01, 0x11, 0x21, 0x41].getD k 0

def State.ephemerisOf (s : State) (anchors : List Nat) : List (Nat × Nat) :=
  anchors.flatMap fun a =>
    ((List.range ((svRange a).2 - (svRange a).1 + 1)).map fun k => (a, (svRange a).1 + k)).filter fun x => s.usableEph (a / 16) x.2

/-! Snapshot memory (04 R141–R145). -/

/-- Half bytes per tick of a format, and its longest capture in ms. -/
def captureRate (format : Nat) : Nat := if format = 1 then 4 else if format = 2 then 1 else 2
def captureLongest (format : Nat) : Nat := if format = 1 then 410 else if format = 2 then 1640 else 820
def captureBytes (format length : Nat) : Nat := length * 81840 * captureRate format / 2
def captureUnits (format length : Nat) : Nat := ceilDiv (length * 81840 * captureRate format) 2097152

def Easel.unitFree (e : Easel) (u : Nat) : Bool :=
  e.captures.toList.all fun c => match c with
    | none => true
    | some c => decide (u < c.first ∨ c.first + c.units ≤ u)

/-- The lowest free ID and the lowest run of free units that fits. -/
def Easel.room (e : Easel) (units : Nat) : Option (Nat × Nat) :=
  match (List.range 8).find? (fun i => (vget e.captures i).isNone),
      (List.range 65).find? (fun u => decide (u + units ≤ 64) && (List.range units).all fun k => e.unitFree (u + k)) with
  | some i, some u => some (i, u)
  | _, _ => none

/-- The oldest capture that no job uses. -/
def Easel.oldestIdle (e : Easel) : Option Nat :=
  (List.range 8).foldl (fun (b : Option Nat) i => match vget e.captures i with
    | none => b
    | some c =>
      if e.inUse i then b
      else match b with
        | none => some i
        | some j => if (match vget e.captures j with | none => false | some d => decide (c.order < d.order)) then some i else b) none

/-- Room for a capture, after freeing captures where the request lets it. -/
def Easel.makeRoom : Nat → Bool → Nat → Easel → Option (Nat × Nat × Easel)
  | k, freeOldest, units, e =>
    match e.room units with
    | some r => some (r.1, r.2, e)
    | none =>
      match k, freeOldest, e.oldestIdle with
      | k + 1, true, some i => Easel.makeRoom k true units { e with captures := vset e.captures i none }
      | _, _, _ => none

/-- A request for a capture takes its directory entry and its units. -/
def State.requestCapture (s : State) (cmd : Option Nat) (antenna format band length : Nat) (freeOldest forFix : Bool) :
    Option (Nat × State) :=
  match s.easel.makeRoom 8 freeOldest (captureUnits format length) with
  | none => none
  | some (id, first, e) =>
    let c : Capture := { antenna := antenna, format := format, band := band, samples := length * 81840, dt := 0, words := (0, 0),
                         js := (0, 0), first := first, units := captureUnits format length, temp := 0, order := e.order }
    let r : CaptureReq := { cmd := cmd, id := id, antenna := antenna, format := format, band := band, length := length, forFix := forFix }
    let s := { s with easel := { e with captures := vset e.captures id (some c), order := e.order + 1, reqs := e.reqs ++ [r] } }
    some (id, if s.pwr.profile = 0 then s.powerDomains [4, 9] else s)

/-! The bytes of a capture (04 R141, R142). -/

/-- A 2-bit value of a 4-bit code: bit 1 the sign, set for a negative level, bit 0 the magnitude, set where |level| ≥ 5. -/
def twoBit (code : Nat) : Nat := 2 * b2n (decide (code < 8)) + b2n (decide (code ≤ 5 ∨ 10 ≤ code))

/-- I and Q of a lane byte (02 R42) as a nibble of two 2-bit values. -/
def twoBits (b : Byte) : Nat := 4 * twoBit (b.toNat / 16) + twoBit (b.toNat % 16)

/-- Two samples to a byte, the earlier in its upper half. -/
def pairSamples : List Byte → List Byte
  | a :: b :: r => BitVec.ofNat 8 (16 * twoBits a + twoBits b) :: pairSamples r
  | [a] => [BitVec.ofNat 8 (16 * twoBits a)]
  | [] => []

/-- A capture of `n` samples per port from the lane bytes of its upper and its lower port, a byte that is missing read as 0. -/
def captureData (format band n : Nat) (upper lower : List Byte) : List Byte :=
  let up := fit n upper
  let lo := fit n lower
  let one := if band = 0 then up else lo
  if format = 0 then List.zipWith (fun a b => BitVec.ofNat 8 (16 * twoBits a + twoBits b)) up lo
  else if format = 1 then (List.zip up lo).flatMap fun p => [p.1, p.2]
  else if format = 2 then pairSamples one
  else one

/-! Grids of searches (04 R124–R126). -/

/-- Hypotheses of grids on the upper band and on the lower band. -/
def gridTotals (gs : List Grid) : Nat × Nat :=
  gs.foldl (fun a g => if (signalRow g.signal).any (·.upper) then (a.1 + g.hyps, a.2) else (a.1, a.2 + g.hyps)) (0, 0)

/-- The grids of the derived signals of verified anchors. -/
def derivedGrids (anchors : List Peak) : List Grid :=
  anchors.flatMap fun a => (derivedOf a.signal).map (derivedGrid a)

/-- A job takes grids up (R127). In replay every hypothesis is on the replay stream, if the capture holds its band. Live, the lower band
is searched only if its port is LOCKED: a port that SKETCH powers for the search is judged once it has been trained. -/
def State.loadJob (s : State) (j : EaselJob) (gs : List Grid) : EaselJob :=
  let t := gridTotals gs
  match j.capture.bind fun id => vget s.easel.captures id with
  | some c =>
    { j with grids := gs, hypUp := if c.format ≤ 1 then t.1 + t.2 else if c.band = 0 then t.1 else t.2, hypLo := 0, lowerOpen := false }
  | none =>
    let q := s.port (2 * j.antenna + 1)
    let opens := s.pwr.profile == 0 && q.cfg.enable && q.lane != .failed && q.lane != .locked
    { j with grids := gs, hypUp := t.1, hypLo := if q.lane == .locked || opens then t.2 else 0, lowerOpen := opens && decide (t.2 > 0) }

/-- Verified anchors of a job: its candidates on anchor signals. -/
def EaselJob.anchors (j : EaselJob) : List Peak :=
  ((j.cands.filter fun c => !bit c.flags 1).map (·.peak)).filter fun p => isAnchor p.signal

/-! Sketch fixes (04 R146, R147). -/

/-- Code phase that a fix predicts for a satellite, corrected by the receiver clock bias of step B. -/
def SketchFix.predictCode (f : SketchFix) (k : Nat) (r : SignalRow) (sv : Nat) : Nat :=
  (((Config.predictedCode k f.prior r.code sv : Int) + f.bias * r.chips / 2046000) % (r.len * 1024 : Nat)).toNat

/-- The clock bias that a candidate shows, in 1/1,024 chip at 2.046 Mcps. -/
def SketchFix.clockBias (f : SketchFix) (k : Nat) (p : Peak) : Int :=
  match signalRow p.signal with
  | none => 0
  | some r => ((p.code : Int) - (Config.predictedCode k f.prior p.signal p.sv : Int)) * 2046000 / r.chips

/-- Grids of satellites searched over a window of ±W_A about their prediction, or over the full period where `full`. -/
def State.sketchGrids (s : State) (f : SketchFix) (k : Nat) (full : Bool) (l : List (Nat × Nat)) : List Grid :=
  let u := s.cal.uModel s.nav.temperature
  l.filterMap fun x => (signalRow x.1).map fun r =>
    let sp := modelSpan (carrierOf r x.2) u
    { signal := x.1, sv := x.2, code := f.predictCode k r x.2
      dt := match f.capture.bind fun id => vget s.easel.captures id with | none => s.now | some c => c.dt
      half := if full then none else some (4 * assistWindow r f.posUnc f.timeUnc)
      doppler := Config.predictedDoppler k f.prior x.1 x.2, span := dopplerSpan sp.1 sp.2 1 }

/-- The two highest satellites of the first system set, or of any. -/
def SketchFix.pair (f : SketchFix) : List (Nat × Nat) :=
  let first := (maskAnchors f.mask).headD 0
  let own := f.pred.filter fun x => x.1 == first
  if f.step ≤ 1 then own.take 2 else f.pred.take 2

/-- The replay search of one step of a fix. PFA has the default of a search, as R147 gives none (DESIGN CHOICE, log 55). -/
def State.sketchSearch (s : State) (f : SketchFix) (gs : List Grid) : State :=
  s.addJob (s.loadJob { id := 0, kind := .sketch, cmd := none, accepted := s.now, antenna := f.antenna, capture := f.capture, replay := 4,
                        tCoh := 1, nnc := f.length, dwell := dwellTicks 1 f.length 4 } gs)

/-- The searches are over: the solve step begins. -/
def State.sketchSolve (s : State) (f : SketchFix) : State :=
  (s.modEasel fun e => { e with fix := some { f with stage := .solve, searchTo := s.clk.tick } }).powerDownIdle

/-- The anchors that a fix has found, suspects left out. -/
def SketchFix.anchorPeaks (f : SketchFix) : List Peak :=
  ((f.found.filter fun c => !bit c.flags 1).map (·.peak)).filter fun p => isAnchor p.signal

/-- A search of a step begins, or the next step where it has no hypothesis. -/
def State.sketchRun (s : State) (f : SketchFix) (gs : List Grid) : State :=
  let n := (gs.map Grid.hyps).sum
  (s.modEasel fun e => { e with fix := some { f with hyps := f.hyps + n } }).sketchSearch f gs

/-- Begins step `k`: 1–3 an attempt of step A (an attempt without a satellite passes to the next), 4 step B, 5 step C, 6 the solution. -/
def State.sketchStep (s : State) (f : SketchFix) (k : Nat) : State :=
  let f := { f with step := k }
  if k ≤ 3 then
    let f := if f.pair.isEmpty then { f with step := 2 } else f
    let l := f.pair
    if l.isEmpty then s.sketchSolve f
    else
      let (d, s) := s.draw
      s.sketchRun { f with pred := f.pred.filter fun x => !l.contains x } (s.sketchGrids f d true l)
  else if k = 4 then
    let (d, s) := s.draw
    let f := match (byRho f.found).head? with | none => f | some c => { f with bias := f.clockBias d c.peak }
    let gs := s.sketchGrids f d false f.pred
    let f := { f with pred := [] }
    if gs.isEmpty then s.sketchSolve f else s.sketchRun f gs
  else if k = 5 && f.lower then
    let gs := (derivedGrids f.anchorPeaks).filter fun g => (signalRow g.signal).any fun r => !r.upper
    if gs.isEmpty then s.sketchSolve f else s.sketchRun f gs
  else s.sketchSolve f

/-- The replay searches begin. -/
def State.sketchBegin (s : State) : State :=
  match s.easel.fix with
  | none => s
  | some f => (s.powerEasel.sketchStep { f with stage := .search, searchFrom := s.clk.tick } 1).assignBanks

/-- Checks of R146: NOT_READY with DETAIL 1, 2, 3; the predicted anchors, POS_UNC, TIME_UNC and the prior otherwise. `host`: the prior
that the command gives, with its uncertainty in m. -/
def State.sketchChecks (s : State) (mask : Nat) (host : Option (Nat × Int × Int × Int)) (speed : Nat) :
    Option (List (Nat × Nat) × Nat × Nat × (Int × Int × Int)) × Nat × State :=
  let (k, s) := s.draw
  let at_ := match host with | some m => m.2 | none => s.priorAt
  let pred := predicted k at_ (s.ephemerisOf (maskAnchors mask))
  let pos := match host with | some m => some (m.1 * 1000) | none => s.posUnc speed
  if pred.length < 5 then (none, 1, s)
  else match pos with
    | none => (none, 2, s)
    | some p =>
      if p > 100000000 then (none, 2, s)
      else match s.timeUnc with
        | none => (none, 3, s)
        | some t => if t > 10000000000 then (none, 3, s) else (some (pred, p, t, at_), 0, s)

/-- Lantern timer 3 is set to the previous capture's first sample plus INTERVAL_S (R149). -/
def State.scheduleFix (s : State) : State :=
  let from_ := min s.now (s.easel.lastCapture.getD s.now)
  let n := s.easel.sketch.interval * second
  let t := from_ + ((s.now - from_) / n + 1) * n
  { s with ltimers := vmod s.ltimers 3 fun r =>
      { r with mode := 1, expired := false, tgtF := BitVec.ofNat 32 t, tgtS := BitVec.ofNat 32 (t / second), armed := some t } }

/-- New settings of scheduled fixes apply (R165). -/
def State.sketchSettings (s : State) : State :=
  s.modEasel fun e => { e with sketch := e.sketchPending.getD e.sketch, sketchPending := none }

/-- A scheduled fix starts (R149), with the settings that wait for it (R165); where its checks fail it produces nothing, and the next
one is timed. -/
def State.startScheduled (s : State) : State :=
  let s := s.sketchSettings
  let c := s.easel.sketch
  let s := s.modEasel fun e => { e with fixDue := none }
  let none_ (s : State) : State := (s.modEasel fun e => { e with restDue := true }).scheduleFix
  match s.sketchChecks c.mask none c.speed with
  | (none, _, s) => none_ s
  | (some (pred, p, t, at_), _, s) =>
    match s.requestCapture none c.antenna c.format 0 c.length false true with
    | none => none_ s
    | some (id, s) => s.modEasel fun e =>
        { e with fix := some { cmd := none, existing := false, capture := some id, keep := c.keepSnap, lower := c.lower,
                               antenna := c.antenna, format := c.format, mask := c.mask, length := c.length, pred := pred,
                               posUnc := p, timeUnc := t, prior := at_ } }

/-- Timer 3: the fix falls due; it is skipped while another one runs, and starts once the clocks run (R149). -/
def State.sketchDue (s : State) : State :=
  if s.pwr.profile ≠ 0 then s
  else if s.easel.fix.isSome then (s.modEasel fun e => { e with skipped := sat16 e.skipped }).scheduleFix
  else if s.domeService then s.startScheduled
  else s.modEasel fun e => { e with fixDue := some s.now }

/-! The twin watch (04 R150–R152). -/

/-- Channels that the watch visits: those in TRACK, but twins. -/
def State.watched (s : State) (ch : Nat) : Bool :=
  (s.chan ch).state == 4 && !(s.chan ch).twin && !(s.easel.jobs.any fun j => j.kind == .twin ch)

/-- The next satellite: one with an unconfirmed suspect first, else round-robin. -/
def State.nextVisit (s : State) : Option Nat :=
  match s.easel.watch.twins.find? fun t => !t.confirmed && s.watched t.channel with
  | some t => some t.channel
  | none => ((List.range 192).map fun k => (s.easel.watch.next + k) % 192).find? s.watched

/-- The watch has work at this tick. -/
def State.watchWork (s : State) : Bool :=
  s.watchRuns && ((s.easel.jobs.any fun j => j.isTwin && j.left) || s.nextVisit.isSome)

/-- New settings apply from the next visit (R161). -/
def State.watchSettings (s : State) : State := s.modWatch fun w => { w with cfg := w.pending.getD w.cfg, pending := none }

/-- The job of the next visit (R150), under the settings in force at its start (R161). A visit to a suspect stands outside the
round, whose length is taken when it wraps (R151, R152). -/
def State.visit (s : State) : State :=
  match s.nextVisit with
  | none => s
  | some ch =>
    let c := s.chan ch
    let s := s.watchSettings
    if !s.watchRuns then s else
    let again := s.easel.watch.twins.any fun t => t.channel == ch && !t.confirmed
    let wraps := decide (ch < s.easel.watch.next)
    let s := if again then s else s.modWatch fun w =>
      { w with next := ch + 1
               revisit := match w.cycle with | some t => if wraps then s.clk.tick - t else w.revisit | none => w.revisit
               cycle := if wraps || w.cycle.isNone then some s.clk.tick else w.cycle }
    match c.anchor.bind signalRow with
    | none => s
    | some r =>
      let l := c.lane (!r.upper)
      let g : Grid := { signal := r.code, sv := c.sv, code := l.codeNow c.sv s.now * r.chips / (signalRow l.signal).elim r.chips (·.chips) % (r.len * 1024)
                        dt := s.now, doppler := rnd (l.doppler * carrierOf r c.sv) ((signalRow l.signal).elim (carrierOf r c.sv) (carrierOf · c.sv))
                        span := dopplerSpan (s.easel.watch.cfg.span * 100) 1 1 }
      s.addJob (EaselJob.load { id := 0, kind := .twin ch, cmd := none, accepted := s.now, antenna := s.trk.primary, limit := 8, tCoh := 1,
                                nnc := 10, pfaExp := 6, dwell := dwellTicks 1 10 0, rules := s.easel.watch.cfg } g)

/-- Banks that no foreground job wants go to the watch; each pass serves one satellite. -/
def State.fillWatch (s : State) : State :=
  let s := if s.easel.jobs.any (·.isTwin) then s else s.watchSettings
  forUpto 8 (fun _ s =>
    if s.easel.bankFree && s.watchRuns && s.nextJob.isNone && s.cal.run.all (·.released) then s.visit.assignBanks else s) s

/-- At a boundary foreground work takes the banks that it needs of those that the watch holds (01 R32), but one under its claim; the
lowest-numbered ones first (DESIGN CHOICE, log 55). The passes that give way keep their partial results. -/
def State.yieldWatch (s : State) : State :=
  if s.easel.watch.claimed.isSome then s
  else forUpto 8 (fun b s =>
    match (vget s.easel.banks b).job.bind s.easel.job with
    | some j =>
      if j.isTwin && !s.easel.bankFree && (s.easel.jobs.any fun i => !i.isTwin && s.canPass i) then (s.suspendPass b).assignBanks else s
    | none => s) s

/-- A twin whose channel left TRACK, or whose tracked peak is no longer held, is lost. -/
def State.followTwins (s : State) : State :=
  let gone (t : Twin) : Bool :=
    (s.chan t.channel).anchor.isNone || (t.own < 192 && ((s.chan t.own).anchor.isNone || ((s.chan t.own).tracked && (s.chan t.own).state ≠ 4)))
  let lost := s.easel.watch.twins.filter gone
  let s := s.modWatch fun w => { w with twins := w.twins.filter fun t => !gone t }
  lost.foldl (fun s t => if t.confirmed then s.twinEvent 0x66 t else s) s

/-- At a boundary: a deferral where the watch has work and no bank; its overdue claim is one bank for one epoch (R152). -/
def State.watchBoundary (s : State) : State :=
  let s := s.modWatch fun w => { w with claimed := none }
  let s := if s.easel.jobs.any (·.isTwin) then s else s.watchSettings
  let calHolds := s.cal.run.any fun r => !r.released
  if !s.watchWork then s
  else
    let held := s.easel.banks.toList.any fun b => (b.job.bind s.easel.job).any (·.isTwin)
    if held || s.easel.bankFree then (s.modWatch fun w => { w with def_ := w.def_.obtain }).fillWatch
    else if s.easel.watch.def_.overdue && !calHolds then
      let s := s.modWatch fun w => { w with def_ := w.def_.obtain, claimed := some s.trk.epochs.no }
      let s := s.discardPass 7
      let s := if s.easel.jobs.any (fun j => j.isTwin && j.left) then s else s.visit
      match s.easel.jobs.find? fun j => j.isTwin && j.left with
      | none => s
      | some j => s.startPass 7 j
    else s.modWatch fun w => { w with def_ := w.def_.defer }

end Sys2Proof.Machine
end

