-- ==== Sys2Proof/Machine/AcqRows.lean ====
section
/-! DEFINITION. Rows of acquisition: bank passes, captures, the handover queue and the ACQ group (04 R118–R165). -/

namespace Sys2Proof.Machine

/-! Searches (04 R127, R156). -/

/-- A pass of the job is still to come or in progress. -/
def Easel.working (e : Easel) (j : EaselJob) : Bool := j.left || decide (e.held j.id > 0)

def EaselJob.reply (j : EaselJob) : List Byte :=
  let cs := (byRho j.cands).take 64
  le 4 j.done ++ le 4 j.passes ++ le 1 cs.length ++ le 1 (j.cands.filter fun c => bit c.flags 1).length ++ zeros 2 ++
    cs.flatMap Candidate.bytes

/-- A stage ends: stage 2 searches the derived signals of every verified anchor, or the search completes. -/
def State.searchAdvance (s : State) (id : Nat) : State :=
  match s.easel.job id with
  | none => s
  | some j =>
    if s.easel.working j then s
    else
      let k := s.loadJob { j with stage := 2 } (if j.stage = 1 && j.derived then derivedGrids j.anchors else [])
      if k.left then s.modEasel fun e => e.modJob id fun _ => k
      else ((s.dropJob id).finalOption j.cmd .ok 0 j.reply).powerDownIdle

/-- The lower port of a search in SKETCH has been trained: its hypotheses are searched, or left out without error (R127). -/
def State.judgeLower (s : State) : State :=
  (s.easel.jobs.filter (·.lowerOpen)).foldl (fun s j =>
    let lane := (s.port (2 * j.antenna + 1)).lane
    if lane == .locked then (s.modEasel fun e => e.modJob j.id fun j => { j with lowerOpen := false }).assignBanks
    else if lane == .failed then
      (s.modEasel fun e => e.modJob j.id fun j => { j with lowerOpen := false, hypLo := 0 }).searchAdvance j.id
    else s) s

/-- A new entry of a search's list acts: a candidate is handed over, a twin suspect reported, unless it is what its channel
already tracks. -/
def State.searchEntry (s : State) (id : Nat) (c : Candidate) : State :=
  match s.easel.job id with
  | none => s
  | some j =>
    let p := c.peak
    if bit c.flags 1 then
      let best := (j.cands.filter fun d => sameSignal d.peak p && !bit d.flags 1).head?
      let anchor := match signalRow p.signal with | none => p.signal | some r => r.anchor
      match s.holder anchor p.sv with
      | some ch => if s.predicts ch p then s else s.suspect ch p (match best with | none => p.sum | some d => d.peak.sum) 1
      | none => s.suspect 255 p (match best with | none => p.sum | some d => d.peak.sum) 1
    else if j.handover then
      let r := s.deliver p j.antenna (some id)
      r.1.markCandidate (some id) p 0 fun c => { c with flags := c.flags ||| r.2.1, channel := r.2.2 }
    else s

/-- The peaks of a pass by descending ρ (05 R190). -/
def peaksByRho (ps : List Peak) : List Peak := (byRho (ps.map fun p => { peak := p })).map (·.peak)

/-- The peaks of a search's pass enter its list; the entries that are new act, by descending ρ (R131, R133). -/
def State.searchPass (s : State) (id : Nat) (peaks : List Peak) : State :=
  match s.easel.job id with
  | none => s
  | some j =>
    let cs := (peaksByRho peaks).foldl (fun cs p => mergePeak cs p (if isAnchor p.signal then 0 else 4)) j.cands
    let new := cs.filter fun c => !j.cands.any fun d => d.peak == c.peak && bit d.flags 1 == bit c.flags 1
    let s := s.modEasel fun e => e.modJob id fun j => { j with cands := cs }
    (byRho new).foldl (fun s c => s.searchEntry id c) s

/-! Twin visits (04 R150, R151). -/

/-- The twin is confirmed: it is counted, reported, and delivered to a channel of its own where TWIN_TRACK is set. -/
def State.confirmTwin (s : State) (rules : WatchConfig) (t : Twin) (p : Peak) (tracked : Nat) : State :=
  let s := s.modWatch fun w => { w with confirmed := sat16 w.confirmed }
  let (own, s) := if rules.track then
      match s.chooseChannel with
      | none => (255, s)
      | some ch =>
        let q := propagate p s.now
        (ch, s.assign ch t.signal t.sv t.signal q.code q.doppler true)
    else (255, s)
  let t : Twin := { t with confirmed := true, peak := p, relative := dbRound (max 1 p.sum) (max 1 tracked) 16 2048, own := own
                           misses := 0, resolution := 0, method := 0 }
  (s.modWatch fun w => { w with twins := w.twins.map fun u => if u.channel = t.channel then t else u }).twinEvent 0x65 t

def State.setTwin (s : State) (ch : Nat) (f : Twin → Twin) : State :=
  s.modWatch fun w => { w with twins := w.twins.map fun u => if u.channel = ch then f u else u }

/-- The strongest of peaks. -/
def strongestPeak (ps : List Peak) : Option Peak :=
  ps.foldl (fun (b : Option Peak) p => match b with
    | none => some p
    | some q => if q.sum < p.sum then some p else some q) none

/-- What a finished visit shows, under the settings of its start: the tracked peak's sum and the peaks outside its region. A suspect is a
peak within TWIN_MARGIN dB of the tracked one; it is confirmed when found again within ±1 chip and ±1 bin of its prediction. -/
def State.judgeVisit (s : State) (rules : WatchConfig) (ch tracked : Nat) (found : List Peak) : State :=
  let near := found.filter fun p => !dbAbove (max 1 tracked) (max 1 p.sum) rules.margin 1
  match s.easel.watch.twins.find? fun t => t.channel == ch with
  | none => match strongestPeak near with
    | none => s
    | some p => s.suspect ch p tracked 0
  | some t =>
    let again := strongestPeak (near.filter fun p => closeTo t.peak p 1024)
    if !t.confirmed then
      match again with
      | some p => s.confirmTwin rules t p tracked
      | none =>
        let s := s.modWatch fun w => { w with twins := w.twins.filter fun u => u.channel != ch }
        match strongestPeak near with
        | none => s
        | some p => s.suspect ch p tracked 0
    else if t.own < 192 then s
    else match again with
      | some p => s.setTwin ch fun u => { u with peak := p, misses := 0 }
      | none =>
        if t.misses + 1 < 2 then s.setTwin ch fun u => { u with misses := u.misses + 1 }
        else (s.modWatch fun w => { w with twins := w.twins.filter fun u => u.channel != ch }).twinEvent 0x66 t

/-! Bank passes. -/

/-- The next search of a channel in REACQ, from fresh propagation (R137). -/
def State.reacqAgain (s : State) (j : EaselJob) (ch : Nat) : State :=
  let c := s.chan ch
  let l := c.lane c.leadLower
  match signalRow l.signal with
  | none => (s.dropJob j.id).powerDownIdle
  | some r =>
    let g := reacqGrid r c.sv (l.codeNow c.sv s.now) l.doppler s.now (s.now - c.lostFrom.getD s.now) (s.cal.uModel s.nav.temperature)
    s.modEasel fun e => e.modJob j.id fun j => j.load g

/-- The peaks of a pass act by what the job serves; `tracked` is the sum of the tracked peak in a visit of the watch (R150). -/
def State.passPeaks (s : State) (j : EaselJob) (peaks : List Peak) (tracked : Nat) : State :=
  match j.kind with
  | .search => (s.searchPass j.id peaks).searchAdvance j.id
  | .reacq ch =>
    match (peaksByRho peaks).head? with
    | some p => ((s.dropJob j.id).giveTo ch (propagate p s.now)).powerDownIdle
    | none => if s.easel.working j then s else s.reacqAgain j ch
  | .sketch =>
    match s.easel.fix with
    | none => s.dropJob j.id
    | some f =>
      let f := { f with found := peaks.foldl (fun cs p => mergePeak cs p (if isAnchor p.signal then 0 else 4)) f.found }
      let s := s.modEasel fun e => { e with fix := some f }
      if s.easel.working j then s
      else
        let s := s.dropJob j.id
        if f.step < 3 && f.found.isEmpty then s.sketchStep f (f.step + 1)
        else if f.step ≤ 3 then (if f.found.isEmpty then s.sketchSolve f else s.sketchStep f 4)
        else s.sketchStep f (f.step + 1)
  | .twin ch =>
    let cs := j.cands ++ peaks.map fun p => { peak := p }
    let best := max j.stage tracked
    let s := s.modEasel fun e => e.modJob j.id fun j => { j with cands := cs, stage := best }
    if s.easel.working j then s
    else (s.dropJob j.id).judgeVisit j.rules ch best (cs.map (·.peak))

/-- The banks that are free once bank `b` has ended its pass of job `j`: in replay the banks of a round end together, so they stay with the job
until its last one has ended (R120). -/
def Easel.endPass (e : Easel) (b : Nat) (j : EaselJob) : Easel :=
  let waits := j.replay != 0 && (List.range 8).any fun k => k != b && (vget e.banks k).job == some j.id && !(vget e.banks k).roundOver
  if waits then { e with banks := vmod e.banks b fun k => { k with roundOver := true } }
  else { e with banks := (vset e.banks b {}).map fun k => if k.roundOver && k.job == some j.id then {} else k }

/-- BANK_PASS_END: `cells` are what the bank's hypotheses have summed (R119); the peaks above the threshold of R130 act. -/
def execBankPassEnd (b : Fin 8) (cells : List Cell) (s : State) : Res :=
  let k := vget s.easel.banks b.val
  match k.job.bind s.easel.job with
  | none => .next s
  | some j =>
    if !s.domeService || k.waits || k.roundOver || decide (s.clk.tick < k.start + loadTicks + j.dwell) then .next s
    else
      let s := s.modEasel fun e => (e.endPass b.val j).modJob j.id fun j => { j with done := j.done + k.hyps, passes := j.passes + 1 }
      match s.easel.job j.id with
      | none => .next s
      | some j => .next (s.passPeaks j (j.peaks k.lower k.dt cells) (j.trackedSum k.lower k.dt cells)).assignBanks.fillWatch

/-- HANDOVER_QUEUE_TIMEOUT (R135). -/
def execHandoverQueueTimeout (s : State) : Res :=
  if !s.domeService then .next s else
  let old := s.easel.queue.filter fun w => decide (s.now ≥ w.since + second)
  let s := s.modEasel fun e => { e with queue := e.queue.filter fun w => !decide (s.now ≥ w.since + second) }
  .next (old.foldl (fun s w => s.dropCandidate.markCandidate w.job w.peak 8 fun c => { c with flags := (c.flags &&& 0xF7) ||| 16 }) s)

/-! Captures (04 R141–R145). -/

/-- A port lets a capture start (R144). -/
def Port.captureReady (q : Port) : Bool :=
  q.lane == .locked && (if q.cfg.mode = 0 then q.settled || decide (q.windows ≥ 8) else decide (q.windows ≥ 1))

/-- CAPTURE_START: `temp` the die temperature, which may make a calibration run ready (10 R359). -/
def execCaptureStart (temp : Int) (s : State) : Res :=
  match s.easel.reqs with
  | [] => .next s
  | r :: rest =>
    if !s.domeService || s.easel.capturing.isSome || !s.poweredOn 4 || (s.cal.run.any fun c => !c.released) ||
        !r.ports.all (fun p => (s.port p).captureReady) then .next s
    else
      let u := s.port (2 * r.antenna)
      let l := s.port (2 * r.antenna + 1)
      let on (p v : Nat) : Nat := if r.ports.contains p then v else 0
      let s := s.modEasel fun e =>
        { e with reqs := rest, capturing := some { req := r, start := s.clk.tick }
                 lastCapture := if r.forFix then some s.now else e.lastCapture
                 captures := vset e.captures r.id ((vget e.captures r.id).map fun c =>
                   { c with dt := s.now, temp := temp, words := (on (2 * r.antenna) u.word, on (2 * r.antenna + 1) l.word)
                            js := (on (2 * r.antenna) u.j, on (2 * r.antenna + 1) l.j) }) }
      let s := if r.forFix && r.cmd.isNone && s.pwr.profile == 0 then s.scheduleFix else s
      .next (s.refreeze.tempTrigger temp)

/-- CAPTURE_END: the bytes of `lanes`, laid out as R141 and R142 state, are the capture's. In SKETCH a ready
calibration run follows at once, under the same freeze, before the replay searches (R140); an overdue one in any case, another unless
foreground work wants the Easel (01 R38). -/
def execCaptureEnd (lanes : CaptureIn) (s : State) : Res :=
  match s.easel.capturing with
  | none => .next s
  | some c =>
    let r := c.req
    if !s.domeService || decide (s.clk.tick < c.start + r.length * 81840) then .next s
    else
      let s := s.modEasel fun e =>
        { e with capturing := none
                 captures := vset e.captures r.id ((vget e.captures r.id).map fun c =>
                   { c with writing := false, data := captureData r.format r.band (r.length * 81840) lanes.upper lanes.lower }) }
      if r.forFix then
        let run := s.pwr.profile = 0 && s.calAttempts && (s.cal.def_.overdue || !s.foregroundWants)
        let s := (if run then s.calStart s.cal.def_.overdue
          else if s.pwr.profile = 0 && s.calAttempts then s.modCal fun c => { c with def_ := c.def_.defer } else s).refreeze
        if s.cal.run.isSome then .next s else .next s.sketchBegin.powerDownIdle
      else
        let dt := match vget s.easel.captures r.id with | none => 0 | some k => k.dt
        .next ((s.refreeze.finalOption r.cmd .ok 0
          (le 1 r.id ++ le 1 r.format ++ zeros 2 ++ le 8 dt ++ le 4 (r.length * 81840))).powerDownIdle)

/-! ACQ-group commands (04 R155–R165). -/

/-- The Doppler half-span of a search over a satellite without an entry, as bins on each side (R125). -/
def modeSpan (mode tCoh uOsc uModel : Nat) (r : SignalRow) (sv : Nat) : Nat :=
  let f := carrierOf r sv
  let d := if mode = 0 then coldSpan f uOsc else if mode = 1 then warmSpan f uOsc else modelSpan f uModel
  dopplerSpan d.1 d.2 tCoh

/-- The grid of a satellite that a mode chooses itself (R125): COLD about Doppler 0, the others about the predicted Doppler, ASSISTED about
the predicted code phase. -/
def State.modeGrid (s : State) (k mode tCoh uOsc : Nat) (pos time : Nat) (r : SignalRow) (sv : Nat) : Grid :=
  { signal := r.code, sv := sv, dt := s.now
    code := if mode = 2 then Config.predictedCode k s.priorAt r.code sv % (r.len * 1024) else 0
    half := if mode = 2 then some (4 * assistWindow r pos time) else none
    doppler := if mode = 0 then 0 else Config.predictedDoppler k s.priorAt r.code sv
    span := modeSpan mode tCoh uOsc (s.cal.uModel s.nav.temperature) r sv }

/-- The grid of a listed entry (R125, R156): CODE_CENTRE refers to DT_REF. -/
def entryGrid (tCoh dtRef : Nat) (e : List Byte) (r : SignalRow) : Grid :=
  { signal := r.code, sv := byteAt e 1, code := getLe e 4 4, dt := dtRef
    half := if getLe e 8 2 = 0 then none else some (getLe e 8 2)
    doppler := getLeInt e 12 4, span := dopplerSpan (getLe e 10 2) 1 tCoh }

/-- The grids of a search: listed entries, the search list, or the satellites predicted at or above 5°, which takes a position and the
time. -/
def State.searchGrids (s : State) (k mode tCoh uOsc dtRef : Nat) (es : List (List Byte)) : List Grid :=
  let listed (r : SignalRow) (sv : Nat) : Bool := es.isEmpty || es.any fun e => byteAt e 0 == r.code && byteAt e 1 == sv
  let pos := s.posUnc 0
  let time := s.timeUnc
  let own (x : SignalRow × Nat) : Grid := s.modeGrid k mode tCoh uOsc (pos.getD 0) (time.getD 0) x.1 x.2
  if mode = 0 then (searchList.filter fun x => listed x.1 x.2).map own
  else if mode = 1 then
    if pos.isNone || time.isNone then []
    else (searchList.filter fun x => listed x.1 x.2 && decide (5 ≤ Config.predictedElevation k s.priorAt x.1.code x.2)).map own
  else if es.isEmpty then
    ((predicted k s.priorAt (s.ephemerisOf ((signalTable.map (·.code)).filter isAnchor))).filterMap fun x =>
      (signalRow x.1).map fun r => own (r, x.2))
  else es.filterMap fun e => (signalRow (byteAt e 0)).map (entryGrid tCoh dtRef e)

def parseEntries : Nat → List Byte → List (List Byte)
  | 0, _ => []
  | k + 1, b => b.take 16 :: parseEntries k (b.drop 16)

def bodyAcqSearch : Body := fun q s =>
  let b := q.payload
  let n := byteAt b 11
  let mode := byteAt b 0
  let es := parseEntries n (b.drop 24)
  let replay := bit (byteAt b 1) 2
  let ant := byteAt b 1 % 4
  let id := byteAt b 2
  let t := byteAt b 4
  let dwellMs := if mode = 2 then 20 else 8
  let nnc := if byteAt b 5 = 0 then ceilDiv dwellMs t else byteAt b 5
  let cap := if id < 8 then vget s.easel.captures id else none
  let capMs := match cap with | none => 0 | some c => c.samples / 81840
  let entryBad (e : List Byte) : Bool :=
    !svOk (byteAt e 0) (byteAt e 1) ||
      (if mode ≤ 1 then !isAnchor (byteAt e 0) || (e.drop 2).any (· != 0)
       else match signalRow (byteAt e 0) with
         | none => true
         | some r => decide (getLe e 4 4 ≥ r.len * 1024) || getLe e 10 2 == 0)
  let entryReserved := if mode ≤ 1 then [] else (List.range n).flatMap fun k => [(26 + 16 * k, 0xFF), (27 + 16 * k, 0xFF)]
  let pos := s.posUnc 0
  let time := s.timeUnc
  let portUp := s.pwr.profile == 0 || (s.port (2 * ant)).lane != .off || (s.port (2 * ant + 1)).lane != .off
  checked s
    ([(decide (n > 64), .err .lengthExceeds 27), (b.length != 24 + 16 * n, .err .lengthInvalid (24 + 16 * n)),
      reservedPayload b ([(1, 0xF8), (3, 0xFC), (12, 0xFF), (13, 0xFF), (14, 0xFF), (15, 0xFF)] ++ entryReserved),
      outOfRange (decide (mode > 2)) 0, outOfRange (if replay then cap.isNone else id != 0) 2,
      outOfRange (!([1, 2, 4, 5, 10, 20].contains t)) 4,
      outOfRange (decide (t * nnc > (if replay then capMs else 1000))) 5, outOfRange (decide (byteAt b 6 > 8)) 6,
      outOfRange (decide (byteAt b 7 < 2 ∨ byteAt b 7 > 9)) 7, outOfRange (decide (getLe b 8 2 < 1 ∨ getLe b 8 2 > 1000)) 8,
      outOfRange (if replay then !([1, 2, 4].contains (byteAt b 10)) else byteAt b 10 != 0) 10] ++
     ((List.range n).map fun k => outOfRange (entryBad (es.getD k [])) (24 + 16 * k)) ++
     [(replay && cap.any (·.writing), .err .stateConflict 0),
      (!replay && s.pwr.profile == 0 && ant != s.easel.sketch.antenna, .err .stateConflict 0),
      (!replay && !portUp, .err .stateConflict 0),
      (decide (mode = 2) && n == 0 && (pos.isNone || time.isNone), .err .notReady 0)])
    (let (k, s) := s.draw
     let j : EaselJob :=
       { id := 0, kind := .search, cmd := some q.id, ring := q.ring, accepted := s.now, antenna := ant,
         capture := if replay then some id else none, replay := byteAt b 10, handover := bit (byteAt b 3) 0,
         derived := bit (byteAt b 3) 1, tCoh := t, nnc := nnc, limit := if byteAt b 6 = 0 then 8 else byteAt b 6,
         pfaExp := byteAt b 7, dwell := dwellTicks t nnc (byteAt b 10) }
     let j := s.loadJob j (s.searchGrids k mode t (getLe b 8 2) (getLe b 16 8) es)
     if !j.left then (s, .both .ok 0 j.reply)
     else
       let s := s.addJob j
       let s := if s.pwr.profile = 2 then s else s.powerDomains (if s.pwr.profile = 0 && !replay then [3, 9] else [3])
       (s.assignBanks, .running))

/-- ACQ_ABORT (R157): the job's banks are released at once; the abort replies OK. -/
def bodyAcqAbort : Body := fun q s =>
  let b := q.payload
  let job := s.interp.inflight.find? fun f => f.tag == byteAt b 0 && [0x0400, 0x0402, 0x0403].contains f.opcode
  checked s [reservedPayload b [(1, 0xFF), (2, 0xFF), (3, 0xFF)], outOfRange job.isNone 0]
    (match job with
     | none => (s, .err .paramRange 16)
     | some f =>
       let mine (c : Option Nat) : Bool := c == some f.id
       if s.easel.fix.any fun x => mine x.cmd then
         let s := if s.easel.capturing.any fun c => c.req.forFix then
             (s.modEasel fun e => { e with capturing := none }).refreeze else s
         ((s.endFix .aborted 2 []).powerDownIdle, .okay [])
       else
         let s := (s.easel.jobs.filter fun j => mine j.cmd).foldl (fun s j => s.dropJob j.id) s
         let gone := s.easel.reqs.filter fun r => mine r.cmd
         let s := gone.foldl (fun s r => s.freeCapture r.id) s
         let s := s.modEasel fun e =>
           { e with reqs := e.reqs.filter fun r => !mine r.cmd, waitingFixes := e.waitingFixes.filter fun x => !mine x.cmd }
         let s := match s.easel.capturing with
           | none => s
           | some c => if mine c.req.cmd then
               ((s.freeCapture c.req.id).modEasel fun e => { e with capturing := none }).refreeze else s
         ((s.finalReply f.id .aborted 2 []).powerDownIdle, .okay []))

/-- ACQ_CAPTURE and ACQ_SKETCH_FIX are not served in SENTINEL and EARLY (R155). -/
def State.noCapture (s : State) : Bool × Ans := (s.pwr.profile == 1 || s.pwr.profile == 3, .err .stateConflict 0)

def bodyAcqCapture : Body := fun q s =>
  let b := q.payload
  let f := byteAt b 1
  let band := byteAt b 2
  let len := getLe b 4 2
  checked s
    [reservedPayload b [(0, 0xFC), (3, 0xFE), (6, 0xFF), (7, 0xFF)], outOfRange (decide (f > 3)) 1,
     outOfRange (decide (band > 1) || (decide (f ≤ 1) && band != 0)) 2,
     outOfRange (decide (len < 1 ∨ len > captureLongest f)) 4, s.noCapture]
    (match s.requestCapture (some q.id) (byteAt b 0) f band len (bit (byteAt b 3) 0) false with
     | none => (s, .err .resourceExhausted 0)
     | some (_, s) => (s, .running))

/-- A fix starts: its capture is requested, or an existing one searched; none where no room is left. -/
def State.beginFix (s : State) (f : SketchFix) : Option State :=
  if f.existing then some (s.modEasel fun e => { e with fix := some f }).sketchBegin
  else match s.requestCapture f.cmd f.antenna f.format 0 f.length false true with
    | none => none
    | some (id, s) => some (s.modEasel fun e => { e with fix := some { f with capture := some id } })

/-- The next fix waiting starts once none is in progress. -/
def State.nextFix (s : State) : State :=
  match s.easel.fix, s.easel.waitingFixes with
  | none, f :: r =>
    let s := s.modEasel fun e => { e with waitingFixes := r }
    match s.beginFix f with
    | some s => s
    | none => s.finalOption f.cmd .resourceExhausted 0 []
  | _, _ => s

def bodyAcqSketchFix : Body := fun q s =>
  let b := q.payload
  let src := byteAt b 0
  let id := byteAt b 1
  let host := bit (byteAt b 2) 1
  let cap := if id < 8 then vget s.easel.captures id else none
  let len := getLe b 6 2
  let existing := decide (src = 1)
  checked s
    [reservedPayload b ([(2, 0xF8), (5, 0xF0)] ++ (List.range 8).map fun k => (24 + k, 0xFF)), outOfRange (decide (src > 1)) 0,
     outOfRange (if existing then cap.all (fun c => decide (c.format > 1)) else id != 0) 1, outOfRange (decide (byteAt b 3 > 3)) 3,
     outOfRange (decide (byteAt b 4 > 1)) 4, outOfRange (byteAt b 5 == 0) 5, outOfRange (decide (len < 2 ∨ len > 100)) 6,
     outOfRange (host && decide (getLe b 20 4 < 1 ∨ getLe b 20 4 > 100000)) 20, s.noCapture,
     (existing && cap.any (·.writing), .err .stateConflict 0)]
    (match s.sketchChecks (byteAt b 5)
         (if host then some (getLe b 20 4, getLeInt b 8 4, getLeInt b 12 4, getLeInt b 16 4) else none) s.easel.sketch.speed with
     | (none, d, s) => (s, .err .notReady d)
     | (some (pred, p, t, at_), _, s) =>
       let c := cap.getD default
       let f : SketchFix :=
         { cmd := some q.id, existing := existing, capture := if existing then some id else none, keep := bit (byteAt b 2) 0,
           lower := bit (byteAt b 2) 2, antenna := if existing then c.antenna else byteAt b 3,
           format := if existing then c.format else byteAt b 4, mask := byteAt b 5,
           length := if existing then c.samples / 81840 else len, pred := pred, posUnc := p, timeUnc := t
           prior := at_ }
       if s.easel.fix.isSome then (s.modEasel fun e => { e with waitingFixes := e.waitingFixes ++ [f] }, .running)
       else match s.beginFix f with
         | none => (s, .err .resourceExhausted 0)
         | some s => (s, .running))

/-- Banks of the foreground, and of the background: the watch and a calibration run. -/
def State.bankMask (s : State) (background : Bool) : Nat :=
  maskOf 8 fun b =>
    let k := vget s.easel.banks b
    k.cal && background || (k.job.bind s.easel.job).any fun j => j.isTwin == background

def Easel.freeUnits (e : Easel) : Nat := ((List.range 64).filter e.unitFree).length
def Easel.valid (e : Easel) (i : Nat) : Bool := match vget e.captures i with | none => false | some c => !c.writing

def bodyAcqGetStatus : Body := query fun s =>
  let e := s.easel
  let jobs := (e.jobs.filter fun j => j.cmd.isSome).length + (e.reqs.filter fun r => r.cmd.isSome && !r.forFix).length +
    (if e.capturing.any (fun c => c.req.cmd.isSome && !c.req.forFix) then 1 else 0) +
    (if e.fix.any (fun f => f.cmd.isSome) then 1 else 0) + e.waitingFixes.length
  le 1 (s.bankMask false) ++ le 1 (s.bankMask true) ++ le 1 (min 255 jobs) ++
    le 1 (e.jobs.filter fun j => j.isReacq && e.held j.id == 0).length ++ le 2 e.dropped ++ le 2 e.watch.def_.total ++
    le 2 (min 65535 (e.watch.revisit / 81840)) ++ le 2 e.watch.confirmed ++ le 2 e.skipped ++ le 1 e.freeUnits ++
    le 1 ((List.range 8).filter e.valid).length ++ le 4 e.fixes

def WatchConfig.bytes (c : WatchConfig) : List Byte := le 1 (b2n c.en + 2 * b2n c.track) ++ le 1 c.margin ++ le 1 c.span ++ zeros 1

def bodyAcqSetWatch : Body := fun q s =>
  let b := q.payload
  let o := s.easel.watch.pending.getD s.easel.watch.cfg
  let n : WatchConfig := { en := bit (byteAt b 0) 0, track := bit (byteAt b 0) 1, margin := byteAt b 1, span := byteAt b 2 }
  let fields : List ParamField :=
    [⟨0x0030, 255, b2n o.en, b2n n.en⟩, ⟨0x0031, 255, o.margin, n.margin⟩, ⟨0x0032, 255, o.span, n.span⟩]
  checked s
    ([reservedPayload b [(0, 0xFC), (3, 0xFF)], outOfRange (decide (n.margin < 3 ∨ n.margin > 20)) 1,
      outOfRange (decide (n.span < 5 ∨ n.span > 40)) 2] ++ sealedChecks s fields)
    (let s := (s.enterChanges fields).modWatch fun w => { w with pending := some n }
     (if s.easel.jobs.any (·.isTwin) then s else s.watchSettings, .okay []))

def bodyAcqGetWatch : Body := query fun s => s.easel.watch.cfg.bytes

def State.captureEntry (s : State) (i : Nat) : List Byte :=
  match vget s.easel.captures i with
  | none => le 1 i ++ zeros 23
  | some c =>
    le 1 i ++ le 1 (bitsOf [(!c.writing, 0), (s.easel.inUse i, 1), (decide (c.band = 1), 2)]) ++ le 1 c.antenna ++ le 1 c.format ++
      le 4 c.samples ++ le 8 c.dt ++ le 1 c.words.1 ++ le 1 c.words.2 ++ le 1 c.js.1 ++ le 1 c.js.2 ++ le 1 c.first ++
      le 1 c.units ++ leInt 2 c.temp

def bodyAcqListCaptures : Body := query fun s =>
  le 1 ((List.range 8).filter s.easel.valid).length ++ zeros 3 ++ (List.range 8).flatMap s.captureEntry

def bodyAcqReadCapture : Body := fun q s =>
  let b := q.payload
  let cap := if byteAt b 0 < 8 then vget s.easel.captures (byteAt b 0) else none
  let off := getLe b 4 4
  let n := getLe b 8 2
  checked s
    [reservedPayload b [(1, 0xFF), (2, 0xFF), (3, 0xFF), (10, 0xFF), (11, 0xFF)], (decide (n > 4000), .err .lengthExceeds 24),
     outOfRange cap.isNone 0, outOfRange (n == 0) 8,
     outOfRange (cap.any fun c => decide (off + n > captureBytes c.format (c.samples / 81840))) 4,
     (cap.any (·.writing), .err .stateConflict 0)]
    (s, .okay (le 4 off ++ match cap with
      | none => []
      | some c => fit n (c.data.drop off)))

def bodyAcqFreeCapture : Body := fun q s =>
  let b := q.payload
  let i := byteAt b 0
  checked s
    [reservedPayload b [(1, 0xFF), (2, 0xFF), (3, 0xFF)],
     outOfRange (i != 255 && (decide (i > 7) || (vget s.easel.captures i).isNone)) 0,
     (i != 255 && s.easel.inUse i, .err .stateConflict 0)]
    (let s := if i = 255 then forUpto 8 (fun k s => if s.easel.inUse k then s else s.freeCapture k) s else s.freeCapture i
     (s.powerDownIdle, .okay []))

def SketchConfig.bytes (c : SketchConfig) : List Byte :=
  le 4 c.interval ++ le 2 c.length ++ le 1 c.antenna ++ le 1 c.format ++ le 1 c.rest ++ le 1 (b2n c.keepSnap + 2 * b2n c.lower) ++
    le 2 c.speed ++ le 1 c.mask ++ zeros 3

/-- ACQ_SET_SKETCH (R165): the settings apply from the next scheduled fix, which INTERVAL_S times (DEDUCED, log 36). -/
def bodyAcqSetSketch : Body := fun q s =>
  let b := q.payload
  let c : SketchConfig :=
    { interval := getLe b 0 4, length := getLe b 4 2, antenna := byteAt b 6, format := byteAt b 7, rest := byteAt b 8
      keepSnap := bit (byteAt b 9) 0, lower := bit (byteAt b 9) 1, speed := getLe b 10 2, mask := byteAt b 12 }
  checked s
    [reservedPayload b [(9, 0xFC), (12, 0xF0), (13, 0xFF), (14, 0xFF), (15, 0xFF)],
     outOfRange (decide (c.interval < 1 ∨ c.interval > 86400)) 0, outOfRange (decide (c.length < 2 ∨ c.length > 100)) 4,
     outOfRange (decide (c.antenna > 3)) 6, outOfRange (decide (c.format > 1)) 7, outOfRange (decide (c.rest > 1)) 8,
     outOfRange (decide (c.speed > 1000)) 10, outOfRange (c.mask == 0) 12]
    (s.modEasel fun e => { e with sketchPending := some c }, .okay [])

def bodyAcqGetSketch : Body := query fun s => s.easel.sketch.bytes

def execAcqSearch (t : Txn) (s : State) : Res := hostCommand (opIs 0x0400) bodyAcqSearch t s
def execAcqAbort (t : Txn) (s : State) : Res := hostCommand (opIs 0x0401) bodyAcqAbort t s
def execAcqCapture (t : Txn) (s : State) : Res := hostCommand (opIs 0x0402) bodyAcqCapture t s
def execAcqSketchFix (t : Txn) (s : State) : Res := hostCommand (opIs 0x0403) bodyAcqSketchFix t s
def execAcqGetStatus (t : Txn) (s : State) : Res := hostCommand (opIs 0x0404) bodyAcqGetStatus t s
def execAcqSetWatch (t : Txn) (s : State) : Res := hostCommand (opIs 0x0405) bodyAcqSetWatch t s
def execAcqGetWatch (t : Txn) (s : State) : Res := hostCommand (opIs 0x0406) bodyAcqGetWatch t s
def execAcqListCaptures (t : Txn) (s : State) : Res := hostCommand (opIs 0x0407) bodyAcqListCaptures t s
def execAcqReadCapture (t : Txn) (s : State) : Res := hostCommand (opIs 0x0408) bodyAcqReadCapture t s
def execAcqFreeCapture (t : Txn) (s : State) : Res := hostCommand (opIs 0x0409) bodyAcqFreeCapture t s
def execAcqSetSketch (t : Txn) (s : State) : Res := hostCommand (opIs 0x040A) bodyAcqSetSketch t s
def execAcqGetSketch (t : Txn) (s : State) : Res := hostCommand (opIs 0x040B) bodyAcqGetSketch t s

end Sys2Proof.Machine
end

