-- ==== Sys2Proof/Machine/TpOps.lean ====
section
/-! DEFINITION. Time pulses as operations: the mapping and the grid, records, starts and stops, holdover (08 R281–R302),
DT_MAP records (03 R107). -/

namespace Sys2Proof.Machine

def State.modTp (s : State) (f : Pulses → Pulses) : State := { s with tp := f s.tp }
def State.gen (s : State) (g : Nat) : Generator := vget s.tp.gens g
def State.modGen (s : State) (g : Nat) (f : Generator → Generator) : State :=
  s.modTp fun t => { t with gens := vmod t.gens g f }

/-! The grid (03 R86, R90; 08 R285). -/

/-- DT of a later tick, in units of 2⁻⁴⁰ s. -/
def Clock.accAfter (c : Clock) (n : Nat) : Nat :=
  c.acc + 13434 * n + (c.phase + n * (73067776 + c.steer).toNat) / 81840000

/-- Units of 2⁻⁴⁰ s in 81,840,000 ticks at the present steering. -/
def Clock.upt (c : Clock) : Nat := 13434 * 81840000 + (73067776 + c.steer).toNat

/-- The present tick's DT in ps. -/
def Clock.nowPs (c : Clock) : Int := rnd ((c.acc : Int) * 10 ^ 12) (2 ^ 40)

/-- The core-cycle edge nearest to an instant `d` ps after the present tick began, the later when midway; and QERR. -/
def Clock.edge (c : Clock) (d : Int) : Int × Int :=
  let k : Int := (8 * d * 2 ^ 40 * 81840000 + (10 ^ 12 * c.upt : Nat)) / (2 * 10 ^ 12 * c.upt : Nat)
  (k, rnd (k * (c.upt * 10 ^ 12 : Nat)) (4 * 81840000 * 2 ^ 40) - d)

/-! Bounds and rates (08 R293, R294). -/

def bound32 (b : Nat) : Nat := min 0xFFFF_FFFF b

/-- The holdover model's rate at a temperature. -/
def State.holdRate (s : State) (h : Holdover) (temp : Int) : Int :=
  if s.cal.values.model.valid then h.rate + s.cal.rModel temp - s.cal.rModel h.temp else h.rate

/-- B(t) in ps. -/
def State.holdBound (s : State) (h : Holdover) (dt : Nat) : Nat :=
  let t := dt - h.ref
  let m := s.cal.values.model
  let kt := if m.valid then m.kt else 20000
  let age := if m.valid then m.age else 10000
  h.bound + (rnd ((h.rq * 128 + kt * h.dtMax) * t : Nat) (128 * 2 ^ 32)).toNat + (rnd (age * t * t : Nat) (2 * 86400 * 2 ^ 64)).toNat

/-! DT_MAP records (03 R107). -/

def State.mapBytes (s : State) (m : TimeMap) : List Byte :=
  le 8 m.ref ++ le 2 m.week ++ le 2 (bitsOf [(m.qualified, 0), (m.holdover, 1), (m.newSegment, 2)]) ++ le 4 m.tow ++ le 4 m.frac ++
    leInt 4 m.rate ++ le 4 (bound32 m.bound) ++ le 4 s.clk.epoch

/-- A QUALIFIED map not from holdover or a Sketch fix adds (T, RATE) to its 1 °C bin, the nearest whole degree (10 R364; DESIGN CHOICE, log 57). -/
def addBin (bins : List (Int × Nat × Int)) (temp rate : Int) : List (Int × Nat × Int) :=
  let b := max (-40) (min 125 (roundDiv temp 128))
  match bins.find? fun x => x.1 == b with
  | none => bins ++ [(b, 1, rate)]
  | some _ => bins.map fun x =>
      if x.1 = b then
        let n := min 65535 (x.2.1 + 1)
        (b, n, x.2.2 + rnd (rate - x.2.2) (min n 256))
      else x

/-- Writes a DT_MAP record and brings it into force. -/
def State.writeMap (s : State) (m : TimeMap) (cause dt : Nat) (sketch : Bool) : State :=
  let bs := s.mapBytes m
  let s := s.domeRecord 10 cause 0x30 dt bs
  let s := { s with nav := { s.nav with map := some m, lastMap := some m, mapPayload := some bs,
                                        mapSecond := some ((m.gps dt).toNat / second) } }
  let s := if m.qualified && !sketch then s.modTp fun t => { t with map := some m } else s
  if m.qualified && !m.holdover && !sketch then
    s.modCal fun c => { c with bins := addBin c.bins s.nav.temperature m.rate }
  else s

/-- Time does not exist in what follows: a sleep, a cold start, a lost reference (03 R107, R108). -/
def State.newSegment (s : State) : State :=
  ({ s with nav := { s.nav with map := none, sol := none, mapSecond := none, lastRate := none, segment := s.nav.segment + 1 } }).modTp
    fun t => { t with map := none }

/-! TP_STATE records (08 R301). -/

def State.stateRecord (s : State) (g : Nat) (old : TpState) (cause cancelled : Nat) (truncated : Bool) : State :=
  let k := s.gen g
  let age := match s.tp.holdover with | none => 0 | some h => elapsedMs (s.now - h.ref)
  let (order, s) := s.claim 4
  s.domeRecord 10 order 0x34 s.now
    (le 1 g ++ le 1 old.code ++ le 1 k.st.code ++ le 1 cause ++ le 4 k.lastNo ++ le 1 cancelled ++ le 1 (b2n truncated) ++ zeros 2 ++
      le 4 (min 0xFFFF_FFFF age))

/-- The generator changes state. -/
def State.enterTp (s : State) (g : Nat) (st : TpState) (cause : Nat) : State :=
  let old := (s.gen g).st
  if old == st then s
  else (s.modGen g fun k => { k with st := st }).stateRecord g old cause 0 false

/-- A realignment: the next pulse falls on its ideal instant with FIRST set and REMAIN 0 (R292). -/
def Generator.realign (k : Generator) : Generator := { k with next := none, ideal := none, remain := 0, step := none, slewing := false }

/-- Once no announced pulse is left, a new polarity takes effect and a state that waited for it is entered. -/
def State.settleTp (s : State) (g : Nat) : State :=
  let k := s.gen g
  if !k.announced.isEmpty then s
  else
    let s := s.modGen g fun k => { k with polarity := k.cfg.polarity, after := none }
    match k.after with
    | none => s
    | some (st, cause) => (s.enterTp g st cause).modGen g fun k => { k.realign with good := 0 }

/-- The generator emits its announced pulses, then enters a state. -/
def State.thenEnter (s : State) (g : Nat) (st : TpState) (cause : Nat) : State :=
  (s.modGen g fun k => { k with after := some (st, cause) }).settleTp g

/-- The generator emits pulses. -/
def TpState.runs : TpState → Bool
  | .locked | .holdover | .recovering => true
  | _ => false

/-- The level that a generator drives onto its ball (R281): the inactive level is low with POLARITY 0. -/
def Generator.ball (k : Generator) : Bool := k.high != k.polarity

/-- The broadcast relation of a generator's scale to GPS time (R240, R283). -/
def State.scaleOf (s : State) (k : Generator) : Option ScaleOffset := s.nav.decoded.find? fun o => o.code == k.cfg.scale

/-- The scale needs a value not yet decoded (R283). -/
def State.scalePending (s : State) (k : Generator) : Bool := k.cfg.scale != 0 && (s.scaleOf k).isNone

/-- The generators stop: outputs inactive at once, announced pulses cancelled, one in progress truncated (R302); any holdover
ends (R297). -/
def State.stopPulses (s : State) : State :=
  let s := forUpto 2 (fun g s =>
    let k := s.gen g
    let n := (k.announced.filter fun a => !a.leading).length
    let old := k.st
    let st : TpState := if k.cfg.en then .wait else .off
    let s := s.modGen g fun k =>
      { k.realign with st := st, high := false, announced := [], good := 0, after := none, polarity := k.cfg.polarity
                       cancelled := satAdd 0xFFFF k.cancelled n }
    if old == st && k.announced.isEmpty then s else s.stateRecord g old 7 n k.high) s
  s.modTp fun t => { t with holdover := none, last := none, map := none, late := [] }

/-- A profile change to SKETCH: the state becomes WAIT, announced pulses are emitted (R302). -/
def State.restPulses (s : State) : State :=
  forUpto 2 (fun g s =>
    if (s.gen g).cfg.en then s.thenEnter g .wait 10 else s)
    (s.modTp fun t => { t with holdover := none, last := none, map := none })

/-- A generator in WAIT or STOPPED starts (R292). -/
def State.startTp (s : State) (g : Nat) : State :=
  (s.enterTp g .locked 2).modGen g fun k => { k.realign with good := 0 }

/-- A solution acts on the generators: a qualified one ends holdover and counts toward a start; with OUTPUT_UNQUAL the first
FIX or FIX_MIN that is not DENIED starts one. -/
def State.steerTp (s : State) (qualified usable : Bool) (m : TimeMap) : State :=
  let s := if qualified then
      s.modTp fun t => { t with holdover := none, last := some { map := m, temp := s.nav.temperature } }
    else s
  forUpto 2 (fun g s =>
    let k := s.gen g
    if !(k.st == .wait || k.st == .stopped) || !k.cfg.en || s.scalePending k then s
    else
      let n := if qualified then k.good + 1 else 0
      let s := s.modGen g fun k => { k with good := n }
      if n ≥ 3 || (k.cfg.unqual && usable) then s.startTp g else s) s

/-! D_TP glaze (10 R369, R370). -/

/-- One value a step nearer its target along its ramp, by at most `bound`. -/
def glazeStep (start target value : Int) (alpha span bound : Nat) : Int :=
  let ramp := if alpha ≥ span then target else start + rnd ((target - start) * alpha) span
  value + clampInt (-(bound : Int)) bound (ramp - value)

/-- α of a ramp in units of 1/(100·T_GLAZE): each epoch adds 100/F. -/
def Cal.span (c : Cal) : Nat := 100 * c.cfg.glaze

def State.glazeDtp (s : State) (g : Nat) : State :=
  s.modCal fun c =>
    let v := c.values.dtp.getD g 0
    let t := c.slot.values.dtp.getD g 0
    let st := c.start.dtp.getD g 0
    if c.slot.valid then
      { c with values := { c.values with dtp := c.values.dtp.set g (glazeStep st t v (max 1 c.alpha) c.span 50) } }
    else c

end Sys2Proof.Machine
end

