-- ==== Sys2Proof/Machine/TpRows.lean ====
section
/-! DEFINITION. The TP group and the events of the time pulses and of holdover (08 R281–R305). -/

namespace Sys2Proof.Machine

/-! Ideal instants (08 R285, R286). -/

def psPerSecond : Nat := 1000000000000

/-- The DT, in ps, that a mapping with rate `rate` gives a GPS time in ps. -/
def TimeMap.dtPs (m : TimeMap) (rate g : Int) : Int :=
  let f : Int := 10 ^ 12 + rate
  let g0 : Int := ((m.week * 604800 + m.tow) * 2 ^ 32 + m.frac : Nat)
  rnd ((m.ref : Int) * 10 ^ 12 * f + (g * 2 ^ 32 - g0 * 10 ^ 12) * 10 ^ 12) (2 ^ 32 * f.toNat)

/-- A span of the scale, in ps, as a span of DT. -/
def spanPs (rate span : Int) : Int := rnd (span * 10 ^ 12) (10 ^ 12 + rate).toNat

/-- DT in 2⁻³² s of an instant in ps. -/
def dtOfPs (x : Int) : Nat := (rnd (x * 2 ^ 32) (10 ^ 12)).toNat

/-- The mapping of a pulse: the holdover model's, else the latest qualified record's, else the latest record's; with its rate. -/
def State.pulseMap (s : State) (temp : Int) : Option (TimeMap × Int) :=
  match s.tp.holdover, s.tp.map, s.nav.map with
  | some h, _, _ => some (h.map, s.holdRate h temp)
  | none, some m, _ | none, none, some m => some (m, m.rate)
  | none, none, none => none

/-! The scales (08 R283, R284; 07 R240). -/

/-- The leap-second count at a GPS time in seconds; the next one applies from `till` on. -/
def leapAt (o : ScaleOffset) (g : Int) : Int := if (o.till : Int) ≤ g then o.leapNext else o.leap

/-- A scale less GPS time in ps, with a leap-second count, at a GPS time in seconds: BeiDou time lies 14 s behind, `a0` is in ps and `a1`
in 10⁻¹⁸. -/
def scaleOffset (o : ScaleOffset) (leaps g : Int) : Int :=
  (if o.code = 3 then -14 * 10 ^ 12 else 0) - leaps * 10 ^ 12 + o.a0 + rnd (o.a1 * (g - o.ref)) (10 ^ 6)

/-- The leap-second count at the pulse of a train whose last scale instant is `u` µs, a span later: with a PERIOD of 1 s or less every second of
the scale has its edge, so time runs on; else the scale's seconds are counted (R284). -/
def leapsAfter (o : ScaleOffset) (k : Generator) (u span : Nat) : Int :=
  let c : Int := if k.cfg.period ≤ 1000000 then k.leaps else o.leapNext
  if (o.till : Int) * 1000000 ≤ (u : Int) + span + c * 1000000 then o.leapNext else o.leap

/-- The mapping bound at an instant (R290). -/
def State.pulseBound (s : State) (at_ : Int) : Nat :=
  match s.tp.holdover, s.nav.map, s.nav.sol with
  | some h, _, _ => s.holdBound h (dtOfPs at_)
  | none, some m, sol => if m.holdover then (match sol with | none => m.bound | some n => n.bound) else m.bound
  | none, none, _ => 0xFFFF_FFFF

/-- The ideal ball instant, in ps of DT, of a scale instant in µs; `offset` is the scale less GPS time in ps. -/
def State.ideal (s : State) (g : Nat) (m : TimeMap) (rate offset : Int) (u : Nat) : Int :=
  let k := s.gen g
  m.dtPs rate ((u : Int) * 1000000 - offset) - k.cfg.antDelay - k.cfg.userDelay - s.cal.values.dtp.getD g 0

/-- E in (−PERIOD / 2, +PERIOD / 2], and the whole periods taken out of it. -/
def reducePeriod (e : Int) (p : Nat) : Int × Int :=
  let k : Int := (2 * e + p - 1) / (2 * p)
  (e - k * p, k)

/-- ΔT_max follows the temperature. -/
def State.heatHoldover (s : State) (temp : Int) : State :=
  s.modTp fun t => { t with holdover := t.holdover.map fun h => { h with dtMax := max h.dtMax (temp - h.temp).natAbs } }

/-! Places of pulses in the order of events (03 R99, R101). -/

/-- The grid's time in 2⁻³² s of an accumulator value: chain time or own DT (06 R208). -/
def State.gridTime (s : State) (acc : Nat) : Int :=
  ((acc / 256 : Nat) : Int) + if s.alignCode = 0 ∨ s.alignCode = 3 then s.clk.offset else 0

/-- A grid point of the rate in force falls between two times. -/
def gridPoint (rate : Nat) (t0 t1 : Int) : Bool := decide (rate * t0 / 2 ^ 32 < rate * t1 / 2 ^ 32)

/-- An epoch falls in the tick `n` ticks on. -/
def State.epochAhead (s : State) (n : Nat) : Bool :=
  s.pwr.profile != 0 && gridPoint s.trk.epochs.rate (s.gridTime (s.clk.accAfter (n - 1))) (s.gridTime (s.clk.accAfter n))

/-- TYPE's upper byte of the record of a pulse whose leading edge is `n` ticks on. -/
def State.pulseCause (s : State) (g n : Nat) : Nat :=
  let tp0 := g == 1 && (s.gen 0).announced.any fun a => a.tick == s.clk.tick + n || a.trailing == s.clk.tick + n
  64 + b2n (s.epochAhead n) + b2n tp0

/-! Announcements (08 R287–R300). -/

/-- A pulse as an announcement fixes it: scale instant, final ideal instant, REMAIN before and after, flags. -/
structure PulsePlan where
  scale : Nat
  at_ : Int
  before : Int := 0
  after : Int := 0
  first : Bool := false
  slewing : Bool := false
  stepped : Bool := false
  step : Option (Int × Bool) := none
  leaps : Int := 0

/-- The first pulse after a start or a realignment: the first scale instant at least PERIOD / 2 ahead and after the trailing
edge of the last announced pulse (R287, R302). -/
def State.firstPulse (s : State) (g : Nat) (m : TimeMap) (rate offset : Int) : PulsePlan :=
  let k := s.gen g
  let p := k.cfg.period
  let busy : Int := match k.announced.getLast? with
    | none => 0
    | some a => rnd ((s.clk.accAfter (a.trailing + 1 - s.clk.tick) : Int) * 10 ^ 12) (2 ^ 40)
  let from_ := max (s.clk.nowPs + (p * 500000 : Nat)) busy
  let g0 := m.gps (dtOfPs from_)
  let u := ceilDiv ((rnd (g0 * 10 ^ 6) (2 ^ 32) + offset / 1000000).toNat) p * p
  let u := if s.ideal g m rate offset u < from_ then u + p else u
  { scale := u, at_ := s.ideal g m rate offset u, first := true }

/-- A later pulse of the train (R298, R299); `coast` keeps the train's alignment. -/
def State.nextPulse (s : State) (g : Nat) (m : TimeMap) (rate offset leap : Int) (coast : Bool) (last : Int × Nat) : PulsePlan :=
  let k := s.gen g
  let p := k.cfg.period
  let pp := p * 1000000
  let n := match k.step with | some (_, true) => 2 | _ => 1
  let short := decide (p ≤ 1000000)
  let u := ((last.2 : Int) + (n * p : Nat) - (if short then leap * 1000000 else 0)).toNat
  let span : Int := (n * pp : Nat) + (if short then 0 else leap * psPerSecond)
  let train := last.1 + spanPs rate span
  if coast then { scale := u, at_ := train, before := k.remain, after := k.remain }
  else match k.step with
  | some (e, _) => { scale := u, at_ := train - e, stepped := true }
  | none =>
    let (e, d) := reducePeriod (train - s.ideal g m rate offset u) pp
    let u := ((u : Int) + d * p).toNat
    let slew := k.cfg.slew * 1000
    if e.natAbs ≤ slew then { scale := u, at_ := train - e, before := e }
    else if e.natAbs ≤ k.cfg.stepThresh * 1000 then
      let move := clampInt (-(slew : Int)) slew e
      { scale := u, at_ := train - move, before := e, after := e - move, slewing := true }
    else
      let short := decide ((pp : Int) - e < (k.cfg.width * 1000 + 1000000 : Nat))
      { scale := u, at_ := train, before := e, after := e, step := some (e, short) }

/-- The steering decisions enter the generator; the edges are core cycles from the start of TICK 0. -/
def State.fixPulse (s : State) (g : Nat) (p : PulsePlan) (coast : Bool) (leading trailing : Nat) (flags bound : Nat) : State :=
  s.modGen g fun k =>
    { k with
      announced := k.announced ++ [⟨leading / 4, trailing / 4, leading % 4, trailing % 4, k.no + 1, false⟩]
      no := k.no + 1, next := some p.scale, ideal := some (p.at_, p.scale), leaps := p.leaps, remain := p.after
      step := if coast then k.step else p.step
      slewing := if coast then k.slewing else p.slewing
      slews := if p.slewing && !k.slewing then sat16 k.slews else k.slews
      steps := if p.stepped then sat16 k.steps else k.steps
      omitted := match k.step with | some (_, true) => if p.stepped then sat16 k.omitted else k.omitted | _ => k.omitted
      lastFlags := flags, lastBound := bound }

/-- The TP_STEP record (R299), written before the TP_PULSE record of the pulse before the step. -/
def State.stepRecord (s : State) (g : Nat) (p : PulsePlan) (rate : Int) : State :=
  match p.step with
  | none => s
  | some (e, skip) =>
    let k := s.gen g
    let n : Int := if skip then 2 else 1
    let at_ := p.at_ + spanPs rate (n * (k.cfg.period * 1000000 : Nat)) - e
    let n := ((s.clk.edge (at_ - s.clk.nowPs)).1 / 4).toNat
    s.domeRecord 10 (s.pulseCause g n) 0x33 (s.clk.accAfter n / 256)
      (le 1 g ++ le 1 (b2n skip) ++ zeros 2 ++ le 4 (k.no + 2) ++ leInt 8 e ++ le 4 (bound32 (s.pulseBound at_)) ++ zeros 4)

/-- The states that an announcement enters: HOLDOVER once holdover has begun, RECOVERING once it has ended (R293, R298). -/
def State.pulseState (s : State) (g : Nat) : State :=
  match (s.gen g).st, s.tp.holdover with
  | .locked, some _ => s.enterTp g .holdover 3
  | .recovering, some _ => s.enterTp g .holdover 3
  | .holdover, none => s.enterTp g .recovering 5
  | _, _ => s

/-- TP_PULSE's record and its place among the pulses; `frozen` while the supervisor pair restarts. -/
def State.announcePulse (s : State) (g : Nat) (p : PulsePlan) (rate leap : Int) (frozen : Bool) : State :=
  let (core, qerr) := s.clk.edge (p.at_ - s.clk.nowPs)
  let n := (core / 4).toNat
  let k := s.gen g
  if core < 4 then s.modGen g Generator.realign
  else
    let bound := s.pulseBound p.at_ + p.before.natAbs
    let limit := s.nav.integ.qualLimit * 1000
    let s := if !frozen && k.st == .recovering && p.after == 0 && bound < limit then s.enterTp g .locked 6 else s
    let s := if frozen then s else s.stepRecord g p rate
    let past := s.tp.holdover.any (·.limit)
    let st := (s.gen g).st
    let late := frozen || decide (p.at_ - s.clk.nowPs < (k.cfg.period * 500000 : Nat))
    let flags := bitsOf [(decide (bound < limit) && !past && decide (s.nav.held ≤ 1), 0), (st == .holdover, 1), (past, 2), (p.slewing, 3),
                         (p.stepped, 4), (late, 5), (leap != 0 && decide (k.cfg.period ≥ 2000000), 6), (p.first, 7)]
    let trailing := (s.clk.edge (p.at_ + (k.cfg.width * 1000 : Nat) - s.clk.nowPs)).1.toNat
    let payload := le 1 g ++ le 1 st.code ++ le 1 flags ++ le 1 (k.cfg.scale + (core % 4).toNat * 8) ++ leInt 4 qerr ++
      le 4 (bound32 bound) ++ le 2 (p.scale / 1000000 / 604800) ++ zeros 2 ++ le 4 (p.scale / 1000000 % 604800) ++
      le 4 (p.scale % 1000000 * 1000) ++ le 4 (k.no + 1) ++ leInt 4 p.after
    let cause := s.pulseCause g n
    let dt := s.clk.accAfter n / 256
    let s := s.fixPulse g p frozen (4 * s.clk.tick + core.toNat) (4 * s.clk.tick + trailing) flags (bound32 bound)
    if frozen then s.modTp fun t => { t with late := t.late ++ [(cause, dt, payload)] }
    else s.domeRecord 10 cause 0x32 dt payload

/-- A new HOLD_LIMIT applies from an announcement on (R304). -/
def State.takeLimit (s : State) : State := s.modTp fun t => { t with limit := t.limitNext.getD t.limit, limitNext := none }

/-- The leap-second count that a generator's next announcement reckons with, and its scale less GPS time in ps. -/
def State.scaleNow (s : State) (g : Nat) (m : TimeMap) : Int × Int :=
  let k := s.gen g
  let now := m.gps s.now / 2 ^ 32
  match s.scaleOf k, k.ideal with
  | none, _ => (0, 0)
  | some o, none => (leapAt o now, scaleOffset o (leapAt o now) now)
  | some o, some (_, u) =>
    let n := match k.step with | some (_, true) => 2 | _ => 1
    let l := leapsAfter o k u (n * k.cfg.period)
    (l, scaleOffset o l now)

/-- TP_PULSE: an announcement. -/
def execTpPulse (g : Fin 2) (temp : Int) (_ _ : Unit) (s : State) : Res :=
  let k := s.gen g.val
  if !s.domeService || !k.st.runs || k.after.isSome || k.announced.any (fun a => !a.leading) then .next s
  else
    let frozen := s.trk.supRestart.isSome
    let s := if frozen then s else (((s.heatHoldover temp).pulseState g.val).glazeDtp g.val).takeLimit
    match s.pulseMap temp with
    | none => .next s
    | some (m, rate) =>
      let coast := frozen || (s.gen g.val).st == .holdover
      let (leaps, offset) := s.scaleNow g.val m
      match (s.gen g.val).ideal with
      | none =>
        if frozen then .next s
        else .next (s.announcePulse g.val { s.firstPulse g.val m rate offset with leaps := leaps } rate 0 false)
      | some last =>
        let leap := clampInt (-1) 1 (leaps - k.leaps)
        let p := s.nextPulse g.val m rate offset leap (coast && (frozen || k.step.isNone)) last
        .next (s.announcePulse g.val { p with leaps := leaps } rate leap frozen)

/-- TP_LEADING_EDGE: the announced edge's tick. -/
def execTpLeadingEdge (g : Fin 2) (s : State) : Res :=
  match (s.gen g.val).announced.find? (fun a => !a.leading) with
  | none => .next s
  | some a =>
    if !s.fast || s.clk.tick < a.tick then .next s
    else .next (s.modGen g.val fun k =>
      { k with high := true, lastNo := a.no
               announced := k.announced.map fun b => if b.no = a.no then { b with leading := true } else b })

/-- TP_TRAILING_EDGE. -/
def execTpTrailingEdge (g : Fin 2) (s : State) : Res :=
  match (s.gen g.val).announced with
  | [] => .next s
  | a :: r =>
    if !s.fast || !a.leading || s.clk.tick < a.trailing then .next s
    else .next ((s.modGen g.val fun k => { k with high := false, announced := r }).settleTp g.val)

/-! Holdover (08 R293–R297). -/

/-- HOLDOVER_START; `rq` is the uncertainty of RATE_q that the Dome estimates. -/
def execHoldoverStart (rq : Nat) (s : State) : Res :=
  match s.tp.holdover, s.tp.last with
  | none, some q =>
    if !s.domeService || s.pwr.profile = 0 || s.now < q.map.ref + 2 * second then .next s
    else .next (s.modTp fun t =>
      { t with entered := sat16 t.entered
               holdover := some { ref := q.map.ref, rate := q.map.rate, bound := q.map.bound, temp := q.temp, rq := rq, map := q.map } })
  | _, _ => .next s

/-- HOLDOVER_DT_MAP: each whole GPS second of the extrapolated mapping. -/
def execHoldoverDtMap (temp : Int) (s : State) : Res :=
  let s' := s.heatHoldover temp
  match s'.tp.holdover with
  | some h =>
    let g := { h.map with rate := s'.holdRate h temp }.gps s.now
    if !s.domeService || s.nav.mapSecond == some ((g / 2 ^ 32).toNat) then .next s
    else
      let (week, tow, frac) := gpsFields g
      let b := s'.holdBound h s.now
      let n : TimeMap :=
        { ref := s.now, week := week, tow := tow, frac := frac, rate := s'.holdRate h temp, bound := b
          qualified := decide (b < s.nav.integ.qualLimit * 1000) && decide (s.now < h.ref + s.tp.limit * second) && decide (s.nav.held ≤ 1)
          holdover := true, newSegment := false, segment := h.map.segment }
      let (cause, s') := s'.claim 4
      .next ((s'.writeMap n cause s.now false).modTp fun t => { t with holdover := some { h with map := n } })
  | none => .next s

/-- HOLD_LIMIT_REACHED: LIMIT_EXCEEDED from now on, or the generator stops after its announced pulses. -/
def execHoldLimitReached (s : State) : Res :=
  match s.tp.holdover with
  | none => .next s
  | some h =>
    if !s.domeService || h.limit || s.now < h.ref + s.tp.limit * second then .next s
    else
      let s := s.modTp fun t => { t with holdover := t.holdover.map fun h => { h with limit := true } }
      .next (forUpto 2 (fun g s => if (s.gen g).cfg.limitStop && (s.gen g).st.runs then s.thenEnter g .stopped 4 else s) s)

/-! Commands (08 R303–R305). -/

/-- PERIOD values of R282. -/
def periodOk (p : Nat) : Bool :=
  decide (10000 ≤ p ∧ p ≤ 60000000) && (1000000 % p == 0 || (p % 1000000 == 0 && 60000000 % p == 0))

def TpConfig.parse (p : List Byte) : TpConfig :=
  { en := bit (byteAt p 1) 0, polarity := bit (byteAt p 1) 1, unqual := bit (byteAt p 1) 2, limitStop := bit (byteAt p 1) 3
    scale := byteAt p 2, period := getLe p 4 4, width := getLe p 8 4, antDelay := getLeInt p 12 4, userDelay := getLeInt p 16 4
    stepThresh := getLe p 20 4, slew := getLe p 24 2 }

def TpConfig.bytes (c : TpConfig) (g : Nat) : List Byte :=
  le 1 g ++ le 1 (bitsOf [(c.en, 0), (c.polarity, 1), (c.unqual, 2), (c.limitStop, 3)]) ++ le 1 c.scale ++ le 1 0 ++ le 4 c.period ++
    le 4 c.width ++ leInt 4 c.antDelay ++ leInt 4 c.userDelay ++ le 4 c.stepThresh ++ le 2 c.slew ++ zeros 6

/-- The schedule fields, a change of which realigns the train. -/
def TpConfig.sameSchedule (a b : TpConfig) : Bool :=
  a.period == b.period && a.width == b.width && a.polarity == b.polarity && a.scale == b.scale

/-- New settings of a generator (R302). -/
def State.setTp (s : State) (g : Nat) (n : TpConfig) : State :=
  let old := (s.gen g).cfg
  let s := s.modGen g fun k => { k with cfg := n }
  let s :=
    if !n.en then (s.enterTp g .off 1).modGen g fun k => { k.realign with good := 0, after := none }
    else if !old.en then (s.enterTp g .wait 0).modGen g fun k => { k.realign with good := 0, no := 0, after := none }
    else if old.sameSchedule n || !(s.gen g).st.runs then s
    else if s.scalePending (s.gen g) then (s.enterTp g .wait 9).modGen g fun k => { k.realign with good := 0 }
    else (s.modGen g Generator.realign).stateRecord g (s.gen g).st 8 0 false
  if (s.gen g).announced.isEmpty then s.settleTp g else s

def bodyTpSet : Body := fun q s =>
  let p := q.payload
  let n := TpConfig.parse p
  checked s
    [reservedPayload p [(1, 0xF0), (3, 0xFF), (26, 0xFF), (27, 0xFF), (28, 0xFF), (29, 0xFF), (30, 0xFF), (31, 0xFF)],
     outOfRange (decide (byteAt p 0 > 1)) 0, outOfRange (decide (n.scale > 3)) 2, outOfRange (!periodOk n.period) 4,
     outOfRange (decide (n.width < 100 ∨ n.width > min (n.period * 1000 - 1000) 4000000000)) 8,
     outOfRange (decide (n.antDelay < -100000 ∨ n.antDelay > 2000000)) 12, outOfRange (decide (n.userDelay.natAbs > 1000000)) 16,
     outOfRange (decide (n.stepThresh < 100 ∨ n.stepThresh > 1000000)) 20, outOfRange (decide (n.slew < 1 ∨ n.slew > 1000)) 24]
    (s.setTp (byteAt p 0) n, .okay [])

def bodyTpGet : Body := fun q s =>
  let g := byteAt q.payload 0
  checked s [outOfRange (decide (g > 1)) 0] (s, .okay ((s.gen g).cfg.bytes g))

def bodyTpSetHoldover : Body := fun q s =>
  let n := getLe q.payload 0 4
  checked s
    [reservedPayload q.payload [(4, 0xFF), (5, 0xFF), (6, 0xFF), (7, 0xFF)], outOfRange (decide (n < 10 ∨ n > 86400)) 0]
    (let s := s.modTp fun t => { t with limitNext := some n }
     if s.tp.gens.any (·.st.runs) then s else s.takeLimit, .okay [])

def bodyTpGetHoldover : Body := query fun s =>
  le 4 (s.tp.limitNext.getD s.tp.limit) ++ match s.tp.holdover with
    | none => zeros 18 ++ le 2 s.tp.entered
    | some h => le 1 (1 + 2 * b2n h.limit) ++ zeros 3 ++ le 4 (min 0xFFFF_FFFF (elapsedMs (s.now - h.ref))) ++
        le 4 (bound32 (s.holdBound h s.now)) ++ le 4 h.rq ++ le 2 h.dtMax ++ le 2 s.tp.entered

def bodyTpGetState : Body := fun q s =>
  let g := byteAt q.payload 0
  let k := s.gen g
  checked s [outOfRange (decide (g > 1)) 0]
    (s, .okay (le 1 g ++ le 1 k.st.code ++ le 1 k.lastFlags ++ le 1 (b2n (k.cfg.en && s.scalePending k)) ++ le 4 k.no ++
      le 4 k.lastBound ++ leInt 4 k.remain ++ le 2 k.steps ++ le 2 k.slews ++ le 2 k.cancelled ++ le 2 k.omitted ++ zeros 4))

/-- TP_SET (R303). -/
def execTpSet (t : Txn) (s : State) : Res := hostCommand (opIs 0x0900) bodyTpSet t s
/-- TP_GET (R303). -/
def execTpGet (t : Txn) (s : State) : Res := hostCommand (opIs 0x0901) bodyTpGet t s
/-- TP_SET_HOLDOVER (R304). -/
def execTpSetHoldover (t : Txn) (s : State) : Res := hostCommand (opIs 0x0902) bodyTpSetHoldover t s
/-- TP_GET_HOLDOVER (R304). -/
def execTpGetHoldover (t : Txn) (s : State) : Res := hostCommand (opIs 0x0903) bodyTpGetHoldover t s
/-- TP_GET_STATE (R305). -/
def execTpGetState (t : Txn) (s : State) : Res := hostCommand (opIs 0x0904) bodyTpGetState t s

end Sys2Proof.Machine
end

