-- ==== Sys2Proof/Machine/Epoch.lean ====
section
/-! DEFINITION. Measurement epochs as operations: the grid, the settings that take effect there, the glaze of calibration
values, the records of lanes, ports, units and symbols (06 R208–R235, 07 R264, 10 R369). -/

namespace Sys2Proof.Machine

/-! The grid (06 R208, R209). -/

/-- Grid times of the previous epoch's tick (of the previous tick where there was none) and of the present tick. -/
def State.epochTimes (s : State) : Int × Int :=
  let t := s.gridTime s.clk.acc
  match s.trk.epochs.last with
  | none => (s.gridTime (s.clk.acc - 13435), t)
  | some d => (t - ((s.now : Int) - d), t)

/-- The latest grid point reached: whether it lies on chain time, k, F. -/
def State.gridAt (s : State) : Bool × Int × Nat :=
  (decide (s.alignCode = 0 ∨ s.alignCode = 3), s.trk.epochs.rate * s.gridTime s.clk.acc / 2 ^ 32, s.trk.epochs.rate)

/-- The point lies after the last one taken; points of another time scale are not compared (DESIGN CHOICE, log 56). -/
def laterPoint (last : Option (Bool × Int × Nat)) (p : Bool × Int × Nat) : Bool :=
  match last with
  | none => true
  | some q => p.1 != q.1 || decide (q.2.1 * p.2.2 < p.2.1 * q.2.2)

/-- A grid point after the previous epoch's tick has been reached, and after the point of every earlier epoch. -/
def State.epochDue (s : State) : Bool :=
  s.domeService && s.pwr.profile != 0 && gridPoint s.trk.epochs.rate s.epochTimes.1 s.epochTimes.2 &&
    laterPoint s.trk.epochs.point s.gridAt

/-- The epoch falls on a whole second of the grid's time scale. -/
def State.wholeSecond (s : State) : Bool := gridPoint 1 s.epochTimes.1 s.epochTimes.2

/-- The interval since the previous epoch differs from 1 / F by more than one tick. -/
def State.gridStep (s : State) : Bool :=
  match s.trk.epochs.last with
  | none => false
  | some d =>
    let f := s.trk.epochs.rate
    decide ((((s.now : Int) - d) * f - second).natAbs * 81840000 > f * second)

/-- A solution point (07 R236): k / NAV_RATE in FULL, whole seconds in SENTINEL and EARLY. -/
def State.solutionDue (s : State) : Bool :=
  gridPoint (if s.pwr.profile = 2 then s.nav.cfg.rate else 1) s.epochTimes.1 s.epochTimes.2

/-! Glaze (10 R369, R370). -/

def glazeList (start target value : List Int) (alpha span bound : Nat) : List Int :=
  (List.range value.length).map fun k => glazeStep (start.getD k 0) (target.getD k 0) (value.getD k 0) alpha span bound

def blend (old new : Int) (alpha span : Nat) : Int := if alpha ≥ span then new else old + rnd ((new - old) * alpha) span

/-- Every value but D_TP has reached its target. -/
def Cal.settled (c : Cal) : Bool :=
  c.values.dib == c.slot.values.dib && c.values.tau == c.slot.values.tau && c.values.phi == c.slot.values.phi &&
    decide (c.alpha ≥ c.span)

/-- One epoch's step at rate F. -/
def State.glaze (s : State) : State :=
  s.modCal fun c =>
    if !c.glazing then c
    else
      let a := min c.span (c.alpha + 100 / max 1 s.trk.epochs.rate)
      let t := c.slot.values
      let o := c.start
      let m := t.model
      let c := { c with
        alpha := a
        values := { c.values with
          dib := glazeList o.dib t.dib c.values.dib a c.span 50, tau := glazeList o.tau t.tau c.values.tau a c.span 50
          phi := glazeList o.phi t.phi c.values.phi a c.span 655
          model := { m with c0 := blend o.model.c0 m.c0 a c.span, c1 := blend o.model.c1 m.c1 a c.span
                            c2 := blend o.model.c2 m.c2 a c.span, c3 := blend o.model.c3 m.c3 a c.span } } }
      if c.settled then { c with glazing := false } else c

/-- Lanes of a band report values being glazed in. -/
def State.glazed (s : State) (lower : Bool) : Bool :=
  let c := s.cal
  let moved (l t : List Int) (k : Nat) : Bool := l.getD k 0 != t.getD k 0
  c.glazing &&
    ((lower && moved c.values.dib c.slot.values.dib s.trk.primary) ||
      [0, 1, 2].any fun a => moved c.values.phi c.slot.values.phi (2 * a + b2n lower) || moved c.values.tau c.slot.values.tau (2 * a + b2n lower))

/-! Settings that take effect at the boundary (02 R55, R74, R76; 05 R180, R200, R202). -/

def Channel.mapLanes (c : Channel) (f : Channel → Bool → TrkLane → TrkLane) : Channel :=
  if c.anchor.isNone then c else { c with upper := f c false c.upper, lower := f c true c.lower }

/-- What an epoch does to the lanes as it sees them and as they stand. -/
def State.modLanes (s : State) (f : Channel → Bool → TrkLane → TrkLane) : State :=
  s.modTrk fun t => { t with channels := t.channels.map (·.mapLanes f), before := t.before.map fun b => (b.1, b.2.mapLanes f) }

/-- What an epoch does to one lane as it sees it and as it stands. -/
def State.amend (s : State) (ch : Nat) (lower : Bool) (f : TrkLane → TrkLane) : State :=
  s.modTrk fun t =>
    { t with channels := vmod t.channels ch fun c => c.modLane lower f
             before := t.before.map fun b => if b.1 = ch then (b.1, b.2.modLane lower f) else b }

/-- Ports that feed a lane: the primary antenna's, and the array arms' (05 R179). -/
def State.lanePorts (s : State) (c : Channel) (lower : Bool) : List Nat :=
  (s.trk.primary :: (List.range 4).filter fun a => bit (s.laneArms c lower) a).map fun a => 2 * a + b2n lower

/-- Lanes fed by a recentred port restart lock (02 R55). -/
def State.lockRestarts (s : State) : State :=
  let ports := s.recentred
  s.modLanes fun c lower l => if l.st != .absent && (s.lanePorts c lower).any ports.contains then l.restart s.now else l

/-- The primary antenna that the profile gives comes into force; a change restarts every lane's lock (R180). -/
def State.switchPrimary (s : State) : State :=
  if s.primaryWanted = s.trk.primary then s
  else
    let s := s.modLanes fun _ _ l => if l.st != .absent then l.restart s.now else l
    let s := s.modTrk fun t => { t with primary := s.primaryWanted }
    { s with nav := { s.nav with
        single := { s.nav.single with count := 0 }
        sats := s.nav.sats.map fun f => { f with cupola := { f.cupola with count := 0 } } } }

/-- A lane whose port is not enabled is not tracked (02 R41); a channel left with no lane goes to IDLE. -/
def State.closeBands (s : State) : State :=
  let shut (lower : Bool) (l : TrkLane) : Bool := l.st != .absent && !s.bandOpen lower
  forUpto 192 (fun ch s =>
    let c := s.chan ch
    if !(shut false c.upper || shut true c.lower) then s
    else
      let u : TrkLane := if shut false c.upper then {} else c.upper
      let l : TrkLane := if shut true c.lower then {} else c.lower
      let s := s.modChan ch fun c => { c with upper := u, lower := l }
      if u.signal = 0 && l.signal = 0 then s.goIdle ch else s) s

def State.boundarySettings (s : State) : State :=
  let s := s.modTrk fun t => { t with cfg := { t.cfg with primary := t.primaryNext.getD t.cfg.primary }, primaryNext := none }
  let s := s.switchPrimary.lockRestarts.applyPorts.applyArray.applyThresholds.applyLoops
  let s := if s.trk.palettePending.isSome then s.modLanes fun _ _ l => l.freshArms s.now else s
  let s := s.modTrk fun t => { t with palette := t.palettePending.getD t.palette, palettePending := none }
  s.closeBands.followLanes

/-! Navigation units (06 R229–R232). -/

/-- Kinds of unit of a signal (R229): KIND, NBITS, number of checks, whether code-symbol differences are counted. -/
def unitKinds (code sv : Nat) : List (Nat × Nat × Nat × Bool) :=
  match code with
  | 0x01 | 0x41 => [(1, 300, 10, false)]
  | 0x02 | 0x42 => [(2, 9, 1, true), (3, 600, 1, true), (4, 274, 1, true)]
  | 0x03 | 0x43 => [(5, 300, 1, true)]
  | 0x11 => [(6, 240, 1, true)]
  | 0x12 => [(7, 244, 1, true)]
  | 0x21 => if 6 ≤ sv ∧ sv ≤ 58 then [(8, 300, 10, false)] else [(9, 300, 10, false)]
  | 0x22 => [(10, 14, 1, true), (11, 600, 1, true), (12, 264, 1, true)]
  | 0x23 => [(13, 288, 1, true)]
  | 0x31 => [(14, 85, 1, false)]
  | 0x51 => [(15, 292, 1, true)]
  | 0x61 => [(16, 250, 1, true)]
  | 0x62 => [(17, 250, 1, true)]
  | _ => []

/-- VERDICT of checks (R231): 0 passed, 1 passed after correction, 2 failed. -/
def unitVerdict (checks : List Nat) : Nat :=
  if checks.all (· == 0) then 0 else if checks.all (· ≤ 1) then 1 else if checks.any (· ≤ 1) then 2 else 3

/-- Bits in bytes, bit 7 of the first byte first; unused low bits 0. -/
def packBits (l : List Bool) : List Byte :=
  (List.range (ceilDiv l.length 8)).map fun i =>
    BitVec.ofNat 8 ((List.range 8).foldl (fun n k => 2 * n + b2n (l.getD (8 * i + k) false)) 0)

/-- Broadcast offsets whose units have passed, the latest of each code. -/
def putOffsets (l new : List ScaleOffset) : List ScaleOffset :=
  new.foldl (fun l o => (l.filter fun x => x.code != o.code) ++ [o]) l

/-- A unit that has passed is kept, the last ten of a satellite. -/
def State.hear (s : State) (sys sv : Nat) (bytes : List Byte) : State :=
  let own (u : NavUnit) : Bool := u.sys == sys && u.sv == sv
  let mine := s.nav.units.filter own
  { s with nav := { s.nav with units := (s.nav.units.filter fun u => !own u) ++ mine.drop (mine.length - 9) ++ [⟨sys, sv, bytes⟩] } }

/-- An ephemeris, assembled from the units kept of its satellite, replaces the one before. -/
def State.putEph (s : State) (e : Ephemeris) : State :=
  let sys := e.signal / 16
  let data := (s.nav.units.filter fun u => u.sys == sys && u.sv == e.sv).map (·.bytes)
  { s with nav := { s.nav with eph := (s.nav.eph.filter fun x => !(x.signal / 16 == sys && x.sv == e.sv)) ++ [{ e with data := data }] } }

/-- The time of week of a unit that began at a DT numbers the code periods: `t` ms into a second (06 R213). -/
def TrkLane.placeUnit (l : TrkLane) (sv dtStart t : Nat) : TrkLane :=
  let period := primaryPeriod l.signal
  l.renumber (l.index sv dtStart) (t / period % (1000 / period)) (1000 / period)

/-- A completed unit acts on its lane and on navigation; its record where it is published. -/
def State.takeUnit (s : State) (u : UnitIn) : State × Option (List Byte) :=
  let c := s.seen u.channel
  let l := c.lane u.lower
  match (unitKinds l.signal c.sv).find? fun k => k.1 == u.kind with
  | none => (s, none)
  | some (kind, nbits, checks, counted) =>
    if u.dtEnd > s.now || c.anchor.isNone then (s, none)
    else if l.st != .track || u.dtStart < l.since then
      (s.amend u.channel u.lower fun l => { l with unitLost := true }, none)
    else
      let words := (List.range checks).map fun k => u.words.getD k 2
      let v := unitVerdict words
      let inverted := if v ≤ 1 then u.inverted else none
      let settle (l : TrkLane) : TrkLane :=
        let l := { l with unitLost := false }
        let l := match u.tow with
          | some t => if v ≤ 1 then { l.placeUnit c.sv u.dtStart t with amb := 2 } else l
          | none => l
        match l.polarity, inverted with
        | none, some b =>
          if hasPilot l.signal then l
          else
            let l := { l with polarity := some b, halfAdj := b && !l.discont }
            let half := l.carrierNow s.now + (cycle / 2 : Nat)
            if b && l.lockFrom == s.now then { l with base := half - half % cycle } else l
        | _, _ => l
      let s := s.amend u.channel u.lower settle
      let packed := packBits ((List.range nbits).map fun k => u.bits.getD k false)
      let s := if v ≤ 2 && !c.twin then s.hear (l.signal / 16) c.sv packed else s
      let s := match u.ephemeris with
        | some secs => if v ≤ 2 && !c.twin then s.putEph { signal := l.signal, sv := c.sv, loaded := false, till := s.now + secs * second } else s
        | none => s
      let s := if v ≤ 1 then { s with nav := { s.nav with decoded := putOffsets s.nav.decoded u.offsets } } else s
      let bytes :=
        le 1 u.channel ++ le 1 l.signal ++ le 1 c.sv ++ le 1 kind ++ le 2 nbits ++ le 1 v ++
          le 1 (bitsOf [(u.lower, 0), (u.inverted == some true, 1), (l.unitLost, 2), (c.twin, 3)]) ++
          le 4 (maskOf checks fun k => decide (words.getD k 2 ≤ 1)) ++
          le 2 (if counted then min 0xFFFF u.symbolErrors else 0) ++ zeros 2 ++ le 8 u.dtStart ++ le 8 u.dtEnd ++ packed
      (s, some bytes)

/-- The units of the epoch act; their records in order. -/
def State.takeUnits (s : State) (us : List UnitIn) : State × List (List Byte) :=
  us.foldl (fun (r : State × List (List Byte)) u =>
    let t := r.1.takeUnit u
    (t.1, match t.2 with | none => r.2 | some b => r.2 ++ [b])) (s, [])

/-! The MEAS_EPOCH record (06 R223–R226). -/

/-- Secondary-code period of the loop component in ms, or the symbol period, at most 1 s (05 R167, R213). -/
def ambSecond (code sv : Nat) : Nat :=
  if code = 0x02 ∨ code = 0x42 ∨ code = 0x22 then 1000
  else if code = 0x03 ∨ code = 0x43 then 20
  else if code = 0x11 ∨ code = 0x12 ∨ code = 0x23 then 100
  else symbolPeriod code sv

/-- Period modulo which TX_TIME is known, in ms. -/
def ambPeriod (l : TrkLane) (sv : Nat) : Nat :=
  if l.amb = 0 then primaryPeriod l.signal else if l.amb = 1 then ambSecond l.signal sv else 1000

/-- The sum of a delay over the engaged notches of a port, at a signal's frequency (02 R57). -/
def Port.notchSum (q : Port) (f : Int → Nat → Int) (carrier : Nat) : Int :=
  ((q.notches.toList.filter (·.engaged)).map fun n => f ((carrier : Int) - q.cfg.centre - n.centre) (widthHz n.width)).sum

/-- The port that serves a lane on the primary antenna. -/
def State.mainPort (s : State) (lower : Bool) : Port := s.port (2 * s.trk.primary + b2n lower)

/-- The DT at which a sample that the correlators take now was on the injection point lies the port's latency, 15 ticks with its delay, earlier:
an observable refers to the epoch's DT once the NCOs have run on so far (R211, 02 R51). -/
def State.refDt (s : State) (lower : Bool) : Nat :=
  let q := s.mainPort lower
  s.now + (rnd ((q.latency + q.delay : Nat) * 2 ^ 32) 81840000).toNat

/-- Transmit time in 2⁻³² s at the reference point, modulo 18 s: the delays of the port, of its engaged notches and, of a lower lane, the primary
antenna's inter-band delay are removed (R211, R212). -/
def State.transmit (s : State) (l : TrkLane) (sv : Nat) (lower : Bool) : Int :=
  match signalRow l.signal with
  | none => 0
  | some r =>
    let ib : Int := if lower then s.cal.values.dib.getD s.trk.primary 0 else 0
    let notch := (s.mainPort lower).notchSum Config.notchDelay (carrierOf r sv)
    rnd (l.codeCount sv (s.refDt lower)) (r.chips * 1024) + rnd ((ib + notch) * 2 ^ 32) (10 ^ 12)

/-- TX_TIME modulo the ambiguity period (R212). -/
def State.txTime (s : State) (l : TrkLane) (sv : Nat) (lower : Bool) : Nat :=
  (s.transmit l sv lower * 1000 % (ambPeriod l sv * second : Nat) / 1000).toNat

/-- Carrier phase in 2⁻³²/1,000 cycle since the last lock restart, at the reference point, with the half cycle of an inverted polarity
(R211, R214, R215). -/
def State.phaseOf (s : State) (l : TrkLane) (sv : Nat) (lower : Bool) : Int :=
  let notch := match signalRow l.signal with
    | none => 0
    | some r => (s.mainPort lower).notchSum Config.notchPhase (carrierOf r sv)
  l.carrierNow (s.refDt lower) - l.base - notch * cycle / 65536 + (if l.polarity == some true then (cycle / 2 : Nat) else 0)

/-- CARRIER in 2⁻¹⁰ cycle. -/
def State.carrierField (s : State) (l : TrkLane) (sv : Nat) (lower : Bool) : Int := rnd (s.phaseOf l sv lower * 1024) cycle

def State.clusterFrozen (s : State) (c : Nat) : Bool := (s.cluster c).frozen || (s.cluster c).restart.isSome

/-- A residue mismatch marks the lane, also one of the epoch's own tick (R235). -/
def State.laneResidue (s : State) (ch : Nat) (lower : Bool) : Bool := ((s.chan ch).lane lower).residue

/-- The lane's entry carries measurements (R221), as it stood at the start of the tick. -/
def State.laneValid (s : State) (ch : Nat) (lower : Bool) : Bool :=
  let c := s.seen ch
  (c.lane lower).st == .track && !s.laneResidue ch lower && !s.clusterFrozen (ch / 48) && !c.claimed

def dopplerField (mhz : Int) : Int := rnd mhz 2

def dopplerSat (mhz : Int) : Bool := decide ((dopplerField mhz).natAbs > 8388607)

def State.laneBytes (s : State) (ch : Nat) (lower : Bool) : List Byte :=
  let c := s.seen ch
  let l := c.lane lower
  if l.st == .absent || l.signal = 0 then zeros 20
  else
    let valid := s.laneValid ch lower
    let tx := s.txTime l c.sv lower
    let carrier := s.carrierField l c.sv lower
    let flags := bitsOf
      [(valid, 0), (s.laneResidue ch lower, 1), (s.clusterFrozen (ch / 48), 2), (c.claimed, 3),
       ((s.lanePorts c lower).any fun p => (s.port p).epochBlank, 4), (l.discont, 5), (!hasPilot l.signal && l.polarity.isNone, 6),
       (l.halfAdj, 7), ((s.mainPort lower).anyNotch, 8), (valid && dopplerSat l.doppler, 9), (hasPilot l.signal, 10), (s.glazed lower, 11)]
    (if valid then
        le 4 tx ++ leInt 4 carrier ++ leInt 3 (clampInt (-8388607) 8388607 (dopplerField l.doppler)) ++ le 1 (l.cn0 4) ++
          le 2 (min 65535 ((s.now - l.lockFrom) * 100 / second)) ++ leInt 2 l.los
      else zeros 11 ++ le 1 (l.cn0 4) ++ zeros 4) ++
      le 1 l.signal ++ le 1 (l.st.code + l.amb * 8 + l.restarts * 32) ++ le 2 flags

/-- Channels that the record lists. -/
def State.listed (s : State) : List Nat := (List.range 192).filter fun ch => !(s.seen ch).out && decide ((s.seen ch).state ≥ 2)

def State.channelBytes (s : State) (ch : Nat) : List Byte :=
  let c := s.seen ch
  le 1 ch ++ le 1 c.sv ++ le 1 c.state ++
    le 1 (bitsOf [(c.twin, 0), (decide (c.slot ≥ 48), 1), (c.palette, 2), (decide (c.present.length < 2), 3), (c.anchor == some 0x31, 4)]) ++
    s.laneBytes ch false ++ s.laneBytes ch true

def State.measEpoch (s : State) (step : Bool) : List Byte :=
  let l := s.listed
  le 4 s.trk.epochs.no ++ le 1 s.trk.epochs.rate ++
    le 1 (maskOf 4 s.clusterFrozen + bitsOf [(step, 4), (decide (s.alignCode = 0 ∨ s.alignCode = 3), 5)]) ++
    le 1 (maskOf 8 fun p => (s.port p).lane == .locked) ++ le 1 (maskOf 8 fun p => (s.port p).epochBlank && (s.port p).lane != .off) ++
    le 1 l.length ++ le 1 s.trk.primary ++ leInt 2 s.nav.temperature ++ zeros 4 ++ l.flatMap s.channelBytes

/-! MULTIPATH (06 R228), INTERFERENCE (07 R264), NAV_SYMBOLS (06 R233, R234). -/

def fitBytes (ch : Nat) (lower : Bool) (l : TrkLane) : List Byte :=
  let two (k : Nat) : List Byte := match l.reflections[k]? with | none => zeros 2 | some r => le 1 r.1 ++ leInt 1 r.2
  le 1 ch ++ le 1 (b2n lower + 2 * l.reflections.length) ++ two 0 ++ two 1 ++ le 1 (min 255 l.residual) ++ le 1 0

def State.multipathRecord (s : State) (cause : Nat) : State :=
  let e := s.trk.epochs
  if !e.mpDue then s
  else if !s.interp.mpNow then s.modTrk fun t => { t with epochs := { e with mpDue := false } }
  else if e.lastMp.any fun d => s.now < d + ms 100 then s
  else
    let es := (List.range 192).flatMap fun ch => [false, true].filterMap fun lower =>
      let l := (s.chan ch).lane lower
      if l.st == .track && !l.reflections.isEmpty then some (fitBytes ch lower l) else none
    let s := s.domeRecord 8 cause 0x41 s.now (le 2 es.length ++ le 2 s.trk.palette.avg ++ zeros 4 ++ es.flatten)
    s.modTrk fun t => { t with epochs := { t.epochs with mpDue := false, lastMp := some s.now } }

/-- Interference state of a port (02 R71): 0 QUIET, 1 ELEVATED, 2 HIGH. -/
def State.jState (s : State) (p : Nat) : Nat :=
  let q := s.port p
  if q.lane == .off then 0 else if q.jMax ≥ s.input.jAlert then 2 else if q.jMax ≥ s.input.jCaution then 1 else 0

def State.interferenceRecord (s : State) (cause : Nat) : State :=
  let s := { s with nav := { s.nav with worstJ := ((List.range 8).filter fun p => (s.port p).cfg.enable).foldl (fun m p => max m (s.jState p)) 0 } }
  s.domeRecord 12 cause 0x60 s.now
    (le 4 s.trk.epochs.no ++ (List.range 8).flatMap fun p =>
      let q := s.port p
      le 1 (if q.lane == .off then 0 else q.jMax) ++
        le 1 (s.jState p + bitsOf [(q.agcLimit, 2), (q.stuck, 3)] + 16 * maskOf 4 (fun k => (vget q.notches k).engaged)) ++
        le 1 q.word ++ le 1 q.lane.code)

def symbolValue (levels : List Nat) (i : Int) : Int := clampInt (-127) 127 (roundDiv (32 * i * levels.length) (max 1 levels.sum))

/-- The symbols of one lane, where a record is due; with NAV_MODE 0 they are not kept. -/
def State.laneSymbols (s : State) (cause ch : Nat) (lower : Bool) : State :=
  let c := s.chan ch
  let l := c.lane lower
  let set (s : State) (l : TrkLane) : State := s.modTrk fun t => { t with channels := vmod t.channels ch fun c => c.setLane lower l }
  if l.symbols.isEmpty then s
  else if s.interp.navNow = 0 then set s { l with symbols := [] }
  else if l.symbols.length < 100 && s.now < l.symFrom + second then s
  else
    let out := l.symbols.take 500
    let s := s.domeRecord 9 cause 0x51 s.now
      (le 1 ch ++ le 1 l.signal ++ le 1 c.sv ++ le 1 (bitsOf [(lower, 0), (l.symHalf, 1)]) ++
        le 2 out.length ++ le 2 (min 0xFFFF l.symbolsLost) ++ le 8 l.symFrom ++ out.flatMap fun i => leInt 1 (symbolValue l.levels i))
    set s { l with symbols := l.symbols.drop 500, symbolsLost := 0
                   symFrom := l.symFrom + ms (out.length * symbolPeriod l.signal c.sv) }

def State.symbolRecords (s : State) (cause : Nat) : State :=
  forUpto 192 (fun ch s => if (s.chan ch).anchor.isNone then s else (s.laneSymbols cause ch false).laneSymbols cause ch true) s

/-- The records of the epoch in Q8 and Q9 and the INTERFERENCE record. -/
def State.epochRecords (s : State) (cause : Nat) (step : Bool) (units : List (List Byte)) : State :=
  let s := s.domeRecord 8 cause 0x40 s.now (s.measEpoch step)
  let s := s.multipathRecord cause
  let s := if s.interp.navNow = 1 then s else units.foldl (fun s b => s.domeRecord 9 cause 0x50 s.now b) s
  (s.symbolRecords cause).interferenceRecord cause

/-- A lane's marks end with the epoch that has shown them; a lock restart that the epoch did not see stays marked (R210). -/
def TrkLane.clearMarks (l seen : TrkLane) : TrkLane :=
  { l with discont := l.discont && decide (l.restarts ≠ seen.restarts), halfAdj := false, residue := false }

/-- The marks of an epoch interval end with its epoch. -/
def State.endInterval (s : State) : State :=
  let clear (i : Fin 192) : Channel :=
    let c := s.chan i.val
    let o := s.seen i.val
    { c with upper := c.upper.clearMarks o.upper, lower := c.lower.clearMarks o.lower }
  let s := s.modTrk fun t => { t with channels := Vector.ofFn clear }
  let s := s.modTrk fun t => { t with clusters := t.clusters.map fun c => { c with frozen := c.restart.isSome } }
  s.modInput fun i => { i with ports := i.ports.map fun q =>
    { q with jMax := 0, epochBlank := q.lane != .locked || decide (s.clk.tick + 1 < q.blankTill) } }

/-- The epoch has taken place. -/
def State.countEpoch (s : State) : State :=
  s.modTrk fun t =>
    { t with epochs := { t.epochs with no := (t.epochs.no + 1) % 2 ^ 32, last := some s.now, point := some s.gridAt } }

/-- A rate change takes effect at an epoch on a whole second (06 R209), NAV_MODE at any epoch (12 R429). -/
def State.applyRate (s : State) : State :=
  let s := { s with interp := { s.interp with navNow := s.interp.navMode } }
  if s.wholeSecond then
    { s with interp := { s.interp with measNow := s.interp.meas } }.modTrk fun t => { t with epochs := { t.epochs with rate := s.profileRate } }
  else s

end Sys2Proof.Machine
end

