-- ==== Sys2Proof/Machine/Range.lean ====
section
/-! DEFINITION. What the solver takes from lanes: pseudoranges and their corrections, the quantities of the per-satellite checks, the phase
differences of the array (07 R238–R240, R247, R249, R253–R257, 10 R355). -/

namespace Sys2Proof.Machine

/-! Pseudoranges (06 R212, 07 R237, R238). -/

/-- Receive time of the epoch in 2⁻³² s: its DT under the mapping of the segment; system times differ from GPS time by whole seconds and by what the
solution estimates (R240). -/
def State.receiveTime (s : State) : Int := match s.nav.sol with | none => s.now | some m => m.gps s.now

/-- Flight time in 2⁻³² s: receive less transmit time modulo the ambiguity period, with the whole periods that an earlier solution resolves. -/
def State.flight (s : State) (l : TrkLane) (sv : Nat) (lower : Bool) (whole : Nat) : Int :=
  let period : Nat := ambPeriod l sv * second
  (s.receiveTime - s.transmit l sv lower) * 1000 % (period : Nat) / 1000 + (if l.amb = 2 then 0 else (whole * period / 1000 : Nat))

/-- Metres of light over 2⁻³² s and over ps, in mm. -/
def lightMm (t : Int) : Int := rnd (t * 299792458000) (2 ^ 32)
def lightPs (t : Int) : Int := rnd (t * 299792458) (10 ^ 9)

/-- Units of navigation data that carry what a satellite broadcasts of itself, and what its system does. -/
def State.ephData (s : State) (sys sv : Nat) : List (List Byte) :=
  match s.nav.eph.find? fun e => e.signal / 16 == sys && e.sv == sv && decide (s.now < e.till) with
  | none => []
  | some e => e.data

def State.systemData (s : State) (sys : Nat) : List (List Byte) := (s.nav.units.filter fun u => u.sys == sys).map (·.bytes)

/-- Pseudorange of a lane in mm, less the satellite's broadcast group delay. -/
def State.pseudorange (s : State) (l : TrkLane) (sv : Nat) (lower : Bool) (whole : Nat) : Int :=
  lightMm (s.flight l sv lower whole) - lightPs (Config.groupDelay l.signal (s.ephData (l.signal / 16) sv))

/-- Carrier phase of a lane as a length in mm. -/
def State.phaseRange (s : State) (l : TrkLane) (sv : Nat) (lower : Bool) : Int :=
  match signalRow l.signal with
  | none => 0
  | some r => rnd (s.phaseOf l sv lower * 299792458000) (cycle * carrierOf r sv)

/-- (f_u² U − f_l² L) / (f_u² − f_l²) of two lengths (R238). -/
def ionFree (fu fl : Nat) (u l : Int) : Int := rnd ((fu ^ 2 : Nat) * u - (fl ^ 2 : Nat) * l) (fu ^ 2 - fl ^ 2)

/-- Implied slant delay of the upper band in mm (R249): (P_l − P_u) / (f_u² / f_l² − 1). -/
def ionDelay (fu fl : Nat) (u l : Int) : Int := rnd ((l - u) * (fl ^ 2 : Nat)) (fu ^ 2 - fl ^ 2)

/-- Carrier of a lane's signal in Hz. -/
def TrkLane.carrierHz (l : TrkLane) (sv : Nat) : Nat := match signalRow l.signal with | none => 1 | some r => carrierOf r sv

/-- Ionosphere of a single-band satellite in mm: its system's broadcast model, or the GPS model scaled by (1,575.42 MHz / f)² where the system
broadcasts none, as GLONASS (R238). -/
def State.ionModel (s : State) (sys f : Nat) (i : SatIn) : Int :=
  if sys = 3 then rnd (Config.ionosphere 0 (s.systemData 0) i.dir s.priorAt s.receiveTime * 1575420000 ^ 2) (f ^ 2)
  else Config.ionosphere f (s.systemData sys) i.dir s.priorAt s.receiveTime

/-! Corrections (07 R239, R240). -/

/-- Saastamoinen zenith delays of a standard atmosphere under the Niell mapping functions, dry and wet, in mm. -/
def troposphere (height : Int) (lat : Int) (el : Int) : Int :=
  rnd (Config.zenithDry height * Config.niellDry lat height el + Config.zenithWet height * Config.niellWet lat el) (10 ^ 6)

/-- A used satellite's range with the corrections of R238 and R239: the ionosphere, the troposphere, the satellite's clock and its relativistic
term from broadcast ephemeris; its orbit, turned with the Earth during the signal's flight. -/
def State.rangeOf (s : State) (ch : Nat) (i : SatIn) (cn0 : Nat) : RangeIn :=
  let c := s.seen ch
  let up := s.laneValid ch false
  let low := s.laneValid ch true
  let sys := c.anchor.getD 0 / 16
  let w := i.whole.getD 0
  let pu := s.pseudorange c.upper c.sv false w
  let pl := s.pseudorange c.lower c.sv true w
  let f := (c.lane (!up)).carrierHz c.sv
  let p := if up && low then ionFree (c.upper.carrierHz c.sv) (c.lower.carrierHz c.sv) pu pl
    else (if up then pu else pl) - s.ionModel sys f i
  let flight := s.flight (c.lane (!up)) c.sv (!up) w
  let sent := s.receiveTime - flight
  let data := s.ephData sys c.sv
  let clock := Config.satelliteClock data sent + Config.relativity data sent
  { ch := ch
    range := p - troposphere s.priorAt.2.2 s.priorAt.1 i.dir.1 + lightPs clock
    place := Config.earthTurned (Config.orbit data sent) flight
    weight := min 4000000 (max 10000 (Config.rangeWeight i.dir.1 cn0)) }

/-! Code–carrier divergence (07 R247). -/

/-- M = P − Φ of a satellite in mm: of the ionosphere-free combinations where both lanes are VALID, else of its lane. -/
def State.codeMinusCarrier (s : State) (ch : Nat) (up low : Bool) (whole : Nat) : Int :=
  let c := s.seen ch
  let m (l : TrkLane) (lower : Bool) : Int := s.pseudorange l c.sv lower whole - s.phaseRange l c.sv lower
  if up && low then ionFree (c.upper.carrierHz c.sv) (c.lower.carrierHz c.sv) (m c.upper false) (m c.lower true)
  else if up then m c.upper false else m c.lower true

/-- Slope of points (DT, mm) by least squares as a fraction in mm/s: numerator and denominator. -/
def slopeOf (l : List (Nat × Int)) : Int × Nat :=
  let t0 := (l.map (·.1)).foldl min ((l.headD (0, 0)).1)
  let p := l.map fun x => ((x.1 - t0 : Nat), x.2)
  let n := p.length
  let st := (p.map (·.1)).sum
  let sm := (p.map (·.2)).sum
  let stt := (p.map fun x => x.1 * x.1).sum
  let stm := (p.map fun x => (x.1 : Int) * x.2).sum
  (((n : Int) * stm - st * sm) * 2 ^ 32, n * stt - st * st)

/-- The series of a satellite takes a value: the exponential average of 100 s restarts with `lock`, what the lanes' locks are, and the last 10 s
are kept. -/
def Divergence.see (d : Divergence) (lock : List Nat) (m : Int) (now : Nat) : Divergence :=
  if d.lock ≠ lock then { lock := lock, mean := m, last := now, points := [(now, m)] }
  else
    { lock := lock, mean := d.mean + rnd ((m - d.mean) * Config.decay (now - d.last)) (2 ^ 32), last := now
      points := (now, m) :: d.points.filter fun x => decide (now ≤ x.1 + 10 * second) }

/-- The condition: dual-band |M − M̄| > CCD_IF, single-band |slope| > CCD_RATE. -/
def Divergence.condition (d : Divergence) (g : IntegConfig) (dual : Bool) (m : Int) : Bool :=
  if dual then decide ((m - d.mean).natAbs > g.ccdIf * 1000)
  else decide ((slopeOf d.points).1.natAbs > g.ccdRate * 10 * (slopeOf d.points).2)

/-! Array phases (07 R253–R257, 10 R355). -/

/-- φ_cal,a in 2⁻¹⁶ cycle (10 R355): (φ_a − φ_p) + (f − f_inj) (τ_a − τ_p), with f_inj = CENTRE_HZ + 4,092,000 Hz (R357). -/
def State.phiCal (s : State) (a : Nat) (lower : Bool) (f : Nat) : Int :=
  let at_ (l : List Int) (a : Nat) : Int := if a = 0 then 0 else l.getD (2 * (a - 1) + b2n lower) 0
  let v := s.cal.values
  let p := s.trk.primary
  let inj : Nat := (s.mainPort lower).cfg.centre + 4092000
  at_ v.phi a - at_ v.phi p + rnd (((f : Int) - inj) * (at_ v.tau a - at_ v.tau p) * 65536) (10 ^ 12)

/-- A phase in 2⁻¹⁶ cycle reduced to [−0.5, +0.5) cycle. -/
def wrapPhase (z : Int) : Int := (z + 32768) % 65536 - 32768

/-- Δφ of an array antenna on a lane (R253): the argument of the products of the last 100 ms less φ_cal. -/
def State.phaseDifference (s : State) (l : TrkLane) (sv : Nat) (lower : Bool) (a : Nat) : Int :=
  let p := l.pairs.map fun x => x.2.getD a (0, 0)
  wrapPhase (Config.angle (p.map (·.2)).sum (p.map (·.1)).sum - s.phiCal a lower (l.carrierHz sv))

/-- Baseline of an antenna from the primary, in 0.1 mm. -/
def State.baseline (s : State) (a : Nat) : Int × Int × Int :=
  let g := s.input.array
  let d (k : Nat) : Int := g.at a k - g.at s.trk.primary k
  (d 0, d 1, d 2)

/-- Wrapped residuals of a channel's satellite, seen in a direction, at an attitude: one for each VALID lane and array arm of it (R254, R256). -/
def State.phaseResiduals (s : State) (att : Int × Int × Int) (dir : Int × Nat) (ch : Nat) : List Int :=
  let c := s.seen ch
  [false, true].flatMap fun lower =>
    let l := c.lane lower
    if !s.laneValid ch lower || l.pairs.isEmpty then []
    else ((List.range 4).filter fun a => bit (s.laneArms c lower) a).map fun a =>
      wrapPhase (s.phaseDifference l c.sv lower a - Config.baselinePhase att (s.baseline a) dir (l.carrierHz c.sv))

/-- Eigenvalues with elementary symmetric functions (e1, e2, e3) all lie at or above `x`. -/
def allAbove (e : Int × Int × Int) (x : Int) : Bool :=
  decide (3 * x ≤ e.1) && decide (0 ≤ e.2.1 - 2 * x * e.1 + 3 * x * x) && decide (0 ≤ e.2.2 - x * e.2.1 + x * x * e.1 - x * x * x)

/-- The largest of such eigenvalues, its whole part, from bit `k` down. -/
def largestFrom : Nat → Int × Int × Int → Int → Int
  | 0, _, acc => acc
  | k + 1, e, acc =>
    let x : Int := acc + (2 ^ k : Nat)
    largestFrom k e (if allAbove (-e.1, e.2.1, -e.2.2) (-x) then acc else x)

def dot3 (a b : Int × Int × Int) : Int := a.1 * b.1 + a.2.1 * b.2.1 + a.2.2 * b.2.2

/-- Antennas with these baselines count as collinear (R255): the smallest singular value of the baseline matrix is less than 0.05 times the
largest, its square less than 1/400. -/
def collinear : List (Int × Int × Int) → Bool
  | [a, b] =>
    let t := dot3 a a + dot3 b b
    decide ((dot3 a a * dot3 b b - dot3 a b * dot3 a b) * 401 ^ 2 < 400 * (t * t))
  | [a, b, c] =>
    let aa := dot3 a a; let bb := dot3 b b; let cc := dot3 c c; let ab := dot3 a b; let ac := dot3 a c; let bc := dot3 b c
    let e := (aa + bb + cc, aa * bb - ab * ab + (aa * cc - ac * ac) + (bb * cc - bc * bc),
      aa * (bb * cc - bc * bc) - ab * (ab * cc - bc * ac) + ac * (ab * bc - bb * ac))
    !allAbove (400 * e.1, 400 ^ 2 * e.2.1, 400 ^ 3 * e.2.2) (largestFrom 40 e 0)
  | _ => true

/-- The integer square root, from bit `k` down. -/
def sqrtFrom : Nat → Nat → Nat → Nat
  | 0, n, acc => if (acc + 1) * (acc + 1) ≤ n then acc + 1 else acc
  | k + 1, n, acc => let c := acc + 2 ^ (k + 1); sqrtFrom k n (if c * c ≤ n then c else acc)

/-- Rms of phases in 2⁻¹⁶ cycle, in 1/1,000 cycle; of none, none. -/
def rmsPhase (l : List Int) : Option Nat :=
  if l.isEmpty then none else some (sqrtFrom 10 ((l.map fun z => z.natAbs * z.natAbs).sum * 1000000 / (l.length * 2 ^ 32)) 0)

end Sys2Proof.Machine
end

