-- ==== Sys2Proof/Machine/Nav.lean ====
section
/-! DEFINITION. Solutions, consistency checks, exclusion, verdicts and their records (07 R236–R271). -/

namespace Sys2Proof.Machine

/-- A flag sees its condition at a solution: set after `n` in a row, cleared after 10 s without it. -/
def Watchful.see (w : Watchful) (cond : Bool) (n now : Nat) : Watchful :=
  if cond then { count := w.count + 1, set := w.set || decide (w.count + 1 ≥ n), falseFrom := none }
  else
    let from_ := w.falseFrom.getD now
    { count := 0, set := w.set && decide (now < from_ + 10 * second), falseFrom := some from_ }

/-! Satellites at a solution (07 R237). -/

/-- A satellite with a VALID lane: its channel, system, loop-component C/N0 and that less C_exp in 0.01 dB, what the solver
computes of it, its Cupola residual at a fit. -/
structure Sat where
  ch : Nat
  sys : Nat
  sv : Nat
  up : Bool
  low : Bool
  cn0 : Nat
  dev : Int
  x : SatIn
  cupola : Option Nat := none
  usable : Bool
  loaded : Bool
  masked : Bool
  candidate : Bool
  deriving Inhabited

def Sat.dual (a : Sat) : Bool := a.up && a.low

/-- C_exp(el) in 0.01 dB-Hz (R248). -/
def IntegConfig.expected (c : IntegConfig) (el : Int) : Int :=
  (c.cn0Zen * 100 : Nat) - rnd (((c.cn0Zen - c.cn0Hor) * 100 : Nat) * Config.cosine el) (10 ^ 6)

/-- The confirmed twin that a channel belongs to. -/
def State.twinOf (s : State) (ch : Nat) : Option Twin :=
  if s.pwr.profile ≠ 2 then none
  else s.easel.watch.twins.find? fun t => t.confirmed && (t.channel == ch || t.own == ch)

/-- A peak that R251 leaves out: a twin, or the tracked peak whose twin is authentic, or both where neither is. -/
def State.peakOut (s : State) (ch : Nat) : Bool :=
  match s.twinOf ch with
  | none => (s.chan ch).twin
  | some t => if t.resolution = 1 then t.own == ch else if t.resolution = 2 then t.channel == ch else true

/-- The antennas with an array arm on a VALID lane. -/
def State.armsInUse (s : State) : List Nat :=
  (List.range 4).filter fun a => (List.range 192).any fun ch => [false, true].any fun lower =>
    s.laneValid ch lower && bit (s.laneArms (s.seen ch) lower) a

/-- The fit solves all three angles, where the antennas are not collinear (R255). -/
def State.threeAngles (s : State) : Bool := !collinear (s.armsInUse.map s.baseline)

/-- The fitted attitude; without a third angle, the roll of the body is 0. -/
def State.solvedAngles (s : State) (x : SolveIn) : Int × Int × Int := (x.heading, x.pitch, if s.threeAngles then x.roll else 0)

/-- The solver's entry of a channel. -/
def solvedSat (x : SolveIn) (ch : Nat) : SatIn := (x.sats.find? fun i => i.channel == ch).getD { (default : SatIn) with channel := ch }

/-- A channel's satellite at a solution, if it has a VALID lane; `fit`: an attitude fit is due. -/
def State.satAt (s : State) (x : SolveIn) (fit : Bool) (ch : Nat) : Option Sat :=
  let c := s.seen ch
  let up := s.laneValid ch false
  let low := s.laneValid ch true
  match c.anchor with
  | none => none
  | some anchor =>
    if !(up || low) then none
    else
      let sys := anchor / 16
      let i := solvedSat x ch
      let l := c.lane (!up)
      let cn0 := l.cn0 100
      let eph := s.nav.eph.find? fun e => e.signal / 16 == sys && e.sv == c.sv && decide (s.now < e.till)
      let masked := decide (i.elevation < s.nav.cfg.elev) || decide (cn0 < s.nav.cfg.cn0 * 100)
      let resolved := l.amb == 2 || (up && c.upper.amb == 2) || (low && c.lower.amb == 2) || (i.whole.isSome && s.nav.sol.isSome)
      some { ch := ch, sys := sys, sv := c.sv, up := up, low := low, cn0 := cn0
             dev := cn0 - s.nav.integ.expected i.elevation, x := i
             cupola := if s.pwr.profile = 2 && fit then rmsPhase (s.phaseResiduals (s.solvedAngles x) i.dir ch) else none
             usable := eph.isSome, loaded := eph.any (·.loaded), masked := masked
             candidate := decide (sys < 6) && bit s.nav.cfg.use sys && eph.isSome && !masked && resolved && (!c.twin || (s.twinOf ch).isSome) }

def State.satsAt (s : State) (x : SolveIn) (fit : Bool) : List Sat := (List.range 192).filterMap (s.satAt x fit)

/-! Consistency checks per satellite (07 R246–R249, R256). -/

/-- The code–carrier check of a satellite is active: 20 s of lock on each VALID lane. -/
def State.ccdActive (s : State) (a : Sat) : Bool :=
  let c := s.seen a.ch
  let ok (v : Bool) (l : TrkLane) : Bool := !v || decide (s.now ≥ l.lockFrom + 20 * second)
  ok a.up c.upper && ok a.low c.lower

def State.satFlags (s : State) (ch : Nat) : SatFlags := vget s.nav.sats ch

/-- I_u out of its range, or ΔD = DOPPLER_u − DOPPLER_l × f_u / f_l past its limit (R249). -/
def State.crossBand (s : State) (a : Sat) : Bool :=
  let c := s.seen a.ch
  let g := s.nav.integ
  let w := a.x.whole.getD 0
  let fu := c.upper.carrierHz c.sv
  let fl := c.lower.carrierHz c.sv
  let i := ionDelay fu fl (s.pseudorange c.upper c.sv false w) (s.pseudorange c.lower c.sv true w)
  decide (i < -(g.xbNeg * 1000 : Nat)) || decide (i > (g.xbMax * 1000 : Nat)) ||
    decide ((c.upper.doppler * fl - c.lower.doppler * fu).natAbs > g.xbDop * 100 * fl)

/-- The checks of one satellite at a solution; `fit`: an attitude fit takes place. -/
def State.checkSat (s : State) (fit : Bool) (a : Sat) : State :=
  let g := s.nav.integ
  let full := s.pwr.profile == 2
  let who := some ((s.chan a.ch).anchor.getD 0, a.sv)
  let f := s.satFlags a.ch
  let f := if f.who = who then f else { who := who }
  let dual := full && a.dual
  let c := s.seen a.ch
  let low := a.low && (full || !a.up)
  let m := s.codeMinusCarrier a.ch a.up low (a.x.whole.getD 0)
  let series := f.series.see [b2n a.up, c.upper.lockFrom, b2n low, c.lower.lockFrom] m s.now
  let ccd := s.ccdActive a && series.condition g dual m
  let cross := s.crossBand a
  let f := { f with
    series := series
    ccd := f.ccd.see ccd 3 s.now
    high := f.high.see (decide (a.dev > (g.cn0High * 50 : Nat))) 3 s.now
    sky := f.sky.see (a.usable && decide (a.cn0 ≥ 3000) && decide (a.x.elevation < -5)) 1 s.now
    cross := if dual then f.cross.see cross 3 s.now else if full then f.cross else {}
    cupola := if !full then {} else match fit, a.cupola with
      | true, some r => f.cupola.see (decide (r > g.cupSat * 10)) 3 s.now
      | _, _ => f.cupola }
  s.modNav fun n => { n with sats := vset n.sats a.ch f }

/-- A satellite's flags lead to its exclusion (R252 step 1). -/
def State.flagged (s : State) (ch : Nat) : Bool :=
  let f := s.satFlags ch
  f.ccd.set || f.high.set || f.sky.set || f.cross.set || f.cupola.set

/-! Twins (07 R251). -/

/-- The judgement of a pair by the Cupola residuals of tracked peak and twin, else by their range residuals: resolution and method. -/
def judgePair (sat : Nat) (cupola : Option Nat × Option Nat) (t : TwinIn) : Nat × Nat :=
  let by1 : Nat := match cupola with
    | (some a, some b) => if a ≤ sat ∧ b > 2 * sat then 1 else if b ≤ sat ∧ a > 2 * sat then 2 else 0
    | _ => 0
  if by1 ≠ 0 then (by1, 1)
  else
    let (a, b) := t.residual
    if a ≤ 300 ∧ b ≥ 1000 then (1, 2) else if b ≤ 300 ∧ a ≥ 1000 then (2, 2) else (0, 0)

/-- Unresolved pairs whose peaks are both tracked are judged; a change writes a further TWIN_CONFIRMED record. -/
def State.judgeTwins (s : State) (x : SolveIn) (fit : Bool) (cause : Nat) : State :=
  if s.pwr.profile ≠ 2 then s
  else s.easel.watch.twins.foldl (fun s t =>
    if !t.confirmed || t.resolution ≠ 0 || t.own ≥ 192 || (s.chan t.channel).state ≠ 4 || (s.chan t.own).state ≠ 4 then s
    else match x.twins.find? fun i => i.channel == t.channel with
      | none => s
      | some i =>
        let rms (ch : Nat) : Option Nat := if fit then rmsPhase (s.phaseResiduals (s.solvedAngles x) (solvedSat x t.channel).dir ch) else none
        let (res, how) := judgePair (s.nav.integ.cupSat * 10) (rms t.channel, rms t.own) i
        if res = 0 then s
        else
          let u := { t with resolution := res, method := how }
          (s.modWatch fun w => { w with twins := w.twins.map fun v => if v == t then u else v }).twinRecord 0x65 cause s.now u) s

/-! Exclusion and the solver's satellites (07 R240, R241, R252). -/

def countSys (l : List Sat) (sys : Nat) : Nat := (l.filter (·.sys == sys)).length

/-- Satellites that can be used: a system other than GPS with one needs its broadcast offset, which has the code of the system and 1. -/
def State.solvable (s : State) (l : List Sat) : List Sat :=
  l.filter fun a => a.sys == 0 || decide (countSys l a.sys ≥ 2) || s.nav.decoded.any fun o => o.code == a.sys + 1

/-- Position, clock bias, and one bias for each other system with at least two satellites. -/
def unknowns (l : List Sat) : Nat := 4 + ([1, 2, 3, 4, 5].filter fun k => decide (countSys l k ≥ 2)).length

/-- The residual test drops at most two satellites, each at a redundancy of at least 2. -/
def State.dropResiduals (s : State) (l : List Sat) (dropped : List Nat) : List Sat × List Nat :=
  (dropped.take 2).foldl (fun (r : List Sat × List Nat) ch =>
    if r.1.any (fun a => a.ch == ch) && decide (r.1.length ≥ unknowns r.1 + 2) then
      (s.solvable (r.1.filter fun a => a.ch != ch), r.2 ++ [ch])
    else r) (s.solvable l, [])

/-- What a solution comes to. -/
structure Judged where
  sats : List Sat
  used : List Sat
  out : List Nat
  dropped : List Nat
  type : Nat
  globals : Nat
  grade : Nat
  attitude : Option Nat := none
  single : Option Nat := none
  jump : Int := 0
  deriving Inhabited

def Judged.isUsed (j : Judged) (ch : Nat) : Bool := j.used.any fun a => a.ch == ch
def Judged.excluded (j : Judged) : Nat := j.out.length + j.dropped.length

/-! Global flags (07 R248, R250, R257, R259, R267). -/

/-- The enabled ports that feed the VALID lanes of satellites. -/
def State.satPorts (s : State) (l : List Sat) : List Nat :=
  (l.flatMap fun a =>
    let c := s.chan a.ch
    (if a.up then s.lanePorts c false else []) ++ (if a.low then s.lanePorts c true else [])).filter fun p => (s.port p).cfg.enable

def worst (l : List Nat) : Nat := l.foldl max 0

/-- An array arm exists on a VALID lane. -/
def State.hasArms (s : State) (l : List Sat) : Bool := l.any fun a => s.arrayArms (s.chan a.ch) != 0

/-- b_k − b_(k−1) − RATE_(k−1) × Δt between consecutive solutions of a segment, in 10⁻¹² of 2⁻³² s (R250). -/
def State.clockJump (s : State) (x : SolveIn) : Option Int :=
  s.nav.lastRate.map fun (r, d, g) => ((x.gps : Int) - g - ((s.now : Int) - d)) * 10 ^ 12 - r * ((s.now : Int) - d)

/-- The clock checks (R250) at a solution with a clock. -/
def State.checkClock (s : State) (x : SolveIn) : State :=
  let g := s.nav.integ
  let runs := s.pwr.profile == 1 || s.pwr.profile == 2
  if !runs || !s.cal.values.model.valid then
    s.modNav fun n => { n with drift := {}, driftFrom := none, jumpTill := none }
  else
    let u := s.cal.uModel s.nav.temperature
    let off := (x.rate - s.cal.rModel s.nav.temperature).natAbs
    let bad := decide (off > max (g.clkDrift * 10000) (3 * u))
    let from_ := if bad then some (s.nav.driftFrom.getD s.now) else none
    let drift := if bad then
        { count := 0, set := s.nav.drift.set || from_.any (fun d => decide (s.now ≥ d + 10 * second)), falseFrom := none }
      else s.nav.drift.see false 1 s.now
    let jump := match s.nav.lastRate, s.clockJump x with
      | some (_, d, _), some z => decide (z.natAbs > g.clkJump * 1000 * second + u * (s.now - d))
      | _, _ => false
    s.modNav fun n =>
      { n with drift := drift, driftFrom := from_, jumpTill := if jump then some (s.now + 60 * second) else n.jumpTill }

/-- The standard deviation of C/N0 − C_exp is below a limit in 0.01 dB. -/
def flatSky (l : List Int) (limit : Nat) : Bool :=
  decide ((l.length : Int) * (l.map fun z => z * z).sum - l.sum * l.sum < ((l.length * limit) ^ 2 : Nat))

/-- Rms of the residuals of satellites at the fitted attitude, and for one direction in place of their own (R254, R257). -/
def State.attitudeRms (s : State) (x : SolveIn) (l : List Sat) : Option Nat := rmsPhase (l.flatMap fun a => s.phaseResiduals (s.solvedAngles x) a.x.dir a.ch)
def State.singleRms (s : State) (x : SolveIn) (l : List Sat) : Option Nat := rmsPhase (l.flatMap fun a => s.phaseResiduals (s.solvedAngles x) x.single a.ch)

/-- The largest angle between two directions, in 0.01°. -/
def spanOf (l : List (Int × Nat)) : Nat := l.foldl (fun m a => l.foldl (fun m b => max m (Config.separation a b)) m) 0

/-- CN0_FLAT and CUPOLA_SINGLE. -/
def State.checkGlobal (s : State) (x : SolveIn) (cands : List Sat) (used : List Sat) (fit : Bool) : State :=
  let g := s.nav.integ
  let els := cands.map (·.x.elevation)
  let span := els.foldl max (els.headD 0) - els.foldl min (els.headD 0)
  let flat := decide (cands.length ≥ 6) && decide (span ≥ 30) && flatSky (cands.map (·.dev)) (g.cn0Flat * 10)
  let part := used.filter (·.cupola.isSome)
  let single := decide (part.length ≥ 5) && decide (spanOf (part.map (·.x.dir)) ≥ 3000) &&
    (s.singleRms x used).any (fun r => decide (r ≤ g.cupSingle * 10)) && (s.attitudeRms x used).any (fun r => decide (r ≥ g.cupAtt * 10))
  s.modNav fun n =>
    let t := if fit then n.single.see single 3 s.now else n.single
    { n with flat := n.flat.see flat 10 s.now
             single := if s.pwr.profile = 2 then t else {}
             singles := if t.set && !n.single.set && s.pwr.profile = 2 then sat16 n.singles else n.singles }

/-- Grade of R259 and R260 from the GLOBAL flags; `caution`: exclusions or suspects. -/
def gradeOf (g : Nat) (caution : Bool) : Nat :=
  let families := [bit g 0, bit g 1 || bit g 2, bit g 4 || bit g 7, bit g 8, bit g 6]
  if bit g 3 || bit g 14 || decide ((families.filter id).length ≥ 2) then 3
  else if bit g 6 || bit g 0 || bit g 1 || bit g 2 || bit g 4 || bit g 7 || bit g 8 || bit g 9 || bit g 13 then 2
  else if caution || bit g 5 || bit g 10 || bit g 11 || bit g 12 || bit g 15 || bit g 16 then 1
  else 0

/-- The floor of the profile (R246). -/
def floorOf (profile : Nat) : Nat := if profile = 3 then 2 else if profile = 1 then 1 else 0

/-- WARMUP: the code–carrier check not yet active on at least half of the used satellites, or no previous solution in the
segment for the jump check. -/
def State.warmup (s : State) (used : List Sat) : Bool :=
  decide (2 * (used.filter s.ccdActive).length < used.length) ||
    ((s.pwr.profile == 1 || s.pwr.profile == 2) && s.nav.lastRate.isNone)

/-- The checks, exclusion and grade of a solution point. -/
def State.judge (s : State) (x : SolveIn) (cause : Nat) (fitDue : Bool) : State × Judged :=
  let s := s.judgeTwins x fitDue cause
  let sats := s.satsAt x fitDue
  let full := s.pwr.profile == 2
  let arms := full && s.hasArms sats
  let fit := arms && sats.any (·.cupola.isSome)
  let s := sats.foldl (fun s a => s.checkSat fit a) s
  let s := s.modNav fun n => { n with cupola := arms && (n.cupola || fit) }
  let cands := sats.filter (·.candidate)
  let outs := (cands.filter fun a => s.flagged a.ch || s.peakOut a.ch).map (·.ch)
  let (used, dropped) := s.dropResiduals (cands.filter fun a => !outs.contains a.ch) x.dropped
  let n := unknowns used
  let type := if used.length < n then 0 else if used.length = n then 1 else 2
  let s := s.checkGlobal x cands used fit
  let jumpNs := if type = 0 then 0 else rnd ((s.clockJump x).getD 0) (1000 * second)
  let s := if type = 0 then s else s.checkClock x
  let excluded := outs.length + dropped.length
  let ports := worst ((s.satPorts used).map s.jState)
  let clock := s.pwr.profile == 1 || full
  let globals := bitsOf
    [(s.nav.flat.set, 0), (s.nav.jumpTill.any (fun d => decide (s.now < d)), 1), (s.nav.drift.set, 2), (s.nav.single.set, 3),
     (decide (x.statistic > 256) && decide (used.length > n), 4), (ports == 1, 5), (ports == 2, 6),
     (decide (excluded > s.nav.integ.exclCaution), 7),
     (full && s.easel.watch.twins.any (fun t => t.confirmed && t.resolution == 0), 8), (type == 1, 9), (full && !s.nav.cupola, 10),
     (full && !s.watchRuns, 11), (clock && !s.cal.values.model.valid, 12), (s.pwr.profile == 3, 13),
     (decide (2 * excluded > cands.length), 14), (s.warmup used, 15), (used.any (·.loaded), 16)]
  let suspect := full && cands.any fun a => s.easel.watch.twins.any fun t => !t.confirmed && t.channel == a.ch
  let grade := max (floorOf s.pwr.profile) (gradeOf globals (decide (excluded > 0) || suspect))
  let s := s.modNav fun n => { n with ranges := used.map fun a => s.rangeOf a.ch a.x a.cn0 }
  (s, { sats := sats, used := used, out := outs, dropped := dropped, type := type, globals := globals, grade := grade
        attitude := if fit then s.attitudeRms x used else none, single := if fit then s.singleRms x used else none, jump := jumpNs })

/-! The held verdict (07 R261). -/

/-- The held verdict takes another value: the seconds spent in ALERT and DENIED are kept in 2⁻³² s. -/
def Nav.change (n : Nav) (v now : Nat) : Nav :=
  let spent := now - n.heldFrom
  { n with held := v, heldFrom := now, changes := sat16 n.changes
           alertSecs := if n.held = 2 then n.alertSecs + spent else n.alertSecs
           deniedSecs := if n.held = 3 then n.deniedSecs + spent else n.deniedSecs }

/-- A solution with grade `g`; `lowerFrom` holds how long the conditions of the lower grade have held and the DT of the last
such solution (0 after time without a solution). -/
def Nav.hold (n : Nav) (g now : Nat) : Nav :=
  if g > n.held then { n.change g now with lowerFrom := none }
  else if g = n.held then { n with lowerFrom := none }
  else match n.lowerFrom with
    | none => { n with lowerFrom := some (0, now) }
    | some (acc, last) =>
      let acc := if last = 0 then acc else acc + (now - last)
      if acc ≥ n.integ.hold * second then { n.change (n.held - 1) now with lowerFrom := some (0, now) }
      else { n with lowerFrom := some (acc, now) }

/-- Time without a solution: neither counts toward the hold nor breaks it. -/
def Nav.pause (n : Nav) : Nav := { n with lowerFrom := n.lowerFrom.map fun l => (l.1, 0) }

/-! Records (07 R244, R245, R265, R268). -/

/-- A SOLUTION payload: `flags` byte 15, `heading` whether HEADING and PITCH are reported, `three` whether ROLL is too. -/
def solutionBytes (x : SolveIn) (dt no source type verdict flags : Nat) (heading three : Bool) (used ifree systems excluded globals : Nat) :
    List Byte :=
  let none_ := le 2 0xFFFF ++ zeros 2 ++ leInt 2 (-32768) ++ leInt 2 (-32768)
  let (week, tow, frac) := gpsFields x.gps
  le 8 dt ++ le 4 no ++ le 1 source ++ le 1 type ++ le 1 verdict ++ le 1 flags ++
    (if type = 0 ∨ verdict = 3 then zeros 44 ++ none_
     else leInt 4 x.lat ++ leInt 4 x.lon ++ leInt 4 x.height ++ leInt 4 x.velE ++ leInt 4 x.velN ++ leInt 4 x.velU ++ le 2 week ++
       zeros 2 ++ le 4 tow ++ le 4 frac ++ le 2 (min 65535 x.hpe) ++ le 2 (min 65535 x.vpe) ++ le 2 (min 65535 x.velBound) ++
       le 2 (min 65535 (rnd x.timeBound 1000).toNat) ++
       (if heading then le 2 (x.heading % 36000) ++ le 2 (min 65535 x.headingBound) ++ leInt 2 x.pitch ++
          leInt 2 (if three then x.roll else -32768)
        else none_)) ++
    le 1 used ++ le 1 ifree ++ le 1 systems ++ le 1 excluded ++ le 2 (min 65535 x.pdop) ++ le 2 (min 65535 (rnd x.rms 100).toNat) ++
    le 4 globals ++ zeros 4

/-- Satellite flags (R266). -/
def State.flagsOf (s : State) (j : Judged) (a : Sat) : Nat :=
  let f := s.satFlags a.ch
  let t := s.twinOf a.ch
  bitsOf
    [(j.isUsed a.ch, 0), (j.out.contains a.ch || j.dropped.contains a.ch, 1), (f.ccd.set, 2), (f.high.set, 3), (f.sky.set, 4),
     (f.cross.set, 5), (s.pwr.profile == 2 && s.easel.watch.twins.any (fun t => !t.confirmed && t.channel == a.ch), 6), (t.isSome, 7),
     (t.any (fun t => (t.resolution == 1 && t.channel == a.ch) || (t.resolution == 2 && t.own == a.ch)), 8), (f.cupola.set, 9),
     (j.dropped.contains a.ch, 10), (!a.usable, 11), (!a.dual, 12), (a.masked, 13), (a.loaded, 14)]

def State.satBytes (s : State) (j : Judged) (a : Sat) : List Byte :=
  let c := s.chan a.ch
  let code (l : TrkLane) : Nat := if l.st == .absent then 0 else l.signal
  le 1 a.ch ++ le 1 a.sv ++ le 1 (code c.upper) ++ le 1 (code c.lower) ++ le 2 (s.flagsOf j a) ++ leInt 1 a.x.elevation ++ le 1 a.x.azimuth ++
    leInt 1 (clampInt (-128) 127 (rnd a.dev 50)) ++
    le 1 (match s.pwr.profile == 2, a.cupola with | true, some r => min 254 (r / 5) | _, _ => 255) ++ leInt 2 a.x.residual

def heldSeconds (n : Nav) (now : Nat) : Nat := (now - n.heldFrom) / second

def State.integrityBytes (s : State) (x : SolveIn) (j : Judged) : List Byte :=
  let n := s.nav
  let full := s.pwr.profile == 2
  let rms (r : Option Nat) : Nat := match full, r with | true, some v => min 0xFFFE v | _, _ => 0xFFFF
  le 4 n.solNo ++ le 1 n.held ++ le 1 j.grade ++ le 1 j.sats.length ++ le 1 j.excluded ++ le 4 j.globals ++
    le 2 (min 65535 (heldSeconds n s.now)) ++ le 2 (min 65535 x.statistic) ++ le 2 (rms j.attitude) ++ le 2 (rms j.single) ++
    leInt 4 j.jump ++ j.sats.flatMap (s.satBytes j)

/-- The heading is reported (R258). -/
def State.headingValid (s : State) (x : SolveIn) (j : Judged) : Bool :=
  s.pwr.profile == 2 && s.nav.cupola && j.type != 0 && s.nav.held != 3 &&
    decide ((j.used.filter fun a => a.cupola.isSome && !(s.satFlags a.ch).cupola.set).length ≥ 4) &&
    j.attitude.any (fun r => decide (r ≤ s.nav.integ.cupSat * 10)) && decide (x.headingBound ≤ 500)

/-- Used satellites with DOPPLER in range on a VALID lane. -/
def State.dopplers (s : State) (j : Judged) : Nat :=
  (j.used.filter fun a =>
    let c := s.seen a.ch
    (a.up && !dopplerSat c.upper.doppler) || (a.low && !dopplerSat c.lower.doppler)).length

def systemsOf (l : List Sat) : Nat := maskOf 6 fun k => l.any fun a => a.sys == k

/-! A solution point (07 R236, R243, R259–R262, R268; 03 R107; 09 R321). -/

/-- The mapping that a solution gives. -/
def State.solutionMap (s : State) (x : SolveIn) (dt : Nat) (qualified : Bool) : TimeMap :=
  let (week, tow, frac) := gpsFields x.gps
  { ref := dt, week := week, tow := tow, frac := frac, rate := x.rate, bound := x.timeBound, qualified := qualified, holdover := false
    newSegment := s.nav.map.isNone, segment := s.nav.segment }

/-- The DT_MAP record due at an epoch: the first at or after each whole GPS second, and the first of a segment; none from a
solution during holdover. -/
def State.mapAtEpoch (s : State) (cause : Nat) : State :=
  match s.nav.sol with
  | none => s
  | some m =>
    if s.tp.holdover.isSome then s
    else if s.nav.map.isNone || s.nav.mapSecond != some (m.gps s.now / 2 ^ 32).toNat then
      s.writeMap { m with newSegment := s.nav.map.isNone } cause s.now false
    else s

/-- An epoch solution as the odometer and the zones keep it. -/
def State.accepted (s : State) (x : SolveIn) (dt : Nat) (velValid sketch : Bool) : Accepted :=
  { epoch := s.clk.epoch, dt := dt, segment := s.nav.segment, solNo := s.nav.solNo, lat := x.lat, lon := x.lon, height := x.height
    hpe := min 65535 x.hpe, velE := x.velE, velN := x.velN, velValid := velValid, sketch := sketch }

/-- A verdict change writes its record after the INTEGRITY record. -/
def State.verdictRecord (s : State) (old : Nav) (cause globals : Nat) : State :=
  if s.nav.held = old.held then s
  else s.domeRecord 12 cause 0x62 s.now
    (le 1 old.held ++ le 1 s.nav.held ++ zeros 2 ++ le 4 globals ++ le 4 s.nav.solNo ++ le 4 (min 0xFFFF_FFFF (heldSeconds old s.now)))

/-- SOLUTION, INTEGRITY and, where the verdict changes, VERDICT_CHANGE (07 R244, R265, R268); `old` stands before the solution was judged. -/
def State.solutionRecords (s : State) (x : SolveIn) (j : Judged) (old : Nav) (cause : Nat) (vel qualified : Bool) : State :=
  let held := s.nav.held
  let ifree := (j.used.filter (·.dual)).length
  let heading := s.headingValid x j
  let flags := bitsOf
    [(!j.used.isEmpty && ifree == j.used.length, 0), (decide (ifree < j.used.length), 1), (j.used.any (·.sys == 3), 2), (qualified, 3),
     (heading, 4), (vel && j.type != 0, 5)]
  let payload := solutionBytes x s.now s.nav.solNo 0 j.type held flags heading s.threeAngles j.used.length ifree (systemsOf j.used) j.excluded j.globals
  let s := s.domeRecord 10 cause 0x10 s.now payload
  let s := s.domeRecord 12 cause 0x61 s.now (s.integrityBytes x j)
  (s.verdictRecord old cause j.globals).modNav fun n => { n with solution := some payload }

/-- What a solution leaves for the next: elevations, the mapping, the position. -/
def State.keepSolution (s : State) (x : SolveIn) (j : Judged) (m : TimeMap) : State :=
  let s := s.modTrk fun t => { t with channels := x.sats.foldl (fun v i => vmod v i.channel fun c => { c with elevation := i.elevation }) t.channels }
  s.modNav fun n =>
    let n := { n with globals := j.globals
                      alerts := if j.grade ≥ 2 then sat16 n.alerts else n.alerts
                      excluded := satAdd 0xFFFF n.excluded j.excluded }
    if j.type = 0 then n
    else { n with sol := some m, lastRate := some (x.rate, s.now, x.gps)
                  prior := some { lat := x.lat, lon := x.lon, height := x.height, unc := x.hpe * 100, dt := s.now } }

/-- A solution on epoch: judged, reported, kept; the pulses, the mapping and the odometer follow it. -/
def State.solve (s : State) (x : SolveIn) (cause : Nat) (fitDue : Bool) : State :=
  let (s, j) := s.judge x cause fitDue
  let old := s.nav
  let s := s.modNav fun n => if j.type = 0 then n.pause else n.hold j.grade s.now
  let held := s.nav.held
  let s := s.modSeal (·.worstSeen held)
  let qualified := j.type == 2 && decide (held ≤ 1) && decide (x.timeBound < s.nav.integ.qualLimit * 1000)
  let vel := decide (s.dopplers j ≥ 4)
  let s := s.solutionRecords x j old cause vel qualified
  let m := s.solutionMap x s.now qualified
  let s := s.keepSolution x j m
  let s := s.steerTp qualified (j.type != 0 && held != 3) m
  let s := s.mapAtEpoch cause
  let ok := j.type != 0 && decide (held ≤ 1) && s.timeQualified
  let s := s.modNav fun n => { n with lastAccepted := ok }
  let s := if ok then s.acceptSolution (s.accepted x s.now vel false) cause held
    else if held ≥ 2 || !s.timeQualified then s.rejectSolution s.now held
    else s
  s.modNav fun n => { n with solNo := (n.solNo + 1) % 2 ^ 32 }

/-! The epoch (06 R208, R222). -/

/-- An epoch that the supervisor pair's restart freezes: the numbers advance, nothing is written. -/
def State.frozenEpoch (s : State) : State :=
  let due := s.solutionDue
  let s := s.applyRate.countEpoch.modTrk fun t => { t with supFrozen := t.supRestart.isSome }
  s.modNav fun n => { n.pause with solNo := if due then (n.solNo + 1) % 2 ^ 32 else n.solNo }

/-- Background work at the boundary (01 R31–R38): an overdue claim of a calibration run goes before the candidates that wait for a
channel (05 R190), foreground work before everything else of the background. -/
def State.backgroundAtEpoch (s : State) : State :=
  let s := s.followTwins
  if s.calAttempts && s.cal.def_.overdue then s.calBoundary.yieldWatch.serveQueue.watchBoundary
  else s.yieldWatch.serveQueue.calBoundary.watchBoundary

/-- An epoch: settings, samples, records, a solution at its point, a DT_MAP record, background work. -/
def State.epoch (s : State) (temp : Int) (units : List UnitIn) (sol : Option SolveIn) : State :=
  let (cause, s) := s.claim 4
  let step := s.gridStep
  let due := s.solutionDue
  let fit := gridPoint 5 s.epochTimes.1 s.epochTimes.2
  let s := (s.applyRate.tempTrigger temp).heatHoldover temp
  let s := s.boundarySettings.glaze
  let (s, recs) := s.takeUnits units
  let s := s.epochRecords cause step recs
  let s := if due then s.solve (sol.getD default) cause fit else s
  let s := (s.mapAtEpoch cause).countEpoch.endInterval
  s.backgroundAtEpoch

/-- MEASUREMENT_EPOCH: `temp` the die temperature, `units` the units completed, `sol` the solver's results at a solution point. -/
def execMeasurementEpoch (temp : Int) (units : List UnitIn) (sol : Option SolveIn) (_ : Unit) (s : State) : Res :=
  if !s.epochDue then .next s
  else if s.trk.supRestart.isSome || s.trk.supFrozen then .next s.frozenEpoch
  else .next (s.epoch temp units sol)

/-- CLAIM_RELEASE: an overdue claim reaches its bound: 20 ms of a calibration run, one epoch of the twin watch (01 R34). -/
def execClaimRelease (s : State) : Res :=
  let s' := match s.cal.run with
    | some r => if r.overdue && !r.released && s.clk.tick ≥ r.tick0 + 1636800 then s.calRelease else s
    | none => s
  if s'.easel.watch.claimed.isSome && s'.epochDue then .next ((s'.modWatch fun w => { w with claimed := none }).yieldWatch)
  else .next s'

end Sys2Proof.Machine
end

