-- ==== Sys2Proof/Machine/NavRows.lean ====
section
/-! DEFINITION. The completion of a Sketch fix (04 R147, R148; 07 R263), the NAV and INTEG groups (07 R272–R280). -/

namespace Sys2Proof.Machine

/-! Sketch fixes. -/

/-- Anchors found by a fix. -/
def SketchFix.anchors (f : SketchFix) : List Candidate := f.found.filter fun c => isAnchor c.peak.signal && !bit c.flags 1

/-- Lower-band signals found. -/
def SketchFix.lowers (f : SketchFix) : List Candidate :=
  f.found.filter fun c => !bit c.flags 1 && (signalRow c.peak.signal).any fun r => !r.upper

/-- The final reply (R159); bytes 20–39 are 0 unless RESULT is 0. -/
def SketchFix.reply (f : SketchFix) (x : SolveIn) (result used dt : Nat) (coarse : Int) : List Byte :=
  le 1 result ++ le 1 used ++ le 1 f.anchors.length ++ le 1 f.lowers.length ++
    le 1 (if f.keep then f.capture.getD 255 else 255) ++ zeros 3 ++ le 8 dt ++
    (if result = 0 then leInt 4 x.lat ++ leInt 4 x.lon ++ leInt 4 x.height ++ le 4 x.hpe ++ leInt 4 coarse else zeros 20) ++
    le 4 ((f.searchTo - f.searchFrom) * 100 / 8184)

/-- An anchor of a fix as a satellite of its solution; `SatIn.channel` numbers the anchors. -/
def State.sketchSat (s : State) (f : SketchFix) (x : SolveIn) (k : Nat) (c : Candidate) : Sat :=
  let sys := c.peak.signal / 16
  let i := solvedSat x k
  let cn0 := (peakCn0 c.peak).toNat
  let low := f.lowers.any fun d => d.peak.sv == c.peak.sv && (signalRow d.peak.signal).any fun r => r.anchor == c.peak.signal
  let eph := s.nav.eph.find? fun e => e.signal / 16 == sys && e.sv == c.peak.sv && decide (s.now < e.till)
  { ch := k, sys := sys, sv := c.peak.sv, up := true, low := low, cn0 := cn0, dev := cn0 - s.nav.integ.expected i.elevation, x := i
    usable := eph.isSome, loaded := eph.any (·.loaded), masked := false, candidate := true }

/-- I_u of an anchor whose lower band was found, from the code phases of its capture: P_l − P_u is the lead of the upper band's transmit time
within ±0.5 ms, less the group delays and the inter-band delay (R246, R249). -/
def State.sketchDelay (s : State) (f : SketchFix) (c : Candidate) : Option Int :=
  match signalRow c.peak.signal, f.lowers.find? fun d => d.peak.sv == c.peak.sv && (signalRow d.peak.signal).any fun r => r.anchor == c.peak.signal with
  | some r, some d =>
    match signalRow d.peak.signal with
    | none => none
    | some q =>
      let sent (p : Peak) (r : SignalRow) : Int := rnd ((p.code : Int) * 2 ^ 32) (r.chips * 1024)
      let ms1 : Nat := ms 1
      let lead := (sent c.peak r - sent d.peak q + ms1 / 2) % (ms1 : Nat) - ms1 / 2
      let data := s.ephData (c.peak.signal / 16) c.peak.sv
      let gd (p : Peak) : Int := Config.groupDelay p.signal data
      let pl := lightMm lead - lightPs (gd d.peak - gd c.peak + s.cal.values.dib.getD f.antenna 0)
      some (ionDelay (carrierOf r c.peak.sv) (carrierOf q c.peak.sv) 0 pl)
  | _, _ => none

/-- The satellite tests of a fix, on its single solution (R246, R249). -/
def State.sketchFlagged (s : State) (f : SketchFix) (a : Sat) : Bool :=
  let g := s.nav.integ
  decide (a.dev > (g.cn0High * 50 : Nat)) || (a.usable && decide (a.cn0 ≥ 3000) && decide (a.x.elevation < -5)) ||
    ((f.anchors[a.ch]?.bind (s.sketchDelay f)).any fun (i : Int) => decide (i < -(g.xbNeg * 1000 : Nat) ∨ i > (g.xbMax * 1000 : Nat)))

/-- A fix as its own judgement makes it (R263): the coarse-time error is one unknown more. -/
def State.judgeSketch (s : State) (f : SketchFix) (x : SolveIn) (coarse : Int) : Judged :=
  let anchors := f.anchors
  let sats := ((List.range anchors.length).zip anchors).map fun k => s.sketchSat f x k.1 k.2
  let outs := (sats.filter (s.sketchFlagged f)).map (·.ch)
  let (used, dropped) := (x.dropped.take 2).foldl (fun (r : List Sat × List Nat) k =>
    if r.1.any (fun a => a.ch == k) && decide (r.1.length ≥ unknowns r.1 + 3) then (s.solvable (r.1.filter fun a => a.ch != k), r.2 ++ [k]) else r)
    (s.solvable (sats.filter fun a => !outs.contains a.ch), [])
  let n := unknowns used + 1
  let type := if used.length < n then 0 else if used.length = n then 1 else 2
  let excluded := outs.length + dropped.length
  let els := sats.map (·.x.elevation)
  let span := els.foldl max (els.headD 0) - els.foldl min (els.headD 0)
  let js := match f.capture.bind fun id => vget s.easel.captures id with
    | none => (0, 0)
    | some c => c.js
  let level (j : Nat) : Nat := if j ≥ s.input.jAlert then 2 else if j ≥ s.input.jCaution then 1 else 0
  let ports := max (level js.1) (if used.any (·.low) then level js.2 else 0)
  let model := s.cal.values.model.valid
  let globals := bitsOf
    [(decide (sats.length ≥ 6) && decide (span ≥ 30) && flatSky (sats.map (·.dev)) (s.nav.integ.cn0Flat * 10), 0),
     (model && decide (coarse.natAbs * 1000 > f.timeUnc), 1), (decide (x.statistic > 256) && decide (used.length > n), 4), (ports == 1, 5),
     (ports == 2, 6), (decide (excluded > s.nav.integ.exclCaution), 7), (type == 1, 9), (!model, 12),
     (decide (2 * excluded > sats.length), 14), (used.any (·.loaded), 16)]
  { sats := sats, used := used, out := outs, dropped := dropped, type := type, globals := globals
    grade := max 1 (gradeOf globals (decide (excluded > 0))) }

/-- The records and effects of a FIX. In the profiles that track, its DT_MAP record is written and the tracking map stays in
force. -/
def State.sketchFixed (s : State) (x : SolveIn) (j : Judged) (dt : Nat) (coarse : Int) : State :=
  let (cause, s) := s.claim 9
  let v := j.grade
  let qualified := j.type == 2 && decide (v ≤ 1) && decide (x.timeBound < s.nav.integ.qualLimit * 1000)
  let ifree := (j.used.filter (·.dual)).length
  let flags := bitsOf [(ifree == j.used.length, 0), (decide (ifree < j.used.length), 1), (qualified, 3)]
  let payload := solutionBytes x dt s.nav.solNo 1 j.type v flags false false j.used.length ifree (systemsOf j.used) j.excluded j.globals
  let s := s.domeRecord 10 cause 0x10 s.now payload
  let s := s.domeRecord 12 cause 0x61 s.now
    (le 4 s.nav.solNo ++ le 1 v ++ le 1 v ++ le 1 0 ++ le 1 j.excluded ++ le 4 j.globals ++ le 2 (min 65535 (heldSeconds s.nav s.now)) ++
      le 2 (min 65535 x.statistic) ++ le 2 0xFFFF ++ le 2 0xFFFF ++ leInt 4 (coarse * 1000))
  let s := s.modNav fun n =>
    { n with globals := j.globals, solution := some payload, alerts := if v ≥ 2 then sat16 n.alerts else n.alerts
             excluded := satAdd 0xFFFF n.excluded j.excluded
             prior := some { lat := x.lat, lon := x.lon, height := x.height, unc := x.hpe * 100, dt := dt } }
  let m := s.solutionMap x dt qualified
  let (place, s) := s.claim 4
  let s := if s.pwr.profile = 0 then s.writeMap m place s.now true
    else
      let bs := s.mapBytes { m with newSegment := false }
      (s.domeRecord 10 place 0x30 s.now bs).modNav fun n => { n with lastMap := some m, mapPayload := some bs }
  let s := if v ≤ 1 && s.timeQualified then s.acceptSolution (s.accepted x dt false true) cause v
    else if s.pwr.profile = 0 then s.rejectSolution dt v
    else s
  s.modNav fun n => { n with solNo := (n.solNo + 1) % 2 ^ 32 }

/-- SKETCH_FIX_COMPLETE: the solve step ends; `sol` the least squares, `coarse` the coarse-time correction in µs. -/
def execSketchFixComplete (sol : SolveIn) (coarse : Int) (s : State) : Res :=
  match s.easel.fix with
  | none => .next s
  | some f =>
    if f.stage != .solve || !s.domeService || s.trk.supRestart.isSome then .next s
    else
      let dt := match f.capture.bind fun id => vget s.easel.captures id with
        | none => 0
        | some c => c.dt
      let j := s.judgeSketch f sol coarse
      let result := if f.anchors.length < 5 ∨ j.type = 0 then 1 else if sol.rms > 75000 then 2 else 0
      let reply := f.reply sol result j.used.length dt coarse
      let s := if result = 0 then s.sketchFixed sol j dt coarse else s
      let s := s.modEasel fun e => { e with fixes := sat32 e.fixes }
      .next (s.endFix .ok 0 reply).powerDownIdle

/-! NAV group. -/

def NavConfig.bytes (c : NavConfig) : List Byte := le 1 c.rate ++ le 1 c.elev ++ le 1 c.cn0 ++ le 1 c.use ++ zeros 8

/-- NAV_SET_CONFIG (R273). -/
def bodyNavSetConfig : Body := fun q s =>
  let b := q.payload
  let o := s.nav.cfg
  let n : NavConfig := { rate := byteAt b 0, elev := byteAt b 1, cn0 := byteAt b 2, use := byteAt b 3 }
  let fields : List ParamField := [⟨0x0040, 255, o.elev, n.elev⟩, ⟨0x0041, 255, o.cn0, n.cn0⟩, ⟨0x0042, 255, o.use, n.use⟩]
  checked s
    ([reservedPayload b ((3, 0xC0) :: (List.range 8).map fun k => (4 + k, 0xFF)), outOfRange (!([1, 2, 5, 10, 20].contains n.rate)) 0,
      outOfRange (decide (n.elev > 45)) 1, outOfRange (decide (n.cn0 < 15 ∨ n.cn0 > 45)) 2, outOfRange (n.use == 0) 3] ++ sealedChecks s fields)
    ((s.enterChanges fields).modNav fun v => { v with cfg := n }, .okay [])

def bodyNavGetConfig : Body := query fun s => s.nav.cfg.bytes

/-- NAV_SET_PRIOR (R274). -/
def bodyNavSetPrior : Body := fun q s =>
  let b := q.payload
  let unc := getLe b 12 4
  checked s [outOfRange (decide (unc < 1 ∨ unc > 100000)) 12]
    (s.modNav fun n => { n with prior := some { lat := getLeInt b 0 4, lon := getLeInt b 4 4, height := getLeInt b 8 4, unc := unc * 1000,
                                                dt := s.now, supplied := true } }, .okay [])

/-- NAV_SET_TIME (R275). -/
def bodyNavSetTime : Body := fun q s =>
  let b := q.payload
  let bound := getLe b 20 4
  checked s [reservedPayload b [(10, 0xFF), (11, 0xFF)], outOfRange (decide (bound < 1 ∨ bound > 10000000)) 20]
    (s.modNav fun n => { n with aid := some { ref := getLe b 0 8, week := getLe b 8 2, tow := getLe b 12 4, frac := getLe b 16 4,
                                              bound := bound } }, .okay [])

/-- NAV_LOAD_UNIT (R276): a unit received by other means, used as if decoded. -/
def bodyNavLoadUnit : Body := fun q s =>
  let b := q.payload
  let sig := byteAt b 0
  let sv := byteAt b 1
  let nbits := getLe b 4 2
  let v := Config.loadedVerdict b % 4
  checked s
    [reservedPayload b [(3, 0xFF), (6, 0xFF), (7, 0xFF), (14, 0xFF), (15, 0xFF)],
     (decide (b.length ≠ 16 + ceilDiv nbits 8), .err .lengthInvalid (16 + ceilDiv nbits 8)),
     outOfRange (signalRow sig).isNone 0, outOfRange (!svOk sig sv) 1, outOfRange (!((unitKinds sig sv).any fun k => k.1 == byteAt b 2)) 2,
     outOfRange (!((unitKinds sig sv).any fun k => k.1 == byteAt b 2 && k.2.1 == nbits)) 4, (decide (v > 1), .err .paramRange v)]
    (let s := s.hear (sig / 16) sv (b.drop 16)
     let s := match Config.loadedEphemeris b with
       | none => s
       | some secs => s.putEph { signal := sig, sv := sv, loaded := true, till := s.now + secs * second }
     (s.modNav fun n => { n with decoded := putOffsets n.decoded (Config.loadedOffsets b) }, .okay []))

/-- NAV_GET_EPH (R277). -/
def bodyNavGetEph : Body := query fun s =>
  let l := (s.nav.eph.filter fun e => decide (s.now < e.till)).take 169
  le 2 l.length ++ zeros 2 ++ l.flatMap fun e =>
    le 1 e.signal ++ le 1 e.sv ++ le 1 (b2n e.loaded) ++ le 1 0 ++ le 4 (min 0xFFFF_FFFF ((e.till - s.now) / second))

/-- NAV_GET_SOLUTION (R278). -/
def bodyNavGetSolution : Body := fun _ s =>
  match s.nav.solution with
  | none => (s, .err .notReady 0)
  | some p => (s, .okay p)

def execNavSetConfig (t : Txn) (s : State) : Res := hostCommand (opIs 0x0700) bodyNavSetConfig t s
def execNavGetConfig (t : Txn) (s : State) : Res := hostCommand (opIs 0x0701) bodyNavGetConfig t s
def execNavSetPrior (t : Txn) (s : State) : Res := hostCommand (opIs 0x0702) bodyNavSetPrior t s
def execNavSetTime (t : Txn) (s : State) : Res := hostCommand (opIs 0x0703) bodyNavSetTime t s
def execNavLoadUnit (t : Txn) (s : State) : Res := hostCommand (opIs 0x0704) bodyNavLoadUnit t s
def execNavGetEph (t : Txn) (s : State) : Res := hostCommand (opIs 0x0705) bodyNavGetEph t s
def execNavGetSolution (t : Txn) (s : State) : Res := hostCommand (opIs 0x0706) bodyNavGetSolution t s

/-! INTEG group. -/

/-- The fields of R279 with their offsets and lengths, in order. -/
def integLayout : List (Nat × Nat) :=
  [(0, 1), (1, 1), (2, 1), (3, 1), (4, 1), (5, 1), (6, 1), (7, 1), (8, 1), (9, 1), (10, 2), (12, 1), (13, 1), (14, 1), (15, 1), (16, 2), (18, 4)]

def IntegConfig.bytes (c : IntegConfig) : List Byte :=
  le 1 c.ccdIf ++ le 1 c.ccdRate ++ le 1 c.cn0Zen ++ le 1 c.cn0Hor ++ le 1 c.cn0High ++ le 1 c.cn0Flat ++ le 1 c.xbNeg ++ le 1 c.xbMax ++
    le 1 c.xbDop ++ le 1 c.clkDrift ++ le 2 c.clkJump ++ le 1 c.cupSat ++ le 1 c.cupSingle ++ le 1 c.cupAtt ++ le 1 c.exclCaution ++
    le 2 c.hold ++ le 4 c.qualLimit ++ zeros 2

def IntegConfig.parse (b : List Byte) : IntegConfig :=
  { ccdIf := byteAt b 0, ccdRate := byteAt b 1, cn0Zen := byteAt b 2, cn0Hor := byteAt b 3, cn0High := byteAt b 4, cn0Flat := byteAt b 5
    xbNeg := byteAt b 6, xbMax := byteAt b 7, xbDop := byteAt b 8, clkDrift := byteAt b 9, clkJump := getLe b 10 2, cupSat := byteAt b 12
    cupSingle := byteAt b 13, cupAtt := byteAt b 14, exclCaution := byteAt b 15, hold := getLe b 16 2, qualLimit := getLe b 18 4 }

/-- INTEG_SET_CONFIG (R279). -/
def bodyIntegSetConfig : Body := fun q s =>
  let b := q.payload
  let n := IntegConfig.parse b
  let o := s.nav.integ.bytes
  let fields : List ParamField := integLayout.map fun k => ⟨0x0050, k.1, getLe o k.1 k.2, getLe b k.1 k.2⟩
  let bad (v lo hi off : Nat) : Bool × Ans := outOfRange (decide (v < lo ∨ v > hi)) off
  checked s
    ([reservedPayload b [(22, 0xFF), (23, 0xFF)], bad n.ccdIf 1 100 0, bad n.ccdRate 1 255 1, bad n.cn0Zen 30 60 2,
      bad n.cn0Hor 20 n.cn0Zen 3, bad n.cn0High 2 40 4, bad n.cn0Flat 1 50 5, bad n.xbNeg 1 50 6, bad n.xbMax 10 200 7, bad n.xbDop 2 100 8,
      bad n.clkDrift 1 100 9, bad n.clkJump 10 10000 10, bad n.cupSat 5 40 12, bad n.cupSingle 2 20 13,
      outOfRange (decide (n.cupAtt < 10 ∨ n.cupAtt > 45 ∨ n.cupAtt ≤ n.cupSingle)) 14, bad n.exclCaution 1 8 15, bad n.hold 1 600 16,
      bad n.qualLimit 20 100000 18] ++ sealedChecks s fields)
    ((s.enterChanges fields).modNav fun v => { v with integ := n }, .okay [])

def bodyIntegGetConfig : Body := query fun s => s.nav.integ.bytes

/-- Seconds held in a verdict, the present spell included. -/
def Nav.secondsIn (n : Nav) (v total now : Nat) : Nat :=
  min 0xFFFF_FFFF ((total + if n.held = v then now - n.heldFrom else 0) / second)

/-- INTEG_GET_STATUS (R280). -/
def bodyIntegGetStatus : Body := query fun s =>
  let n := s.nav
  le 1 n.held ++ le 1 n.worstJ ++ zeros 2 ++ le 4 n.globals ++ le 4 (min 0xFFFF_FFFF (heldSeconds n s.now)) ++ le 2 n.changes ++ le 2 n.alerts ++
    le 4 (n.secondsIn 2 n.alertSecs s.now) ++ le 4 (n.secondsIn 3 n.deniedSecs s.now) ++ le 2 n.singles ++ le 2 n.excluded

def execIntegSetConfig (t : Txn) (s : State) : Res := hostCommand (opIs 0x0800) bodyIntegSetConfig t s
def execIntegGetConfig (t : Txn) (s : State) : Res := hostCommand (opIs 0x0801) bodyIntegGetConfig t s
def execIntegGetStatus (t : Txn) (s : State) : Res := hostCommand (opIs 0x0802) bodyIntegGetStatus t s

end Sys2Proof.Machine
end

