-- ==== Sys2Proof/Machine/CalRows.lean ====
section
/-! DEFINITION. Calibration: the end of a run, the values it applies, the CAL group (10 R360–R376). -/

namespace Sys2Proof.Machine

/-! Values (10 R363, R364). -/

/-- What a run computes: values, scope mask, the reason of an abort. -/
structure CalResult where
  values : CalValues
  scope : Nat
  reason : Option Nat := none

/-- D_IB of the antennas measured (those of ANT_MASK with both ports), in place of the old values. -/
def CalRun.dib (r : CalRun) (m : CalIn) (old : List Int) : List Int × Bool :=
  let has (a : Nat) : Bool := (r.profile == 0 || bit r.mask a) && r.ports.contains (2 * a) && r.ports.contains (2 * a + 1)
  let d (l : List Int) (a : Nat) : Int := l.getD (2 * a + 1) 0 - l.getD (2 * a) 0
  ((List.range 4).map fun a => if has a then d m.delays a - d r.cfg.delays a else old.getD a 0, (List.range 4).any has)

/-- φ and τ by R376's order (2(a − 1) + b): the clusters of a band pair that took part, and whether they disagree. -/
def CalRun.phases (r : CalRun) (m : CalIn) (old : CalValues) : List Int × List Int × Nat × Bool :=
  let took (b : Nat) : List Nat := [b, b + 2].filter fun c => r.clusters.contains c
  let has (k : Nat) : Bool :=
    let a := k / 2 + 1
    r.profile == 2 && bit r.mask a && r.ports.contains (2 * a + k % 2) && r.ports.contains (k % 2) && !(took (k % 2)).isEmpty
  let raw (c k : Nat) : Int := let z := (m.sums.getD c []).getD (k / 2) (0, 0); Config.angle z.2 z.1
  let pp (a b : Nat) : Int := r.cfg.phases.getD (2 * a + b) 0
  let phi (k : Nat) : Int :=
    if has k then wrapPhase (raw ((took (k % 2)).headD 0) k - (pp (k / 2 + 1) (k % 2) - pp 0 (k % 2))) else old.phi.getD k 0
  let tau (k : Nat) : Int :=
    let a := k / 2 + 1
    let b := k % 2
    if has k then (m.delays.getD (2 * a + b) 0 - m.delays.getD b 0) - (r.cfg.delays.getD (2 * a + b) 0 - r.cfg.delays.getD b 0)
    else old.tau.getD k 0
  let far (k : Nat) : Bool := match took (k % 2) with
    | [c, d] => has k && decide ((wrapPhase (raw c k - raw d k)).natAbs * 50 > 65536)
    | _ => false
  let ks := List.range 6
  (ks.map phi, ks.map tau, maskOf 2 fun b => ks.any fun k => k % 2 == b && has k, ks.any far)

/-- Determinant of a square matrix of size `n`, by its first row. -/
def det : Nat → List (List Int) → Int
  | 0, _ => 1
  | n + 1, rows =>
    let first := rows.headD []
    ((List.range (n + 1)).map fun k => (if k % 2 = 0 then 1 else -1) * first.getD k 0 * det n (rows.tail.map fun r => r.eraseIdx k)).sum

/-- The cubic in T − 25 that is the least-squares fit over bins weighted by their counts (R364): the four numerators over one denominator, by
the normal equations; the temperature of a bin is its whole degree (DESIGN CHOICE, log 57). -/
def fitCubic (part : List (Int × Nat × Int)) : List Int × Int :=
  let moment (k : Nat) : Int := (part.map fun b => (b.2.1 : Int) * (b.1 - 25) ^ k).sum
  let right (k : Nat) : Int := (part.map fun b => (b.2.1 : Int) * (b.1 - 25) ^ k * b.2.2).sum
  let matrix (swap : Nat) : List (List Int) :=
    (List.range 4).map fun i => (List.range 4).map fun k => if k = swap then right i else moment (i + k)
  ((List.range 4).map fun k => det 4 (matrix k), det 4 (matrix 4))

/-- Residual of a bin times the fit's denominator. -/
def fitResidual (c : List Int) (d : Int) (b : Int × Nat × Int) : Int :=
  b.2.2 * d - ((List.range 4).map fun k => c.getD k 0 * (b.1 - 25) ^ k).sum

/-- The refit of the oscillator model (R364): valid with at least 6 bins of count 10 over at least 8 °C and an rms, weighted as the fit, of at
most 50 × 10⁻⁹; AGE from two applied models at least 7 days apart. -/
def refit (bins : List (Int × Nat × Int)) (old : OscModel) (last : Option (Int × Nat)) (gps : Option Nat) : OscModel × Option (Int × Nat) :=
  let part := (List.range 166).filterMap fun (k : Nat) => bins.find? fun b => b.1 == (k : Int) - 40 && decide (b.2.1 ≥ 10)
  let lo := (part.headD (0, (0, 0))).1
  let hi := (part.getLastD (0, 0, 0)).1
  let (c, d) := fitCubic part
  let res := part.map (fitResidual c d)
  let sq := (List.zipWith (fun b r => b.2.1 * (r * r).natAbs) part res).sum
  let weight := (part.map (·.2.1)).sum * (d * d).natAbs
  if part.length ≥ 6 ∧ hi - lo ≥ 8 ∧ sq ≤ 50000 ^ 2 * weight then
    let coeff (k : Nat) : Int := rnd (c.getD k 0 * d.sign * [1, 1, 1000, 1000000].getD k 1) d.natAbs
    let slope (k : Nat) : Nat := (rnd (res.getD (k + 1) 0 - res.getD k 0).natAbs
      (d.natAbs * ((part.getD (k + 1) (0, 0, 0)).1 - (part.getD k (0, 0, 0)).1).natAbs)).toNat
    let new : OscModel :=
      { valid := true, c0 := coeff 0, c1 := coeff 1, c2 := coeff 2, c3 := coeff 3, spanLo := lo, spanHi := hi
        rms := sqrtFrom 16 (sq / weight) 0, kt := ((List.range (part.length - 1)).map slope).foldl max 100, age := old.age }
    match gps, last with
    | none, l => (new, l)
    | some g, none => (new, some (new.c0, g))
    | some g, some (c0, g0) =>
      if g ≥ g0 + 604800 then
        ({ new with age := max 100 ((new.c0 - c0).natAbs * 86400 / (g - g0)) }, some (new.c0, g))
      else (new, some (c0, g0))
  else ({ old with valid := false }, last)

/-- The values of a run, from the values of the slot in force. -/
def State.calCompute (s : State) (r : CalRun) (m : CalIn) : CalResult :=
  let old := s.cal.slot.values
  let (dib, d) := if r.profile = 1 then (old.dib, false) else r.dib m old.dib
  let (phi, tau, bands, far) := r.phases m old
  let gone (a : Nat) : Bool := decide ((dib.getD a 0).natAbs > 100000) ||
    (s.cal.slot.valid && decide ((dib.getD a 0 - old.dib.getD a 0).natAbs > 10000))
  let out := (d && (List.range 4).any gone) || (bands != 0 && tau.any fun t => decide (t.natAbs > 100000))
  let nref := if s.cal.storeNref then
      (List.range 8).map fun p => if (s.port p).lane == .locked then (s.port p).nref.map (· / 75) else old.nref.getD p none
    else old.nref
  { values := { old with dib := dib, phi := phi, tau := tau, dtp := [m.dtp.getD 0 0, m.dtp.getD 1 0], nref := nref }
    scope := bitsOf [(d, 0), (bit bands 0, 1), (bit bands 1, 2), (true, 3), (true, 4), (s.cal.storeNref, 5)]
    reason := if out then some 6 else if far then some 7 else none }

/-! Storage (10 R366–R368). -/

/-- Bytes 0–59 of a slot's header. -/
def CalSlot.header (k : CalSlot) : List Byte :=
  le 4 k.generation ++ le 4 k.count ++ le 4 k.epoch ++ le 8 k.dt ++ le 2 k.week ++ leInt 2 k.temp ++ le 4 k.tow ++ le 1 k.trigger ++
    le 1 k.scope ++ zeros 30

/-- DETAIL of a CAL_APPLIED entry. -/
def State.calDetail (s : State) (slot : Bool) (old : CalValues) (atStart : Bool) : List Byte :=
  let c := vget s.cal.slots (b2n slot)
  let change (a b : List Int) : Nat := (List.zipWith (fun x y => (x - y).natAbs) a b).foldl max 0
  let phase := (List.zipWith (fun x y => (wrapPhase (x - y)).natAbs) c.values.phi old.phi).foldl max 0
  le 4 c.count ++ le 4 c.generation ++ le 1 (b2n slot) ++ le 1 c.trigger ++ le 1 c.scope ++
    le 1 (bitsOf [(c.values.model.valid, 0), (c.overdue, 1), (atStart, 2)]) ++ leInt 2 c.temp ++
    le 2 (min 65535 (change c.values.dib old.dib)) ++ le 2 phase ++ le 2 s.cal.def_.total

/-- The slot not in force is written, entered in the audit trail and brought into force: by glaze, at once in SKETCH. -/
def State.calApply (s : State) (r : CalRun) (v : CalResult) : State :=
  let old := s.cal.slot
  let (week, tow, _, _) := s.timeFields r.dt0
  let gps := if s.nav.map.isSome then some (week * 604800 + tow) else none
  let (model, last) := refit s.cal.bins old.values.model old.lastC0 gps
  let values := { v.values with model := model }
  let measured (k : Nat) : Bool :=
    if k = 0 then bit v.scope 0 else if k = 1 then bit v.scope 1 || bit v.scope 2 else true
  let dest := !s.cal.inForce
  let count := satAdd 0xFFFF_FFFF (vget s.sealed.counters 9) 1
  let slot : CalSlot :=
    { valid := true, generation := old.generation + 1, count := count, epoch := s.clk.epoch, dt := r.dt0, week := week, tow := tow
      temp := r.temp, trigger := r.trigger, scope := v.scope, values := values
      temps := (List.range 4).map fun k => if measured k then r.temp else old.temps.getD k 0, bins := s.cal.bins, lastC0 := last, overdue := r.overdue }
  let slot := { slot with crc := crc32 (slot.header ++ Config.calBody slot.generation) }
  let (cause, s) := s.claim 9
  let s := s.modCal fun c =>
    let inUse := c.values
    { c with
      slots := vset c.slots (b2n dest) slot, inForce := dest, run := none, start := inUse, alpha := 0, glazing := s.pwr.profile != 0
      values := if s.pwr.profile = 0 then values
        else { inUse with nref := values.nref
                          model := { model with c0 := inUse.model.c0, c1 := inUse.model.c1, c2 := inUse.model.c2, c3 := inUse.model.c3 } } }
  s.audit 0x0009 (some 9) cause s.now false false (s.calDetail dest old.values false)

/-! Rows. -/

/-- The first needed port whose search fails its tests (R360): a peak below 30 dB, then a second cell within 10 dB of it. -/
def CalRun.peakFault (r : CalRun) (peaks : List CalPeak) : Option (Nat × Nat) :=
  r.ports.findSome? fun p => (peaks.find? fun k => k.port == p).bind fun k =>
    if !dbAtLeast k.peak k.noise 30 1 then some (3, p) else if k.second * 10 ≥ k.peak then some (4, p) else none

/-- CAL_UNITS_RELEASE: the peak tests at tick 409,200 abort a run with reason 3 or 4 and its port; else the shared
units are released one tick before 20 ms (10 R360). In SKETCH the replay searches follow (04 R140). -/
def execCalUnitsRelease (peaks : List CalPeak) (s : State) : Res :=
  match s.cal.run with
  | none => .next s
  | some r =>
    let at_ (n : Nat) : Bool := s.domeService && decide (s.clk.tick ≥ r.tick0 + n)
    let after (s : State) : State :=
      if s.easel.fix.any (fun f => f.stage == .capture && f.capture.any s.easel.valid) then s.sketchBegin.powerDownIdle else s.powerDownIdle
    if r.released then .next s
    else match r.disturbed, r.peakFault peaks with
      | some (reason, port), _ => if s.domeService then .next (after (s.calAbort r.trigger reason port)) else .next s
      | none, some (reason, port) =>
        if at_ 409200 then .next (after (s.calAbort r.trigger reason port)) else .next s
      | none, none => if at_ 1636799 then .next (after s.calRelease) else .next s

/-- CAL_RUN_COMPLETE: the values are tested, stored and applied; discarded in AUDIT_HOLD; no slot is written after a
power-fail warning until VIN is restored (R361, R367, R368). -/
def execCalRunComplete (m : CalIn) (s : State) : Res :=
  match s.cal.run with
  | none => .next s
  | some r =>
    if !r.released || !s.domeService || s.pwr.lowSupply then .next s
    else
      let v := s.calCompute r m
      match v.reason with
      | some reason => .next (s.calAbort r.trigger reason 255)
      | none =>
        if s.sealed.auditHold then
          .next ((s.modCal fun c => { c with run := none, ready := some { trigger := r.trigger, hold := true } }).answerCal .resourceExhausted 1 [])
        else
          let s := s.calApply r v
          .next (s.answerCal .ok 0 (le 4 s.cal.slot.count ++ le 1 v.scope ++ zeros 3))

/-- CAL_RETRY_HOLDOFF_EXPIRY: 60 s of DT after an abort (R359). -/
def execCalRetryHoldoffExpiry (s : State) : Res :=
  match s.cal.ready with
  | none => .next s
  | some r =>
    if r.from_ = 0 || s.now < r.from_ then .next s
    else .next (s.modCal fun c => { c with ready := some { r with from_ := 0 } })

/-- CAL_RUN (R373). -/
def bodyCalRun : Body := fun q s =>
  let b := q.payload
  checked s
    [reservedPayload b [(0, 0xFE), (1, 0xFF), (2, 0xFF), (3, 0xFF)], (s.pwr.profile == 3, .err .stateConflict 0)]
    (let s := s.calTrigger 1
     (s.modCal fun c =>
        { c with cmds := c.cmds ++ [q.id], storeNref := c.storeNref || bit (byteAt b 0) 0
                 ready := c.ready.map fun r => { r with from_ := 0 } }, .running))

/-- CAL_GET_STATUS (R374). -/
def bodyCalGetStatus : Body := query fun s =>
  let c := s.cal
  let k := c.slot
  let state := if c.run.isSome then 3 else if c.ready.isNone then 0 else if c.def_.overdue then 2 else 1
  le 4 (vget s.sealed.counters 9) ++ le 8 k.dt ++ le 4 k.epoch ++ le 2 k.week ++ leInt 2 k.temp ++ le 4 k.tow ++ le 1 state ++
    le 1 (bitsOf [(c.glazing || (k.valid && c.values.dtp != k.values.dtp), 0), (c.values.model.valid, 1), (k.valid, 2)]) ++ le 1 (min 255 c.def_.consecutive) ++ le 1 c.lastReason ++
    le 2 c.def_.total ++ le 2 c.aborts ++ leInt 2 s.nav.temperature ++ zeros 2

def CalConfig.bytes (c : CalConfig) : List Byte :=
  le 1 c.deltaT ++ le 1 0 ++ le 2 c.glaze ++ c.delays.flatMap (leInt 4) ++ c.phases.flatMap (leInt 2) ++ zeros 4

def CalConfig.parse (b : List Byte) : CalConfig :=
  { deltaT := byteAt b 0, glaze := getLe b 2 2, delays := (List.range 8).map fun k => getLeInt b (4 + 4 * k) 4
    phases := (List.range 8).map fun k => getLeInt b (36 + 2 * k) 2 }

/-- CAL_SET_CONFIG (R375). -/
def bodyCalSetConfig : Body := fun q s =>
  let b := q.payload
  let n := CalConfig.parse b
  let o := s.cal.cfg
  let ob := o.bytes
  let paths : List ParamField :=
    ((List.range 8).map fun k => ⟨0x0070, 2 + k, getLe ob (4 + 4 * k) 4, getLe b (4 + 4 * k) 4⟩) ++
      (List.range 8).map fun k => ⟨0x0070, 10 + k, getLe ob (36 + 2 * k) 2, getLe b (36 + 2 * k) 2⟩
  let fields : List ParamField := [⟨0x0070, 0, o.deltaT, n.deltaT⟩, ⟨0x0070, 1, o.glaze, n.glaze⟩] ++ paths
  checked s
    ([reservedPayload b [(1, 0xFF), (52, 0xFF), (53, 0xFF), (54, 0xFF), (55, 0xFF)], outOfRange (decide (n.deltaT < 1 ∨ n.deltaT > 20)) 0,
      outOfRange (decide (n.glaze < 1 ∨ n.glaze > 300)) 2] ++
      ((List.range 8).map fun k => outOfRange (decide ((n.delays.getD k 0).natAbs > 50000)) (4 + 4 * k)) ++ sealedChecks s fields)
    (let s := (s.enterChanges fields).modCal fun c => { c with cfg := n, alpha := c.alpha * n.glaze / max 1 o.glaze }
     (if (changedFields paths).isEmpty then s else s.calTrigger 3, .okay []))

def bodyCalGetConfig : Body := query fun s => s.cal.cfg.bytes

/-- CAL_GET_VALUES (R376). -/
def bodyCalGetValues : Body := fun q s =>
  let b := q.payload
  let v := if byteAt b 0 = 1 then s.cal.slot.values else s.cal.values
  let m := v.model
  checked s [reservedPayload b [(1, 0xFF), (2, 0xFF), (3, 0xFF)], outOfRange (decide (byteAt b 0 > 1)) 0]
    (s, .okay (v.dib.flatMap (leInt 4) ++ v.phi.flatMap (leInt 2) ++ v.tau.flatMap (leInt 4) ++ v.dtp.flatMap (leInt 4) ++ leInt 4 m.c0 ++
      leInt 4 m.c1 ++ leInt 4 m.c2 ++ leInt 4 m.c3 ++ le 4 ({ s.cal with values := v }.uModel s.nav.temperature) ++
      le 2 (if m.valid then m.kt else 20000) ++ le 2 (if m.valid then m.age else 10000) ++ s.cal.slot.temps.flatMap (leInt 2) ++
      v.nref.flatMap fun n => leInt 4 (n.getD 0)))

def execCalRun (t : Txn) (s : State) : Res := hostCommand (opIs 0x0A00) bodyCalRun t s
def execCalGetStatus (t : Txn) (s : State) : Res := hostCommand (opIs 0x0A01) bodyCalGetStatus t s
def execCalSetConfig (t : Txn) (s : State) : Res := hostCommand (opIs 0x0A02) bodyCalSetConfig t s
def execCalGetConfig (t : Txn) (s : State) : Res := hostCommand (opIs 0x0A03) bodyCalGetConfig t s
def execCalGetValues (t : Txn) (s : State) : Res := hostCommand (opIs 0x0A04) bodyCalGetValues t s

end Sys2Proof.Machine
end

