-- ==== Sys2Proof/Machine/Link.lean ====
section
/-! DEFINITION. HPORT (13 R446–R453), the Kakel lanes and frames (R454–R465), enumeration (R466–R468), alignment
(R469–R470, 03 R109–R113). -/

namespace Sys2Proof.Machine

def State.modChain (s : State) (f : Chain → Chain) : State := { s with chain := f s.chain }
def State.modKakel (s : State) (l : Nat) (f : Lane → Lane) : State :=
  s.modChain fun c => { c with lanes := vmod c.lanes l f }
def State.modHport (s : State) (f : Hport → Hport) : State := { s with hport := f s.hport }
def State.lane (s : State) (l : Nat) : Lane := vget s.chain.lanes l
def State.laneUp (s : State) (l : Nat) : Bool := (s.lane l).st == .up
/-- Counter `k` (from 0) of CHAIN_GET_COUNTERS (13 R480). -/
def State.chainCount (s : State) (k : Nat) : State := s.modChain fun c => { c with counters := vmod c.counters k sat16 }

/-! Arrivals into command rings (11 R387, R403, R462). -/

/-- The ring that QUEUE selects (11 R382). -/
def selectedRing (bs : List Byte) : Nat := if byteAt bs 6 % 16 > 3 then 0 else byteAt bs 6 % 16

/-- One transaction enters a command ring: an arrival of rank 6. -/
def State.arrive (s : State) (q : Nat) (bs : List Byte) : State :=
  let n := slotsOf bs.length
  let s := (s.claim 6).2
  let s := s.produce q bs
  s.modRing q fun r => { r with arrivals := r.arrivals ++ [{ slots := n, tick := s.clk.tick }] }

/-! Lanes. -/

/-- Sends the frame at the front of a lane's queue while the lane is UP and a credit is held (13 R460). -/
def State.sendOne (s : State) (l : Nat) : State :=
  let a := s.lane l
  match a.queue with
  | [] => s
  | q :: rest =>
    if a.st != .up || a.credits == 0 || decide (a.replay.length ≥ 8) then s
    else
      (s.modKakel l fun a =>
        { a with queue := rest, credits := a.credits - 1, hseq := (a.hseq + 1) % 256,
                 replay := a.replay ++ [{ hseq := a.hseq, frame := q.frame, own := q.own, sentDt := s.now }] }).count (46 + l)

/-- As many frames as credits allow, at most eight. -/
def State.pump (s : State) (l : Nat) : State := forUpto 8 (fun _ s => s.sendOne l) s

/-- Queues frames on a lane and sends what can be sent. -/
def State.sendFrames (s : State) (l : Nat) (fs : List QueuedFrame) : State :=
  (s.modKakel l fun a => { a with queue := a.queue ++ fs, lastSeg := s.now }).pump l

/-- A single-frame type: it goes before any unit that waits, after the singles before it (13 R463). -/
def State.sendSingle (s : State) (l : Nat) (ftype : Nat) (payload : List Byte) : State :=
  if !s.laneUp l then s else
  let f : Frame := { ftype := ftype, first := true, last := true, abandon := false, dev := s.number, ring := 0, seg := payload }
  let single (q : QueuedFrame) : Bool := q.frame.ftype != 1 && q.frame.ftype != 2
  (s.modKakel l fun a => { a with queue := a.queue.takeWhile single ++ ⟨f, none⟩ :: a.queue.dropWhile single }).pump l

/-- Segments of 1,024 bytes (13 R459). -/
def segments : Nat → List Byte → List (List Byte)
  | 0, _ => []
  | k + 1, bs => bs.take 1024 :: if bs.length ≤ 1024 then [] else segments k (bs.drop 1024)

/-- The frames of a unit; the last carries `own`. -/
def unitFrames (ftype dev ring : Nat) (own : Nat × Nat) (bs : List Byte) : List QueuedFrame :=
  let ss := segments (bs.length / 1024 + 1) bs
  (((List.range ss.length).zip ss).map fun p =>
    { frame := { ftype := ftype, first := p.1 == 0, last := p.1 + 1 == ss.length, abandon := false, dev := dev,
                 ring := ring, seg := p.2 }
      own := if p.1 + 1 = ss.length then some own else none })

/-- What an acknowledged frame frees: slots of its ring, or a down buffer (13 R463). -/
def State.freed (s : State) (o : Option (Nat × Nat)) : State :=
  match o with
  | none => s
  | some (16, _) => s.modChain fun c => { c with downBufs := c.downBufs.tail }
  | some (n, k) =>
    let k := min k (vget s.chain.sentSlots n)
    let s := s.modRing n fun r => { r with cons := r.cons + BitVec.ofNat 32 k }
    s.modChain fun c => { c with sentSlots := vmod c.sentSlots n (· - k) }

/-- Frames of the replay buffer through HSEQ `n`, and those after it. -/
def splitReplay (n : Nat) : List SentFrame → List SentFrame × List SentFrame
  | [] => ([], [])
  | f :: r =>
    if f.hseq = n then ([f], r)
    else
      let p := splitReplay n r
      (f :: p.1, p.2)

/-- ACK (13 R455, R460): frames up to HSEQ n are acknowledged. -/
def execAck (l : LaneId) (n : Fin 256) (s : State) : Res :=
  let a := s.lane l.num
  if a.replay.any (fun f => f.hseq == n.val) then
    let p := splitReplay n.val a.replay
    let s := s.modKakel l.num fun a => { a with replay := p.2, replays := 0 }
    .next ((p.1.foldl (fun s f => s.freed f.own) s).pump l.num)
  else .next s

/-- The lane leaves UP (13 R456): counted; it retrains; a device below or at the head is told (R466). -/
def State.laneDown (s : State) (l : Nat) : State :=
  if !s.laneUp l then s else
  let s := s.modKakel l fun a => { a with st := .down, lock := false, replays := 0, slept := false }
  let s := s.chainCount (4 + l)
  if l = 0 then s.modChain fun c => { c with headCount := 0 } else s

/-- A replay from HSEQ `n` on: frames sent again are counted. -/
def State.replayFrom (s : State) (l n : Nat) : State :=
  let a := s.lane l
  let p := splitReplay n a.replay
  let again := p.1.drop (p.1.length - 1) ++ p.2
  let s := s.modKakel l fun a =>
    { a with replay := a.replay.map fun f => if again.any (fun g => g.hseq == f.hseq) then { f with sentDt := s.now } else f
             replays := a.replays + 1 }
  again.foldl (fun s _ => (s.chainCount (2 + l)).count 50) s

/-- CREDIT (13 R455, R460). -/
def execCredit (l : LaneId) (k : Fin 256) (s : State) : Res :=
  .next ((s.modKakel l.num fun a => { a with credits := a.credits + k.val }).pump l.num)

/-- Code and disparity errors on a lane are counted (13 R480). -/
def State.lineErrors (s : State) (l n : Nat) : State := s.modChain fun c => { c with counters := vmod c.counters (6 + l) (satAdd 0xFFFF · n) }

/-- A frame arrives: `some` it when it is the next good frame of the lane, for which the neighbour held a credit (13 R455, R460). -/
def State.receive (s : State) (l : Nat) (f : RxFrame) : State × Option Frame :=
  let a := s.lane l
  if !s.fast || a.st != .up then (s, none)
  else
    let s := s.lineErrors l f.errors
    if f.aborted then (s.modKakel l fun a => { a with bad := true }, none)
    else if !f.crcOk then ((s.modKakel l fun a => { a with bad := true }).chainCount l, none)
    else if f.hseq % 256 ≠ a.expect || a.grants == 0 then (s, none)
    else
      ((s.modKakel l fun a => { a with bad := false, expect := (a.expect + 1) % 256, grants := a.grants - 1 }).count (48 + l), some f.frame)

/-! Enumeration (13 R466–R468). -/

def enumPayload (next : Nat) (auto : Bool) (changed epoch : Nat) : List Byte :=
  le 1 next ++ le 1 (b2n auto) ++ le 1 changed ++ le 1 0 ++ le 4 epoch

/-- The head's DT epoch is the master's (03 R109). -/
def State.masterEpoch (s : State) : Nat := if s.chain.head then s.clk.epoch else s.clk.masterEpoch

/-- The head starts an enumeration, for the commands given. -/
def State.startEnum (s : State) (auto : Bool) (cmds : List Nat) : State :=
  let s := (s.modChain fun c => { c with enum := some { started := s.now, cmds := cmds }, enumAtStart := false }).chainCount 17
  s.sendSingle 1 6 (enumPayload 1 auto 0 s.masterEpoch)

/-- A request for an enumeration at the head; one in progress restarts and its commands end ABORTED, DETAIL 1
(13 R468, R476). -/
def State.requestEnum (s : State) : State :=
  match s.chain.enum with
  | some e => ((e.cmds.foldl (fun s id => s.finalReply id .aborted 1 []) s).startEnum true [])
  | none => if s.chain.autoEnum then s.startEnum true [] else s

/-- A change of CHD (13 R466): ENUM_REQ goes up; the head acts on its own change as on a request. -/
def State.chdChanged (s : State) : State :=
  if s.chain.head then
    if s.chain.enumAtStart && s.laneUp 1 && s.chain.enum.isNone then s.startEnum true [] else s.requestEnum
  else s.sendSingle 0 8 (zeros 4)

/-- End of an enumeration at the head: chain length, TOO_LONG, CHANGED. -/
def State.endEnum (s : State) (len : Nat) (tooLong : Bool) (changed : Nat) : State :=
  match s.chain.enum with
  | none => s
  | some e =>
    let wakes := s.chain.wakeCmds
    let s := s.modChain fun c => { c with enum := none, length := len, changed := changed, wakeCmds := [] }
    let s := e.cmds.foldl (fun s id =>
      if tooLong then s.finalReply id .fault 64 [] else s.finalReply id .ok 0 (le 1 len ++ le 1 changed ++ zeros 2)) s
    wakes.foldl (fun s w => s.finalReply w.id .ok 0 (le 1 len ++ zeros 3)) s

/-! Chain alignment. -/

/-- CHAIN_ALIGN (03 R113). -/
def State.chainAlign (s : State) (dtFrom : Nat) : State :=
  let (cause, s) := s.claim 6
  s.drumRecord 10 cause 0x31 s.now
    (le 8 dtFrom ++ leInt 8 s.clk.offset ++ leInt 4 s.clk.lastE ++ leInt 4 s.clk.lastH ++ le 1 s.alignCode ++
      le 1 s.number ++ le 2 0 ++ le 4 s.masterEpoch)

def State.setAlign (s : State) (a : AlignState) : State :=
  if s.clk.align = a then s
  else { s with clk := { s.clk with align := a } }.chainAlign s.now

/-- 1/64 tick steps per second: the scale of stamps. -/
def stepRate : Nat := 5237760000

/-- A stamp's edge time in chain time, scaled (03 R102, R110). -/
def State.stampTime (s : State) (t : Stamp) : Int := ((t.dt : Int) + s.clk.offset) * stepRate - t.interp * 2 ^ 32

/-- The device makes exchanges: numbered, not the head, ALIGN_EN, CHU UP (13 R469). -/
def State.exchanges (s : State) : Bool :=
  s.drumUp && !s.chain.head && !s.chain.unnumbered && s.chain.number != 0 && s.chain.alignEn && s.laneUp 0

/-- ALIGN_EXCHANGE_DUE (13 R469): once per second ALIGN_REQ is sent; t1 is its stamp. -/
def execAlignExchangeDue (t1 : Stamp) (s : State) : Res :=
  if s.exchanges && decide (s.now ≥ s.clk.nextExchange) && s.clk.exchange.isNone then
    let s := { s with clk := { s.clk with
      exchange := some { started := s.now, t1 := s.stampTime t1 }, nextExchange := s.now + second } }
    .next (s.sendSingle 0 3 (le 1 s.number ++ zeros 3))
  else .next s

/-- Device 63, which sends nothing downward but ENUM and discards frames from below other than ENUM_END (13 R467). -/
def State.lastDevice (s : State) : Bool := !s.chain.head && !s.chain.unnumbered && s.chain.number == 63

/-- ALIGN_REQ (13 R469, R470): stamped t2, answered with ALIGN_RSP (stamped t3) and ALIGN_FUP. -/
def execAlignReq (f : RxFrame) (t2 t3 : Stamp) (s : State) : Res :=
  match s.receive 1 f with
  | (s, none) => .next s
  | (s, some fr) =>
    if fr.ftype ≠ 3 then .next s
    else if s.lastDevice then .next (s.chainCount 14) else
    let s := s.sendSingle 1 4 (le 1 s.number ++ zeros 3)
    .next (s.sendSingle 1 5
      (leInt 8 ((t2.dt : Int) + s.clk.offset) ++ le 1 t2.interp ++ le 1 t3.interp ++ le 1 s.alignCode ++ le 1 s.number ++
        leInt 8 ((t3.dt : Int) + s.clk.offset) ++ le 4 s.masterEpoch))

/-- A void exchange is counted and retried after 10 ms, at most three times in a second (13 R469). It breaks the run of consecutive
exchanges of 03 R111 (DESIGN CHOICE, log 55). -/
def State.voidExchange (s : State) : State :=
  let s := s.chainCount 16
  { s with clk := { s.clk with
      exchange := none, good := 0, tries := if s.clk.tries ≥ 3 then 0 else s.clk.tries + 1
      nextExchange := if s.clk.tries ≥ 3 then s.clk.nextExchange else s.now + ms 10 } }

/-- ALIGN_RSP (13 R469): stamped t4; a replay of it voids the exchange. -/
def execAlignRsp (f : RxFrame) (t4 : Stamp) (s : State) : Res :=
  let again := (s.lane 0).bad
  match s.receive 0 f with
  | (s, none) => .next s
  | (s, some fr) =>
    if fr.ftype ≠ 4 || s.clk.exchange.isNone then .next s
    else if again then .next s.voidExchange
    else .next { s with clk := { s.clk with
      exchange := s.clk.exchange.map fun e => { e with t4 := some (s.stampTime t4, t4.dt) } } }

def execAlignExchangeVoid (s : State) : Res :=
  match s.clk.exchange with
  | none => .next s
  | some e => if s.now ≥ e.started + ms 1 then .next s.voidExchange else .next s

/-- A chain time and its INTERP as FUP carries them, scaled. -/
def fupTime (bs : List Byte) (off interp : Nat) : Int := getLeInt bs off 8 * stepRate - interp * 2 ^ 32

/-- Steering that removes an error over the next second, in accumulator units per second, within ±20 ppm (03 R110). -/
def steering (e : Int) : Int := clampInt (-21990232) 21990232 (rnd (e * 256) stepRate)

/-- ALIGN_FUP (13 R470, 03 R110, R111): hop delay and error; the offset is stepped or the rate steered. DT_FROM of a record without an
offset change is the present DT (DESIGN CHOICE, log 55). -/
def execAlignFup (f : RxFrame) (s : State) : Res :=
  let again := (s.lane 0).bad
  match s.receive 0 f with
  | (s, none) => .next s
  | (s, some fr) =>
    if fr.ftype ≠ 5 then .next s else
    match s.clk.exchange with
    | none => .next s
    | some e =>
      match e.t4 with
      | none => .next s.voidExchange
      | some (t4, dt4) =>
        let p := fr.seg
        if again || decide (s.now > e.started + ms 1) || (byteAt p 10 != 0 && byteAt p 10 != 3) then .next s.voidExchange else
        let t2 := fupTime p 0 (byteAt p 8)
        let t3 := fupTime p 12 (byteAt p 9)
        let h := rnd ((t4 - e.t1) - (t3 - t2)) 2
        let err := t3 + h - t4
        let steps := rnd err (2 ^ 32)
        let epoch := getLe p 20 4
        let within (ticks : Nat) : Bool := decide (err.natAbs ≤ ticks * 64 * 2 ^ 32)
        let step := !s.clk.offsetHeld || !within 64
        let newEpoch := decide (epoch ≠ s.clk.masterEpoch)
        let good := if within 1 then s.clk.good + 1 else 0
        let old := s.clk.align
        let st : AlignState :=
          if old = .aligned then (if within 2 then .aligned else .acquiring)
          else if good ≥ 3 then .aligned else .acquiring
        let s := { s with clk := { s.clk with
          exchange := none, lastE := steps, lastH := rnd h (2 ^ 32), lastExchange := some s.now, masterEpoch := epoch, tries := 0
          offset := if step then s.clk.offset + rnd err stepRate else s.clk.offset
          offsetHeld := true, steer := if step then 0 else steering err, steerTill := s.now + second, good := good, align := st } }
        if step || newEpoch || decide (st ≠ old) then .next (s.chainAlign (if step then dt4 else s.now)) else .next s

/-- UNALIGNED_TIMEOUT (03 R111): no exchange completed in the last 3 s. -/
def execUnalignedTimeout (s : State) : Res :=
  match s.clk.lastExchange with
  | none => .next s
  | some t =>
    if !s.chain.head && s.drumUp && decide (s.now ≥ t + 3 * second) then
      .next ({ s with clk := { s.clk with lastExchange := none, good := 0 } }.setAlign .unaligned)
    else .next s

/-! Link states. -/

/-- SYMBOL_LOCK (13 R456): the receiver gains symbol lock; LOCKED and IDLE pairs are sent, a wake pattern no longer (R472). -/
def execSymbolLock (l : LaneId) (s : State) : Res :=
  if s.fast && (s.lane l.num).st != .up && (s.lane l.num).st != .off then
    .next ((s.modKakel l.num fun a => { a with lock := true, st := .training }).modChain fun c =>
      if l.num = 0 then { c with relayUp := false } else { c with relayDown := false })
  else .next s

/-- After a sleep both sides count HSEQ from 0 again (DESIGN CHOICE, log 58): the kept frames take the first numbers. -/
def Lane.renumber (a : Lane) : Lane :=
  if a.slept then { a with replay := a.replay.mapIdx fun i f => { f with hseq := i }, hseq := a.replay.length, expect := 0, bad := false } else a

/-- LINK_UP (13 R456): 8 credits are granted; kept frames are replayed; CHU coming UP ends the head role (R444), and the number unless the lane
only slept (R467, R474; DEDUCED, log 58). -/
def execLinkUp (l : LaneId) (s : State) : Res :=
  let a := s.lane l.num
  if !(s.fast && a.st == .training && a.lock) then .next s else
  let s := s.modKakel l.num fun a =>
    let a := a.renumber
    { a with st := .up, credits := 8 - min 8 a.replay.length, grants := 8, slept := false, replays := 0,
             replay := a.replay.map fun f => { f with sentDt := s.now } }
  let s := a.replay.foldl (fun s _ => (s.chainCount (2 + l.num)).count 50) s
  let s := s.pump l.num
  match l with
  | .chu =>
    if s.chain.head then .next ((s.modChain fun c => { c with head := false, unnumbered := true }).setAlign .unaligned)
    else if a.slept then .next s
    else .next (s.modChain fun c => { c with unnumbered := true })
  | .chd => .next s.chdChanged

/-- A lane leaves UP without ASLEEP: of CHD the head is told (13 R466). -/
def State.linkFails (s : State) (l : Nat) : State := if l = 1 then (s.laneDown 1).chdChanged else s.laneDown l

/-- LINK_DOWN (13 R456). -/
def execLinkDown (d : LaneDrop) (s : State) : Res :=
  if s.fast && s.laneUp d.lane.num then .next ((s.lineErrors d.lane.num d.errors).linkFails d.lane.num) else .next s

/-- Replays from HSEQ `n` on: a replay of ALIGN_REQ voids the exchange (13 R469), the sixteenth in a row takes the link DOWN (R456). -/
def State.replayOn (s : State) (l n : Nat) : State :=
  let request := s.clk.exchange.isSome && l == 0 && ((splitReplay n (s.lane 0).replay).1.drop ((splitReplay n (s.lane 0).replay).1.length - 1) ++
    (splitReplay n (s.lane 0).replay).2).any fun f => f.frame.ftype == 3
  let s := s.replayFrom l n
  let s := if request then s.voidExchange else s
  if (s.lane l).replays ≥ 16 then s.linkFails l else s

/-- NAK (13 R455, R460). -/
def execNak (l : LaneId) (n : Fin 256) (s : State) : Res :=
  if (s.lane l.num).replay.any (fun f => f.hseq == n.val) then .next (s.replayOn l.num n.val) else .next s

/-- REPLAY_TIMEOUT (13 R460): no ACK for the oldest frame within 8 µs. -/
def execReplayTimeout (l : LaneId) (s : State) : Res :=
  match (s.lane l.num).replay with
  | [] => .next s
  | f :: _ =>
    if s.laneUp l.num && decide (s.now ≥ f.sentDt + us 8) then .next (s.replayOn l.num f.hseq) else .next s

/-- LINK_SLEEP (13 R457): the lane is ASLEEP until its next training. -/
def execLinkSleep (l : LaneId) (f : RxFrame) (s : State) : Res :=
  match s.receive l.num f with
  | (s, none) => .next s
  | (s, some fr) => if fr.ftype ≠ 9 then .next s else .next (s.modKakel l.num fun a => { a with st := .asleep, lock := false, slept := true })

/-- A frame type that R458 reserves. -/
def reservedType (n : Nat) : Bool := n == 0 || decide (n ≥ 10)

/-- RESERVED_FRAME (13 R458): discarded and counted. -/
def execReservedFrame (l : LaneId) (f : RxFrame) (s : State) : Res :=
  match s.receive l.num f with
  | (s, none) => .next s
  | (s, some fr) => if reservedType fr.ftype then .next (s.chainCount 13) else .next s

/-- Frames of LINK_SLEEP sent on each lane that is UP (13 R457). -/
def State.sendLinkSleep (s : State) (cause : Nat) : State :=
  (s.sendSingle 0 9 (le 1 cause ++ zeros 3)).sendSingle 1 9 (le 1 cause ++ zeros 3)

/-- HEAD_TIMEOUT (13 R444): 100 ms (8,184,000 ticks) in RUN or IDLE without CHU UP. -/
def execHeadTimeout (s : State) : Res :=
  if s.drumUp && !s.chain.head && decide (s.chain.headCount ≥ 8184000) && !s.laneUp 0 then
    let s := s.modChain fun c => { c with head := true, number := 0, unnumbered := false }
    let s := { s with clk := { s.clk with offset := 0, steer := 0 } }
    let s := s.setAlign .master
    .next (if s.chain.enumAtStart && s.laneUp 1 then s.startEnum true [] else s)
  else .next s

/-! Units (13 R459–R464). -/

/-- A unit's assembly from its segments: `some` the complete unit. -/
def assemble (rx : Option PartUnit) (f : Frame) : Option PartUnit × Option PartUnit :=
  if f.abandon then (none, none)
  else
    let u : Option PartUnit :=
      if f.first then some { dev := f.dev, ring := f.ring, bytes := f.seg }
      else rx.map fun u => { u with bytes := u.bytes ++ f.seg }
    if f.last then (none, u) else (u, none)

/-- The device takes units for `dev` (11 R380, R381, 13 R461). -/
def State.takesDown (s : State) (dev : Nat) : Bool :=
  !s.chain.unnumbered && (dev == s.chain.number || dev == 127 || (decide (dev > s.chain.number) && !s.laneUp 1))

/-- The device passes units for `dev` on; device 63 passes none. -/
def State.forwardsDown (s : State) (dev : Nat) : Bool :=
  s.laneUp 1 && (s.chain.unnumbered || (s.chain.number != 63 && (dev == 127 || decide (dev > s.chain.number))))

/-- The ring that a unit's first segment selects can be filled by the link engines (13 R462). -/
def State.fillable (s : State) (bs : List Byte) : Bool :=
  let r := vget s.rings (selectedRing bs)
  r.en && !r.side

/-- The first segment of a unit to be taken finds its ring without room for LEN's slots, 64 where LEN exceeds 4,076 (13 R462). -/
def State.lacksRoom (s : State) (fr : Frame) : Bool :=
  let need := if getLe fr.seg 4 2 > 4076 then 64 else slotsOf (20 + getLe fr.seg 4 2)
  s.takesDown fr.dev && fr.first && !fr.abandon && s.fillable fr.seg && decide ((vget s.rings (selectedRing fr.seg)).free < need)

/-- A segment of a unit that the device takes; the whole unit is one transaction. -/
def State.gatherDown (s : State) (fr : Frame) : State :=
  if fr.first && !s.fillable fr.seg then (s.modKakel 0 fun a => { a with rx := none }).chainCount 11
  else
    let (rx, done) := assemble (s.lane 0).rx fr
    let s := s.modKakel 0 fun a => { a with rx := rx }
    match done with
    | none => s
    | some u =>
      if s.fillable u.bytes && decide (slotsOf u.bytes.length ≤ (vget s.rings (selectedRing u.bytes)).free) then
        s.arrive (selectedRing u.bytes) u.bytes
      else s.chainCount 11

/-- A DOWN frame in its turn (13 R461, R462): forwarded on CHD, taken, or discarded; while a unit waits for room, what follows it waits too. -/
def State.downFrame (s : State) (fr : Frame) : State :=
  match s.chain.held with
  | some h => s.modChain fun c => { c with held := some { h with frames := h.frames ++ [fr] } }
  | none =>
    if s.lacksRoom fr then s.modChain fun c => { c with held := some { frames := [fr], since := s.now } }
    else
      let takes := s.takesDown fr.dev
      let s := if s.forwardsDown fr.dev then
          (s.sendFrames 1 [⟨fr, none⟩]).modKakel 1 fun a => { a with sending := !fr.last }
        else s
      if takes then s.gatherDown fr
      else if !s.chain.unnumbered && fr.last && decide (fr.dev < s.chain.number) then s.chainCount 12
      else s

/-- DOWN. -/
def execDown (f : RxFrame) (s : State) : Res :=
  match s.receive 0 f with
  | (s, none) => .next s
  | (s, some fr) => if fr.ftype ≠ 1 then .next s else .next (s.downFrame fr)

/-- Frames that waited go on in their order. -/
def State.resumeDown (s : State) (fs : List Frame) : State := fs.foldl State.downFrame (s.modChain fun c => { c with held := none })

/-- A held unit goes on once there is room (at the end of a tick). -/
def State.retryHeld (s : State) : State :=
  match s.chain.held with
  | none => s
  | some h => if h.frames.head?.any s.lacksRoom then s else s.resumeDown h.frames

/-- DOWN_HOLD_EXPIRY (13 R462): the unit is discarded and counted. -/
def execDownHoldExpiry (s : State) : Res :=
  match s.chain.held with
  | none => .next s
  | some h =>
    if s.now ≥ h.since + us s.chain.downHold.toNat then
      .next (((s.modKakel 0 fun a => { a with rx := none }).chainCount 11).resumeDown (h.frames.tail.dropWhile fun f => !f.first))
    else .next s

/-- CRX bytes held in complete units, in 8-byte words. -/
def Chain.crxWords (c : Chain) : Nat := c.crx.length / 8

/-- A unit enters CRX with its tag (13 R451); the level may set CRX_THR (R453). -/
def State.crxPut (s : State) (u : PartUnit) : State :=
  let n := u.bytes.length
  let unit := le 1 u.dev ++ le 1 u.ring ++ le 2 0 ++ le 4 n ++ fit (8 * ceilDiv n 8) u.bytes
  let old := s.chain.crxWords
  let s := s.modChain fun c => { c with crx := c.crx ++ unit }
  let s := { s with pmon := s.pmon.event 51 (unit.length / 8) }
  let th := s.hport.crxThresh.toNat
  if th ≠ 0 ∧ old < th ∧ th ≤ s.chain.crxWords then s.modHport fun h => { h with crxThr := true } else s

/-- Frames of the forwarded unit in progress move onto CHU. -/
def State.flowUp (s : State) : State :=
  forUpto s.chain.hopUp.length (fun _ s =>
    match s.chain.current, s.chain.hopUp with
    | some true, f :: r =>
      let s := s.modChain fun c => { c with hopUp := r, current := if f.last then none else some true }
      s.sendFrames 0 [⟨f, none⟩]
    | _, _ => s) s

/-- UP (13 R463, R464): into CRX at the head, forwarded elsewhere; device 63 discards it. -/
def execUp (f : RxFrame) (s : State) : Res :=
  match s.receive 1 f with
  | (s, none) => .next s
  | (s, some fr) =>
    if fr.ftype ≠ 2 then .next s
    else if s.lastDevice then .next (s.chainCount 14)
    else if s.chain.head then
      let (rx, done) := assemble s.chain.crxUnit fr
      let s := s.modChain fun c => { c with crxUnit := rx }
      match done with
      | none => .next s
      | some u => .next (s.crxPut u)
    else .next (s.modChain fun c => { c with hopUp := c.hopUp ++ [fr] }).flowUp

/-- The own unit at the front of ring `n`, beyond what is already sent: its bytes and slots. -/
def State.ownUnit (s : State) (n : Nat) : Option (List Byte × Nat) :=
  let r := vget s.rings n
  let sent := vget s.chain.sentSlots n
  if !r.en || r.side || decide (r.ready ≤ sent) then none
  else
    let i := (r.cons + BitVec.ofNat 32 sent).toNat
    let h := r.bytes s.mem.sram i 1
    let len := if n ≤ 7 then 20 + getLe h 4 2 else 16 + getLe h 6 2
    some ((r.bytes s.mem.sram i (slotsOf len)).take len, slotsOf len)

/-- The own ring to serve: Q4–Q7 lowest first, otherwise Q8–Q15 in turn (13 R463). -/
def State.ownRing (s : State) : Option Nat :=
  match [4, 5, 6, 7].find? fun n => (s.ownUnit n).isSome with
  | some n => some n
  | none => ((List.range 8).map fun k => 8 + (s.chain.robin - 8 + k) % 8).find? fun n => (s.ownUnit n).isSome

/-! Credits (13 R460, R462, R464). -/

/-- Frame buffers of a receiving lane still taken: by frames held, or not yet passed on to the other lane. -/
def State.buffersTaken (s : State) (l : Nat) : Nat :=
  let passed (t : Nat) (a : Lane) : Nat := (a.queue.filter fun q => q.frame.ftype == t && q.own.isNone).length
  if l = 0 then (match s.chain.held with | none => 0 | some h => h.frames.length) + passed 1 (s.lane 1)
  else s.chain.hopUp.length + passed 2 (s.lane 0)

/-- Bytes free in CRX beyond the unit in progress. -/
def Chain.crxFree (c : Chain) : Nat :=
  65536 - c.crx.length - match c.crxUnit with | none => 0 | some u => 8 + 8 * ceilDiv u.bytes.length 8

/-- Credits for freed buffers return to the neighbours: none on CHU while a unit waits for room, on the head's CHD one for each 1,032 bytes
free in CRX beyond the unit in progress (DEDUCED, log 58). -/
def State.returnCredits (s : State) : State :=
  let grant (l cap : Nat) (s : State) : State :=
    if s.laneUp l then s.modKakel l fun a => { a with grants := max a.grants (min cap (8 - s.buffersTaken l)) } else s
  let s := if s.chain.held.isSome then s else grant 0 8 s
  grant 1 (if s.chain.head then s.chain.crxFree / 1032 else 8) s

/-- UNIT_BOUNDARY_ARBITRATION (13 R463). -/
def execUnitBoundaryArbitration (s : State) : Res :=
  if !(s.drumUp && !s.chain.head && s.laneUp 0 && s.chain.current.isNone) then .next s else
  let own := s.ownRing
  let fwd := !s.chain.hopUp.isEmpty
  let below := s.chain.length - s.chain.number - 1
  let takeOwn := own.isSome && (!fwd || decide (s.chain.forwarded ≥ below))
  if takeOwn then
    match own with
    | none => .next s
    | some n =>
      match s.ownUnit n with
      | none => .next s
      | some (bs, k) =>
        let s := s.modChain fun c =>
          { c with forwarded := 0, sentSlots := vmod c.sentSlots n (· + k), robin := if n ≥ 8 then 8 + (n - 8 + 1) % 8 else c.robin }
        .next (s.sendFrames 0 (unitFrames 2 s.number n (n, k) bs))
  else if fwd then
    .next (s.modChain fun c => { c with forwarded := c.forwarded + 1, current := some true }).flowUp
  else .next s

/-- UNIT_ABANDON (13 R459): 1 ms without the next segment of a forwarded unit. -/
def execUnitAbandon (l : LaneId) (s : State) : Res :=
  let a := s.lane l.num
  let open_ := match l with | .chu => s.chain.current == some true | .chd => a.sending
  if open_ && decide (s.now ≥ a.lastSeg + ms 1) then
    let f : Frame := { ftype := match l with | .chu => 2 | .chd => 1, first := false, last := true, abandon := true,
                       dev := s.number, ring := 0, seg := [] }
    let s := (s.sendFrames l.num [⟨f, none⟩]).chainCount 15
    let s := s.modKakel l.num fun a => { a with sending := false }
    match l with
    | .chu => .next (s.modChain fun c => { c with current := none })
    | .chd => .next s
  else .next s

/-! Enumeration rows. -/

/-- ENUM (13 R467). -/
def execEnum (f : RxFrame) (s : State) : Res :=
  match s.receive 0 f with
  | (s, none) => .next s
  | (s, some fr) =>
    if fr.ftype ≠ 6 then .next s else
    let next := byteAt fr.seg 0
    let auto := bit (byteAt fr.seg 1) 0
    let changed := byteAt fr.seg 2
    let epoch := getLe fr.seg 4 4
    let newEpoch := decide (epoch ≠ s.clk.masterEpoch)
    let s := { s with clk := { s.clk with masterEpoch := epoch } }
    let s := if newEpoch then s.chainAlign s.now else s
    if next ≥ 64 then
      let s := s.modChain fun c => { c with unnumbered := true }
      .next (s.sendSingle 0 7 (le 1 64 ++ le 1 1 ++ le 1 changed ++ le 1 0))
    else
      let diff := s.chain.unnumbered || s.chain.number != next
      let changed := if diff then changed + 1 else changed
      let s := s.modChain fun c => { c with number := next, unnumbered := false }
      if s.laneUp 1 then .next (s.sendSingle 1 6 (enumPayload (next + 1) auto changed epoch))
      else
        let s := s.modChain fun c => { c with length := next + 1 }
        .next (s.sendSingle 0 7 (le 1 (next + 1) ++ le 1 0 ++ le 1 changed ++ le 1 0))

/-- ENUM_END (13 R467, R468): ends the enumeration at the head, passes up elsewhere. -/
def execEnumEnd (f : RxFrame) (s : State) : Res :=
  match s.receive 1 f with
  | (s, none) => .next s
  | (s, some fr) =>
    if fr.ftype ≠ 7 then .next s else
    let len := byteAt fr.seg 0
    if s.chain.head then .next (s.endEnum len (bit (byteAt fr.seg 1) 0) (byteAt fr.seg 2))
    else .next ((s.modChain fun c => { c with length := len }).sendSingle 0 7 fr.seg)

/-- ENUM_REQ (13 R466): relayed up, or acted on at the head with AUTO_ENUM. -/
def execEnumReq (f : RxFrame) (s : State) : Res :=
  match s.receive 1 f with
  | (s, none) => .next s
  | (s, some fr) =>
    if fr.ftype ≠ 8 then .next s
    else if s.chain.head then .next s.requestEnum
    else if s.lastDevice then .next (s.chainCount 14)
    else .next (s.sendSingle 0 8 (zeros 4))

/-- ENUMERATION_TIMEOUT (13 R468, R476): no ENUM_END within 10 ms. -/
def execEnumerationTimeout (s : State) : Res :=
  match s.chain.enum with
  | none => .next s
  | some e =>
    if s.now ≥ e.started + ms 10 then
      let s := s.modChain fun c => { c with enum := none }
      .next (e.cmds.foldl (fun s id => s.finalReply id .timeout 0 []) s)
    else .next s

/-- A CHAIN_WAKE whose time is up (13 R478). -/
def State.wakeTimeouts (s : State) : State :=
  let (gone, kept) := s.chain.wakeCmds.partition fun w => decide (s.now ≥ w.till)
  let s := s.modChain fun c => { c with wakeCmds := kept }
  gone.foldl (fun s w => s.finalReply w.id .timeout s.chain.length []) s

/-! HPORT. -/

/-- The port serves a transaction (13 R444, R452, R453). -/
def State.hportServes (s : State) : Bool := s.chain.head && s.hport.en && s.hport.ready && s.fast

/-- ERR: the transaction is malformed (13 R447, R449, R450). -/
def State.hportErr (s : State) : State := (s.modHport fun h => { h with err := true }).chainCount 10

/-- The status block (13 R448). -/
def State.statusBlock (s : State) : List Byte :=
  let h := s.hport
  le 1 (bitsOf [(h.ready, 0), (s.chain.head, 1), (h.wrOvf, 2), (h.downBusy, 3), (h.err, 4), (s.intN, 5)]) ++
    le 1 s.chain.number ++ le 2 s.ringNonempty ++
    ((List.range 4).flatMap fun q => le 1 (min 255 (vget s.rings q).free)) ++
    le 1 (2 - s.chain.downBufs.length) ++ le 1 0 ++ le 4 s.chain.crx.length ++ le 2 0

/-- READ_STATUS (13 R448, R452): `n` bytes clocked out. While READY is clear a single-mode read returns 0 and a
quad-mode read undefined data. -/
def execReadStatus (quad : Bool) (n : Nat) (s : State) : Res :=
  if s.hportServes then
    let out := fit n s.statusBlock
    let s := if n = 0 then s else s.modHport fun h =>
      let stays (b : Bool) (i : Nat) : Bool := b && !bit (s.stood 0x0A01) i
      { h with wrOvf := stays h.wrOvf 0, downBusy := stays h.downBusy 1, err := stays h.err 2 }
    .next ((s.modHport fun h => { h with out := out }).count 44)
  else if quad then
    let (k, s) := s.draw
    .next (s.modHport fun h => { h with out := (List.range n).map fun i => Config.freeByte (k + i) })
  else .next (s.modHport fun h => { h with out := zeros n })

/-- A WRITE_PACKET is discarded whole. -/
def State.discardWrite (s : State) (k : Nat) : State := (s.chainCount k).count 45

/-- WRITE_PACKET (13 R449): one link transaction. -/
def execWritePacket (_quad : Bool) (bytes : List Byte) (s : State) : Res :=
  if !s.hportServes then .next s else
  let s := (s.modHport fun h => { h with out := [] }).count 44
  if bytes.length < 7 then .next ((s.modHport fun h => { h with err := true }).discardWrite 10)
  else
    let dev := byteAt bytes 2 % 128
    let toChd := s.laneUp 1 && (decide (1 ≤ dev ∧ dev ≤ 63) || dev == 127)
    let toRing := !(decide (1 ≤ dev ∧ dev ≤ 63)) || !s.laneUp 1
    if toChd && decide (s.chain.downBufs.length ≥ 2) then
      .next ((s.modHport fun h => { h with downBusy := true }).discardWrite 9)
    else
      let q := selectedRing bytes
      let r := vget s.rings q
      if toRing && (!r.en || r.side) then .next ((s.modHport fun h => { h with err := true }).discardWrite 10)
      else if toRing && decide (r.free < slotsOf bytes.length) then
        .next ((s.modHport fun h => { h with wrOvf := true }).discardWrite 8)
      else
        let s := if toChd then
            (s.modChain fun c => { c with downBufs := c.downBufs ++ [bytes] }).sendFrames 1
              (unitFrames 1 dev q (16, 0) bytes)
          else s
        .next (if toRing then s.arrive q bytes else s)

/-- READ_RING (13 R450): a prefix, then slots from CONS; `n` bytes clocked out after the dummy clocks. -/
def execReadRing (_quad : Bool) (rsel : BitVec 8) (n : Nat) (s : State) : Res :=
  if !s.hportServes then .next s else
  let s := s.count 44
  let q := rsel.toNat % 16
  let r := vget s.rings q
  if rsel.toNat / 16 % 8 ≠ 0 ∨ q < 4 ∨ r.side then
    .next ((s.hportErr).modHport fun h => { h with out := zeros n })
  else
    let used := r.ready
    let out := fit n (le 2 used ++ le 2 0 ++ r.bytes s.mem.sram r.cons.toNat used)
    let whole := min used ((n - 4) / 64)
    let s := s.modHport fun h => { h with out := out }
    .next (if rsel.getLsbD 7 then s
      else (s.modRing q fun r => { r with cons := r.cons + BitVec.ofNat 32 whole }).modChain fun c =>
        { c with sentSlots := vmod c.sentSlots q (· - whole) })

/-- READ_CHAIN (13 R450): whole 8-byte words clocked out leave CRX. -/
def execReadChain (_quad : Bool) (n : Nat) (s : State) : Res :=
  if !s.hportServes then .next s else
  let s := s.count 44
  let crx := s.chain.crx
  let s := s.modHport fun h => { h with out := fit n (le 4 crx.length ++ crx) }
  .next (s.modChain fun c => { c with crx := c.crx.drop (min crx.length ((n - 4) / 8 * 8)) })

/-- HPORT_UNKNOWN_INSTRUCTION (13 R447). -/
def execHportUnknownInstruction (code : BitVec 8) (s : State) : Res :=
  if s.hportServes && !([0x05, 0x75, 0x02, 0x32, 0x0B, 0x6B, 0x0C, 0x6C].contains code.toNat) then
    .next ((s.hportErr).count 44)
  else .next s

end Sys2Proof.Machine
end

