-- ==== Sys2Proof/Machine/ChainCmd.lean ====
section
/-! DEFINITION. The CHAIN group (13 R475–R480). -/

namespace Sys2Proof.Machine

def bodyChainGetStatus : Body := fun _ s =>
  let c := s.chain
  (s, .okay (le 1 (if c.unnumbered then 255 else c.number) ++ le 1 (if c.head then c.length else 0) ++
    le 1 (s.lane 0).st.code ++ le 1 (s.lane 1).st.code ++ le 1 s.alignCode ++
    le 1 (bitsOf [(c.head, 0), (c.enum.isSome, 1)]) ++ le 1 (if c.head then 2 - c.downBufs.length else 0) ++ le 1 0 ++
    le 4 c.crx.length ++ leInt 4 s.clk.lastH ++ leInt 4 s.clk.lastE ++ le 4 s.masterEpoch ++ zeros 4))

/-- CHAIN_ENUMERATE (13 R476). -/
def bodyChainEnumerate : Body := fun c s =>
  checked s [(!s.chain.head, .err .stateConflict 1)]
    (match s.chain.enum with
     | some e => (s.modChain fun k => { k with enum := some { e with cmds := e.cmds ++ [c.id] } }, .running)
     | none => (s.startEnum false [c.id], .running))

/-- CHAIN_SET_CONFIG (13 R477). -/
def bodyChainSetConfig : Body := fun c s =>
  let p := c.payload
  let hold := getLe p 2 2
  checked s
    [reservedPayload p [(0, 0xF0), (1, 0xFF), (4, 0xFF), (5, 0xFF), (6, 0xFF), (7, 0xFF)], outOfRange (decide (hold > 10000)) 2]
    (s.modChain fun k =>
      { k with wakeRelay := bit (byteAt p 0) 0, autoEnum := bit (byteAt p 0) 1, alignEn := bit (byteAt p 0) 2,
               wakeUpRelay := bit (byteAt p 0) 3, downHold := BitVec.ofNat 14 hold }, .okay [])

def Chain.flags (c : Chain) : Nat := bitsOf [(c.wakeRelay, 0), (c.autoEnum, 1), (c.alignEn, 2), (c.wakeUpRelay, 3)]

def bodyChainGetConfig : Body := fun _ s =>
  (s, .okay (le 1 s.chain.flags ++ le 1 0 ++ le 2 s.chain.downHold.toNat ++ zeros 4))

def bodyChainGetCounters : Body := fun _ s => (s, .okay (s.chain.counters.toList.flatMap (le 2)))

/-- CHAIN_WAKE (13 R478, R472): the wake pattern goes out on CHD; the reply waits for the enumeration it causes. -/
def bodyChainWake : Body := fun c s =>
  let p := c.payload
  let t := getLe p 0 2
  checked s
    [reservedPayload p [(2, 0xFF), (3, 0xFF)], outOfRange (decide (t ≠ 0 ∧ (t < 10 ∨ t > 10000))) 0,
     (!s.chain.head, .err .stateConflict 1)]
    (s.modChain fun k =>
      { k with wakeCmds := k.wakeCmds ++ [{ id := c.id, till := s.now + ms (if t = 0 then 2000 else t) }], relayDown := true },
     .running)

def execChainGetStatus (t : Txn) (s : State) : Res := hostCommand (opIs 0x0C00) bodyChainGetStatus t s
def execChainEnumerate (t : Txn) (s : State) : Res := hostCommand (opIs 0x0C01) bodyChainEnumerate t s
def execChainSetConfig (t : Txn) (s : State) : Res := hostCommand (opIs 0x0C02) bodyChainSetConfig t s
def execChainGetConfig (t : Txn) (s : State) : Res := hostCommand (opIs 0x0C03) bodyChainGetConfig t s
def execChainGetCounters (t : Txn) (s : State) : Res := hostCommand (opIs 0x0C04) bodyChainGetCounters t s
def execChainWake (t : Txn) (s : State) : Res := hostCommand (opIs 0x0C05) bodyChainWake t s

end Sys2Proof.Machine
end

