-- ==== Sys2Proof/Machine/Measure.lean ====
section
/-! DEFINITION. What power, reset and profile changes do to the Dome's measuring blocks (01 R24–R30, 18 R591, 19 R620,
R627, R629). -/

namespace Sys2Proof.Machine

/-- The measurement rate F in force, in Hz; 0 where no epochs are produced (06 R209, 12 R429). -/
def State.rateInForce (s : State) : Nat := if !s.domeService || s.pwr.profile = 0 then 0 else s.trk.epochs.rate

/-! The measurement stops and resumes (18 R591, 03 R87). -/

def State.modEpochs (s : State) (f : Epochs → Epochs) : State := s.modTrk fun t => { t with epochs := f t.epochs }

/-- A calibration run aborts (10 R361). -/
def State.breakRun (s : State) (reason : Nat) : State :=
  match s.cal.run with
  | none => s
  | some r => s.calAbort r.trigger reason 255

/-- A power-fail warning abandons the run without an abort count (10 R372); its commands end ABORTED. -/
def State.abandonRun (s : State) : State :=
  if s.cal.run.isSome then (s.calRelease.modCal fun c => { c with run := none }).answerCal .aborted 6 [] else s

/-- Jobs that the Dome gave itself, for channels and for the watch, end. -/
def State.dropOwnJobs (s : State) : State :=
  (s.easel.jobs.filter fun j => j.isTwin || j.isReacq).foldl (fun s j => s.dropJob j.id) s

/-- Entry to SLEEP, DEEP or OFF, or loss of the reference: every channel goes to IDLE, no epoch follows the last one; a
calibration run that holds its units aborts for `reason` (18 R591, 03 R87, 10 R361). -/
def State.stopMeasurement (s : State) (reason : Nat) : State :=
  let s := s.breakRun reason
  let s := forUpto 192 (fun ch s => if (s.chan ch).anchor.isSome then s.goIdle ch else s) s
  let s := (s.followTwins.dropOwnJobs).modEasel fun e => { e with queue := [] }
  s.modEpochs fun e => { e with last := none }

/-- The capture in progress ends without a result. -/
def State.endCapturing (s : State) : State :=
  if s.easel.capturing.isSome then (s.modEasel fun e => { e with capturing := none }).refreeze else s

/-- Capture requests ended by `gone` answer ABORTED and free their entries. -/
def State.abortCaptures (s : State) (gone : CaptureReq → Bool) (detail : Nat) : State :=
  let waiting := s.easel.reqs.filter gone
  let s := s.modEasel fun e => { e with reqs := e.reqs.filter fun r => !gone r }
  let (s, all) := match s.easel.capturing with
    | none => (s, waiting)
    | some c => if gone c.req then (s.endCapturing, c.req :: waiting) else (s, waiting)
  all.foldl (fun s r => (s.freeCapture r.id).finalOption r.cmd .aborted detail []) s

/-- The Sketch fix in progress ends ABORTED. -/
def State.abortFix (s : State) (detail : Nat) : State :=
  match s.easel.fix with
  | none => s
  | some _ =>
    let s := if s.easel.capturing.any fun c => c.req.forFix then s.endCapturing else s
    s.endFix .aborted detail []

/-- Search jobs ended by `gone` answer ABORTED. -/
def State.abortJobs (s : State) (gone : EaselJob → Bool) (detail : Nat) : State :=
  (s.easel.jobs.filter fun j => gone j && !j.isTwin && !j.isReacq && j.kind != .sketch).foldl
    (fun s j => (s.dropJob j.id).finalOption j.cmd .aborted detail []) s

/-- Commanded Easel jobs, captures and fixes end ABORTED (18 R591); a scheduled fix in progress ends with them. -/
def State.abortEasel (s : State) (detail : Nat) : State :=
  let s := s.easel.waitingFixes.foldl (fun s f => s.finalOption f.cmd .aborted detail []) s
  let s := s.modEasel fun e => { e with waitingFixes := [] }
  let s := (s.abortFix detail).abortCaptures (fun _ => true) detail
  (s.abortJobs (fun _ => true) detail).modEasel fun e => { e with restDue := false }

/-- Epochs resume, at the rate and with the settings that stand stored (06 R209, 12 R429). -/
def State.resumeEpochs (s : State) : State :=
  { s with interp := { s.interp with measNow := s.interp.meas, navNow := s.interp.navMode } }.modEpochs fun e =>
    { e with last := none, rate := s.profileRate }

/-- Measurement resumes after a wake or when the reference returns: lanes start afresh, epochs follow the grid from the next
point on, a Sketch fix that fell due starts (18 R591, 04 R149). -/
def State.resumeMeasurement (s : State) : State :=
  if !s.domeService then s
  else
    let s := s.resumeEpochs.syncPorts true 6
    let s := if s.easel.fixDue.isSome then s.startScheduled else s
    if s.pwr.profile = 0 then s.powerDownIdle else s

/-! Snapshot memory (04 R145). -/

/-- SNAP loses its content: every entry of the directory becomes invalid; what used it ends ABORTED. -/
def State.loseCaptures (s : State) (detail : Nat) : State :=
  let s := if s.easel.fix.any fun f => f.capture.isSome then s.abortFix detail else s
  let s := s.abortCaptures (fun _ => true) detail
  let s := s.abortJobs (fun j => j.capture.isSome) detail
  s.modEasel fun e => { e with captures := Vector.replicate 8 none }

/-! Reset and start of the Dome (19 R620, R629). -/

def Port.reset (p : Nat) (q : Port) : Port :=
  { cfg := { q.cfg with enable := decide (p < 2) }
    thresh := q.thresh
    notches := q.notches.map fun n => { mode := n.mode, width := n.width, offset := n.offset } }

/-- A geometry and J thresholds accepted but not yet in force are kept, and take effect at the first epoch (DESIGN CHOICE, log 55). -/
def Inputs.reset (i : Inputs) : Inputs :=
  { ports := Vector.ofFn fun p : Fin 8 => (vget i.ports p.val).reset p.val
    feStart := i.feStart, autoRetrain := i.autoRetrain, jCaution := i.jCaution, jAlert := i.jAlert, jPending := i.jPending
    array := i.array, arrayPending := i.arrayPending }

def Easel.reset (e : Easel) : Easel := { sketch := e.sketch, watch := { cfg := e.watch.pending.getD e.watch.cfg } }

/-- Channels stand on their own slots again; what R192 retires is rebuilt at the start. EPOCH_NO counts since the cold start (06 R223); settings
that wait for an epoch go on waiting (log 55). -/
def Tracking.reset (t : Tracking) : Tracking :=
  { Tracking.initial with
    loops := t.loops, loopSets := t.loopSets, palette := t.palette, palettePending := t.palettePending, cfg := t.cfg, primary := t.primary
    primaryNext := t.primaryNext, epochs := { no := t.epochs.no } }

def Pulses.reset (t : Pulses) : Pulses :=
  { gens := t.gens.map fun g => { cfg := g.cfg, st := if g.cfg.en then .wait else .off, polarity := g.cfg.polarity }
    limit := t.limitNext.getD t.limit }

/-- The last DT_MAP record stays valid until the next one (03 R107, R108, R116); SOL_NO counts since the cold start (07 R244), and ALERT is held
from now on (07 R261). -/
def Nav.reset (n : Nav) (now : Nat) : Nav :=
  { solNo := n.solNo, heldFrom := now, cfg := n.cfg, integ := n.integ, segment := n.segment, map := n.map, mapSecond := n.mapSecond, mapPayload := n.mapPayload
    lastMap := n.lastMap, temperature := n.temperature }

/-- Calibration keeps its store and its settings; the model's bins come back from the slot in force (10 R366, R367). -/
def Cal.reset (c : Cal) : Cal := { slots := c.slots, inForce := c.inForce, cfg := c.cfg }

/-- The measuring blocks at a Dome reset (R620, R629; settings kept: DEDUCED, log 46). -/
def State.resetMeasurement (s : State) : State :=
  { s with
    input := s.input.reset
    easel := s.easel.reset
    trk := s.trk.reset
    tp := s.tp.reset
    nav := s.nav.reset s.now
    cal := s.cal.reset }

/-- The valid slot with the higher GENERATION comes into force at once; where the power was lost between its write and its
audit entry, the entry is made now with AT_START (10 R367, R368). -/
def State.calStartup (s : State) : State :=
  let c := s.cal
  let a := vget c.slots 0
  let b := vget c.slots 1
  let pick := b.valid && (!a.valid || decide (a.generation < b.generation))
  let slot := vget c.slots (b2n pick)
  let other := vget c.slots (b2n !pick)
  if !slot.valid then s.modCal fun c => { c with values := {}, start := {}, glazing := false }
  else
    let s := s.modCal fun c => { c with inForce := pick, values := slot.values, start := slot.values, bins := slot.bins, glazing := false }
    if slot.count > vget s.sealed.counters 9 then
      let (cause, s) := s.claim 9
      let old := if other.valid then other.values else {}
      s.audit 0x0009 (some 9) cause s.now false true (s.calDetail pick old true)
    else s

/-- Notches in FIXED are engaged at their FREQ_OFFSET (02 R66). -/
def State.engageFixed (s : State) : State :=
  forUpto 8 (fun p s => forUpto 4 (fun k s =>
    let n := vget (s.port p).notches k
    if n.mode = 2 && !n.engaged then s.engage p k n.offset 0 else s) s) s

/-- The measuring blocks at stage 4 of the Dome start: the map of retired slots, the calibration in force, notches in FIXED,
lanes where FRONT already runs, epochs at the rate of EARLY (02 R66, 05 R192, 10 R367, 19 R626). -/
def State.startMeasurement (s : State) : State :=
  ((s.rebuildRetired.calStartup.engageFixed).syncPorts true 6).modEpochs fun e => { e with rate := 1, last := none }

/-- Start-up complete: a first-start calibration becomes ready where no slot is valid (10 R359, 19 R627). -/
def State.startCalibration (s : State) : State :=
  if s.cal.slots.toList.any (·.valid) then s else s.calTrigger 2

/-- The ports that a profile needs are LOCKED or FAILED (19 R627). -/
def State.portsReady (s : State) (profile : Nat) : Bool :=
  let needs (p : Nat) : Bool := (s.port p).cfg.enable && (profile == 2 || (profile == 1 && p == 0))
  (List.range 8).all fun p => !needs p || (s.port p).lane == .locked || (s.port p).lane == .failed

/-! Profiles (01 R24–R30). -/

/-- The lower band goes: lower lanes stop, and a channel left with none goes to IDLE (R29). -/
def State.stopLower (s : State) : State :=
  forUpto 192 (fun ch s =>
    if (s.chan ch).anchor.isNone then s
    else
      let s := s.modChan ch fun c => { c with lower := {} }
      if (s.chan ch).upper.signal = 0 then s.goIdle ch else s) s

/-- The watch ends with FULL: its confirmed twins are no longer followed (R25, 04 R151). -/
def State.endWatch (s : State) : State :=
  let old := s.easel.watch.twins
  let s := s.modWatch fun w => { w with twins := [], claimed := none }
  let s := (s.easel.jobs.filter (·.isTwin)).foldl (fun s j => s.dropJob j.id) s
  old.foldl (fun s t => if t.confirmed then s.twinEvent 0x66 t else s) s

/-- Live jobs and captures whose port the profile powers down end ABORTED, DETAIL 4 (04 R154). -/
def State.abortUnserved (s : State) : State :=
  let gone (p : Nat) : Bool := !s.frontOn p
  let s := s.abortCaptures (fun r => !r.forFix && r.ports.any gone) 4
  let uses (j : EaselJob) (lower : Bool) : Bool := decide ((if lower then j.hypLo else j.hypUp) > 0) ||
    s.easel.banks.toList.any fun b => b.job == some j.id && b.lower == lower
  let dead (j : EaselJob) : Bool := j.replay == 0 && [false, true].any fun lower => uses j lower && gone (j.port lower)
  let s := s.abortJobs dead 4
  (s.easel.jobs.filter fun j => j.isReacq && dead j).foldl (fun s j => s.dropJob j.id) s

/-- Without epochs new calibration values take effect at once (10 R370). -/
def State.endGlaze (s : State) : State :=
  s.modCal fun c => if c.slot.valid then { c with values := c.slot.values, alpha := c.span, glazing := false } else c

/-- A change of profile has taken effect: `lost` are the clusters without power now (R24–R30, 06 R209). -/
def State.applyProfile (s : State) (old : Nat) : State :=
  let new := s.pwr.profile
  let lost := (List.range 4).filter fun c => !s.poweredOn (5 + c)
  let s := (s.carryAll lost).1
  let s := (if new = 1 then s.stopLower else s).switchPrimary
  let s := s.modTrk fun t => { t with channels := t.channels.map fun c => c.setPalette (c.anchor.isSome && new == 2) s.now }
  let s := if old = 2 && new != 2 then s.endWatch else s
  let s := if new = 0 then s.endGlaze else s
  let s := if new = 2 then s else s.modNav fun n => { n with cupola := false }
  let s := (s.syncPorts true 4).abortUnserved
  let s := if new = 1 then s.loseCaptures 4 else s
  let s := if new = 0 then (s.dropOwnJobs.restPulses.scheduleFix.modEasel fun e => { e with queue := [] }).powerDownIdle else s
  let s := if old = 0 && new != 0 then s.resumeEpochs else s
  s.followLanes

/-- A tick at which a measurement epoch falls, before or after its records are written. -/
def State.atEpoch (s : State) : Bool := s.epochDue || s.trk.epochs.last == some s.now

end Sys2Proof.Machine
end

