-- ==== Sys2Proof/Machine/Serial.lean ====
section
/-! DEFINITION. UARTs and CAN controllers (14 R481–R502) and the SERIAL group (R503–R508). -/

namespace Sys2Proof.Machine

def State.modUart (s : State) (u : Nat) (f : Uart → Uart) : State := { s with uarts := vmod s.uarts u f }
def State.modCan (s : State) (m : Nat) (f : Can → Can) : State := { s with cans := vmod s.cans m f }

/-- U6 belongs to the Dome; its characters reach the inspection service as packets. -/
def isDrumUart (u : Nat) : Bool := u != 6

/-- The performance event of characters received by a UART (20 R638). -/
def uartEvent (u : Nat) : Nat := if u = 7 then 65 else 59 + u

/-- The Drum logic in LINK runs: the fast clocks run and the Drum is not in reset, or U7 in slow mode in SLEEP
(14 R491). -/
def State.uartRuns (s : State) (u : Nat) : Bool :=
  s.fast || (u == 7 && s.pwr.phase == .sleep && (vget s.uarts 7).line.slow)

/-! Bits and their spans. -/

/-- The majority of a bit's samples is high (14 R484, R486). -/
def highBit (samples : List Bool) : Bool := decide (samples.length < 2 * samples.count true)

/-- The span of sixteenths of a bit, in units of DT (14 R482–R484). -/
def LineSettings.span (l : LineSettings) (n : Nat) : Nat :=
  if l.slow then n * 2 ^ 32 * 2 ^ l.slowRate.toNat / (16 * 9600) else n * (256 * l.div.toNat + l.frac.toNat) * 2 ^ 32 / (256 * 81840000)

/-- What an edge may come early: a tick, in slow mode a half-cycle (14 R482, R484). -/
def LineSettings.slack (l : LineSettings) : Nat := if l.slow then 65536 else 53

def LineSettings.dataBits (l : LineSettings) : Nat := l.dbits.toNat + 5
def LineSettings.parityBits (l : LineSettings) : Nat := if l.parity = 0 then 0 else 1

/-- The parity bit that the data ask for: even, odd, mark, space (14 R485). -/
def LineSettings.parityOf (l : LineSettings) (data : List Bool) : Bool :=
  let odd := data.count true % 2 == 1
  if l.parity = 1 then odd else if l.parity = 2 then !odd else l.parity == 3

/-- The settings of the line for a start edge at `dt`: those before a write in the same tick (14 R490). -/
def Uart.lineAt (u : Uart) (dt : Nat) : LineSettings :=
  match u.changed with
  | some (t, old) => if t = dt then old else u.line
  | none => u.line

/-- New line settings written at `dt` (14 R490). -/
def Uart.setLine (u : Uart) (dt : Nat) (l : LineSettings) : Uart := { u with line := l, changed := some (dt, u.lineAt dt) }

/-! Receiving. -/

/-- An entry enters the receive FIFO, or is dropped when it holds 64 (14 R487, R502). -/
def Uart.receive (u : Uart) (bits : Nat) (dt : Nat) : Uart :=
  if u.rx.length ≥ 64 then { u with dropped := true, overrun := true, nDropped := sat16 u.nDropped }
  else
    let b := bits + bitsOf [(u.dropped, 19), (u.wokeNext, 21)]
    let n := u.rx.length + 1
    { u with rx := u.rx ++ [{ bits := BitVec.ofNat 22 b, dt := dt }], dropped := false, wokeNext := false,
             rxThr := u.rxThr || n == u.rxThresh.toNat }

/-- UART_START_EDGE (14 R486, R490), with the samples of the start bit: an armed receiver begins a character with the settings then in force;
a start bit whose majority is high is a false start. -/
def execUartStartEdge (u : Fin 8) (samples : List Bool) (s : State) : Res :=
  let r := vget s.uarts u.val
  if isDrumUart u.val && s.uartRuns u.val && r.rxen && r.rxLine.isNone && !r.breakActive && !highBit samples then
    .next (s.modUart u.val fun r => { r with rxLine := some (r.lineAt s.now), rxStart := s.now })
  else .next s

/-- In SLEEP, U7 in slow mode with WAKE set wakes the device when its FIFO reaches RXTHRESH or a break ends (14 R491): of the port
before and after an entry. -/
def Uart.slowWake (r r' : Uart) : Bool :=
  r'.wake && r'.line.slow &&
    ((decide (r.rx.length < r'.rx.length) && r'.rx.length == r'.rxThresh.toNat) || (r.breakActive && !r'.breakActive))

/-- UART_CHARACTER_RECEIVED (14 R487, R488) at the stop-bit decision: an entry with its flags and DT; an all-low frame begins a break. -/
def State.uartReceive (s : State) (u : Nat) (ch : UartChar) : State :=
  let r := vget s.uarts u
  match r.rxLine with
  | none => s
  | some l =>
    let n := l.dataBits
    let m := l.parityBits
    if !(isDrumUart u && s.uartRuns u) || r.breakActive || decide (s.now + l.slack < r.rxStart + l.span (16 * (n + m) + 25)) then s
    else
      let level (i : Nat) : Bool := highBit (ch.bits.getD i [])
      let data := (List.range n).map level
      let stop := level (n + m)
      if !stop && (List.range (n + m)).all fun i => !level i then s.modUart u fun r => { r with breakActive := true }
      else
        let s := (s.claim 7).2
        let parityErr := m == 1 && level n != l.parityOf data
        let bits := bitsOf (data.zip (List.range n)) + bitsOf [(parityErr, 16), (!stop, 17), (!s.fast, 20)]
        (s.modUart u fun r =>
          { r.receive bits s.now with
            rxLine := none
            nRx := sat32 r.nRx
            nParity := if parityErr then sat16 r.nParity else r.nParity
            nFraming := if stop then r.nFraming else sat16 r.nFraming }).count (uartEvent u)

/-- UART_BREAK_RECEIVED (14 R488): the line returns high; LENGTH in whole bit times from the start edge. -/
def State.uartBreak (s : State) (u : Nat) : State :=
  let r := vget s.uarts u
  if !(isDrumUart u && s.uartRuns u) || !r.breakActive then s
  else
    let s := (s.claim 7).2
    let length := (s.now - r.rxStart) / max 1 ((r.rxLine.getD r.line).span 16)
    let bits := min 65535 length + bitsOf [(true, 18), (!s.fast, 20)]
    s.modUart u fun r =>
      { r.receive bits s.now with breakActive := false, rxLine := none, breakEnd := true, nBreaksRx := sat16 r.nBreaksRx }

/-! Transmitting. -/

/-- TX_THR sets when the level falls to TXTHRESH (14 R492). -/
def Uart.popTx (u : Uart) : Uart :=
  { u with tx := u.tx.tail, txThr := u.txThr || (u.tx.length - 1 == u.txThresh.toNat) }

/-- The transmitter, free, starts what waits: a break, then the FIFO's next character (14 R489, R490). -/
def Uart.startNext (u : Uart) (now : Nat) : Uart × Option Nat :=
  if u.shifter.isSome || u.sending.isSome then (u, none)
  else match u.brkReq with
  | some b => ({ u with sending := some b, brkReq := none, txLine := u.line, txStart := now }, b.cmd)
  | none =>
    if !u.txen then (u, none)
    else match u.tx with
    | [] => (u, none)
    | c :: _ => ({ u.popTx with shifter := some c, txLine := u.line, txStart := now }, none)

/-- The bits that the transmitter has begun with have been sent: of a character with its stop bits, or of a break with its high bit. -/
def Uart.sentBits (u : Uart) (n now : Nat) : Bool := decide (u.txStart + u.txLine.span (16 * n) ≤ now + u.txLine.slack)

/-- The bits of a character (14 R485). -/
def LineSettings.charBits (l : LineSettings) : Nat := 1 + l.dataBits + l.parityBits + if l.stop2 then 2 else 1

/-- Starts what waits; a SERIAL_SEND_BREAK whose break starts gets ACCEPTED (14 R505). -/
def State.uartStart (s : State) (u : Nat) : State :=
  let r := (vget s.uarts u).startNext s.now
  let s := s.modUart u fun _ => r.1
  match r.2 with
  | none => s
  | some id => s.acceptedReply id

/-- UART_CHARACTER_SENT (14 R485): the shifter's character is done; U6 sends its reply byte by byte. -/
def execUartCharacterSent (u : Fin 8) (s : State) : Res :=
  if u.val = 6 then .next (s.modSeal fun v => { v with u6Tx := v.u6Tx.tail })
  else if s.uartRuns u.val && (vget s.uarts u.val).shifter.isSome &&
      (vget s.uarts u.val).sentBits (vget s.uarts u.val).txLine.charBits s.now then
    let s := (s.claim 7).2
    .next ((s.modUart u.val fun r => { r with shifter := none, nTx := sat32 r.nTx }).uartStart u.val)
  else .next s

/-- UART_BREAK_SENT (14 R489, R505). -/
def execUartBreakSent (u : Fin 8) (s : State) : Res :=
  match (vget s.uarts u.val).sending with
  | none => .next s
  | some b =>
    if !(s.uartRuns u.val && (vget s.uarts u.val).sentBits (b.length + 1) s.now) then .next s else
    let s := s.modUart u.val fun r => { r with sending := none, breakEnd := true, nBreaksTx := sat16 r.nBreaksTx }
    let s := match b.cmd with
      | none => s
      | some id => s.finalReply id .ok 0 []
    .next (s.uartStart u.val)

/-- A break request (14 R489): refused while one is being sent or waits; a LENGTH of 0 has no effect. -/
def State.requestBreak (s : State) (u length : Nat) (cmd : Option Nat) : State :=
  let r := vget s.uarts u
  if length = 0 ∨ r.sending.isSome ∨ r.brkReq.isSome then s
  else (s.modUart u fun r => { r with brkReq := some { length := length, cmd := cmd } }).uartStart u

/-- A change of TXEN or RXEN (14 R490, R505). -/
def State.uartEnables (s : State) (u : Nat) (rxen txen : Bool) : State :=
  let r := vget s.uarts u
  let s := s.modUart u fun r =>
    { r with rxen := rxen, txen := txen, rxLine := if rxen then r.rxLine else none, breakActive := rxen && r.breakActive }
  if txen then s.uartStart u
  else match r.sending, r.brkReq with
    | some b, _ =>
      (match b.cmd with
       | some id => (s.modUart u fun r => { r with sending := none }).finalReply id .aborted 5 []
       | none => s.modUart u fun r => { r with sending := none })
    | none, some b =>
      (match b.cmd with
       | some id => (s.modUart u fun r => { r with brkReq := none }).finalReply id .aborted 5 []
       | none => s.modUart u fun r => { r with brkReq := none })
    | none, none => s

/-! CAN. -/

/-- Data bytes that a DLC names (ISO 11898-1, 14 R496). -/
def dlcBytes (fdf : Bool) (dlc : Nat) : Nat :=
  if dlc ≤ 8 then dlc
  else if !fdf then 8
  else if dlc = 9 then 12 else if dlc = 10 then 16 else if dlc = 11 then 20 else if dlc = 12 then 24
  else if dlc = 13 then 32 else if dlc = 14 then 48 else 64

/-- Index of the lowest matching filter; 255 with none enabled; `none` when the frame is not stored (14 R495). -/
def Can.filter (c : Can) (f : CanFrame) : Option Nat :=
  let l := c.filters.toList
  if l.all (fun x => !x.en) then some 255
  else firstMatch 0 l f
where
  firstMatch (i : Nat) (l : List CanFilter) (f : CanFrame) : Option Nat :=
    match l with
    | [] => none
    | x :: r =>
      if x.en && x.ide == f.ide && (f.id ^^^ x.id) &&& x.mask == 0 then some i else firstMatch (i + 1) r f

/-- An entry's 96 bytes (14 R496). -/
def canEntry (f : CanFrame) (b5 b6 b7 sof eof : Nat) : List Byte :=
  le 4 (f.id.toNat + bitsOf [(f.ide, 29), (f.rtr, 30)]) ++
    le 1 (f.dlc.toNat + bitsOf [(f.fdf, 4), (f.brs, 5), (f.esi, 6)]) ++ le 1 b5 ++ le 1 b6 ++ le 1 b7 ++ le 8 sof ++ le 8 eof ++
    fit 64 (f.data.take (if f.rtr then 0 else dlcBytes f.fdf f.dlc.toNat)) ++ zeros 8

def Can.rxAddr (c : Can) (i : BitVec 32) : Nat := c.rxBase.toNat * 64 + i.toNat % 2 ^ c.rxLog2.toNat * 96
def Can.txAddr (c : Can) (i : BitVec 32) : Nat := c.txBase.toNat * 64 + i.toNat % 2 ^ c.txLog2.toNat * 96

/-- A ring of entries lies in Drum SRAM and clear of D0's area (14 R501, R506). -/
def canInside (base log2 : Nat) : Bool := decide (base * 64 + 2 ^ log2 * 96 ≤ 0x400000)
def canOverlaps (base log2 : Nat) : Bool := decide (base * 64 + 2 ^ log2 * 96 > 0x3E3000)

/-- The controller takes part in the bus: on it, joined, and not bus-off (14 R499, R500). -/
def State.canOn (s : State) (m : Nat) : Bool := s.fast && (vget s.cans m).en && (vget s.cans m).busIdle && (vget s.cans m).state != 2

/-- State from the error counts (ISO 11898-1; PRESUMED, log 30). -/
def Can.setState (c : Can) : Can :=
  let n := if c.tec > 255 then 2 else if c.tec > 127 ∨ c.rec_ > 127 then 1 else 0
  if n = c.state then c
  else { c with state := n, stateChg := true, busIdle := if n = 2 then false else c.busIdle,
                counts := if n = 2 then { c.counts with busOff := sat16 c.counts.busOff } else c.counts }

/-- A frame received is counted and stored where a filter takes it, or dropped (14 R495, R498). -/
def State.canStore (s : State) (m : Nat) (f : CanFrame) (sof : Nat) : State :=
  let c := vget s.cans m
  match c.filter f with
  | none => s
  | some i =>
    let s := (s.modCan m fun c => { c with counts := { c.counts with rx := sat32 c.counts.rx } }).count (66 + m)
    if (c.rxProd - c.rxCons).toNat ≥ 2 ^ c.rxLog2.toNat then
      s.modCan m fun c =>
        { c with rxDrop := true, lost := satAdd 255 c.lost 1, counts := { c.counts with dropped := sat16 c.counts.dropped } }
    else
      (s.sramWrite (c.rxAddr c.rxProd) (canEntry f i (b2n (c.lost != 0)) c.lost sof s.now)).modCan m fun c =>
        { c with rxProd := c.rxProd + 1, rxNew := true, lost := 0 }

/-- CAN_FRAME_RECEIVED (14 R495–R498). A controller in loopback takes no frame from the bus (PRESUMED, log 30). -/
def execCanFrameReceived (m : Fin 2) (f : CanFrame) (sof : Nat) (s : State) : Res :=
  if !s.canOn m.val || (vget s.cans m.val).mode == 2 then .next s else
  let s := (s.claim 7).2
  let (k, s) := s.draw
  let s := s.modCan m.val fun c =>
    { c with rec_ := if c.rec_ > 127 then 119 + Config.freeNat k % 9 else c.rec_ - 1 }.setState
  .next (s.canStore m.val f sof)

/-- The transmit entry in service, as the controller reads it: its frame bits. -/
def State.canTxWord (s : State) (m : Nat) : Nat × Nat :=
  let c := vget s.cans m
  let a := c.txAddr c.txCons
  (ofLe (s.mem.sram.readN a 4), (s.mem.sram.read (a + 4)).toNat)

/-- The frame of the transmit entry in service (14 R496). -/
def State.canTxFrame (s : State) (m : Nat) : CanFrame :=
  let w := s.canTxWord m
  let c := vget s.cans m
  { id := BitVec.ofNat 29 w.1, ide := bit w.1 29, rtr := bit w.1 30, dlc := BitVec.ofNat 4 w.2, fdf := bit w.2 4, brs := bit w.2 5
    esi := bit w.2 6, data := s.mem.sram.readN (c.txAddr c.txCons + 24) 64 }

/-- An entry that is not sent: FDF while FD is clear, or RTR with FDF (14 R498). -/
def State.canRejects (s : State) (m : Nat) : Bool :=
  let w := s.canTxWord m
  bit w.2 4 && (!(vget s.cans m).fd || bit w.1 30)

/-- Completion of the transmit entry: write-back of byte 6, byte 7 and the stamps, then TXCONS (14 R496, R497). -/
def State.canComplete (s : State) (m : Nat) (b6 sof eof : Nat) : State :=
  let c := vget s.cans m
  let a := c.txAddr c.txCons
  let s := s.sramWrite (a + 6) (le 1 b6 ++ le 1 (min 255 c.losses))
  let s := if b6 = 1 then s.sramWrite (a + 8) (le 8 sof ++ le 8 eof) else s
  s.modCan m fun c => { c with txCons := c.txCons + 1, txDone := true, losses := 0 }

/-- Rejected entries are passed over, at most one ring of them (14 R498). -/
def State.canSkipRejected (s : State) (m : Nat) : State :=
  forUpto 256 (fun _ s =>
    let c := vget s.cans m
    if s.canOn m && c.mode != 1 && c.txProd != c.txCons && s.canRejects m then s.canComplete m 2 0 0 else s) s

/-- At a tick's end a controller that serves its transmit ring has passed over the entries that it does not send. -/
def State.canTick (s : State) (m : Nat) : State :=
  if s.canOn m && (vget s.cans m).txProd != (vget s.cans m).txCons then s.canSkipRejected m else s

/-- CAN_FRAME_SENT (14 R497, R498): the entry in service completes. A listen-only controller serves no entry; one in loopback receives what
it sends (R493). -/
def execCanFrameSent (m : Fin 2) (sof : Nat) (s : State) : Res :=
  let s := s.canTick m.val
  let c := vget s.cans m.val
  if !(s.canOn m.val) || c.mode == 1 || c.txProd == c.txCons then .next s else
  let s := (s.claim 7).2
  let f := s.canTxFrame m.val
  let s := s.canComplete m.val 1 sof s.now
  let s := if c.mode == 2 then s.canStore m.val f sof else s
  .next ((s.modCan m.val fun c =>
    { c with tec := c.tec - 1, counts := { c.counts with tx := sat32 c.counts.tx } }.setState).count (68 + m.val))

/-- CAN_ARBITRATION_LOSS (14 R498): the entry is retried. -/
def execCanArbitrationLoss (m : Fin 2) (s : State) : Res :=
  let c := vget s.cans m.val
  if s.canOn m.val && c.mode == 0 && c.txProd != c.txCons then
    .next (s.modCan m.val fun c => { c with losses := satAdd 255 c.losses 1, counts := { c.counts with arb := sat16 c.counts.arb } })
  else .next s

def CanCounts.add (n : CanCounts) : CanError → CanCounts
  | .bit => { n with bit := sat16 n.bit }
  | .stuff => { n with stuff := sat16 n.stuff }
  | .form => { n with form := sat16 n.form }
  | .crc => { n with crc := sat16 n.crc }
  | .ack => { n with ack := sat16 n.ack }

/-- CAN_BUS_ERROR (14 R499; ISO 11898-1, PRESUMED, log 30): a transmitter's TEC rises by 8, a receiver's REC by 1, or by 8 where
`large` says that ISO 11898-1 counts 8. -/
def execCanBusError (m : Fin 2) (kind : CanError) (tx large : Bool) (s : State) : Res :=
  if !s.canOn m.val then .next s else
  .next (s.modCan m.val fun c =>
    (if tx then { c with tec := c.tec + 8, counts := c.counts.add kind }
     else { c with rec_ := c.rec_ + if large then 8 else 1, counts := c.counts.add kind }).setState)

/-- CAN_BUS_OFF_RECOVERY (14 R499). -/
def execCanBusOffRecovery (m : Fin 2) (s : State) : Res :=
  let c := vget s.cans m.val
  if s.fast && c.en && c.state == 2 && c.autoRecover then
    .next (s.modCan m.val fun c => { c with tec := 0, rec_ := 0, busIdle := true }.setState)
  else .next s

/-- CAN_BUS_JOIN (14 R500, R502): after 11 recessive bits. -/
def execCanBusJoin (m : Fin 2) (s : State) : Res :=
  if s.fast && (vget s.cans m.val).en && (vget s.cans m.val).state != 2 then .next (s.modCan m.val fun c => { c with busIdle := true })
  else .next s

/-- Clearing EN (14 R501, R502): the indices are cleared, entries are discarded without write-back. -/
def Can.stop (c : Can) : Can :=
  { c with en := false, busIdle := false, rxProd := 0, rxCons := 0, txProd := 0, txCons := 0, tec := 0, rec_ := 0,
           losses := 0 }.setState

/-- Setting EN from 0 starts error-active with cleared counts. -/
def Can.start (c : Can) : Can := { c with en := true, busIdle := false, tec := 0, rec_ := 0 }.setState

/-! SERIAL group. -/

/-- SERIAL_SET_UART (14 R503). -/
def bodySerialSetUart : Body := fun c s =>
  let p := c.payload
  let u := byteAt p 0
  let fmt := byteAt p 1
  let fl := byteAt p 2
  let slow := bit fl 3
  checked s
    [reservedPayload p [(1, 0x80), (2, 0xF0), (7, 0xFF), (10, 0xFF), (11, 0xFF), (12, 0xFF), (13, 0xFF), (14, 0xFF), (15, 0xFF)],
     outOfRange (decide (u > 7 ∨ u = 6)) 0, outOfRange (decide (fmt % 8 > 4 ∨ fmt / 8 % 8 > 4)) 1,
     outOfRange (slow && u != 7) 2, outOfRange (decide (byteAt p 3 > if slow then 3 else 0)) 3,
     outOfRange (decide (getLe p 4 2 = 0)) 4, outOfRange (u == 7 && byteAt p 6 != 0) 6,
     outOfRange (decide (byteAt p 8 < 1 ∨ byteAt p 8 > 64)) 8, outOfRange (decide (byteAt p 9 > 63)) 9,
     ((vget s.uarts u).sending.isSome, .err .stateConflict 0)]
    (let l : LineSettings :=
       { dbits := BitVec.ofNat 3 fmt, parity := BitVec.ofNat 3 (fmt / 8), stop2 := bit fmt 6, slow := slow,
         slowRate := BitVec.ofNat 2 (byteAt p 3), div := BitVec.ofNat 16 (getLe p 4 2), frac := BitVec.ofNat 8 (byteAt p 6) }
     let s := s.modUart u fun r =>
       { r.setLine s.now l with
         wake := bit fl 2, rxThresh := BitVec.ofNat 7 (byteAt p 8), txThresh := BitVec.ofNat 6 (byteAt p 9) }
     (s.uartEnables u (bit fl 0) (bit fl 1), .okay []))

def LineSettings.format (l : LineSettings) : Nat := l.dbits.toNat + l.parity.toNat * 8 + bitsOf [(l.stop2, 6)]

/-- The rate in force in 0.01 baud (14 R482–R484). -/
def Uart.rate (u : Uart) : Nat :=
  let l := u.line
  if l.slow then 960000 / 2 ^ l.slowRate.toNat
  else (rnd (81840000 * 100 * 256) (16 * (256 * l.div.toNat + l.frac.toNat))).toNat

/-- The settings bytes of R503. -/
def Uart.settings (u : Uart) (port : Nat) : List Byte :=
  le 1 port ++ le 1 u.line.format ++ le 1 (bitsOf [(u.rxen, 0), (u.txen, 1), (u.wake, 2), (u.line.slow, 3)]) ++
    le 1 u.line.slowRate.toNat ++ le 2 u.line.div.toNat ++ le 1 u.line.frac.toNat ++ le 1 0 ++ le 1 u.rxThresh.toNat ++
    le 1 u.txThresh.toNat ++ zeros 6

/-- U6's fixed settings (09 R340, 14 R504). -/
def u6Fixed : Uart := { rxen := true, txen := true, rxThresh := 0 }

/-- SERIAL_GET_UART (14 R504). -/
def bodySerialGetUart : Body := fun c s =>
  let n := byteAt c.payload 0
  let u := if n = 6 then u6Fixed else vget s.uarts n
  checked s [outOfRange (decide (n > 7)) 0]
    (s, .okay (u.settings n ++
      (if n = 6 then zeros 3
       else le 1 u.rx.length ++ le 1 u.tx.length ++ le 1 (bitsOf [(u.breakActive, 0), (u.sending.isSome, 1), (u.txIdle, 2)])) ++
      le 1 0 ++ le 4 u.rate))

/-- SERIAL_SEND_BREAK (14 R505): ACCEPTED follows when the break starts. -/
def bodySerialSendBreak : Body := fun c s =>
  let p := c.payload
  let n := byteAt p 0
  let u := vget s.uarts n
  let len := getLe p 2 2
  checked s
    [reservedPayload p [(1, 0xFF)], outOfRange (decide (n > 7 ∨ n = 6)) 0, outOfRange (decide (len = 0)) 2,
     (!u.txen || u.sending.isSome || u.brkReq.isSome, .err .stateConflict 0)]
    (s.requestBreak n len (some c.id), .quiet)

/-- Settings of SERIAL_SET_CAN (14 R506): value checks, ascending by offset. -/
def canChecks (p : List Byte) : List (Bool × Ans) :=
  let nb := getLe p 4 2
  let n1 := getLe p 6 2
  let n2 := byteAt p 8
  let db := byteAt p 10
  let d1 := byteAt p 11
  let d2 := byteAt p 12
  [reservedPayload p [(1, 0xE0), (3, 0xFF), (21, 0xFF), (22, 0xFF), (23, 0xFF)],
   outOfRange (decide (byteAt p 0 > 1)) 0, outOfRange (decide (byteAt p 2 > 2)) 2,
   outOfRange (decide (nb < 1 ∨ nb > 512)) 4, outOfRange (decide (n1 < 2 ∨ n1 > 256)) 6,
   outOfRange (decide (n2 < 2 ∨ n2 > 128)) 8, outOfRange (decide (byteAt p 9 < 1 ∨ byteAt p 9 > n2)) 9,
   outOfRange (decide (db < 1 ∨ db > 32)) 10, outOfRange (decide (d1 < 1 ∨ d1 > 32)) 11,
   outOfRange (decide (d2 < 1 ∨ d2 > 16)) 12, outOfRange (decide (byteAt p 13 < 1 ∨ byteAt p 13 > d2)) 13,
   outOfRange (decide (byteAt p 14 > 127)) 14, outOfRange (decide (byteAt p 15 < 4 ∨ byteAt p 15 > 10)) 15,
   outOfRange (decide (byteAt p 20 < 4 ∨ byteAt p 20 > 8)) 20,
   outOfRange (decide (nb * (1 + n1 + n2) < 80)) 4, outOfRange (decide (db * (1 + d1 + d2) < 16)) 10,
   outOfRange (!canInside (getLe p 16 2) (byteAt p 15)) 16, outOfRange (!canInside (getLe p 18 2) (byteAt p 20)) 18,
   (canOverlaps (getLe p 16 2) (byteAt p 15) || canOverlaps (getLe p 18 2) (byteAt p 20), .err .stateConflict 16)]

/-- SERIAL_SET_CAN (14 R506, R494: the registers hold each value less one): the controller leaves the bus, takes the
settings and rejoins (R502). -/
def bodySerialSetCan : Body := fun c s =>
  let p := c.payload
  let m := byteAt p 0
  let fl := byteAt p 1
  checked s (canChecks p)
    (s.modCan m fun k =>
       let k := k.stop
       let k := { k with
         fd := bit fl 1, autoRecover := bit fl 2, wake := bit fl 3, tdc := bit fl 4, mode := BitVec.ofNat 2 (byteAt p 2)
         nbt := BitVec.ofNat 31 ((getLe p 4 2 - 1) + (getLe p 6 2 - 1) * 2 ^ 9 + (byteAt p 8 - 1) * 2 ^ 17 + (byteAt p 9 - 1) * 2 ^ 24)
         dbt := BitVec.ofNat 25 ((byteAt p 10 - 1) + (byteAt p 11 - 1) * 2 ^ 5 + (byteAt p 12 - 1) * 2 ^ 10 +
           (byteAt p 13 - 1) * 2 ^ 14 + byteAt p 14 * 2 ^ 18)
         rxBase := BitVec.ofNat 16 (getLe p 16 2), rxLog2 := BitVec.ofNat 4 (byteAt p 15)
         txBase := BitVec.ofNat 16 (getLe p 18 2), txLog2 := BitVec.ofNat 4 (byteAt p 20) }
       if bit fl 0 then k.start else k, .okay [])

/-- A bit field of a word. -/
def field (n lo w : Nat) : Nat := n / 2 ^ lo % 2 ^ w

/-- The settings of a controller in the layout of R506. -/
def Can.settings (c : Can) (port : Nat) : List Byte :=
  let n := c.nbt.toNat
  let d := c.dbt.toNat
  le 1 port ++ le 1 (bitsOf [(c.en, 0), (c.fd, 1), (c.autoRecover, 2), (c.wake, 3), (c.tdc, 4)]) ++ le 1 c.mode.toNat ++ le 1 0 ++
    le 2 (field n 0 9 + 1) ++ le 2 (field n 9 8 + 1) ++ le 1 (field n 17 7 + 1) ++ le 1 (field n 24 7 + 1) ++
    le 1 (field d 0 5 + 1) ++ le 1 (field d 5 5 + 1) ++ le 1 (field d 10 4 + 1) ++ le 1 (field d 14 4 + 1) ++
    le 1 (field d 18 7) ++ le 1 c.rxLog2.toNat ++ le 2 c.rxBase.toNat ++ le 2 c.txBase.toNat ++ le 1 c.txLog2.toNat ++ zeros 3

/-- SERIAL_GET_CAN (14 R507). -/
def bodySerialGetCan : Body := fun c s =>
  let m := byteAt c.payload 0
  let k := vget s.cans m
  checked s [outOfRange (decide (m > 1)) 0]
    (s, .okay (k.settings m ++ le 1 k.state ++ le 1 (min 255 k.tec) ++ le 1 (min 255 k.rec_) ++ le 1 (b2n k.busIdle)))

/-- SERIAL_GET_COUNTERS (14 R508). -/
def bodySerialGetCounters : Body := fun c s =>
  let n := byteAt c.payload 0
  let u := vget s.uarts n
  let k := vget s.cans (n - 8)
  checked s [outOfRange (decide (n > 9 ∨ n = 6)) 0]
    (s, .okay (le 1 n ++
      if n < 8 then
        zeros 3 ++ le 4 u.nRx ++ le 4 u.nTx ++ le 2 u.nParity ++ le 2 u.nFraming ++ le 2 u.nBreaksRx ++ le 2 u.nDropped ++
          le 2 u.nBreaksTx ++ le 2 u.nWakes ++ zeros 4
      else
        le 1 k.state ++ le 1 (min 255 k.tec) ++ le 1 (min 255 k.rec_) ++ le 4 k.counts.rx ++ le 4 k.counts.tx ++
          le 2 k.counts.dropped ++ le 2 k.counts.bit ++ le 2 k.counts.stuff ++ le 2 k.counts.form ++ le 2 k.counts.crc ++
          le 2 k.counts.ack ++ le 2 k.counts.busOff ++ le 2 k.counts.arb))

def execSerialSetUart (t : Txn) (s : State) : Res := hostCommand (opIs 0x0D00) bodySerialSetUart t s
def execSerialGetUart (t : Txn) (s : State) : Res := hostCommand (opIs 0x0D01) bodySerialGetUart t s
def execSerialSendBreak (t : Txn) (s : State) : Res := hostCommand (opIs 0x0D02) bodySerialSendBreak t s
def execSerialSetCan (t : Txn) (s : State) : Res := hostCommand (opIs 0x0D03) bodySerialSetCan t s
def execSerialGetCan (t : Txn) (s : State) : Res := hostCommand (opIs 0x0D04) bodySerialGetCan t s
def execSerialGetCounters (t : Txn) (s : State) : Res := hostCommand (opIs 0x0D05) bodySerialGetCounters t s

end Sys2Proof.Machine
end

