-- ==== Sys2Proof/Machine/Reset.lean ====
section
/-! DEFINITION. Resets and their reach (19 R618–R621, R628–R632), the beginning of RLINK sequences (18 R603–R605) and the
start of the two parts (19 R622–R625). -/

namespace Sys2Proof.Machine

/-! RLINK sequences begin. -/

/-- The first transaction of an attempt (18 R603). -/
def RlinkCfg.opening (c : RlinkCfg) : RTransaction := if c.page = 0xFF then .main else .page
def Rlink.opening (r : Rlink) : RTransaction := r.cfg.opening

/-- A sequence begins, or waits for the one in progress. -/
def Rlink.start (r : Rlink) (p : RPurpose) (volts : Nat) : Rlink :=
  if r.seq.isSome then { r with queue := r.queue ++ [(p, volts)] }
  else { r with seq := some { purpose := p, volts := volts, cfg := r.cfg, at_ := r.opening }, state := if p == .stageOneMode then r.state else 2 }

def State.rlinkStart (s : State) (p : RPurpose) (volts : Nat) : State := s.modRlink fun r => r.start p volts

/-- Voltage of an operating point: 0 FULL, 1 RUN, 2 BARE (18 R605). -/
def Rlink.point (r : Rlink) (p : Nat) : Nat := if p = 0 then r.vFull else if p = 1 then r.vRun else r.vBare

/-- The operating point of a profile (18 R605). -/
def profilePoint (profile : Nat) : Nat := if profile = 2 ∨ profile = 3 then 0 else 1

/-- The operating point in force. -/
def State.pointInForce (s : State) : Nat := if s.boot.stage < 5 then 2 else profilePoint s.pwr.profile

/-! One core (19 R618, R620, R623). -/

/-- A reset of core `n` alone: its registers, at boot-ROM entry 0xFF0080; watchdog count restarts (19 R630). -/
def State.coreReset (s : State) (n source : Nat) : State :=
  { s with
    cores := vset s.cores n (coreAt n 0xFF0080 false)
    wdts := vmod s.wdts n fun w => { w with since := s.now }
    boot := if n = 1 then { s.boot with srcD1 := source } else { s.boot with srcD2 := source } }

/-! The Dome. -/

/-- Records due and not signed receive no STORE_SEQ and are counted (09 R338, R339); integration resumes from the
committed values across a RESTART break (R323, R324), in which the held verdict is ALERT or was worse (07 R261). -/
def Seal.restart (v : Seal) (held : Nat) (powerFail : Bool) : Seal :=
  let counts := v.due.foldl (fun g r => g.add r.kind) v.counts
  { v with
    due := []
    counts := { counts with abandoned := counts.abandoned || (powerFail && !v.due.isEmpty) }
    brk := some { cause := 3, worst := max 2 (match v.brk with | none => held | some b => max held b.worst) }
    accepted := 0
    measured := v.commit.measured
    measuredSub := 0
    bridged := v.commit.bridged
    last := v.commit.last
    zones := v.commit.zones
    integrating := false
    u6Tx := []
    u6Resync := false
    u6Last := none }

/-- Output held in the mailbox is discarded, to be counted at stage 4 (01 R23). -/
def Mailbox.reset (m : Mailbox) : Mailbox :=
  let lost := m.out.foldl (fun v o => vmod v o.ring (satAdd 0xFFFF · 1)) m.lost
  { dropped := m.dropped, droppedTotal := m.droppedTotal, lost := lost, discards := m.discards }

/-- A reset that reaches the Dome (19 R629). `withDrum`: the Drum is reset with it. A reset that is not yet entered, as another comes
before stage 4, is entered there too (01 R23). -/
def State.domeReset (s : State) (source : Nat) (withDrum : Bool) : State :=
  let again := s.boot.dome == .images && s.boot.resetDt == s.now
  let held := s.nav.held
  let startHeld := s.epochHeld
  let s := s.stopPulses.resetMeasurement.modSeal fun v => v.restart held false
  let s := { s with mbx := s.mbx.reset }
  { s with
    zoneLoad := none
    domeImages := { s.domeImages with load := none, trial := s.domeImages.trial.map fun d => if d = 0 then s.now + 5 * second else d }
    cores := (forUpto 5 (fun k v => vset v (k + 3) (coreAt (k + 3) 0xFF0000 false)) s.cores)
    interp := { s.interp with plans := (s.interp.plans.map fun p => { p with dome := none }).filter fun p => p.drum.isSome }
    pwr := { s.pwr with profile := 3, profileReq := none, powerUps := [], failedDomains := 0,
                        domains := s.pwr.domains &&& 0b1100000011 }
    boot := { s.boot with dome := .images, epochStart := startHeld, domeSource := if again then min source s.boot.domeSource else source,
                          drumWith := withDrum || (again && s.boot.drumWith), resetDt := s.now, complete := false,
                          domeEarlier := if s.boot.dome != .service && s.boot.dome != .noImage && !again
                            then s.boot.domeEarlier ++ [(s.boot.domeSource, s.boot.resetDt, s.boot.drumWith)] else s.boot.domeEarlier,
                          stageFiveDone := false, clustersTested := 0, clustersFailed := 0, retryAt := none,
                          rejected := [] } }

/-! The Drum. -/

/-- A reset that reaches the Drum (19 R620, R628, 11 R396). -/
def State.drumReset (s : State) (source : Nat) : State :=
  let again := s.boot.drum == .images && s.boot.drumResetDt == s.now
  let s := if s.fast then s.sendLinkSleep 1 else s
  let entering := s.pwr.phase == .handshake
  { s with
    cores := forUpto 3 (fun k v => vset v k (coreAt k 0xFF0000 false)) s.cores
    intc := Vector.replicate 64 {}
    timers := Vector.replicate 4 {}
    wdts := Vector.ofFn fun i : Fin 3 => { en := i.val == 0, since := s.now, expired := (vget s.wdts i.val).expired }
    evt := Vector.replicate 4 {}
    evtHeld := []
    mmus := Vector.replicate 4 {}
    masters := Vector.replicate 4 {}
    dma := {}
    rings := Vector.replicate 16 {}
    mem := { s.mem with lostDrum := 0, lostDome := 0, lostCluster := 0, lostEasel := false, lostLantern := false,
                        lostMbx := false, ce := false, ue := false, testFail := false, lost := false, errAddr := 0,
                        inten := 0, drumCe := 0, drumUe := 0, blocksTested := 0, test := none, scrubs := [] }
    interp := { s.interp with inflight := [], rejects := Vector.replicate 8 0, took := false,
                              plans := (s.interp.plans.map fun p => { p with drum := none, waits := none }).filter fun p => p.dome.isSome }
    drumImages := { s.drumImages with load := none, trial := s.drumImages.trial.map fun d => if d = 0 then s.now + 5 * second else d }
    pwr := { s.pwr with entry := if entering then none else s.pwr.entry,
                        phase := if entering then .running else s.pwr.phase, pendingReq := none, pendingProfile := none }
    chain := { number := s.chain.number, unnumbered := s.chain.unnumbered, lanes := Vector.replicate 2 { slept := true } }
    clk := { s.clk with exchange := none, tries := 0, align := if s.clk.align == .master then .unaligned else s.clk.align }
    hport := {}
    uarts := Vector.ofFn fun i : Fin 8 => if i.val = 6 then vget s.uarts 6 else {}
    cans := Vector.replicate 2 {}
    boot := { s.boot with drum := .images, srcDrum := if again then min source s.boot.srcDrum else source,
                          drumResetDt := s.now, drumRejects := 0 } }

/-! Cold start (19 R620, R622). -/

/-- The sealed input settings, which change only as 09 R314 states; ENABLE has its reset value (02 R40, R73, R84). -/
def Inputs.cold (i : Inputs) : Inputs :=
  let r := Inputs.initial
  { r with
    ports := Vector.ofFn fun p : Fin 8 =>
      let o := (vget i.ports p.val).cfg
      { vget r.ports p.val with
        cfg := { (vget r.ports p.val).cfg with invert := o.invert, step := o.step, centre := o.centre } }
    jCaution := i.jCaution, jAlert := i.jAlert, jPending := i.jPending, array := i.array, arrayPending := i.arrayPending }

/-- A cold start: everything at its reset value but the MRAM (R620), the sealed parameters (09 R313, R314), and what is not
state of the module: the commands waiting, the supply, the seal loop. The level of VDDIO is a free value (21 R646; DESIGN CHOICE,
log 42). -/
def State.coldStart (s : State) (wakeFromOff low : Bool) : State :=
  let r := State.reset
  let v := s.sealed.restart s.nav.held s.pwr.lowSupply
  let w := s.easel.watch.cfg
  { r with
    pending := s.pending
    free := s.free + 1
    clk := { epoch := (s.clk.epoch + 1) % 2 ^ 32 }
    mem := { r.mem with user := s.mem.user, wear := s.mem.wear }
    drumImages := { s.drumImages with load := none, trial := s.drumImages.trial.map fun _ => 5 * second }
    domeImages := { s.domeImages with load := none, trial := s.domeImages.trial.map fun _ => 5 * second }
    pwr := { r.pwr with startup := s.pwr.startup, vin := s.pwr.vin, lowSupply := low, wakePin := s.pwr.wakePin,
                        pfWarnings := b2n low, vddio33 := Config.freeNat s.free % 2 == 1 }
    boot := { r.boot with refclk := s.boot.refclk, fromOff := wakeFromOff, loopAtStart := s.sealed.loopOpen, drumWith := true }
    input := s.input.cold
    easel := { watch := { cfg := { en := w.en, margin := w.margin, span := w.span } } }
    nav := { cfg := { s.nav.cfg with rate := r.nav.cfg.rate }, integ := s.nav.integ }
    cal := s.cal.reset
    sealed := { v.reoffer with
      commitDt := 0, pfLatched := if low then some (0, true) else none, lowFrom := none, latched := if wakeFromOff then v.latched else none } }

/-! The parts start (19 R622 stage 4, R623–R625). -/

def ImageSlot.bytes (i : ImageSlot) (off n : Nat) : List Byte := Bytes.readN i.data off n

/-- The final reply is written, or waits for room (11 R407). -/
def State.replied (s : State) (f : InFlight) : Bool := (vget s.rings (f.ring + 4)).waiting.any fun w => w.frees == some f.id

/-- Final replies ABORTED, DETAIL 3, to commands in flight to the Dome (01 R23). -/
def State.abortDome (s : State) : State :=
  (s.interp.inflight.filter fun f => f.dome && !s.replied f).foldl (fun s f => s.finalReply f.id .aborted 3 []) s

/-- DOME_RESET entry (09 R317): the source, the DT at which it occurred, and whether the Drum was reset with it. -/
def State.resetEntry (s : State) (e : Nat × Nat × Bool) : State :=
  let (cause, s) := s.claim 2
  s.audit 0x0005 (some 4) cause e.2.1 (e.1 == 1) true (le 1 e.1 ++ le 1 (b2n e.2.2))

/-- EPOCH_START, the first Q11 record after a cold start (03 R96). -/
def State.epochStart (s : State) : State :=
  if s.boot.epochStart then
    (s.domeRecord 11 32 0x02 0
      (le 4 s.clk.epoch ++ le 1 (b2n s.boot.fromOff) ++ le 1 (b2n s.sealed.pfLatched.isSome + 2 * b2n s.boot.loopAtStart) ++
        zeros 2 ++ le 8 s.now)).modBoot fun b => { b with epochStart := false }
  else s

/-- POWER_FAIL entry (09 R317): bit 0 a signature was abandoned, bit 1 the odometer was committed. -/
def State.powerFailEntry (s : State) (dt : Nat) (coarse atStart abandoned committed : Bool) : State :=
  let (cause, s) := s.claim 1
  s.audit 0x000F (some 15) cause dt coarse atStart (le 1 (b2n abandoned + 2 * b2n committed))

/-- The Dome's stage 4: EPOCH_START, start entries, SEAL_N check, answers of R23; a newly activated image has succeeded
(R624). `noImage`: both slots failed. -/
def State.domeStart (s : State) (noImage : Bool) : State :=
  let s := s.modBoot fun b =>
    { b with dome := if noImage then .noImage else .service, domeStarts := sat16 b.domeStarts, domeStartDt := s.now,
             stage := if b.stage < 4 then 4 else b.stage }
  let s := s.epochStart
  let s := (s.boot.domeEarlier ++ [(s.boot.domeSource, s.boot.resetDt, s.boot.drumWith)]).foldl State.resetEntry s
  let s := s.modBoot fun b => { b with domeEarlier := [] }
  let s := s.boot.rejected.foldl (fun s r =>
    let (cause, s) := s.claim 9
    s.audit 0x000B (some 11) cause s.now false true (le 1 r.2 ++ le 1 (b2n r.1))) s
  let s := match s.sealed.pfLatched with
    | none => s
    | some (dt, coarse) => (s.powerFailEntry dt coarse true false false).modSeal fun v => { v with pfLatched := none }
  let s := if s.sealed.loopOpen || s.sealed.latched.isSome then s.sealOpened s.now false true else s
  let s := s.modSeal fun v => { v with latched := none }
  let dropped := forUpto 16 (fun n v => vmod v n (satAdd 0xFFFF · (vget s.mbx.lost n))) s.mbx.dropped
  let total := satAdd 0xFFFF s.mbx.droppedTotal s.mbx.lost.toList.sum
  let s := { s with mbx := { s.mbx with dropped := dropped, droppedTotal := total, lost := Vector.replicate 16 0 },
                    mem := { s.mem with domeCe := 0, domeUe := 0 },
                    domeImages := if noImage then s.domeImages
                      else { s.domeImages with trial := none, fused := max s.domeImages.fused s.domeImages.now.rollback } }
  let s := s.abortDome
  if noImage then s else s.startMeasurement.rlinkStart .stageFive s.rlink.vFull

/-- Slots of R402, in ring order. -/
def ringSlotsLog2 : List Nat := [6, 6, 6, 6, 6, 6, 6, 6, 9, 8, 7, 7, 8, 6, 7, 8]

/-- Rings placed with no gaps from 0x003C_0000, in units of 64 bytes (11 R402). -/
def ringBases : Nat → List Nat → List Nat
  | _, [] => []
  | b, n :: r => b :: ringBases (b + 2 ^ n) r

def startRings : Vector Ring 16 :=
  let bases := ringBases 0xF000 ringSlotsLog2
  Vector.ofFn fun i : Fin 16 =>
    { base := BitVec.ofNat 16 (bases.getD i.val 0), sizeLog2 := BitVec.ofNat 4 (ringSlotsLog2.getD i.val 0), en := true }

/-- A Drum core enters Service mode at a code word address (15 R517, 19 R623). -/
def Core.service (c : Core) (entry : Nat) : Core := { c with pc := BitVec.ofNat 24 entry, sr := 0, held := false }

/-- The Drum's stage 4: image sections copied, rings enabled, D1 and D2 at their entries, READY. `noImage`: D0 runs the
boot-ROM recovery interpreter, D1 and D2 stay in reset (19 R623–R625). -/
def State.drumStart (s : State) (noImage : Bool) : State :=
  let i := s.drumImages.now
  let f (k : Nat) : Nat := ofLe (i.bytes k 4)
  let sram :=
    if noImage then s.mem.sram
    else (s.mem.sram.writeN 0x3E3000 (i.bytes (f 20) (min 16384 (f 24)))).writeN 0 (i.bytes (f 28) (min 0x3C0000 (f 32)))
  let cores :=
    if noImage then vmod (vmod s.cores 1 fun c => { c with held := true }) 2 fun c => { c with held := true }
    else vmod (vmod (vmod s.cores 0 (·.service 0xF8C00)) 1 (·.service (f 36))) 2 (·.service (f 40))
  { s with
    mem := { s.mem with sram := sram }
    cores := cores
    rings := startRings
    hport := { s.hport with ready := true }
    chain := { s.chain with enumAtStart := true }
    sealed := s.sealed.reoffer
    mbx := { s.mbx with droppedTotal := 0 }
    interp := { s.interp with startDt := s.now, starts := sat16 s.interp.starts, recovery := noImage }
    drumImages := if noImage then s.drumImages
      else { s.drumImages with trial := none, fused := max s.drumImages.fused s.drumImages.now.rollback }
    boot := { s.boot with drum := if noImage then .noImage else .service, stage := if s.boot.stage < 4 then 4 else s.boot.stage } }

/-- IMAGE_CHECK_COMPLETE (19 R623, R624): the slot checked passes and its part enters stage 4, or the other slot is
checked, or both have failed. A newly activated image whose check ends later than 5 s after the reset has failed. -/
def execImageCheckComplete (dome ok : Bool) (reason : Nat) (s : State) : Res :=
  if dome then
    if s.boot.dome != .images || !s.fast then .next s else
    let i := s.domeImages
    let late := match i.trial with | none => false | some d => decide (s.now > d)
    if ok && i.now.valid && decide (i.now.rollback ≥ i.fused) && !late then .next (s.domeStart false)
    else
      let s := { s with domeImages := { i with active := !i.active, trial := none } }
      let s := s.modBoot fun b => { b with rejected := b.rejected ++ [(i.active, reason)] }
      if s.boot.rejected.length ≥ 2 then .next (s.domeStart true) else .next s
  else
    if s.boot.drum != .images || !s.fast then .next s else
    let i := s.drumImages
    let late := match i.trial with | none => false | some d => decide (s.now > d)
    if ok && i.now.valid && decide (i.now.rollback ≥ i.fused) && !late then .next (s.drumStart false)
    else
      let s := { s with drumImages := { i with active := !i.active, trial := none } }
      let s := s.modBoot fun b => { b with drumRejects := b.drumRejects + 1 }
      if s.boot.drumRejects ≥ 2 then .next (s.drumStart true) else .next s

/-! Resets that an image's failure turns into a fallback (19 R624). -/

/-- A double trap or a watchdog reset of the Dome: source 8 and the other slot while a new image is on trial. -/
def State.domeFailure (s : State) (source : Nat) : State :=
  if s.domeImages.trial.isSome then
    { s with domeImages := { s.domeImages with active := !s.domeImages.active, trial := none } }.domeReset 8 false
  else s.domeReset source false

def State.drumFailure (s : State) (source : Nat) : State :=
  if s.drumImages.trial.isSome then
    { s with drumImages := { s.drumImages with active := !s.drumImages.active, trial := none } }.drumReset 8
  else s.drumReset source

/-- The double trap of a core (15 R536, R542, 19 R618). -/
def State.doubleTrap (s : State) (c : Nat) : State :=
  if c = 0 then s.drumFailure 10 else if c ≤ 2 then s.coreReset c 13 else s.domeFailure 4

/-! Reset events. -/

/-- Plans whose Dome reset is due, or Drum reset is due (12 R423, R442, 09 R344). -/
def State.domePlan (s : State) : Option ResetPlan :=
  s.interp.plans.find? fun p => p.waits.isNone && match p.dome with | none => false | some t => decide (s.clk.tick ≥ t)

/-- The reply ring's CONS has passed the reply, or 100 ms have passed; with TARGET 3 not before the Dome reset. -/
def State.drumPlan (s : State) : Option ResetPlan :=
  s.interp.plans.find? fun p =>
    p.waits.isNone && p.dome.isNone && match p.drum with
    | none => false
    | some t => decide (s.clk.tick ≥ t) ||
      match p.reply with
      | none => false
      | some (n, i) => decide (((vget s.rings n).cons - i).toNat < 2 ^ 31)

/-- DOME_RESET by a command (sources 6 and 7) once it is due. -/
def execDomeReset (s : State) : Res :=
  match s.domePlan with
  | none => .next s
  | some p => .next (s.domeReset p.source p.drum.isSome)

/-- DRUM_RESET by a command (sources 6 and 7) once it is due. -/
def execDrumReset (s : State) : Res :=
  match s.drumPlan with
  | none => .next s
  | some p => .next (s.drumReset p.source)

/-- DOME_WDT_EXPIRY (19 R631): 250 ms without service of the supervisor's watchdog, which no command reaches, so at the earliest 250 ms after
the Dome's last reset. -/
def execDomeWdtExpiry (s : State) : Res :=
  if s.fast && s.boot.dome != .lantern && decide (s.boot.resetDt + ms 250 ≤ s.now) then .next (s.domeFailure 3) else .next s

/-- DRUM_WDT_EXPIRY (19 R630). -/
def State.wdtExpired (s : State) (n : Nat) : Bool :=
  let w := vget s.wdts n
  s.fast && w.en && decide (s.now ≥ w.since + ms w.period.toNat)

def State.markExpired (s : State) (n : Nat) : State :=
  { s with wdts := vmod s.wdts n fun w => { w with expired := true } }

def execDrumWdtExpiry (s : State) : Res :=
  if s.wdtExpired 0 then .next ((s.markExpired 0).drumFailure 9) else .next s

/-- CORE_WDT_EXPIRY of watchdog 1 or 2. -/
def execCoreWdtExpiry (n : Fin 3) (s : State) : Res :=
  if n.val ≠ 0 ∧ s.wdtExpired n.val then .next ((s.markExpired n.val).coreReset n.val 12) else .next s

/-- PIN_RESET (19 R618, R632): in RUN it acts at once, and the start enters at stage 1; in SLEEP or DEEP the device wakes
first, and after the point of no return the entry completes first. -/
def State.stageOne (s : State) : State :=
  let s := (s.domeReset 2 true).drumReset 2
  let s := s.modPwr fun p => { p with phase := .lantern, entry := none, pendingReq := none, slow := 0, domains := 0 }
  let s := s.modBoot fun b => { b with stage := 1, dome := .lantern, drum := .lantern }
  (s.modRlink fun r => { r with seq := none, queue := [], retryAt := none }).rlinkStart .stageOneMode 0

end Sys2Proof.Machine
end

