-- ==== Sys2Proof/Machine/Power.lean ====
section
/-! DEFINITION. State requests and the entry handshake (18 R589–R598), wakes (R599–R602, 03 R94), the supply (09 R338,
21 R647–R649), the seal loop (09 R310, R311), the event inputs (03 R102–R106) and the wake edges. -/

namespace Sys2Proof.Machine

/-- A transition is in progress: an entry or a wake (18 R598). -/
def State.inTransition (s : State) : Bool := s.pwr.phase != .running

/-- Milliseconds of a span of DT (18 R594; rounding: DESIGN CHOICE, log 7). -/
def spanMs (n : Nat) : Nat := min 65535 (rnd ((n : Int) * 1000) (2 ^ 32)).toNat

/-- The 8-byte final reply of PWR_ENTER, less status (18 R612). -/
def enterPayload (t : Target) (b5 delay : Nat) : List Byte := le 1 t.code ++ le 1 b5 ++ le 2 (min 65535 delay)

/-- Final reply to who asked for an entry, if a command did. -/
def State.answerRequest (s : State) (r : EntryReq) (st : Status) (d b5 delay : Nat) : State :=
  match r.from_ with
  | .command id => s.finalReply id st d (enterPayload r.target b5 delay)
  | _ => s

/-- A request waiting in the pending slot ends ABORTED, DETAIL 1 (18 R598). -/
def State.supersede (s : State) : State :=
  let s := match s.pwr.pendingReq with
    | none => s
    | some r => s.answerRequest r .aborted 1 255 0
  let s := match s.pwr.pendingProfile with
    | none => s
    | some p => s.finalOption p.cmd .aborted 1 []
  s.modPwr fun p => { p with pendingReq := none, pendingProfile := none }

/-! Profile requests (01 R27, R28). -/

/-- A profile request starts: the voltage is raised first where the point rises, then the domains are powered (R27,
18 R605). -/
def State.startProfile (s : State) (r : ProfileReq) : State :=
  let s := s.modPwr fun p => { p with profileReq := some r }
  if profilePoint r.profile = 0 && profilePoint s.pwr.profile != 0 then s.rlinkStart .profileRaise s.rlink.vFull
  else s.powerDomains (profileDomains r.profile)

/-- A pending request gives way to one for `next` (01 R28): the domains that it alone had powered are removed, but those that the
profile in effect powers on demand only once no job wants them (R24), and the voltage falls back (18 R605). -/
def State.withdrawProfile (s : State) (next : Nat) : State :=
  match s.pwr.profileReq with
  | none => s
  | some r =>
    let now := s.pwr.profile
    let keep := profileDomains now ++ profileDomains next ++ (if now = 0 then [3, 4, 9] else [3])
    let cut := (profileDomains r.profile).filter fun d => !keep.contains d
    let s := (s.finalOption r.cmd .aborted 1 []).modPwr fun p =>
      { p with profileReq := none
               domains := cut.foldl (fun m d => m &&& ~~~domainBit d) p.domains
               powerUps := p.powerUps.filter fun u => !cut.contains u.domain }
    let s := if profilePoint r.profile = 0 && profilePoint now != 0 && profilePoint next != 0 then
        s.rlinkStart .profileLower s.rlink.vRun
      else s
    if next = now ∨ (now = 1 ∧ next = 0) then s.powerDownIdle else s

/-- A request for a profile in RUN (01 R28). -/
def State.requestProfile (s : State) (profile : Nat) (cmd : Option Nat) : State :=
  let s := s.withdrawProfile profile
  if profile = s.pwr.profile then s.finalOption cmd .ok 0 []
  else s.startProfile { profile := profile, cmd := cmd }

/-! Requests for a state. -/

/-- An entry is accepted: ENTRY_REQ to each participant (18 R593). In RLINK FAULT, DEEP and OFF fail at once (R603). -/
def State.acceptEntry (s : State) (r : EntryReq) : State :=
  s.modPwr fun p =>
    { p with phase := .handshake
             entry := some { req := r, accepted := s.now, answers := Vector.replicate 9 (.asked s.now) } }

/-- Lanes that the entry has put to sleep train afresh where it ends before S0 (13 R457, 18 R594). -/
def State.rejoin (s : State) (e : Entry) : State :=
  if vget e.answers 6 == .granted then
    s.modChain fun c => { c with lanes := c.lanes.map fun l => if l.st == .up then { l with st := .down, lock := false, slept := true } else l }
  else s

/-- An entry ends ABORTED and the device is in RUN (18 R597, R598): a request waiting ends too. -/
def State.endAborted (s : State) (e : Entry) (detail b5 delay : Nat) : State :=
  let s := (s.answerRequest e.req .aborted detail b5 delay).rejoin e
  (s.modPwr fun p => { p with phase := .running, entry := none, wakeEvent := none, aborted := sat16 p.aborted }).supersede

/-- A failed entry is done with: record, reply, flags (18 R594, R602, R612). Reason 0 is an abort by a power-fail warning (R610). -/
def State.endFailure (s : State) (e : Entry) (f : EntryFailure) : State :=
  if f.reason = 0 then s.endAborted e 6 255 e.delays else
  let s := s.rejoin e
  let (cause, s) := s.claim 9
  let s := s.domeRecord 11 cause 0x12 f.dt
    (le 1 e.req.target.code ++ le 1 f.reason ++ le 1 f.block ++ le 1 0 ++ le 4 e.delays)
  let st : Status := if f.reason = 4 then .timeout else if f.reason = 7 then (if f.nack then .fault else .timeout)
    else .stateConflict
  let s := s.answerRequest e.req st (if f.reason = 4 then 0 else f.reason) f.block e.delays
  s.modPwr fun p =>
    { p with phase := .running, entry := none, wakeEvent := none, lastReason := f.reason, windowTimers := 0,
             lastBlock := if f.block = 255 then 15 else f.block, entryFail := true, failed := sat16 p.failed }

/-- A pending request starts when the device is in RUN with no transition in progress (18 R598). -/
def State.startPending (s : State) : State :=
  if s.inTransition then s else
  match s.pwr.pendingReq, s.pwr.pendingProfile with
  | some r, _ =>
    let s := s.modPwr fun p => { p with pendingReq := none }
    if r.target == .run then s.answerRequest r .ok 0 0 0
    else if s.rlink.state = 3 && r.target != .sleep then
      s.endFailure { req := r, accepted := s.now, answers := Vector.replicate 9 .granted } ⟨7, 255, s.now, true⟩
    else s.acceptEntry r
  | none, some q =>
    let s := s.modPwr fun p => { p with pendingProfile := none }
    s.requestProfile q.profile q.cmd
  | none, none => s

/-- An entry fails (18 R594): at once in RUN, or after the clocks have restarted. -/
def State.failEntry (s : State) (reason block : Nat) (nack : Bool) : State :=
  match s.pwr.entry with
  | none => s
  | some e =>
    let f : EntryFailure := ⟨reason, block, s.now, nack⟩
    let e := { e with delays := if s.pwr.phase == .handshake then spanMs (s.now - e.accepted) else e.delays }
    if s.fast then (s.endFailure e f).startPending
    else s.modPwr fun p => { p with entry := some { e with failure := some f }, phase := .waking }

/-- An entry is aborted before its point of no return (18 R597, R598): a request waiting ends too. -/
def State.abortEntry (s : State) (detail b5 : Nat) : State :=
  match s.pwr.entry with
  | none => s
  | some e =>
    let d := if s.pwr.phase == .handshake then spanMs (s.now - e.accepted) else e.delays
    let was := s.pwr.phase
    let s := s.endAborted e detail b5 d
    if was == .committed then s.resumeMeasurement else s

/-- A request for a state (18 R592, R597, R598). -/
def State.request (s : State) (r : EntryReq) : State :=
  if r.target == .run && (s.pwr.phase == .handshake || s.pwr.phase == .committed) then
    (s.abortEntry 2 255).answerRequest r .ok 0 0 0
  else if s.inTransition then s.supersede.modPwr fun p => { p with pendingReq := some r }
  else (s.modPwr fun p => { p with pendingReq := some r }).startPending

/-! The handshake (18 R593, R594). -/

/-- Why a participant refuses the target, if it does. -/
def State.refusal (s : State) (p : Nat) (t : Target) : Option Nat :=
  if p = 0 then
    if (match s.sealed.u6Last with | none => false | some d => decide (s.now < d + 60 * second)) then some 1
    else if t == .off && (s.zoneLoad.isSome || s.domeImages.load.isSome) then some 3
    else none
  else if p = 1 then (if t == .off && s.drumImages.load.isSome then some 3 else none)
  else if p = 2 then
    (if s.pwr.veto.toNat.testBit (match t with | .sleep => 0 | .deep => 1 | .off => 2 | .run => 3) then some 2 else none)
  else none

/-- The entry whose handshake is in progress, and participant `p`'s answer. -/
def State.asking (s : State) (p : Nat) : Option (Entry × Answer) :=
  if s.pwr.phase == .handshake then s.pwr.entry.map fun e => (e, vget e.answers p) else none

def State.setAnswer (s : State) (e : Entry) (p : Nat) (a : Answer) : State :=
  s.modPwr fun q => { q with entry := some { e with answers := vset e.answers p a } }

/-- The last participant has granted (18 R595, R591): measurement stops, commanded Easel jobs end, the state is saved. -/
def State.commitEntry (s : State) (e : Entry) : State :=
  let s := s.modPwr fun p => { p with phase := .committed, entry := some { e with delays := spanMs (s.now - e.accepted) } }
  ((s.abortEasel 6).stopMeasurement 8).stopPulses

/-- What keeps participant `p` from granting (18 R593), as far as the state shows it: the Dome's long work, a transaction of the host, a unit
on a lane, a character in a transmit shifter. -/
def State.delays (s : State) (p : Nat) : Bool :=
  if p = 0 then
    s.easel.fix.isSome || s.cal.run.isSome || s.pwr.profileReq.isSome || !s.sealed.due.isEmpty
  else if p = 5 then s.hport.selected
  else if p = 6 then (List.range 2).any fun l => (s.lane l).sending
  else if p = 7 then s.uarts.toList.any fun u => u.shifter.isSome || u.sending.isSome
  else false

/-- A participant grants what it neither refuses nor delays. The Dome first commits the odometer (R591), the Kakel engine sends LINK_SLEEP
on each lane that is UP (13 R457). -/
def execEntryGrant (p : Fin 9) (s : State) : Res :=
  match s.asking p.val with
  | some (e, .asked _) =>
    if (s.refusal p.val e.req.target).isSome || s.delays p.val then .next s else
    let s := if p.val = 0 then s.commitOdo else if p.val = 6 then s.sendLinkSleep 0 else s
    let e := { e with answers := vset e.answers p.val .granted }
    let s := s.modPwr fun q => { q with entry := some e }
    .next (if e.answers.toList.all (· == .granted) then s.commitEntry e else s)
  | _ => .next s

def execEntryRefuse (p : Fin 9) (s : State) : Res :=
  match s.asking p.val with
  | some (e, .asked _) =>
    match s.refusal p.val e.req.target with
    | some r => .next (s.failEntry r p.val false)
    | none => .next s
  | _ => .next s

/-- The longest character that a transmitter is sending, in whole milliseconds (18 R593). -/
def State.uartBound (s : State) : Nat :=
  s.uarts.toList.foldl (fun n u => if u.shifter.isSome then max n (u.txLine.span (16 * u.txLine.charBits) * 1000 / 2 ^ 32 + 1) else n) 1

/-- Bounds of the table of 18 R593, where it gives one; 2 never delays. A CAN frame's time is the bus's. -/
def State.delayAllowed (s : State) (p bound : Nat) : Bool :=
  match p with
  | 0 => decide (1 ≤ bound) && decide (bound ≤ 100)
  | 1 => bound == 10
  | 2 => false
  | 6 => bound == 2
  | 7 => bound == min 255 s.uartBound
  | 8 => decide (1 ≤ bound) && decide (bound ≤ 255)
  | _ => bound == 1

def execEntryDelay (p : Fin 9) (bound : Nat) (s : State) : Res :=
  match s.asking p.val with
  | some (e, .asked _) =>
    if s.delayAllowed p.val bound then .next (s.setAnswer e p.val (.delayed (s.now + ms bound))) else .next s
  | _ => .next s

def execEntryDelayExpiry (p : Fin 9) (s : State) : Res :=
  match s.asking p.val with
  | some (e, .delayed t) => if s.now ≥ t then .next (s.setAnswer e p.val (.asked s.now)) else .next s
  | _ => .next s

/-- ENTRY_NO_ANSWER: 10 ms after an ENTRY_REQ; the lowest silent participant is reported. -/
def execEntryNoAnswer (p : Fin 9) (s : State) : Res :=
  let silent (q : Nat) : Bool := match s.asking q with
    | some (_, .asked t) => decide (s.now ≥ t + ms 10)
    | _ => false
  if silent p.val then
    match (List.range 9).find? silent with
    | some q => .next (s.failEntry 4 q false)
    | none => .next s
  else .next s

/-- ENTRY_DELAY_LIMIT: DELAY_MAX since acceptance while a DELAY is outstanding; the lowest such participant is reported. -/
def execEntryDelayLimit (s : State) : Res :=
  let late (q : Nat) : Bool := match s.asking q with
    | some (e, .delayed _) => decide (s.now ≥ e.accepted + ms e.req.delayMax)
    | _ => false
  match (List.range 9).find? late with
  | some q => .next (s.failEntry 5 q false)
  | none => .next s

/-! Wake sources (18 R599, R600). -/

def State.wakeEnabled (s : State) (src : Nat) : Bool :=
  let en (k : Nat) : Bool := s.pwr.wakeEn.toNat.testBit k
  if src = 12 then true
  else if 1 ≤ src ∧ src ≤ 5 then en (src - 1)
  else if src ≤ 13 then (vget s.uarts (src - 6)).wake
  else if src ≤ 15 then (vget s.cans (src - 14)).wake
  else if src ≤ 19 then (vget s.evt (src - 16)).wake
  else if src = 23 then true
  else if src ≤ 22 then en (src - 15)
  else en 9

/-- A level source stands asserted; a timer whose target fell in the lost-edge window does not count (18 R610). -/
def State.levelAsserted (s : State) (src : Nat) : Bool :=
  if src = 1 then s.pwr.wakePin
  else if src = 2 then s.pwr.sealLevel
  else if 20 ≤ src ∧ src ≤ 23 then
    (vget s.ltimers (src - 20)).expired && !s.pwr.windowTimers.toNat.testBit (src - 20)
  else src == 24 && s.pwr.restored

def levelSources : List Nat := [1, 2, 20, 21, 22, 23, 24]

/-- The wake begins (18 R601): from SLEEP the PLL is awaited, from DEEP OPERATION on is sent. -/
def State.beginWake (s : State) (w : WakeEvent) : State :=
  let s := s.modPwr fun p => { p with wakeEvent := some w, wakeSlow := p.slow }
  if s.pwr.phase == .deep then (s.modPwr fun p => { p with phase := .wakingOn }).rlinkStart .wakeOn 0
  else s.modPwr fun p => { p with phase := .waking }

/-- An event of a wake source: it ends an entry before S0, is latched after the point of no return, or wakes the device
(18 R596, R597, R601). -/
def State.wakeOn (s : State) (src : Nat) : State :=
  if !s.wakeEnabled src then s else
  match s.pwr.phase with
  | .handshake | .committed => s.abortEntry 6 src
  | .turningOff =>
    if s.pwr.wakeEvent.isNone then s.modPwr fun p => { p with wakeEvent := some ⟨src, s.now, true⟩ } else s
  | .sleep => s.beginWake ⟨src, s.now, false⟩
  | .deep =>
    match s.pwr.wakeEvent with
    | none => s.beginWake ⟨src, s.now, false⟩
    | some w => s.beginWake w
  | _ => s

/-- WAKE_PIN: WAKE seen high, or low, on two consecutive slow edges. -/
def execWakePin (high : Bool) (s : State) : Res :=
  let s := s.modPwr fun p => { p with wakePin := high }
  .next (if high then s.wakeOn 1 else s)

/-! The entry sequence (18 R595–R597). -/

/-- The lanes without FRONT go OFF, and what needed them follows (02 R48). -/
def State.silence (s : State) : State := (s.syncPorts true 6).followLanes

/-- ENTRY_S0: the first slow edge after the save. -/
def execEntryS0 (s : State) : Res :=
  match s.pwr.phase, s.pwr.entry with
  | .committed, some e =>
    let s := s.newSegment
    let s := if e.req.target == .deep && !e.req.snapSr || e.req.target == .off then
        (s.loseCaptures 6).modPwr fun p => { p with domains := p.domains &&& ~~~domainBit 4 }
      else s
    let lane (l : Lane) : Lane := if l.st == .asleep || l.st == .off then l else
      { l with st := .down, lock := false, slept := true, replay := l.replay.filter (·.frame.ftype != 9)
               queue := l.queue.filter (·.frame.ftype != 9) }
    let s := s.modChain fun c => { c with lanes := c.lanes.map lane }
    .next <| State.silence <| (s.modPwr fun p =>
      { p with phase := .isolating, s0Dt := s.now, slow := 0, wakeEvent := none, windowTimers := 0,
               idle := false, domains := p.domains &&& ~~~domainBit 9 })
  | _, _ => .next s

/-- The entry is complete: counts, and a wake event latched meanwhile acts (18 R594, R596, R597). -/
def State.completeEntry (s : State) (e : Entry) : State :=
  let ph : Phase := match e.req.target with | .sleep => .sleep | .deep => .deep | _ => .off
  let s := s.modPwr fun p =>
    { p with phase := ph, lastReason := 0, lastBlock := 15, lastDone := s.now, windowTimers := 0,
             completed := satAdd 0xFFFF_FFFF p.completed 1 }
  if ph == .off then s else
  match s.pwr.wakeEvent with
  | none => s
  | some w => s.beginWake w

/-- ISOLATION_END: three slow cycles after S0 the level sources are sampled (18 R595, R596). -/
def execIsolationEnd (s : State) : Res :=
  match s.pwr.phase, s.pwr.entry with
  | .isolating, some e =>
    if s.pwr.slow < 3 then .next s
    else if levelSources.any fun src => s.levelAsserted src && s.wakeEnabled src then .next (s.failEntry 6 255 false)
    else if e.req.target == .sleep then .next (s.completeEntry e)
    else .next ((s.modPwr fun p => { p with phase := .turningOff }).rlinkStart .entryOff 0)
  | _, _ => .next s

/-! Handover (03 R94, 18 R601, R602, 17 R566, R567). -/

/-- A lost bank is zeroed and marked (17 R566). Of the state RAM of a cluster State holds the checkpoints of its channels (05 R193), of
the Easel's working RAM the partial results of its jobs (01 R32). -/
def State.loseBank (s : State) (b : Nat × Nat × Nat) : State :=
  let m := { s.mem with ecc := s.mem.ecc.filter fun e =>
    !((e.mem == b.1 && decide (b.1 ≤ 1) && e.word / 0x8000 == b.2.1) || (e.mem == 2 && b.1 == 4) || (e.mem == 3 && b.1 == 5)) }
  match b.1 with
  | 0 => { s with mem := { m with sram := m.sram.clearRange (b.2.1 * 0x20000) 0x20000
                                  lostDrum := m.lostDrum ||| BitVec.ofNat 32 (2 ^ b.2.1) } }
  | 1 => { s with mem := { m with dome := m.dome.clearRange (b.2.1 * 0x20000) 0x20000
                                  lostDome := m.lostDome ||| BitVec.ofNat 16 (2 ^ b.2.1) } }
  | 2 =>
    let zero (n : Nat) (c : Channel) : Channel := if n / 48 = b.2.1 then { c with savedUpper := none, savedLower := none } else c
    { s with mem := { m with lostCluster := m.lostCluster ||| BitVec.ofNat 4 (2 ^ b.2.1) }
             trk := { s.trk with channels := s.trk.channels.mapIdx zero } }
  | 3 => { s with mem := { m with lostEasel := true }
                  easel := { s.easel with jobs := s.easel.jobs.map fun j => { j with parts := [], cands := [] } } }
  | 4 => { s with mem := { m with lantern := [], lostLantern := true } }
  | _ =>
    let drop := s.mbx.out.foldl (fun v o => vmod v o.ring (satAdd 0xFFFF · 1)) s.mbx.dropped
    { s with mem := { m with mailbox := [], lostMbx := true }
             mbx := { s.mbx with out := [], dropped := drop,
                                 droppedTotal := satAdd 0xFFFF s.mbx.droppedTotal s.mbx.out.length } }

/-- The canary check of a wake from DEEP: `banks` the banks with changed bits, as (memory, bank, bits) (17 R566). -/
def State.canaries (s : State) (banks : List (Nat × Nat × Nat)) : State :=
  let s := { s with mem := { s.mem with lostDrum := 0, lostDome := 0, lostCluster := 0, lostEasel := false,
                                        lostLantern := false, lostMbx := false } }
  let s := banks.foldl State.loseBank s
  let s := { s with mem := { s.mem with lost := !banks.isEmpty } }
  s.modPwr fun p => { p with lostBanks := banks }

/-- A Drum bank holds part of D0's area or of an enabled ring (17 R567). -/
def State.bankMatters (s : State) (bank : Nat) : Bool :=
  bank == 31 || s.rings.toList.any fun r =>
    r.en && decide (r.base.toNat * 64 < (bank + 1) * 0x20000) && decide (bank * 0x20000 < r.base.toNat * 64 + r.slots * 64)

/-- BANK_LOST records and their consequences at the handover (17 R567). -/
def State.bankConsequences (s : State) (banks : List (Nat × Nat × Nat)) (cycles : Nat) : State :=
  let s := banks.foldl (fun s b =>
    let (cause, s) := s.claim 9
    s.domeRecord 11 cause 0x28 s.now
      (le 1 b.1 ++ le 1 b.2.1 ++ le 1 (min 255 b.2.2) ++ le 1 0 ++ le 4 (min 0xFFFF_FFFF cycles))) s
  let dome := banks.any fun b => 1 ≤ b.1 && b.1 ≤ 3
  let drum := banks.any fun b => b.1 == 0 && s.bankMatters b.2.1
  let s := if dome then s.domeReset 5 drum else s
  if drum then s.drumReset 11 else s

/-- Entries latched during the sleep, in the order of their DTs and ranks (09 R311, R338). -/
def State.latchedEntries (s : State) : State :=
  let pf (s : State) : State := match s.sealed.pfLatched with
    | none => s
    | some (dt, c) => (s.powerFailEntry dt c false false true).modSeal fun v => { v with pfLatched := none }
  let opening (s : State) : State := match s.sealed.latched with
    | none => s
    | some (dt, c) => (s.sealOpened dt c false).modSeal fun v => { v with latched := none }
  match s.sealed.pfLatched, s.sealed.latched with
  | some (a, _), some (b, _) => if a ≤ b then opening (pf s) else pf (opening s)
  | _, _ => pf (opening s)

/-- The wake's registers, records and replies (18 R601, R602, R606). -/
def State.endWake (s : State) (e : Entry) : State :=
  let w := match s.pwr.wakeEvent with | none => (⟨0, s.now, false⟩ : WakeEvent) | some w => w
  let pf := s.sealed.pfLatched.isSome
  let s := s.latchedEntries
  let banks := s.pwr.lostBanks
  let flags := bitsOf [(s.pwr.rlinkRetry, 0), (w.late, 1), (pf, 2), (!banks.isEmpty, 3)]
  let from_ := e.req.target.code
  let (cause, s) := s.claim 9
  let s := s.domeRecord 11 cause 0x11 s.now
    (le 1 from_ ++ le 1 w.source ++ le 1 flags ++ le 1 0 ++ le 4 (min 0xFFFF_FFFF s.pwr.wakeSlow) ++ le 8 s.pwr.s0Dt ++
      le 8 w.dt)
  let s := s.modPwr fun p =>
    { p with phase := .running, entry := none, woke := true, wakeSource := w.source, wakeFrom := from_,
             wakeFlags := BitVec.ofNat 4 flags, wakeDt := w.dt, wakes := sat16 p.wakes, wakeEvent := none,
             rlinkRetry := false, restored := false, lostBanks := [] }
  let s := s.releaseHeld
  let s := if e.req.target == .deep then
      { s with mem := { s.mem with scrubs := s.mem.scrubs ++ [{ target := 7, cmd := none, start := s.now }] } }
    else s
  let s := (s.powerDomains (profileDomains s.pwr.profile)).resumeMeasurement
  let s := s.bankConsequences banks s.pwr.wakeSlow
  s.answerRequest e.req .ok 0 w.source e.delays

/-- What the wake logic loads in HLK_STAT: WOKEN for HPORT, CHU or CHD activity; after DEEP its bits 0–2 are 0 and CRX is empty (13 R453). -/
def Hport.wake (h : Hport) (deep : Bool) (source : Nat) : Hport :=
  let own := decide (3 ≤ source ∧ source ≤ 5)
  if deep then { h with wrOvf := false, downBusy := false, err := false, woken := own } else { h with woken := h.woken || own }

/-- The Drum logic in LINK and the watchdogs at a handover (14 R491, R500, 19 R630, 13 R453, R472). The port or controller that caused the
wake is marked; after DEEP the WOKEN bits are loaded with the cause of this wake (14 R492, R501). -/
def State.linkWakes (s : State) : State :=
  let deep := s.pwr.entry.any fun e => e.req.target == .deep && e.failure.isNone
  let keep7 := s.pwr.entry.any (fun e => e.req.target == .sleep) && (vget s.uarts 7).line.slow
  let w := match s.pwr.wakeEvent with | none => 0 | some w => if s.pwr.entry.any (·.failure.isNone) then w.source else 0
  { s with
    uarts := Vector.ofFn fun i : Fin 8 =>
      let u := vget s.uarts i.val
      let own := decide (i.val ≠ 6 ∧ w = 6 + i.val)
      let u := { u with wokeNext := u.wokeNext || own, nWakes := if own then sat16 u.nWakes else u.nWakes }
      if i.val = 7 && keep7 then u
      else { u with rxLine := none, breakActive := false, woken := own || (!deep && u.woken) }
    cans := Vector.ofFn fun i : Fin 2 =>
      let c := vget s.cans i.val
      { c with busIdle := false, woken := decide (w = 14 + i.val) || (!deep && c.woken) }
    hport := s.hport.wake deep w
    wdts := s.wdts.map fun d => { d with since := s.now }
    evt := s.evt.map fun e => { e with woke := false }
    chain := { s.chain with relayDown := s.chain.wakeRelay && w == 4, relayUp := s.chain.wakeUpRelay && w == 5
                            crx := if deep then [] else s.chain.crx, crxUnit := if deep then none else s.chain.crxUnit } }

/-- FRONT_PLL_LOCK (18 R601). -/
def execFrontPllLock (s : State) : Res :=
  if s.pwr.phase == .waking then .next (s.modPwr fun p => { p with phase := .locked }) else .next s

/-- HANDOVER: the next slow edge after lock (03 R94). In the bring-up it ends stage 1 (19 R622). -/
def execHandover (s : State) : Res :=
  if s.pwr.phase != .locked then .next s else
  let s := s.linkWakes
  let s := s.modPwr fun p => { p with domains := p.domains ||| domainBit 9, handoverTick := some s.clk.tick }
  match s.pwr.entry with
  | none =>
    let s := s.modPwr fun p => { p with phase := .running, domains := 0b1100000011 }
    if s.boot.toClear then .next (s.modBoot fun b => { b with stage := 2, dome := .bare, drum := .bare })
    else
      let s := { s with cores := Vector.ofFn fun i : Fin 8 => coreAt i.val 0xFF0000 false }
      .next (s.modBoot fun b => { b with stage := 3, dome := .images, drum := .images })
  | some e =>
    match e.failure with
    | some f =>
      let s := (s.latchedEntries.endFailure e f).releaseHeld
      .next ((s.powerDomains (profileDomains s.pwr.profile)).resumeMeasurement).startPending
    | none =>
      let s := s.endWake e
      if s.pwr.pinReset then .next (s.modPwr fun p => { p with pinReset := false }).stageOne else .next s.startPending

/-- SRAM_CLEAR_COMPLETE (17 R565, 19 R622): every core leaves reset in Bare mode. -/
def execSramClearComplete (s : State) : Res :=
  if s.fast && s.boot.stage == 2 && s.boot.toClear then
    let s := { s with
      mem := { s.mem with sram := [], dome := [], lantern := [], mailbox := [] }
      cores := Vector.ofFn fun i : Fin 8 => coreAt i.val 0xFF0000 false
      wdts := s.wdts.map fun (d : Watchdog) => { d with since := s.now } }
    .next (s.modBoot fun b => { b with stage := 3, dome := .images, drum := .images, toClear := false })
  else .next s

/-- PIN_RESET (19 R618, R632). -/
def execPinReset (s : State) : Res :=
  match s.pwr.phase with
  | .unpowered | .off => .next s
  | .sleep | .deep => .next ((s.modPwr fun p => { p with pinReset := true }).beginWake ⟨0, s.now, false⟩)
  | .turningOff =>
    .next (s.modPwr fun p =>
      { p with pinReset := true
               wakeEvent := match p.wakeEvent with | none => some ⟨0, s.now, true⟩ | some w => some w })
  | .wakingOn | .waking | .locked | .isolating | .turningBack =>
    if s.pwr.entry.isSome then .next (s.modPwr fun p => { p with pinReset := true }) else .next s.stageOne
  | _ => .next s.stageOne

/-! The reference (03 R87, R88). -/

/-- A REFCLK_EVENT record; before EPOCH_START it waits for it (03 R95). -/
def State.refclkRecord (s : State) (cause : Nat) (payload : List Byte) : State :=
  if s.boot.epochStart then s.holdRecord cause 0x03 s.now payload else s.domeRecord 11 cause 0x03 s.now payload

/-- REFCLK_LOST. A measurement epoch is in progress while the Dome measures: from one grid point to the next (06 R208; DEDUCED, log 18). -/
def execRefclkLost (_ : Unit) (s : State) : Res :=
  if !s.fast then .next s else
  let lost := s.domeService && s.pwr.profile != 0
  let (cause, s) := s.claim 3
  let s := (s.stopMeasurement 1).stopPulses.newSegment
  let s := s.refclkRecord cause (le 1 0 ++ le 1 (1 + 2 * b2n lost) ++ zeros 6)
  let s := s.audit 0x0013 (some 8) cause s.now true false (le 1 0)
  .next (s.modPwr fun p => { p with phase := .refclkLost, slow := 0, idle := false }).silence

/-- REFCLK_REGAINED: the fast clocks restart through the handover. -/
def execRefclkRegained (s : State) : Res :=
  if s.pwr.phase != .refclkLost then .next s else
  let ph : Phase := match s.pwr.entry with
    | none => .running
    | some e => if e.answers.toList.all (· == .granted) then .committed else .handshake
  let slow := s.pwr.slow
  let s := s.linkWakes.modPwr fun p => { p with phase := ph }
  let (cause, s) := s.claim 3
  let s := s.refclkRecord cause (le 1 1 ++ le 1 1 ++ zeros 2 ++ le 4 (min 0xFFFF_FFFF slow))
  let s := (s.audit 0x0013 none cause s.now true false (le 1 1)).releaseHeld
  .next (if ph == .running then s.resumeMeasurement else s)

/-! The supply (09 R338, 21 R647–R649). -/

/-- The signature in progress at the warning is abandoned: the record is counted (09 R338). -/
def Seal.abandon (v : Seal) : Seal :=
  match v.due with
  | [] => v
  | r :: rest => { v with due := rest, counts := { v.counts.add r.kind with abandoned := true } }

/-- POWER_FAIL_WARNING: `sig` tells of a signature in progress: abandoned, or completed first (09 R338). -/
def execPowerFailWarning (sig : Option Bool) (s : State) : Res :=
  if s.pwr.lowSupply || s.pwr.phase == .unpowered || s.pwr.phase == .off then .next s else
  let s := s.modPwr fun p => { p with pfWarnings := sat16 p.pfWarnings, warned := true }
  let low (s : State) : State := s.modPwr fun p => { p with lowSupply := true }
  if s.domeService then
    let s := (s.abortEntry 6 255).stopPulses.abandonRun
    let s := if sig == some false then s.signOldest else s
    let gone := sig == some true && !s.sealed.due.isEmpty
    let s := if gone then s.modSeal Seal.abandon else s
    let s := (low s).commitOdo
    let s := s.modSeal fun v => { v with lowFrom := some (s.startHold s.now) }
    .next (s.powerFailEntry s.now false false gone true)
  else
    let s := if s.pwr.phase == .isolating then
        s.modPwr fun p => { p with entry := p.entry.map fun e => { e with failure := some ⟨0, 255, s.now, false⟩ }, phase := .waking }
      else s
    .next ((low s).modSeal fun v => { v with pfLatched := some (s.now, !s.fast) })

/-- VIN_RESTORE: LOW_SUPPLY GAP record, and source 24 where the restoration falls in a sleep or an entry (18 R600). -/
def execVinRestore (s : State) : Res :=
  if !s.pwr.lowSupply then .next s else
  let s := s.modPwr fun p => { p with lowSupply := false }
  let s := match s.sealed.lowFrom with
    | none => s
    | some h =>
      let (cause, s) := s.claim 9
      (s.gapRecord cause 4 h.worst h.start s.now h.measured h.bridged h.epoch).modSeal fun v => { v with lowFrom := none }
  let asleep := s.pwr.entry.isSome
  let s := s.modPwr fun p => { p with warned := false, restored := asleep && p.warned }
  .next (if s.pwr.restored then s.wakeOn 24 else s)

/-- VIN_LOSS: all volatile state is lost; what COLD_START keeps is all that a later start finds. -/
def execVinLoss (s : State) : Res :=
  .next (s.modPwr fun p => { p with phase := .unpowered, idle := false })

/-- COLD_START (19 R622): VIN rising, or a wake from OFF. -/
def execColdStart (wakeFromOff pfLatched : Bool) (s : State) : Res :=
  if s.pwr.phase == (if wakeFromOff then .off else .unpowered) then .next (s.coldStart wakeFromOff pfLatched) else .next s

/-! The seal loop (09 R310, R311, 18 R610). -/

/-- The Dome has granted an entry that goes on. -/
def State.domeGranted (s : State) : Bool := s.pwr.entry.any fun e => vget e.answers 0 == .granted

/-- SEAL_LOOP_OPEN: the Dome acts, or the Lantern latches the opening for a wake's handover or the Dome's next start. -/
def execSealLoopOpen (s : State) : Res :=
  if s.pwr.phase == .unpowered then .next (s.modSeal fun v => { v with loopOpen := true }) else
  let s := s.modSeal fun v => { v with loopOpen := true }
  let s := (s.modPwr fun p => { p with sealLevel := true }).wakeOn 2
  if s.sealed.state != .sealed then .next s
  else if s.domeService && !s.domeGranted then .next (s.sealOpened s.now false false)
  else if s.pwr.phase == .refclkLost && s.boot.dome == .service then .next (s.sealOpened s.now true false)
  else if s.sealed.latched.isNone then .next (s.modSeal fun v => { v with latched := some (s.now, !s.fast) })
  else .next s

/-- SEAL_LOOP_CLOSED: it does not return the Dome to SEALED. -/
def execSealLoopClosed (s : State) : Res :=
  .next ((s.modSeal fun v => { v with loopOpen := false }).modPwr fun p => { p with sealLevel := false })

/-! Wake edges. -/

/-- Whether an edge source is being watched by its Lantern detector, or ends an entry. -/
def Phase.watches : Phase → Bool
  | .handshake | .committed | .turningOff | .sleep | .deep => true
  | _ => false

/-- UART_WAKE_EDGE (14 R491); U7 in slow mode keeps receiving in SLEEP. -/
def execUartWakeEdge (u : Fin 8) (s : State) : Res :=
  let slow7 := u.val == 7 && (vget s.uarts 7).line.slow && s.pwr.phase == .sleep
  if !s.pwr.phase.watches || slow7 || !s.wakeEnabled (6 + u.val) then .next s else
  .next (s.wakeOn (6 + u.val))

/-- What U7 has received in SLEEP may wake the device (14 R491); `r` the port before. -/
def State.slowWoken (s : State) (r : Uart) : State :=
  if s.pwr.phase == .sleep && r.slowWake (vget s.uarts 7) then s.wakeOn 13 else s

/-- UART_CHARACTER_RECEIVED (14 R487, R491). -/
def execUartCharacterReceived (u : Fin 8) (ch : UartChar) (s : State) : Res :=
  .next ((s.uartReceive u.val ch).slowWoken (vget s.uarts 7))

/-- UART_BREAK_RECEIVED (14 R488, R491). -/
def execUartBreakReceived (u : Fin 8) (_ : Unit) (s : State) : Res :=
  .next ((s.uartBreak u.val).slowWoken (vget s.uarts 7))

/-- CAN_WAKE_EDGE (14 R500). -/
def execCanWakeEdge (m : Fin 2) (s : State) : Res :=
  if !s.pwr.phase.watches || !s.wakeEnabled (14 + m.val) then .next s
  else .next (s.wakeOn (14 + m.val))

/-- HPORT_WAKE_EDGE (13 R452). -/
def execHportWakeEdge (s : State) : Res :=
  if !(s.pwr.phase == .sleep || s.pwr.phase == .deep || s.pwr.phase == .turningOff) || !s.wakeEnabled 3 then .next s
  else .next (s.wakeOn 3)

/-- KAKEL_WAKE_ACTIVITY (13 R471). -/
def execKakelWakeActivity (l : LaneId) (s : State) : Res :=
  if s.pwr.phase == .sleep || s.pwr.phase == .deep || s.pwr.phase == .turningOff then .next (s.wakeOn (4 + l.num))
  else .next s

/-! Event inputs (03 R102–R106). -/

/-- The level after the edge is the one that EDGE selects. -/
def EvtInput.selects (e : EvtInput) (level : Bool) : Bool :=
  if e.edge = 0 then level else if e.edge = 1 then !level else true

def EvtInput.merge (e : EvtInput) : EvtInput :=
  { e with merged := sat8 e.merged, since := satAdd 0xFFFF_FFFF e.since 1, before := true }

/-- The EVT_EDGE payload (03 R106). -/
def evtPayload (n : Nat) (level coarse : Bool) (interp : Nat) (e : EvtInput) : List Byte :=
  le 1 n ++ le 1 (bitsOf [(level, 0), (coarse, 1), (e.before, 2)]) ++ le 1 interp ++ le 1 0 ++ le 4 e.since

def EvtInput.stamp (e : EvtInput) (tick : Nat) (level woke : Bool) : EvtInput :=
  { e with level := level, pend := true, last := some tick, since := 0, before := false, woke := woke }

/-- The fast clocks stand and the detectors watch: all but the lost-edge window (18 R596) and a Lantern without its rail. -/
def Phase.stamps : Phase → Bool
  | .turningOff | .turningBack | .sleep | .deep | .wakingOn | .waking | .locked | .refclkLost => true
  | _ => false

/-- EVT_EDGE: a stamped edge, a merged one, a waking one, or one that is not watched. -/
def execEvtEdge (n : Fin 4) (level : Bool) (interp : Fin 64) (s : State) : Res :=
  let e := vget s.evt n.val
  let put (e : EvtInput) (s : State) : State := { s with evt := vset s.evt n.val e }
  if s.fast then
    let s := if e.selects level && (s.pwr.phase == .handshake || s.pwr.phase == .committed) then s.wakeOn (16 + n.val) else s
    if !e.en || !e.selects level then .next (put { e with level := level } s)
    else if e.last.any (fun t => decide (s.clk.tick ≤ t + 4)) then .next (put { e.merge with level := level } s)
    else
      let (cause, s) := s.claim 5
      let p := evtPayload n.val level false interp.val e
      let s := if s.epochHeld then s.holdRecord cause 0x01 s.now p else s.drumRecord 11 cause 0x01 s.now p
      .next ((put (e.stamp s.clk.tick level false) s).count (70 + n.val))
  else if !e.wake || !e.selects level then .next s
  else if e.woke then .next (put e.merge s)
  else if s.pwr.phase.stamps then
    let (cause, s) := s.claim 5
    let s := s.holdRecord cause 0x01 s.now (evtPayload n.val level true 0 e)
    .next ((put (e.stamp s.clk.tick level true) s).wakeOn (16 + n.val))
  else .next s

/-! Lantern timers (18 R600, R608). -/

/-- A write of CFG: MODE 1 or 2 arms the timer on the target then held. -/
def LanternTimer.setMode (t : LanternTimer) (mode : BitVec 2) : LanternTimer :=
  { t with mode := mode, expired := false
           armed := if mode = 0 then none else some (t.tgtS.toNat * 2 ^ 32 + t.tgtF.toNat) }

/-- LANTERN_TIMER_EXPIRY. -/
def execLanternTimerExpiry (t : Fin 4) (s : State) : Res :=
  let r := vget s.ltimers t.val
  match r.armed with
  | none => .next s
  | some tgt =>
    if s.now < tgt || s.pwr.phase == .unpowered || s.pwr.phase == .off then .next s else
    let next := tgt + r.period.toNat * second
    let r' := if r.mode = 2 then { r with expired := true, armed := some next, tgtS := BitVec.ofNat 32 (next / 2 ^ 32) }
      else { r with expired := true, armed := none }
    let s := { (s.claim 8).2 with ltimers := vset s.ltimers t.val r' }
    let s := if s.fast then s.modPwr fun p => { p with ltimerF := true } else s
    let s := if s.pwr.phase == .isolating then
        s.modPwr fun p =>
          { p with windowTimers := p.windowTimers ||| BitVec.ofNat 4 (2 ^ t.val)
                   wakeEvent := match p.wakeEvent with
                     | none => if s.wakeEnabled (20 + t.val) then some ⟨20 + t.val, s.now, false⟩ else none
                     | some w => some w }
      else s.wakeOn (20 + t.val)
    .next (if t.val = 3 then s.sketchDue else s)

/-! Profile changes (01 R27), the bring-up of domains and clusters (18 R589, 19 R627). -/

/-- The domains that a profile needs are powered and have passed their checks. -/
def State.domainsReady (s : State) (profile : Nat) : Bool :=
  (profileDomains profile).all fun d => s.poweredOn d || !s.usable d

/-- A profile takes effect: domains it does not need are removed, then the voltage is lowered (01 R27, 18 R605). -/
def State.enterProfile (s : State) (profile : Nat) : State :=
  let old := s.pwr.profile
  let needed := (profileDomains profile).foldl (fun m d => m ||| domainBit d) (0 : BitVec 10)
  let onDemand := if profile = 0 then domainBit 3 ||| domainBit 4 ||| domainBit 9 else if profile = 1 then domainBit 3 else 0
  let s := s.modPwr fun p => { p with profile := profile, domains := p.domains &&& (needed ||| onDemand) }
  let s := s.applyProfile old
  let s := if profile = 1 then s.powerDownIdle else s
  if profilePoint profile = 1 && profilePoint old = 0 then s.rlinkStart .profileLower s.rlink.vRun else s

/-- PROFILE_CHANGE_EFFECT, at its boundary. -/
def execProfileChangeEffect (s : State) : Res :=
  match s.pwr.profileReq with
  | none => .next s
  | some r =>
    let boundary := if s.pwr.profile = 0 then s.easel.fix.isNone else s.atEpoch
    if s.domeService && boundary && s.domainsReady r.profile && decide (s.rlink.volts ≥ s.rlink.point (profilePoint r.profile)) then
      let s := (s.modPwr fun p => { p with profileReq := none }).enterProfile r.profile
      .next (s.finalOption r.cmd .ok 0 [])
    else .next s

/-- The start-up profile (01 R26). -/
def State.startupProfile (s : State) : Nat := s.pwr.startup.getD 1

/-- Domains of the bring-up: those of EARLY and of the start-up profile. -/
def State.bringUpDomains (s : State) : List Nat :=
  (List.range 11).filter fun d => (profileDomains 3).contains d || (profileDomains s.startupProfile).contains d

/-- DOMAIN_POWER_UP_COMPLETE. -/
def execDomainPowerUpComplete (d : Fin 10) (pass : Bool) (s : State) : Res :=
  let n := d.val + 1
  match s.pwr.powerUps.find? fun p => p.domain == n with
  | none => .next s
  | some p =>
    if s.now < p.started + upTime n then .next s else
    let s := s.modPwr fun q => { q with powerUps := q.powerUps.filter fun p => p.domain != n }
    if pass then
      let s := s.modPwr fun q => { q with domains := q.domains ||| domainBit n }
      let s := if n = 9 then s.syncPorts true 6 else s
      .next (if 5 ≤ n && n ≤ 8 then s.modBoot fun b => { b with testFrom := vset b.testFrom (n - 5) s.now } else s)
    else
      let s := s.modPwr fun q => { q with failedDomains := q.failedDomains ||| domainBit n }
      .next (if s.boot.retryAt.isNone then s.modBoot fun b => { b with retryAt := some (s.now + 10 * second) } else s)

/-- A borrowed cluster's channel leaves a calibration run (10 R362). -/
def State.loseRunCluster (s : State) (c : Nat) : State :=
  match s.cal.run with
  | none => s
  | some r =>
    let mine := r.channels.filter fun ch => ch / 48 == c
    let s := s.modCal fun v => { v with run := some { r with clusters := r.clusters.filter (· != c)
                                                             channels := r.channels.filter fun ch => !mine.contains ch } }
    mine.foldl (fun s ch => s.unclaim ch) s

/-- A cluster is declared failed (05 R194): entered, its channels carried or stopped, its domain powered down. -/
def State.failCluster (s : State) (c cause : Nat) : State :=
  let s := s.audit 0x0008 (some 7) cause s.now false false (le 1 c)
  let s := s.modBoot fun b => { b with clustersFailed := b.clustersFailed ||| BitVec.ofNat 4 (2 ^ c) }
  let s := s.modPwr fun p => { p with domains := p.domains &&& ~~~domainBit (5 + c) }
  let s := s.loseRunCluster c
  let (s, carried, dropped) := s.carryAll [c]
  s.domeRecord 11 cause 0x23 s.now (le 1 c ++ le 1 carried ++ le 1 dropped ++ zeros 5)

/-- CLUSTER_SELF_TEST_COMPLETE (19 R627): 150 ms after the cluster's power-up. -/
def execClusterSelfTestComplete (cl : Fin 4) (pass : Bool) (s : State) : Res :=
  if !s.domeService || !s.poweredOn (5 + cl.val) || s.boot.clustersTested.toNat.testBit cl.val ||
      decide (s.now < vget s.boot.testFrom cl.val + ms 150) then .next s else
  let s := s.modBoot fun b => { b with clustersTested := b.clustersTested ||| BitVec.ofNat 4 (2 ^ cl.val) }
  .next (if pass then s else (s.claim 3).2.failCluster cl.val (s.claim 3).1)

/-- STARTUP_COMPLETE (19 R627). -/
def execStartupComplete (s : State) : Res :=
  let profile := s.startupProfile
  let tested := (List.range 4).all fun c => !s.poweredOn (5 + c) || s.boot.clustersTested.toNat.testBit c
  if s.domeService && s.atEpoch && !s.boot.complete && s.boot.stageFiveDone && s.domainsReady profile && tested && s.portsReady profile then
    let s := s.modBoot fun b => { b with complete := true, stage := 6, retryAt := none }
    let (cause, s) := s.claim 9
    let s := s.domeRecord 11 cause 0x13 s.now (le 1 profile ++ le 1 s.boot.clustersFailed.toNat ++ zeros 2)
    .next (s.enterProfile profile).startCalibration
  else .next s

/-- EARLY_DOMAIN_RETRY (19 R627): every 10 s. -/
def execEarlyDomainRetry (s : State) : Res :=
  match s.boot.retryAt with
  | none => .next s
  | some t =>
    if !s.domeService || s.now < t then .next s else
    let s := s.modBoot fun b => { b with retryAt := none }
    if !s.boot.stageFiveDone then .next (s.rlinkStart .stageFive s.rlink.vFull)
    else
      let failed := (List.range 11).filter fun d => d != 0 && s.pwr.failedDomains &&& domainBit d != 0
      .next (s.powerDomains failed)

end Sys2Proof.Machine
end

