-- ==== Sys2Proof/Machine/Rlink.lean ====
section
/-! DEFINITION. The regulator link: attempts, acknowledgements, failures of sequences (18 R603–R605, 19 R622). -/

namespace Sys2Proof.Machine

/-- The sequence in progress ends: RLINK is ready, and the next one waiting begins. -/
def Rlink.finish (r : Rlink) : Rlink :=
  let r := { r with seq := none, state := if r.state = 3 then 3 else 1 }
  match r.queue with
  | [] => r
  | (p, v) :: rest => { r with queue := rest }.start p v

/-- Stage 1 has failed: it is repeated one second later (19 R622). -/
def State.stageOneFailed (s : State) : State := s.modRlink fun r => { r with retryAt := some (s.now + second) }

/-- What follows a sequence that succeeded. `banks`: the canary check of a wake from DEEP. -/
def State.sequenceDone (s : State) (q : RSequence) (banks : List (Nat × Nat × Nat)) : State :=
  let s := s.modRlink Rlink.finish
  let volts (s : State) : State := s.modRlink fun r => { r with volts := q.volts }
  match q.purpose with
  | .stageOneMode => s.rlinkStart .stageOneVolt s.rlink.vBare
  | .stageOneVolt => (volts s).rlinkStart .stageOneOn 0
  | .stageOneOn => (s.modRlink fun r => { r with outputOn := true }).modPwr fun p => { p with phase := .waking }
  | .stageFive =>
    let s := (volts s).modBoot fun b => { b with stageFiveDone := true, stage := if b.stage < 5 then 5 else b.stage }
    s.powerDomains s.bringUpDomains
  | .profileRaise =>
    let s := volts s
    match s.pwr.profileReq with
    | none => s
    | some r => s.powerDomains (profileDomains r.profile)
  | .profileLower => volts s
  | .setVcore cmd p =>
    let s := volts s
    let s := s.modRlink fun r =>
      if p = 0 then { r with vFull := q.volts } else if p = 1 then { r with vRun := q.volts } else { r with vBare := q.volts }
    s.finalReply cmd .ok 0 []
  | .entryOff =>
    let s := s.modRlink fun r => { r with outputOn := false }
    match s.pwr.entry with
    | none => s
    | some e => s.completeEntry e
  | .entryBack => (s.modRlink fun r => { r with outputOn := true }).modPwr fun p => { p with phase := .waking }
  | .wakeOn =>
    ((s.modRlink fun r => { r with outputOn := true }).canaries banks).modPwr fun p => { p with phase := .waking }

/-- What follows a sequence that failed (18 R601, R604). -/
def State.sequenceFailed (s : State) (q : RSequence) : State :=
  let s := s.modRlink fun r => { r with faults := sat8 r.faults, failures := sat16 r.failures }.finish
  let st : Status := if q.lastNack then .fault else .timeout
  match q.purpose with
  | .stageOneMode | .stageOneVolt | .stageOneOn => s.stageOneFailed
  | .stageFive => s.modBoot fun b => { b with retryAt := some (s.now + 10 * second) }
  | .profileRaise =>
    match s.pwr.profileReq with
    | none => s
    | some r => (s.finalOption r.cmd st 7 []).modPwr fun p => { p with profileReq := none }
  | .profileLower => s
  | .setVcore cmd _ => s.finalReply cmd st 7 []
  | .entryOff =>
    let s := s.modPwr fun p =>
      { p with phase := .turningBack
               entry := p.entry.map fun e => { e with failure := some ⟨7, 255, s.now, q.lastNack⟩ } }
    s.rlinkStart .entryBack 0
  | .entryBack => s.modRlink fun r => { r with retryAt := some (s.now + second) }
  | .wakeOn =>
    (s.modPwr fun p => { p with phase := .deep, rlinkRetry := true }).modRlink fun r => { r with retryAt := some (s.now + second) }

/-- An attempt fails: repeated up to three times, PAGE included (18 R604). -/
def State.attemptFailed (s : State) (q : RSequence) (nack : Bool) : State :=
  if q.retries < 3 then
    s.modRlink fun r =>
      { r with seq := some { q with retries := q.retries + 1, at_ := q.cfg.opening, lastNack := nack }, retries := sat16 r.retries }
  else s.sequenceFailed { q with lastNack := nack }

/-- Whether a command of this purpose is OPERATION off. -/
def RPurpose.isOff : RPurpose → Bool
  | .entryOff => true
  | _ => false

/-- VOUT_COMMAND's word: round(V / 2^N), N two's complement in the low bits of VOUT_MODE (18 R603). -/
def voutWord (n : BitVec 5) (mv : Nat) : Nat := (rnd ((mv * 2 ^ (32 - n.toNat) : Nat) : Int) 1000).toNat % 65536

/-- The transaction that the sequence is at (18 R603); an acknowledgement by poll reads STATUS_WORD. -/
def Rlink.transaction (r : Rlink) (q : RSequence) : RWire :=
  let t : Nat × List Byte :=
    match q.at_ with
    | .page => (0x00, le 1 q.cfg.page.toNat)
    | .ack => (0x79, [])
    | .main =>
      match q.purpose with
      | .stageOneMode => (0x20, [])
      | .stageOneOn | .entryBack | .wakeOn => (0x01, [0x80])
      | .entryOff => (0x01, [0x00])
      | .stageOneVolt | .stageFive | .profileRaise | .profileLower | .setVcore .. => (0x21, le 2 (voutWord r.n q.volts))
  { addr := q.cfg.addr, code := t.1, data := t.2, pec := q.cfg.pec }

/-- The bus has carried the sequence's present transaction. -/
def State.sent (s : State) (q : RSequence) : State := s.modRlink fun r => { r with wire := some (r.transaction q) }

/-- A VOUT_MODE that R603 permits: linear16, N from −16 to −8. -/
def voutModeOk (m : BitVec 8) : Bool := m.toNat / 32 == 0 && decide (16 ≤ m.toNat % 32) && decide (m.toNat % 32 ≤ 24)

/-- RLINK_TRANSACTION_END: PAGE, VOUT_MODE (`voutMode` the byte read), or the command's own transaction. -/
def execRlinkTransactionEnd (voutMode : Option (BitVec 8)) (s : State) : Res :=
  match s.rlink.seq with
  | none => .next s
  | some q =>
    let s := if q.at_ == .ack then s else s.sent q
    match q.at_ with
    | .page => .next (s.modRlink fun r => { r with seq := some { q with at_ := .main } })
    | .ack => .next s
    | .main =>
      match q.purpose, voutMode with
      | .stageOneMode, some m =>
        let s := s.modRlink fun r => { r with voutMode := m, n := m.setWidth 5 }
        if voutModeOk m then .next ((s.modRlink fun r => { r with state := 1 }).sequenceDone q [])
        else .next (s.modRlink fun r => { r with seq := none, state := 3 }).stageOneFailed
      | .stageOneMode, none => .next s
      | .stageOneVolt, _ =>
        if s.rlink.outputOn then .next (s.modRlink fun r => { r with seq := some { q with at_ := .ack, stop := s.now } })
        else .next (s.sequenceDone q [])
      | _, _ => .next (s.modRlink fun r => { r with seq := some { q with at_ := .ack, stop := s.now } })

/-- The sequence that awaits an acknowledgement. -/
def Rlink.awaiting (r : Rlink) : Option RSequence := r.seq.filter fun q => q.at_ == .ack

/-- RLINK_ACK (18 R604): by PGOOD (`status` none) or by a STATUS_WORD poll whose bit 11 shows it; `canary` the banks that
the canary check of a wake from DEEP finds changed. -/
def execRlinkAck (status : Option (BitVec 16)) (canary : List (Nat × Nat × Nat)) (s : State) : Res :=
  match s.rlink.awaiting with
  | none => .next s
  | some q =>
    match status with
    | none =>
      let s := s.modRlink fun r => { r with pgood := !q.purpose.isOff }
      if q.cfg.ackSrc = 1 then .next s else .next (s.sequenceDone q canary)
    | some w =>
      if q.cfg.ackSrc = 0 then .next s else
      let s := (s.sent q).modRlink fun r => { r with status := w }
      if w.toNat.testBit 11 == q.purpose.isOff then .next (s.sequenceDone q canary) else .next s

/-- RLINK_POLL: a STATUS_WORD read that does not acknowledge. -/
def execRlinkPoll (status : BitVec 16) (s : State) : Res :=
  match s.rlink.awaiting with
  | none => .next s
  | some q => if q.cfg.ackSrc = 0 then .next s else .next ((s.sent q).modRlink fun r => { r with status := status })

/-- RLINK_NACK: a transaction of the attempt meets a NACK or a PEC error. -/
def execRlinkNack (s : State) : Res :=
  match s.rlink.seq with
  | none => .next s
  | some q => .next ((s.sent q).attemptFailed q true)

/-- RLINK_ATTEMPT_TIMEOUT: no acknowledgement within TIMEOUT of the STOP condition. -/
def execRlinkAttemptTimeout (s : State) : Res :=
  match s.rlink.awaiting with
  | none => .next s
  | some q =>
    if s.now ≥ q.stop + us (100 * q.cfg.timeout.toNat) then .next (s.attemptFailed q false) else .next s

/-- RLINK_RETRY: once per second a device that could not turn VCORE on tries again (18 R601; a failed return: DEDUCED, log 41). -/
def execRlinkRetry (s : State) : Res :=
  match s.rlink.retryAt with
  | none => .next s
  | some t =>
    if s.now < t || s.rlink.seq.isSome then .next s else
    let s' := s.modRlink fun r => { r with retryAt := none }
    match s.pwr.phase, s.pwr.wakeEvent with
    | .deep, some w => .next (s'.beginWake w)
    | .turningBack, _ => .next (s'.rlinkStart .entryBack 0)
    | _, _ => .next s

/-- STAGE1_RETRY: a failed stage 1 starts again from the read of VOUT_MODE (19 R622). -/
def execStage1Retry (s : State) : Res :=
  match s.rlink.retryAt with
  | none => .next s
  | some t =>
    if s.now ≥ t && s.pwr.phase == .lantern && s.rlink.seq.isNone then
      .next ((s.modRlink fun r => { r with retryAt := none }).rlinkStart .stageOneMode 0)
    else .next s

end Sys2Proof.Machine
end

