-- ==== Sys2Proof/Machine/HostCmd.lean ====
section
/-! DEFINITION. The SYS, PWR, TIME, OUT, MEM, MON and FW groups (12 R420–R442, 18 R611–R617, 03 R115–R117), the online
memory test and the scrub (17 R568, R571). -/

namespace Sys2Proof.Machine

/-! SYS. -/

def bodySysNop : Body := fun _ s => (s, .okay [])
def bodySysEcho : Body := fun c s => (s, .okay c.payload)

/-- The Drum image's versions; none from the boot ROM (12 R421, 19 R624). -/
def bodySysGetIdent : Body := query fun s =>
  let i := s.drumImages.now
  le 4 Config.sysIdent.toNat ++ le 4 (if s.interp.recovery then 0 else i.interp) ++ le 4 s.mbogito ++
    le 4 (if s.interp.recovery then 0 else i.customer) ++ le 1 s.number ++ le 1 (b2n s.drumImages.active) ++ le 2 0 ++
    le 8 Config.serial

def bodySysGetStatus : Body := query fun s =>
  le 1 s.pwr.profile ++ le 1 (match s.pwr.profileReq with | none => 255 | some r => r.profile) ++
    le 1 s.interp.inflight.length ++
    le 1 (bitsOf [(s.sealed.auditHold, 0), (s.sealed.hold.isSome, 1), (!s.mbx.out.isEmpty, 2)]) ++ le 8 s.interp.startDt ++
    le 8 s.boot.domeStartDt ++ le 2 s.interp.starts ++ le 2 s.boot.domeStarts ++ le 2 s.mbx.droppedTotal ++ le 2 0

/-- A reset planned after the reply OK; its time runs once the reply is written (12 R423). -/
def State.planReset (s : State) (c : Cmd) (source : Nat) (dome drum : Bool) : State :=
  let s := s.finalReply c.id .ok 0 []
  let n := c.ring + 4
  let now := s.clk.tick
  let plan : ResetPlan :=
    { source := source
      dome := if dome then some (now + 81840) else none
      drum := if drum then some (if c.noReply then now + 1 else now + 8184000) else none
      reply := if c.noReply then none else some (n, (vget s.rings n).prod)
      made := now
      waits := (s.inflight? c.id).map (·.id) }
  { s with interp := { s.interp with plans := s.interp.plans ++ [plan] } }

def bodySysReset : Body := fun c s =>
  let p := c.payload
  let t := byteAt p 0
  checked s [reservedPayload p [(1, 0xFF), (2, 0xFF), (3, 0xFF)], outOfRange (decide (t < 1 ∨ 3 < t)) 0]
    (s.planReset c 6 (bit t 1) (bit t 0), .quiet)

def execSysNop (t : Txn) (s : State) : Res := hostCommand (opIs 0x0000) bodySysNop t s
def execSysGetIdent (t : Txn) (s : State) : Res := hostCommand (opIs 0x0001) bodySysGetIdent t s
def execSysGetStatus (t : Txn) (s : State) : Res := hostCommand (opIs 0x0002) bodySysGetStatus t s
def execSysReset (t : Txn) (s : State) : Res := hostCommand (opIs 0x0003) bodySysReset t s
def execSysEcho (t : Txn) (s : State) : Res := hostCommand (opIs 0x0004) bodySysEcho t s

/-! PWR. -/

/-- PWR_SET_PROFILE (18 R611): STORE keeps the profile for the next start; a request during an entry waits (R610). -/
def bodyPwrSetProfile : Body := fun c s =>
  let p := c.payload
  let prof := byteAt p 0
  checked s
    [reservedPayload p [(1, 0xFE), (2, 0xFF), (3, 0xFF)], outOfRange (decide (prof > 2)) 0,
     (s.pwr.profile == 3, .err .stateConflict 0)]
    (let s := if bit (byteAt p 1) 0 then s.modPwr fun q => { q with startup := some prof } else s
     let s := s.acceptedReply c.id
     let s := if s.inTransition then
         s.supersede.modPwr fun q => { q with pendingProfile := some { profile := prof, cmd := some c.id } }
       else s.requestProfile prof (some c.id)
     (s, .quiet))

def bodyPwrGetState : Body := query fun s =>
  let q := s.pwr
  le 1 (b2n q.idle) ++ le 1 (b2n q.handshake) ++
    le 1 (match q.pendingReq with | none => 255 | some r => r.target.code) ++ le 1 q.profile ++ le 2 q.domains.toNat ++
    le 1 q.veto.toNat ++ le 1 q.lastReason ++ le 1 (if q.lastBlock = 15 then 255 else q.lastBlock) ++ le 1 s.pointInForce ++ le 2 s.rlink.volts ++
    le 8 q.lastDone ++ le 4 q.completed ++ le 2 q.failed ++ le 2 q.aborted

/-- The target a code names (18 R606). -/
def targetOf (n : Nat) : Option Target :=
  if n = 0 then some .run else if n = 2 then some .sleep else if n = 3 then some .deep else if n = 4 then some .off else none

/-- PWR_ENTER (18 R612). -/
def bodyPwrEnter : Body := fun c s =>
  let p := c.payload
  let d := getLe p 2 2
  match targetOf (byteAt p 0) with
  | none =>
    checked s [reservedPayload p [(1, 0xFE), (4, 0xFF), (5, 0xFF), (6, 0xFF), (7, 0xFF)]] (s, .err .paramRange 16)
  | some t =>
    checked s
      [reservedPayload p [(1, 0xFE), (4, 0xFF), (5, 0xFF), (6, 0xFF), (7, 0xFF)], (s.pwr.profile == 3, .err .stateConflict 0)]
      ((s.acceptedReply c.id).request
        { target := t, snapSr := bit (byteAt p 1) 0, delayMax := if d = 0 then 1000 else d, from_ := .command c.id }, .quiet)

/-- PWR_WAKE_EN as written: bit 8 (timer 3) reads 1 (18 R606). -/
def Pwr.setWakeEn (p : Pwr) (v : Nat) : Pwr := { p with wakeEn := BitVec.ofNat 10 v ||| 0x100 }

/-- PWR_SET_WAKE (18 R614): bytes 0–3 are a write of the register, whose reserved bits are ignored (R8, R386). -/
def bodyPwrSetWake : Body := fun c s =>
  let p := c.payload
  checked s
    [reservedPayload p [(4, 0xFF), (5, 0xFF), (6, 0xFF), (7, 0xFF)]]
    (s.modPwr fun q => q.setWakeEn (getLe p 0 4), .okay [])

def bodyPwrGetWake : Body := fun _ s =>
  let q := s.pwr
  checked s [(q.wakes == 0, .err .notReady 0)]
    (s, .okay (le 1 q.wakeSource ++ le 1 q.wakeFrom ++ le 1 q.wakeFlags.toNat ++ le 1 0 ++ le 8 q.wakeDt ++
      le 4 (min 0xFFFF_FFFF q.wakeSlow) ++ le 2 q.wakes ++ le 2 0))

/-- PWR_SET_TIMER (18 R615, R608). -/
def bodyPwrSetTimer : Body := fun c s =>
  let p := c.payload
  let t := byteAt p 0
  let mode := byteAt p 1
  let period := getLe p 4 4
  checked s
    [reservedPayload p [(2, 0xFF), (3, 0xFF)], outOfRange (decide (t > 3)) 0, outOfRange (decide (mode > 2)) 1,
     outOfRange (if mode = 2 then decide (period < 1 ∨ 86400 < period) else period != 0) 4,
     (t == 3, .err .stateConflict 0)]
    ({ s with ltimers := vmod s.ltimers t fun (r : LanternTimer) =>
        { r with period := BitVec.ofNat 17 period, tgtF := BitVec.ofNat 32 (getLe p 8 4),
                 tgtS := BitVec.ofNat 32 (getLe p 12 4) }.setMode (BitVec.ofNat 2 mode) }, .okay [])

/-- Lowest voltage of a point, mV (18 R605). -/
def pointMin (p : Nat) : Nat := if p = 0 then 800 else if p = 1 then 720 else 600

/-- PWR_SET_VCORE (18 R616). -/
def bodyPwrSetVcore : Body := fun c s =>
  let p := c.payload
  let pt := byteAt p 0
  let mv := getLe p 2 2
  checked s
    [reservedPayload p [(1, 0xFF)], outOfRange (decide (pt > 2)) 0, outOfRange (decide (mv < pointMin pt ∨ 900 < mv)) 2,
     (s.rlink.state == 0 || s.inTransition, .err .stateConflict 0)]
    (if pt = s.pointInForce then ((s.acceptedReply c.id).rlinkStart (.setVcore c.id pt) mv, .quiet)
     else
       let s := s.modRlink fun r =>
         if pt = 0 then { r with vFull := mv } else if pt = 1 then { r with vRun := mv } else { r with vBare := mv }
       (s, .both .ok 0 []))

def bodyPwrGetRlink : Body := query fun s =>
  let r := s.rlink
  le 1 r.state ++ le 1 r.voutMode.toNat ++ le 2 r.status.toNat ++ le 2 r.volts ++ le 2 r.vFull ++ le 2 r.vRun ++
    le 2 r.vBare ++ le 2 r.retries ++ le 2 r.failures ++ le 1 (b2n r.pgood) ++ zeros 3

def execPwrSetProfile (t : Txn) (s : State) : Res := hostCommand (opIs 0x0100) bodyPwrSetProfile t s
def execPwrGetState (t : Txn) (s : State) : Res := hostCommand (opIs 0x0101) bodyPwrGetState t s
def execPwrEnter (t : Txn) (s : State) : Res := hostCommand (opIs 0x0102) bodyPwrEnter t s
def execPwrSetWake (t : Txn) (s : State) : Res := hostCommand (opIs 0x0103) bodyPwrSetWake t s
def execPwrGetWake (t : Txn) (s : State) : Res := hostCommand (opIs 0x0104) bodyPwrGetWake t s
def execPwrSetTimer (t : Txn) (s : State) : Res := hostCommand (opIs 0x0105) bodyPwrSetTimer t s
def execPwrSetVcore (t : Txn) (s : State) : Res := hostCommand (opIs 0x0106) bodyPwrSetVcore t s
def execPwrGetRlink (t : Txn) (s : State) : Res := hostCommand (opIs 0x0107) bodyPwrGetRlink t s

/-! TIME. -/

def bodyTimeGet : Body := query fun s =>
  let c := s.clk
  le 4 c.epoch ++ le 8 c.tick ++ le 1 s.alignCode ++
    le 1 (bitsOf [(s.nav.map.isSome, 0), (s.nav.map.any fun m => m.holdover, 1)]) ++ le 2 0 ++ leInt 8 c.offset ++ leInt 4 c.steer

def bodyTimeGetMap : Body := fun _ s =>
  match s.nav.mapPayload with
  | none => (s, .err .notReady 0)
  | some p => (s, .okay p)

/-- EVT_CFGn as written: EN, EDGE, WAKE (03 R105). -/
def EvtInput.configure (e : EvtInput) (v : Nat) : EvtInput :=
  { e with en := bit v 0, edge := BitVec.ofNat 2 (v / 2), wake := bit v 3 }

def EvtInput.cfg (e : EvtInput) : Nat := bitsOf [(e.en, 0), (e.wake, 3)] + e.edge.toNat * 2

def bodyTimeSetEvt : Body := fun c s =>
  let p := c.payload
  let n := byteAt p 0
  checked s
    [reservedPayload p [(1, 0xF0), (2, 0xFF), (3, 0xFF)], outOfRange (decide (n > 3)) 0,
     outOfRange (byteAt p 1 / 2 % 4 == 3) 1]
    ({ s with evt := vmod s.evt n fun e => e.configure (byteAt p 1) }, .okay [])

def bodyTimeGetEvt : Body := query fun s => s.evt.toList.flatMap (fun e => le 1 e.cfg) ++ s.evt.toList.flatMap fun e => le 1 e.merged

def execTimeGet (t : Txn) (s : State) : Res := hostCommand (opIs 0x0200) bodyTimeGet t s
def execTimeGetMap (t : Txn) (s : State) : Res := hostCommand (opIs 0x0201) bodyTimeGetMap t s
def execTimeSetEvt (t : Txn) (s : State) : Res := hostCommand (opIs 0x0202) bodyTimeSetEvt t s
def execTimeGetEvt (t : Txn) (s : State) : Res := hostCommand (opIs 0x0203) bodyTimeGetEvt t s

/-! OUT. -/

def overlap (a n b m : Nat) : Bool := decide (a < b + m) && decide (b < a + n)

/-- The enabled ring, other than `n`, that an area overlaps (12 R426). -/
def State.ringOverlap (s : State) (n base len : Nat) : Option Nat :=
  (List.range 16).find? fun k =>
    let r := vget s.rings k
    k != n && r.en && overlap base len (r.base.toNat * 64) (r.slots * 64)

/-- OUT_SET_RING (12 R425–R427). -/
def bodyOutSetRing : Body := fun c s =>
  let p := c.payload
  let n := byteAt p 0
  let lg := byteAt p 1
  let en := bit (byteAt p 2) 0
  let side := bit (byteAt p 2) 1
  let base := getLe p 4 4
  let thresh := getLe p 8 2
  let len := 64 * 2 ^ lg
  let q := n % 4
  let after (k : Nat) : Bool := if k = n then en && !side else (vget s.rings k).en && !(vget s.rings k).side
  let unread (k : Nat) : Bool := (vget s.rings k).prod != (vget s.rings k).cons
  checked s
    [reservedPayload p [(2, 0xFC), (3, 0xFF), (10, 0xFF), (11, 0xFF)], outOfRange (decide (n > 15)) 0,
     outOfRange (decide (lg < 4 ∨ 12 < lg)) 1, outOfRange (decide (base % 64 ≠ 0 ∨ 0x400000 < base + len)) 4,
     outOfRange (decide (thresh > 2 ^ lg)) 8,
     (en && (s.ringOverlap n base len).isSome, .err .stateConflict ((s.ringOverlap n base len).getD 0)),
     (en && overlap base len 0x3E3000 0x1D000, .err .stateConflict 16),
     (!(List.range 4).any (fun k => after k && after (k + 4)), .err .stateConflict 17),
     (decide (n < 8) && (unread q || unread (q + 4) || s.interp.inflight.any fun f => f.ring == q), .err .stateConflict 18)]
    (let s := (s.forgetSent n).modRing n fun r =>
       let r := { r.disable with base := BitVec.ofNat 16 (base / 64), sizeLog2 := BitVec.ofNat 4 lg, side := side,
                                 thresh := BitVec.ofNat 13 thresh }
       if en then r.enable else r
     (if n = 13 && en then s.modSeal Seal.reoffer else s, .okay []))

def bodyOutGetRing : Body := fun c s =>
  let n := byteAt c.payload 0
  let r := vget s.rings n
  checked s [outOfRange (decide (n > 15)) 0]
    (s, .okay (le 1 n ++ le 1 r.sizeLog2.toNat ++ le 1 (bitsOf [(r.en, 0), (r.side, 1), (r.full, 2)]) ++ le 1 0 ++
      le 4 (r.base.toNat * 64) ++ le 2 r.thresh.toNat ++ le 2 r.next ++ le 4 r.used ++ le 4 r.drops))

def bodyOutSetOutput : Body := fun c s =>
  let p := c.payload
  let m := byteAt p 0
  checked s
    [reservedPayload p [(1, 0xFE), (3, 0xFF)], outOfRange (!([1, 2, 5, 10, 20, 50].contains m)) 0,
     outOfRange (decide (byteAt p 2 > 2)) 2]
    ({ s with interp := { s.interp with meas := m, mpDetail := bit (byteAt p 1) 0, navMode := byteAt p 2 } }, .okay [])

def bodyOutGetOutput : Body := query fun s =>
  le 1 s.interp.measNow ++ le 1 (b2n s.interp.mpNow) ++ le 1 s.interp.navNow ++ le 1 s.rateInForce

def q15Checks (p : List Byte) : List (Bool × Ans) :=
  [reservedPayload p [(1, 0xFF)], outOfRange (decide (byteAt p 0 > 1)) 0,
   outOfRange (if byteAt p 0 = 1 then getLe p 2 2 != 0 else getLe p 2 2 == 0) 2]

def bodyOutQ15LossAdd : Body := fun c s =>
  let n := getLe c.payload 2 2
  checked s (q15Checks c.payload)
    (s.modRing 15 fun r => { r with pending := satAdd 0xFFFF r.pending n, drops := satAdd 0xFFFF_FFFF r.drops n }, .okay [])

def bodyOutQ15LossClear : Body := fun c s =>
  checked s (q15Checks c.payload) (s.modRing 15 fun r => { r with pending := 0 }, .okay [])

def execOutSetRing (t : Txn) (s : State) : Res := hostCommand (opIs 0x0600) bodyOutSetRing t s
def execOutGetRing (t : Txn) (s : State) : Res := hostCommand (opIs 0x0601) bodyOutGetRing t s
def execOutSetOutput (t : Txn) (s : State) : Res := hostCommand (opIs 0x0602) bodyOutSetOutput t s
def execOutGetOutput (t : Txn) (s : State) : Res := hostCommand (opIs 0x0603) bodyOutGetOutput t s
def execOutQ15LossAdd (t : Txn) (s : State) : Res :=
  hostCommand (fun o p => o == 0x0604 && byteAt p 0 != 1) bodyOutQ15LossAdd t s
def execOutQ15LossClear (t : Txn) (s : State) : Res := hostCommand (opByte 0x0604 0 1) bodyOutQ15LossClear t s

/-! MEM. -/

def State.modMem (s : State) (f : Mem → Mem) : State := { s with mem := f s.mem }

/-- A word with an ECC mark is read at physical address `pa` (17 R561): a single-bit error is corrected and written back, the first uncorrectable
one of the Drum's memories is latched; words of Drum and Dome SRAM count (12 R431). -/
def Mem.eccRead (m : Mem) (e : EccMark) (pa : Nat) : Mem :=
  let drum := e.mem == 0
  let dome := e.mem == 1
  if e.double then
    { m with errAddr := if m.ue || dome then m.errAddr else BitVec.ofNat 32 pa, ue := m.ue || !dome
             drumUe := if drum then sat32 m.drumUe else m.drumUe, domeUe := if dome then sat32 m.domeUe else m.domeUe }
  else
    { m with ecc := m.ecc.filter (· != e), ce := m.ce || drum
             drumCe := if drum then sat32 m.drumCe else m.drumCe, domeCe := if dome then sat32 m.domeCe else m.domeCe }

def State.eccFound (s : State) (e : EccMark) (pa : Nat) : State :=
  let s := s.modMem fun m => m.eccRead e pa
  if e.mem = 0 then s.count (if e.double then 41 else 40) else s

/-- Physical address of a marked word (17 R559); the Dome's memory has none. -/
def EccMark.addr (e : EccMark) : Nat :=
  e.word * 4 + if e.mem = 2 then 0x11000000 else if e.mem = 3 then 0x10000000 else 0

/-- Memories being scrubbed, as MEM_SCRUB's TARGET. -/
def Mem.scrubMask (m : Mem) : Nat := m.scrubs.foldl (fun a x => a ||| x.target.toNat) 0

def bodyMemGetStatus : Body := query fun s =>
  let m := s.mem
  le 4 m.lostDrum.toNat ++ le 2 m.lostDome.toNat ++ le 1 (b2n m.lostLantern) ++ le 1 0 ++ le 4 m.drumCe ++ le 4 m.drumUe ++
    le 4 m.domeCe ++ le 4 m.domeUe ++ le 4 m.repair.drumSpare.toNat ++ le 4 m.repair.drumExcess.toNat ++
    le 2 m.repair.domeSpare.toNat ++ le 2 m.repair.domeExcess.toNat ++ le 1 (b2n m.test.isSome) ++ le 1 m.scrubMask ++ le 2 0 ++
    le 4 m.blocksTested

def memTestChecks (p : List Byte) : List (Bool × Ans) :=
  [reservedPayload p [(3, 0xFF)], outOfRange (decide (byteAt p 0 > 31)) 0,
   outOfRange (decide (byteAt p 1 < byteAt p 0 ∨ 31 < byteAt p 1)) 1, outOfRange (decide (byteAt p 2 > 1)) 2]

def bodyMemTestRun : Body := fun c s =>
  let p := c.payload
  checked s (memTestChecks p ++ [(s.mem.test.isSome, .err .stateConflict 0)])
    (s.modMem fun m =>
      { m with test := some { lastBlock := byteAt p 1 * 128 + 127, next := byteAt p 0 * 128, cmd := c.id, due := s.now + us 64 } },
     .running)

def bodyMemTestStop : Body := fun c s =>
  checked s (memTestChecks c.payload ++ [(s.mem.test.isNone, .err .stateConflict 0)])
    (match s.mem.test with
     | none => (s, .okay [])
     | some t => ((s.finalReply t.cmd .aborted 2 []).modMem fun m => { m with test := none }, .okay []))

def MemTest.payload (t : MemTest) : List Byte := le 4 t.tested ++ le 4 t.failed ++ le 4 t.firstFailed

/-- MEM_TEST_BLOCK (17 R571, R572): the block is copied with correction, marched and written back, so that its content stands; an uncorrectable
word fails it. -/
def execMemTestBlock (marchOk : Bool) (s : State) : Res :=
  match s.mem.test with
  | none => .next s
  | some t =>
    if !s.fast || s.now < t.due then .next s else
    let marks := s.mem.ecc.filter fun e => e.mem == 0 && e.word / 256 == t.next
    let s := marks.foldl (fun s e => s.eccFound e e.addr) s
    let marchOk := marchOk && !marks.any (·.double)
    let t' : MemTest :=
      { t with tested := t.tested + 1, failed := if marchOk then t.failed else t.failed + 1, next := t.next + 1,
               firstFailed := if marchOk || t.failed != 0 then t.firstFailed else t.next * 1024, due := t.due + us 64 }
    let s := s.modMem fun m =>
      { m with blocksTested := sat32 m.blocksTested, testFail := m.testFail || !marchOk
               test := (if t.next ≥ t.lastBlock then none else some t') }
    if t.next ≥ t.lastBlock then
      let s := (s.claim 9).2
      if t'.failed = 0 then .next (s.finalReply t.cmd .ok 0 t'.payload)
      else .next (s.finalReply t.cmd .fault (min 0xFFFF t'.failed) t'.payload)
    else .next s

def bodyMemScrub : Body := fun c s =>
  let p := c.payload
  let t := byteAt p 0
  checked s
    [reservedPayload p [(0, 0xF8), (1, 0xFF), (2, 0xFF), (3, 0xFF)], outOfRange (t == 0) 0,
     (s.mem.scrubMask &&& t != 0, .err .stateConflict 0)]
    (s.modMem fun m => { m with scrubs := m.scrubs ++ [{ target := BitVec.ofNat 3 t, cmd := some c.id, start := s.now }] }, .running)

/-- MEM_SCRUB_COMPLETE (12 R433, 17 R568): single-bit errors are corrected, no sooner than 100.1 µs, one pass of 32,768 words. The pass after a
wake covers every retained memory. -/
def execMemScrubComplete (target : BitVec 3) (s : State) : Res :=
  match s.mem.scrubs.find? fun x => x.target == target with
  | none => .next s
  | some x =>
    if !s.fast || s.now < x.start + 1001 * 2 ^ 32 / 10000000 then .next s else
    let marks := s.mem.ecc.filter fun e => x.cmd.isNone || (decide (e.mem < 3) && target.toNat.testBit e.mem)
    let s := marks.foldl (fun s e => s.eccFound e e.addr) ((s.claim 9).2.modMem fun m => { m with scrubs := m.scrubs.filter fun y => y != x })
    .next (s.finalOption x.cmd .ok 0 (le 4 (marks.filter fun e => !e.double).length ++ le 4 (marks.filter (·.double)).length))

def nvSize : Nat := 1769472

def nvChecks (p : List Byte) : List (Bool × Ans) :=
  [reservedPayload p [(6, 0xFF), (7, 0xFF)], (decide (getLe p 4 2 > 4000), .err .lengthExceeds 20)]

def nvRange (p : List Byte) : List (Bool × Ans) :=
  [outOfRange (decide (getLe p 0 4 + getLe p 4 2 > nvSize)) 0, outOfRange (getLe p 4 2 == 0) 4]

def bodyMemNvRead : Body := fun c s =>
  let p := c.payload
  checked s (nvChecks p ++ nvRange p) (s, .okay (le 4 (getLe p 0 4) ++ s.mem.user.readN (getLe p 0 4) (getLe p 4 2)))

/-- Write counters of 4 KiB pages (17 R587). -/
def wearOf (w : List (Nat × Nat)) (page : Nat) : Nat := match w.find? fun x => x.1 == page with | none => 0 | some x => x.2

def bumpWear : List (Nat × Nat) → Nat → List (Nat × Nat)
  | [], page => [(page, 1)]
  | x :: r, page =>
    if x.1 = page then (page, sat32 x.2) :: r else if x.1 < page then x :: bumpWear r page else (page, 1) :: x :: r

def bodyMemNvWrite : Body := fun c s =>
  let p := c.payload
  let off := getLe p 0 4
  let n := getLe p 4 2
  let pages := (List.range ((off + n - 1) / 4096 + 1 - off / 4096)).map fun k => off / 4096 + k
  checked s
    (nvChecks p ++ [(p.length != 8 + n, .err .lengthInvalid (8 + n))] ++ nvRange p ++ [(s.pwr.lowSupply, .err .fault 1)])
    (s.modMem fun m => { m with user := m.user.writeN off (p.drop 8), wear := pages.foldl bumpWear m.wear }, .okay [])

def bodyMemNvWear : Body := fun c s =>
  let p := c.payload
  let first := getLe p 0 2
  let n := getLe p 2 2
  checked s [outOfRange (decide (first + n > 432 ∨ 431 < first)) 0]
    (s, .okay (le 2 first ++ le 2 n ++ (List.range n).flatMap fun k => le 4 (wearOf s.mem.wear (first + k))))

def execMemGetStatus (t : Txn) (s : State) : Res := hostCommand (opIs 0x0E00) bodyMemGetStatus t s
def execMemTestRun (t : Txn) (s : State) : Res := hostCommand (fun o p => o == 0x0E01 && byteAt p 2 != 1) bodyMemTestRun t s
def execMemTestStop (t : Txn) (s : State) : Res := hostCommand (opByte 0x0E01 2 1) bodyMemTestStop t s
def execMemScrub (t : Txn) (s : State) : Res := hostCommand (opIs 0x0E02) bodyMemScrub t s
def execMemNvRead (t : Txn) (s : State) : Res := hostCommand (opIs 0x0E03) bodyMemNvRead t s
def execMemNvWrite (t : Txn) (s : State) : Res := hostCommand (opIs 0x0E04) bodyMemNvWrite t s
def execMemNvWear (t : Txn) (s : State) : Res := hostCommand (opIs 0x0E05) bodyMemNvWear t s

/-! MON. -/

/-- MON_SET_COUNTER (12 R436). -/
def bodyMonSetCounter : Body := fun c s =>
  let p := c.payload
  let f := byteAt p 2
  checked s
    [reservedPayload p [(2, 0xF8), (3, 0xFF)], outOfRange (decide (byteAt p 0 > 15)) 0, outOfRange (decide (byteAt p 1 > 75)) 1]
    ({ s with pmon := { s.pmon with sets := s.pmon.sets ++ [⟨byteAt p 0, byteAt p 1, bit f 0, bit f 1, bit f 2⟩] } }, .okay [])

def bodyMonGetCounters : Body := query fun s =>
  let cs := s.pmon.counters
  le 2 (maskOf 16 fun k => (vget cs k).en) ++ le 2 (maskOf 16 fun k => (vget cs k).ovf) ++
    cs.toList.flatMap fun c => le 6 c.value.toNat ++ le 1 c.event.toNat ++ le 1 (bitsOf [(c.en, 0), (c.ovie, 1), (c.ovf, 2)])

def bodyMonGetRejects : Body := query fun s => s.interp.rejects.toList.flatMap (le 2)

/-- MON_GET_HEALTH (12 R439): temperature and VIN are measured when asked: free values (DESIGN CHOICE, log 42); VDDIO
as selected at stage 0 (21 R646). -/
def bodyMonGetHealth : Body := fun _ s =>
  let (k, s) := s.draw
  let (j, s) := s.draw
  let drops := ((List.range 8).map fun n => (vget s.rings (n + 8)).drops).sum
  (s, .okay (le 2 (Config.freeNat k) ++ le 2 (Config.freeNat j) ++ le 2 s.rlink.volts ++ le 1 (b2n s.pwr.vddio33) ++
    le 1 (min 255 s.pwr.pfWarnings) ++ le 4 ((s.now - s.interp.startDt) / second) ++ le 4 (min 0xFFFF_FFFF drops) ++
    le 4 s.mbx.discards ++ zeros 8))

def execMonSetCounter (t : Txn) (s : State) : Res := hostCommand (opIs 0x0F00) bodyMonSetCounter t s
def execMonGetCounters (t : Txn) (s : State) : Res := hostCommand (opIs 0x0F01) bodyMonGetCounters t s
def execMonGetRejects (t : Txn) (s : State) : Res := hostCommand (opIs 0x0F02) bodyMonGetRejects t s
def execMonGetHealth (t : Txn) (s : State) : Res := hostCommand (opIs 0x0F03) bodyMonGetHealth t s

/-! FW. -/

def fwEntry (i : ImageSlot) (active open_ : Bool) : List Byte :=
  le 1 (bitsOf [(i.valid, 0), (active, 1), (open_, 2)]) ++ zeros 3 ++ le 4 i.interp ++ le 4 i.customer ++ le 4 i.length ++ fit 32 i.sha

def bodyFwGetInfo : Body := query fun s =>
  let i := s.drumImages
  le 1 (b2n i.active) ++ zeros 3 ++ le 4 i.fused ++ fwEntry i.a (!i.active) (i.active && i.load.isSome) ++
    fwEntry i.b i.active (!i.active && i.load.isSome)

def bodyFwBegin : Body := fun c s =>
  let p := c.payload
  let n := getLe p 4 4
  checked s
    [outOfRange (decide (byteAt p 0 > 3)) 0, partLength 0 40 p.length, partReserved p,
     outOfRange (decide (n < 1 ∨ n > 1048576)) 4, openAlready s.drumImages.load 1]
    ({ s with drumImages := { s.drumImages.spoil with load := some { length := n, sha := (p.drop 8).take 32 } } }, .okay [])

def bodyFwData : Body := fun c s =>
  let p := c.payload
  checked s [partLength 1 40 p.length, partReserved p, notOpen s.drumImages.load 2, loadData s.drumImages.load p]
    ({ s with drumImages := { s.drumImages with load := s.drumImages.load.map fun l => l.put (getLe p 4 4) (p.drop 8) } }, .okay [])

def bodyFwCommit : Body := fun c s =>
  let p := c.payload
  checked s [partLength 2 40 p.length, partReserved p, notOpen s.drumImages.load 2]
    ({ s with drumImages := { s.drumImages with load := s.drumImages.load.map fun l => { l with check := some c.id } } }, .running)

def bodyFwCancel : Body := fun c s =>
  let p := c.payload
  checked s [partLength 3 40 p.length, partReserved p, notOpen s.drumImages.load 2]
    ({ s with drumImages := { s.drumImages with load := none } }, .okay [])

/-- FW_ACTIVATE (12 R442): after the reply the Drum resets and starts from the slot selected. -/
def bodyFwActivate : Body := fun c s =>
  let p := c.payload
  let b := byteAt p 0 == 1
  checked s
    [reservedPayload p [(1, 0xFF), (2, 0xFF), (3, 0xFF)],
     outOfRange (decide (byteAt p 0 > 1) || !(s.drumImages.slot b).valid) 0, (s.drumImages.load.isSome, .err .stateConflict 0)]
    ({ s with drumImages := { s.drumImages with active := b, trial := some 0 } }.planReset c 7 false true, .quiet)

def execFwGetInfo (t : Txn) (s : State) : Res := hostCommand (opIs 0x1000) bodyFwGetInfo t s
def execFwLoadBegin (t : Txn) (s : State) : Res := hostCommand (beginRow 0x1001) bodyFwBegin t s
def execFwLoadData (t : Txn) (s : State) : Res := hostCommand (opByte 0x1001 0 1) bodyFwData t s
def execFwLoadCommit (t : Txn) (s : State) : Res := hostCommand (opByte 0x1001 0 2) bodyFwCommit t s
def execFwLoadCancel (t : Txn) (s : State) : Res := hostCommand (opByte 0x1001 0 3) bodyFwCancel t s
def execFwActivate (t : Txn) (s : State) : Res := hostCommand (opIs 0x1002) bodyFwActivate t s

end Sys2Proof.Machine
end

