-- ==== Sys2Proof/Machine/Mmu.lean ====
section
/-! DEFINITION. The physical data space of the Drum masters with ECC (17 R559–R564), translation (R574–R576), the
protection windows (R577, R579) and the accesses of cores (15 R513, R514, R531, R532). -/

namespace Sys2Proof.Machine

/-- A trap: cause, detail and TADDR (15 R533). -/
structure Trap where
  cause : Nat
  detail : Nat
  addr : Word
  deriving DecidableEq, Repr

/-- Why a physical access fails: uncorrectable error, or unassigned address or a write to the boot ROM (17 R562). -/
inductive PhysFault where
  | uncorrectable
  | unassigned
  deriving DecidableEq, Repr

/-! Physical memory. -/

/-- A location of the physical space: the memory's ECC number (0 Drum SRAM, 1 Dome SRAM, which only the Dome reaches, 2 Lantern SRAM, 3 mailbox RAM, 4 MRAM user
area, 5 boot ROM) and the offset; `alias_` 1 bit-set, 2 bit-clear (17 R559, R564). -/
structure Place where
  mem : Nat
  off : Nat
  alias_ : Nat := 0
  deriving DecidableEq, Repr

def placeOf (pa : Nat) : Option Place :=
  if pa < 0x400000 then some ⟨0, pa, 0⟩
  else if 0x10000000 ≤ pa ∧ pa < 0x10010000 then some ⟨3, pa - 0x10000000, 0⟩
  else if 0x11000000 ≤ pa ∧ pa < 0x11008000 then some ⟨2, pa - 0x11000000, 0⟩
  else if 0x12000000 ≤ pa ∧ pa < 0x12000000 + nvSize then some ⟨4, pa - 0x12000000, 0⟩
  else if 0x1F000000 ≤ pa ∧ pa < 0x1F010000 then some ⟨5, pa - 0x1F000000, 0⟩
  else if 0x20000000 ≤ pa ∧ pa < 0x20400000 then some ⟨0, pa - 0x20000000, 1⟩
  else if 0x30000000 ≤ pa ∧ pa < 0x30400000 then some ⟨0, pa - 0x30000000, 2⟩
  else none

def State.placeBytes (s : State) (m : Nat) : Bytes :=
  if m = 0 then s.mem.sram else if m = 1 then s.mem.dome else if m = 2 then s.mem.lantern else if m = 3 then s.mem.mailbox else s.mem.user

def State.setPlaceBytes (s : State) (m : Nat) (b : Bytes) : State :=
  s.modMem fun k =>
    if m = 0 then { k with sram := b } else if m = 1 then { k with dome := b } else if m = 2 then { k with lantern := b } else if m = 3 then { k with mailbox := b }
    else { k with user := b }

/-- Offset of byte `k` of a boot ROM word in the word. -/
def wordByte (w : Word) (k : Nat) : Byte := (w >>> (8 * k)).setWidth 8

def State.readPlace (s : State) (p : Place) (n : Nat) : List Byte :=
  if p.mem = 5 then (List.range n).map fun k => wordByte (Config.bootRom ((p.off + k) / 4)) ((p.off + k) % 4)
  else (s.placeBytes p.mem).readN p.off n

/-- The check bits of the word read (17 R561): an uncorrectable error fails the access. -/
def State.eccCheck (s : State) (p : Place) (pa : Nat) : State × Bool :=
  match s.mem.ecc.find? fun e => e.mem == p.mem && e.word == p.off / 4 with
  | none => (s, true)
  | some e => (s.eccFound e pa, !e.double)

/-- A load of `n` bytes that lie in one word of a place. -/
def State.loadPlace (s : State) (p : Place) (pa n : Nat) : State × Except PhysFault Nat :=
  let (s, ok) := s.eccCheck p pa
  if ok then (s, .ok (ofLe (s.readPlace p n))) else (s, .error .uncorrectable)

/-- A load of `n` bytes that lie in one word. -/
def State.physRead (s : State) (pa n : Nat) : State × Except PhysFault Nat :=
  match placeOf pa with
  | none => (s, .error .unassigned)
  | some p => s.loadPlace p pa n

/-- What an alias store leaves of the old bytes (17 R564). -/
def aliasByte (kind : Nat) (old new : Byte) : Byte := if kind = 1 then old ||| new else if kind = 2 then old &&& ~~~new else new

/-- A store of bytes that lie in one word of a place: a partial or alias store reads the word first (17 R561, R564). -/
def State.storePlace (s : State) (p : Place) (pa : Nat) (bs : List Byte) : State × Except PhysFault Unit :=
  if p.mem = 5 then (s, .error .unassigned) else
  let whole := bs.length == 4 && p.alias_ == 0
  let (s, ok) := if whole then (s.modMem fun m => { m with ecc := m.ecc.filter fun e => !(e.mem == p.mem && e.word == p.off / 4) }, true)
    else s.eccCheck p pa
  if !ok then (s, .error .uncorrectable) else
  let old := s.readPlace p bs.length
  let s := s.setPlaceBytes p.mem ((s.placeBytes p.mem).writeN p.off ((old.zip bs).map fun x => aliasByte p.alias_ x.1 x.2))
  let s := if p.mem = 4 then (s.modMem fun m => { m with wear := bumpWear m.wear (p.off / 4096) }).count 74 else s
  (if p.alias_ != 0 then s.count 42 else s, .ok ())

/-- A store of bytes that lie in one word. -/
def State.physWrite (s : State) (pa : Nat) (bs : List Byte) : State × Except PhysFault Unit :=
  match placeOf pa with
  | none => (s, .error .unassigned)
  | some p => s.storePlace p pa bs

/-! Translation. -/

/-- Results of a translation that fails: false a translation fault, true a page-permission fault; or an uncorrectable
error in the walk. -/
inductive WalkFault where
  | translation
  | permission
  | uncorrectable
  deriving DecidableEq, Repr

def State.modMmu (s : State) (n : Nat) (f : Mmu → Mmu) : State := { s with mmus := vmod s.mmus n f }

def Mmu.lookup (m : Mmu) (vpn : BitVec 20) : Option TlbEntry :=
  m.tlb.find? fun e => e.vpn == vpn && (e.global || e.asid == m.asid)

def TlbEntry.permits (e : TlbEntry) (priv : Nat) (write : Bool) : Bool := decide (priv ≤ e.pl.toNat) && (!write || e.writable)

/-- Entries of a core's TLB, and of the DMA's (17 R575). -/
def tlbSize (n : Nat) : Nat := if n = 3 then 32 else 64

/-- A new entry; a full TLB gives up the entry that pseudo-LRU names (DESIGN CHOICE, log 6). -/
def State.tlbInsert (s : State) (n : Nat) (e : TlbEntry) : State :=
  let m := vget s.mmus n
  if m.tlb.length < tlbSize n then s.modMmu n fun m => { m with tlb := m.tlb ++ [e] }
  else
    let (k, s) := s.draw
    s.modMmu n fun m => { m with tlb := m.tlb.eraseIdx (Config.tlbVictim k % tlbSize n) ++ [e] }

/-- A word of a table, which must lie in Drum SRAM (17 R574). -/
def State.tableWord (s : State) (page index : Nat) : State × Except WalkFault Nat :=
  if page ≥ 0x400 then (s, .error .translation) else
  match s.physRead (page * 4096 + index * 4) 4 with
  | (s, .ok v) => (s, .ok v)
  | (s, .error _) => (s, .error .uncorrectable)

/-- The table walk (17 R574). -/
def State.walk (s : State) (n va : Nat) : State × Except WalkFault TlbEntry :=
  let m := vget s.mmus n
  match s.tableWord m.root.toNat (va / 2 ^ 22) with
  | (s, .error e) => (s, .error e)
  | (s, .ok l1) =>
    if l1 % 2 = 0 ∨ l1 / 2 % 2048 ≠ 0 then (s, .error .translation) else
    match s.tableWord (l1 / 4096) (va / 4096 % 1024) with
    | (s, .error e) => (s, .error e)
    | (s, .ok l2) =>
      if l2 % 2 = 0 ∨ l2 / 32 % 128 ≠ 0 ∨ l2 / 4 % 4 = 3 then (s, .error .translation)
      else (s, .ok { vpn := BitVec.ofNat 20 (va / 4096), asid := m.asid, global := bit l2 4, ppn := BitVec.ofNat 20 (l2 / 4096),
                     writable := bit l2 1, pl := BitVec.ofNat 2 (l2 / 4) })

/-- Virtual to physical (17 R574, R575); a walk that ends in a fault leaves no entry. -/
def State.translate (s : State) (n va priv : Nat) (write : Bool) : State × Except WalkFault Nat :=
  let m := vget s.mmus n
  if !m.en then (s, .ok va) else
  let pa (e : TlbEntry) : Nat := e.ppn.toNat * 4096 + va % 4096
  match m.lookup (BitVec.ofNat 20 (va / 4096)) with
  | some e => if e.permits priv write then (s, .ok (pa e)) else (s, .error .permission)
  | none =>
    match (s.count (8 + n)).walk n va with
    | (s, .error e) => (s, .error e)
    | (s, .ok e) => if e.permits priv write then (s.tlbInsert n e, .ok (pa e)) else (s, .error .permission)

/-! Protection windows. -/

/-- Kinds of access that a window grants. -/
inductive Kind where
  | load
  | store
  | fetch
  deriving DecidableEq, Repr

def Window.grants (w : Window) : Kind → Bool
  | .load => w.r
  | .store => w.w
  | .fetch => w.x

def Window.covers (w : Window) (pa : Nat) : Bool :=
  w.en && decide (w.base.toNat * 64 ≤ pa) && decide (pa ≤ w.limit.toNat * 64 + 63)

/-- The address on which windows are judged: alias accesses on the Drum SRAM address (17 R564). -/
def windowAddr (pa : Nat) : Nat :=
  match placeOf pa with
  | some p => if p.alias_ != 0 then p.off else pa
  | none => pa

def State.allowed (s : State) (m pa priv : Nat) (k : Kind) : Bool :=
  let r := vget s.masters m
  !r.en || match r.windows.toList.find? fun w => w.covers (windowAddr pa) with
    | none => false
    | some w => w.grants k && decide (priv ≤ w.maxPriv.toNat)

/-! Cores. -/

def State.core (s : State) (c : Nat) : Core := vget s.cores c
def State.modCore (s : State) (c : Nat) (f : Core → Core) : State := { s with cores := vmod s.cores c f }

def Core.bare (k : Core) : Bool := k.sr.getLsbD 9

/-- The privilege at which a core runs: 0 in Bare mode (15 R517). -/
def Core.priv (k : Core) : Nat := if k.bare then 0 else k.sr.toNat % 4

/-- A page-fault trap: detail bit 0 a write, bit 1 protection (15 R533, 17 R562). -/
def pageFault (va : Word) (write prot : Bool) : Trap := ⟨8, b2n write + 2 * b2n prot, va⟩

/-- The physical address of a Drum core's access, or its trap (17 R562, R574, R577). -/
def State.corePhys (s : State) (c : Nat) (va : Word) (k : Kind) : State × Except Trap Nat :=
  let core := s.core c
  let write := k == .store
  if core.bare then (s, .ok va.toNat) else
  match s.translate c va.toNat core.priv write with
  | (s, .error .translation) => (s, .error (pageFault va write false))
  | (s, .error .permission) => (s, .error (pageFault va write true))
  | (s, .error .uncorrectable) => (s, .error (pageFault va write true))
  | (s, .ok pa) => if s.allowed c pa core.priv k then (s, .ok pa) else (s, .error (pageFault va write true))

/-- The linear address of a data access, with the checks of alignment and segment limit (15 R514, R532, R533). -/
def State.linear (s : State) (c : Nat) (ea : Word) (size : Nat) : Except Trap Word :=
  let core := s.core c
  let seg := core.sr.getLsbD 8 && !core.bare && decide (c < 3)
  let n := ea.toNat / 2 ^ 30
  let off := ea.toNat % 2 ^ 30
  let la := if seg then vget core.segBase n + BitVec.ofNat 32 off else ea
  if la.toNat % size ≠ 0 then .error ⟨6, size, la⟩
  else if seg && decide (off + size - 1 > (vget core.segLimit n).toNat) then .error ⟨7, n, ea⟩
  else .ok la

/-- A core's load of 1, 2 or 4 bytes at an effective address. Dome pairs use physical Dome addresses (15 R542). -/
def State.coreLoad (s : State) (c : Nat) (ea : Word) (size : Nat) : State × Except Trap Nat :=
  let done (la : Word) (r : State × Except PhysFault Nat) : State × Except Trap Nat :=
    match r with
    | (s, .ok v) => (s, .ok v)
    | (s, .error _) => (s, .error (pageFault la false true))
  match s.linear c ea size with
  | .error t => (s, .error t)
  | .ok la =>
    if c ≥ 3 then done la (s.loadPlace ⟨1, la.toNat, 0⟩ la.toNat size) else
    match s.corePhys c la .load with
    | (s, .error t) => (s, .error t)
    | (s, .ok pa) => done la (s.physRead pa size)

/-- A core's store. -/
def State.coreStore (s : State) (c : Nat) (ea : Word) (size : Nat) (v : Word) : State × Except Trap Unit :=
  let done (la : Word) (r : State × Except PhysFault Unit) : State × Except Trap Unit :=
    match r with
    | (s, .ok _) => (s, .ok ())
    | (s, .error _) => (s, .error (pageFault la true true))
  match s.linear c ea size with
  | .error t => (s, .error t)
  | .ok la =>
    if c ≥ 3 then done la (s.storePlace ⟨1, la.toNat, 0⟩ la.toNat (le size v.toNat)) else
    match s.corePhys c la .store with
    | (s, .error t) => (s, .error t)
    | (s, .ok pa) => done la (s.physWrite pa (le size v.toNat))

/-- The fetch trap at an address, if any: privilege, detail FETCH (15 R513, R517, 17 R562, R577). -/
def State.fetchTrap (s : State) (c : Nat) (pc : BitVec 24) : State × Option Trap :=
  let core := s.core c
  let w := pc.toNat
  let trap : Option Trap := some ⟨2, 1, pc.setWidth 32⟩
  let rom := decide (0xFF0000 ≤ w) && decide (w < 0xFF4000)
  if core.bare then (s, if rom then none else trap)
  else if c ≥ 3 then (s, none)
  else if rom then (s, if s.allowed c (0x1F000000 + 4 * (w - 0xFF0000)) core.priv .fetch then none else trap)
  else if w < 0x100000 then
    if s.allowed c (4 * w) core.priv .fetch then
      let (s, ok) := s.eccCheck ⟨0, 4 * w, 0⟩ (4 * w)
      (s, if ok then none else trap)
    else (s, trap)
  else (s, trap)

end Sys2Proof.Machine
end

