-- ==== Sys2Proof/Machine/IoRegs.lean ====
section
/-! DEFINITION. The loading of DMA descriptors (17 R580, R583), and the I/O space of the Drum: what an IN reads and an
OUT writes, register by register (15 R515, R539, R541, 17 R570, R573, R576, R579, R585 and the maps of the other
chapters). -/

namespace Sys2Proof.Machine

/-! DMA transactions on the data side. -/

def State.modDma (s : State) (n : Nat) (f : DmaChannel → DmaChannel) : State :=
  { s with dma := { s.dma with channels := vmod s.dma.channels n f } }

def State.dmaCh (s : State) (n : Nat) : DmaChannel := vget s.dma.channels n

/-- The physical address of a transaction of channel `n`, or its FAULT code (17 R574, R577, R583). -/
def State.dmaPhys (s : State) (n va : Nat) (write : Bool) : State × Except Nat Nat :=
  let c := s.dmaCh n
  let r := if c.xlate then s.translate 3 va c.priv.toNat write else (s, .ok va)
  match r with
  | (s, .error .translation) => (s, .error 1)
  | (s, .error .permission) => (s, .error 2)
  | (s, .error .uncorrectable) => (s, .error 4)
  | (s, .ok pa) => if s.allowed 3 pa c.priv.toNat (if write then .store else .load) then (s, .ok pa) else (s, .error 3)

def PhysFault.dmaCode : PhysFault → Nat
  | .uncorrectable => 4
  | .unassigned => 6

/-- A read of `size` bytes on the data side. -/
def State.dmaRead (s : State) (n va size : Nat) : State × Except Nat Nat :=
  match s.dmaPhys n va false with
  | (s, .error e) => (s, .error e)
  | (s, .ok pa) =>
    match s.physRead pa size with
    | (s, .ok v) => (s, .ok v)
    | (s, .error f) => (s, .error f.dmaCode)

/-- A write of bytes on the data side. -/
def State.dmaWrite (s : State) (n va : Nat) (bs : List Byte) : State × Except Nat Unit :=
  match s.dmaPhys n va true with
  | (s, .error e) => (s, .error e)
  | (s, .ok pa) =>
    match s.physWrite pa bs with
    | (s, .ok _) => (s, .ok ())
    | (s, .error f) => (s, .error f.dmaCode)

/-- A fault stops the channel and releases the engine (17 R583). -/
def State.dmaFault (s : State) (n code side addr : Nat) : State :=
  (s.modDma n fun c =>
    { c with state := .faulted, fault := BitVec.ofNat 4 code, fside := BitVec.ofNat 2 side, faddr := BitVec.ofNat 32 addr,
             faultF := true }).count 39

/-- The words of a block of data space, one transaction. -/
def State.dmaBlock (s : State) (n va : Nat) : Nat → State × Except Nat (List Byte)
  | 0 => (s, .ok [])
  | k + 1 =>
    match s.dmaRead n va 4 with
    | (s, .error e) => (s, .error e)
    | (s, .ok v) =>
      match s.dmaBlock n (va + 4) k with
      | (s, .error e) => (s, .error e)
      | (s, .ok bs) => (s, .ok (le 4 v ++ bs))

def parseDescriptor (b : List Byte) : Descriptor :=
  let fl := byteAt b 10
  { src := BitVec.ofNat 32 (getLe b 0 4), dst := BitVec.ofNat 32 (getLe b 4 4)
    count := if getLe b 8 2 = 0 then 65536 else getLe b 8 2
    esize := 2 ^ (fl % 4), srcIo := bit fl 2, dstIo := bit fl 3, last := bit fl 4, wb := bit fl 5, irq := bit fl 6
    req := byteAt b 11, sstride := getLeInt b 12 2, dstride := getLeInt b 14 2, next := BitVec.ofNat 32 (getLe b 16 4) }

/-- Code 8: a reserved field, ESIZE 3 or a reserved REQ. With WB the engine itself writes bytes 24–31. -/
def descriptorReserved (b : List Byte) : Bool :=
  let fl := byteAt b 10
  bit fl 7 || fl % 4 == 3 || decide (byteAt b 11 > 18) || (!bit fl 5 && getLe b 24 8 != 0)

/-- Code 5: the side (1 source, 2 destination) whose address or stride is not a multiple of the element size. -/
def Descriptor.misaligned (d : Descriptor) : Option Nat :=
  if !d.srcIo && (d.src.toNat % d.esize != 0 || d.sstride % (d.esize : Int) != 0) then some 1
  else if !d.dstIo && (d.dst.toNat % d.esize != 0 || d.dstride % (d.esize : Int) != 0) then some 2
  else none

/-- Loads the descriptor at `addr`: DONE returns to 0 (17 R583, R584). -/
def State.dmaLoad (s : State) (n addr : Nat) : State :=
  let s := s.modDma n fun c =>
    { c with addr := BitVec.ofNat 27 (addr / 32), desc := none, k := 0, doneBytes := 0, held := none, state := .waiting }
  if addr % 32 ≠ 0 then s.dmaFault n 5 0 addr else
  match s.dmaBlock n addr 8 with
  | (s, .error e) => s.dmaFault n e 0 addr
  | (s, .ok b) =>
    if descriptorReserved b then s.dmaFault n 8 0 addr else
    let d := parseDescriptor b
    match d.misaligned with
    | some 1 => s.dmaFault n 5 1 d.src.toNat
    | some _ => s.dmaFault n 5 2 d.dst.toNat
    | none => s.modDma n fun c => { c with desc := some d }

/-- RESUME (17 R584): the channel runs again and retries the faulting transaction; a fault of the descriptor's own loading
loads it again. -/
def State.dmaResume (s : State) (n : Nat) : State :=
  let c := s.dmaCh n
  match c.desc with
  | none => s.dmaLoad n (c.addr.toNat * 32)
  | some _ => s.modDma n fun c => { c with state := .waiting }

/-- ABORT (17 R584). -/
def State.dmaAbort (s : State) (n : Nat) : State :=
  if (s.dmaCh n).state == .idle then s
  else s.modDma n fun c => { c with state := .idle, held := none, desc := none, k := 0, abortedF := true }

/-! The I/O space. -/

/-- Why an IN or OUT faults: TCAUSE detail 1, 2, 3 (15 R533). -/
inductive IoFault where
  | unassigned
  | reserved
  | rejected
  deriving DecidableEq, Repr

def IoFault.detail : IoFault → Nat
  | .unassigned => 1
  | .reserved => 2
  | .rejected => 3

/-- A block's answer to a read: none where the address is unassigned. -/
abbrev IoRead := Option (State × Nat)
abbrev IoWrite := Except IoFault State

/-- SYS and AON (20 R633, 19 R621, 03 R97, R98, 21 R648, 18 R608). -/
def State.readAon (s : State) (a : Nat) : IoRead :=
  if a = 0x0000 then some (s, Config.sysIdent.toNat)
  else if a = 0x0001 then some (s, s.boot.srcDrum + s.boot.srcD1 * 256 + s.boot.srcD2 * 65536)
  else if a = 0x0110 then
    some ({ s with clk := { s.clk with latchS := BitVec.ofNat 32 (s.now / 2 ^ 32), latchTick := s.clk.tick } }, s.now % 2 ^ 32)
  else if a = 0x0111 then some (s, s.clk.latchS.toNat)
  else if a = 0x0112 then some (s, s.clk.latchTick % 2 ^ 32)
  else if a = 0x0113 then some (s, s.clk.latchTick / 2 ^ 32 % 2 ^ 32)
  else if a = 0x0114 then some (s, s.clk.epoch)
  else if a = 0x0120 then some (s, s.pwr.pfThresh + bitsOf [(s.pwr.lowSupply, 16)])
  else if 0x0130 ≤ a ∧ a < 0x0140 then
    let t := vget s.ltimers ((a - 0x0130) / 4)
    some (s, if a % 4 = 0 then t.mode.toNat + bitsOf [(t.expired, 2)]
      else if a % 4 = 1 then t.tgtF.toNat else if a % 4 = 2 then t.tgtS.toNat else t.period.toNat)
  else none

/-- PWR (18 R606). -/
def State.readPwr (s : State) (a : Nat) : IoRead :=
  let p := s.pwr
  if a = 0x0200 then some (s, 0)
  else if a = 0x0201 then some (s, p.stat)
  else if a = 0x0202 then some (s, p.veto.toNat + bitsOf [(p.autoIdle, 3)] + p.inten.toNat * 16)
  else if a = 0x0203 then some (s, p.wakeEn.toNat)
  else if a = 0x0204 then
    some (s, p.wakeSource % 32 + p.wakeFrom * 32 + bitsOf [(p.wakeFlags.getLsbD 0, 8), (p.wakeFlags.getLsbD 3, 9)])
  else if a = 0x0205 then some (s, p.wakeDt % 2 ^ 32)
  else if a = 0x0206 then some (s, p.wakeDt / 2 ^ 32)
  else none

/-- Drum timers and watchdogs (15 R541, 19 R630). -/
def State.readTim (s : State) (a : Nat) : IoRead :=
  if a < 0x0310 then
    let t := vget s.timers ((a - 0x0300) / 4)
    if a % 4 = 0 then some (s, bitsOf [(t.en, 0), (t.periodic, 1), (t.ie, 2)])
    else if a % 4 = 1 then some (s, t.cmp.toNat)
    else if a % 4 = 2 then some (s, t.period.toNat)
    else none
  else if a = 0x0310 then
    some (s, maskOf 4 (fun t => (vget s.timers t).expired) + maskOf 4 (fun t => (vget s.timers t).missed) * 16)
  else if 0x0340 ≤ a ∧ a < 0x0346 then
    let w := vget s.wdts ((a - 0x0340) / 2)
    some (s, if a % 2 = 0 then bitsOf [(w.en, 0), (w.lock, 1)] + w.period.toNat * 4 else 0)
  else if a = 0x0346 then some (s, maskOf 3 fun n => (vget s.wdts n).expired)
  else none

/-- A read of a counting RC field that held `old` at the start of the tick leaves what the tick has added (00 R7). -/
def added (now old : Nat) : Nat := now - old

/-- MBX (17 R570). -/
def State.readMbx (s : State) (a : Nat) : IoRead :=
  let m := s.mbx
  if a = 0x0400 then some (s, bitsOf [(m.dbIn, 0), (m.dbOut, 1), (m.collide, 2), (m.collIe, 3)])
  else if a = 0x0401 then some (s, m.word.toNat + m.lanes.toNat * 2 ^ 14)
  else if a = 0x0402 then
    some ({ s with mbx := { m with count := added m.count s.start.collisions }, start := { s.start with collisions := 0 } },
      s.start.collisions)
  else none

def Ring.cfg (r : Ring) : Nat :=
  r.sizeLog2.toNat + bitsOf [(r.en, 4), (r.side, 5), (r.full, 6)] + r.thresh.toNat * 128

/-- RING (11 R399, R400, R403). -/
def State.readRing (s : State) (a : Nat) : IoRead :=
  if a = 0x0880 then some (s, s.ringStat)
  else if a < 0x0880 then
    let n := (a - 0x0800) / 8
    let r := vget s.rings n
    let seq := if (4 ≤ n ∧ n ≤ 7) ∨ n = 15 then 0 else r.next % 65536
    if a % 8 = 0 then some (s, r.base.toNat * 64)
    else if a % 8 = 1 then some (s, r.cfg)
    else if a % 8 = 2 then some (s, r.prod.toNat)
    else if a % 8 = 3 then some (s, r.cons.toNat)
    else if a % 8 = 4 then some (s, seq + r.pending * 65536)
    else if a % 8 = 5 then
      let d := vget s.start.drops n
      some ({ s with start := { s.start with drops := vset s.start.drops n 0 } }.modRing n fun r => { r with drops := added r.drops d }, d)
    else none
  else none

/-- HLK and CHN (13 R453, R473). -/
def State.readLink (s : State) (a : Nat) : IoRead :=
  let h := s.hport
  if a = 0x0A00 then some (s, bitsOf [(h.en, 0)] + h.crxThresh.toNat * 2)
  else if a = 0x0A01 then some (s, h.stat)
  else if a = 0x0A02 then some (s, h.inten.toNat + bitsOf [(h.ringThr, 5)])
  else if a = 0x0A03 then some (s, s.chain.crxWords)
  else if a = 0x0B00 then some (s, s.chnStat)
  else if a = 0x0B01 then some (s, s.chain.flags + s.chain.downHold.toNat * 65536)
  else none

/-- DMA (17 R585). -/
def State.readDma (s : State) (a : Nat) : IoRead :=
  if a = 0x0C80 then
    some (s, maskOf 16 (fun n => (s.dmaCh n).state != .idle) + s.dma.owner % 16 * 65536 +
      bitsOf [(s.dma.channels.toList.any fun c => c.state == .active, 20)])
  else if a < 0x0C80 then
    let c := s.dmaCh ((a - 0x0C00) / 8)
    if a % 8 = 0 then some (s, c.prio.toNat * 8 + c.priv.toNat * 32 + bitsOf [(c.xlate, 7)] + c.ie.toNat * 256)
    else if a % 8 = 1 then some (s, c.addr.toNat * 32)
    else if a % 8 = 2 then some (s, c.doneBytes)
    else if a % 8 = 3 then some (s, c.faddr.toNat)
    else if a % 8 = 4 then some (s, c.stat)
    else none
  else none

/-- MMU and PROT (17 R576, R579). -/
def State.readMmu (s : State) (a : Nat) : IoRead :=
  if a < 0x1010 then
    let m := vget s.mmus ((a - 0x1000) / 4)
    if a % 4 = 0 then some (s, bitsOf [(m.en, 0)] + m.asid.toNat * 256)
    else if a % 4 = 1 then some (s, m.root.toNat * 4096)
    else if a % 4 = 2 then some (s, 0)
    else none
  else if a < 0x1014 then some (s, b2n (vget s.masters (a - 0x1010)).en)
  else if 0x1100 ≤ a ∧ a < 0x1200 then
    let w := vget (vget s.masters ((a - 0x1100) / 64)).windows ((a - 0x1100) % 64 / 2)
    some (s, if a % 2 = 0 then w.base.toNat * 64
      else bitsOf [(w.en, 0), (w.r, 1), (w.w, 2), (w.x, 3)] + w.maxPriv.toNat * 16 + w.limit.toNat * 64)
  else none

/-- MEM (17 R573). -/
def State.readMem (s : State) (a : Nat) : IoRead :=
  let m := s.mem
  if a = 0x1400 then some (s, m.lostDrum.toNat)
  else if a = 0x1401 then
    some (s, m.lostDome.toNat + m.lostCluster.toNat * 65536 + bitsOf [(m.lostEasel, 20), (m.lostLantern, 21), (m.lostMbx, 22)])
  else if a = 0x1402 then some (s, m.stat)
  else if a = 0x1403 then some (s, m.errAddr.toNat)
  else if a = 0x1404 then some (s, m.repair.drumSpare.toNat)
  else if a = 0x1405 then some (s, m.repair.domeSpare.toNat + m.repair.domeExcess.toNat * 65536)
  else if a = 0x1406 then some (s, m.inten.toNat + m.repair.drumExcess.toNat % 2 ^ 28 * 16)
  else none

/-- UARTn_CFG, UARTn_CTRL as read (14 R492). -/
def Uart.cfg (u : Uart) (n : Nat) : Nat :=
  u.line.format + bitsOf [(u.rxen, 7), (u.txen, 8), (u.wake, 9)] +
    (if n = 7 then bitsOf [(u.line.slow, 10)] + u.line.slowRate.toNat * 2048 else 0)

/-- UART (14 R492). An IN from RXD pops the oldest entry. -/
def State.readUart (s : State) (a : Nat) : IoRead :=
  let n := (a - 0x1800) / 64
  let u := vget s.uarts n
  if n = 6 then none
  else if a % 64 = 0 then some (s, u.cfg n)
  else if a % 64 = 1 then some (s, u.line.div.toNat + (if n = 7 then 0 else u.line.frac.toNat * 65536))
  else if a % 64 = 2 then some (s, 0)
  else if a % 64 = 3 then
    match u.rx with
    | [] => some (s, 0)
    | e :: r => some (s.modUart n fun u => { u with rx := r, popDt := e.dt }, e.bits.toNat + 2 ^ 31)
  else if a % 64 = 4 then some (s, u.popDt % 2 ^ 32)
  else if a % 64 = 5 then some (s, u.popDt / 2 ^ 32)
  else if a % 64 = 6 then some (s, u.stat)
  else if a % 64 = 7 then some (s, u.rxThresh.toNat + u.txThresh.toNat * 256 + u.inten.toNat * 65536)
  else if a % 64 = 8 then some (s, u.brkLen.toNat)
  else none

/-- CAN (14 R501). -/
def State.readCan (s : State) (a : Nat) : IoRead :=
  let c := vget s.cans ((a - 0x1A00) / 256)
  let r := a % 256
  if r = 0 then some (s, bitsOf [(c.en, 0), (c.fd, 1), (c.autoRecover, 4), (c.wake, 5), (c.tdc, 6)] + c.mode.toNat * 4)
  else if r = 1 then some (s, c.nbt.toNat)
  else if r = 2 then some (s, c.dbt.toNat)
  else if r = 3 then some (s, c.rxBase.toNat + c.rxLog2.toNat * 65536)
  else if r = 4 then some (s, c.txBase.toNat + c.txLog2.toNat * 65536)
  else if r = 5 then some (s, c.rxProd.toNat)
  else if r = 6 then some (s, c.rxCons.toNat)
  else if r = 7 then some (s, c.txProd.toNat)
  else if r = 8 then some (s, c.txCons.toNat)
  else if r = 9 then some (s, c.stat)
  else if r = 10 then some (s, c.inten.toNat)
  else if 0x40 ≤ r ∧ r < 0x80 then
    let f := vget c.filters ((r - 0x40) / 2)
    some (s, if r % 2 = 0 then f.id.toNat + bitsOf [(f.ide, 29), (f.en, 30)] else f.mask.toNat)
  else none

/-- EVT (03 R105) and PMON (20 R636). -/
def State.readEvt (s : State) (a : Nat) : IoRead :=
  if a < 0x1C04 then some (s, (vget s.evt (a - 0x1C00)).cfg)
  else if a = 0x1C04 then
    some ({ s with evt := Vector.zipWith (fun e d => { e with merged := added e.merged d }) s.evt s.start.merged
                   start := { s.start with merged := Vector.replicate 4 0 } },
      (s.start.merged.toList.map (min 255)).foldr (fun x a => x + 256 * a) 0)
  else if a = 0x1C05 then some (s, maskOf 4 (fun n => (vget s.evt n).pend) + maskOf 4 (fun n => (vget s.evt n).ie) * 16)
  else none

def State.readPmon (s : State) (a : Nat) : IoRead :=
  if a < 0x1E40 then
    let n := (a - 0x1E00) / 4
    let c := vget s.pmon.counters n
    if a % 4 = 0 then some (s, c.event.toNat + bitsOf [(c.en, 8), (c.ovie, 9)])
    else if a % 4 = 1 then
      let latch (k : PerfCounter) : PerfCounter := { k with high := BitVec.ofNat 16 (k.value.toNat / 2 ^ 32) }
      some ({ s with pmon := { s.pmon with counters := vmod s.pmon.counters n latch } }, c.value.toNat % 2 ^ 32)
    else if a % 4 = 2 then some (s, c.high.toNat)
    else none
  else if a = 0x1E40 then some (s, maskOf 16 fun n => (vget s.pmon.counters n).ovf)
  else if a = 0x1E41 then some (s, bitsOf [(s.pmon.freeze, 0), (s.pmon.freezeOnOvf, 1)])
  else none

/-- A claim of core `n`: the highest-priority pending source routed to it becomes ACTIVE; 63 none (15 R539). -/
def State.claimSource (s : State) (n : Nat) : State × Nat :=
  match s.offered n 0 with
  | none => (s, 63)
  | some k => ({ s with intc := vmod s.intc k fun r => { r with active := true } }, k)

/-- INTC (15 R539). -/
def State.readIntc (s : State) (a : Nat) : IoRead :=
  if a < 0x2040 then
    let n := a - 0x2000
    let r := vget s.intc n
    some (s, r.prio.toNat + r.core.toNat * 16 + bitsOf [(s.pend n, 8), (r.active, 9), (r.swset, 10)])
  else if a < 0x2043 then some (s.claimSource (a - 0x2040))
  else if 0x2044 ≤ a ∧ a < 0x2047 then some (s, 0)
  else none

/-- RLINK (18 R607). -/
def State.readRlink (s : State) (a : Nat) : IoRead :=
  let r := s.rlink
  if a = 0x3000 then
    let c := r.cfg
    some (s, c.addr.toNat + bitsOf [(c.pec, 7)] + c.page.toNat * 256 + c.ackSrc.toNat * 65536 + c.timeout.toNat * 2 ^ 18)
  else if a = 0x3001 then
    some (s, r.state + r.n.toNat * 4 + bitsOf [(r.pgood, 7)] + r.status.toNat * 256 + min 255 r.faults * 2 ^ 24)
  else if a = 0x3002 then some (s, r.vFull + r.vRun * 65536)
  else if a = 0x3003 then some (s, r.vBare)
  else none

/-- The I/O map by block. -/
def State.readBlock (s : State) (a : Nat) : IoRead :=
  if a < 0x0200 then s.readAon a
  else if a < 0x0300 then s.readPwr a
  else if a < 0x0400 then s.readTim a
  else if a < 0x0800 then s.readMbx a
  else if a < 0x0A00 then s.readRing a
  else if a < 0x0C00 then s.readLink a
  else if a < 0x1000 then s.readDma a
  else if a < 0x1400 then s.readMmu a
  else if a < 0x1800 then s.readMem a
  else if a < 0x1A00 then s.readUart a
  else if a < 0x1C00 then s.readCan a
  else if a < 0x1E00 then s.readEvt a
  else if a < 0x2000 then s.readPmon a
  else if a < 0x3000 then s.readIntc a
  else s.readRlink a

/-- What an I/O read of word address `a` returns (R10). -/
def State.ioRead (s : State) (a : Nat) : State × Except IoFault Word :=
  match s.readBlock a with
  | none => (s, .error .unassigned)
  | some (s, v) => (s, .ok (BitVec.ofNat 32 v))

/-! Writes. A write-one-to-clear field: the old bits and not the written ones. -/

def w1c (old : Bool) (v i : Nat) : Bool := old && !bit v i

/-- The registers with W1C fields, and those fields as a mask. -/
def w1cFields : List (Nat × Nat) :=
  [(0x0201, 7 * 2 ^ 24), (0x0310, 0xFF), (0x0346, 7), (0x0400, 5), (0x0880, 0xFFFF0000), (0x0A01, 0x1F), (0x1402, 0xF), (0x1C05, 0xF),
    (0x1E40, 0xFFFF), (0x1A09, 0x1F * 2 ^ 24), (0x1B09, 0x1F * 2 ^ 24)] ++
    (List.range 16).map (fun n => (0x0C04 + 8 * n, 7 * 65536)) ++
    [0, 1, 2, 3, 4, 5, 7].map fun n => (0x1806 + 64 * n, 0x1F * 2 ^ 24)

/-- What a write of `w` to `a` clears is what stood at the start of the tick: a bit that hardware has set in this tick is 1 after it
(00 R7). -/
def State.clearable (s : State) (a w : Nat) : Nat :=
  match w1cFields.find? fun e => e.1 == a with
  | none => w
  | some e => w ^^^ (w &&& (e.2 ^^^ (e.2 &&& s.stood a)))

/-- The registers as a tick begins. -/
def State.tickStart (s : State) : TickStart :=
  { bits := w1cFields.filterMap fun e =>
      (s.readBlock e.1).bind fun r => if r.2 &&& e.2 = 0 then none else some (e.1, r.2 &&& e.2)
    collisions := s.mbx.count
    merged := s.evt.map EvtInput.merged
    drops := s.rings.map Ring.drops }

/-- A register that ignores writes (R6). -/
def State.ignore (s : State) : IoWrite := .ok s

def State.writeAon (s : State) (a v : Nat) : IoWrite :=
  if a = 0x0120 then
    if v % 512 < 47 ∨ 300 < v % 512 then .error .reserved else .ok (s.modPwr fun p => { p with pfThresh := v % 512 })
  else if 0x0130 ≤ a ∧ a < 0x0140 then
    let n := (a - 0x0130) / 4
    let set (f : LanternTimer → LanternTimer) : IoWrite := .ok { s with ltimers := vmod s.ltimers n f }
    let t := vget s.ltimers n
    if n = 3 then .error .rejected
    else if a % 4 = 0 then
      if v % 4 = 3 then .error .reserved
      else if v % 4 = 2 ∧ t.period = 0 then .error .reserved
      else set fun t => t.setMode (BitVec.ofNat 2 v)
    else if a % 4 = 1 then set fun t => { t with tgtF := BitVec.ofNat 32 v }
    else if a % 4 = 2 then set fun t => { t with tgtS := BitVec.ofNat 32 v }
    else if v % 2 ^ 17 > 86400 then .error .reserved
    else if v % 2 ^ 17 = 0 ∧ t.mode = 2 then .error .rejected
    else set fun t => { t with period := BitVec.ofNat 17 v }
  else if (s.readAon a).isSome then s.ignore
  else .error .unassigned

def State.writePwr (s : State) (a v : Nat) : IoWrite :=
  if a = 0x0200 then
    match targetOf (v % 8) with
    | none => .error .reserved
    | some t =>
      .ok (s.request { target := t, snapSr := bit v 3, delayMax := if v / 65536 = 0 then 1000 else v / 65536, from_ := .drum })
  else if a = 0x0201 then
    .ok (s.modPwr fun p => { p with woke := w1c p.woke v 24, entryFail := w1c p.entryFail v 25, ltimerF := w1c p.ltimerF v 26 })
  else if a = 0x0202 then
    .ok (s.modPwr fun p => { p with veto := BitVec.ofNat 3 v, autoIdle := bit v 3, inten := BitVec.ofNat 3 (v / 16) })
  else if a = 0x0203 then .ok (s.modPwr fun p => p.setWakeEn v)
  else if (s.readPwr a).isSome then s.ignore
  else .error .unassigned

/-- A kick restarts the count; in the tick of the expiry it comes too late (19 R632). -/
def Watchdog.kick (w : Watchdog) (now : Nat) : Watchdog :=
  if w.en && decide (w.since + ms w.period.toNat ≤ now) then w else { w with since := now }

/-- The settings in force in this tick (15 R541). -/
def DrumTimer.inForce (t : DrumTimer) : TimerSet := t.old.getD ⟨t.en, t.periodic, t.cmp, t.period⟩

/-- A write applies from the next tick: what was in force stays so in this one. -/
def DrumTimer.keep (t : DrumTimer) : DrumTimer := { t with old := some t.inForce }

def State.writeTim (s : State) (a v : Nat) : IoWrite :=
  if a < 0x0310 then
    let set (f : DrumTimer → DrumTimer) : IoWrite := .ok { s with timers := vmod s.timers ((a - 0x0300) / 4) fun t => f t.keep }
    if a % 4 = 0 then set fun t => { t with en := bit v 0, periodic := bit v 1, ie := bit v 2 }
    else if a % 4 = 1 then set fun t => { t with cmp := BitVec.ofNat 32 v }
    else if a % 4 = 2 then
      if v % 2 ^ 31 = 0 then .error .reserved else set fun t => { t with period := BitVec.ofNat 31 v }
    else .error .unassigned
  else if a = 0x0310 then
    let clear (n : Nat) (t : DrumTimer) : DrumTimer := { t with expired := w1c t.expired v n, missed := w1c t.missed v (4 + n) }
    .ok { s with timers := forUpto 4 (fun n w => vmod w n (clear n)) s.timers }
  else if 0x0340 ≤ a ∧ a < 0x0346 then
    let n := (a - 0x0340) / 2
    let set (f : Watchdog → Watchdog) : IoWrite := .ok { s with wdts := vmod s.wdts n f }
    let w := vget s.wdts n
    if a % 2 = 1 then if v % 65536 = 0xC35A then set fun w => w.kick s.now else .error .rejected
    else if w.lock then .error .rejected
    else if v / 4 % 65536 = 0 then .error .reserved
    else set fun w => { w with en := bit v 0, lock := w.lock || bit v 1, period := BitVec.ofNat 16 (v / 4)
                               since := if w.en then w.since else s.now }
  else if a = 0x0346 then
    .ok { s with wdts := forUpto 3 (fun n u => vmod u n fun w => { w with expired := w1c w.expired v n }) s.wdts }
  else .error .unassigned

/-- Only D0 (core 0) may write the doorbell fields (17 R570). -/
def State.writeMbx (s : State) (core a v : Nat) : IoWrite :=
  if a = 0x0400 then
    let m := s.mbx
    let db := core = 0
    .ok { s with mbx := { m with dbIn := if db then w1c m.dbIn v 0 else m.dbIn, dbOut := if db then m.dbOut || bit v 1 else m.dbOut
                                 collide := w1c m.collide v 2, collIe := bit v 3 } }
  else if (s.readMbx a).isSome then s.ignore
  else .error .unassigned

/-- RING_CFGn (11 R400, R401). -/
def State.writeRingCfg (s : State) (n v : Nat) : IoWrite :=
  let r := vget s.rings n
  let lg := v % 16
  let en := bit v 4
  if lg < 4 ∨ 12 < lg then .error .reserved
  else if r.en && (lg != r.sizeLog2.toNat || bit v 5 != r.side) then .error .rejected
  else if en && !Ring.inside (r.base.toNat * 64) (2 ^ lg) then .error .rejected
  else
    .ok ((if en then s else s.forgetSent n).modRing n fun r =>
      let above := r.above && v / 128 % 8192 == r.thresh.toNat
      let r := if en then r.enable else r.disable
      { r with sizeLog2 := BitVec.ofNat 4 lg, side := bit v 5, thresh := BitVec.ofNat 13 (v / 128), above := above && r.above })

/-- RING_PRODn (11 R401, R403): the slots must have been written; a command ring takes them as one transaction. -/
def State.writeProd (s : State) (n v : Nat) : IoWrite :=
  let r := vget s.rings n
  let d := (BitVec.ofNat 32 v - r.prod).toNat
  if !r.en || decide (4 ≤ n ∧ n ≤ 14) || (decide (n < 4) && !r.side) || decide (d > r.slots - r.usedByProducer) then
    .error .rejected
  else
    let s := s.modRing n fun r => { r with prod := BitVec.ofNat 32 v }
    if n < 4 ∧ d ≠ 0 then
      .ok ((s.claim 6).2.modRing n fun r => { r with arrivals := r.arrivals ++ [{ slots := d, tick := s.clk.tick }] })
    else .ok s

/-- RING_CONSn (11 R401). -/
def State.writeCons (s : State) (n v : Nat) : IoWrite :=
  let r := vget s.rings n
  let d := (BitVec.ofNat 32 v - r.cons).toNat
  if !r.en || decide (n < 4) || !r.side || decide (d > r.ready) then .error .rejected
  else .ok (s.modRing n fun r => { r with cons := BitVec.ofNat 32 v })

def State.writeRing (s : State) (a v : Nat) : IoWrite :=
  if a = 0x0880 then
    .ok { s with rings := forUpto 16 (fun n w => vmod w n fun r => { r with thr := w1c r.thr v (16 + n) }) s.rings }
  else if a < 0x0880 then
    let n := (a - 0x0800) / 8
    let r := vget s.rings n
    if a % 8 = 0 then
      if r.en && v / 64 % 65536 != r.base.toNat then .error .rejected
      else .ok (s.modRing n fun r => { r with base := BitVec.ofNat 16 (v / 64) })
    else if a % 8 = 1 then s.writeRingCfg n v
    else if a % 8 = 2 then s.writeProd n v
    else if a % 8 = 3 then s.writeCons n v
    else if a % 8 < 6 then s.ignore
    else .error .unassigned
  else .error .unassigned

def State.writeLink (s : State) (a v : Nat) : IoWrite :=
  if a = 0x0A00 then .ok (s.modHport fun h => { h with en := bit v 0, crxThresh := BitVec.ofNat 13 (v / 2) })
  else if a = 0x0A01 then
    .ok (s.modHport fun h =>
      { h with wrOvf := w1c h.wrOvf v 0, downBusy := w1c h.downBusy v 1, err := w1c h.err v 2, crxThr := w1c h.crxThr v 3,
               woken := w1c h.woken v 4 })
  else if a = 0x0A02 then .ok (s.modHport fun h => { h with inten := BitVec.ofNat 5 v, ringThr := bit v 5 })
  else if a = 0x0B01 then
    if v / 65536 % 2 ^ 14 > 10000 then .error .reserved
    else .ok (s.modChain fun k =>
      { k with wakeRelay := bit v 0, autoEnum := bit v 1, alignEn := bit v 2, wakeUpRelay := bit v 3,
               downHold := BitVec.ofNat 14 (v / 65536) })
  else if (s.readLink a).isSome then s.ignore
  else .error .unassigned

/-- DMA_CHn_CTL, written at privilege `priv` (17 R585). -/
def State.writeDmaCtl (s : State) (n priv v : Nat) : IoWrite :=
  let c := s.dmaCh n
  let idle := c.state == .idle
  let same := v / 8 % 4 == c.prio.toNat && v / 32 % 4 == c.priv.toNat && bit v 7 == c.xlate
  if v / 32 % 4 = 3 then .error .reserved
  else if (!idle && (!same || bit v 0)) || decide (v / 32 % 4 < priv) || (bit v 1 && c.state != .faulted) then .error .rejected
  else
    let s := s.modDma n fun c =>
      { c with prio := BitVec.ofNat 2 (v / 8), priv := BitVec.ofNat 2 (v / 32), xlate := bit v 7, ie := BitVec.ofNat 3 (v / 256) }
    let s := if bit v 0 then (s.modDma n fun c => { c with tokens := 0 }).dmaLoad n (c.addr.toNat * 32) else s
    let s := if bit v 1 then s.dmaResume n else s
    .ok (if bit v 2 && !idle then s.dmaAbort n else s)

def State.writeDma (s : State) (priv a v : Nat) : IoWrite :=
  if a < 0x0C80 then
    let n := (a - 0x0C00) / 8
    if a % 8 = 0 then s.writeDmaCtl n priv v
    else if a % 8 = 1 then
      if (s.dmaCh n).state != .idle then .error .rejected
      else .ok (s.modDma n fun c => { c with addr := BitVec.ofNat 27 (v / 32) })
    else if a % 8 < 4 then s.ignore
    else if a % 8 = 4 then
      .ok (s.modDma n fun c =>
        { c with doneF := w1c c.doneF v 16, faultF := w1c c.faultF v 17, abortedF := w1c c.abortedF v 18 })
    else .error .unassigned
  else if a = 0x0C80 then s.ignore
  else .error .unassigned

/-- MMU_INVn (17 R575, R576): OP 0 a page, 1 an ASID, 2 every entry. -/
def Mmu.invalidate (m : Mmu) (v : Nat) : Mmu :=
  let asid := BitVec.ofNat 8 v
  let vpn := BitVec.ofNat 20 (v / 4096)
  let op := v / 256 % 4
  { m with tlb := m.tlb.filter fun e =>
      if op = 0 then !(e.vpn == vpn && (e.global || e.asid == asid)) else if op = 1 then e.global || e.asid != asid else false }

def State.writeMmu (s : State) (a v : Nat) : IoWrite :=
  if a < 0x1010 then
    let n := (a - 0x1000) / 4
    if a % 4 = 0 then .ok (s.modMmu n fun m => { m with en := bit v 0, asid := BitVec.ofNat 8 (v / 256) })
    else if a % 4 = 1 then .ok (s.modMmu n fun m => { m with root := BitVec.ofNat 20 (v / 4096) })
    else if a % 4 = 2 then if v / 256 % 4 = 3 then .error .reserved else .ok (s.modMmu n fun m => m.invalidate v)
    else .error .unassigned
  else if a < 0x1014 then .ok { s with masters := vmod s.masters (a - 0x1010) fun m => { m with en := bit v 0 } }
  else if 0x1100 ≤ a ∧ a < 0x1200 then
    let set (f : Window → Window) : State :=
      { s with masters := vmod s.masters ((a - 0x1100) / 64) fun m => { m with windows := vmod m.windows ((a - 0x1100) % 64 / 2) f } }
    if a % 2 = 0 then .ok (set fun w => { w with base := BitVec.ofNat 26 (v / 64) })
    else if v / 16 % 4 = 3 then .error .reserved
    else .ok (set fun w => { w with en := bit v 0, r := bit v 1, w := bit v 2, x := bit v 3, maxPriv := BitVec.ofNat 2 (v / 16)
                                    limit := BitVec.ofNat 26 (v / 64) })
  else .error .unassigned

def State.writeMem (s : State) (a v : Nat) : IoWrite :=
  if a = 0x1402 then
    .ok (s.modMem fun m => { m with ce := w1c m.ce v 0, ue := w1c m.ue v 1, testFail := w1c m.testFail v 2, lost := w1c m.lost v 3 })
  else if a = 0x1406 then .ok (s.modMem fun m => { m with inten := BitVec.ofNat 4 v })
  else if (s.readMem a).isSome then s.ignore
  else .error .unassigned

/-- UARTn_CTRL: thresholds, interrupt enables and the flushes (14 R492). -/
def Uart.writeCtrl (u : Uart) (v : Nat) : Uart :=
  let t : BitVec 6 := BitVec.ofNat 6 (v / 256)
  { u with rxThresh := BitVec.ofNat 7 v, txThresh := t, inten := BitVec.ofNat 5 (v / 65536)
           rx := if bit v 24 then [] else u.rx, tx := if bit v 25 then [] else u.tx
           txThr := u.txThr || (bit v 25 && decide (t.toNat < u.tx.length)) }

def State.writeUart (s : State) (a v : Nat) : IoWrite :=
  let n := (a - 0x1800) / 64
  let u := vget s.uarts n
  if n = 6 then .error .unassigned
  else if a % 64 = 0 then
    if v % 8 > 4 ∨ v / 8 % 8 > 4 then .error .reserved
    else
      let l : LineSettings :=
        { u.line with dbits := BitVec.ofNat 3 v, parity := BitVec.ofNat 3 (v / 8), stop2 := bit v 6
                      slow := n == 7 && bit v 10, slowRate := if n = 7 then BitVec.ofNat 2 (v / 2048) else 0 }
      let s := s.modUart n fun u => { u.setLine s.now l with wake := bit v 9 }
      .ok (s.uartEnables n (bit v 7) (bit v 8))
  else if a % 64 = 1 then
    if v % 65536 = 0 then .error .reserved
    else .ok (s.modUart n fun u =>
      u.setLine s.now { u.line with div := BitVec.ofNat 16 v, frac := if n = 7 then 0 else BitVec.ofNat 8 (v / 65536) })
  else if a % 64 = 2 then
    if u.tx.length ≥ 64 then .error .rejected
    else .ok ((s.modUart n fun u => { u with tx := u.tx ++ [BitVec.ofNat 9 v] }).uartStart n)
  else if a % 64 < 6 then s.ignore
  else if a % 64 = 6 then
    .ok (s.modUart n fun u =>
      { u with overrun := w1c u.overrun v 24, rxThr := w1c u.rxThr v 25, txThr := w1c u.txThr v 26, breakEnd := w1c u.breakEnd v 27,
               woken := w1c u.woken v 28 })
  else if a % 64 = 7 then
    if v % 128 < 1 ∨ 64 < v % 128 then .error .reserved else .ok (s.modUart n fun u => u.writeCtrl v)
  else if a % 64 = 8 then
    let s := s.modUart n fun u => { u with brkLen := BitVec.ofNat 16 v }
    .ok (if bit v 16 then s.requestBreak n (v % 65536) none else s)
  else .error .unassigned

/-- CANm_CFG (14 R501). -/
def State.writeCanCfg (s : State) (m v : Nat) : IoWrite :=
  let c := vget s.cans m
  let bad (base log2 : Nat) : Bool := !canInside base log2 || canOverlaps base log2
  if v / 4 % 4 = 3 then .error .reserved
  else if bit v 0 && (bad c.rxBase.toNat c.rxLog2.toNat || bad c.txBase.toNat c.txLog2.toNat) then .error .rejected
  else
    .ok (s.modCan m fun c =>
      let c := { c with fd := bit v 1, mode := BitVec.ofNat 2 (v / 4), autoRecover := bit v 4, wake := bit v 5, tdc := bit v 6 }
      if bit v 0 then (if c.en then c else c.start) else c.stop)

/-- A CAN ring index written by a core, advanced under 11 R401. -/
def State.writeCan (s : State) (a v : Nat) : IoWrite :=
  let m := (a - 0x1A00) / 256
  let r := a % 256
  let c := vget s.cans m
  let set (f : Can → Can) : IoWrite := .ok (s.modCan m f)
  let w := BitVec.ofNat 32 v
  if r = 0 then s.writeCanCfg m v
  else if 1 ≤ r ∧ r ≤ 4 ∧ c.en then .error .rejected
  else if r = 1 then
    if v / 2 ^ 9 % 256 = 0 ∨ v / 2 ^ 17 % 128 = 0 ∨ v / 2 ^ 24 % 128 > v / 2 ^ 17 % 128 then .error .reserved
    else set fun c => { c with nbt := BitVec.ofNat 31 v }
  else if r = 2 then
    if v / 2 ^ 14 % 16 > v / 2 ^ 10 % 16 then .error .reserved else set fun c => { c with dbt := BitVec.ofNat 25 v }
  else if r = 3 then
    if v / 65536 % 16 < 4 ∨ 10 < v / 65536 % 16 then .error .reserved
    else set fun c => { c with rxBase := BitVec.ofNat 16 v, rxLog2 := BitVec.ofNat 4 (v / 65536) }
  else if r = 4 then
    if v / 65536 % 16 < 4 ∨ 8 < v / 65536 % 16 then .error .reserved
    else set fun c => { c with txBase := BitVec.ofNat 16 v, txLog2 := BitVec.ofNat 4 (v / 65536) }
  else if r = 6 then
    if !c.en || decide ((w - c.rxCons).toNat > (c.rxProd - c.rxCons).toNat) then .error .rejected
    else set fun c => { c with rxCons := w }
  else if r = 7 then
    if !c.en || decide ((w - c.txProd).toNat > 2 ^ c.txLog2.toNat - (c.txProd - c.txCons).toNat) then .error .rejected
    else set fun c => { c with txProd := w }
  else if r = 9 then
    set fun c => { c with rxNew := w1c c.rxNew v 24, txDone := w1c c.txDone v 25, rxDrop := w1c c.rxDrop v 26
                          stateChg := w1c c.stateChg v 27, woken := w1c c.woken v 28 }
  else if r = 10 then set fun c => { c with inten := BitVec.ofNat 5 v }
  else if 0x40 ≤ r ∧ r < 0x80 then
    set fun c =>
      { c with filters := vmod c.filters ((r - 0x40) / 2) fun f =>
          if r % 2 = 0 then { f with id := BitVec.ofNat 29 v, ide := bit v 29, en := bit v 30 }
          else { f with mask := BitVec.ofNat 29 v } }
  else if (s.readCan a).isSome then s.ignore
  else .error .unassigned

def State.writeEvt (s : State) (a v : Nat) : IoWrite :=
  if a < 0x1C04 then
    if v / 2 % 4 = 3 then .error .reserved else .ok { s with evt := vmod s.evt (a - 0x1C00) fun e => e.configure v }
  else if a = 0x1C04 then s.ignore
  else if a = 0x1C05 then
    let f (n : Nat) (e : EvtInput) : EvtInput := { e with pend := w1c e.pend v n, ie := bit v (4 + n) }
    .ok { s with evt := forUpto 4 (fun n w => vmod w n (f n)) s.evt }
  else .error .unassigned

def State.writePmon (s : State) (a v : Nat) : IoWrite :=
  let set (f : Pmon → Pmon) : IoWrite := .ok { s with pmon := f s.pmon }
  if a < 0x1E40 then
    if a % 4 = 0 then
      if v % 256 > 75 then .error .reserved
      else set fun p =>
        { p with counters := vmod p.counters ((a - 0x1E00) / 4) fun c => c.configure (v % 256) (bit v 8) (bit v 9) (bit v 10) }
    else if a % 4 < 3 then s.ignore
    else .error .unassigned
  else if a = 0x1E40 then
    set fun p => { p with counters := forUpto 16 (fun n w => vmod w n fun c => { c with ovf := w1c c.ovf v n }) p.counters }
  else if a = 0x1E41 then set fun p => { p with freeze := bit v 0, freezeOnOvf := bit v 1 }
  else .error .unassigned

def State.writeIntc (s : State) (a v : Nat) : IoWrite :=
  if a < 0x2040 then
    if v / 16 % 4 = 3 then .error .reserved
    else .ok { s with intc := vmod s.intc (a - 0x2000) fun r =>
        { r with prio := BitVec.ofNat 4 v, core := BitVec.ofNat 2 (v / 16), swset := bit v 10 } }
  else if a < 0x2043 then s.ignore
  else if 0x2044 ≤ a ∧ a < 0x2047 then
    .ok { s with intc := vmod s.intc (v % 64) fun r => if r.coreNow.toNat = a - 0x2044 then { r with active := false } else r }
  else .error .unassigned

def State.writeRlink (s : State) (a v : Nat) : IoWrite :=
  if a = 0x3000 then
    let t := v / 2 ^ 18 % 256
    if v / 65536 % 4 = 3 ∨ t < 5 ∨ 200 < t then .error .reserved
    else .ok (s.modRlink fun r =>
      { r with cfg := { addr := BitVec.ofNat 7 v, pec := bit v 7, page := BitVec.ofNat 8 (v / 256)
                        ackSrc := BitVec.ofNat 2 (v / 65536), timeout := BitVec.ofNat 8 t } })
  else if a = 0x3002 then
    if v % 65536 < 800 ∨ v / 65536 < 720 then .error .reserved
    else .ok (s.modRlink fun r => { r with vFull := v % 65536, vRun := v / 65536 })
  else if a = 0x3003 then
    if v % 65536 < 600 then .error .reserved else .ok (s.modRlink fun r => { r with vBare := v % 65536 })
  else if a = 0x3001 then s.ignore
  else .error .unassigned

/-- An I/O write of word address `a` by master `core` (0–2 the cores, 3 the DMA engine) at privilege `priv`: the new
state, or the fault of a write that changes nothing (R9, R10). -/
def State.ioWrite (s : State) (core priv a w : Nat) : IoWrite :=
  let v := s.clearable a w
  if a < 0x0200 then s.writeAon a v
  else if a < 0x0300 then s.writePwr a v
  else if a < 0x0400 then s.writeTim a v
  else if a < 0x0800 then s.writeMbx core a v
  else if a < 0x0A00 then s.writeRing a v
  else if a < 0x0C00 then s.writeLink a v
  else if a < 0x1000 then s.writeDma priv a v
  else if a < 0x1400 then s.writeMmu a v
  else if a < 0x1800 then s.writeMem a v
  else if a < 0x1A00 then s.writeUart a v
  else if a < 0x1C00 then s.writeCan a v
  else if a < 0x1E00 then s.writeEvt a v
  else if a < 0x2000 then s.writePmon a v
  else if a < 0x3000 then s.writeIntc a v
  else s.writeRlink a v

/-- Blocks to which an OUT at privilege 1 takes the privilege trap (15 R515, 18 R608). -/
def outPrivileged (a : Nat) : Bool :=
  decide (0x0130 ≤ a ∧ a < 0x0140) || decide (0x0200 ≤ a ∧ a < 0x0300) || decide (0x1000 ≤ a ∧ a < 0x1400) ||
    decide (0x2000 ≤ a ∧ a < 0x4000)

end Sys2Proof.Machine
end

