-- ==== Sys2Proof/Machine/Finial.lean ====
section
/-! DEFINITION. The Finial instruction set (16) over the programming model of 15: registers, load-delay slots, products,
loops, REP, traps and interrupts. The fetched word comes with the command as fields: `f` holds bits [25:0]. -/

namespace Sys2Proof.Machine

/-! Registers (15 R509–R512). -/

/-- Register numbers of R509. -/
def isReg (n : Nat) : Bool := decide (n ≤ 9) || (decide (16 ≤ n) && decide (n ≤ 27))

/-- Control numbers of R512 that core `c` admits. -/
def isControl (c n : Nat) : Bool :=
  (decide (32 ≤ n) && decide (n ≤ 38)) || (decide (c < 3) && decide (40 ≤ n) && decide (n ≤ 47))

def Core.rsp (k : Core) : Word := BitVec.ofNat 32 (k.ret.length + k.rsLimit * 256)

def Core.reg (k : Core) (n : Nat) : Word :=
  if n = 0 then k.a else if n = 1 then k.x else if n = 2 then k.y else if n = 3 then k.mph else if n = 4 then k.mpl
  else if n = 5 then k.dsp else if n = 6 then k.rsp else if n = 7 then k.sr else if n = 8 then k.evr.setWidth 32
  else if n = 9 then k.tcmp
  else if n < 20 then (vget k.ls (n - 16)).setWidth 32
  else if n < 24 then (vget k.le (n - 20)).setWidth 32
  else vget k.lc (n - 24)

/-- The value that a permitted write leaves in SR (15 R510, R517, R531): BARE, LOCKSTEP and the reserved bits stay; SEG
stays 0 in Bare mode. -/
def Core.srValue (k : Core) (v : Word) : Word :=
  let w := (v &&& 0x7DFF) ||| (k.sr &&& 0x8200)
  if k.bare then w &&& 0xFFFFFEFF else w

/-- Why an instruction does not complete: a trap, or the Dome's I/O space (15 R542). -/
inductive Stop where
  | trap (t : Trap)
  | domeIo
  deriving DecidableEq, Repr

def Stop.io (detail : Nat) (addr : Nat) : Stop := .trap ⟨9, detail, BitVec.ofNat 32 addr⟩
def Stop.priv (detail : Nat) (addr : Nat) : Stop := .trap ⟨2, detail, BitVec.ofNat 32 addr⟩

/-- The privilege check of a write to register `n` (15 R510). -/
def Core.mayWrite (k : Core) (n : Nat) : Bool := n != 7 || k.priv == 0

/-- A write to a register of R509, privilege checked before. -/
def Core.setReg (c : Nat) (k : Core) (n : Nat) (v : Word) : Except Stop Core :=
  if n = 0 then .ok { k with a := v } else if n = 1 then .ok { k with x := v } else if n = 2 then .ok { k with y := v }
  else if n = 3 then .ok { k with mph := v } else if n = 4 then .ok { k with mpl := v } else if n = 5 then .ok { k with dsp := v }
  else if n = 6 then
    let lim := v.toNat / 256 % 64
    if lim = 0 ∨ 32 < lim then .error (.io 2 6) else .ok { k with rsLimit := lim }
  else if n = 7 then
    if v.toNat % 4 = 3 then .error (.io 2 7)
    else if c ≥ 3 ∧ bit v.toNat 8 then .error (.io 2 7)
    else .ok { k with sr := k.srValue v }
  else if n = 8 then .ok { k with evr := k.evr &&& ~~~v.setWidth 3 }
  else if n = 9 then .ok { k with tcmp := v }
  else if n < 20 then .ok { k with ls := vset k.ls (n - 16) (v.setWidth 24) }
  else if n < 24 then .ok { k with le := vset k.le (n - 20) (v.setWidth 24) }
  else .ok { k with lc := vset k.lc (n - 24) v }

/-! Landing of loads and products (15 R518, R519). -/

def Core.land (k : Core) (l : SlotLoad) : Core :=
  if l.reg = 0 then { k with a := l.value } else if l.reg = 1 then { k with x := l.value } else { k with y := l.value }

/-- The pending load lands. -/
def Core.landSlot (k : Core) : Core :=
  match k.slot with
  | none => k
  | some l => { k.land l with slot := none }

/-- The end of an instruction that wrote `wrote` and loads `load`: the earlier load lands unless the instruction wrote
its register. -/
def Core.endSlot (k : Core) (wrote : List Nat) (load : Option SlotLoad) : Core :=
  match k.slot with
  | none => { k with slot := load }
  | some l => if wrote.contains l.reg then { k with slot := load } else { k.land l with slot := load }

/-- Bare-mode products due by this cycle, in issue order. -/
def Core.landProducts (k : Core) : Core :=
  let due := k.products.filter fun p => decide (p.issue + 4 ≤ k.cycle)
  due.foldl (fun k p => { k with mph := p.hi, mpl := p.lo }) { k with products := k.products.filter fun p => decide (p.issue + 4 > k.cycle) }

/-! Loops (15 R523–R525). -/

def Core.active (k : Core) (n : Nat) : Bool := k.sr.getLsbD (10 + n)
def Core.setActive (k : Core) (n : Nat) (on : Bool) : Core :=
  let m : Word := BitVec.ofNat 32 (2 ^ (10 + n))
  { k with sr := if on then k.sr ||| m else k.sr &&& ~~~m }

/-- The loop check at address `e`, from level `n − 1` down; `next` is where execution goes if no level jumps. -/
def Core.loopFrom (k : Core) (e next : BitVec 24) : Nat → Core
  | 0 => { k with pc := next }
  | n + 1 =>
    if k.active n && vget k.le n == e then
      let count := vget k.lc n
      if count.toNat > 1 then { k with lc := vset k.lc n (count - 1), pc := vget k.ls n }
      else ({ k with lc := vset k.lc n 0 }.setActive n false).loopFrom e next n
    else k.loopFrom e next n

def Core.loopCheck (k : Core) (e next : BitVec 24) : Core := k.loopFrom e next 4

/-! Traps and interrupts (15 R533–R537). -/

/-- SR and the saved registers at trap entry (15 R535). `rep` is the number of REP iterations left where R526 applies. -/
def Core.enter (k : Core) (cause detail : Nat) (addr : Word) (tpc : BitVec 24) (rep : Option Word) (ipl : Option Nat) : Core :=
  let k := k.landSlot
  let tsr := if rep.isSome then k.sr ||| 0x4000 else k.sr &&& ~~~(0x4000 : Word)
  let sr := (k.sr &&& ~~~(0x3C07 : Word)) ||| 8
  let sr := match ipl with
    | none => sr
    | some p => (sr &&& ~~~(0xF0 : Word)) ||| BitVec.ofNat 32 (p * 16)
  { k with tpc := tpc, tsr := tsr, tcause := BitVec.ofNat 32 (cause + detail % 256 * 256), taddr := addr
           trc := rep.getD k.trc, sr := sr, pc := k.tvec + BitVec.ofNat 24 (4 * cause), wait := .none, resume := none }

/-- A synchronous trap: taken, or a double trap while EXL is 1 (15 R536). -/
def State.trap (s : State) (c : Nat) (t : Trap) (tpc : BitVec 24) (rep : Option Word) : State :=
  let s := if c < 3 then s.count (12 + c) else s
  if (s.core c).sr.getLsbD 3 then s.doubleTrap c
  else s.modCore c fun k => k.enter t.cause t.detail t.addr tpc rep none

/-- The interrupt that core `c` takes now, if any (15 R537, R540). -/
def State.takeable (s : State) (c : Nat) : Option Nat :=
  let k := s.core c
  if k.sr.getLsbD 2 && !k.sr.getLsbD 3 then s.offered c (k.sr.toNat / 16 % 16) else none

/-- (TICK[31:0] − TCMP) is 0 or more as a signed word (15 R530). -/
def State.reached (s : State) (target : Word) : Bool := !(BitVec.ofNat 32 s.clk.tick - target).msb

/-- Entry of interrupt source `n`; a source not yet sampled sets EV and BY_INT (15 R528). -/
def State.interrupt (s : State) (c n : Nat) (rep : Option Word) : State :=
  let fresh := !(vget s.intc n).sampled
  let prio := (vget s.intc n).prioNow.toNat
  let s := { s with intc := vmod s.intc n fun r => { r with sampled := true } }.count (15 + c)
  s.modCore c fun k =>
    let k := { k with evr := if fresh then k.evr ||| 5 else k.evr }
    k.enter 0x10 n 0 k.pc rep (some prio)

/-- The core executes: its clocks run, and it is neither in reset nor waiting. -/
def State.coreOn (s : State) (c : Nat) : Bool := s.fast && !(s.core c).held

def State.issues (s : State) (c : Nat) : Bool := s.coreOn c && (s.core c).wait == .none

/-! Execution of one instruction. -/

/-- What a completed instruction reports: A, X, Y written directly (0, 1, 2), a load into the slot, a transfer of control,
the cycles. -/
structure Done where
  wrote : List Nat := []
  load : Option SlotLoad := none
  jump : Option (BitVec 24) := none
  cycles : Nat := 1

/-- An instruction's operation at core `c`. On a stop the state holds only what the attempt left behind (error counts,
TLB entries). -/
abbrev Operation := Nat → State → State × Except Stop Done

/-- End of an instruction: the slot, the next pc, the count of instructions retired. -/
def State.complete (s : State) (c : Nat) (d : Done) : State :=
  let s := s.modCore c fun k =>
    let k := { k.endSlot d.wrote d.load with cycle := k.cycle + d.cycles, wait := .none, resume := none }
    match d.jump with
    | some p => { k with pc := p }
    | none => k.loopCheck k.pc (k.pc + 1)
  if c < 3 then s.count (2 + c) else s

/-- INTERRUPT_ENTRY: between instructions, during a wait, or before a resumed REP; a WAITT whose target is reached completes first (15 R543). -/
def execInterruptEntry (c : DrumCore) (s : State) : Res :=
  if !s.coreOn c.val then .next s else
  match s.takeable c.val with
  | none => .next s
  | some n =>
    let s := if (s.core c.val).wait == .waitt && s.reached (s.core c.val).tcmp then s.complete c.val {} else s
    .next (s.interrupt c.val n (s.core c.val).resume)

/-- What comes before an instruction's decoding: a pending interrupt is taken in its place (15 R537), products land, and the fetch may trap. -/
def State.atIssue (s : State) (c : Nat) (go : State → Res) : Res :=
  if !s.issues c then .next s else
  match s.takeable c with
  | some n => .next (s.interrupt c n (s.core c).resume)
  | none =>
    let s := s.modCore c Core.landProducts
    match s.fetchTrap c (s.core c).pc with
    | (s, some t) => .next (s.trap c t (s.core c).pc (s.core c).resume)
    | (s, none) => go s

/-- Decode and execute at the core's pc (15 R533: the lowest priority number wins). `chk` gives the detail of an undefined-opcode trap. -/
def State.issue (s : State) (c : Nat) (chk : Core → Option Nat) (op : Operation) : Res :=
  s.atIssue c fun s =>
    let pc := (s.core c).pc
    match chk (s.core c) with
    | some d => .next (s.trap c ⟨3, d, 0⟩ pc none)
    | none =>
      match op c s with
      | (s, .error (.trap t)) => .next (s.trap c t pc none)
      | (_, .error .domeIo) => .refused .domeIo
      | (s, .ok d) => .next (s.complete c d)

/-! Fields and decode checks (16 R544, R557). -/

def fMode (f : BitVec 26) : Nat := f.toNat / 2 ^ 22
def fReg (f : BitVec 26) : Nat := f.toNat / 2 ^ 16 % 64
def fImm (f : BitVec 26) : Nat := f.toNat % 65536

/-- A signed 16-bit immediate as a word. -/
def sext16 (n : Nat) : Word := (BitVec.ofNat 16 n).signExtend 32

/-- The undefined-opcode detail: an undefined field first, then reserved bits, then LOOP_LEVEL (R557). -/
def checkWord (undefined_ reserved loopLevel : Bool) : Option Nat :=
  if undefined_ then some 0 else if reserved then some 1 else if loopLevel then some 2 else none

def isAXY (r : Nat) : Bool := decide (r < 3)

/-- Operand modes `lo`–`hi` except those not listed (R547). -/
def checkOperand (modes : List Nat) (f : BitVec 26) : Option Nat :=
  let m := fMode f
  checkWord (!modes.contains m || (m == 2 && !isReg (fReg f))) (if m = 2 then fImm f != 0 else fReg f != 0) false

def checkMem (f : BitVec 26) : Option Nat :=
  let m := fMode f
  checkWord (decide (m < 3 ∨ 8 < m) || !isAXY (fReg f) || (m == 7 && fReg f == 1) || (m == 8 && fReg f == 2)) false false

def checkZ (f : BitVec 26) : Option Nat := checkWord false (f != 0) false
def checkLdi (f : BitVec 26) : Option Nat := checkWord (decide (fMode f > 2) || !isReg (fReg f)) false false
def checkMov (f : BitVec 26) : Option Nat :=
  checkWord (fMode f != 0 || !isReg (fReg f) || !isReg (fImm f % 64)) (fImm f / 64 != 0) false
def checkLea (f : BitVec 26) : Option Nat :=
  checkWord (decide (fMode f < 3 ∨ 6 < fMode f) || !(isAXY (fReg f) || fReg f == 5)) false false
def checkShift (byReg : Bool) (reg : BitVec 6) (imm : BitVec 16) : Option Nat :=
  checkWord (byReg && !isReg reg.toNat) (if byReg then imm != 0 else reg != 0 || imm.toNat / 32 != 0) false
def checkStack (f : BitVec 26) : Option Nat := checkWord (fMode f != 0 || !isReg (fReg f)) (fImm f != 0) false
def checkIo (f : BitVec 26) : Option Nat := checkWord (!(fMode f == 0 || fMode f == 4) || !isAXY (fReg f)) false false
def checkCbr (f : BitVec 26) : Option Nat := checkWord (decide (fMode f > 5) || !isReg (fReg f)) false false
def checkCbi (f : BitVec 26) : Option Nat := checkWord (decide (fMode f > 5)) false false
def checkBr (f : BitVec 26) : Option Nat := checkWord false (fMode f != 0 || fReg f != 0) false
def checkJ (f : BitVec 26) : Option Nat := checkWord false (f.toNat / 2 ^ 24 != 0) false
def checkJr (reg : BitVec 6) (imm : BitVec 16) : Option Nat := checkWord (!isAXY reg.toNat) (imm != 0) false
def checkRep (f : BitVec 26) : Option Nat :=
  checkWord (decide (fMode f > 3)) (fReg f != 0 || (fMode f != 3 && fImm f != 0)) false
def checkControl (c : Nat) (f : BitVec 26) : Option Nat :=
  checkWord (fMode f != 0 || !isAXY (fReg f) || !isControl c (fImm f % 64)) (fImm f / 64 != 0) false

/-- L format: LEVEL [25:24], CSRC [23:22], COUNT [21:10], END [9:0]; a level at or below an active one is refused. -/
def checkLoop (f : BitVec 26) (k : Core) : Option Nat :=
  let n := f.toNat
  let lvl := n / 2 ^ 24
  checkWord false (n / 2 ^ 22 % 4 != 3 && n / 1024 % 4096 != 0) ((List.range 4).any fun j => decide (lvl ≤ j) && k.active j)

/-! Operands (16 R547, R548). -/

/-- The effective address of modes 3–8. -/
def Core.ea (k : Core) (m imm : Nat) : Word :=
  if m = 3 then BitVec.ofNat 32 imm
  else if m = 4 then k.x + sext16 imm
  else if m = 5 then k.y + sext16 imm
  else if m = 6 then k.dsp + sext16 imm
  else if m = 7 then k.x
  else k.y

/-- The index register that modes 7 and 8 post-modify, after the access. -/
def postRegs (m : Nat) : List Nat := if m = 7 then [1] else if m = 8 then [2] else []

def Core.postModify (k : Core) (m imm : Nat) : Core :=
  if m = 7 then { k with x := k.x + sext16 imm } else if m = 8 then { k with y := k.y + sext16 imm } else k

/-- The operand of an arithmetic instruction; a memory operand is a word. -/
def State.operand (s : State) (c : Nat) (unsigned : Bool) (f : BitVec 26) : State × Except Trap Word :=
  let k := s.core c
  let m := fMode f
  if m = 0 then (s, .ok (if unsigned then BitVec.ofNat 32 (fImm f) else sext16 (fImm f)))
  else if m = 1 then (s, .ok (BitVec.ofNat 32 (fImm f * 65536)))
  else if m = 2 then (s, .ok (k.reg (fReg f)))
  else
    match s.coreLoad c (k.ea m (fImm f)) 4 with
    | (s, .ok v) => (s, .ok (BitVec.ofNat 32 v))
    | (s, .error t) => (s, .error t)

/-- A := `g` A operand (16 R549). -/
def opAlu (unsigned : Bool) (g : Word → Word → Word) (f : BitVec 26) : Operation := fun c s =>
  match s.operand c unsigned f with
  | (s, .error t) => (s, .error (.trap t))
  | (s, .ok v) =>
    (s.modCore c fun k => { k.postModify (fMode f) (fImm f) with a := g k.a v },
     .ok { wrote := 0 :: postRegs (fMode f), cycles := if fMode f < 3 then 1 else 2 })

/-- A direct write to a register; A, X and Y count as written. -/
def State.writeReg (s : State) (c n : Nat) (v : Word) : State × Except Stop Done :=
  if !(s.core c).mayWrite n then (s, .error (.priv 2 7)) else
  match (s.core c).setReg c n v with
  | .error e => (s, .error e)
  | .ok k => (s.modCore c fun _ => k, .ok { wrote := if n < 3 then [n] else [] })

def opNop : Operation := fun _ s => (s, .ok {})

def opLdi (f : BitVec 26) : Operation := fun c s =>
  let r := fReg f
  let v := if fMode f = 0 then sext16 (fImm f) else if fMode f = 1 then BitVec.ofNat 32 (fImm f * 65536)
    else ((s.core c).reg r &&& 0xFFFF0000) ||| BitVec.ofNat 32 (fImm f)
  s.writeReg c r v

def opMov (f : BitVec 26) : Operation := fun c s => s.writeReg c (fReg f) ((s.core c).reg (fImm f % 64))

def opLea (f : BitVec 26) : Operation := fun c s => s.writeReg c (fReg f) ((s.core c).ea (fMode f) (fImm f))

def opShift (g : Word → Nat → Word) (byReg : Bool) (reg : BitVec 6) (imm : BitVec 16) : Operation := fun c s =>
  let k := s.core c
  let n := if byReg then (k.reg reg.toNat).toNat % 32 else imm.toNat % 32
  (s.modCore c fun k => { k with a := g k.a n }, .ok { wrote := [0] })

/-- MPH:MPL := the product, at once in Service mode, in Bare mode four cycles after issue (15 R519). -/
def State.product (s : State) (c : Nat) (p : BitVec 64) : State :=
  let hi : Word := p.extractLsb' 32 32
  let lo : Word := p.extractLsb' 0 32
  s.modCore c fun k =>
    if k.bare then { k with products := k.products ++ [⟨k.cycle, hi, lo⟩] } else { k with mph := hi, mpl := lo }

def opMul (unsigned : Bool) (f : BitVec 26) : Operation := fun c s =>
  let a := (s.core c).a
  match s.operand c unsigned f with
  | (s, .error t) => (s, .error (.trap t))
  | (s, .ok v) =>
    let p : BitVec 64 := if unsigned then a.setWidth 64 * v.setWidth 64 else a.signExtend 64 * v.signExtend 64
    (s.product c p, .ok {})

/-- A load of `size` bytes into A, X or Y through the delay slot (16 R550). -/
def opLoad (size : Nat) (signed : Bool) (f : BitVec 26) : Operation := fun c s =>
  match s.coreLoad c ((s.core c).ea (fMode f) (fImm f)) size with
  | (s, .error t) => (s, .error (.trap t))
  | (s, .ok v) =>
    let w : Word := if signed then (if size = 1 then (BitVec.ofNat 8 v).signExtend 32 else (BitVec.ofNat 16 v).signExtend 32)
      else BitVec.ofNat 32 v
    (s.modCore c fun k => k.postModify (fMode f) (fImm f),
     .ok { wrote := postRegs (fMode f), load := some ⟨fReg f, w⟩ })

def opStore (size : Nat) (f : BitVec 26) : Operation := fun c s =>
  let k := s.core c
  match s.coreStore c (k.ea (fMode f) (fImm f)) size (k.reg (fReg f)) with
  | (s, .error t) => (s, .error (.trap t))
  | (s, .ok _) => (s.modCore c fun k => k.postModify (fMode f) (fImm f), .ok { wrote := postRegs (fMode f) })

/-- PUSH (15 R520): the register is read before DSP moves. -/
def opPush (f : BitVec 26) : Operation := fun c s =>
  let k := s.core c
  match s.coreStore c (k.dsp - 4) 4 (k.reg (fReg f)) with
  | (s, .error t) => (s, .error (.trap t))
  | (s, .ok _) => (s.modCore c fun k => { k with dsp := k.dsp - 4 }, .ok {})

/-- POP (15 R520): into A, X or Y through the slot, into any other register at once. -/
def opPop (f : BitVec 26) : Operation := fun c s =>
  let r := fReg f
  if !(s.core c).mayWrite r then (s, .error (.priv 2 7)) else
  match s.coreLoad c (s.core c).dsp 4 with
  | (s, .error t) => (s, .error (.trap t))
  | (s, .ok v) =>
    let bump (s : State) : State := s.modCore c fun k => { k with dsp := k.dsp + 4 }
    if r < 3 then (bump s, .ok { load := some ⟨r, BitVec.ofNat 32 v⟩ })
    else match s.writeReg c r (BitVec.ofNat 32 v) with
      | (s, .error e) => (s, .error e)
      | (s, .ok d) => (bump s, .ok d)

/-! I/O (15 R515, 16 R550, R551). -/

/-- The I/O address of modes 0 and 4. -/
def Core.ioAddr (k : Core) (f : BitVec 26) : Nat :=
  if fMode f = 0 then fImm f else (k.x + sext16 (fImm f)).toNat % 65536

/-- An IN of register address `a` into A, X or Y. -/
def State.doIn (s : State) (c r a : Nat) : State × Except Stop Done :=
  if 2 ≤ (s.core c).priv then (s, .error (.priv 4 a))
  else if c ≥ 3 then (s, .error .domeIo)
  else match s.ioRead a with
    | (s, .error e) => (s, .error (.io e.detail a))
    | (s, .ok v) => (s, .ok { load := some ⟨r, v⟩, cycles := 2 })

/-- An OUT of value `v` to register address `a`. -/
def State.doOut (s : State) (c a : Nat) (v : Word) : State × Except Stop Done :=
  let p := (s.core c).priv
  if 2 ≤ p ∨ (p = 1 ∧ outPrivileged a) then (s, .error (.priv 4 a))
  else if c ≥ 3 then (s, .error .domeIo)
  else match s.ioWrite c p a v.toNat with
    | .error e => (s, .error (.io e.detail a))
    | .ok s => (s, .ok { cycles := 2 })

def opIn (f : BitVec 26) : Operation := fun c s => s.doIn c (fReg f) ((s.core c).ioAddr f)
def opOut (f : BitVec 26) : Operation := fun c s => s.doOut c ((s.core c).ioAddr f) ((s.core c).reg (fReg f))

/-! Control transfer (16 R552, R553). -/

/-- COND of R553: A against an operand. -/
def condHolds (cond : Nat) (a v : Word) : Bool :=
  if cond = 0 then a == v else if cond = 1 then a != v else if cond = 2 then a.slt v else if cond = 3 then !a.slt v
  else if cond = 4 then a.ult v else !a.ult v

/-- PC + 1 + sext(DISP), modulo 2²⁴. -/
def Core.target (k : Core) (f : BitVec 26) : BitVec 24 := k.pc + 1 + (BitVec.ofNat 16 (fImm f)).signExtend 24

def opBranch (taken : Core → Bool) (f : BitVec 26) : Operation := fun c s =>
  let k := s.core c
  (s, .ok (if taken k then { jump := some (k.target f), cycles := 2 } else {}))

/-- A call pushes PC + 1; a push that would make DEPTH exceed LIMIT overflows (15 R521). -/
def State.call (s : State) (c : Nat) (dest : BitVec 24) : State × Except Stop Done :=
  let k := s.core c
  if k.ret.length + 1 > k.rsLimit then (s, .error (.trap ⟨4, k.ret.length, 0⟩))
  else (s.modCore c fun k => { k with ret := (k.pc + 1) :: k.ret }, .ok { jump := some dest, cycles := 2 })

def opRet : Operation := fun c s =>
  match (s.core c).ret with
  | [] => (s, .error (.trap ⟨5, 0, 0⟩))
  | p :: r => (s.modCore c fun k => { k with ret := r }, .ok { jump := some p, cycles := 2 })

/-- LOOP (15 R523, 16 R555): a count of 0 goes to LE + 1 without the body. -/
def opLoop (f : BitVec 26) : Operation := fun c s =>
  let n := f.toNat
  let lvl := n / 2 ^ 24
  let csrc := n / 2 ^ 22 % 4
  let k := s.core c
  let count : Word := if csrc = 3 then BitVec.ofNat 32 (n / 1024 % 4096) else k.reg csrc
  let e : BitVec 24 := k.pc + 1 + BitVec.ofNat 24 (n % 1024)
  let s := s.modCore c fun k =>
    { k with ls := vset k.ls lvl (k.pc + 1), le := vset k.le lvl e, lc := vset k.lc lvl count }.setActive lvl (count != 0)
  (s, .ok (if count = 0 then { jump := some (e + 1) } else {}))

/-- SEV (15 R528): EV and BY_SEV on every core of the same part. -/
def opSev : Operation := fun c s =>
  let same (i : Nat) : Bool := decide (i < 3) == decide (c < 3)
  (forUpto 8 (fun i s => if same i then s.modCore i fun k => { k with evr := k.evr ||| 3 } else s) s, .ok {})

/-! Control registers (15 R512, R521). -/

/-- TSR as MTC writes it: BARE only in Bare mode, SEG only in the Drum (15 R517, R531). -/
def Core.tsrValue (c : Nat) (k : Core) (v : Word) : Word :=
  let mask : Word := (if k.bare then 0x7FFF else 0x7DFF) &&& (if c < 3 then 0xFFFF else 0xFEFF)
  (v &&& mask) ||| (k.tsr &&& (if k.bare then 0x8000 else 0x8200))

def opMfc (f : BitVec 26) : Operation := fun c s =>
  let k := s.core c
  let n := fImm f % 64
  if k.priv ≠ 0 then (s, .error (.priv 3 n)) else
  let v : Word :=
    if n = 32 then k.tpc.setWidth 32 else if n = 33 then k.tsr else if n = 34 then k.tcause else if n = 35 then k.taddr
    else if n = 36 then k.trc else if n = 37 then k.tvec.setWidth 32
    else if n = 38 then (match k.ret.getLast? with | none => 0 | some p => p.setWidth 32)
    else if n % 2 = 0 then vget k.segBase ((n - 40) / 2) else vget k.segLimit ((n - 40) / 2)
  let s := if n = 38 then s.modCore c fun k => { k with ret := k.ret.dropLast } else s
  s.writeReg c (fReg f) v

def opMtc (f : BitVec 26) : Operation := fun c s =>
  let k := s.core c
  let n := fImm f % 64
  let v := k.reg (fReg f)
  if k.priv ≠ 0 then (s, .error (.priv 3 n))
  else if n = 38 ∧ k.ret.length ≥ 32 then (s, .error (.io 3 38))
  else
    (s.modCore c fun k =>
      if n = 32 then { k with tpc := v.setWidth 24 } else if n = 33 then { k with tsr := k.tsrValue c v }
      else if n = 34 then { k with tcause := v &&& 0xFFFF } else if n = 35 then { k with taddr := v }
      else if n = 36 then { k with trc := v } else if n = 37 then { k with tvec := v.setWidth 24 &&& 0xFFFFC0 }
      else if n = 38 then { k with ret := k.ret ++ [v.setWidth 24] }
      else if n % 2 = 0 then { k with segBase := vset k.segBase ((n - 40) / 2) v }
      else { k with segLimit := vset k.segLimit ((n - 40) / 2) v },
     .ok {})

/-! The rows. Data and arithmetic (16 R549). -/

def execNop (c : CoreId) (f : BitVec 26) (s : State) : Res := s.issue c.val (fun _ => checkZ f) opNop
def execLdi (c : CoreId) (f : BitVec 26) (s : State) : Res := s.issue c.val (fun _ => checkLdi f) (opLdi f)
def execMov (c : CoreId) (f : BitVec 26) (s : State) : Res := s.issue c.val (fun _ => checkMov f) (opMov f)
def execLea (c : CoreId) (f : BitVec 26) (s : State) : Res := s.issue c.val (fun _ => checkLea f) (opLea f)

def aluModes : List Nat := [0, 1, 2, 3, 4, 5, 6, 7, 8]

def opAdd : BitVec 26 → Operation := opAlu false fun a v => a + v
def opSub : BitVec 26 → Operation := opAlu false fun a v => a - v
def opRsb : BitVec 26 → Operation := opAlu false fun a v => v - a
def opAnd : BitVec 26 → Operation := opAlu true fun a v => a &&& v
def opOr : BitVec 26 → Operation := opAlu true fun a v => a ||| v
def opXor : BitVec 26 → Operation := opAlu true fun a v => a ^^^ v

def execAdd (c : CoreId) (f : BitVec 26) (s : State) : Res := s.issue c.val (fun _ => checkOperand aluModes f) (opAdd f)
def execSub (c : CoreId) (f : BitVec 26) (s : State) : Res := s.issue c.val (fun _ => checkOperand aluModes f) (opSub f)
def execRsb (c : CoreId) (f : BitVec 26) (s : State) : Res := s.issue c.val (fun _ => checkOperand aluModes f) (opRsb f)
def execAnd (c : CoreId) (f : BitVec 26) (s : State) : Res := s.issue c.val (fun _ => checkOperand aluModes f) (opAnd f)
def execOr (c : CoreId) (f : BitVec 26) (s : State) : Res := s.issue c.val (fun _ => checkOperand aluModes f) (opOr f)
def execXor (c : CoreId) (f : BitVec 26) (s : State) : Res := s.issue c.val (fun _ => checkOperand aluModes f) (opXor f)

def opShl : Bool → BitVec 6 → BitVec 16 → Operation := opShift fun a n => a <<< n
def opShr : Bool → BitVec 6 → BitVec 16 → Operation := opShift fun a n => a >>> n
def opSar : Bool → BitVec 6 → BitVec 16 → Operation := opShift fun a n => a.sshiftRight n
def opRor : Bool → BitVec 6 → BitVec 16 → Operation := opShift fun a n => a.rotateRight n

def execShl (c : CoreId) (byReg : Bool) (reg : BitVec 6) (imm : BitVec 16) (s : State) : Res :=
  s.issue c.val (fun _ => checkShift byReg reg imm) (opShl byReg reg imm)
def execShr (c : CoreId) (byReg : Bool) (reg : BitVec 6) (imm : BitVec 16) (s : State) : Res :=
  s.issue c.val (fun _ => checkShift byReg reg imm) (opShr byReg reg imm)
def execSar (c : CoreId) (byReg : Bool) (reg : BitVec 6) (imm : BitVec 16) (s : State) : Res :=
  s.issue c.val (fun _ => checkShift byReg reg imm) (opSar byReg reg imm)
def execRor (c : CoreId) (byReg : Bool) (reg : BitVec 6) (imm : BitVec 16) (s : State) : Res :=
  s.issue c.val (fun _ => checkShift byReg reg imm) (opRor byReg reg imm)

def execMul (c : CoreId) (f : BitVec 26) (s : State) : Res := s.issue c.val (fun _ => checkOperand [0, 2] f) (opMul false f)
def execMulu (c : CoreId) (f : BitVec 26) (s : State) : Res := s.issue c.val (fun _ => checkOperand [0, 2] f) (opMul true f)

/-- BARE_MUL_PRODUCT_LAND (15 R519): the oldest product on its way lands; its cycle, issue + 4, has come. -/
def execBareMulProductLand (c : CoreId) (s : State) : Res :=
  if !s.coreOn c.val then .next s else
  match (s.core c.val).products with
  | [] => .next s
  | p :: _ => .next (s.modCore c.val fun k => { k with cycle := max k.cycle (p.issue + 4) }.landProducts)

/-! Memory and I/O (16 R550). -/

def execLdw (c : CoreId) (f : BitVec 26) (s : State) : Res := s.issue c.val (fun _ => checkMem f) (opLoad 4 false f)
def execLdh (c : CoreId) (f : BitVec 26) (s : State) : Res := s.issue c.val (fun _ => checkMem f) (opLoad 2 true f)
def execLdhu (c : CoreId) (f : BitVec 26) (s : State) : Res := s.issue c.val (fun _ => checkMem f) (opLoad 2 false f)
def execLdb (c : CoreId) (f : BitVec 26) (s : State) : Res := s.issue c.val (fun _ => checkMem f) (opLoad 1 true f)
def execLdbu (c : CoreId) (f : BitVec 26) (s : State) : Res := s.issue c.val (fun _ => checkMem f) (opLoad 1 false f)
def execStw (c : CoreId) (f : BitVec 26) (s : State) : Res := s.issue c.val (fun _ => checkMem f) (opStore 4 f)
def execSth (c : CoreId) (f : BitVec 26) (s : State) : Res := s.issue c.val (fun _ => checkMem f) (opStore 2 f)
def execStb (c : CoreId) (f : BitVec 26) (s : State) : Res := s.issue c.val (fun _ => checkMem f) (opStore 1 f)
def execPush (c : CoreId) (f : BitVec 26) (s : State) : Res := s.issue c.val (fun _ => checkStack f) (opPush f)
def execPop (c : CoreId) (f : BitVec 26) (s : State) : Res := s.issue c.val (fun _ => checkStack f) (opPop f)
def execInp (c : CoreId) (f : BitVec 26) (s : State) : Res := s.issue c.val (fun _ => checkIo f) (opIn f)
def execOutp (c : CoreId) (f : BitVec 26) (s : State) : Res := s.issue c.val (fun _ => checkIo f) (opOut f)

/-! Control and system (16 R552). -/

def execCbr (c : CoreId) (f : BitVec 26) (s : State) : Res :=
  s.issue c.val (fun _ => checkCbr f) (opBranch (fun k => condHolds (fMode f) k.a (k.reg (fReg f))) f)

def execCbi (c : CoreId) (f : BitVec 26) (s : State) : Res :=
  s.issue c.val (fun _ => checkCbi f)
    (opBranch (fun k => condHolds (fMode f) k.a ((BitVec.ofNat 6 (fReg f)).signExtend 32)) f)

def execBr (c : CoreId) (f : BitVec 26) (s : State) : Res := s.issue c.val (fun _ => checkBr f) (opBranch (fun _ => true) f)

def execJmp (c : CoreId) (f : BitVec 26) (s : State) : Res :=
  s.issue c.val (fun _ => checkJ f) fun _ s => (s, .ok { jump := some (f.setWidth 24), cycles := 2 })

def execCall (c : CoreId) (f : BitVec 26) (s : State) : Res :=
  s.issue c.val (fun _ => checkJ f) fun c s => s.call c (f.setWidth 24)

def execJmpr (c : CoreId) (reg : BitVec 6) (imm : BitVec 16) (s : State) : Res :=
  s.issue c.val (fun _ => checkJr reg imm) fun c s =>
    (s, .ok { jump := some (((s.core c).reg reg.toNat).setWidth 24), cycles := 2 })

def execCallr (c : CoreId) (reg : BitVec 6) (imm : BitVec 16) (s : State) : Res :=
  s.issue c.val (fun _ => checkJr reg imm) fun c s => s.call c (((s.core c).reg reg.toNat).setWidth 24)

def execRet (c : CoreId) (f : BitVec 26) (s : State) : Res := s.issue c.val (fun _ => checkZ f) opRet

/-- RETT (15 R535): SR := TSR, PC := TPC, and the resumption of a REP. The resumed count stands until the REP issues. -/
def Core.rett (c : Nat) (k : Core) : Core :=
  let sr := (k.tsr &&& 0x7FFF) ||| (k.sr &&& 0x8000)
  let sr := if sr.getLsbD 9 || decide (c ≥ 3) then sr &&& ~~~(0x100 : Word) else sr
  { k.endSlot [] none with
    sr := sr, pc := k.tpc, resume := if k.tsr.getLsbD 14 then some k.trc else none, cycle := k.cycle + 3 }

def execRett (c : CoreId) (f : BitVec 26) (s : State) : Res :=
  s.atIssue c.val fun s =>
    let pc := (s.core c.val).pc
    match checkZ f with
    | some d => .next (s.trap c.val ⟨3, d, 0⟩ pc none)
    | none =>
      if (s.core c.val).priv ≠ 0 then .next (s.trap c.val ⟨2, 5, 0⟩ pc none)
      else
        let s := s.modCore c.val fun k => k.rett c.val
        .next (if c.val < 3 then s.count (2 + c.val) else s)

def execLoop (c : CoreId) (f : BitVec 26) (s : State) : Res := s.issue c.val (checkLoop f) (opLoop f)

def execSev (c : CoreId) (f : BitVec 26) (s : State) : Res := s.issue c.val (fun _ => checkZ f) opSev

/-- The wait of WFE or WAITT at the core's pc: done at once, or the clock stops (15 R529, R530). -/
def State.wait (s : State) (c : Nat) (f : BitVec 26) (w : CoreWait) (ready : State → Bool) (end_ : Core → Core) : Res :=
  s.atIssue c fun s =>
    match checkZ f with
    | some d => .next (s.trap c ⟨3, d, 0⟩ (s.core c).pc none)
    | none =>
      if ready s then .next ((s.modCore c end_).complete c {}) else .next (s.modCore c fun k => { k with wait := w, resume := none })

def Core.clearEv (k : Core) : Core := { k with evr := k.evr &&& 6 }
def State.evSet (c : Nat) (s : State) : Bool := (s.core c).evr.getLsbD 0

def execWfe (c : CoreId) (f : BitVec 26) (s : State) : Res := s.wait c.val f .wfe (State.evSet c.val) Core.clearEv

def execWfeComplete (c : CoreId) (s : State) : Res :=
  if s.coreOn c.val && (s.core c.val).wait == .wfe && s.evSet c.val then
    .next ((s.modCore c.val Core.clearEv).complete c.val {})
  else .next s

def execWaitt (c : CoreId) (f : BitVec 26) (s : State) : Res :=
  s.wait c.val f .waitt (fun s => s.reached (s.core c.val).tcmp) id

def execWaittComplete (c : CoreId) (s : State) : Res :=
  if s.coreOn c.val && (s.core c.val).wait == .waitt && s.reached (s.core c.val).tcmp then .next (s.complete c.val {})
  else .next s

def execMfc (c : CoreId) (f : BitVec 26) (s : State) : Res := s.issue c.val (fun _ => checkControl c.val f) (opMfc f)
def execMtc (c : CoreId) (f : BitVec 26) (s : State) : Res := s.issue c.val (fun _ => checkControl c.val f) (opMtc f)

/-! REP (15 R526, R527; 16 R556). -/

/-- SHIFT by its MODE: 0–3 by IMM, 4–7 by a register; SHL, SHR, SAR, ROR. -/
def shiftOf (f : BitVec 26) : Option Nat × Operation :=
  let m := fMode f
  let reg := BitVec.ofNat 6 (fReg f)
  let imm := BitVec.ofNat 16 (fImm f)
  let by_ := decide (4 ≤ m)
  let op := if m % 4 = 0 then opShl else if m % 4 = 1 then opShr else if m % 4 = 2 then opSar else opRor
  (if m > 7 then some 0 else checkShift by_ reg imm, op by_ reg imm)

/-- The repeated instruction: its decode check and its operation; none for an undefined or excluded one (R527, R546). -/
def repeated (c : Nat) (w : Word) : Option (Option Nat × Operation) :=
  let f := w.setWidth 26
  match w.toNat / 2 ^ 26 with
  | 0x01 => some (checkZ f, opNop)
  | 0x02 => some (checkLdi f, opLdi f)
  | 0x03 => some (checkMov f, opMov f)
  | 0x04 => some (checkLea f, opLea f)
  | 0x05 => some (checkOperand aluModes f, opAdd f)
  | 0x06 => some (checkOperand aluModes f, opSub f)
  | 0x07 => some (checkOperand aluModes f, opRsb f)
  | 0x08 => some (checkOperand aluModes f, opAnd f)
  | 0x09 => some (checkOperand aluModes f, opOr f)
  | 0x0A => some (checkOperand aluModes f, opXor f)
  | 0x0B => some (shiftOf f)
  | 0x0C => some (checkOperand [0, 2] f, opMul false f)
  | 0x0D => some (checkOperand [0, 2] f, opMul true f)
  | 0x0E => some (checkMem f, opLoad 4 false f)
  | 0x0F => some (checkMem f, opLoad 2 true f)
  | 0x10 => some (checkMem f, opLoad 2 false f)
  | 0x11 => some (checkMem f, opLoad 1 true f)
  | 0x12 => some (checkMem f, opLoad 1 false f)
  | 0x13 => some (checkMem f, opStore 4 f)
  | 0x14 => some (checkMem f, opStore 2 f)
  | 0x15 => some (checkMem f, opStore 1 f)
  | 0x16 => some (checkStack f, opPush f)
  | 0x17 => some (checkStack f, opPop f)
  | 0x18 => some (checkIo f, opIn f)
  | 0x19 => some (checkIo f, opOut f)
  | 0x25 => some (checkZ f, opSev)
  | 0x27 => some (checkControl c f, opMfc f)
  | 0x28 => some (checkControl c f, opMtc f)
  | _ => none

/-- The pair has ended: the REP's address + 2, or the jump of the one loop check at the REP's address (R556). -/
def State.endRep (s : State) (c : Nat) (retired : Nat) : State :=
  let s := s.modCore c fun k => { k.loopCheck k.pc (k.pc + 2) with resume := none }
  if c < 3 then { s with pmon := s.pmon.event (2 + c) retired } else s

/-- `left` iterations; `until_` counts down to the point at which a pending interrupt is taken between iterations. -/
def State.iterate (s : State) (c : Nat) (op : Operation) (done : Nat) (until_ : Option Nat) : Nat → Res
  | 0 => .next (s.endRep c (done + 1))
  | left + 1 =>
    if until_ = some done ∧ done ≠ 0 ∧ (s.takeable c).isSome then
      match s.takeable c with
      | some n => .next (s.interrupt c n (some (BitVec.ofNat 32 (left + 1))))
      | none => .next s
    else
      let s := s.modCore c Core.landProducts
      match op c s with
      | (s, .error (.trap t)) => .next (s.trap c t (s.core c).pc (some (BitVec.ofNat 32 (left + 1))))
      | (_, .error .domeIo) => .refused .domeIo
      | (s, .ok d) =>
        (s.modCore c fun k => { k.endSlot d.wrote d.load with cycle := k.cycle + d.cycles }).iterate c op (done + 1) until_ left

/-- REP and the word `next` that follows it. `intAfter` is the number of iterations after which a pending interrupt is
taken, if one is taken between iterations. -/
def execRep (c : CoreId) (f : BitVec 26) (next : Word) (intAfter : Option Nat) (s : State) : Res :=
  s.atIssue c.val fun s =>
    let k := s.core c.val
    let bad := (checkRep f).or (match repeated c.val next with | none => some 0 | some r => r.1)
    match s.fetchTrap c.val (k.pc + 1) with
    | (s, some t) => .next (s.trap c.val t k.pc k.resume)
    | (s, none) =>
      match bad, repeated c.val next with
      | none, some r =>
        let count : Word := k.resume.getD (if fMode f = 3 then BitVec.ofNat 32 (fImm f) else k.reg (fMode f))
        let s := s.modCore c.val fun k => { k.landSlot with cycle := k.cycle + 1, resume := none }
        s.iterate c.val r.2 0 (if c.val < 3 then intAfter else none) count.toNat
      | d, _ => .next (s.trap c.val ⟨3, d.getD 0, 0⟩ k.pc none)

end Sys2Proof.Machine
end

