-- ==== Sys2Proof/Machine/IoRows.lean ====
section
/-! DEFINITION. INs and OUTs of single registers as commands of their own (each is the IN or OUT instruction that core
`c` executes, its register address and value given), the bursts of the DMA engine (17 R581–R584), the Drum timers
(15 R541) and the overflow of a performance counter (20 R637). -/

namespace Sys2Proof.Machine

/-- An IN of register address `a` into A, X or Y, executed at the core's pc. -/
def State.inRow (s : State) (c r a : Nat) : Res := s.issue c (fun _ => none) fun c s => s.doIn c r a

/-- An OUT of `v` to register address `a`. -/
def State.outRow (s : State) (c a : Nat) (v : Word) : Res := s.issue c (fun _ => none) fun c s => s.doOut c a v

/-- `v` with bit `i` set. -/
def withBit (v : Word) (i : Nat) : Word := v ||| BitVec.ofNat 32 (2 ^ i)

def execAonDtfRead (c : DrumCore) (r : AXY) (s : State) : Res := s.inRow c.val r.num 0x0110
def execEvtStatRead (c : DrumCore) (r : AXY) (s : State) : Res := s.inRow c.val r.num 0x1C04
def execMbxCcountRead (c : DrumCore) (r : AXY) (s : State) : Res := s.inRow c.val r.num 0x0402
def execRingDropRead (c : DrumCore) (n : Fin 16) (r : AXY) (s : State) : Res := s.inRow c.val r.num (0x0805 + 8 * n.val)
def execIntcClaim (c : DrumCore) (n : Fin 3) (r : AXY) (s : State) : Res := s.inRow c.val r.num (0x2040 + n.val)
def execIntcEoi (c : DrumCore) (n : Fin 3) (v : Word) (s : State) : Res := s.outRow c.val (0x2044 + n.val) v

/-- UART 0–5 and 7 by place. -/
def drumUart (u : Fin 7) : Nat := if u.val = 6 then 7 else u.val

def execUartRxdPop (c : DrumCore) (u : Fin 7) (r : AXY) (s : State) : Res := s.inRow c.val r.num (0x1803 + 64 * drumUart u)
def execUartTxdPush (c : DrumCore) (u : Fin 7) (v : Word) (s : State) : Res := s.outRow c.val (0x1802 + 64 * drumUart u) v
def execUartFlushRx (c : DrumCore) (u : Fin 7) (v : Word) (s : State) : Res :=
  s.outRow c.val (0x1807 + 64 * drumUart u) (withBit v 24)
def execUartFlushTx (c : DrumCore) (u : Fin 7) (v : Word) (s : State) : Res :=
  s.outRow c.val (0x1807 + 64 * drumUart u) (withBit v 25)
def execUartBreakSend (c : DrumCore) (u : Fin 7) (v : Word) (s : State) : Res :=
  s.outRow c.val (0x1808 + 64 * drumUart u) (withBit v 16)
def execRingProdWrite (c : DrumCore) (n : Fin 16) (v : Word) (s : State) : Res := s.outRow c.val (0x0802 + 8 * n.val) v
def execRingConsWrite (c : DrumCore) (n : Fin 16) (v : Word) (s : State) : Res := s.outRow c.val (0x0803 + 8 * n.val) v
def execRingCfgWrite (c : DrumCore) (n : Fin 16) (v : Word) (s : State) : Res := s.outRow c.val (0x0801 + 8 * n.val) v
def execCanCfgWrite (c : DrumCore) (m : Fin 2) (v : Word) (s : State) : Res := s.outRow c.val (0x1A00 + 256 * m.val) v
def execCanRxconsWrite (c : DrumCore) (m : Fin 2) (v : Word) (s : State) : Res := s.outRow c.val (0x1A06 + 256 * m.val) v
def execCanTxprodWrite (c : DrumCore) (m : Fin 2) (v : Word) (s : State) : Res := s.outRow c.val (0x1A07 + 256 * m.val) v
def execDmaStart (c : DrumCore) (n : Fin 16) (v : Word) (s : State) : Res := s.outRow c.val (0x0C00 + 8 * n.val) (withBit v 0)
def execDmaResume (c : DrumCore) (n : Fin 16) (v : Word) (s : State) : Res := s.outRow c.val (0x0C00 + 8 * n.val) (withBit v 1)
def execDmaAbort (c : DrumCore) (n : Fin 16) (v : Word) (s : State) : Res := s.outRow c.val (0x0C00 + 8 * n.val) (withBit v 2)

/-- A word for MMU_INVn: VPN and ASID of `v`, the given OP. -/
def invWord (v : Word) (op : Nat) : Word := (v &&& 0xFFFFF0FF) ||| BitVec.ofNat 32 (op * 256)

def execMmuInvalidatePage (c : DrumCore) (n : Fin 4) (v : Word) (s : State) : Res :=
  s.outRow c.val (0x1002 + 4 * n.val) (invWord v 0)
def execMmuInvalidateAsid (c : DrumCore) (n : Fin 4) (v : Word) (s : State) : Res :=
  s.outRow c.val (0x1002 + 4 * n.val) (invWord v 1)
def execMmuInvalidateAll (c : DrumCore) (n : Fin 4) (v : Word) (s : State) : Res :=
  s.outRow c.val (0x1002 + 4 * n.val) (invWord v 2)

/-- PWR_REQ with TARGET 0. -/
def execPwrReqRun (c : DrumCore) (v : Word) (s : State) : Res := s.outRow c.val 0x0200 (v &&& 0xFFFFFFF8)
def execPwrReqEntry (c : DrumCore) (v : Word) (s : State) : Res := s.outRow c.val 0x0200 v
def execLtimCfgWrite (c : DrumCore) (t : Fin 4) (v : Word) (s : State) : Res := s.outRow c.val (0x0130 + 4 * t.val) v
def execWdtKick (c : DrumCore) (n : Fin 3) (v : Word) (s : State) : Res := s.outRow c.val (0x0341 + 2 * n.val) v
def execPmonClear (c : DrumCore) (n : Fin 16) (v : Word) (s : State) : Res :=
  s.outRow c.val (0x1E00 + 4 * n.val) (withBit v 10)
def execPmonVallRead (c : DrumCore) (n : Fin 16) (r : AXY) (s : State) : Res := s.inRow c.val r.num (0x1E01 + 4 * n.val)
def execMbxDoorbellOut (c : DrumCore) (v : Word) (s : State) : Res := s.outRow c.val 0x0400 (withBit v 1)
def execRegisterWrite (c : DrumCore) (addr : BitVec 16) (v : Word) (s : State) : Res := s.outRow c.val addr.toNat v

/-! The DMA engine. -/

/-- The request of R581 is present. -/
def State.dmaRequest (s : State) (n : Nat) : Bool :=
  let c := s.dmaCh n
  match c.desc with
  | none => false
  | some d =>
    if d.req = 0 then true
    else if d.req ≤ 7 then !(vget s.uarts (if d.req = 7 then 7 else d.req - 1)).rx.isEmpty
    else if d.req ≤ 14 then decide ((vget s.uarts (if d.req = 14 then 7 else d.req - 8)).tx.length < 64)
    else decide (c.tokens > 0)

/-- Running: the channel has work and is not stopped. -/
def DmaState.runs : DmaState → Bool
  | .waiting | .active | .preempted => true
  | _ => false

/-- Ready (R581): running with its request present; a held value or a write-back asks for nothing more. -/
def State.dmaReady (s : State) (n : Nat) : Bool :=
  let c := s.dmaCh n
  c.state.runs && (s.dmaRequest n || c.held.isSome || c.desc.any fun d => decide (c.k ≥ d.count))

/-- The ready channel of highest priority; among equals round-robin after the last owner (R582). -/
def State.dmaChoice (s : State) : Option Nat :=
  let order := (List.range 16).map fun i => (s.dma.owner + 1 + i) % 16
  (order.filter s.dmaReady).foldl
    (fun best n => match best with
      | none => some n
      | some m => if (s.dmaCh n).prio < (s.dmaCh m).prio then some n else some m) none

/-- The address of element `k` on a side. -/
def elementAddr (base : Word) (stride : Int) (k : Nat) (io : Bool) : Nat :=
  if io then (BitVec.ofInt 16 ((base.toNat : Int) + k * stride)).toNat else (BitVec.ofInt 32 ((base.toNat : Int) + k * stride)).toNat

def Descriptor.srcAddr (d : Descriptor) (k : Nat) : Nat := elementAddr d.src d.sstride k d.srcIo
def Descriptor.dstAddr (d : Descriptor) (k : Nat) : Nat := elementAddr d.dst d.dstride k d.dstIo

/-- Element `k` and `done` elements moved. -/
def State.dmaMoved (s : State) (n k esize : Nat) : State :=
  s.modDma n fun c => { c with k := k + 1, doneBytes := (k + 1) * esize, held := none, tokens := c.tokens - 1 }

/-- The read of element `k`, or its FAULT code. -/
def State.dmaElement (s : State) (n : Nat) (d : Descriptor) (k : Nat) : State × Except Nat Nat :=
  if d.srcIo then
    match s.ioRead (d.srcAddr k) with
    | (s, .ok v) => (s, .ok (v.toNat % 2 ^ (8 * d.esize)))
    | (s, .error _) => (s, .error 7)
  else s.dmaRead n (d.srcAddr k) d.esize

/-- The write of element `k`. -/
def State.dmaPut (s : State) (n : Nat) (d : Descriptor) (k v : Nat) : State × Except Nat Unit :=
  if d.dstIo then
    match s.ioWrite 3 (s.dmaCh n).priv.toNat (d.dstAddr k) v with
    | .ok s => (s, .ok ())
    | .error _ => (s, .error 7)
  else s.dmaWrite n (d.dstAddr k) (le d.esize v)

/-- The reads of a burst in element order, up to the first fault. -/
def State.dmaReads (s : State) (n : Nat) (d : Descriptor) (k : Nat) : Nat → State × List Nat × Option (Nat × Nat)
  | 0 => (s, [], none)
  | j + 1 =>
    match s.dmaElement n d k with
    | (s, .error e) => (s, [], some (e, k))
    | (s, .ok v) =>
      let r := s.dmaReads n d (k + 1) j
      (r.1, v :: r.2.1, r.2.2)

/-- The writes of a burst in element order; the channel faults at the first that fails. -/
def State.dmaWrites (s : State) (n : Nat) (d : Descriptor) (k : Nat) : List Nat → State × Bool
  | [] => (s, true)
  | v :: r =>
    match s.dmaPut n d k v with
    | (s, .error e) =>
      let s := if d.srcIo then s.modDma n fun c => { c with held := some (BitVec.ofNat 32 v) } else s
      (s.dmaFault n e 2 (d.dstAddr k), false)
    | (s, .ok _) => (s.dmaMoved n k d.esize).dmaWrites n d (k + 1) r

/-- Elements of the next burst: one with an I/O side, else up to 64 bytes of the descriptor; a timer request gives one
element per expiry (R581, R582). -/
def DmaChannel.burst (c : DmaChannel) (d : Descriptor) : Nat :=
  if d.srcIo || d.dstIo then 1
  else
    let n := min (d.count - c.k) (64 / d.esize)
    if d.req ≥ 15 then min n c.tokens else n

/-- The end of a descriptor: write-back, DONE_F, the next descriptor or IDLE (R584). -/
def State.dmaDescriptorEnd (s : State) (n : Nat) (d : Descriptor) : State :=
  let a := (s.dmaCh n).addr.toNat * 32
  let wb : State × Option (Nat × Nat) :=
    if !d.wb then (s, none)
    else match s.dmaWrite n (a + 24) (le 4 s.now) with
      | (t, .error e) => (t, some (e, a + 24))
      | (t, .ok _) =>
        match t.dmaWrite n (a + 28) (le 4 (s.now / 2 ^ 32)) with
        | (t, .error e) => (t, some (e, a + 28))
        | (t, .ok _) => (t, none)
  match wb with
  | (s, some (e, f)) => s.dmaFault n e 0 f
  | (s, none) =>
    let s := if d.irq || d.last then (s.claim 9).2.modDma n fun c => { c with doneF := true } else s
    if d.last then s.modDma n fun c => { c with state := .idle, desc := none, k := 0 } else s.dmaLoad n d.next.toNat

/-- One burst of channel `n`. -/
def State.dmaBurst (s : State) (n : Nat) (d : Descriptor) : State :=
  let c := s.dmaCh n
  let r : State × Bool :=
    if c.k ≥ d.count then (s, true)
    else match c.held with
      | some v => s.dmaWrites n d c.k [v.toNat]
      | none =>
        let q := s.dmaReads n d c.k (c.burst d)
        let w := q.1.dmaWrites n d c.k q.2.1
        match w, q.2.2 with
        | (s, true), some (e, k) => (s.dmaFault n e 1 (d.srcAddr k), false)
        | w, _ => w
  if !r.2 then r.1 else
  let s := r.1.count (22 + n)
  if (s.dmaCh n).k ≥ d.count then s.dmaDescriptorEnd n d else s

/-- DMA_BURST: at a burst boundary the engine takes a channel and moves one burst; a displaced channel is pre-empted, a
channel whose request dropped waits. -/
def execDmaBurst (s : State) : Res :=
  if !s.fast then .next s else
  match s.dmaChoice with
  | none => .next s
  | some n =>
    match (s.dmaCh n).desc with
    | none => .next s
    | some d =>
      let displaced := (List.range 16).filter fun m => m != n && (s.dmaCh m).state == .active && s.dmaReady m
      let park (m : Nat) (c : DmaChannel) : DmaChannel :=
        if c.state == .active && m != n then { c with state := if displaced.contains m then .preempted else .waiting } else c
      let s := if displaced.isEmpty then s else s.count 38
      let s := { s with dma := { channels := forUpto 16 (fun m v => vmod v m (park m)) s.dma.channels, owner := n } }
      let s := (s.modDma n fun c => { c with state := .active }).dmaBurst n d
      .next (if (s.dmaCh n).state == .active && !s.dmaReady n then s.modDma n fun c => { c with state := .waiting } else s)

/-! Drum timers. -/

/-- CMP after an expiry in periodic mode: one PERIOD on; after a sleep, the first target after this tick. -/
def TimerSet.advance (t : TimerSet) (tick : Nat) (slept : Bool) : Word :=
  let d := (BitVec.ofNat 32 tick - t.cmp).toNat
  let k := if slept && d ≠ 0 then d / t.period.toNat + 1 else 1
  t.cmp + BitVec.ofNat 32 (k * t.period.toNat)

/-- TIMER_EXPIRY. A field written in the tick of the expiry keeps what was written. -/
def execTimerExpiry (t : Fin 4) (s : State) : Res :=
  let r := vget s.timers t.val
  let o := r.inForce
  if !s.fast || !o.en || !s.reached o.cmp then .next s else
  let slept := s.pwr.handoverTick == some s.clk.tick && BitVec.ofNat 32 s.clk.tick != o.cmp
  let s := (s.claim 8).2.count 75
  let next := if o.periodic then o.advance s.clk.tick slept else o.cmp
  let r' : DrumTimer :=
    { r with expired := true, missed := r.missed || r.expired || (o.periodic && slept)
             en := if r.en = o.en then o.periodic else r.en, cmp := if r.cmp = o.cmp then next else r.cmp
             old := r.old.map fun _ => { o with en := o.periodic, cmp := next } }
  let serve (c : DmaChannel) : DmaChannel :=
    if c.state.runs && c.desc.any (fun d => d.req == 15 + t.val) then { c with tokens := c.tokens + 1 } else c
  .next { s with timers := vset s.timers t.val r', dma := { s.dma with channels := s.dma.channels.map serve } }

/-! Performance counters. -/

/-- PMON_OVERFLOW: counter `n` stands at its highest value and its event occurs once more. -/
def execPmonOverflow (n : Fin 16) (s : State) : Res :=
  let c := vget s.pmon.counters n.val
  if s.fast && c.en && !s.pmon.freeze && c.value == 0xFFFFFFFFFFFF then
    .next { s with pmon :=
      { s.pmon with counters := vset s.pmon.counters n.val { c with value := 0, ovf := true }
                    freezing := s.pmon.freezing || s.pmon.freezeOnOvf } }
  else .next s

end Sys2Proof.Machine
end

