-- ==== Sys2Proof/Machine/Lockstep.lean ====
section
/-! DEFINITION. Lockstep mismatches of the loop pairs and of the supervisor pair, and their restarts (05 R193–R195, 06 R222,
15 R542). -/

namespace Sys2Proof.Machine

/-- Both cores of a pair enter the lockstep entry of the boot ROM in Bare mode, whatever EXL; TRC and a wait are lost
(15 R542, R543). -/
def Core.lockstep (k : Core) : Core :=
  let k := k.enter 1 0 0 k.pc none none
  { k with pc := 0xFF0100, sr := k.sr ||| 0x200, trc := 0 }

/-- Number of the context of pair 0–3 (a cluster) or 4 (the supervisor). -/
def pairCore (p : Nat) : Nat := if p < 4 then 4 + p else 3

/-- Microseconds of a span of DT (rounding: DESIGN CHOICE, log 7). -/
def spanUs (n : Nat) : Nat := (rnd ((n : Int) * 1000000) (2 ^ 32)).toNat

/-- LOCKSTEP records of a cluster's mismatches once their action, a restart or the cluster's failure, is complete (R195). -/
def State.lockstepRecords (s : State) (c : Nat) : State :=
  (s.cluster c).notes.foldl (fun s n => s.domeRecord 11 n.cause 0x20 n.dt
    (le 1 c ++ le 1 n.count ++ le 2 (min 65535 (spanUs (s.now - n.dt))) ++ le 4 (min 0xFFFF_FFFF (spanUs n.age))))
    (s.modCluster c fun k => { k with notes := [], restart := none })

/-- A lane's loop state is the last checkpoint's; the NCOs keep their rates until the next update (R193). -/
def TrkLane.restore (l : TrkLane) (saved : Option Saved) : TrkLane :=
  match saved with
  | none => l
  | some k => if l.st == .absent then l else { l with loop := { k.loop with last := none }, now := k.now }

/-- A channel when its cluster's pair has restarted: its loop state of the last checkpoint, and a self-check that waited begins (R198). -/
def Channel.restarted (c : Channel) (now : Nat) : Channel :=
  { c with upper := c.upper.restore c.savedUpper, lower := c.lower.restore c.savedLower
           selfCheck := c.selfCheck.map fun _ => now + ms 1 }

/-- A cluster's pair: frozen and restarting, or the cluster fails at the third mismatch within 10 s (R193, R194); its
channel leaves a calibration run (10 R362). -/
def State.clusterMismatch (s : State) (c cause : Nat) (ms : List Nat) : State :=
  let s := s.modTrk fun t => { t with lockstep := sat16 t.lockstep }
  let s := s.modCluster c fun k =>
    { k with mismatches := ms, restart := some s.now, frozen := true, notes := k.notes ++ [⟨s.now, cause, ms.length, s.now - k.checkpoint⟩] }
  if ms.length ≥ 3 then (s.lockstepRecords c).failCluster c cause else s.loseRunCluster c

/-- The supervisor pair: the epoch freezes, a calibration run aborts with reason 8, a Sketch solution restarts once (06 R222,
10 R361, 04 R154). -/
def State.supervisorMismatch (s : State) (ms : List Nat) : State :=
  let s := s.modTrk fun t => { t with supMismatches := ms, supRestart := some s.now, supFrozen := true }
  let s := match s.cal.run with
    | none => s
    | some r => s.calAbort r.trigger 8 255
  match s.easel.fix with
  | none => s
  | some f =>
    if f.stage != .solve then s
    else if f.restarted then s.endFix .fault 0 []
    else s.modEasel fun e => { e with fix := some { f with restarted := true } }

/-- LOCKSTEP_MISMATCH of a pair that is powered: entered in the audit trail at rank 3. -/
def execLockstepMismatch (pair : Fin 5) (s : State) : Res :=
  let p := pair.val
  if !s.domeService || (decide (p < 4) && !s.clusterUp p) then .next s
  else
    let before := if p < 4 then (s.cluster p).mismatches else s.trk.supMismatches
    let ms := recent s.now (10 * second) (s.now :: before)
    let (cause, s) := s.claim 3
    let s := s.audit 0x0006 (some 5) cause s.now false false (le 1 p ++ le 1 ms.length)
    let s := s.modCore (pairCore p) Core.lockstep
    .next (if p < 4 then s.clusterMismatch p cause ms else s.supervisorMismatch ms)

/-- LOOP_PAIR_RESTART_COMPLETE: a cluster's record of R195, and self-checks that waited begin (R198); the supervisor's late
TP_PULSE records (08 R302). -/
def execLoopPairRestartComplete (pair : Fin 5) (s : State) : Res :=
  let p := pair.val
  if !s.domeService then .next s
  else if p < 4 then
    if (s.cluster p).restart.isNone then .next s
    else
      let back (v : Vector Channel 192) (i : Fin 192) : Channel :=
        if i.val / 48 = p then (vget v i.val).restarted s.now else vget v i.val
      .next ((s.modTrk fun t => { t with channels := Vector.ofFn (back t.channels) }).lockstepRecords p)
  else if s.trk.supRestart.isNone then .next s
  else
    let held := s.tp.late
    let s := (s.modTrk fun t => { t with supRestart := none }).modTp fun t => { t with late := [] }
    .next (held.foldl (fun s r => s.domeRecord 10 r.1 0x32 r.2.1 r.2.2) s)

end Sys2Proof.Machine
end

