-- ==== Sys2Proof/Machine/Dispatch.lean ====
section
/-! DEFINITION. The meaning of every command and event: one arm for each constructor of Instr. -/

namespace Sys2Proof.Machine

def exec (i : Instr) (s : State) : Host.Outcome State Fault Refusal :=
  match i with
  | .nop c f => Sys2Proof.Machine.execNop c f s
  | .ldi c f => Sys2Proof.Machine.execLdi c f s
  | .mov c f => Sys2Proof.Machine.execMov c f s
  | .lea c f => Sys2Proof.Machine.execLea c f s
  | .add c f => Sys2Proof.Machine.execAdd c f s
  | .sub c f => Sys2Proof.Machine.execSub c f s
  | .rsb c f => Sys2Proof.Machine.execRsb c f s
  | .and c f => Sys2Proof.Machine.execAnd c f s
  | .or c f => Sys2Proof.Machine.execOr c f s
  | .xor c f => Sys2Proof.Machine.execXor c f s
  | .shl c byReg reg imm => Sys2Proof.Machine.execShl c byReg reg imm s
  | .shr c byReg reg imm => Sys2Proof.Machine.execShr c byReg reg imm s
  | .sar c byReg reg imm => Sys2Proof.Machine.execSar c byReg reg imm s
  | .ror c byReg reg imm => Sys2Proof.Machine.execRor c byReg reg imm s
  | .mul c f => Sys2Proof.Machine.execMul c f s
  | .mulu c f => Sys2Proof.Machine.execMulu c f s
  | .bareMulProductLand c => Sys2Proof.Machine.execBareMulProductLand c s
  | .ldw c f => Sys2Proof.Machine.execLdw c f s
  | .ldh c f => Sys2Proof.Machine.execLdh c f s
  | .ldhu c f => Sys2Proof.Machine.execLdhu c f s
  | .ldb c f => Sys2Proof.Machine.execLdb c f s
  | .ldbu c f => Sys2Proof.Machine.execLdbu c f s
  | .stw c f => Sys2Proof.Machine.execStw c f s
  | .sth c f => Sys2Proof.Machine.execSth c f s
  | .stb c f => Sys2Proof.Machine.execStb c f s
  | .push c f => Sys2Proof.Machine.execPush c f s
  | .pop c f => Sys2Proof.Machine.execPop c f s
  | .inp c f => Sys2Proof.Machine.execInp c f s
  | .outp c f => Sys2Proof.Machine.execOutp c f s
  | .cbr c f => Sys2Proof.Machine.execCbr c f s
  | .cbi c f => Sys2Proof.Machine.execCbi c f s
  | .br c f => Sys2Proof.Machine.execBr c f s
  | .jmp c f => Sys2Proof.Machine.execJmp c f s
  | .call c f => Sys2Proof.Machine.execCall c f s
  | .jmpr c reg imm => Sys2Proof.Machine.execJmpr c reg imm s
  | .callr c reg imm => Sys2Proof.Machine.execCallr c reg imm s
  | .ret c f => Sys2Proof.Machine.execRet c f s
  | .rett c f => Sys2Proof.Machine.execRett c f s
  | .loop c f => Sys2Proof.Machine.execLoop c f s
  | .rep c f next intAfter => Sys2Proof.Machine.execRep c f next intAfter s
  | .wfe c f => Sys2Proof.Machine.execWfe c f s
  | .wfeComplete c => Sys2Proof.Machine.execWfeComplete c s
  | .sev c f => Sys2Proof.Machine.execSev c f s
  | .waitt c f => Sys2Proof.Machine.execWaitt c f s
  | .waittComplete c => Sys2Proof.Machine.execWaittComplete c s
  | .mfc c f => Sys2Proof.Machine.execMfc c f s
  | .mtc c f => Sys2Proof.Machine.execMtc c f s
  | .interruptEntry c => Sys2Proof.Machine.execInterruptEntry c s
  | .aonDtfRead c r => Sys2Proof.Machine.execAonDtfRead c r s
  | .evtStatRead c r => Sys2Proof.Machine.execEvtStatRead c r s
  | .mbxCcountRead c r => Sys2Proof.Machine.execMbxCcountRead c r s
  | .ringDropRead c n r => Sys2Proof.Machine.execRingDropRead c n r s
  | .intcClaim c n r => Sys2Proof.Machine.execIntcClaim c n r s
  | .intcEoi c n v => Sys2Proof.Machine.execIntcEoi c n v s
  | .uartRxdPop c u r => Sys2Proof.Machine.execUartRxdPop c u r s
  | .uartTxdPush c u v => Sys2Proof.Machine.execUartTxdPush c u v s
  | .uartFlushRx c u v => Sys2Proof.Machine.execUartFlushRx c u v s
  | .uartFlushTx c u v => Sys2Proof.Machine.execUartFlushTx c u v s
  | .uartBreakSend c u v => Sys2Proof.Machine.execUartBreakSend c u v s
  | .ringProdWrite c n v => Sys2Proof.Machine.execRingProdWrite c n v s
  | .ringConsWrite c n v => Sys2Proof.Machine.execRingConsWrite c n v s
  | .ringCfgWrite c n v => Sys2Proof.Machine.execRingCfgWrite c n v s
  | .canCfgWrite c m v => Sys2Proof.Machine.execCanCfgWrite c m v s
  | .canRxconsWrite c m v => Sys2Proof.Machine.execCanRxconsWrite c m v s
  | .canTxprodWrite c m v => Sys2Proof.Machine.execCanTxprodWrite c m v s
  | .dmaStart c n v => Sys2Proof.Machine.execDmaStart c n v s
  | .dmaResume c n v => Sys2Proof.Machine.execDmaResume c n v s
  | .dmaAbort c n v => Sys2Proof.Machine.execDmaAbort c n v s
  | .mmuInvalidatePage c n v => Sys2Proof.Machine.execMmuInvalidatePage c n v s
  | .mmuInvalidateAsid c n v => Sys2Proof.Machine.execMmuInvalidateAsid c n v s
  | .mmuInvalidateAll c n v => Sys2Proof.Machine.execMmuInvalidateAll c n v s
  | .pwrReqRun c v => Sys2Proof.Machine.execPwrReqRun c v s
  | .pwrReqEntry c v => Sys2Proof.Machine.execPwrReqEntry c v s
  | .ltimCfgWrite c t v => Sys2Proof.Machine.execLtimCfgWrite c t v s
  | .wdtKick c n v => Sys2Proof.Machine.execWdtKick c n v s
  | .pmonClear c n v => Sys2Proof.Machine.execPmonClear c n v s
  | .pmonVallRead c n r => Sys2Proof.Machine.execPmonVallRead c n r s
  | .mbxDoorbellOut c v => Sys2Proof.Machine.execMbxDoorbellOut c v s
  | .registerWrite c addr v => Sys2Proof.Machine.execRegisterWrite c addr v s
  | .readStatus quad n => Sys2Proof.Machine.execReadStatus quad n s
  | .writePacket quad bytes => Sys2Proof.Machine.execWritePacket quad bytes s
  | .readRing quad rsel n => Sys2Proof.Machine.execReadRing quad rsel n s
  | .readChain quad n => Sys2Proof.Machine.execReadChain quad n s
  | .hportUnknownInstruction code => Sys2Proof.Machine.execHportUnknownInstruction code s
  | .malformedTransaction t => Sys2Proof.Machine.execMalformedTransaction t s
  | .undefinedOpcode t => Sys2Proof.Machine.execUndefinedOpcode t s
  | .replyRelease q => Sys2Proof.Machine.execReplyRelease q s
  | .varnishRecordOffer => Sys2Proof.Machine.execVarnishRecordOffer s
  | .mailboxOutputDelivery => Sys2Proof.Machine.execMailboxOutputDelivery s
  | .mailboxPacketTake lenOk crcOk => Sys2Proof.Machine.execMailboxPacketTake lenOk crcOk s
  | .mailboxCollision word aLanes bLanes aData bData => Sys2Proof.Machine.execMailboxCollision word aLanes bLanes aData bData s
  | .sysNop t => Sys2Proof.Machine.execSysNop t s
  | .sysGetIdent t => Sys2Proof.Machine.execSysGetIdent t s
  | .sysGetStatus t => Sys2Proof.Machine.execSysGetStatus t s
  | .sysReset t => Sys2Proof.Machine.execSysReset t s
  | .sysEcho t => Sys2Proof.Machine.execSysEcho t s
  | .pwrSetProfile t => Sys2Proof.Machine.execPwrSetProfile t s
  | .profileChangeEffect => Sys2Proof.Machine.execProfileChangeEffect s
  | .pwrGetState t => Sys2Proof.Machine.execPwrGetState t s
  | .pwrEnter t => Sys2Proof.Machine.execPwrEnter t s
  | .pwrSetWake t => Sys2Proof.Machine.execPwrSetWake t s
  | .pwrGetWake t => Sys2Proof.Machine.execPwrGetWake t s
  | .pwrSetTimer t => Sys2Proof.Machine.execPwrSetTimer t s
  | .pwrSetVcore t => Sys2Proof.Machine.execPwrSetVcore t s
  | .pwrGetRlink t => Sys2Proof.Machine.execPwrGetRlink t s
  | .timeGet t => Sys2Proof.Machine.execTimeGet t s
  | .timeGetMap t => Sys2Proof.Machine.execTimeGetMap t s
  | .timeSetEvt t => Sys2Proof.Machine.execTimeSetEvt t s
  | .timeGetEvt t => Sys2Proof.Machine.execTimeGetEvt t s
  | .inputSetPort t => Sys2Proof.Machine.execInputSetPort t s
  | .inputGetPort t => Sys2Proof.Machine.execInputGetPort t s
  | .inputTrain t => Sys2Proof.Machine.execInputTrain t s
  | .inputGetHistogram t => Sys2Proof.Machine.execInputGetHistogram t s
  | .inputGetSpectrum t => Sys2Proof.Machine.execInputGetSpectrum t s
  | .spectrumJobComplete p power u => Sys2Proof.Machine.execSpectrumJobComplete p power u s
  | .inputSetNotch t => Sys2Proof.Machine.execInputSetNotch t s
  | .inputGetNotch t => Sys2Proof.Machine.execInputGetNotch t s
  | .inputSetArray t => Sys2Proof.Machine.execInputSetArray t s
  | .inputGetArray t => Sys2Proof.Machine.execInputGetArray t s
  | .inputSetGlobal t => Sys2Proof.Machine.execInputSetGlobal t s
  | .inputGetGlobal t => Sys2Proof.Machine.execInputGetGlobal t s
  | .acqSearch t => Sys2Proof.Machine.execAcqSearch t s
  | .acqAbort t => Sys2Proof.Machine.execAcqAbort t s
  | .acqCapture t => Sys2Proof.Machine.execAcqCapture t s
  | .captureStart temp => Sys2Proof.Machine.execCaptureStart temp s
  | .captureEnd data => Sys2Proof.Machine.execCaptureEnd data s
  | .acqSketchFix t => Sys2Proof.Machine.execAcqSketchFix t s
  | .sketchFixComplete sol coarse => Sys2Proof.Machine.execSketchFixComplete sol coarse s
  | .acqGetStatus t => Sys2Proof.Machine.execAcqGetStatus t s
  | .acqSetWatch t => Sys2Proof.Machine.execAcqSetWatch t s
  | .acqGetWatch t => Sys2Proof.Machine.execAcqGetWatch t s
  | .acqListCaptures t => Sys2Proof.Machine.execAcqListCaptures t s
  | .acqReadCapture t => Sys2Proof.Machine.execAcqReadCapture t s
  | .acqFreeCapture t => Sys2Proof.Machine.execAcqFreeCapture t s
  | .acqSetSketch t => Sys2Proof.Machine.execAcqSetSketch t s
  | .acqGetSketch t => Sys2Proof.Machine.execAcqGetSketch t s
  | .bankPassEnd b cells => Sys2Proof.Machine.execBankPassEnd b cells s
  | .handoverQueueTimeout => Sys2Proof.Machine.execHandoverQueueTimeout s
  | .trkSetLoop t => Sys2Proof.Machine.execTrkSetLoop t s
  | .trkGetLoop t => Sys2Proof.Machine.execTrkGetLoop t s
  | .trkSetPalette t => Sys2Proof.Machine.execTrkSetPalette t s
  | .trkGetPalette t => Sys2Proof.Machine.execTrkGetPalette t s
  | .trkAssign t => Sys2Proof.Machine.execTrkAssign t s
  | .trkRelease t => Sys2Proof.Machine.execTrkRelease t s
  | .trkGetChannel t => Sys2Proof.Machine.execTrkGetChannel t s
  | .trkGetSummary t => Sys2Proof.Machine.execTrkGetSummary t s
  | .trkSetConfig t => Sys2Proof.Machine.execTrkSetConfig t s
  | .trkGetConfig t => Sys2Proof.Machine.execTrkGetConfig t s
  | .accumulationDump ch lower d => Sys2Proof.Machine.execAccumulationDump ch lower d s
  | .sidePeakCheckEnd ch lower => Sys2Proof.Machine.execSidePeakCheckEnd ch lower s
  | .selfCheckComplete ch pass => Sys2Proof.Machine.execSelfCheckComplete ch pass s
  | .loopStateCheckpoint => Sys2Proof.Machine.execLoopStateCheckpoint s
  | .lockstepMismatch pair => Sys2Proof.Machine.execLockstepMismatch pair s
  | .loopPairRestartComplete pair => Sys2Proof.Machine.execLoopPairRestartComplete pair s
  | .pullInTimeout ch lower => Sys2Proof.Machine.execPullInTimeout ch lower s
  | .syncTimeout ch lower => Sys2Proof.Machine.execSyncTimeout ch lower s
  | .lossTimeExpiry ch lower => Sys2Proof.Machine.execLossTimeExpiry ch lower s
  | .lostCoastExpiry ch => Sys2Proof.Machine.execLostCoastExpiry ch s
  | .reacqTimeout ch => Sys2Proof.Machine.execReacqTimeout ch s
  | .lostLaneCheck ch lower u => Sys2Proof.Machine.execLostLaneCheck ch lower u s
  | .lostLaneReentry ch lower => Sys2Proof.Machine.execLostLaneReentry ch lower s
  | .multipathFit ch lower u => Sys2Proof.Machine.execMultipathFit ch lower u s
  | .measurementEpoch temp units sol u => Sys2Proof.Machine.execMeasurementEpoch temp units sol u s
  | .signatureComplete => Sys2Proof.Machine.execSignatureComplete s
  | .claimRelease => Sys2Proof.Machine.execClaimRelease s
  | .calUnitsRelease peaks => Sys2Proof.Machine.execCalUnitsRelease peaks s
  | .calRunComplete m => Sys2Proof.Machine.execCalRunComplete m s
  | .calRetryHoldoffExpiry => Sys2Proof.Machine.execCalRetryHoldoffExpiry s
  | .odometerCommit => Sys2Proof.Machine.execOdometerCommit s
  | .navSetConfig t => Sys2Proof.Machine.execNavSetConfig t s
  | .navGetConfig t => Sys2Proof.Machine.execNavGetConfig t s
  | .navSetPrior t => Sys2Proof.Machine.execNavSetPrior t s
  | .navSetTime t => Sys2Proof.Machine.execNavSetTime t s
  | .navLoadUnit t => Sys2Proof.Machine.execNavLoadUnit t s
  | .navGetEph t => Sys2Proof.Machine.execNavGetEph t s
  | .navGetSolution t => Sys2Proof.Machine.execNavGetSolution t s
  | .integSetConfig t => Sys2Proof.Machine.execIntegSetConfig t s
  | .integGetConfig t => Sys2Proof.Machine.execIntegGetConfig t s
  | .integGetStatus t => Sys2Proof.Machine.execIntegGetStatus t s
  | .tpSet t => Sys2Proof.Machine.execTpSet t s
  | .tpGet t => Sys2Proof.Machine.execTpGet t s
  | .tpSetHoldover t => Sys2Proof.Machine.execTpSetHoldover t s
  | .tpGetHoldover t => Sys2Proof.Machine.execTpGetHoldover t s
  | .tpGetState t => Sys2Proof.Machine.execTpGetState t s
  | .tpPulse g temp u v => Sys2Proof.Machine.execTpPulse g temp u v s
  | .tpLeadingEdge g => Sys2Proof.Machine.execTpLeadingEdge g s
  | .tpTrailingEdge g => Sys2Proof.Machine.execTpTrailingEdge g s
  | .holdoverStart rq => Sys2Proof.Machine.execHoldoverStart rq s
  | .holdoverDtMap temp => Sys2Proof.Machine.execHoldoverDtMap temp s
  | .holdLimitReached => Sys2Proof.Machine.execHoldLimitReached s
  | .calRun t => Sys2Proof.Machine.execCalRun t s
  | .calGetStatus t => Sys2Proof.Machine.execCalGetStatus t s
  | .calSetConfig t => Sys2Proof.Machine.execCalSetConfig t s
  | .calGetConfig t => Sys2Proof.Machine.execCalGetConfig t s
  | .calGetValues t => Sys2Proof.Machine.execCalGetValues t s
  | .domeGetIdent t => Sys2Proof.Machine.execDomeGetIdent t s
  | .domeGetCert t => Sys2Proof.Machine.execDomeGetCert t s
  | .domeSeal t => Sys2Proof.Machine.execDomeSeal t s
  | .domeGetCounters t => Sys2Proof.Machine.execDomeGetCounters t s
  | .domeReadAudit t => Sys2Proof.Machine.execDomeReadAudit t s
  | .domeAuditAck t => Sys2Proof.Machine.execDomeAuditAck t s
  | .domeReadRecord t => Sys2Proof.Machine.execDomeReadRecord t s
  | .domeRecordAck t => Sys2Proof.Machine.execDomeRecordAck t s
  | .domeGetStore t => Sys2Proof.Machine.execDomeGetStore t s
  | .domeGetOdometer t => Sys2Proof.Machine.execDomeGetOdometer t s
  | .domeSetOdoConfig t => Sys2Proof.Machine.execDomeSetOdoConfig t s
  | .domeGetOdoConfig t => Sys2Proof.Machine.execDomeGetOdoConfig t s
  | .domeZoneLoadBegin t => Sys2Proof.Machine.execDomeZoneLoadBegin t s
  | .domeZoneLoadData t => Sys2Proof.Machine.execDomeZoneLoadData t s
  | .domeZoneLoadCommit t => Sys2Proof.Machine.execDomeZoneLoadCommit t s
  | .domeZoneLoadCancel t => Sys2Proof.Machine.execDomeZoneLoadCancel t s
  | .domeZoneGet t => Sys2Proof.Machine.execDomeZoneGet t s
  | .domeMark t => Sys2Proof.Machine.execDomeMark t s
  | .domeChallenge t => Sys2Proof.Machine.execDomeChallenge t s
  | .domeSetRefclk t => Sys2Proof.Machine.execDomeSetRefclk t s
  | .domeFwLoadBegin t => Sys2Proof.Machine.execDomeFwLoadBegin t s
  | .domeFwLoadData t => Sys2Proof.Machine.execDomeFwLoadData t s
  | .domeFwLoadCommit t => Sys2Proof.Machine.execDomeFwLoadCommit t s
  | .domeFwLoadCancel t => Sys2Proof.Machine.execDomeFwLoadCancel t s
  | .domeFwActivate t => Sys2Proof.Machine.execDomeFwActivate t s
  | .sealLoopOpen => Sys2Proof.Machine.execSealLoopOpen s
  | .u6Packet bytes => Sys2Proof.Machine.execU6Packet bytes s
  | .u6ActiveTimeout => Sys2Proof.Machine.execU6ActiveTimeout s
  | .outSetRing t => Sys2Proof.Machine.execOutSetRing t s
  | .outGetRing t => Sys2Proof.Machine.execOutGetRing t s
  | .outSetOutput t => Sys2Proof.Machine.execOutSetOutput t s
  | .outGetOutput t => Sys2Proof.Machine.execOutGetOutput t s
  | .outQ15LossAdd t => Sys2Proof.Machine.execOutQ15LossAdd t s
  | .outQ15LossClear t => Sys2Proof.Machine.execOutQ15LossClear t s
  | .memGetStatus t => Sys2Proof.Machine.execMemGetStatus t s
  | .memTestRun t => Sys2Proof.Machine.execMemTestRun t s
  | .memTestStop t => Sys2Proof.Machine.execMemTestStop t s
  | .memTestBlock marchOk => Sys2Proof.Machine.execMemTestBlock marchOk s
  | .memScrub t => Sys2Proof.Machine.execMemScrub t s
  | .memScrubComplete target => Sys2Proof.Machine.execMemScrubComplete target s
  | .memNvRead t => Sys2Proof.Machine.execMemNvRead t s
  | .memNvWrite t => Sys2Proof.Machine.execMemNvWrite t s
  | .memNvWear t => Sys2Proof.Machine.execMemNvWear t s
  | .monSetCounter t => Sys2Proof.Machine.execMonSetCounter t s
  | .monGetCounters t => Sys2Proof.Machine.execMonGetCounters t s
  | .monGetRejects t => Sys2Proof.Machine.execMonGetRejects t s
  | .monGetHealth t => Sys2Proof.Machine.execMonGetHealth t s
  | .fwGetInfo t => Sys2Proof.Machine.execFwGetInfo t s
  | .fwLoadBegin t => Sys2Proof.Machine.execFwLoadBegin t s
  | .fwLoadData t => Sys2Proof.Machine.execFwLoadData t s
  | .fwLoadCommit t => Sys2Proof.Machine.execFwLoadCommit t s
  | .fwLoadCancel t => Sys2Proof.Machine.execFwLoadCancel t s
  | .fwActivate t => Sys2Proof.Machine.execFwActivate t s
  | .chainGetStatus t => Sys2Proof.Machine.execChainGetStatus t s
  | .chainEnumerate t => Sys2Proof.Machine.execChainEnumerate t s
  | .chainSetConfig t => Sys2Proof.Machine.execChainSetConfig t s
  | .chainGetConfig t => Sys2Proof.Machine.execChainGetConfig t s
  | .chainGetCounters t => Sys2Proof.Machine.execChainGetCounters t s
  | .chainWake t => Sys2Proof.Machine.execChainWake t s
  | .serialSetUart t => Sys2Proof.Machine.execSerialSetUart t s
  | .serialGetUart t => Sys2Proof.Machine.execSerialGetUart t s
  | .serialSendBreak t => Sys2Proof.Machine.execSerialSendBreak t s
  | .serialSetCan t => Sys2Proof.Machine.execSerialSetCan t s
  | .serialGetCan t => Sys2Proof.Machine.execSerialGetCan t s
  | .serialGetCounters t => Sys2Proof.Machine.execSerialGetCounters t s
  | .agcWindow p ci cq => Sys2Proof.Machine.execAgcWindow p ci cq s
  | .frmFrame => Sys2Proof.Machine.execFrmFrame s
  | .lineDetectorUpdate p lines own => Sys2Proof.Machine.execLineDetectorUpdate p lines own s
  | .noiseFloorUpdate => Sys2Proof.Machine.execNoiseFloorUpdate s
  | .eyeTrackUpdate p correction edgeBytes => Sys2Proof.Machine.execEyeTrackUpdate p correction edgeBytes s
  | .feStartDelayExpiry => Sys2Proof.Machine.execFeStartDelayExpiry s
  | .trainingMarker p good => Sys2Proof.Machine.execTrainingMarker p good s
  | .trainingVerifyEnd p ok => Sys2Proof.Machine.execTrainingVerifyEnd p ok s
  | .trainingAttemptTimeout p => Sys2Proof.Machine.execTrainingAttemptTimeout p s
  | .evtEdge n level interp => Sys2Proof.Machine.execEvtEdge n level interp s
  | .uartCharacterReceived u ch => Sys2Proof.Machine.execUartCharacterReceived u ch s
  | .uartBreakReceived u v => Sys2Proof.Machine.execUartBreakReceived u v s
  | .uartCharacterSent u => Sys2Proof.Machine.execUartCharacterSent u s
  | .uartBreakSent u => Sys2Proof.Machine.execUartBreakSent u s
  | .uartWakeEdge u => Sys2Proof.Machine.execUartWakeEdge u s
  | .canFrameReceived m f sof => Sys2Proof.Machine.execCanFrameReceived m f sof s
  | .canFrameSent m sof => Sys2Proof.Machine.execCanFrameSent m sof s
  | .canArbitrationLoss m => Sys2Proof.Machine.execCanArbitrationLoss m s
  | .canBusError m kind tx large => Sys2Proof.Machine.execCanBusError m kind tx large s
  | .canBusOffRecovery m => Sys2Proof.Machine.execCanBusOffRecovery m s
  | .canWakeEdge m => Sys2Proof.Machine.execCanWakeEdge m s
  | .dmaBurst => Sys2Proof.Machine.execDmaBurst s
  | .timerExpiry t => Sys2Proof.Machine.execTimerExpiry t s
  | .pmonOverflow n => Sys2Proof.Machine.execPmonOverflow n s
  | .lanternTimerExpiry t => Sys2Proof.Machine.execLanternTimerExpiry t s
  | .linkUp l => Sys2Proof.Machine.execLinkUp l s
  | .linkDown d => Sys2Proof.Machine.execLinkDown d s
  | .down f => Sys2Proof.Machine.execDown f s
  | .up f => Sys2Proof.Machine.execUp f s
  | .alignReq f t2 t3 => Sys2Proof.Machine.execAlignReq f t2 t3 s
  | .alignRsp f t4 => Sys2Proof.Machine.execAlignRsp f t4 s
  | .alignFup f => Sys2Proof.Machine.execAlignFup f s
  | .alignExchangeDue t1 => Sys2Proof.Machine.execAlignExchangeDue t1 s
  | .alignExchangeVoid => Sys2Proof.Machine.execAlignExchangeVoid s
  | .unalignedTimeout => Sys2Proof.Machine.execUnalignedTimeout s
  | .enum f => Sys2Proof.Machine.execEnum f s
  | .enumEnd f => Sys2Proof.Machine.execEnumEnd f s
  | .enumReq f => Sys2Proof.Machine.execEnumReq f s
  | .enumerationTimeout => Sys2Proof.Machine.execEnumerationTimeout s
  | .linkSleep l f => Sys2Proof.Machine.execLinkSleep l f s
  | .reservedFrame l f => Sys2Proof.Machine.execReservedFrame l f s
  | .ack l n => Sys2Proof.Machine.execAck l n s
  | .nak l n => Sys2Proof.Machine.execNak l n s
  | .credit l k => Sys2Proof.Machine.execCredit l k s
  | .replayTimeout l => Sys2Proof.Machine.execReplayTimeout l s
  | .unitAbandon l => Sys2Proof.Machine.execUnitAbandon l s
  | .downHoldExpiry => Sys2Proof.Machine.execDownHoldExpiry s
  | .unitBoundaryArbitration => Sys2Proof.Machine.execUnitBoundaryArbitration s
  | .headTimeout => Sys2Proof.Machine.execHeadTimeout s
  | .kakelWakeActivity l => Sys2Proof.Machine.execKakelWakeActivity l s
  | .hportWakeEdge => Sys2Proof.Machine.execHportWakeEdge s
  | .wakePin high => Sys2Proof.Machine.execWakePin high s
  | .entryGrant p => Sys2Proof.Machine.execEntryGrant p s
  | .entryRefuse p => Sys2Proof.Machine.execEntryRefuse p s
  | .entryDelay p bound => Sys2Proof.Machine.execEntryDelay p bound s
  | .entryDelayExpiry p => Sys2Proof.Machine.execEntryDelayExpiry p s
  | .entryNoAnswer p => Sys2Proof.Machine.execEntryNoAnswer p s
  | .entryDelayLimit => Sys2Proof.Machine.execEntryDelayLimit s
  | .entryS0 => Sys2Proof.Machine.execEntryS0 s
  | .isolationEnd => Sys2Proof.Machine.execIsolationEnd s
  | .rlinkAck status canary => Sys2Proof.Machine.execRlinkAck status canary s
  | .rlinkPoll status => Sys2Proof.Machine.execRlinkPoll status s
  | .rlinkNack => Sys2Proof.Machine.execRlinkNack s
  | .rlinkAttemptTimeout => Sys2Proof.Machine.execRlinkAttemptTimeout s
  | .rlinkRetry => Sys2Proof.Machine.execRlinkRetry s
  | .frontPllLock => Sys2Proof.Machine.execFrontPllLock s
  | .handover => Sys2Proof.Machine.execHandover s
  | .refclkLost u => Sys2Proof.Machine.execRefclkLost u s
  | .refclkRegained => Sys2Proof.Machine.execRefclkRegained s
  | .powerFailWarning sig => Sys2Proof.Machine.execPowerFailWarning sig s
  | .vinRestore => Sys2Proof.Machine.execVinRestore s
  | .vinLoss => Sys2Proof.Machine.execVinLoss s
  | .coldStart wakeFromOff pfLatched => Sys2Proof.Machine.execColdStart wakeFromOff pfLatched s
  | .stage1Retry => Sys2Proof.Machine.execStage1Retry s
  | .imageCheckComplete dome ok reason => Sys2Proof.Machine.execImageCheckComplete dome ok reason s
  | .startupComplete => Sys2Proof.Machine.execStartupComplete s
  | .earlyDomainRetry => Sys2Proof.Machine.execEarlyDomainRetry s
  | .pinReset => Sys2Proof.Machine.execPinReset s
  | .domeReset => Sys2Proof.Machine.execDomeReset s
  | .drumReset => Sys2Proof.Machine.execDrumReset s
  | .domeWdtExpiry => Sys2Proof.Machine.execDomeWdtExpiry s
  | .drumWdtExpiry => Sys2Proof.Machine.execDrumWdtExpiry s
  | .coreWdtExpiry n => Sys2Proof.Machine.execCoreWdtExpiry n s
  | .sealLoopClosed => Sys2Proof.Machine.execSealLoopClosed s
  | .symbolLock l => Sys2Proof.Machine.execSymbolLock l s
  | .uartStartEdge u samples => Sys2Proof.Machine.execUartStartEdge u samples s
  | .canBusJoin m => Sys2Proof.Machine.execCanBusJoin m s
  | .u6IdleLineBoundary => Sys2Proof.Machine.execU6IdleLineBoundary s
  | .rlinkTransactionEnd voutMode => Sys2Proof.Machine.execRlinkTransactionEnd voutMode s
  | .sramClearComplete => Sys2Proof.Machine.execSramClearComplete s
  | .domainPowerUpComplete d pass => Sys2Proof.Machine.execDomainPowerUpComplete d pass s
  | .clusterSelfTestComplete cl pass => Sys2Proof.Machine.execClusterSelfTestComplete cl pass s
  | .loadCommitCheckEnd which sigOk imageOk => Sys2Proof.Machine.execLoadCommitCheckEnd which sigOk imageOk s

end Sys2Proof.Machine
end

