-- ==== Sys2Proof/Machine/Tick.lean ====
section
/-! DEFINITION. The end of a tick or of a slow-clock edge, which is what a step on an empty queue does (DESIGN CHOICE, log 1): time passes
(03 R90, R92), what follows the state without an event of its own is brought up to date, and per-tick marks begin afresh. -/

namespace Sys2Proof.Machine

/-! Time (03 R90, R92). -/

/-- One tick: 13,434 units of 2⁻⁴⁰ s and the further units that its place in the even spread carries. -/
def Clock.tickOn (c : Clock) : Clock :=
  let p := c.phase + (73067776 + c.steer).toNat
  { c with acc := c.acc + 13434 + p / 81840000, phase := p % 81840000, tick := (c.tick + 1) % 2 ^ 64 }

/-- One edge of the slow clock: 2²⁵ units and 2,497 or 2,498 ticks. -/
def Clock.slowOn (c : Clock) : Clock :=
  let p := c.slowPhase + 18304
  { c with acc := c.acc + 2 ^ 25, slowPhase := p % 32768, tick := (c.tick + 2497 + p / 32768) % 2 ^ 64 }

/-! Rings (11 R401, R669). -/

/-- The level stands at or above THRESH. -/
def Ring.level (r : Ring) : Bool := r.thresh != 0 && decide (r.thresh.toNat ≤ r.slots) && decide (r.thresh.toNat ≤ r.used)

def Ring.tick (r : Ring) : Ring :=
  { r with prodT := r.prod, consT := r.cons, thr := r.thr || (r.level && !r.above), above := r.level }

/-- The pass-over count of a command ring that is not eligible returns to zero (11 R398). -/
def State.countPassed (s : State) : State :=
  forUpto 4 (fun n s => if s.eligible n then s else s.modRing n fun r => { r with passed := 0 }) s

/-! IDLE (18 R590) and the performance monitor (20 R635–R638). -/

def Core.stopped (k : Core) : Bool := k.held || k.wait != .none

def State.idles (s : State) : Bool :=
  s.pwr.phase == .running && s.pwr.autoIdle && (List.range 3).all fun c => (vget s.cores c).stopped

/-- The cycles of one tick: 4 core cycles. -/
def State.cycles (s : State) : Pmon :=
  let waits (c : Nat) (p : Pmon) : Pmon :=
    let k := vget s.cores c
    if !k.held && k.wait != .none then p.event (18 + c) 4 else p
  let p := waits 2 (waits 1 (waits 0 ((s.pmon.event 0 4).event 1 1)))
  let p := if s.pwr.idle then p.event 21 4 else p
  if p.freezing then { p with freeze := true, freezing := false } else p

/-! What follows the state. -/

/-- A lane is OFF only while LINK has no power (13 R457): reset leaves it so, and the next tick finds it DOWN. -/
def State.powerLanes (s : State) : State :=
  if s.drumUp then s.modChain fun c => { c with lanes := c.lanes.map fun a => if a.st == .off then { a with st := .down } else a } else s

/-- The Dome rings MBX_STAT.DB_IN while output waits in the mailbox (17 R570; DESIGN CHOICE, log 59: the protocol is private, 01 R17). -/
def State.ringDrum (s : State) : State :=
  if s.domeUp && !s.mbx.dbIn && !s.mbx.out.isEmpty then { s with mbx := { s.mbx with dbIn := true } }.count 57 else s

/-- Ticks counted toward the 100 ms after which a device takes itself for the head (13 R444). -/
def State.countHead (s : State) : State :=
  if s.drumUp && !s.chain.head && !s.laneUp 0 && (vget s.chain.lanes 0).st != .asleep then
    s.modChain fun c => { c with headCount := min 8184000 (c.headCount + 1) }
  else s

/-- After a scheduled Sketch fix the device returns to its rest state (04 R149). -/
def State.rest (s : State) : State :=
  if s.easel.restDue && s.pwr.profile == 0 && s.domeService && s.easel.fix.isNone && s.easel.waitingFixes.isEmpty then
    (s.modEasel fun e => { e with restDue := false }).request
      { target := if s.easel.sketch.rest = 0 then .sleep else .deep, snapSr := s.easel.sketch.keepSnap, delayMax := 1000
        from_ := .dome }
  else s

/-- The end of a tick. -/
def State.fastTick (s : State) : State :=
  let s := (s.lockLanes.followLanes.judgeLower.nextFix.rest).retryHeld.returnCredits.wakeTimeouts.powerLanes.countHead
  let s := (((s.expireReacq.serveQueue.countPassed).canTick 0).canTick 1).ringDrum
  let s := if s.drumUp then s.sampleSources else s
  let t : State := { s with
    trk := { s.trk with before := [] }
    pmon := s.cycles.settle
    rings := s.rings.map Ring.tick
    timers := s.timers.map fun (t : DrumTimer) => { t with old := none }
    ranks := Vector.replicate 10 0
    interp := { s.interp with took := false }
    pwr := { s.pwr with idle := s.idles, handoverTick := none }
    clk := if s.fast then s.clk.tickOn.steered else s.clk.slowOn }
  { t with start := t.tickStart }

/-- The passing of an edge of the slow clock. -/
def State.slowTick (s : State) : State :=
  { s with
    start := s.tickStart
    trk := { s.trk with before := [] }
    ranks := Vector.replicate 10 0
    pwr := { s.pwr with slow := s.pwr.slow + 1 }
    clk := s.clk.slowOn }

/-- A tick, or a slow edge where the fast clocks stand; without power, and in OFF, no time passes (03 R89). -/
def State.tickEnd (s : State) : State :=
  if s.fast then s.fastTick
  else match s.pwr.phase with
    | .unpowered | .off => s
    | _ => s.slowTick

end Sys2Proof.Machine
end

