-- ==== Sys2Proof/Safety.lean ====
section
/-! DEFINITION. The words in which the statements speak: canonical memories, what a command taken next is, what it answers. -/

namespace Sys2Proof.Machine

/-- Every memory of the module is in its one canonical form. -/
def Mem.wf (m : Mem) : Bool := m.sram.wf && m.mailbox.wf && m.lantern.wf && m.user.wf && m.dome.wf

/-- What an open load has received, if one is open. -/
def loadWf : Option Load → Bool
  | none => true
  | some l => Bytes.wf l.data

def Images.wf (i : Images) : Bool := Bytes.wf i.a.data && Bytes.wf i.b.data && loadWf i.load

/-- Every memory, every image slot and every open load is in the canonical form. -/
def State.memoryWf (s : State) : Bool := s.mem.wf && s.drumImages.wf && s.domeImages.wf && loadWf s.zoneLoad

/-- The one command that changes DT and TICK itself: a cold start (03 R89). -/
def timeless : Instr → Bool
  | .coldStart _ _ => false
  | _ => true

/-! Commands of the host and of the firmware. -/

/-- The payload of a transaction. -/
def payloadOf (t : Txn) : List Byte := (parseHeader t.bytes).payload

/-- The state in which a command's own effect begins: its transaction has been taken, and it is in flight under the next
number (11 R383, R390). -/
def State.begun (s : State) (t : Txn) : State :=
  let h := parseHeader t.bytes
  let u := s.take t.ring.val
  { u with interp := { u.interp with
      nextId := s.interp.nextId + 1
      inflight := u.interp.inflight ++
        [{ id := s.interp.nextId, tag := h.tag, ring := t.ring.val, opcode := h.opcode, noReply := h.noReply, accepted := s.now,
           dome := match cmdRow h.opcode with | none => false | some r => r.dome }] } }

/-- The interpreter takes `t` next; `t` is well framed, carries opcode `op`, passes checks 1–9 of 11 R383, and nothing stands
in the way of serving it (11 R389, R668, 19 R624). -/
structure State.Admits (s : State) (t : Txn) (op : Nat) : Prop where
  takes : s.takes t = true
  framed : framing t.bytes (t.bytes.length / 64) = none
  opcode : (parseHeader t.bytes).opcode = op
  header : s.headerChecks t.ring.val t.bytes = none
  served : ∀ r, cmdRow op = some r → (s.begun t).notServed t.ring.val op (parseHeader t.bytes).len r = none

/-- The command `t` has its effect `f` and answers OK with payload `p`. -/
def State.okay (s : State) (t : Txn) (f : State → State) (p : List Byte) : Res :=
  .next ((f (s.begun t)).finalReply s.interp.nextId .ok 0 p)

/-- The command `t` has its effect `f`, answers ACCEPTED and goes on. -/
def State.goesOn (s : State) (t : Txn) (f : State → State) : Res := .next ((f (s.begun t)).acceptedReply s.interp.nextId)

/-- The reserved fields of payload `p`, given as offsets and masks, are zero (11 R386). -/
def zeroIn (p : List Byte) (l : List (Nat × Nat)) : Prop := firstReserved p l = none

/-- The commands that only read, with opcode and length of the reply's payload after STATUS and DETAIL (12 R414–R417). -/
def queryRow : Instr → Option (Txn × Nat × Nat)
  | .sysNop t => some (t, 0x0000, 0)
  | .sysGetIdent t => some (t, 0x0001, 28)
  | .sysGetStatus t => some (t, 0x0002, 28)
  | .pwrGetState t => some (t, 0x0101, 28)
  | .pwrGetRlink t => some (t, 0x0107, 20)
  | .timeGet t => some (t, 0x0200, 28)
  | .timeGetEvt t => some (t, 0x0203, 8)
  | .inputGetGlobal t => some (t, 0x030A, 8)
  | .acqGetStatus t => some (t, 0x0404, 20)
  | .acqListCaptures t => some (t, 0x0407, 196)
  | .trkGetSummary t => some (t, 0x0507, 28)
  | .outGetOutput t => some (t, 0x0603, 4)
  | .integGetStatus t => some (t, 0x0802, 28)
  | .tpGetHoldover t => some (t, 0x0903, 24)
  | .calGetStatus t => some (t, 0x0A01, 36)
  | .domeGetIdent t => some (t, 0x0B00, 72)
  | .domeGetCounters t => some (t, 0x0B03, 72)
  | .domeGetStore t => some (t, 0x0B08, 28)
  | .domeGetOdometer t => some (t, 0x0B09, 32)
  | .domeZoneGet t => some (t, 0x0B0D, 104)
  | .chainGetStatus t => some (t, 0x0C00, 28)
  | .chainGetConfig t => some (t, 0x0C03, 8)
  | .chainGetCounters t => some (t, 0x0C04, 36)
  | .memGetStatus t => some (t, 0x0E00, 44)
  | .monGetCounters t => some (t, 0x0F01, 132)
  | .monGetRejects t => some (t, 0x0F02, 16)
  | .fwGetInfo t => some (t, 0x1000, 104)
  | _ => none

/-- The commands that read a configuration back, with opcode and the bytes of the configuration in force. -/
def readBackRow : Instr → Option (Txn × Nat × (State → List Byte))
  | .inputGetArray t => some (t, 0x0308, fun s => s.input.array.bytes)
  | .acqGetWatch t => some (t, 0x0406, fun s => s.easel.watch.cfg.bytes)
  | .acqGetSketch t => some (t, 0x040B, fun s => s.easel.sketch.bytes)
  | .trkGetPalette t => some (t, 0x0503, fun s => s.trk.palette.bytes)
  | .trkGetConfig t => some (t, 0x0509, fun s => s.trk.cfg.bytes)
  | .navGetConfig t => some (t, 0x0701, fun s => s.nav.cfg.bytes)
  | .integGetConfig t => some (t, 0x0801, fun s => s.nav.integ.bytes)
  | .calGetConfig t => some (t, 0x0A03, fun s => s.cal.cfg.bytes)
  | .domeGetOdoConfig t => some (t, 0x0B0B, fun s => s.sealed.odo.bytes)
  | _ => none

/-- With a planned reset added (12 R423, R424). -/
def State.withPlan (u : State) (plan : ResetPlan) : State := { u with interp := { u.interp with plans := u.interp.plans ++ [plan] } }

/-- The Lantern timer of PWR_SET_TIMER: PERIOD_S, TGT_F, TGT_S and MODE of payload `p` (18 R608, R615). -/
def timerGiven (p : List Byte) (r : LanternTimer) : LanternTimer :=
  LanternTimer.setMode { r with period := BitVec.ofNat 17 (getLe p 4 4), tgtF := BitVec.ofNat 32 (getLe p 8 4), tgtS := BitVec.ofNat 32 (getLe p 12 4) }
    (BitVec.ofNat 2 (byteAt p 1))

/-- The setting of MON_SET_COUNTER: COUNTER, EVENT, EN, OVIE and CLEAR, from payload `p` (12 R436). -/
def counterGiven (p : List Byte) : PerfSet :=
  { counter := byteAt p 0, event := byteAt p 1, en := bit (byteAt p 2) 0, ovie := bit (byteAt p 2) 1, clear := bit (byteAt p 2) 2 }

/-- The ring of OUT_SET_RING with EN set: emptied, at BASE with SIZE_LOG2, SIDE and THRESH of payload `p` (12 R425, R426). -/
def ringGiven (p : List Byte) (r : Ring) : Ring :=
  { r.disable with
    base := BitVec.ofNat 16 (getLe p 4 4 / 64), sizeLog2 := BitVec.ofNat 4 (byteAt p 1), side := bit (byteAt p 2) 1
    thresh := BitVec.ofNat 13 (getLe p 8 2), en := true, next := 0, pending := 0, above := false }

/-- The chain settings of CHAIN_SET_CONFIG, from payload `p` (13 R477). -/
def chainGiven (p : List Byte) (k : Chain) : Chain :=
  { k with wakeRelay := bit (byteAt p 0) 0, autoEnum := bit (byteAt p 0) 1, alignEn := bit (byteAt p 0) 2
           wakeUpRelay := bit (byteAt p 0) 3, downHold := BitVec.ofNat 14 (getLe p 2 2) }

/-- The line settings, WAKE and thresholds of SERIAL_SET_UART, from payload `p` (14 R503). -/
def uartGiven (p : List Byte) (now : Nat) (r : Uart) : Uart :=
  let line : LineSettings :=
    { dbits := BitVec.ofNat 3 (byteAt p 1), parity := BitVec.ofNat 3 (byteAt p 1 / 8), stop2 := bit (byteAt p 1) 6
      slow := bit (byteAt p 2) 3, slowRate := BitVec.ofNat 2 (byteAt p 3), div := BitVec.ofNat 16 (getLe p 4 2)
      frac := BitVec.ofNat 8 (byteAt p 6) }
  { r.setLine now line with
    wake := bit (byteAt p 2) 2, rxThresh := BitVec.ofNat 7 (byteAt p 8), txThresh := BitVec.ofNat 6 (byteAt p 9) }

/-- The settings of SERIAL_SET_CAN, from payload `p`; a register field holds its value less one (14 R494, R506). -/
def canGiven (p : List Byte) (k : Can) : Can :=
  { k with
    fd := bit (byteAt p 1) 1, autoRecover := bit (byteAt p 1) 2, wake := bit (byteAt p 1) 3, tdc := bit (byteAt p 1) 4
    mode := BitVec.ofNat 2 (byteAt p 2)
    nbt := BitVec.ofNat 31 ((getLe p 4 2 - 1) + 2 ^ 9 * (getLe p 6 2 - 1) + 2 ^ 17 * (byteAt p 8 - 1) + 2 ^ 24 * (byteAt p 9 - 1))
    dbt := BitVec.ofNat 25 ((byteAt p 10 - 1) + 2 ^ 5 * (byteAt p 11 - 1) + 2 ^ 10 * (byteAt p 12 - 1) + 2 ^ 14 * (byteAt p 13 - 1) +
      2 ^ 18 * byteAt p 14)
    rxLog2 := BitVec.ofNat 4 (byteAt p 15), rxBase := BitVec.ofNat 16 (getLe p 16 2)
    txBase := BitVec.ofNat 16 (getLe p 18 2), txLog2 := BitVec.ofNat 4 (byteAt p 20) }

/-- The bit timing, ring sizes and ring places that SERIAL_SET_CAN takes (14 R506). -/
structure CanValid (p : List Byte) : Prop where
  port : byteAt p 0 ≤ 1
  mode : byteAt p 2 ≤ 2
  nominal : 1 ≤ getLe p 4 2 ∧ getLe p 4 2 ≤ 512 ∧ 2 ≤ getLe p 6 2 ∧ getLe p 6 2 ≤ 256 ∧ 2 ≤ byteAt p 8 ∧ byteAt p 8 ≤ 128 ∧
    1 ≤ byteAt p 9 ∧ byteAt p 9 ≤ byteAt p 8 ∧ 80 ≤ getLe p 4 2 * (1 + getLe p 6 2 + byteAt p 8)
  data : 1 ≤ byteAt p 10 ∧ byteAt p 10 ≤ 32 ∧ 1 ≤ byteAt p 11 ∧ byteAt p 11 ≤ 32 ∧ 1 ≤ byteAt p 12 ∧ byteAt p 12 ≤ 16 ∧
    1 ≤ byteAt p 13 ∧ byteAt p 13 ≤ byteAt p 12 ∧ 16 ≤ byteAt p 10 * (1 + byteAt p 11 + byteAt p 12)
  tdco : byteAt p 14 ≤ 127
  rings : 4 ≤ byteAt p 15 ∧ byteAt p 15 ≤ 10 ∧ 4 ≤ byteAt p 20 ∧ byteAt p 20 ≤ 8
  places : getLe p 16 2 * 64 + 2 ^ byteAt p 15 * 96 ≤ 0x3E3000 ∧ getLe p 18 2 * 64 + 2 ^ byteAt p 20 * 96 ≤ 0x3E3000

/-- A command may change the sealed parameters of `l`: none changes, or the Dome is not sealed and the audit log holds room for
their entries (09 R314, R320). -/
def State.mayChange (s : State) (l : List ParamField) : Prop :=
  changedFields l = [] ∨ s.sealed.state ≠ .sealed ∧ s.sealed.canEnter (changedFields l).length = true

/-- The settings that INPUT_SET_PORT takes (02 R76). -/
structure PortValid (p : Nat) (n : PortConfig) : Prop where
  gain : n.mode ≤ 2 ∧ n.agcMin ≤ n.manual ∧ n.manual ≤ n.agcMax ∧ n.agcMax ≤ 63
  target : 32 ≤ n.target ∧ n.target ≤ 192 ∧ 4 ≤ n.step ∧ n.step ≤ 64
  centre : if p % 2 = 0 then 1574000000 ≤ n.centre ∧ n.centre ≤ 1595000000 else 1155000000 ≤ n.centre ∧ n.centre ≤ 1200000000

/-- The notch setting of INPUT_SET_NOTCH (02 R81). -/
def notchGiven (p : List Byte) : NotchSet :=
  { notch := byteAt p 1, mode := byteAt p 2, width := byteAt p 3, offset := getLeInt p 4 4, thresh := byteAt p 8 }

/-- The job of a live ACQ_SEARCH with MODE 0 (04 R156), less its hypotheses: its dwell is NNC integrations of T_COH. -/
def coldJob (p : List Byte) (cmd ring now : Nat) : EaselJob :=
  let nnc := if byteAt p 5 = 0 then ceilDiv 8 (byteAt p 4) else byteAt p 5
  { id := 0, kind := .search, cmd := some cmd, ring := ring, accepted := now, antenna := byteAt p 1 % 4, replay := 0
    handover := bit (byteAt p 3) 0, derived := bit (byteAt p 3) 1, tCoh := byteAt p 4, nnc := nnc
    limit := if byteAt p 6 = 0 then 8 else byteAt p 6, pfaExp := byteAt p 7, dwell := dwellTicks (byteAt p 4) nnc 0 }

/-- The Sketch configuration of ACQ_SET_SKETCH (04 R165). -/
def sketchGiven (p : List Byte) : SketchConfig :=
  { interval := getLe p 0 4, length := getLe p 4 2, antenna := byteAt p 6, format := byteAt p 7, rest := byteAt p 8
    keepSnap := bit (byteAt p 9) 0, lower := bit (byteAt p 9) 1, speed := getLe p 10 2, mask := byteAt p 12 }

/-- The watch configuration of ACQ_SET_WATCH (04 R161). -/
def watchGiven (p : List Byte) : WatchConfig :=
  { en := bit (byteAt p 0) 0, track := bit (byteAt p 0) 1, margin := byteAt p 1, span := byteAt p 2 }

/-- The sealed parameters of the watch (09 R313). -/
def watchFields (o n : WatchConfig) : List ParamField :=
  [⟨0x0030, 255, b2n o.en, b2n n.en⟩, ⟨0x0031, 255, o.margin, n.margin⟩, ⟨0x0032, 255, o.span, n.span⟩]

/-- The palette that TRK_SET_PALETTE takes (05 R202): offsets rising through 0 within ±96, averaging time and acceptance. -/
structure PaletteValid (p : Palette) : Prop where
  offsets : increasing p.offsets = true ∧ (∀ z ∈ p.offsets, -96 ≤ z ∧ z ≤ 96) ∧ p.offsets.getD 5 1 = 0
  avg : 20 ≤ p.avg ∧ p.avg ≤ 1000
  accept : 3 ≤ p.accept ∧ p.accept ≤ 20

/-- The palette of TRK_SET_PALETTE, from payload `p` (05 R202). -/
def paletteGiven (p : List Byte) : Palette :=
  { offsets := (List.range 11).map fun k => getLeInt p k 1, avg := getLe p 12 2, accept := byteAt p 14 }

/-- The tracking configuration of TRK_SET_CONFIG, from payload `p` (05 R207). -/
def trkGiven (p : List Byte) : TrkConfig :=
  { reacq := bit (byteAt p 0) 0, upper := byteAt p 1, primary := byteAt p 2, elev := getLeInt p 3 1, pullIn := getLe p 4 2
    sync := getLe p 6 2, loss := getLe p 8 2, coast := getLe p 10 2, reacqTime := getLe p 12 2, trackMin := byteAt p 14
    lossMin := byteAt p 15 }

/-- The ranges of TRK_SET_CONFIG (05 R207). -/
structure TrkValid (c : TrkConfig) : Prop where
  antenna : c.primary ≤ 3 ∧ -10 ≤ c.elev ∧ c.elev ≤ 30
  times : 100 ≤ c.pullIn ∧ c.pullIn ≤ 5000 ∧ 1000 ≤ c.sync ∧ c.sync ≤ 30000 ∧ 20 ≤ c.loss ∧ c.loss ≤ 5000 ∧ 100 ≤ c.coast ∧
    c.coast ≤ 10000 ∧ 1 ≤ c.reacqTime ∧ c.reacqTime ≤ 600
  levels : 15 ≤ c.trackMin ∧ c.trackMin ≤ 40 ∧ 10 ≤ c.lossMin ∧ c.lossMin ≤ 38 ∧ c.lossMin + 2 ≤ c.trackMin

/-- The loop setting that TRK_SET_LOOP takes for signal `sig`, 0 every signal (05 R200, R174, R182). -/
structure LoopValid (sig : Nat) (l : LoopSet) : Prop where
  signal : sig = 0 ∨ (signalRow sig).isSome = true
  ranges : l.tp ∈ periodList ∧ l.spacing ≤ 64 ∧ 10 ≤ l.pll ∧ l.pll ≤ 400 ∧ (l.fll = 0 ∨ 5 ≤ l.fll ∧ l.fll ≤ 200) ∧ 1 ≤ l.dll ∧ l.dll ≤ 500
  limits : ∀ k ∈ (if sig = 0 then signalTable.map (·.code) else [sig]), l.ok k = true

/-- The navigation configuration of NAV_SET_CONFIG and its sealed parameters (07 R273, 09 R313). -/
def navGiven (p : List Byte) : NavConfig := { rate := byteAt p 0, elev := byteAt p 1, cn0 := byteAt p 2, use := byteAt p 3 }

def navFields (o n : NavConfig) : List ParamField := [⟨0x0040, 255, o.elev, n.elev⟩, ⟨0x0041, 255, o.cn0, n.cn0⟩, ⟨0x0042, 255, o.use, n.use⟩]

/-- The sealed parameters of INTEG_SET_CONFIG (09 R313). -/
def integFields (o : IntegConfig) (p : List Byte) : List ParamField :=
  integLayout.map fun k => ⟨0x0050, k.1, getLe o.bytes k.1 k.2, getLe p k.1 k.2⟩

/-- The ranges of INTEG_SET_CONFIG (07 R279). -/
structure IntegValid (n : IntegConfig) : Prop where
  ccd : 1 ≤ n.ccdIf ∧ n.ccdIf ≤ 100 ∧ 1 ≤ n.ccdRate ∧ n.ccdRate ≤ 255
  cn0 : 30 ≤ n.cn0Zen ∧ n.cn0Zen ≤ 60 ∧ 20 ≤ n.cn0Hor ∧ n.cn0Hor ≤ n.cn0Zen ∧ 2 ≤ n.cn0High ∧ n.cn0High ≤ 40 ∧ 1 ≤ n.cn0Flat ∧ n.cn0Flat ≤ 50
  cross : 1 ≤ n.xbNeg ∧ n.xbNeg ≤ 50 ∧ 10 ≤ n.xbMax ∧ n.xbMax ≤ 200 ∧ 2 ≤ n.xbDop ∧ n.xbDop ≤ 100
  clock : 1 ≤ n.clkDrift ∧ n.clkDrift ≤ 100 ∧ 10 ≤ n.clkJump ∧ n.clkJump ≤ 10000
  cupola : 5 ≤ n.cupSat ∧ n.cupSat ≤ 40 ∧ 2 ≤ n.cupSingle ∧ n.cupSingle ≤ 20 ∧ 10 ≤ n.cupAtt ∧ n.cupAtt ≤ 45 ∧ n.cupSingle < n.cupAtt
  rest : 1 ≤ n.exclCaution ∧ n.exclCaution ≤ 8 ∧ 1 ≤ n.hold ∧ n.hold ≤ 600 ∧ 20 ≤ n.qualLimit ∧ n.qualLimit ≤ 100000

/-- The ranges of TP_SET (08 R303). -/
structure TpValid (n : TpConfig) : Prop where
  scale : n.scale ≤ 3
  period : periodOk n.period = true
  width : 100 ≤ n.width ∧ n.width ≤ n.period * 1000 - 1000 ∧ n.width ≤ 4000000000
  delays : -100000 ≤ n.antDelay ∧ n.antDelay ≤ 2000000 ∧ n.userDelay.natAbs ≤ 1000000
  step : 100 ≤ n.stepThresh ∧ n.stepThresh ≤ 1000000 ∧ 1 ≤ n.slew ∧ n.slew ≤ 1000

/-- The sealed delays and phases of the paths in CAL_SET_CONFIG, and all its sealed parameters (09 R313). -/
def pathFields (o : CalConfig) (p : List Byte) : List ParamField :=
  ((List.range 8).map fun k => ⟨0x0070, 2 + k, getLe o.bytes (4 + 4 * k) 4, getLe p (4 + 4 * k) 4⟩) ++
    (List.range 8).map fun k => ⟨0x0070, 10 + k, getLe o.bytes (36 + 2 * k) 2, getLe p (36 + 2 * k) 2⟩

def calFields (o : CalConfig) (p : List Byte) : List ParamField :=
  [⟨0x0070, 0, o.deltaT, (CalConfig.parse p).deltaT⟩, ⟨0x0070, 1, o.glaze, (CalConfig.parse p).glaze⟩] ++ pathFields o p

/-- The odometer configuration of DOME_SET_ODO_CONFIG, its sealed parameters and its ranges (09 R350, R313). -/
def odoGiven (p : List Byte) : OdoConfig :=
  { minSpeed := getLe p 0 2, gap := getLe p 2 2, interval := getLe p 4 4, margin := getLe p 8 2, confirm := byteAt p 10 }

def odoFields (o n : OdoConfig) : List ParamField :=
  [⟨0x60, 0, o.minSpeed, n.minSpeed⟩, ⟨0x60, 2, o.gap, n.gap⟩, ⟨0x60, 4, o.interval, n.interval⟩, ⟨0x60, 8, o.margin, n.margin⟩,
   ⟨0x60, 10, o.confirm, n.confirm⟩]

structure OdoValid (n : OdoConfig) : Prop where
  speed : n.minSpeed ≤ 200
  gap : 1 ≤ n.gap ∧ n.gap ≤ 600
  interval : n.interval = 0 ∨ 60 ≤ n.interval ∧ n.interval ≤ 86400
  zones : 1 ≤ n.margin ∧ n.margin ≤ 1000 ∧ 1 ≤ n.confirm ∧ n.confirm ≤ 10

/-! Tracking lanes. -/

/-- A lane after its loop filters, its NCOs and its measures have taken a dump (05 R181). -/
def TrkLane.updated (l : TrkLane) (d : Sums) (sv now : Nat) : TrkLane :=
  { (l.drive (l.measure d sv (l.index sv now)) sv now).addPrompts d.prompts with sums := d }

/-- What R172 finds for a lane in SYNC once a dump's sign is added: the number of the period that begins, modulo which. -/
def TrkLane.syncPlace (l : TrkLane) (d : Sums) (sv : Nat) (s : State) : Option (Nat × Nat) :=
  let index := l.index sv s.now
  ((l.updated d sv s.now).addSign sv index (l.measure d sv index).sum).syncFound sv index (s.overlayPlace l.signal sv)

/-- The model of the multipath estimator that a lane takes (05 R177). -/
def TrkLane.fitted (l : TrkLane) (s : State) : Option PathFit :=
  chooseFit (allowedFits 0 (Config.pathFits l.signal s.trk.palette.offsets l.averages)) s.trk.palette.accept l.windows.head?

/-! Instructions of the cores. -/

/-- The state in which core `c` executes the instruction at its pc: products due have landed and the word is fetched. -/
def State.fetched (s : State) (c : Nat) : State :=
  let u := s.modCore c Core.landProducts
  (u.fetchTrap c (u.core c).pc).1

/-- Core `c` issues an instruction: its clock runs, it does not wait, no interrupt is taken in the instruction's place, and the fetch raises no
trap (15 R513, R529, R533, R537). -/
structure State.Issues (s : State) (c : Nat) : Prop where
  on : s.issues c = true
  calm : s.takeable c = none
  fetch : ((s.modCore c Core.landProducts).fetchTrap c ((s.modCore c Core.landProducts).core c).pc).2 = none

/-- The instruction leaves `u` and completes with report `d`. -/
def State.done (u : State) (c : Nat) (d : Done) : Res := .next (u.complete c d)

/-- The core at `c` in the state of its instruction. -/
def State.at_ (s : State) (c : Nat) : Core := (s.fetched c).core c

/-- An IN of the core completes: value `v` comes into register `r` through the delay slot; the read has left `u` (15 R518). -/
def State.inDone (u : State) (c : Nat) (r : AXY) (v : Nat) : Res :=
  u.done c { load := some { reg := r.num, value := BitVec.ofNat 32 v }, cycles := 2 }

/-- An OUT of the core completes; the write has left `u`. -/
def State.outDone (u : State) (c : Nat) : Res := u.done c { cycles := 2 }

/-- A Drum core may IN (15 R515). -/
structure State.MayIn (s : State) (c : DrumCore) : Prop where
  issues : s.Issues c.val
  priv : (s.at_ c.val).priv < 2

/-- A Drum core may OUT to address `a` (15 R515). -/
structure State.MayOut (s : State) (c : DrumCore) (a : Nat) : Prop where
  issues : s.Issues c.val
  priv : (s.at_ c.val).priv = 0 ∨ (s.at_ c.val).priv = 1 ∧ outPrivileged a = false

/-- The rows that add to, subtract from or combine with A: the core, its fields, whether an immediate is zero-extended, the result
of A and the operand (16 R549). -/
def aluRow : Instr → Option (CoreId × BitVec 26 × Bool × (Word → Word → Word))
  | .add c f => some (c, f, false, fun a v => a + v)
  | .sub c f => some (c, f, false, fun a v => a - v)
  | .rsb c f => some (c, f, false, fun a v => v - a)
  | .and c f => some (c, f, true, fun a v => a &&& v)
  | .or c f => some (c, f, true, fun a v => a ||| v)
  | .xor c f => some (c, f, true, fun a v => a ^^^ v)
  | _ => none

/-- The rows that shift A by `n`, and the result (16 R549). -/
def shiftRow : Instr → Option (CoreId × Bool × BitVec 6 × BitVec 16 × (Word → Nat → Word))
  | .shl c b r i => some (c, b, r, i, fun a n => a <<< n)
  | .shr c b r i => some (c, b, r, i, fun a n => a >>> n)
  | .sar c b r i => some (c, b, r, i, fun a n => a.sshiftRight n)
  | .ror c b r i => some (c, b, r, i, fun a n => a.rotateRight n)
  | _ => none

/-- The rows that write a register: the decode check and the value (16 R549). -/
def moveRow : Instr → Option (CoreId × BitVec 26 × Option Nat × (Core → Word))
  | .ldi c f => some (c, f, checkLdi f, fun k => if fMode f = 0 then sext16 (fImm f) else if fMode f = 1 then BitVec.ofNat 32 (fImm f * 65536)
      else (k.reg (fReg f) &&& 0xFFFF0000) ||| BitVec.ofNat 32 (fImm f))
  | .mov c f => some (c, f, checkMov f, fun k => k.reg (fImm f % 64))
  | .lea c f => some (c, f, checkLea f, fun k => k.ea (fMode f) (fImm f))
  | _ => none

/-- The loads: bytes and whether the value is sign-extended (16 R550). -/
def loadRow : Instr → Option (CoreId × BitVec 26 × Nat × Bool)
  | .ldw c f => some (c, f, 4, false)
  | .ldh c f => some (c, f, 2, true)
  | .ldhu c f => some (c, f, 2, false)
  | .ldb c f => some (c, f, 1, true)
  | .ldbu c f => some (c, f, 1, false)
  | _ => none

/-- The stores and their bytes (16 R550). -/
def storeRow : Instr → Option (CoreId × BitVec 26 × Nat)
  | .stw c f => some (c, f, 4)
  | .sth c f => some (c, f, 2)
  | .stb c f => some (c, f, 1)
  | _ => none

/-- The jumps and branches: decode check, whether taken, destination (16 R552, R553). -/
def jumpRow : Instr → Option (CoreId × Option Nat × (Core → Bool) × (Core → BitVec 24))
  | .cbr c f => some (c, checkCbr f, fun k => condHolds (fMode f) k.a (k.reg (fReg f)), fun k => k.target f)
  | .cbi c f => some (c, checkCbi f, fun k => condHolds (fMode f) k.a ((BitVec.ofNat 6 (fReg f)).signExtend 32), fun k => k.target f)
  | .br c f => some (c, checkBr f, fun _ => true, fun k => k.target f)
  | .jmp c f => some (c, checkJ f, fun _ => true, fun _ => f.setWidth 24)
  | .jmpr c r i => some (c, checkJr r i, fun _ => true, fun k => (k.reg r.toNat).setWidth 24)
  | _ => none

/-- The calls: decode check and destination (15 R521). -/
def callRow : Instr → Option (CoreId × Option Nat × (Core → BitVec 24))
  | .call c f => some (c, checkJ f, fun _ => f.setWidth 24)
  | .callr c r i => some (c, checkJr r i, fun k => (k.reg r.toNat).setWidth 24)
  | _ => none

/-- The instructions that store nothing and act on their own core alone: all of 16 R549–R552 but the stores, PUSH, SEV, REP and the I/O
instructions. -/
def ownRow : Instr → Option CoreId
  | .nop c _ | .ldi c _ | .mov c _ | .lea c _ | .add c _ | .sub c _ | .rsb c _ | .and c _ | .or c _ | .xor c _ => some c
  | .shl c _ _ _ | .shr c _ _ _ | .sar c _ _ _ | .ror c _ _ _ | .mul c _ | .mulu c _ | .bareMulProductLand c => some c
  | .ldw c _ | .ldh c _ | .ldhu c _ | .ldb c _ | .ldbu c _ | .pop c _ => some c
  | .cbr c _ | .cbi c _ | .br c _ | .jmp c _ | .call c _ | .jmpr c _ _ | .callr c _ _ | .ret c _ | .rett c _ | .loop c _ => some c
  | .wfe c _ | .wfeComplete c | .waitt c _ | .waittComplete c | .mfc c _ | .mtc c _ => some c
  | _ => none

/-- The instructions by name, with their core (16 R549–R556). -/
def issued : Instr → Option CoreId
  | .stw c _ | .sth c _ | .stb c _ | .push c _ | .inp c _ | .outp c _ | .sev c _ | .rep c _ _ _ => some c
  | .wfeComplete _ | .waittComplete _ | .bareMulProductLand _ => none
  | i => ownRow i

/-- Those of them that name no destination beyond A, X, Y, MPH, MPL and the pc. -/
def plainRow : Instr → Option CoreId
  | .nop c _ | .add c _ | .sub c _ | .rsb c _ | .and c _ | .or c _ | .xor c _ => some c
  | .shl c _ _ _ | .shr c _ _ _ | .sar c _ _ _ | .ror c _ _ _ | .mul c _ | .mulu c _ => some c
  | .ldw c _ | .ldh c _ | .ldhu c _ | .ldb c _ | .ldbu c _ => some c
  | .cbr c _ | .cbi c _ | .br c _ | .jmp c _ | .jmpr c _ _ => some c
  | _ => none

/-- The stores, PUSH among them: core, bytes stored, decode check and effective address (16 R550, 15 R520). -/
def storing : Instr → Option (CoreId × Nat × Option Nat × (Core → Word))
  | .stw c f => some (c, 4, checkMem f, fun k => k.ea (fMode f) (fImm f))
  | .sth c f => some (c, 2, checkMem f, fun k => k.ea (fMode f) (fImm f))
  | .stb c f => some (c, 1, checkMem f, fun k => k.ea (fMode f) (fImm f))
  | .push c f => some (c, 4, checkStack f, fun k => k.dsp - 4)
  | _ => none

/-- Only the cores, the memories, the MMUs, the performance monitor and the free-value counter differ. -/
def State.likeButCore (t s : State) : Prop := t = { s with cores := t.cores, mem := t.mem, mmus := t.mmus, pmon := t.pmon, free := t.free }

/-! Time. -/

/-- The clock after `n` ticks, and after `n` edges of the slow clock. -/
def Clock.ticked (c : Clock) : Nat → Clock
  | 0 => c
  | n + 1 => (c.ticked n).tickOn

def Clock.slowed (c : Clock) : Nat → Clock
  | 0 => c
  | n + 1 => (c.slowed n).slowOn

/-! Frames of the Kakel lanes. -/

/-- A frame that a lane takes: the lane is UP, the frame whole, its CRC good, its HSEQ the one expected, and a credit was held for it
(13 R455, R460). -/
structure State.Receives (s : State) (l : Nat) (f : RxFrame) : Prop where
  fast : s.fast = true
  up : (s.lane l).st = .up
  whole : f.aborted = false ∧ f.crcOk = true
  seq : f.hseq % 256 = (s.lane l).expect
  granted : (s.lane l).grants ≠ 0

/-- The state once the frame is taken. -/
def State.received (s : State) (l : Nat) (f : RxFrame) : State :=
  ((s.lineErrors l f.errors).modKakel l fun a => { a with bad := false, expect := (a.expect + 1) % 256, grants := a.grants - 1 }).count (48 + l)

/-- A lane's oldest unacknowledged frame, and the state while replays are not yet 16 in a row (13 R460). -/
structure State.Replays (s : State) (l : Nat) (f : SentFrame) : Prop where
  first : (s.lane l).replay.head? = some f
  few : (s.lane l).replays < 15

end Sys2Proof.Machine
end

