-- ==== Sys2Proof/Certificates/Slice0/Obligations.lean ====
section
/-! DEFINITION. The statements for the provers. -/

open Sys2Proof Sys2Proof.Machine

/-- A step takes the command at the front of the queue: it is that command's execution with the queue's rest. -/
def Obligations.StepRunsFront : Prop :=
  ∀ (c : Instr) (q : List Instr) (s : State), step { s with pending := c :: q } = exec c { s with pending := q }

/-- 12 R414–R417: a command that only reads answers OK at once, with a payload of its row's length; it changes nothing else.
Where the spec leaves the reading open it is the model's own (log 42). -/
def Obligations.QueriesAnswer : Prop :=
  ∀ (i : Instr) (t : Txn) (op n : Nat) (s : State), queryRow i = some (t, op, n) → s.Admits t op →
    ∃ p, p.length = n ∧ exec i s = s.okay t id p

/-- A command that reads a configuration back answers with the configuration in force and changes nothing else. -/
def Obligations.ConfigurationsReadBack : Prop :=
  ∀ (i : Instr) (t : Txn) (op : Nat) (f : State → List Byte) (s : State), readBackRow i = some (t, op, f) → s.Admits t op →
    exec i s = s.okay t id (f s)

/-- 12 R420, R423, 18 R611–R616: the SYS and PWR commands with operands in range.
Where the spec leaves the reading open it is the model's own (log 27). -/
def Obligations.SysPwrCommands : Prop :=
  ∀ (s : State) (t : Txn) (p : List Byte), p = payloadOf t →
    (s.Admits t 0x0004 → exec (.sysEcho t) s = s.okay t id p) ∧
    (s.Admits t 0x0003 → zeroIn p [(1, 0xFF), (2, 0xFF), (3, 0xFF)] →
      1 ≤ byteAt p 0 → byteAt p 0 ≤ 3 →
      ∃ plan : ResetPlan, plan.source = 6 ∧
        plan.dome = (if 2 ≤ byteAt p 0 then some (s.clk.tick + 81840) else none) ∧
        plan.drum.isSome = decide (byteAt p 0 ≠ 2) ∧
        exec (.sysReset t) s = .next (((s.begun t).finalReply s.interp.nextId .ok 0 []).withPlan plan)) ∧
    (s.Admits t 0x0100 → zeroIn p [(1, 0xFE), (2, 0xFF), (3, 0xFF)] → byteAt p 0 ≤ 2 →
      s.pwr.profile ≠ 3 → s.pwr.phase = .running →
      exec (.pwrSetProfile t) s =
        .next ((((s.begun t).modPwr fun q => { q with
            startup := if byteAt p 1 = 1 then some (byteAt p 0) else q.startup }).acceptedReply
          s.interp.nextId).requestProfile (byteAt p 0) (some s.interp.nextId))) ∧
    (∀ target, s.Admits t 0x0102 → zeroIn p [(1, 0xFE), (4, 0xFF), (5, 0xFF), (6, 0xFF), (7, 0xFF)] →
      targetOf (byteAt p 0) = some target → s.pwr.profile ≠ 3 →
      exec (.pwrEnter t) s =
        .next (((s.begun t).acceptedReply s.interp.nextId).request
          { target := target, snapSr := byteAt p 1 == 1, from_ := .command s.interp.nextId
            delayMax := if getLe p 2 2 = 0 then 1000 else getLe p 2 2 })) ∧
    (s.Admits t 0x0103 → zeroIn p [(4, 0xFF), (5, 0xFF), (6, 0xFF), (7, 0xFF)] →
      exec (.pwrSetWake t) s =
        s.okay t (fun u => { u with pwr := { u.pwr with wakeEn := BitVec.ofNat 10 (getLe p 0 4) ||| 0x100 } }) []) ∧
    (s.Admits t 0x0104 → s.pwr.wakes ≠ 0 →
      exec (.pwrGetWake t) s = s.okay t id (le 1 s.pwr.wakeSource ++ le 1 s.pwr.wakeFrom ++ le 1 s.pwr.wakeFlags.toNat ++ le 1 0 ++
        le 8 s.pwr.wakeDt ++ le 4 (min 0xFFFF_FFFF s.pwr.wakeSlow) ++ le 2 s.pwr.wakes ++ le 2 0)) ∧
    (s.Admits t 0x0105 → zeroIn p [(2, 0xFF), (3, 0xFF)] → byteAt p 0 < 3 → byteAt p 1 ≤ 2 →
      (if byteAt p 1 = 2 then 1 ≤ getLe p 4 4 ∧ getLe p 4 4 ≤ 86400
        else getLe p 4 4 = 0) →
      exec (.pwrSetTimer t) s = s.okay t (fun u => { u with ltimers := vmod u.ltimers (byteAt p 0) (timerGiven p) }) []) ∧
    (s.Admits t 0x0106 → zeroIn p [(1, 0xFF)] → byteAt p 0 ≤ 2 →
      pointMin (byteAt p 0) ≤ getLe p 2 2 → getLe p 2 2 ≤ 900 →
      s.rlink.state ≠ 0 → s.pwr.phase = .running → byteAt p 0 = s.pointInForce →
      exec (.pwrSetVcore t) s =
        .next (((s.begun t).acceptedReply s.interp.nextId).rlinkStart (.setVcore s.interp.nextId (byteAt p 0)) (getLe p 2 2)))

/-- 03 R117, 12 R425–R430: the TIME and OUT commands with operands in range. -/
def Obligations.TimeOutCommands : Prop :=
  ∀ (s : State) (t : Txn) (p : List Byte), p = payloadOf t →
    (∀ m, s.Admits t 0x0201 → s.nav.mapPayload = some m → exec (.timeGetMap t) s = s.okay t id m) ∧
    (s.Admits t 0x0202 → zeroIn p [(1, 0xF0), (2, 0xFF), (3, 0xFF)] → byteAt p 0 ≤ 3 →
      byteAt p 1 / 2 % 4 ≠ 3 →
      exec (.timeSetEvt t) s = s.okay t (fun u => { u with evt := vmod u.evt (byteAt p 0) fun e =>
        { e with en := bit (byteAt p 1) 0, edge := BitVec.ofNat 2 (byteAt p 1 / 2)
                 wake := bit (byteAt p 1) 3 } }) []) ∧
    (∀ n, s.Admits t 0x0601 → byteAt p 0 = n → n ≤ 15 →
      ∃ r : Ring, r = vget (s.begun t).rings n ∧
        exec (.outGetRing t) s = s.okay t id (le 1 n ++ le 1 r.sizeLog2.toNat ++
          le 1 (b2n r.en + 2 * b2n r.side + 4 * b2n r.full) ++ le 1 0 ++ le 4 (r.base.toNat * 64) ++ le 2 r.thresh.toNat ++
          le 2 r.next ++ le 4 r.used ++ le 4 r.drops)) ∧
    (s.Admits t 0x0602 → zeroIn p [(1, 0xFE), (3, 0xFF)] →
      byteAt p 0 ∈ [1, 2, 5, 10, 20, 50] → byteAt p 2 ≤ 2 →
      exec (.outSetOutput t) s = s.okay t (fun u => { u with interp := { u.interp with
        meas := byteAt p 0, mpDetail := bit (byteAt p 1) 0, navMode := byteAt p 2 } }) []) ∧
    (s.Admits t 0x0604 → zeroIn p [(1, 0xFF)] → byteAt p 0 = 0 → 1 ≤ getLe p 2 2 →
      exec (.outQ15LossAdd t) s = s.okay t (fun u => { u with rings := vmod u.rings 15 fun r =>
        { r with pending := min 0xFFFF (r.pending + getLe p 2 2)
                 drops := min 0xFFFF_FFFF (r.drops + getLe p 2 2) } }) []) ∧
    (s.Admits t 0x0604 → zeroIn p [(1, 0xFF)] → byteAt p 0 = 1 → getLe p 2 2 = 0 →
      exec (.outQ15LossClear t) s = s.okay t (fun u => { u with rings := vmod u.rings 15 fun r => { r with pending := 0 } }) []) ∧
    (∀ n, s.Admits t 0x0600 → zeroIn p [(2, 0xFC), (3, 0xFF), (10, 0xFF), (11, 0xFF)] →
      byteAt p 0 = n → 8 ≤ n → n ≤ 15 → n ≠ 13 → 4 ≤ byteAt p 1 → byteAt p 1 ≤ 12 → getLe p 4 4 % 64 = 0 →
      getLe p 4 4 + 64 * 2 ^ byteAt p 1 ≤ 0x400000 → getLe p 8 2 ≤ 2 ^ byteAt p 1 → bit (byteAt p 2) 0 = true →
      (s.begun t).ringOverlap n (getLe p 4 4) (64 * 2 ^ byteAt p 1) = none →
      overlap (getLe p 4 4) (64 * 2 ^ byteAt p 1) 0x3E3000 0x1D000 = false →
      (∃ k < 4, ((vget (s.begun t).rings k).en && !(vget (s.begun t).rings k).side) = true ∧
        ((vget (s.begun t).rings (k + 4)).en && !(vget (s.begun t).rings (k + 4)).side) = true) →
      exec (.outSetRing t) s = s.okay t (fun u => { u.forgetSent n with rings := vmod u.rings n (ringGiven p) }) [])
/-- 12 R431–R439: the MEM and MON commands with operands in range. A counter's settings come into force at the end of their tick. -/
def Obligations.MemMonCommands : Prop :=
  ∀ (s : State) (t : Txn) (p : List Byte), p = payloadOf t →
    (s.Admits t 0x0E01 → zeroIn p [(3, 0xFF)] → byteAt p 0 ≤ byteAt p 1 → byteAt p 1 ≤ 31 → byteAt p 2 = 0 → s.mem.test = none →
      exec (.memTestRun t) s = s.goesOn t fun u => { u with mem := { u.mem with
        test := some { lastBlock := byteAt p 1 * 128 + 127, next := byteAt p 0 * 128, cmd := s.interp.nextId, due := s.now + us 64 } } }) ∧
    (∀ m, s.Admits t 0x0E01 → zeroIn p [(3, 0xFF)] → byteAt p 0 ≤ byteAt p 1 → byteAt p 1 ≤ 31 → byteAt p 2 = 1 →
      s.mem.test = some m →
      exec (.memTestStop t) s =
        s.okay t (fun u => (u.finalReply m.cmd .aborted 2 []).modMem fun k => { k with test := none }) []) ∧
    (s.Admits t 0x0E02 → zeroIn p [(0, 0xF8), (1, 0xFF), (2, 0xFF), (3, 0xFF)] → byteAt p 0 ≠ 0 →
      s.mem.scrubMask &&& byteAt p 0 = 0 →
      exec (.memScrub t) s = s.goesOn t fun u => { u with mem := { u.mem with
        scrubs := u.mem.scrubs ++ [{ target := BitVec.ofNat 3 (byteAt p 0), cmd := some s.interp.nextId, start := s.now }] } }) ∧
    (∀ off n, s.Admits t 0x0E03 → zeroIn p [(6, 0xFF), (7, 0xFF)] → getLe p 0 4 = off → getLe p 4 2 = n → 1 ≤ n → n ≤ 4000 →
      off + n ≤ 1769472 → exec (.memNvRead t) s = s.okay t id (le 4 off ++ s.mem.user.readN off n)) ∧
    (∀ off n, s.Admits t 0x0E04 → zeroIn p [(6, 0xFF), (7, 0xFF)] → getLe p 0 4 = off → getLe p 4 2 = n → 1 ≤ n → n ≤ 4000 →
      off + n ≤ 1769472 → p.length = 8 + n → s.pwr.lowSupply = false →
      ∃ wear, exec (.memNvWrite t) s =
        s.okay t (fun u => { u with mem := { u.mem with user := u.mem.user.writeN off (p.drop 8), wear := wear } }) []) ∧
    (∀ first n, s.Admits t 0x0E05 → getLe p 0 2 = first → getLe p 2 2 = n → first ≤ 431 → first + n ≤ 432 →
      exec (.memNvWear t) s =
        s.okay t id (le 2 first ++ le 2 n ++ (List.range n).flatMap fun k => le 4 (wearOf s.mem.wear (first + k)))) ∧
    (s.Admits t 0x0F00 → zeroIn p [(2, 0xF8), (3, 0xFF)] → byteAt p 0 ≤ 15 → byteAt p 1 ≤ 75 →
      exec (.monSetCounter t) s = s.okay t (fun u => { u with pmon := { u.pmon with sets := u.pmon.sets ++ [counterGiven p] } }) []) ∧
    (s.Admits t 0x0F03 →
      ∃ b, b.length = 28 ∧ exec (.monGetHealth t) s = s.okay t (fun u => { u with free := u.free + 2 }) b)

/-- 12 R440–R442, 09 R343, R344, R351: the parts of a load of a Drum image, of a Dome image and of a zone table. DATA writes at
OFFSET what follows it, BEGIN opens, CANCEL discards, COMMIT goes on to the check; ACTIVATE selects the slot for the reset.
Where the spec leaves the reading open it is the model's own (log 23 and 24). -/
def Obligations.LoadCommands : Prop :=
  ∀ (s : State) (t : Txn) (p : List Byte), p = payloadOf t → zeroIn p [(1, 0xFF), (2, 0xFF), (3, 0xFF)] →
    (s.Admits t 0x1001 → byteAt p 0 = 0 → p.length = 40 → 1 ≤ getLe p 4 4 → getLe p 4 4 ≤ 1048576 → s.drumImages.load = none →
      exec (.fwLoadBegin t) s = s.okay t (fun u => { u with drumImages := { u.drumImages.spoil with
        load := some { length := getLe p 4 4, sha := (p.drop 8).take 32 } } }) []) ∧
    (∀ l, s.Admits t 0x1001 → byteAt p 0 = 1 → 9 ≤ p.length → p.length ≤ 4008 → s.drumImages.load = some l → l.check = none →
      getLe p 4 4 + (p.length - 8) ≤ l.length →
      exec (.fwLoadData t) s =
        s.okay t (fun u => { u with drumImages := { u.drumImages with load := some (l.put (getLe p 4 4) (p.drop 8)) } }) []) ∧
    (∀ l, s.Admits t 0x1001 → byteAt p 0 = 2 → p.length = 4 → s.drumImages.load = some l → l.check = none →
      exec (.fwLoadCommit t) s =
        s.goesOn t fun u => { u with drumImages := { u.drumImages with load := some { l with check := some s.interp.nextId } } }) ∧
    (∀ l, s.Admits t 0x1001 → byteAt p 0 = 3 → p.length = 4 → s.drumImages.load = some l → l.check = none →
      exec (.fwLoadCancel t) s = s.okay t (fun u => { u with drumImages := { u.drumImages with load := none } }) []) ∧
    (s.Admits t 0x1002 → byteAt p 0 ≤ 1 → (s.drumImages.slot (byteAt p 0 == 1)).valid = true → s.drumImages.load = none →
      ∃ (u : State) (plan : ResetPlan), plan.source = 7 ∧ plan.dome = none ∧ plan.drum.isSome = true ∧
        s.okay t (fun u => { u with drumImages := { u.drumImages with active := byteAt p 0 == 1, trial := some 0 } }) [] = .next u ∧
        exec (.fwActivate t) s = .next (u.withPlan plan)) ∧
    (s.Admits t 0x0B11 → byteAt p 0 = 0 → p.length = 40 → 1 ≤ getLe p 4 4 → getLe p 4 4 ≤ 1048576 → s.domeImages.load = none →
      s.sealed.state ≠ .sealed → s.sealed.auditHold = false →
      exec (.domeFwLoadBegin t) s = s.okay t (fun u => { u with domeImages := { u.domeImages.spoil with
        load := some { length := getLe p 4 4, sha := (p.drop 8).take 32 } } }) []) ∧
    (∀ l, s.Admits t 0x0B11 → byteAt p 0 = 1 → 9 ≤ p.length → p.length ≤ 4008 → s.domeImages.load = some l → l.check = none →
      getLe p 4 4 + (p.length - 8) ≤ l.length → s.sealed.state ≠ .sealed → s.sealed.auditHold = false →
      exec (.domeFwLoadData t) s =
        s.okay t (fun u => { u with domeImages := { u.domeImages with load := some (l.put (getLe p 4 4) (p.drop 8)) } }) []) ∧
    (∀ l, s.Admits t 0x0B11 → byteAt p 0 = 2 → p.length = 4 → s.domeImages.load = some l → l.check = none →
      s.sealed.state ≠ .sealed → s.sealed.auditHold = false →
      exec (.domeFwLoadCommit t) s =
        s.goesOn t fun u => { u with domeImages := { u.domeImages with load := some { l with check := some s.interp.nextId } } }) ∧
    (∀ l, s.Admits t 0x0B11 → byteAt p 0 = 3 → p.length = 4 → s.domeImages.load = some l → l.check = none →
      exec (.domeFwLoadCancel t) s = s.okay t (fun u => { u with domeImages := { u.domeImages with load := none } }) []) ∧
    (s.Admits t 0x0B12 → byteAt p 0 ≤ 1 → (s.domeImages.slot (byteAt p 0 == 1)).valid = true → s.domeImages.load = none →
      s.sealed.auditHold = false →
      ∃ (u : State) (plan : ResetPlan), plan.source = 7 ∧ plan.dome = some (s.clk.tick + 1) ∧ plan.drum = none ∧
        u.domeImages.active = (byteAt p 0 == 1) ∧ u.domeImages.trial = some 0 ∧
        exec (.domeFwActivate t) s = .next ((u.withPlan plan).finalReply s.interp.nextId .ok 0 [])) ∧
    (s.Admits t 0x0B0C → byteAt p 0 = 0 → p.length = 44 → getLe p 4 2 ≤ 256 → getLe p 6 2 ≤ 4096 →
      getLe p 8 4 = 8 * getLe p 4 2 + 8 * getLe p 6 2 → s.zoneLoad = none → s.sealed.state ≠ .sealed → s.sealed.auditHold = false →
      exec (.domeZoneLoadBegin t) s = s.okay t
        (fun u => { u with zoneLoad := some { length := getLe p 8 4, sha := (p.drop 12).take 32, counts := [getLe p 4 2, getLe p 6 2] } }) []) ∧
    (∀ l, s.Admits t 0x0B0C → byteAt p 0 = 1 → 9 ≤ p.length → p.length ≤ 4008 → s.zoneLoad = some l → l.check = none →
      getLe p 4 4 + (p.length - 8) ≤ l.length → s.sealed.state ≠ .sealed → s.sealed.auditHold = false →
      exec (.domeZoneLoadData t) s = s.okay t (fun u => { u with zoneLoad := some (l.put (getLe p 4 4) (p.drop 8)) }) []) ∧
    (∀ l, s.Admits t 0x0B0C → byteAt p 0 = 2 → p.length = 4 → s.zoneLoad = some l → l.check = none →
      s.sealed.state ≠ .sealed → s.sealed.auditHold = false →
      exec (.domeZoneLoadCommit t) s = s.goesOn t fun u => { u with zoneLoad := some { l with check := some s.interp.nextId } }) ∧
    (∀ l, s.Admits t 0x0B0C → byteAt p 0 = 3 → p.length = 4 → s.zoneLoad = some l → l.check = none →
      exec (.domeZoneLoadCancel t) s = s.okay t (fun u => { u with zoneLoad := none }) [])

/-- 13 R476–R478, 14 R503–R508: the CHAIN and SERIAL commands with operands in range. -/
def Obligations.ChainSerialCommands : Prop :=
  ∀ (s : State) (t : Txn) (p : List Byte), p = payloadOf t →
    (s.Admits t 0x0C01 → s.chain.head = true → s.chain.enum = none →
      exec (.chainEnumerate t) s = s.goesOn t fun u => u.startEnum false [s.interp.nextId]) ∧
    (∀ e, s.Admits t 0x0C01 → s.chain.head = true → s.chain.enum = some e →
      exec (.chainEnumerate t) s =
        s.goesOn t fun u => u.modChain fun k => { k with enum := some { e with cmds := e.cmds ++ [s.interp.nextId] } }) ∧
    (s.Admits t 0x0C02 → zeroIn p [(0, 0xF0), (1, 0xFF), (4, 0xFF), (5, 0xFF), (6, 0xFF), (7, 0xFF)] → getLe p 2 2 ≤ 10000 →
      exec (.chainSetConfig t) s = s.okay t (fun u => u.modChain (chainGiven p)) []) ∧
    (s.Admits t 0x0C05 → zeroIn p [(2, 0xFF), (3, 0xFF)] → getLe p 0 2 = 0 ∨ 10 ≤ getLe p 0 2 ∧ getLe p 0 2 ≤ 10000 →
      s.chain.head = true →
      exec (.chainWake t) s = s.goesOn t fun u => u.modChain fun k => { k with
        relayDown := true
        wakeCmds := k.wakeCmds ++ [{ id := s.interp.nextId, till := s.now + ms (if getLe p 0 2 = 0 then 2000 else getLe p 0 2) }] }) ∧
    (∀ u, s.Admits t 0x0D00 →
      zeroIn p [(1, 0x80), (2, 0xF0), (7, 0xFF), (10, 0xFF), (11, 0xFF), (12, 0xFF), (13, 0xFF), (14, 0xFF), (15, 0xFF)] →
      byteAt p 0 = u → u ≤ 7 → u ≠ 6 → byteAt p 1 % 8 ≤ 4 → byteAt p 1 / 8 % 8 ≤ 4 → (bit (byteAt p 2) 3 = true → u = 7) →
      byteAt p 3 ≤ (if bit (byteAt p 2) 3 then 3 else 0) → getLe p 4 2 ≠ 0 → (u = 7 → byteAt p 6 = 0) →
      1 ≤ byteAt p 8 → byteAt p 8 ≤ 64 → byteAt p 9 ≤ 63 → (vget s.uarts u).sending = none →
      exec (.serialSetUart t) s =
        s.okay t (fun w => (w.modUart u (uartGiven p s.now)).uartEnables u (bit (byteAt p 2) 0) (bit (byteAt p 2) 1)) []) ∧
    (∀ u, s.Admits t 0x0D01 → byteAt p 0 = u → u ≤ 7 →
      ∃ q r : List Byte, q.length = 4 ∧ r.length = 4 ∧
        exec (.serialGetUart t) s = s.okay t id ((if u = 6 then u6Fixed else vget s.uarts u).settings u ++ q ++ r)) ∧
    (∀ u, s.Admits t 0x0D02 → zeroIn p [(1, 0xFF)] → byteAt p 0 = u → u ≤ 7 → u ≠ 6 → getLe p 2 2 ≠ 0 →
      (vget s.uarts u).txen = true → (vget s.uarts u).sending = none → (vget s.uarts u).brkReq = none →
      exec (.serialSendBreak t) s = .next ((s.begun t).requestBreak u (getLe p 2 2) (some s.interp.nextId))) ∧
    (s.Admits t 0x0D03 → zeroIn p [(1, 0xE0), (3, 0xFF), (21, 0xFF), (22, 0xFF), (23, 0xFF)] → CanValid p →
      exec (.serialSetCan t) s = s.okay t (fun w => w.modCan (byteAt p 0) fun k =>
        if bit (byteAt p 1) 0 then (canGiven p k.stop).start else canGiven p k.stop) []) ∧
    (∀ m, s.Admits t 0x0D04 → byteAt p 0 = m → m ≤ 1 →
      exec (.serialGetCan t) s = s.okay t id ((vget s.cans m).settings m ++ le 1 (vget s.cans m).state ++
        le 1 (min 255 (vget s.cans m).tec) ++ le 1 (min 255 (vget s.cans m).rec_) ++ le 1 (b2n (vget s.cans m).busIdle))) ∧
    (∀ n, s.Admits t 0x0D05 → byteAt p 0 = n → n ≤ 9 → n ≠ 6 →
      ∃ q : List Byte, q.length = 27 ∧ exec (.serialGetCounters t) s = s.okay t id (le 1 n ++ q))

/-- 02 R75–R84: the INPUT commands with operands in range. A change of a port's settings waits for the next epoch where the profile
has epochs, one of the array's geometry for the next epoch.
Where the spec leaves the reading open it is the model's own (log 48, 52 and 55). -/
def Obligations.InputCommands : Prop :=
  ∀ (s : State) (t : Txn) (p : List Byte), p = payloadOf t →
    (∀ k n, s.Admits t 0x0300 → zeroIn p [(0, 0xF8), (1, 0xFC)] → byteAt p 0 = k → parsePort p = n → PortValid k n →
      s.mayChange (portFields k (s.port k).cfg n) → s.profileRate ≠ 0 →
      exec (.inputSetPort t) s = s.goesOn t fun u => (u.enterChanges (portFields k (s.port k).cfg n)).modInput fun i =>
        { i with sets := i.sets ++ [{ cmd := s.interp.nextId, port := k, cfg := n }] }) ∧
    (∀ k n, s.Admits t 0x0300 → zeroIn p [(0, 0xF8), (1, 0xFC)] → byteAt p 0 = k → parsePort p = n → PortValid k n →
      s.mayChange (portFields k (s.port k).cfg n) → s.profileRate = 0 →
      exec (.inputSetPort t) s = .next (((((s.begun t).enterChanges (portFields k (s.port k).cfg n)).setPort k n).acceptedReply
        s.interp.nextId).finalReply s.interp.nextId .ok 0 [])) ∧
    (∀ k, s.Admits t 0x0301 → byteAt p 0 = k → k ≤ 7 →
      ∃ q : List Byte, q.length = 12 ∧ exec (.inputGetPort t) s = s.okay t id ((s.port k).cfg.bytes k ++ q)) ∧
    (∀ m, s.Admits t 0x0302 → byteAt p 0 = m → m ≠ 0 →
      (∀ k < 8, bit m k = true → (s.port k).cfg.enable = true ∧ (s.port k).lane ≠ .off) →
      exec (.inputTrain t) s = s.goesOn t fun u =>
        forUpto 8 (fun k w => if bit m k && (s.port k).lane != .training then w.trainAfresh k else w)
          (u.modInput fun i => { i with trains := i.trains ++ [{ cmd := s.interp.nextId, mask := m }] })) ∧
    (∀ k n, s.Admits t 0x0303 → zeroIn p [(1, 0xFF)] → byteAt p 0 = k → getLe p 2 2 = n → k ≤ 7 → 1 ≤ n → n ≤ 1000 →
      (s.port k).lane = .locked →
      exec (.inputGetHistogram t) s =
        s.goesOn t fun u => u.modPort k fun q => { q with hists := q.hists ++ [{ cmd := s.interp.nextId, left := n }] }) ∧
    (∀ k n, s.Admits t 0x0304 → byteAt p 0 = k → getLe p 2 2 = n → k ≤ 7 → byteAt p 1 ≤ 1 → 1 ≤ n → (s.port k).lane = .locked →
      (s.port k).spec = none →
      exec (.inputGetSpectrum t) s = s.goesOn t fun u => u.modPort k fun q => { q with
        spec := some { cmd := s.interp.nextId, tap := byteAt p 1, blocks := n, start := s.clk.tick } }) ∧
    (∀ n, s.Admits t 0x0305 → zeroIn p [(0, 0xF8), (9, 0xFF), (10, 0xFF), (11, 0xFF)] → notchGiven p = n → n.notch ≤ 3 → n.mode ≤ 2 →
      n.width ≤ 3 → n.offset.natAbs ≤ 40000000 → 6 ≤ n.thresh → n.thresh ≤ 30 →
      exec (.inputSetNotch t) s =
        s.okay t (fun u => u.modPort (byteAt p 0) fun q => { q with notchSets := q.notchSets ++ [n] }) []) ∧
    (∀ k, s.Admits t 0x0306 → byteAt p 0 = k → k ≤ 7 →
      exec (.inputGetNotch t) s = s.okay t id
        (le 1 k ++ le 1 (s.port k).thresh ++ zeros 2 ++ (s.port k).notches.toList.flatMap (·.bytes s.freezes))) ∧
    (∀ g, s.Admits t 0x0307 → zeroIn p [(0, 0xF0), (1, 0xFF), (2, 0xFF), (3, 0xFF)] → parseArray p = g → g.ok = true →
      s.mayChange (arrayFields s.input.array g) →
      exec (.inputSetArray t) s = s.okay t (fun u =>
        (u.enterChanges (arrayFields s.input.array g)).modInput fun i => { i with arrayPending := some g }) []) ∧
    (∀ a b, s.Admits t 0x0309 → zeroIn p [(2, 0xFE), (5, 0xFF), (6, 0xFF), (7, 0xFF)] → byteAt p 3 = a → byteAt p 4 = b →
      1 ≤ a → a ≤ 254 → a < b → a ≠ s.input.jCaution ∨ b ≠ s.input.jAlert → s.sealed.state ≠ .sealed → s.profileRate ≠ 0 →
      s.sealed.canEnter (if a ≠ s.input.jCaution ∧ b ≠ s.input.jAlert then 2 else 1) = true →
      ∃ u : State, u.input = { s.input with feStart := getLe p 0 2, autoRetrain := bit (byteAt p 2) 0, jPending := some (a, b) } ∧
        exec (.inputSetGlobal t) s = .next (u.finalReply s.interp.nextId .ok 0 [])) ∧
    (s.Admits t 0x0309 → zeroIn p [(2, 0xFE), (5, 0xFF), (6, 0xFF), (7, 0xFF)] → byteAt p 3 = s.input.jCaution →
      byteAt p 4 = s.input.jAlert → 1 ≤ s.input.jCaution → s.input.jCaution < s.input.jAlert → s.profileRate ≠ 0 →
      exec (.inputSetGlobal t) s = s.okay t (fun u => u.modInput fun i => { i with
        feStart := getLe p 0 2, autoRetrain := bit (byteAt p 2) 0, jPending := some (s.input.jCaution, s.input.jAlert) }) [])

/-- 04 R156–R165: the ACQ commands with operands in range; of ACQ_SEARCH the live cold search over its whole list, of
ACQ_SKETCH_FIX one that waits behind the fix in progress. The settings of ACQ_SET_SKETCH wait for the next scheduled fix.
Where the spec leaves the reading open it is the model's own (log 36 and 37). -/
def Obligations.AcqCommands : Prop :=
  ∀ (s : State) (t : Txn) (p : List Byte), p = payloadOf t →
    (s.Admits t 0x0400 → zeroIn p [(1, 0xF8), (3, 0xFC), (12, 0xFF), (13, 0xFF), (14, 0xFF), (15, 0xFF)] → p.length = 24 →
      byteAt p 0 = 0 → bit (byteAt p 1) 2 = false → byteAt p 2 = 0 → byteAt p 4 ∈ [1, 2, 4, 5, 10, 20] →
      byteAt p 4 * (coldJob p 0 0 0).nnc ≤ 1000 → byteAt p 6 ≤ 8 → 2 ≤ byteAt p 7 → byteAt p 7 ≤ 9 → 1 ≤ getLe p 8 2 →
      getLe p 8 2 ≤ 1000 → byteAt p 10 = 0 → byteAt p 11 = 0 →
      (if s.pwr.profile = 0 then byteAt p 1 % 4 = s.easel.sketch.antenna
        else (s.port (2 * (byteAt p 1 % 4))).lane ≠ .off ∨ (s.port (2 * (byteAt p 1 % 4) + 1)).lane ≠ .off) →
      ∃ (j : EaselJob) (u : State), u = { s.begun t with free := s.free + 1 } ∧
        j = u.loadJob (coldJob p s.interp.nextId t.ring.val s.now) (u.searchGrids s.free 0 (byteAt p 4) (getLe p 8 2) (getLe p 16 8) []) ∧
        exec (.acqSearch t) s = if j.left = false then .next ((u.acceptedReply s.interp.nextId).finalReply s.interp.nextId .ok 0 j.reply)
          else .next (((let w := u.addJob j
            if s.pwr.profile = 2 then w else w.powerDomains (if s.pwr.profile = 0 then [3, 9] else [3])).assignBanks).acceptedReply
            s.interp.nextId)) ∧
    (∀ f, s.Admits t 0x0401 → zeroIn p [(1, 0xFF), (2, 0xFF), (3, 0xFF)] →
      s.interp.inflight = [f] → f.tag = byteAt p 0 → f.opcode = 0x0400 → s.easel.fix = none → s.easel.capturing = none →
      ∃ u : State, (∀ j ∈ u.easel.jobs, j ∈ s.easel.jobs ∧ j.cmd ≠ some f.id) ∧
        u.easel.reqs = s.easel.reqs.filter (fun r => !(r.cmd == some f.id)) ∧
        exec (.acqAbort t) s = .next ((((u.finalReply f.id .aborted 2 []).powerDownIdle)).finalReply s.interp.nextId .ok 0 [])) ∧
    (∀ id u, s.Admits t 0x0402 → zeroIn p [(0, 0xFC), (3, 0xFE), (6, 0xFF), (7, 0xFF)] → byteAt p 1 ≤ 3 → byteAt p 2 ≤ 1 →
      (byteAt p 1 ≤ 1 → byteAt p 2 = 0) → 1 ≤ getLe p 4 2 → getLe p 4 2 ≤ captureLongest (byteAt p 1) →
      s.pwr.profile ≠ 1 → s.pwr.profile ≠ 3 →
      (s.begun t).requestCapture (some s.interp.nextId) (byteAt p 0) (byteAt p 1) (byteAt p 2) (getLe p 4 2)
        (bit (byteAt p 3) 0) false = some (id, u) →
      exec (.acqCapture t) s = .next (u.acceptedReply s.interp.nextId)) ∧
    (∀ x, s.Admits t 0x0403 → zeroIn p ([(2, 0xF8), (5, 0xF0)] ++ (List.range 8).map fun k => (24 + k, 0xFF)) →
      byteAt p 0 = 0 → byteAt p 1 = 0 → byteAt p 3 ≤ 3 → byteAt p 4 ≤ 1 → byteAt p 5 ≠ 0 → 2 ≤ getLe p 6 2 → getLe p 6 2 ≤ 100 →
      bit (byteAt p 2) 1 = false → s.pwr.profile ≠ 1 → s.pwr.profile ≠ 3 → s.easel.fix = some x →
      exec (.acqSketchFix t) s = match (s.begun t).sketchChecks (byteAt p 5) none s.easel.sketch.speed with
        | (none, d, u) => .next (u.finalReply s.interp.nextId .notReady d [])
        | (some (pred, pu, tu, prior), _, u) => .next ((u.modEasel fun e => { e with waitingFixes := e.waitingFixes ++
            [{ cmd := some s.interp.nextId, existing := false, capture := none, keep := bit (byteAt p 2) 0, lower := bit (byteAt p 2) 2
               antenna := byteAt p 3, format := byteAt p 4, mask := byteAt p 5, length := getLe p 6 2, pred := pred, posUnc := pu
               timeUnc := tu, prior := prior }] }).acceptedReply s.interp.nextId)) ∧
    (∀ n, s.Admits t 0x0405 → zeroIn p [(0, 0xFC), (3, 0xFF)] → watchGiven p = n → 3 ≤ n.margin → n.margin ≤ 20 → 5 ≤ n.span →
      n.span ≤ 40 → s.mayChange (watchFields (s.easel.watch.pending.getD s.easel.watch.cfg) n) →
      exec (.acqSetWatch t) s = s.okay t (fun u =>
        let w := (u.enterChanges (watchFields (s.easel.watch.pending.getD s.easel.watch.cfg) n)).modWatch fun w =>
          { w with pending := some n }
        if w.easel.jobs.any (·.isTwin) then w else w.watchSettings) []) ∧
    (∀ c, s.Admits t 0x0408 → zeroIn p [(1, 0xFF), (2, 0xFF), (3, 0xFF), (10, 0xFF), (11, 0xFF)] → byteAt p 0 < 8 →
      vget s.easel.captures (byteAt p 0) = some c → c.writing = false → 1 ≤ getLe p 8 2 → getLe p 8 2 ≤ 4000 →
      getLe p 4 4 + getLe p 8 2 ≤ captureBytes c.format (c.samples / 81840) →
      exec (.acqReadCapture t) s = s.okay t id (le 4 (getLe p 4 4) ++ fit (getLe p 8 2) (c.data.drop (getLe p 4 4)))) ∧
    (∀ c, s.Admits t 0x0409 → zeroIn p [(1, 0xFF), (2, 0xFF), (3, 0xFF)] → byteAt p 0 < 8 →
      vget s.easel.captures (byteAt p 0) = some c → s.easel.inUse (byteAt p 0) = false →
      exec (.acqFreeCapture t) s = s.okay t (fun u => (u.freeCapture (byteAt p 0)).powerDownIdle) []) ∧
    (s.Admits t 0x0409 → zeroIn p [(1, 0xFF), (2, 0xFF), (3, 0xFF)] → byteAt p 0 = 255 →
      exec (.acqFreeCapture t) s =
        s.okay t (fun u => (forUpto 8 (fun k w => if w.easel.inUse k then w else w.freeCapture k) u).powerDownIdle) []) ∧
    (∀ c, s.Admits t 0x040A → zeroIn p [(9, 0xFC), (12, 0xF0), (13, 0xFF), (14, 0xFF), (15, 0xFF)] → sketchGiven p = c →
      1 ≤ c.interval → c.interval ≤ 86400 → 2 ≤ c.length → c.length ≤ 100 → c.antenna ≤ 3 → c.format ≤ 1 → c.rest ≤ 1 →
      c.speed ≤ 1000 → c.mask ≠ 0 →
      exec (.acqSetSketch t) s = s.okay t (fun u => u.modEasel fun e => { e with sketchPending := some c }) [])

/-- 05 R200–R207: the TRK commands with operands in range, in a profile that tracks.
Where the spec leaves the reading open it is the model's own (log 45 and 55). -/
def Obligations.TrkCommands : Prop :=
  ∀ (s : State) (t : Txn) (p : List Byte), p = payloadOf t →
    (∀ l, s.Admits t 0x0500 → zeroIn p [(1, 0xFC), (10, 0xFF), (11, 0xFF)] → parseLoop p = l → LoopValid (byteAt p 0) l →
      s.pwr.profile ≠ 0 → s.pwr.profile ≠ 3 →
      exec (.trkSetLoop t) s =
        s.okay t (fun u => u.modTrk fun k => { k with loopSets := k.loopSets ++ [(byteAt p 0, l)] }) []) ∧
    (∀ sig l, s.Admits t 0x0501 → byteAt p 0 = sig → (signalRow sig).isSome = true → vget s.trk.loops (signalIndex sig) = l →
      exec (.trkGetLoop t) s = s.okay t id (le 1 sig ++ le 1 (b2n l.order3 + 2 * b2n l.dll2) ++ le 1 l.tp ++
        le 1 (if l.spacing = 0 then trackSpacing sig else l.spacing) ++ le 2 l.pll ++ le 2 l.fll ++ le 2 l.dll ++ le 2 0)) ∧
    (∀ k, s.Admits t 0x0502 → zeroIn p [(11, 0xFF), (15, 0xFF)] → paletteGiven p = k → PaletteValid k →
      s.pwr.profile ≠ 0 → s.pwr.profile ≠ 3 →
      exec (.trkSetPalette t) s = s.okay t (fun u => u.modTrk fun v => { v with palettePending := some k }) []) ∧
    (∀ u r ch k, s.Admits t 0x0504 → zeroIn p [(3, 0xFF), (12, 0xFF), (13, 0xFF), (14, 0xFF), (15, 0xFF)] → (s.begun t).serveQueue = u →
      signalRow (byteAt p 0) = some r → svOk (byteAt p 0) (byteAt p 1) = true → byteAt p 2 = ch →
      getLe p 4 4 < r.len * 1024 → u.pwr.profile = 2 ∨ u.pwr.profile = 1 ∧ r.upper = true ∧ (ch < 48 ∨ ch = 255) → u.holder r.anchor (byteAt p 1) = none →
      ch ≤ 191 ∧ (u.chan ch).anchor = none ∧ u.clusterUp (ch / 48) = true ∧ (u.chan ch).out = false ∧ k = ch ∨ ch = 255 ∧ u.chooseChannel = some k →
      exec (.trkAssign t) s = .next ((u.assign k r.anchor (byteAt p 1) (byteAt p 0)
        (codeAt r (byteAt p 1) (getLe p 4 4) (getLeInt p 8 4) (getLe p 16 8) u.now) (getLeInt p 8 4) false).finalReply
          s.interp.nextId .ok 0 (le 1 k ++ [0, 0, 0]))) ∧
    (∀ ch, s.Admits t 0x0505 → zeroIn p [(1, 0xFF), (2, 0xFF), (3, 0xFF)] → byteAt p 0 = ch → ch ≤ 191 →
      s.pwr.profile ≠ 0 → s.pwr.profile ≠ 3 → (s.chan ch).anchor.isSome = true →
      exec (.trkRelease t) s = s.okay t (fun u => if (s.chan ch).present = [] then u.goIdle ch
        else u.modTrk fun k => { k with channels := vmod k.channels ch fun c => { c with releasing := true } }) []) ∧
    (s.Admits t 0x0505 → zeroIn p [(1, 0xFF), (2, 0xFF), (3, 0xFF)] → byteAt p 0 = 255 → s.pwr.profile ≠ 0 → s.pwr.profile ≠ 3 →
      exec (.trkRelease t) s = s.okay t (fun u => forUpto 192 (fun k w => w.release_ k) u) []) ∧
    (∀ ch, s.Admits t 0x0506 → byteAt p 0 = ch → ch ≤ 191 →
      ∃ q : List Byte, q.length = 34 ∧ exec (.trkGetChannel t) s = s.okay t id (le 1 ch ++ le 1 (s.chan ch).state ++ q)) ∧
    (∀ c, s.Admits t 0x0508 → zeroIn p [(0, 0xFE), (1, 0xF8), (16, 0xFF), (17, 0xFF), (18, 0xFF), (19, 0xFF)] → trkGiven p = c →
      TrkValid c → bit s.input.array.mask c.primary = true → s.pwr.profile ≠ 0 → s.pwr.profile ≠ 3 →
      exec (.trkSetConfig t) s = s.okay t (fun u => u.modTrk fun k =>
        { k with cfg := { c with primary := k.cfg.primary }, primaryNext := some c.primary }) [])

/-- 07 R273–R279, 08 R303–R305, 10 R373–R376: the NAV, INTEG, TP and CAL commands with operands in range.
Where the spec leaves the reading open it is the model's own (log 38, 39 and 51). -/
def Obligations.NavTpCalCommands : Prop :=
  ∀ (s : State) (t : Txn) (p : List Byte), p = payloadOf t →
    (∀ n, s.Admits t 0x0700 → zeroIn p ((3, 0xC0) :: (List.range 8).map fun k => (4 + k, 0xFF)) → navGiven p = n →
      n.rate ∈ [1, 2, 5, 10, 20] → n.elev ≤ 45 → 15 ≤ n.cn0 → n.cn0 ≤ 45 → n.use ≠ 0 → s.mayChange (navFields s.nav.cfg n) →
      exec (.navSetConfig t) s =
        s.okay t (fun u => (u.enterChanges (navFields s.nav.cfg n)).modNav fun v => { v with cfg := n }) []) ∧
    (s.Admits t 0x0702 → 1 ≤ getLe p 12 4 → getLe p 12 4 ≤ 100000 →
      exec (.navSetPrior t) s = s.okay t (fun u => u.modNav fun n => { n with
        prior := some { lat := getLeInt p 0 4, lon := getLeInt p 4 4, height := getLeInt p 8 4, unc := getLe p 12 4 * 1000
                        dt := s.now, supplied := true } }) []) ∧
    (s.Admits t 0x0703 → zeroIn p [(10, 0xFF), (11, 0xFF)] → 1 ≤ getLe p 20 4 → getLe p 20 4 ≤ 10000000 →
      exec (.navSetTime t) s = s.okay t (fun u => u.modNav fun n => { n with
        aid := some { ref := getLe p 0 8, week := getLe p 8 2, tow := getLe p 12 4, frac := getLe p 16 4, bound := getLe p 20 4 } }) []) ∧
    (s.Admits t 0x0704 → zeroIn p [(3, 0xFF), (6, 0xFF), (7, 0xFF), (14, 0xFF), (15, 0xFF)] →
      p.length = 16 + ceilDiv (getLe p 4 2) 8 → (signalRow (byteAt p 0)).isSome = true → svOk (byteAt p 0) (byteAt p 1) = true →
      ((unitKinds (byteAt p 0) (byteAt p 1)).any fun k => k.1 == byteAt p 2 && k.2.1 == getLe p 4 2) = true →
      exec (.navLoadUnit t) s =
        if Config.loadedVerdict p % 4 > 1 then .next ((s.begun t).finalReply s.interp.nextId .paramRange (Config.loadedVerdict p % 4) [])
        else s.okay t (fun u =>
          (match Config.loadedEphemeris p with
            | none => u.hear (byteAt p 0 / 16) (byteAt p 1) (p.drop 16)
            | some k => (u.hear (byteAt p 0 / 16) (byteAt p 1) (p.drop 16)).putEph { signal := byteAt p 0, sv := byteAt p 1, loaded := true, till := s.now + k * second }).modNav fun n =>
              { n with decoded := putOffsets n.decoded (Config.loadedOffsets p) }) []) ∧
    (s.Admits t 0x0705 → ∃ q : List Byte,
      q.length = 4 + 8 * min 169 (s.nav.eph.filter fun e => decide (s.now < e.till)).length ∧ exec (.navGetEph t) s = s.okay t id q) ∧
    (∀ q, s.Admits t 0x0706 → s.nav.solution = some q → exec (.navGetSolution t) s = s.okay t id q) ∧
    (∀ n, s.Admits t 0x0800 → zeroIn p [(22, 0xFF), (23, 0xFF)] → IntegConfig.parse p = n → IntegValid n →
      s.mayChange (integFields s.nav.integ p) →
      exec (.integSetConfig t) s =
        s.okay t (fun u => (u.enterChanges (integFields s.nav.integ p)).modNav fun v => { v with integ := n }) []) ∧
    (∀ n, s.Admits t 0x0900 →
      zeroIn p [(1, 0xF0), (3, 0xFF), (26, 0xFF), (27, 0xFF), (28, 0xFF), (29, 0xFF), (30, 0xFF), (31, 0xFF)] → byteAt p 0 ≤ 1 →
      TpConfig.parse p = n → TpValid n →
      exec (.tpSet t) s = s.okay t (fun u => u.setTp (byteAt p 0) n) []) ∧
    (∀ g, s.Admits t 0x0901 → byteAt p 0 = g → g ≤ 1 → exec (.tpGet t) s = s.okay t id ((s.gen g).cfg.bytes g)) ∧
    (∀ n, s.Admits t 0x0902 → zeroIn p [(4, 0xFF), (5, 0xFF), (6, 0xFF), (7, 0xFF)] → getLe p 0 4 = n → 10 ≤ n → n ≤ 86400 →
      exec (.tpSetHoldover t) s = s.okay t (fun u => u.modTp fun k =>
        if u.tp.gens.any (·.st.runs) then { k with limitNext := some n } else { k with limit := n, limitNext := none }) []) ∧
    (∀ g, s.Admits t 0x0904 → byteAt p 0 = g → g ≤ 1 →
      ∃ q r : List Byte, q.length = 2 ∧ r.length = 20 ∧
        exec (.tpGetState t) s = s.okay t id (le 1 g ++ le 1 (s.gen g).st.code ++ q ++ le 4 (s.gen g).no ++ r)) ∧
    (s.Admits t 0x0A00 → zeroIn p [(0, 0xFE), (1, 0xFF), (2, 0xFF), (3, 0xFF)] → s.pwr.profile ≠ 3 →
      exec (.calRun t) s = s.goesOn t fun u => (u.calTrigger 1).modCal fun c => { c with
        cmds := c.cmds ++ [s.interp.nextId], storeNref := c.storeNref || bit (byteAt p 0) 0
        ready := c.ready.map fun r => { r with from_ := 0 } }) ∧
    (∀ n, s.Admits t 0x0A02 → zeroIn p [(1, 0xFF), (52, 0xFF), (53, 0xFF), (54, 0xFF), (55, 0xFF)] → CalConfig.parse p = n →
      1 ≤ n.deltaT → n.deltaT ≤ 20 → 1 ≤ n.glaze → n.glaze ≤ 300 → (∀ k < 8, (n.delays.getD k 0).natAbs ≤ 50000) →
      s.mayChange (calFields s.cal.cfg p) →
      exec (.calSetConfig t) s = s.okay t (fun u =>
        let w := (u.enterChanges (calFields s.cal.cfg p)).modCal fun c =>
          { c with cfg := n, alpha := c.alpha * n.glaze / max 1 s.cal.cfg.glaze }
        if (changedFields (pathFields s.cal.cfg p)).isEmpty then w else w.calTrigger 3) []) ∧
    (s.Admits t 0x0A04 → zeroIn p [(1, 0xFF), (2, 0xFF), (3, 0xFF)] → byteAt p 0 ≤ 1 →
      ∃ q : List Byte, exec (.calGetValues t) s = s.okay t id (((if byteAt p 0 = 1 then s.cal.slot.values else s.cal.values).dib.flatMap
        (leInt 4)) ++ q))

/-- 09 R312, R320, R329, R335, R336, R346–R352, 03 R85: the DOME commands with operands in range.
Where the spec leaves the reading open it is the model's own (log 20). -/
def Obligations.DomeCommands : Prop :=
  ∀ (s : State) (t : Txn) (p : List Byte), p = payloadOf t →
    (s.Admits t 0x0B01 → exec (.domeGetCert t) s =
      s.okay t id (le 2 (Config.certificate.take 1024).length ++ le 2 0 ++ Config.certificate.take 1024)) ∧
    (s.Admits t 0x0B02 → s.sealed.auditHold = false → s.sealed.state ≠ .sealed → s.sealed.loopOpen = false →
      ∃ u : State, u.sealed.state = .sealed ∧ exec (.domeSeal t) s = .next (u.finalReply s.interp.nextId .ok 0 [])) ∧
    (∀ f n, s.Admits t 0x0B04 → zeroIn p [(6, 0xFF), (7, 0xFF)] → getLe p 0 4 = f → f ≤ s.sealed.auditSeq → byteAt p 4 = n → 1 ≤ n →
      n ≤ 60 → byteAt p 5 ≤ 1 →
      exec (.domeReadAudit t) s = s.okay t id (readStored (if byteAt p 5 = 1 then s.sealed.pinned else s.sealed.main) f n)) ∧
    (∀ n, s.Admits t 0x0B05 → getLe p 0 4 = n → n < s.sealed.auditOffer → s.sealed.auditAck < n → s.sealed.overflowed = false →
      exec (.domeAuditAck t) s = s.okay t (fun u => u.modSeal fun v => { v with auditAck := n }) []) ∧
    (∀ n, s.Admits t 0x0B05 → getLe p 0 4 = n → n < s.sealed.auditOffer → n ≤ s.sealed.auditAck →
      exec (.domeAuditAck t) s = s.okay t id []) ∧
    (∀ f n, s.Admits t 0x0B06 → zeroIn p [(5, 0xFF), (6, 0xFF), (7, 0xFF)] → getLe p 0 4 = f → f ≤ s.sealed.storeSeq →
      byteAt p 4 = n → 1 ≤ n → n ≤ 22 →
      exec (.domeReadRecord t) s = s.okay t id (readStored s.sealed.records f n)) ∧
    (∀ n, s.Admits t 0x0B07 → getLe p 0 4 = n → n < s.sealed.storeOffer → s.sealed.storeAck < n → s.sealed.hold = none →
      exec (.domeRecordAck t) s = s.okay t (fun u => u.modSeal fun v => { v with storeAck := n }) []) ∧
    (∀ n k, s.Admits t 0x0B07 → getLe p 0 4 = n → n < s.sealed.storeOffer → s.sealed.storeAck < n → s.sealed.hold = some k →
      exec (.domeRecordAck t) s = s.okay t (fun u =>
        let v := (u.modSeal fun v => { v with storeAck := n }).claim 6
        (v.2.gapRecord v.1 1 (match s.sealed.brk with | none => k.worst | some b => max k.worst b.worst) k.start s.now k.measured k.bridged
          k.epoch).modSeal fun v => { v with hold := none, brk := v.brk.map fun b => { b with covered := true } }) []) ∧
    (∀ n, s.Admits t 0x0B0A → zeroIn p [(11, 0xFF)] → odoGiven p = n → OdoValid n → s.mayChange (odoFields (s.sealed.odoNext.getD s.sealed.odo) n) →
      exec (.domeSetOdoConfig t) s =
        s.okay t (fun u => (u.enterChanges (odoFields (s.sealed.odoNext.getD s.sealed.odo) n)).modSeal fun v => { v with odoNext := some n }) []) ∧
    (∀ a, s.Admits t 0x0B0E → s.sealed.hold = none → s.pwr.lowSupply = false → s.sealed.storeUnacked + s.sealed.due.length < 10239 →
      s.markSolution = some a →
      ∃ r : DueRecord, r.kind = 5 ∧ r.dt = s.now ∧ r.body.take 16 = fit 16 p ∧ exec (.domeMark t) s =
        .next ((((s.begun t).claim 6).2.recordDue r).finalReply s.interp.nextId .ok 0 (le 4 (s.sealed.storeSeq + s.sealed.due.length + 1)))) ∧
    (s.Admits t 0x0B0F → ∃ m sig : List Byte, sig.length = 64 ∧ m.take 16 = fit 16 p ∧
      exec (.domeChallenge t) s = s.okay t (fun u => { u with free := u.free + 1 }) (m ++ sig)) ∧
    (∀ f, s.Admits t 0x0B10 → getLe p 0 4 = f → (refclkSetting f).isSome = true → s.mayChange [⟨0x0001, 255, s.boot.refclk, f⟩] →
      exec (.domeSetRefclk t) s = s.okay t (fun u =>
        let w := u.enterChanges [⟨0x0001, 255, s.boot.refclk, f⟩]
        { w with boot := { w.boot with refclk := f } }) [])

/-- 16 R549: ADD, SUB, RSB, AND, OR and XOR put A and their operand into A: an immediate or a register (modes 0–2) in one cycle, a
word of memory (modes 3–8) in two, after which modes 7 and 8 move their index register. -/
def Obligations.AluResults : Prop :=
  ∀ (i : Instr) (c : CoreId) (f : BitVec 26) (un : Bool) (g : Word → Word → Word) (s : State),
    aluRow i = some (c, f, un, g) → s.Issues c.val → checkOperand aluModes f = none →
    (∀ v, (v = if fMode f = 0 then (if un then BitVec.ofNat 32 (fImm f) else sext16 (fImm f)) else if fMode f = 1 then
        BitVec.ofNat 32 (fImm f * 65536) else (s.at_ c.val).reg (fReg f)) → fMode f ≤ 2 →
      exec i s = ((s.fetched c.val).modCore c.val fun k => { k with a := g k.a v }).done c.val { wrote := [0] }) ∧
    (∀ v u, 3 ≤ fMode f → (s.fetched c.val).coreLoad c.val ((s.at_ c.val).ea (fMode f) (fImm f)) 4 = (u, .ok v) →
      exec i s = (u.modCore c.val fun k => { k.postModify (fMode f) (fImm f) with a := g k.a (BitVec.ofNat 32 v) }).done c.val
        { wrote := 0 :: postRegs (fMode f), cycles := 2 })

/-- 16 R549: the shifts of A by the low five bits of a register or of the immediate. -/
def Obligations.ShiftResults : Prop :=
  ∀ (i : Instr) (c : CoreId) (b : Bool) (r : BitVec 6) (m : BitVec 16) (g : Word → Nat → Word) (s : State),
    shiftRow i = some (c, b, r, m, g) → s.Issues c.val → checkShift b r m = none →
    exec i s = ((s.fetched c.val).modCore c.val fun k =>
      { k with a := g k.a (if b then ((s.at_ c.val).reg r.toNat).toNat % 32 else m.toNat) }).done c.val { wrote := [0] }

/-- 16 R549, 15 R509–R511: NOP, and LDI, MOV and LEA into a register whose write is permitted and accepted. -/
def Obligations.MoveResults : Prop :=
  (∀ (c : CoreId) (s : State), s.Issues c.val → exec (.nop c 0) s = (s.fetched c.val).done c.val {}) ∧
  ∀ (i : Instr) (c : CoreId) (f : BitVec 26) (v : Core → Word) (s : State) (k : Core),
    moveRow i = some (c, f, none, v) → s.Issues c.val → (s.at_ c.val).mayWrite (fReg f) = true →
    (s.at_ c.val).setReg c.val (fReg f) (v (s.at_ c.val)) = .ok k →
    exec i s = ((s.fetched c.val).modCore c.val fun _ => k).done c.val { wrote := if fReg f < 3 then [fReg f] else [] }

/-- 15 R519, 16 R549: MUL and MULU give the 64-bit product of A and the operand, signed and unsigned: in Bare mode it is on its way,
landing four cycles after its issue; otherwise MPH and MPL hold it at once. The immediate of MULU is zero-extended. -/
def Obligations.Products : Prop :=
  (∀ (c : CoreId) (f : BitVec 26) (s : State) (v : Word), s.Issues c.val → checkOperand [0, 2] f = none →
    (v = if fMode f = 0 then sext16 (fImm f) else (s.at_ c.val).reg (fReg f)) →
      ∃ t, exec (.mul c f) s = .next t ∧
        ((s.at_ c.val).bare = true → ∃ p, (t.core c.val).products = (s.at_ c.val).products ++ [p] ∧ p.issue = (s.at_ c.val).cycle ∧
          (p.hi ++ p.lo).toInt = (s.at_ c.val).a.toInt * v.toInt) ∧
        ((s.at_ c.val).bare = false → ((t.core c.val).mph ++ (t.core c.val).mpl).toInt = (s.at_ c.val).a.toInt * v.toInt)) ∧
  ∀ (c : CoreId) (f : BitVec 26) (s : State) (v : Word), s.Issues c.val → checkOperand [0, 2] f = none →
    (v = if fMode f = 0 then BitVec.ofNat 32 (fImm f) else (s.at_ c.val).reg (fReg f)) →
      ∃ t, exec (.mulu c f) s = .next t ∧
        ((s.at_ c.val).bare = true → ∃ p, (t.core c.val).products = (s.at_ c.val).products ++ [p] ∧ p.issue = (s.at_ c.val).cycle ∧
          (p.hi ++ p.lo).toNat = (s.at_ c.val).a.toNat * v.toNat) ∧
        ((s.at_ c.val).bare = false → ((t.core c.val).mph ++ (t.core c.val).mpl).toNat = (s.at_ c.val).a.toNat * v.toNat)

/-- 16 R550, 15 R514, R518: a load that the memory answers comes into A, X or Y through the delay slot, with its extension; a store
writes the low bytes of a register; modes 7 and 8 then move their index register. PUSH stores a register below DSP; POP loads the
word at DSP into A, X or Y through the slot, or into any other register at once; one that faults leaves DSP and memory (15 R520). -/
def Obligations.MemoryAccesses : Prop :=
  (∀ (i : Instr) (c : CoreId) (f : BitVec 26) (n : Nat) (sg : Bool) (s u : State) (v : Nat), loadRow i = some (c, f, n, sg) →
    s.Issues c.val → checkMem f = none →
    (s.fetched c.val).coreLoad c.val ((s.at_ c.val).ea (fMode f) (fImm f)) n = (u, .ok v) →
    exec i s = (u.modCore c.val fun k => k.postModify (fMode f) (fImm f)).done c.val
      { wrote := postRegs (fMode f)
        load := some { reg := fReg f, value := if sg then (if n = 1 then (BitVec.ofNat 8 v).signExtend 32 else
          (BitVec.ofNat 16 v).signExtend 32) else BitVec.ofNat 32 v } }) ∧
  (∀ (i : Instr) (c : CoreId) (f : BitVec 26) (n : Nat) (s u : State), storeRow i = some (c, f, n) → s.Issues c.val → checkMem f = none →
    (s.fetched c.val).coreStore c.val ((s.at_ c.val).ea (fMode f) (fImm f)) n ((s.at_ c.val).reg (fReg f)) = (u, .ok ()) →
    exec i s = (u.modCore c.val fun k => k.postModify (fMode f) (fImm f)).done c.val { wrote := postRegs (fMode f) }) ∧
  (∀ (c : CoreId) (f : BitVec 26) (s u : State), s.Issues c.val → checkStack f = none →
    (s.fetched c.val).coreStore c.val ((s.at_ c.val).dsp - 4) 4 ((s.at_ c.val).reg (fReg f)) = (u, .ok ()) →
    exec (.push c f) s = (u.modCore c.val fun k => { k with dsp := k.dsp - 4 }).done c.val {}) ∧
  (∀ (c : CoreId) (f : BitVec 26) (s u : State) (v : Nat), s.Issues c.val → checkStack f = none → fReg f < 3 →
    (s.fetched c.val).coreLoad c.val (s.at_ c.val).dsp 4 = (u, .ok v) →
    exec (.pop c f) s = (u.modCore c.val fun k => { k with dsp := k.dsp + 4 }).done c.val
      { load := some { reg := fReg f, value := BitVec.ofNat 32 v } }) ∧
  (∀ (c : CoreId) (f : BitVec 26) (s u : State) (v : Nat) (k : Core), s.Issues c.val → checkStack f = none → 3 ≤ fReg f →
    (s.at_ c.val).mayWrite (fReg f) = true → (s.fetched c.val).coreLoad c.val (s.at_ c.val).dsp 4 = (u, .ok v) →
    (u.core c.val).setReg c.val (fReg f) (BitVec.ofNat 32 v) = .ok k →
    exec (.pop c f) s = ((u.modCore c.val fun _ => k).modCore c.val fun k => { k with dsp := k.dsp + 4 }).done c.val {}) ∧
  ∀ (c : CoreId) (f : BitVec 26) (s : State), s.Issues c.val → checkStack f = none → (s.at_ c.val).sr.getLsbD 3 = false →
    (s.at_ c.val).mayWrite (fReg f) = true →
    (∀ u e, (s.fetched c.val).coreStore c.val ((s.at_ c.val).dsp - 4) 4 ((s.at_ c.val).reg (fReg f)) = (u, .error e) → ∃ t,
      exec (.push c f) s = .next t ∧ (t.core c.val).dsp = (s.at_ c.val).dsp ∧ t.mem.sram = s.mem.sram ∧ t.mem.dome = s.mem.dome ∧
        t.mem.lantern = s.mem.lantern ∧ t.mem.mailbox = s.mem.mailbox ∧ t.mem.user = s.mem.user) ∧
    (∀ u e, (s.fetched c.val).coreLoad c.val (s.at_ c.val).dsp 4 = (u, .error e) → ∃ t,
      exec (.pop c f) s = .next t ∧ (t.core c.val).dsp = (s.at_ c.val).dsp ∧ t.mem.sram = s.mem.sram ∧ t.mem.dome = s.mem.dome ∧
        t.mem.lantern = s.mem.lantern ∧ t.mem.mailbox = s.mem.mailbox ∧ t.mem.user = s.mem.user) ∧
    ((s.at_ c.val).sr.getLsbD 8 = false → (s.at_ c.val).dsp.toNat % 4 ≠ 0 → ∀ i ∈ [Instr.push c f, Instr.pop c f], ∃ t,
      exec i s = .next t ∧ (t.core c.val).tcause = 0x406)

/-- 16 R552, R553, 15 R521: a branch that is taken, and every jump, goes to its destination in two cycles, else the next word
follows; a call within LIMIT pushes PC + 1 and goes there; RET takes the newest return address. -/
def Obligations.ControlTransfers : Prop :=
  (∀ (i : Instr) (c : CoreId) (taken : Core → Bool) (dest : Core → BitVec 24) (s : State), jumpRow i = some (c, none, taken, dest) →
    s.Issues c.val →
    exec i s = (s.fetched c.val).done c.val
      (if taken (s.at_ c.val) then { jump := some (dest (s.at_ c.val)), cycles := 2 } else {})) ∧
  (∀ (i : Instr) (c : CoreId) (dest : Core → BitVec 24) (s : State), callRow i = some (c, none, dest) → s.Issues c.val →
    (s.at_ c.val).ret.length < (s.at_ c.val).rsLimit →
    exec i s = ((s.fetched c.val).modCore c.val fun k => { k with ret := (k.pc + 1) :: k.ret }).done c.val
      { jump := some (dest (s.at_ c.val)), cycles := 2 }) ∧
  ∀ (c : CoreId) (s : State) (p : BitVec 24) (r : List (BitVec 24)), s.Issues c.val → (s.at_ c.val).ret = p :: r →
    exec (.ret c 0) s = ((s.fetched c.val).modCore c.val fun k => { k with ret := r }).done c.val { jump := some p, cycles := 2 }

/-- 15 R523, 16 R555: LOOP on a level above every active one sets its start, end and count; a count of 0 goes past the end; a LOOP
naming a level at or below an active one takes the undefined-opcode trap, detail LOOP_LEVEL, and one with a COUNT beside a register
count takes it with detail 1. -/
def Obligations.LoopSetUp : Prop :=
  (∀ (c : CoreId) (f : BitVec 26) (s : State) (d : Nat), s.Issues c.val → (s.at_ c.val).sr.getLsbD 3 = false →
    (d = if f.toNat / 2 ^ 22 % 4 ≠ 3 ∧ f.toNat / 1024 % 4096 ≠ 0 then 1 else 2) →
    (d = 1 ∨ ∃ n, f.toNat / 2 ^ 24 ≤ n ∧ n < 4 ∧ (s.at_ c.val).active n = true) → ∃ t, exec (.loop c f) s = .next t ∧
      (t.core c.val).tcause = BitVec.ofNat 32 (3 + d * 256) ∧ (t.core c.val).ls = (s.at_ c.val).ls ∧ (t.core c.val).lc = (s.at_ c.val).lc) ∧
  ∀ (c : CoreId) (f : BitVec 26) (s : State) (n : Nat) (count : Word) (e : BitVec 24), s.Issues c.val →
    checkLoop f (s.at_ c.val) = none → n = f.toNat / 2 ^ 24 →
    (count = if f.toNat / 2 ^ 22 % 4 = 3 then BitVec.ofNat 32 (f.toNat / 1024 % 4096) else (s.at_ c.val).reg (f.toNat / 2 ^ 22 % 4)) →
    e = (s.at_ c.val).pc + 1 + BitVec.ofNat 24 (f.toNat % 1024) →
    exec (.loop c f) s = ((s.fetched c.val).modCore c.val fun k =>
      { k with ls := vset k.ls n (k.pc + 1), le := vset k.le n e, lc := vset k.lc n count }.setActive n (count != 0)).done c.val
        (if count = 0 then { jump := some (e + 1) } else {})

/-- 15 R524, R525: at the end address of the one active loop the count falls by one and the core goes back to the start, until it
was 1: then the level ends with count 0 and the next word follows. -/
def Obligations.LoopEnds : Prop :=
  ∀ (k : Core) (n : Nat) (e next : BitVec 24), n < 4 → k.active n = true → vget k.le n = e →
    (∀ m < 4, m ≠ n → (k.active m && vget k.le m == e) = false) →
    (1 < (vget k.lc n).toNat → k.loopCheck e next = { k with lc := vset k.lc n (vget k.lc n - 1), pc := vget k.ls n }) ∧
    ((vget k.lc n).toNat ≤ 1 → k.loopCheck e next = { ({ k with lc := vset k.lc n 0 }.setActive n false) with pc := next })

/-- 15 R528–R530, R535: an issued SEV completes and sets EV and BY_SEV on every core of its own part, itself among them, and nothing else;
WFE completes and clears EV where it is 1, else stops the core's clock; WAITT completes where TICK has reached TCMP, else stops the
clock; the completion event of a wait ends it once its condition holds, and does nothing before; with a nonzero reserved field each
traps; a core that does not issue executes none.
Where the spec leaves the reading open it is the model's own (log 12). -/
def Obligations.Waits : Prop :=
  ∀ (c : CoreId) (s u : State), s.fetched c.val = u →
    (s.Issues c.val → ∃ t : State, exec (.sev c 0) s = t.done c.val {} ∧ t = { u with cores := t.cores } ∧
      ∀ k : CoreId, t.core k.val =
        if decide (k.val < 3) = decide (c.val < 3) then { u.core k.val with evr := (u.core k.val).evr ||| 3 } else u.core k.val) ∧
    (s.Issues c.val → (u.core c.val).evr.getLsbD 0 = true →
      exec (.wfe c 0) s = (u.modCore c.val fun k => { k with evr := k.evr &&& 6 }).done c.val {}) ∧
    (s.Issues c.val → (u.core c.val).evr.getLsbD 0 = false →
      exec (.wfe c 0) s = .next (u.modCore c.val fun k => { k with wait := .wfe, resume := none })) ∧
    (s.Issues c.val → u.reached (u.core c.val).tcmp = true → exec (.waitt c 0) s = u.done c.val {}) ∧
    (s.Issues c.val → u.reached (u.core c.val).tcmp = false →
      exec (.waitt c 0) s = .next (u.modCore c.val fun k => { k with wait := .waitt, resume := none })) ∧
    (∀ f, s.Issues c.val → f ≠ 0 → ∀ i ∈ [Instr.sev c f, Instr.wfe c f, Instr.waitt c f],
      exec i s = .next (u.trap c.val ⟨3, 1, 0⟩ (u.core c.val).pc none)) ∧
    (∀ f, s.issues c.val = false → ∀ i ∈ [Instr.sev c f, Instr.wfe c f, Instr.waitt c f], exec i s = .next s) ∧
    (s.coreOn c.val = true → (s.core c.val).wait = .wfe → (s.core c.val).evr.getLsbD 0 = true →
      exec (.wfeComplete c) s = (s.modCore c.val fun k => { k with evr := k.evr &&& 6 }).done c.val {}) ∧
    (s.coreOn c.val = false ∨ (s.core c.val).wait ≠ .wfe ∨ (s.core c.val).evr.getLsbD 0 = false → exec (.wfeComplete c) s = .next s) ∧
    (s.coreOn c.val = true → (s.core c.val).wait = .waitt → s.reached (s.core c.val).tcmp = true →
      exec (.waittComplete c) s = s.done c.val {}) ∧
    (s.coreOn c.val = false ∨ (s.core c.val).wait ≠ .waitt ∨ s.reached (s.core c.val).tcmp = false → exec (.waittComplete c) s = .next s)

/-- 15 R512, R521, R535: MFC reads, MTC writes a control register at privilege 0; RETT restores SR and pc from TSR and TPC. -/
def Obligations.ControlRegisters : Prop :=
  ∀ (c : CoreId) (s : State), s.Issues c.val → (s.at_ c.val).priv = 0 →
    (∀ f, checkControl c.val f = none → fReg f = 0 → fImm f = 32 → exec (.mfc c f) s =
      ((s.fetched c.val).modCore c.val fun k => { k with a := k.tpc.setWidth 32 }).done c.val { wrote := [0] }) ∧
    (∀ f, checkControl c.val f = none → fReg f = 0 → fImm f = 34 → exec (.mfc c f) s =
      ((s.fetched c.val).modCore c.val fun k => { k with a := k.tcause }).done c.val { wrote := [0] }) ∧
    (∀ f p r, checkControl c.val f = none → fReg f = 0 → fImm f = 38 → (s.at_ c.val).ret = r ++ [p] → exec (.mfc c f) s =
      ((s.fetched c.val).modCore c.val fun k => { k with ret := r, a := p.setWidth 32 }).done c.val { wrote := [0] }) ∧
    (∀ f, checkControl c.val f = none → fImm f = 37 → exec (.mtc c f) s =
      ((s.fetched c.val).modCore c.val fun k => { k with tvec := (k.reg (fReg f)).setWidth 24 &&& 0xFFFFC0 }).done c.val {}) ∧
    (∀ f, checkControl c.val f = none → fImm f = 36 → exec (.mtc c f) s =
      ((s.fetched c.val).modCore c.val fun k => { k with trc := k.reg (fReg f) }).done c.val {}) ∧
    ∃ t, exec (.rett c 0) s = .next t ∧ (t.core c.val).pc = (s.at_ c.val).tpc ∧ (t.core c.val).sr.getLsbD 15 = (s.at_ c.val).sr.getLsbD 15 ∧
      (∀ k, k < 15 → k ≠ 8 → (t.core c.val).sr.getLsbD k = (s.at_ c.val).tsr.getLsbD k) ∧
      (t.core c.val).resume = if (s.at_ c.val).tsr.getLsbD 14 then some (s.at_ c.val).trc else none

/-- 15 R526, R528, R535, R537, R540, R543: an interrupt that core `c` takes sets TPC and TSR, TSR.REP with TRC where it falls into a REP, the cause
10H with the source's number as detail, EXL and IPL, clears PRIV, IE and the loop levels, and goes to the vector; a pending load has
landed, a wait ends (a WAITT whose target is reached completes first), and a source not seen before sets EV and BY_INT. The other cores
and memory keep what they hold. A core that may take none goes on. An instruction at whose issue an interrupt can be taken is not
executed: the interrupt is taken in its place. -/
def Obligations.InterruptEntry : Prop :=
  ∀ (c : DrumCore) (s : State) (k : Core),
    k = ((if (s.core c.val).wait = .waitt ∧ s.reached (s.core c.val).tcmp = true then s.complete c.val {} else s).core c.val) →
    (∀ n, s.coreOn c.val = true → s.takeable c.val = some n →
      ∃ t, exec (.interruptEntry c) s = .next t ∧ (t.core c.val).tpc = k.pc ∧ (t.core c.val).taddr = 0 ∧
        (t.core c.val).tcause = BitVec.ofNat 32 (0x10 + n * 256) ∧ (t.core c.val).pc = k.tvec + 0x40 ∧
        (t.core c.val).sr.getLsbD 3 = true ∧ (t.core c.val).sr.getLsbD 2 = false ∧ (t.core c.val).sr.toNat % 4 = 0 ∧
        (t.core c.val).sr.toNat / 16 % 16 = (vget s.intc n).prioNow.toNat ∧ (t.core c.val).sr.toNat / 1024 % 16 = 0 ∧
        (∀ j, j ≠ 14 → (t.core c.val).tsr.getLsbD j = k.sr.getLsbD j) ∧ (t.core c.val).tsr.getLsbD 14 = k.resume.isSome ∧
        (t.core c.val).trc = k.resume.getD k.trc ∧ (t.core c.val).resume = none ∧ (t.core c.val).wait = .none ∧
        (t.core c.val).evr = (if (vget s.intc n).sampled = true then k.evr else k.evr ||| 5) ∧
        (t.core c.val).a = k.landSlot.a ∧ (t.core c.val).x = k.landSlot.x ∧ (t.core c.val).y = k.landSlot.y ∧ (t.core c.val).slot = none ∧
        (t.core c.val).ret = k.ret ∧ (t.core c.val).dsp = k.dsp ∧ (vget t.intc n).sampled = true ∧ t.mem = s.mem ∧
        ∀ j : CoreId, j.val ≠ c.val → t.core j.val = s.core j.val) ∧
    (∀ i d n, issued i = some d → d.val = c.val → s.issues c.val = true → s.takeable c.val = some n →
      exec i s = exec (.interruptEntry c) s) ∧
    (s.coreOn c.val = false ∨ s.takeable c.val = none → exec (.interruptEntry c) s = .next s)

/-- 15 R519: the oldest Bare-mode product lands no earlier than its cycle. -/
def Obligations.ProductLands : Prop :=
  ∀ (c : CoreId) (s : State) (p : Product), s.coreOn c.val = true → (s.core c.val).products = [p] →
    ∃ t, exec (.bareMulProductLand c) s = .next t ∧ (t.core c.val).mph = p.hi ∧ (t.core c.val).mpl = p.lo ∧
      (t.core c.val).products = [] ∧ p.issue + 4 ≤ (t.core c.val).cycle

/-- 15 R526, 16 R556: REP of ADD with an immediate adds it as often as REP counts, and execution goes on two words further.
Where the spec leaves the reading open it is the model's own (log 31). -/
def Obligations.RepeatedAdd : Prop :=
  ∀ (c : CoreId) (f : BitVec 26) (w : Word) (s : State) (n : Nat), s.Issues c.val →
    ((s.fetched c.val).fetchTrap c.val ((s.at_ c.val).pc + 1)).2 = none → checkRep f = none → w.toNat / 2 ^ 26 = 5 →
    w.toNat / 2 ^ 16 % 1024 = 0 → (s.at_ c.val).resume = none → fMode f = 3 → fImm f = n →
    (∀ m < 4, (s.at_ c.val).active m = false) →
    ∃ t, exec (.rep c f w none) s = .next t ∧
      (t.core c.val).a = (s.at_ c.val).landSlot.a + BitVec.ofNat 32 n * sext16 (w.toNat % 65536) ∧
      (t.core c.val).pc = (s.at_ c.val).pc + 2

/-- 15 R533, R535, R536: a word with a reserved field traps with cause 3: TPC and TSR keep pc and SR, TCAUSE names cause and detail, EXL
is set, PRIV, IE and the loop levels are cleared, and execution goes on at TVEC + 4 × cause; a pending load has landed. While EXL is
1 the same trap, and any other synchronous one, is a double trap: the core does not enter the vector but is reset into Bare mode,
the double trap being its reset source. -/
def Obligations.TrapEntry : Prop :=
  (∀ (c : CoreId) (u : State) (x : Trap) (p : BitVec 24) (r : Option Word), (u.core c.val).sr.getLsbD 3 = true →
    ∃ t, u.trap c.val x p r = t ∧ (t.core c.val).bare = true ∧
      t.core c.val = coreAt c.val (if c.val = 1 ∨ c.val = 2 then 0xFF0080 else 0xFF0000) false ∧ (c.val = 1 → t.boot.srcD1 = 13) ∧
      (c.val = 2 → t.boot.srcD2 = 13) ∧ (c.val = 0 → u.drumImages.trial = none → u.boot.drum ≠ .images → t.boot.srcDrum = 10) ∧
      (3 ≤ c.val → u.domeImages.trial = none → u.boot.dome ≠ .images → t.boot.domeSource = 4)) ∧
  (∀ (c : CoreId) (f : BitVec 26) (s : State), s.Issues c.val → f ≠ 0 → (s.at_ c.val).sr.getLsbD 3 = true →
    exec (.nop c f) s = .next ((s.fetched c.val).trap c.val ⟨3, 1, 0⟩ (s.at_ c.val).pc none)) ∧
  ∀ (c : CoreId) (f : BitVec 26) (s : State), s.Issues c.val → f ≠ 0 → (s.at_ c.val).sr.getLsbD 3 = false →
    ∃ t, exec (.nop c f) s = .next t ∧ (t.core c.val).tpc = (s.at_ c.val).pc ∧ (t.core c.val).tcause = 0x103 ∧
      (t.core c.val).taddr = 0 ∧ (t.core c.val).pc = (s.at_ c.val).tvec + 12 ∧ (t.core c.val).sr.getLsbD 3 = true ∧
      (t.core c.val).sr.getLsbD 2 = false ∧ (t.core c.val).sr.toNat % 4 = 0 ∧ (t.core c.val).sr.toNat / 1024 % 16 = 0 ∧
      (∀ k, k ≠ 14 → (t.core c.val).tsr.getLsbD k = (s.at_ c.val).sr.getLsbD k) ∧ (t.core c.val).tsr.getLsbD 14 = false ∧
      (t.core c.val).a = (s.at_ c.val).landSlot.a ∧ (t.core c.val).slot = none

/-- 15 R512, R515, R535: at privilege 1 or 2 MFC, MTC and RETT, and at privilege 2 IN and OUT, take the privilege trap, cause 2. -/
def Obligations.PrivilegeTraps : Prop :=
  ∀ (c : CoreId) (f : BitVec 26) (s : State), s.Issues c.val → (s.at_ c.val).sr.getLsbD 3 = false → (s.at_ c.val).priv ≠ 0 →
    (∃ t, exec (.rett c 0) s = .next t ∧ (t.core c.val).tcause = 0x502 ∧ (t.core c.val).pc = (s.at_ c.val).tvec + 8) ∧
    (checkControl c.val f = none → ∀ i ∈ [Instr.mfc c f, Instr.mtc c f], ∃ t, exec i s = .next t ∧
      (t.core c.val).tcause = BitVec.ofNat 32 (0x302) ∧ (t.core c.val).taddr = BitVec.ofNat 32 (fImm f % 64)) ∧
    (checkIo f = none → (s.at_ c.val).priv = 2 → ∀ i ∈ [Instr.inp c f, Instr.outp c f], ∃ t, exec i s = .next t ∧
      (t.core c.val).tcause = 0x402 ∧ (t.core c.val).taddr = BitVec.ofNat 32 ((s.at_ c.val).ioAddr f))

/-- 15 R542: what a loop pair or the supervisor reads and writes in the Dome's I/O space is not documented by register; a permitted
IN or OUT there is refused as domeIo.
Where the spec leaves the reading open it is the model's own (log 28). -/
def Obligations.DomeIoRefused : Prop :=
  ∀ (c : CoreId) (f : BitVec 26) (s : State), s.Issues c.val → 3 ≤ c.val → checkIo f = none → (s.at_ c.val).priv = 0 →
    exec (.inp c f) s = .refused .domeIo ∧ exec (.outp c f) s = .refused .domeIo

/-- 15 R515, 16 R550, R551: IN of a register that the Drum's I/O space has comes through the delay slot; OUT that its register accepts
is a write of it. -/
def Obligations.InOut : Prop :=
  ∀ (c : DrumCore) (f : BitVec 26) (s : State) (k : CoreId), k.val = c.val → checkIo f = none →
    (∀ u v, s.MayIn c → (s.fetched c.val).ioRead ((s.at_ c.val).ioAddr f) = (u, .ok v) →
      exec (.inp k f) s = u.done c.val { load := some { reg := fReg f, value := v }, cycles := 2 }) ∧
    (∀ u, s.MayOut c ((s.at_ c.val).ioAddr f) →
      (s.fetched c.val).ioWrite c.val (s.at_ c.val).priv ((s.at_ c.val).ioAddr f) ((s.at_ c.val).reg (fReg f)).toNat = .ok u →
      exec (.outp k f) s = u.outDone c.val) ∧
    (∀ u a v, s.MayOut c (BitVec.toNat a) →
      (s.fetched c.val).ioWrite c.val (s.at_ c.val).priv a.toNat (BitVec.toNat v) = .ok u →
      exec (.registerWrite c a v) s = u.outDone c.val)

/-- 00 R7, 03 R98, R105, 11 R400, 14 R492, 15 R539, 17 R570, 20 R636: what the INs of registers whose reading has an effect return and do;
a count that they clear returns its value at the start of the tick and keeps what the tick has added.
Where the spec leaves the reading open it is the model's own (log 32). -/
def Obligations.RegisterReads : Prop :=
  ∀ (c : DrumCore) (r : AXY) (s u : State), s.MayIn c → s.fetched c.val = u →
    exec (.aonDtfRead c r) s =
      { u with clk := { u.clk with latchS := BitVec.ofNat 32 (u.now / 2 ^ 32), latchTick := u.clk.tick } }.inDone c.val r (u.now % 2 ^ 32) ∧
    (∃ v w, exec (.evtStatRead c r) s = State.inDone w c.val r v ∧
      (∀ n < 4, v / 256 ^ n % 256 = min 255 (vget u.start.merged n) ∧
        vget w.evt n = { vget u.evt n with merged := (vget u.evt n).merged - vget u.start.merged n }) ∧
      w = { u with evt := w.evt, start := { u.start with merged := Vector.replicate 4 0 } }) ∧
    exec (.mbxCcountRead c r) s = State.inDone { u with
      mbx := { u.mbx with count := u.mbx.count - u.start.collisions }
      start := { u.start with collisions := 0 } } c.val r u.start.collisions ∧
    (∀ n : Fin 16, exec (.ringDropRead c n r) s =
      (({ u with start := { u.start with drops := vset u.start.drops n.val 0 } } : State).modRing n.val fun k =>
        { k with drops := k.drops - vget u.start.drops n.val }).inDone c.val r (vget u.start.drops n.val)) ∧
    (∀ n : Fin 3, u.offered n.val 0 = none → exec (.intcClaim c n r) s = u.inDone c.val r 63) ∧
    (∀ (n : Fin 3) (k : Nat), u.offered n.val 0 = some k → exec (.intcClaim c n r) s =
      { u with intc := vmod u.intc k fun q => { q with active := true } }.inDone c.val r k) ∧
    (∀ n : Fin 7, (vget u.uarts (drumUart n)).rx = [] → exec (.uartRxdPop c n r) s = u.inDone c.val r 0) ∧
    (∀ (n : Fin 7) (e : RxEntry) (l : List RxEntry), (vget u.uarts (drumUart n)).rx = e :: l → exec (.uartRxdPop c n r) s =
      (u.modUart (drumUart n) fun q => { q with rx := l, popDt := e.dt }).inDone c.val r (e.bits.toNat + 2 ^ 31)) ∧
    ∀ n : Fin 16, exec (.pmonVallRead c n r) s =
      { u with pmon := { u.pmon with counters := vmod u.pmon.counters n.val fun k => { k with high := BitVec.ofNat 16 (k.value.toNat / 2 ^ 32) } } }.inDone c.val r
        ((vget u.pmon.counters n.val).value.toNat % 2 ^ 32)

/-- 00 R7, 15 R539, 14 R489, R492, R496, R501, 03 R99, 18 R592, R608, 19 R630, 20 R636, 17 R570, R575: what the OUTs to registers that act
when they are written do, with a value that the register accepts.
Where the spec leaves the reading open it is the model's own (log 32). -/
def Obligations.RegisterWrites : Prop :=
  ∀ (c : DrumCore) (s u : State) (v : Word), s.fetched c.val = u →
    (∀ n : Fin 3, s.MayOut c (0x2044 + n.val) → exec (.intcEoi c n v) s =
      { u with intc := vmod u.intc (v.toNat % 64) fun r => if r.coreNow.toNat = n.val then { r with active := false } else r }.outDone c.val) ∧
    (∀ n : Fin 7, s.MayOut c (0x1802 + 64 * drumUart n) → (vget u.uarts (drumUart n)).tx.length < 64 →
      exec (.uartTxdPush c n v) s =
        ((u.modUart (drumUart n) fun q => { q with tx := q.tx ++ [v.setWidth 9] }).uartStart (drumUart n)).outDone c.val) ∧
    (∀ n : Fin 7, s.MayOut c (0x1807 + 64 * drumUart n) → 1 ≤ v.toNat % 128 → v.toNat % 128 ≤ 64 → bit v.toNat 25 = false →
      exec (.uartFlushRx c n v) s = (u.modUart (drumUart n) fun q => { q with
        rx := [], rxThresh := v.setWidth 7, txThresh := v.extractLsb' 8 6, inten := v.extractLsb' 16 5 }).outDone c.val) ∧
    (∀ n : Fin 7, s.MayOut c (0x1807 + 64 * drumUart n) → 1 ≤ v.toNat % 128 → v.toNat % 128 ≤ 64 → bit v.toNat 24 = false →
      exec (.uartFlushTx c n v) s = (u.modUart (drumUart n) fun q => { q with
        tx := [], rxThresh := v.setWidth 7, txThresh := v.extractLsb' 8 6, inten := v.extractLsb' 16 5
        txThr := q.txThr || decide ((v.extractLsb' 8 6).toNat < q.tx.length) }).outDone c.val) ∧
    (∀ n : Fin 7, s.MayOut c (0x1808 + 64 * drumUart n) → exec (.uartBreakSend c n v) s =
      ((u.modUart (drumUart n) fun q => { q with brkLen := v.setWidth 16 }).requestBreak (drumUart n) (v.toNat % 65536) none).outDone c.val) ∧
    (∀ m : Fin 2, s.MayOut c (0x1A06 + 256 * m.val) → (vget u.cans m.val).en = true →
      (v - (vget u.cans m.val).rxCons).toNat ≤ ((vget u.cans m.val).rxProd - (vget u.cans m.val).rxCons).toNat →
      exec (.canRxconsWrite c m v) s = (u.modCan m.val fun k => { k with rxCons := v }).outDone c.val) ∧
    (∀ m : Fin 2, s.MayOut c (0x1A07 + 256 * m.val) → (vget u.cans m.val).en = true →
      (v - (vget u.cans m.val).txProd).toNat + ((vget u.cans m.val).txProd - (vget u.cans m.val).txCons).toNat ≤
        2 ^ (vget u.cans m.val).txLog2.toNat →
      exec (.canTxprodWrite c m v) s = (u.modCan m.val fun k => { k with txProd := v }).outDone c.val) ∧
    (∀ m : Fin 2, s.MayOut c (0x1A00 + 256 * m.val) → v.toNat / 4 % 4 ≠ 3 → bit v.toNat 0 = false →
      ∃ t : State, (vget t.cans m.val).en = false ∧ (vget t.cans m.val).rxProd = 0 ∧ (vget t.cans m.val).txProd = 0 ∧
        (vget t.cans m.val).rxCons = 0 ∧ (vget t.cans m.val).txCons = 0 ∧ (vget t.cans m.val).tec = 0 ∧
        exec (.canCfgWrite c m v) s = t.outDone c.val) ∧
    (∀ m : Fin 2, s.MayOut c (0x1A00 + 256 * m.val) → v.toNat / 4 % 4 ≠ 3 → bit v.toNat 0 = true →
      (vget u.cans m.val).rxBase.toNat * 64 + 2 ^ (vget u.cans m.val).rxLog2.toNat * 96 ≤ 0x3E3000 →
      (vget u.cans m.val).txBase.toNat * 64 + 2 ^ (vget u.cans m.val).txLog2.toNat * 96 ≤ 0x3E3000 →
      ∃ t : State, (vget t.cans m.val).en = true ∧ (vget t.cans m.val).fd = bit v.toNat 1 ∧
        (vget t.cans m.val).wake = bit v.toNat 5 ∧ exec (.canCfgWrite c m v) s = t.outDone c.val) ∧
    (∀ n : Fin 4, s.MayOut c (0x1002 + 4 * n.val) →
      exec (.mmuInvalidatePage c n v) s = (u.modMmu n.val fun m => { m with
        tlb := m.tlb.filter fun e => !(e.vpn == v.extractLsb' 12 20 && (e.global || e.asid == v.setWidth 8)) }).outDone c.val ∧
      exec (.mmuInvalidateAsid c n v) s = (u.modMmu n.val fun m => { m with
        tlb := m.tlb.filter fun e => e.global || e.asid != v.setWidth 8 }).outDone c.val ∧
      exec (.mmuInvalidateAll c n v) s = (u.modMmu n.val fun m => { m with tlb := [] }).outDone c.val) ∧
    (s.MayOut c 0x0200 → exec (.pwrReqRun c v) s = (u.request
      { target := .run, snapSr := bit v.toNat 3, from_ := .drum, delayMax := if v.toNat / 65536 = 0 then 1000 else v.toNat / 65536 }).outDone c.val) ∧
    (∀ k, s.MayOut c 0x0200 → targetOf (v.toNat % 8) = some k →
      exec (.pwrReqEntry c v) s = (u.request
        { target := k, snapSr := bit v.toNat 3, from_ := .drum, delayMax := if v.toNat / 65536 = 0 then 1000 else v.toNat / 65536 }).outDone c.val) ∧
    (∀ n : Fin 4, s.MayOut c (0x0130 + 4 * n.val) → n.val ≠ 3 → v.toNat % 4 ≠ 3 →
      (v.toNat % 4 = 2 → (vget u.ltimers n.val).period ≠ 0) →
      exec (.ltimCfgWrite c n v) s = { u with ltimers := vmod u.ltimers n.val fun k => k.setMode (v.setWidth 2) }.outDone c.val) ∧
    (∀ n : Fin 3, s.MayOut c (0x0341 + 2 * n.val) → v.toNat % 65536 = 0xC35A →
      exec (.wdtKick c n v) s = State.outDone { u with
        wdts := vmod u.wdts n.val fun w => if w.en = true ∧ w.since + ms w.period.toNat ≤ u.now then w else { w with since := u.now } } c.val) ∧
    (∀ n : Fin 16, s.MayOut c (0x1E00 + 4 * n.val) → v.toNat % 256 ≤ 75 →
      exec (.pmonClear c n v) s = { u with pmon := { u.pmon with
        counters := vmod u.pmon.counters n.val fun k => { k with event := v.setWidth 8, en := bit v.toNat 8, ovie := bit v.toNat 9, value := 0 } } }.outDone c.val) ∧
    (s.MayOut c 0x0400 → exec (.mbxDoorbellOut c v) s = State.outDone { u with mbx :=
      { u.mbx with dbOut := u.mbx.dbOut || c.val == 0, dbIn := if c.val = 0 then u.mbx.dbIn && !(bit v.toNat 0 && bit (u.stood 0x0400) 0) else u.mbx.dbIn
                   collide := u.mbx.collide && !(bit v.toNat 2 && bit (u.stood 0x0400) 2), collIe := bit v.toNat 3 } } c.val)

/-- 11 R400, R401: writes of a ring's configuration and of its indices, with values that the ring accepts. A command ring of the Drum
side takes the slots written as one transaction. -/
def Obligations.RingRegisterWrites : Prop :=
  ∀ (c : DrumCore) (n : Fin 16) (s u : State) (v : Word) (r : Ring), s.fetched c.val = u → vget u.rings n.val = r →
    (s.MayOut c (0x0801 + 8 * n.val) → 4 ≤ v.toNat % 16 → v.toNat % 16 ≤ 12 →
      (r.en = true → v.toNat % 16 = r.sizeLog2.toNat ∧ bit v.toNat 5 = r.side) →
      (bit v.toNat 4 = true → r.base.toNat * 64 + 64 * 2 ^ (v.toNat % 16) ≤ 0x400000) →
      ∃ k : Ring, k.en = bit v.toNat 4 ∧ k.side = bit v.toNat 5 ∧ k.sizeLog2.toNat = v.toNat % 16 ∧ k.base = r.base ∧
        k.thresh = v.extractLsb' 7 13 ∧ exec (.ringCfgWrite c n v) s = ((if bit v.toNat 4 then u else u.forgetSent n.val).modRing n.val fun _ => k).outDone c.val) ∧
    (s.MayOut c (0x0802 + 8 * n.val) → r.en = true → n.val < 4 → r.side = true → v ≠ r.prod →
      (v - r.prod).toNat ≤ r.slots - r.usedByProducer →
      exec (.ringProdWrite c n v) s = ((((u.modRing n.val fun k => { k with prod := v }).claim 6).2.modRing n.val fun k =>
        { k with arrivals := k.arrivals ++ [{ slots := (v - r.prod).toNat, tick := u.clk.tick }] })).outDone c.val) ∧
    (s.MayOut c (0x0802 + 8 * n.val) → r.en = true → n.val = 15 → (v - r.prod).toNat ≤ r.slots - r.usedByProducer →
      exec (.ringProdWrite c n v) s = (u.modRing n.val fun k => { k with prod := v }).outDone c.val) ∧
    (s.MayOut c (0x0803 + 8 * n.val) → r.en = true → 4 ≤ n.val → r.side = true → (v - r.cons).toNat ≤ r.ready →
      exec (.ringConsWrite c n v) s = (u.modRing n.val fun k => { k with cons := v }).outDone c.val)

/-- 17 R584, R585: starting, resuming and aborting a DMA channel. START loads the descriptor at ADDR; RESUME of a fault within a
descriptor retries; ABORT leaves the channel idle.
Where the spec leaves the reading open it is the model's own (log 33). -/
def Obligations.DmaControl : Prop :=
  ∀ (c : DrumCore) (n : Fin 16) (s u : State) (v : Word) (d : DmaChannel), s.fetched c.val = u → u.dmaCh n.val = d →
    s.MayOut c (0x0C00 + 8 * n.val) → v.toNat / 32 % 4 ≠ 3 → ((s.at_ c.val).priv ≤ v.toNat / 32 % 4) →
    (d.state = .idle → bit v.toNat 1 = false →
      exec (.dmaStart c n v) s = ((u.modDma n.val fun k => { k with
        prio := v.extractLsb' 3 2, priv := v.extractLsb' 5 2, xlate := bit v.toNat 7, ie := v.extractLsb' 8 3,
        tokens := 0 }).dmaLoad n.val (d.addr.toNat * 32)).outDone c.val) ∧
    (∀ e, d.state = .faulted → d.desc = some e → bit v.toNat 0 = false → bit v.toNat 2 = false → v.extractLsb' 3 2 = d.prio →
      v.extractLsb' 5 2 = d.priv → bit v.toNat 7 = d.xlate →
      exec (.dmaResume c n v) s = (u.modDma n.val fun k => { k with ie := v.extractLsb' 8 3, state := .waiting }).outDone c.val) ∧
    (d.state ≠ .idle → bit v.toNat 0 = false → bit v.toNat 1 = false → v.extractLsb' 3 2 = d.prio →
      v.extractLsb' 5 2 = d.priv → bit v.toNat 7 = d.xlate →
      exec (.dmaAbort c n v) s = (u.modDma n.val fun k => { k with
        ie := v.extractLsb' 8 3, state := .idle, held := none, desc := none, k := 0, abortedF := true }).outDone c.val)

/-- 13 R456, R457, R460: a lane comes up with eight credits less the frames kept, goes down, sleeps; an ACK releases the frames up to
its HSEQ, a NAK or the replay time-out sends what is not acknowledged again, a credit lets frames go. -/
def Obligations.LaneEvents : Prop :=
  ∀ (l : LaneId) (s : State),
    (s.fast = true → (s.lane l.num).st ≠ .up → (s.lane l.num).st ≠ .off →
      exec (.symbolLock l) s = .next ((s.modKakel l.num fun a => { a with lock := true, st := .training }).modChain fun c =>
        if l.num = 0 then { c with relayUp := false } else { c with relayDown := false })) ∧
    (s.fast = true → (s.lane l.num).st = .training → (s.lane l.num).lock = true →
      ∃ t, exec (.linkUp l) s = .next t ∧ (t.lane l.num).st = .up) ∧
    (s.fast = true → (s.lane l.num).st = .training → (s.lane l.num).lock = true → (s.lane l.num).queue = [] → l = .chu →
      s.chain.head = false → ∃ t, exec (.linkUp l) s = .next t ∧ (t.lane 0).credits = 8 - min 8 (s.lane 0).replay.length ∧
        (t.lane 0).replay.length = (s.lane 0).replay.length) ∧
    (∀ n, s.fast = true → (s.lane l.num).st = .up → ∃ t, exec (.linkDown ⟨l, n⟩) s = .next t ∧ (t.lane l.num).st = .down ∧
      (t.lane l.num).replay = (s.lane l.num).replay ∧ vget t.chain.counters (6 + l.num) = min 0xFFFF (vget s.chain.counters (6 + l.num) + n)) ∧
    (∀ f, s.Receives l.num f → f.frame.ftype = 9 → exec (.linkSleep l f) s =
      .next ((s.received l.num f).modKakel l.num fun a => { a with st := .asleep, lock := false, slept := true })) ∧
    (∀ f, s.Receives l.num f → (f.frame.ftype = 0 ∨ 10 ≤ f.frame.ftype) →
      exec (.reservedFrame l f) s = .next ((s.received l.num f).chainCount 13)) ∧
    (∀ f r (n : Fin 256), (s.lane l.num).replay = f :: r → f.hseq = n.val → exec (.ack l n) s =
      .next (((s.modKakel l.num fun a => { a with replay := r, replays := 0 }).freed f.own).pump l.num)) ∧
    (∀ (n : Fin 256) f, s.Replays l.num f → f.hseq = n.val → ∃ t, exec (.nak l n) s = .next t ∧
      (t.lane l.num).replays = (s.lane l.num).replays + 1 ∧ (t.lane l.num).replay.map (·.frame) = (s.lane l.num).replay.map (·.frame)) ∧
    (∀ f, s.Replays l.num f → (s.lane l.num).st = .up → f.sentDt + us 8 ≤ s.now → ∃ t, exec (.replayTimeout l) s = .next t ∧
      (t.lane l.num).replays = (s.lane l.num).replays + 1 ∧ (t.lane l.num).replay.map (·.frame) = (s.lane l.num).replay.map (·.frame)) ∧
    ∀ k : Fin 256, exec (.credit l k) s = .next ((s.modKakel l.num fun a => { a with credits := a.credits + k.val }).pump l.num)

/-- 13 R459, R461–R464: units on the chain. A unit of one frame for this device enters its command ring, waits while the ring lacks room, or is
discarded where the ring takes none; a unit from below enters CRX at the head; a unit whose segments cease is abandoned, one that is
held too long is dropped and what waited behind it goes on; at a unit boundary the device's own output or a forwarded unit goes up. -/
def Obligations.ChainUnits : Prop :=
  ∀ s : State,
    (∀ f, s.Receives 0 f → f.frame.ftype = 1 → f.frame.first = true → f.frame.last = true → f.frame.abandon = false →
      s.chain.unnumbered = false → f.frame.dev = s.chain.number → f.frame.dev ≠ 127 → s.chain.held = none →
      (s.lacksRoom f.frame = true → exec (.down f) s = .next ((s.received 0 f).modChain fun c =>
        { c with held := some { frames := [f.frame], since := s.now } })) ∧
      (s.fillable f.frame.seg = false → exec (.down f) s = .next (((s.received 0 f).modKakel 0 fun a => { a with rx := none }).chainCount 11)) ∧
      (s.lacksRoom f.frame = false → s.fillable f.frame.seg = true →
        slotsOf f.frame.seg.length ≤ (vget s.rings (selectedRing f.frame.seg)).free → exec (.down f) s =
          .next (((s.received 0 f).modKakel 0 fun a => { a with rx := none }).arrive (selectedRing f.frame.seg) f.frame.seg))) ∧
    (∀ f, s.Receives 1 f → f.frame.ftype = 2 → f.frame.first = true → f.frame.last = true → f.frame.abandon = false →
      s.chain.head = true → exec (.up f) s = .next (((s.received 1 f).modChain fun c => { c with crxUnit := none }).crxPut
        { dev := f.frame.dev, ring := f.frame.ring, bytes := f.frame.seg })) ∧
    (s.chain.current = some true → (s.lane 0).lastSeg + ms 1 ≤ s.now → ∃ t, exec (.unitAbandon .chu) s = .next t ∧
      t.chain.current = none) ∧
    ((s.lane 1).sending = true → (s.lane 1).lastSeg + ms 1 ≤ s.now → ∃ t, exec (.unitAbandon .chd) s = .next t ∧
      (t.lane 1).sending = false) ∧
    (∀ h, s.chain.held = some h → h.since + us s.chain.downHold.toNat ≤ s.now →
      exec .downHoldExpiry s = .next (((s.modKakel 0 fun a => { a with rx := none }).chainCount 11).resumeDown
        (h.frames.tail.dropWhile fun f => !f.first))) ∧
    (∀ n b k, s.drumUp = true → s.chain.head = false → s.laneUp 0 = true → s.chain.current = none → s.chain.hopUp = [] →
      s.ownRing = some n → s.ownUnit n = some (b, k) → ∃ t : State, exec .unitBoundaryArbitration s =
        .next (t.sendFrames 0 (unitFrames 2 s.number n (n, k) b)) ∧ t.rings = s.rings ∧
        vget t.chain.sentSlots n = vget s.chain.sentSlots n + if n < 16 then k else 0) ∧
    (∀ f r, s.drumUp = true → s.chain.head = false → s.laneUp 0 = true → s.chain.current = none → s.chain.hopUp = f :: r →
      s.ownRing = none → exec .unitBoundaryArbitration s =
        .next (s.modChain fun c => { c with forwarded := c.forwarded + 1, current := some true }).flowUp)

/-- 13 R444, R466–R468, 03 R109: becoming the head, and enumeration: a device takes its number, adds one and passes ENUM down, or
answers ENUM_END at the end of the chain; the head ends the enumeration, a request starts one, 10 ms without an answer end it. -/
def Obligations.Enumerations : Prop :=
  ∀ (s : State) (f : RxFrame),
    (s.drumUp = true → s.chain.head = false → 8184000 ≤ s.chain.headCount → s.laneUp 0 = false → ∃ t, exec .headTimeout s = .next t ∧
      t.chain.head = true ∧ t.chain.number = 0 ∧ t.chain.unnumbered = false ∧ t.clk.offset = 0) ∧
    (s.Receives 0 f → f.frame.ftype = 6 → byteAt f.frame.seg 0 < 64 → ∃ t, exec (.enum f) s = .next t ∧
      t.chain.number = byteAt f.frame.seg 0 ∧ t.chain.unnumbered = false ∧ t.clk.masterEpoch = getLe f.frame.seg 4 4) ∧
    (s.Receives 0 f → f.frame.ftype = 6 → 64 ≤ byteAt f.frame.seg 0 → ∃ t, exec (.enum f) s = .next t ∧ t.chain.unnumbered = true) ∧
    (s.Receives 1 f → f.frame.ftype = 7 → s.chain.head = true → exec (.enumEnd f) s =
      .next ((s.received 1 f).endEnum (byteAt f.frame.seg 0) (bit (byteAt f.frame.seg 1) 0) (byteAt f.frame.seg 2))) ∧
    (s.Receives 1 f → f.frame.ftype = 7 → s.chain.head = false → exec (.enumEnd f) s =
      .next (((s.received 1 f).modChain fun c => { c with length := byteAt f.frame.seg 0 }).sendSingle 0 7 f.frame.seg)) ∧
    (s.Receives 1 f → f.frame.ftype = 8 → exec (.enumReq f) s = .next (if s.chain.head then (s.received 1 f).requestEnum
      else if s.lastDevice then (s.received 1 f).chainCount 14 else (s.received 1 f).sendSingle 0 8 (zeros 4))) ∧
    (∀ e, s.chain.enum = some e → e.cmds = [] → e.started + ms 10 ≤ s.now →
      exec .enumerationTimeout s = .next (s.modChain fun c => { c with enum := none })) ∧
    (∀ e n, s.chain.enum = some e → e.cmds = [n] → e.started + ms 10 ≤ s.now →
      exec .enumerationTimeout s = .next ((s.modChain fun c => { c with enum := none }).finalReply n .timeout 0 []))

/-- 13 R469, R470, 03 R110, R111: alignment. An exchange is started once a second with its stamp, answered with the stamps of the
request and of the answer, completed or void; without one for 3 s the device is UNALIGNED. -/
def Obligations.Alignment : Prop :=
  ∀ (s : State) (f : RxFrame) (a b : Stamp),
    (s.exchanges = true → s.clk.nextExchange ≤ s.now → s.clk.exchange = none → ∃ t, exec (.alignExchangeDue a) s = .next t ∧
      t.clk.exchange = some { started := s.now, t1 := s.stampTime a } ∧ t.clk.nextExchange = s.now + second) ∧
    (s.Receives 1 f → f.frame.ftype = 3 → s.lastDevice = false → exec (.alignReq f a b) s = .next (((s.received 1 f).sendSingle 1 4 (le 1 s.number ++ zeros 3)).sendSingle
      1 5 (leInt 8 ((a.dt : Int) + s.clk.offset) ++ le 1 a.interp ++ le 1 b.interp ++ le 1 s.alignCode ++ le 1 s.number ++
        leInt 8 ((b.dt : Int) + s.clk.offset) ++ le 4 s.masterEpoch))) ∧
    (∀ e, s.Receives 0 f → f.frame.ftype = 4 → s.clk.exchange = some e → (s.lane 0).bad = false → ∃ t, exec (.alignRsp f a) s = .next t ∧
      t.clk.exchange = some { e with t4 := some (s.stampTime a, a.dt) }) ∧
    (∀ e t4 d, s.Receives 0 f → f.frame.ftype = 5 → s.clk.exchange = some e → e.t4 = some (t4, d) → s.clk.offsetHeld = false →
      (s.lane 0).bad = false → s.now ≤ e.started + ms 1 →
      (byteAt f.frame.seg 10 = 0 ∨ byteAt f.frame.seg 10 = 3) → ∃ t, exec (.alignFup f) s = .next t ∧ t.clk.exchange = none ∧
        t.clk.offsetHeld = true ∧ t.clk.steer = 0 ∧ t.clk.lastExchange = some s.now ∧ t.clk.masterEpoch = getLe f.frame.seg 20 4) ∧
    (∀ e, s.clk.exchange = some e → e.started + ms 1 ≤ s.now → exec .alignExchangeVoid s = .next s.voidExchange) ∧
    (∀ e, s.clk.lastExchange = some e → s.chain.head = false → s.drumUp = true → e + 3 * second ≤ s.now → ∃ t,
      exec .unalignedTimeout s = .next t ∧ t.clk.align = .unaligned ∧ t.clk.lastExchange = none)

/-- 00 R7, 13 R447–R450, R452: the host port in service. READ_STATUS gives the status block and clears what it reports and what stood
at the start of the tick; WRITE_PACKET enters its
command ring where that has room; READ_RING gives used slots and the slots from CONS, and with the release bit clear CONS moves by
the whole slots read; READ_CHAIN takes whole words out of CRX; an unknown instruction sets ERR. -/
def Obligations.HostPort : Prop :=
  ∀ (s : State) (quad : Bool), s.hportServes = true →
    (∀ n, 0 < n → exec (.readStatus quad n) s = .next ((s.modHport fun h =>
      { h with wrOvf := h.wrOvf && !bit (s.stood 0x0A01) 0, downBusy := h.downBusy && !bit (s.stood 0x0A01) 1
               err := h.err && !bit (s.stood 0x0A01) 2, out := fit n s.statusBlock }).count 44)) ∧
    (∀ b q, 7 ≤ b.length → byteAt b 2 % 128 = 0 → selectedRing b = q → (vget s.rings q).en = true → (vget s.rings q).side = false →
      slotsOf b.length ≤ (vget s.rings q).free → exec (.writePacket quad b) s =
        .next (((s.modHport fun h => { h with out := [] }).count 44).arrive q b)) ∧
    (∀ (k : BitVec 8) n q r, k.toNat % 16 = q → k.toNat / 16 % 8 = 0 → 4 ≤ q → vget s.rings q = r → r.side = false →
      ∃ t, exec (.readRing quad k n) s = .next t ∧
        t.hport.out = fit n (le 2 r.ready ++ le 2 0 ++ r.bytes s.mem.sram r.cons.toNat r.ready) ∧
        (vget t.rings q).cons = if k.getLsbD 7 then r.cons else r.cons + BitVec.ofNat 32 (min r.ready ((n - 4) / 64))) ∧
    (∀ n, ∃ t, exec (.readChain quad n) s = .next t ∧ t.hport.out = fit n (le 4 s.chain.crx.length ++ s.chain.crx) ∧
      t.chain.crx = s.chain.crx.drop (min s.chain.crx.length ((n - 4) / 8 * 8))) ∧
    (∀ k : BitVec 8, k.toNat ∉ [0x05, 0x75, 0x02, 0x32, 0x0B, 0x6B, 0x0C, 0x6C] →
      exec (.hportUnknownInstruction k) s = .next (((s.modHport fun h => { h with err := true }).chainCount 10).count 44))

/-- 11 R383, R385, R387, R392, R405, R407, 09 R334, 01 R18, R22, 17 R569: what the interpreter rejects is taken, counted and answered
UNTAKEN, with no other effect; NO_REPLY_ON_OK suppresses only a final OK (R393); a waiting reply is written once it fits; records of the Varnish enter Q13 in order; the mailbox
hands over its oldest record, discards a bad packet, and keeps port A's bytes in a collision.
Where the spec leaves the reading open it is the model's own (log 21 and 59). -/
def Obligations.InterpreterAndMailbox : Prop :=
  ∀ s : State,
    (∀ id f st d p, s.inflight? id = some f →
      s.acceptedReply id = s.sendReply (f.ring + 4) (s.replyPacket f false .accepted 0 []) none ∧
      (f.noReply = true → st = .ok → s.finalReply id st d p = s.endCommand id ∧ (s.endCommand id).rings = s.rings ∧
        (s.endCommand id).mem = s.mem) ∧
      (f.noReply = false ∨ st ≠ .ok → s.finalReply id st d p = s.sendReply (f.ring + 4) (s.replyPacket f true st d p) (some id))) ∧
    (∀ t st d, framing t.bytes (t.bytes.length / 64) = some (st, d) → s.takes t = true →
      exec (.malformedTransaction t) s = .next ((s.take t.ring.val).reject t.ring.val t.bytes st d)) ∧
    (∀ t, s.takes t = true → framing t.bytes (t.bytes.length / 64) = none → cmdRow (parseHeader t.bytes).opcode = none →
      s.headerChecks t.ring.val t.bytes = some (.undefinedOpcode, 0) →
      exec (.undefinedOpcode t) s = .next ((s.take t.ring.val).reject t.ring.val t.bytes .undefinedOpcode 0)) ∧
    (∀ i t op n st d, queryRow i = some (t, op, n) → s.takes t = true → framing t.bytes (t.bytes.length / 64) = none →
      (parseHeader t.bytes).opcode = op → s.headerChecks t.ring.val t.bytes = some (st, d) →
      exec i s = .next ((s.take t.ring.val).reject t.ring.val t.bytes st d)) ∧
    (∀ (q : Fin 4) w r, s.drumUp = true → (vget s.rings (q.val + 4)).waiting = w :: r →
      (vget s.rings (q.val + 4)).fitsPacket w.bytes.length = true → exec (.replyRelease q) s =
        .next ((((s.modRing (q.val + 4) fun k => { k with waiting := r }).produce (q.val + 4) w.bytes).count 54).endOption w.frees)) ∧
    (∀ a r, s.sealed.nextOffer = some (a, r) → s.drumUp = true → s.domeUp = true → s.recordFits 13 r.bytes.length = true →
      exec .varnishRecordOffer s = .next ((s.offer 13 (r.cause * 256 + if a then 0x71 else 0x70) r.dt r.bytes).modSeal fun v =>
        if a then { v with auditOffer := r.seq + 1 } else { v with storeOffer := r.seq + 1 })) ∧
    (∀ o r, s.mbx.out = o :: r → s.drumUp = true → s.recordFits o.ring o.payload.length = true → ∃ t,
      exec .mailboxOutputDelivery s = .next t ∧ t.mbx.out = r ∧ t.mbx.dbIn = (s.mbx.dbIn && !r.isEmpty) ∧ (o.ring < 16 → vget t.mbx.dropped o.ring = 0) ∧
        (t.epochHeld = false → t.evtHeld = [])) ∧
    (∀ a b, s.domeUp = true → exec (.mailboxPacketTake a b) s = .next { s with mbx := { s.mbx with
      discards := if (a && b) = true then s.mbx.discards else min 0xFFFF_FFFF (s.mbx.discards + 1), dbOut := false } }) ∧
    (∀ (w : BitVec 14) (al bl : BitVec 4) (a b : Word), s.fast = true → s.mem.mailbox.wf = true → ∃ t, exec (.mailboxCollision w al bl a b) s = .next t ∧
      (∀ k < 4, al.getLsbD k = true → t.mem.mailbox.read (4 * w.toNat + k) = lane a k) ∧
      (∀ k < 4, al.getLsbD k = false → bl.getLsbD k = true → t.mem.mailbox.read (4 * w.toNat + k) = lane b k) ∧
      t.mbx.count = if al &&& bl = 0 then s.mbx.count else sat16 s.mbx.count)

/-- 02 R45–R53, R58–R64, R66–R70, 03 R103–R106: what the inputs do in time. An AGC window moves the gain word, STUCK and a wandering eye
take a lane out of lock, training goes from the delay to its marker, its verification and its time-outs, FRM takes one frame a
slot, the noise floor moves, a notch engages, a spectral job is answered, an EV edge is stamped or, within 4 ticks of the last one
stamped, merged.
Where the spec leaves the reading open it is the model's own (log 44, 52 and 55). -/
def Obligations.InputEvents : Prop :=
  ∀ (s : State) (p : Fin 8) (q : Port), s.port p.val = q →
    (∀ i w, s.domeService = true → q.lane = .locked → q.window + 81840 ≤ s.clk.tick → q.stuckCount < 9 →
      ∃ t, exec (.agcWindow p i w) s = .next t ∧ (t.port p.val).window = s.clk.tick ∧ (t.port p.val).lane = .locked ∧
        (t.port p.val).live = true ∧ (t.port p.val).held = false ∧
        (q.live = false ∨ s.freezes = true ∨ q.held = true ∨ q.cfg.mode = 1 → (t.port p.val).word = q.word) ∧
        (q.live = true → i.sum ≠ 0 → s.freezes = false → q.held = false →
          (q.cfg.mode = 2 → (t.port p.val).word = q.cfg.manual) ∧
          (q.cfg.mode = 0 → saturates i = true →
            (t.port p.val).word = (clampInt q.cfg.agcMin q.cfg.agcMax ((q.word : Int) - 4)).toNat))) ∧
    (∀ i w, s.domeService = true → q.lane = .locked → q.window + 81840 ≤ s.clk.tick → q.live = true → q.stuckCount = 9 → sticks i = true →
      ∃ t, exec (.agcWindow p i w) s = .next t ∧ (t.port p.val).stuck = true ∧ (t.port p.val).retrains = sat16 q.retrains ∧
        (t.port p.val).lane = if s.input.autoRetrain then .training else .failed) ∧
    (∀ (c : Int) e, q.lane = .locked → s.fast = true → q.eyeTick + 1024 ≤ s.clk.tick →
      ((q.tap : Int) + c - q.trained).natAbs ≤ 8 → e < 16 → exec (.eyeTrackUpdate p c e) s = .next (s.modPort p.val fun r =>
        { r with tap := (clampInt 0 63 ((r.tap : Int) + clampInt (-1) 1 c)).toNat, eyeTick := s.clk.tick })) ∧
    (∀ (c : Int) e, q.lane = .locked → s.fast = true → q.eyeTick + 1024 ≤ s.clk.tick →
      (8 < ((q.tap : Int) + c - q.trained).natAbs ∨ 16 ≤ e) → ∃ t, exec (.eyeTrackUpdate p c e) s = .next t ∧
        (t.port p.val).retrains = sat16 q.retrains ∧ (t.port p.val).lane = if s.input.autoRetrain then .training else .failed) ∧
    (q.lane = .wait → s.frontOn p.val = true → q.waitFrom + us s.input.feStart ≤ s.now → ∃ t, exec .feStartDelayExpiry s = .next t ∧
      (t.port p.val).lane = .training ∧ (t.port p.val).wantStart = true ∧ (t.port p.val).failures = 0) ∧
    (∀ t0 good, q.lane = .training → q.step = .sweep t0 → t0 + 4096 ≤ s.clk.tick → s.clk.tick ≤ t0 + 4111 →
      exec (.trainingMarker p good) s = .next (s.modPort p.val fun r =>
        { r with step := .verify t0 (s.clk.tick - t0), latency := s.clk.tick - t0 - 4096, tap := (eyeCentre good).getD r.tap })) ∧
    (∀ t0 l ok, q.lane = .training → q.step = .verify t0 l → t0 + l + 1024 ≤ s.clk.tick → exec (.trainingVerifyEnd p ok) s =
      .next (s.modPort p.val fun r => { r with step := if ok then .endFrame t0 else .spoiled t0, wantEnd := r.wantEnd || ok })) ∧
    (∀ t0, q.lane = .training → q.step = .sweep t0 → t0 + 4112 ≤ s.clk.tick → ∃ t, exec (.trainingAttemptTimeout p) s = .next t ∧
      (t.port p.val).failures = q.failures + 1 ∧ (t.port p.val).lane = if 2 ≤ q.failures then .failed else .training) ∧
    (s.fast = true → s.clk.tick % 16 = 0 → (∀ f, s.input.frm = some f → f.slot ≠ s.clk.tick / 16) →
      ((List.range 8).find? (fun k => (s.port k).wantEnd || (s.port k).wantStart) = some p.val → ∃ t, exec .frmFrame s = .next t ∧
        t.input.frm = some ⟨s.clk.tick / 16, frmBits (if q.wantEnd then 2 else 1) p.val 0⟩) ∧
      ((∀ k < 8, (s.port k).wantEnd = false ∧ (s.port k).wantStart = false) → s.input.nextGain = some p.val → ∃ t,
        exec .frmFrame s = .next t ∧ t.input.frm = some ⟨s.clk.tick / 16, frmBits 0 p.val q.word⟩ ∧ t.input.lastGain = p.val) ∧
      ((∀ k < 8, (s.port k).wantEnd = false ∧ (s.port k).wantStart = false) → s.input.nextGain = none → exec .frmFrame s =
        .next (s.modInput fun i => { i with frm := some ⟨s.clk.tick / 16, List.replicate 16 false⟩ }))) ∧
    (s.domeService = true → s.now / second ≠ s.input.noiseAt → ∃ t, exec .noiseFloorUpdate s = .next t ∧
      t.input.noiseAt = s.now / second ∧ (q.minP = none → t.port p.val = q) ∧
      ∀ m, q.minP = some m → (t.port p.val).minP = none ∧ (q.nref = none → (t.port p.val).nref = some (75 * m)) ∧
        ∀ r, q.nref = some r → (75 * m ≤ r → (t.port p.val).nref = some (75 * m)) ∧
          (r < 75 * m → ∃ z, (t.port p.val).nref = some z ∧ r ≤ z ∧ z ≤ 75 * m ∧ z ≤ r + 16 ∧
            ∀ v, (vget s.cal.slots (b2n s.cal.inForce)).values.nref.getD p.val none = some v → z ≤ max r (75 * v + 57600))) ∧
    (∀ f w own, s.domeService = true → s.freezes = false → q.lane = .locked → q.detector + 65536 ≤ s.clk.tick → q.notchSets = [] →
      (∀ k < 4, (vget q.notches k).engaged = false) → (vget q.notches 0).mode = 1 → 16 * (q.thresh : Int) ≤ w → f.natAbs ≤ 40000000 →
      exec (.lineDetectorUpdate p [(f, w)] own) s = .next ((s.modPort p.val fun r => { r with detector := s.clk.tick }).engage p.val 0 f w)) ∧
    (∀ j power used, q.spec = some j → j.start + 1024 * j.blocks ≤ s.clk.tick → used = j.blocks - (j.regain s.clk.tick).skipped →
      exec (.spectrumJobComplete p power) s =
        .next (({ s with free := if used = 0 then s.free + 1024 else s.free }.modPort p.val fun r => { r with spec := none }).finalReply
          j.cmd .ok 0 (le 1 p.val ++ le 1 j.tap ++ le 2 used ++ spectrumBins power used s.free))) ∧
    (∀ (n : Fin 4) level interp d, s.fast = true → (vget s.evt n.val).en = true → (vget s.evt n.val).selects level = true →
      (vget s.evt n.val).last = some d → s.clk.tick ≤ d + 4 → s.pwr.phase ≠ .handshake → s.pwr.phase ≠ .committed →
      exec (.evtEdge n level interp) s = .next { s with evt := vset s.evt n.val { vget s.evt n.val with
        level := level, merged := sat8 (vget s.evt n.val).merged, since := satAdd 0xFFFF_FFFF (vget s.evt n.val).since 1
        before := true } }) ∧
    ∀ (n : Fin 4) level interp cause u, s.fast = true → (vget s.evt n.val).en = true → (vget s.evt n.val).selects level = true →
      (∀ d, (vget s.evt n.val).last = some d → d + 4 < s.clk.tick) → s.pwr.phase ≠ .handshake → s.pwr.phase ≠ .committed →
      s.claim 5 = (cause, u) → ∃ t : State, exec (.evtEdge n level interp) s = .next (t.count (70 + n.val)) ∧
        (byteAt (evtPayload n.val level false interp.val (vget s.evt n.val)) 1).testBit 2 = (vget s.evt n.val).before ∧
        t = { (if s.epochHeld then u.holdRecord cause 0x01 s.now (evtPayload n.val level false interp.val (vget s.evt n.val))
            else u.drumRecord 11 cause 0x01 s.now (evtPayload n.val level false interp.val (vget s.evt n.val))) with
          evt := vset s.evt n.val ((vget s.evt n.val).stamp s.clk.tick level false) }

/-- 04 R127, R131, R135, R141–R149, 02 R61, R68: a bank's pass ends and is counted to its search, which answers when no pass is left; a
candidate leaves the queue after a second; a capture starts, holds AGC and notches, and ends with its samples; a Sketch fix ends.
Where the spec leaves the reading open it is the model's own (log 36, 37 and 47). -/
def Obligations.EaselEvents : Prop :=
  ∀ s : State, s.domeService = true →
    (∀ (b : Fin 8) k j, vget s.easel.banks b.val = k → k.job = some j.id → s.easel.job j.id = some j → j.kind = .search →
      k.waits = false → k.roundOver = false → k.start + loadTicks + j.dwell ≤ s.clk.tick → j.left = true → ∃ t, exec (.bankPassEnd b []) s = .next t ∧
        ∃ i, t.easel.job j.id = some i ∧ i.done = j.done + k.hyps ∧ i.passes = j.passes + 1 ∧ i.cands = j.cands) ∧
    (∀ (b : Fin 8) k j i, vget s.easel.banks b.val = k → k.job = some j.id → s.easel.job j.id = some j → j.kind = .search →
      k.waits = false → k.roundOver = false → k.start + loadTicks + j.dwell ≤ s.clk.tick → j.left = false → s.easel.held j.id = 1 → j.derived = false →
      i = { j with done := j.done + k.hyps, passes := j.passes + 1 } → exec (.bankPassEnd b []) s =
        .next (((((s.modEasel fun e => (e.endPass b.val j).modJob j.id fun _ => i).dropJob
          j.id).finalOption j.cmd .ok 0 i.reply).powerDownIdle).assignBanks.fillWatch)) ∧
    (∃ t, exec .handoverQueueTimeout s = .next t ∧ t.easel.queue = s.easel.queue.filter (fun w => decide (s.now < w.since + second)) ∧
      ∀ w, s.easel.queue = [w] → w.since + second ≤ s.now → t.easel.dropped = sat16 s.easel.dropped) ∧
    (∀ r l temp, s.easel.reqs = r :: l → s.easel.capturing = none → s.poweredOn 4 = true → s.cal.run = none →
      (∀ k ∈ r.ports, (s.port k).captureReady = true) → ∃ t, exec (.captureStart temp) s = .next t ∧ t.easel.reqs = l ∧
        t.easel.capturing = some { req := r, start := s.clk.tick } ∧ t.input.frozen = true ∧ t.nav.temperature = temp) ∧
    (∀ c k upper lower, s.easel.capturing = some c → c.req.forFix = false → c.start + c.req.length * 81840 ≤ s.clk.tick →
      vget s.easel.captures c.req.id = some k → ∃ t, exec (.captureEnd ⟨upper, lower⟩) s = .next t ∧ t.easel.capturing = none ∧
        vget t.easel.captures c.req.id = some { k with
          writing := false, data := captureData c.req.format c.req.band (c.req.length * 81840) upper lower }) ∧
    (∀ c upper lower, s.easel.capturing = some c → c.req.forFix = true → c.start + c.req.length * 81840 ≤ s.clk.tick → s.pwr.profile ≠ 0 →
      s.cal.run = none → exec (.captureEnd ⟨upper, lower⟩) s = .next (((s.modEasel fun e => { e with
        capturing := none
        captures := vset e.captures c.req.id ((vget e.captures c.req.id).map fun k => { k with
          writing := false, data := captureData c.req.format c.req.band (c.req.length * 81840) upper lower }) }).refreeze).sketchBegin.powerDownIdle)) ∧
    (∀ f sol coarse, s.easel.fix = some f → f.stage = .solve → s.trk.supRestart = none → ∃ t,
      exec (.sketchFixComplete sol coarse) s = .next t ∧ t.easel.fix = none ∧ (f.anchors.length < 5 → t.nav = s.nav))

/-- 05 R175, R177, R181–R187, R190–R192, R198: a lane's loop update and its transitions, what waits for the channel's next update, a residue
failure and what follows, the time limits, coasting, reacquisition, re-entry and the multipath fit, in a cluster whose loop pair runs.
Where the spec leaves the reading open it is the model's own (log 45, 49, 55 and 56). -/
def Obligations.ChannelEvents : Prop :=
  ∀ (s : State) (ch : Fin 192) (lower : Bool) (c : Channel) (l : TrkLane), s.chan ch.val = c → c.lane lower = l →
    s.pairRuns (ch.val / 48) = true →
    (∀ d : Sums, c.anchor ≠ none → c.out = false → c.claimed = false → l.signal ≠ 0 → (l.st = .absent → s.bandOpen lower = true) →
      (c.releasing = true → exec (.accumulationDump ch lower d) s = .next (s.goIdle ch.val)) ∧
      (c.releasing = false → c.retireAt.isSome = true → exec (.accumulationDump ch lower d) s = .next (s.retire ch.val)) ∧
      (c.releasing = false → c.retireAt = none → l.st ≠ .absent → d.residueOk = false → ∃ t, exec (.accumulationDump ch lower d) s = .next t ∧
        (t.chan ch.val).residues = sat16 c.residues ∧ (t.chan ch.val).selfCheck = some (c.selfCheck.getD (s.now + ms 1)) ∧
        (t.chan ch.val).failing = c.failing ++ [⟨lower, d.pilot, (s.claim 3).1, s.now⟩] ∧
        (t.chan ch.val).retireAt = (if 3 ≤ (recent s.now second (s.now :: c.recent)).length then some ((s.claim 3).1, s.now) else none) ∧
        ((t.chan ch.val).lane lower).residue = true ∧ ((t.chan ch.val).lane lower).prompts = l.prompts ∧
        ((t.chan ch.val).lane lower).doppler = l.doppler) ∧
      (c.releasing = false → c.retireAt = none → s.withheld ch.val = true → l.st ≠ .absent → d.residueOk = true → ∃ t,
        exec (.accumulationDump ch lower d) s = .next t ∧ ((t.chan ch.val).lane lower).residue = true ∧
          ((t.chan ch.val).lane lower).prompts = l.prompts ∧ ((t.chan ch.val).lane lower).st = l.st) ∧
      (c.releasing = false → c.retireAt = none → s.withheld ch.val = false → l.st = .absent → ∃ t, exec (.accumulationDump ch lower d) s = .next t ∧
        ((t.chan ch.val).lane lower).st = .pullIn ∧ ((t.chan ch.val).lane lower).since = s.now) ∧
      (c.releasing = false → c.retireAt = none → s.withheld ch.val = false → l.st ≠ .absent → l.convertTo = none → d.residueOk = true →
        d.prompts.length * primaryPeriod l.signal = l.now.t → ∃ t, exec (.accumulationDump ch lower d) s = .next t ∧
        (l.st ≠ .lost → ((t.chan ch.val).lane lower).doppler = (l.updated d c.sv s.now).doppler) ∧
        (∀ p g, l.st = .pullIn → l.check = none → l.phase2 = some p → l.good = some g → g + ms 100 ≤ s.now →
          ((t.chan ch.val).lane lower).st = if (l.updated d c.sv s.now).readyToSync s.trk.cfg = true then .sync else .pullIn) ∧
        (l.st = .sync → ((t.chan ch.val).lane lower).st = (if (l.syncPlace d c.sv s).isSome = true then .track else .sync) ∧
          ((l.syncPlace d c.sv s).isSome = true →
            ((t.chan ch.val).lane lower).amb = 1 ∧ ((t.chan ch.val).lane lower).restarts = (l.restarts + 1) % 4)) ∧
        (l.st = .track → ((t.chan ch.val).lane lower).st = .track ∧ ((t.chan ch.val).lane lower).restarts =
          if slipLimit l.signal < (l.measure d c.sv (l.index c.sv s.now)).phase.natAbs ∧ l.slips = true then (l.restarts + 1) % 4 else l.restarts) ∧
        (l.st = .lost → ((t.chan ch.val).lane lower).st = .lost ∧
          ((c.lane (!lower)).st ≠ .track → ((t.chan ch.val).lane lower).doppler = l.loop.freq + l.loop.rate * l.now.t / 1000) ∧
          (∀ r p, (c.lane (!lower)).st = .track → signalRow l.signal = some r → signalRow (c.lane (!lower)).signal = some p →
            ((t.chan ch.val).lane lower).doppler = rnd ((c.lane (!lower)).doppler * carrierOf r c.sv) (carrierOf p c.sv))))) ∧
    (∀ f m e p a r, l.st = .pullIn → l.check = some (f, m) → f + ms 20 ≤ s.now → l.checkSums = (e, p, a) → signalRow l.signal = some r → ∃ t,
      exec (.sidePeakCheckEnd ch lower) s = .next t ∧
        (dbAbove e p 3 1 = false → dbAbove a p 3 1 = false → ((t.chan ch.val).lane lower).check = none ∧
          ((t.chan ch.val).lane lower).code = l.code % codeSpan r ∧ ((t.chan ch.val).lane lower).since = s.now) ∧
        (dbAbove e p 3 1 = true → dbAbove a p 3 1 = false → ((t.chan ch.val).lane lower).code = (l.code + 512 * codeUnit) % codeSpan r ∧
          ((t.chan ch.val).lane lower).check = if m = 0 then some (s.now, 1) else none) ∧
        (dbAbove e p 3 1 = false → dbAbove a p 3 1 = true →
          (((t.chan ch.val).lane lower).code : Int) = ((l.code : Int) - 512 * codeUnit) % (codeSpan r : Int))) ∧
    (∀ d pass, c.selfCheck = some d → d ≤ s.now → ∃ t, exec (.selfCheckComplete ch pass) s = .next t ∧
      (t.chan ch.val).selfCheck = none ∧ (t.chan ch.val).failing = [] ∧ (t.chan ch.val).retireAt.isSome = (c.retireAt.isSome || !pass)) ∧
    (l.st = .pullIn → l.check = none → l.since + ms s.trk.cfg.pullIn ≤ s.now → ∃ t, exec (.pullInTimeout ch lower) s = .next t ∧
      (∀ r, l.converted = true → signalRow l.signal = some r → (t.chan ch.val).noConvert = true ∧
        ((t.chan ch.val).lane lower).converted = false ∧ ((t.chan ch.val).lane lower).signal = r.anchor ∧
        ((t.chan ch.val).lane lower).doppler = l.anchorDoppler) ∧
      (l.converted = false → c.tracked = true ∨ c.state ≠ 2 → ((t.chan ch.val).lane lower).st = .lost) ∧
      (l.converted = false → c.tracked = false → c.state = 2 → (t.chan ch.val).state = 0 ∧ t.trk.pullInFails = sat16 s.trk.pullInFails)) ∧
    (l.st = .sync → l.converted = false → l.since + ms s.trk.cfg.sync ≤ s.now →
      exec (.syncTimeout ch lower) s = .next (s.modLane ch.val lower (·.enterLost s.now))) ∧
    (∀ b, l.st = .sync ∨ l.st = .track → l.bad = some b → b + ms s.trk.cfg.loss ≤ s.now →
      exec (.lossTimeExpiry ch lower) s = .next (s.modLane ch.val lower (·.enterLost s.now))) ∧
    (∀ f, c.state = 5 → c.lostFrom = some f → f + ms s.trk.cfg.coast ≤ s.now → ∃ t, exec (.lostCoastExpiry ch) s = .next t ∧
      (s.trk.cfg.reacq = false → (t.chan ch.val).state = 0) ∧
      (s.trk.cfg.reacq = true → (t.chan ch.val).reacqFrom = some s.now ∧
        ((signalRow (c.lane c.leadLower).signal).isSome = true → ∃ j ∈ t.easel.jobs, j.kind = .reacq ch.val))) ∧
    (∀ d, c.state = 6 → c.reacqFrom = some d → d + s.trk.cfg.reacqTime * second ≤ s.now ∨ c.elevation < s.trk.cfg.elev →
      ∃ t, exec (.reacqTimeout ch) s = .next t ∧ (t.chan ch.val).state = 6 ∧ (t.chan ch.val).expiring = true ∧ (t.expireReacq.chan ch.val).state = 0) ∧
    (l.st = .lost → l.checkedAt + ms 20 ≤ s.now → ∃ t, exec (.lostLaneCheck ch lower) s = .next t ∧
      ((t.chan ch.val).lane lower).st =
        if 100 ≤ l.prompts.length * primaryPeriod l.signal ∧
            cn0AtLeast (some (cn0Window l.prompts (primaryPeriod l.signal))) (s.trk.cfg.lossMin + 3) = true then .pullIn else .lost) ∧
    (∀ r p, l.st = .lost → (c.lane (!lower)).st = .track → l.reentry + 10 * second ≤ s.now → signalRow l.signal = some r →
      signalRow (c.lane (!lower)).signal = some p → ∃ t, exec (.lostLaneReentry ch lower) s = .next t ∧
        ((t.chan ch.val).lane lower).st = .pullIn ∧ ((t.chan ch.val).lane lower).doppler =
          rnd ((c.lane (!lower)).doppler * carrierOf r c.sv) (carrierOf p c.sv)) ∧
    (l.st = .track → c.palette = true → l.mpCount ≠ 0 → l.mpFrom + ms s.trk.palette.avg ≤ s.now → ∃ t,
      exec (.multipathFit ch lower) s = .next t ∧ ((t.chan ch.val).lane lower).mpCount = 0 ∧ t.trk.epochs.mpDue = true ∧
        ((t.chan ch.val).lane lower).los = (match l.fitted s with | none => l.los | some f => f.los) ∧
        (((t.chan ch.val).lane lower).reflections = l.reflections ∨ ((t.chan ch.val).lane lower).reflections.length ≤ 2 ∧
          ∀ r ∈ ((t.chan ch.val).lane lower).reflections, 4 ≤ r.1 ∧ r.1 ≤ 192 ∧ r.2.natAbs * 100 ≤ 95 * 128))

/-- 05 R193, R194, 06 R222, 15 R542: a loop pair's checkpoint each millisecond of the lanes it serves, a mismatch of a pair (both cores enter the boot ROM, the
epoch freezes, the pair restarts; the third within 10 s fails the cluster), and the end of a restart.
Where the spec leaves the reading open it is the model's own (log 35). -/
def Obligations.LoopPairs : Prop :=
  ∀ s : State, s.domeService = true →
    (∃ t, exec .loopStateCheckpoint s = .next t ∧ ∀ k < 4, (t.cluster k).checkpoint =
      (if s.pairRuns k = true ∧ (s.cluster k).checkpoint + ms 1 ≤ s.now then s.now else (s.cluster k).checkpoint) ∧
      ∀ ch < 192, ch / 48 = k → t.chan ch =
        if s.pairRuns k = true ∧ (s.cluster k).checkpoint + ms 1 ≤ s.now then (s.chan ch).save else s.chan ch) ∧
    (∀ (pair : Fin 5) m, pair.val < 4 → s.clusterUp pair.val = true → recent s.now (10 * second) (s.now :: (s.cluster pair.val).mismatches) = m →
      ∃ t, exec (.lockstepMismatch pair) s = .next t ∧ t.trk.lockstep = sat16 s.trk.lockstep ∧
        (vget t.cores (4 + pair.val)).pc = 0xFF0100 ∧ (vget t.cores (4 + pair.val)).bare = true ∧
        (m.length < 3 → (t.cluster pair.val).restart = some s.now ∧ (t.cluster pair.val).frozen = true ∧ (t.cluster pair.val).mismatches = m) ∧
        (3 ≤ m.length → t.boot.clustersFailed = s.boot.clustersFailed ||| BitVec.ofNat 4 (2 ^ pair.val) ∧ t.poweredOn (5 + pair.val) = false)) ∧
    (∃ t, exec (.lockstepMismatch 4) s = .next t ∧ t.trk.supRestart = some s.now ∧ t.trk.supFrozen = true ∧ (vget t.cores 3).pc = 0xFF0100) ∧
    (∀ (pair : Fin 5) d, pair.val < 4 → (s.cluster pair.val).restart = some d → ∃ t, exec (.loopPairRestartComplete pair) s = .next t ∧
      (t.cluster pair.val).restart = none ∧ (t.cluster pair.val).notes = [] ∧ ∀ ch < 192, ch / 48 = pair.val →
        ((s.chan ch).selfCheck.isSome = true → (t.chan ch).selfCheck = some (s.now + ms 1)) ∧
        ∀ k, (s.chan ch).savedUpper = some k → (s.chan ch).upper.st ≠ .absent →
          (t.chan ch).upper.loop = { k.loop with last := none } ∧ (t.chan ch).upper.now = k.now) ∧
    (∀ d, s.trk.supRestart = some d → ∃ t, exec (.loopPairRestartComplete 4) s = .next t ∧ t.trk.supRestart = none ∧ t.tp.late = [])

/-- 06 R208, R209, R213, R219, R222, R226, 02 R69, 01 R34, 10 R359–R361, R367, R368: an epoch takes place, or is frozen; an overdue claim ends;
a calibration run is disturbed, fails its peak tests, releases its units, applies its values, and may be tried again after an abort.
Where the spec leaves the reading open it is the model's own (log 51). -/
def Obligations.EpochsAndRuns : Prop :=
  ∀ s : State,
    (∀ temp units sol, s.epochDue = true → s.trk.supRestart = none → s.trk.supFrozen = false → ∃ t,
      exec (.measurementEpoch temp units sol) s = .next t ∧ t.trk.epochs.no = (s.trk.epochs.no + 1) % 2 ^ 32 ∧
        t.trk.epochs.last = some s.now ∧
        t.trk.epochs.rate = (if s.wholeSecond = true then s.profileRate else s.trk.epochs.rate) ∧ t.trk.epochs.point = some s.gridAt ∧ t.nav.temperature = temp ∧
        (s.solutionDue = false → t.nav.solNo = s.nav.solNo) ∧ ∀ p < 8, (t.port p).jMax = 0) ∧
    (∀ temp units sol, s.epochDue = true → (s.trk.supRestart.isSome || s.trk.supFrozen) = true → ∃ t,
      exec (.measurementEpoch temp units sol) s = .next t ∧ t.rings = s.rings ∧
        t.trk.epochs.no = (s.trk.epochs.no + 1) % 2 ^ 32 ∧
        t.trk.epochs.rate = (if s.wholeSecond = true then s.profileRate else s.trk.epochs.rate) ∧ t.nav.solNo = if s.solutionDue then (s.nav.solNo + 1) % 2 ^ 32 else s.nav.solNo) ∧
    (∀ temp units sol, s.epochDue = false → exec (.measurementEpoch temp units sol) s = .next s) ∧
    (s.cal.run = none → s.easel.watch.claimed.isSome = true → s.epochDue = true →
      exec .claimRelease s = .next ((s.modWatch fun w => { w with claimed := none }).yieldWatch)) ∧
    (∀ r, s.cal.run = some r → r.overdue = true → r.released = false → r.tick0 + 1636800 ≤ s.clk.tick → ∃ t,
      exec .claimRelease s = .next t ∧ t.cal.run = some { r with released := true } ∧ t.cal.calref = false) ∧
    (∀ (r : CalRun) (k : CalPeak), r.ports = [k.port] → r.peakFault [k] = if k.peak < 1000 * k.noise then some (3, k.port)
      else if k.peak ≤ 10 * k.second then some (4, k.port) else none) ∧
    (∀ r peaks, s.cal.run = some r → r.released = false → r.disturbed = none → s.domeService = true → r.tick0 + 1636799 ≤ s.clk.tick →
      r.peakFault peaks = none → ∃ t, exec (.calUnitsRelease peaks) s = .next t ∧ t.cal.run = some { r with released := true } ∧ t.cal.calref = false ∧
        ∀ b < 8, (vget t.easel.banks b).cal = false) ∧
    (∀ r peaks reason port, s.cal.run = some r → r.released = false → s.domeService = true →
      (r.disturbed = some (reason, port) ∨ r.disturbed = none ∧ r.peakFault peaks = some (reason, port) ∧
        r.tick0 + 409200 ≤ s.clk.tick) → ∃ t, exec (.calUnitsRelease peaks) s = .next t ∧ t.cal.run = none ∧
        t.cal.aborts = sat16 s.cal.aborts ∧ t.cal.lastReason = reason ∧ t.cal.values = s.cal.values) ∧
    (∀ r m v, s.cal.run = some r → r.released = true → s.domeService = true → s.pwr.lowSupply = false → s.calCompute r m = v →
      ∃ t, exec (.calRunComplete m) s = .next t ∧ t.cal.run = none ∧
        (∀ k, v.reason = some k → t.cal.slots = s.cal.slots ∧ t.cal.lastReason = k) ∧
        (v.reason = none → s.sealed.auditHold = true → t.cal.slots = s.cal.slots ∧ t.cal.ready = some { trigger := r.trigger, hold := true }) ∧
        (v.reason = none → s.sealed.auditHold = false → t.cal.inForce = !s.cal.inForce ∧ t.cal.slot.valid = true ∧
          t.cal.slot.generation = s.cal.slot.generation + 1 ∧ t.cal.slot.dt = r.dt0)) ∧
    ∀ k, s.cal.ready = some k → k.from_ ≠ 0 → k.from_ ≤ s.now →
      exec .calRetryHoldoffExpiry s = .next (s.modCal fun c => { c with ready := some { k with from_ := 0 } })

/-- 08 R287, R288, R293, R295–R302, 03 R107: a time pulse is announced, its edges are emitted in their ticks, holdover begins two seconds
after the last qualified mapping, extrapolates at each GPS second, and reaches its limit.
Where the spec leaves the reading open it is the model's own (log 38). -/
def Obligations.TimePulses : Prop :=
  ∀ (s : State) (g : Fin 2) (k : Generator), s.gen g.val = k →
    (∀ temp w m rate last leaps off p n, s.domeService = true → k.st = .locked → k.after = none → (∀ a ∈ k.announced, a.leading = true) →
      s.trk.supRestart = none → s.tp.holdover = none → (s.glazeDtp g.val).takeLimit = w → w.pulseMap temp = some (m, rate) →
      k.ideal = some last → w.scaleNow g.val m = (leaps, off) →
      w.nextPulse g.val m rate off (clampInt (-1) 1 (leaps - k.leaps)) false last = p → p.step = none → (s.clk.edge (p.at_ - s.clk.nowPs)).1 = n → 4 ≤ n → ∃ t,
        exec (.tpPulse g temp) s = .next t ∧ t.tp.limit = s.tp.limitNext.getD s.tp.limit ∧ (t.gen g.val).no = k.no + 1 ∧ (t.gen g.val).ideal = some (p.at_, p.scale) ∧
          (t.gen g.val).remain = p.after ∧ ∃ a, (t.gen g.val).announced = k.announced ++ [a] ∧ a.no = k.no + 1 ∧
            a.tick = s.clk.tick + (n / 4).toNat ∧ a.leading = false) ∧
    (∀ temp, (∃ a ∈ k.announced, a.leading = false) → exec (.tpPulse g temp) s = .next s) ∧
    (∀ a r, s.fast = true → k.announced = a :: r → a.leading = false → a.tick ≤ s.clk.tick → ∃ t, exec (.tpLeadingEdge g) s = .next t ∧
      (t.gen g.val).high = true ∧ (t.gen g.val).lastNo = a.no ∧ t.rings = s.rings) ∧
    (∀ a r, s.fast = true → k.announced = a :: r → a.leading = true → a.trailing ≤ s.clk.tick → ∃ t, exec (.tpTrailingEdge g) s = .next t ∧
      (t.gen g.val).high = false ∧ (t.gen g.val).announced = r ∧ (r = [] → (t.gen g.val).polarity = k.cfg.polarity) ∧
      (r = [] → k.after = none → (t.gen g.val).st = k.st) ∧ ∀ st c, r = [] → k.after = some (st, c) → (t.gen g.val).st = st) ∧
    (∀ q rq, s.domeService = true → s.tp.holdover = none → s.tp.last = some q → s.pwr.profile ≠ 0 → q.map.ref + 2 * second ≤ s.now →
      exec (.holdoverStart rq) s = .next (s.modTp fun t =>
        { t with
          entered := sat16 t.entered
          holdover := some { ref := q.map.ref, rate := q.map.rate, bound := q.map.bound, temp := q.temp, rq := rq, map := q.map } })) ∧
    (∀ q rq, s.tp.last = some q → s.now < q.map.ref + 2 * second → exec (.holdoverStart rq) s = .next s) ∧
    (∀ temp h rate, s.domeService = true → (s.heatHoldover temp).tp.holdover = some h → (s.heatHoldover temp).holdRate h temp = rate →
      s.nav.mapSecond ≠ some ((({ h.map with rate := rate } : TimeMap).gps s.now / 2 ^ 32).toNat) →
      ∃ t n, exec (.holdoverDtMap temp) s = .next t ∧ t.nav.map = some n ∧ n.ref = s.now ∧ n.rate = rate ∧ n.holdover = true ∧
        n.segment = h.map.segment ∧ t.tp.holdover = some { h with map := n } ∧
        (h.ref + s.tp.limit * second ≤ s.now → n.qualified = false)) ∧
    (∀ h, s.domeService = true → s.tp.holdover = some h → h.limit = false → h.ref + s.tp.limit * second ≤ s.now → ∃ t,
      exec .holdLimitReached s = .next t ∧ t.tp.holdover = some { h with limit := true } ∧
        (k.cfg.limitStop = true → k.st.runs = true → k.announced = [] → (t.gen g.val).st = .stopped) ∧
        (k.cfg.limitStop = true → k.st.runs = true → k.announced ≠ [] → (t.gen g.val).after = some (.stopped, 4)) ∧
        (k.cfg.limitStop = false → (t.gen g.val).st = k.st))

/-- 14 R484–R491, 09 R340: the lines of the UARTs. A start edge is taken with the settings in force, unless the majority of its samples is high;
a character or a break, once its bits are over, enters the receive FIFO with its flags and its DT, or is dropped when 64 stand there; a
sent character or break, its bits over, frees the shifter; an edge in SLEEP or DEEP wakes the device where WAKE is set. -/
def Obligations.UartLines : Prop :=
  ∀ (s : State) (u : Fin 8) (r : Uart), vget s.uarts u.val = r → s.fast = true →
    (∀ v, v.length < 2 * v.count true → exec (.uartStartEdge u v) s = .next s) ∧
    (∀ v, u.val ≠ 6 → r.rxen = true → r.rxLine = none → r.breakActive = false → 2 * v.count true ≤ v.length →
      exec (.uartStartEdge u v) s = .next (s.modUart u.val fun k => { k with rxLine := some (r.lineAt s.now), rxStart := s.now })) ∧
    (∀ (ch : UartChar) (l : LineSettings) (n : Nat) (level : Nat → Bool), u.val ≠ 6 → r.rxLine = some l → r.breakActive = false →
      n = l.dataBits + l.parityBits → (∀ i, level i = highBit (ch.bits.getD i [])) → r.rxStart + l.span (16 * n + 25) ≤ s.now + l.slack →
      ((∀ i ≤ n, level i = false) →
        exec (.uartCharacterReceived u ch) s = .next (s.modUart u.val fun k => { k with breakActive := true })) ∧
      ((∃ i ≤ n, level i = true) → ∃ t, exec (.uartCharacterReceived u ch) s = .next t ∧
        (vget t.uarts u.val).rxLine = none ∧ (vget t.uarts u.val).nRx = sat32 r.nRx ∧
        (r.rx.length < 64 → ∃ e : RxEntry, (vget t.uarts u.val).rx = r.rx ++ [e] ∧ e.dt = s.now ∧
          (∀ i < l.dataBits, e.bits.getLsbD i = level i) ∧ (∀ i < 16, l.dataBits ≤ i → e.bits.getLsbD i = false) ∧
          e.bits.getLsbD 16 = (l.parityBits == 1 && level l.dataBits != l.parityOf ((List.range l.dataBits).map level)) ∧
          e.bits.getLsbD 17 = !level n ∧ e.bits.getLsbD 18 = false ∧ e.bits.getLsbD 19 = r.dropped ∧ e.bits.getLsbD 20 = false ∧
          e.bits.getLsbD 21 = r.wokeNext ∧ (vget t.uarts u.val).dropped = false) ∧
        (64 ≤ r.rx.length → (vget t.uarts u.val).rx = r.rx ∧ (vget t.uarts u.val).dropped = true ∧ (vget t.uarts u.val).overrun = true ∧
          (vget t.uarts u.val).nDropped = sat16 r.nDropped))) ∧
    (∀ l, u.val ≠ 6 → r.rxLine = some l → r.breakActive = true → r.rx.length < 64 → ∃ t, exec (.uartBreakReceived u) s = .next t ∧
      (vget t.uarts u.val).breakActive = false ∧ (vget t.uarts u.val).breakEnd = true ∧
      ∃ e : RxEntry, (vget t.uarts u.val).rx = r.rx ++ [e] ∧ e.dt = s.now ∧ e.bits = BitVec.ofNat 22
        (min 65535 ((s.now - r.rxStart) / max 1 (l.span 16)) + bitsOf [(true, 18), (r.dropped, 19), (r.wokeNext, 21)])) ∧
    (u.val = 6 → exec (.uartCharacterSent u) s = .next (s.modSeal fun v => { v with u6Tx := v.u6Tx.tail })) ∧
    (u.val ≠ 6 → r.shifter.isSome = true → r.sending = none → r.brkReq = none →
      r.txStart + r.txLine.span (16 * r.txLine.charBits) ≤ s.now + r.txLine.slack → ∃ t, exec (.uartCharacterSent u) s = .next t ∧
      (vget t.uarts u.val).nTx = sat32 r.nTx ∧ (vget t.uarts u.val).shifter = (if r.txen then r.tx.head? else none) ∧
      (vget t.uarts u.val).tx = if r.txen then r.tx.tail else r.tx) ∧
    (∀ b, r.sending = some b → r.brkReq = none → r.txStart + r.txLine.span (16 * (b.length + 1)) ≤ s.now + r.txLine.slack →
      ∃ t, exec (.uartBreakSent u) s = .next t ∧ (vget t.uarts u.val).sending = none ∧
      (vget t.uarts u.val).breakEnd = true ∧ (vget t.uarts u.val).nBreaksTx = sat16 r.nBreaksTx) ∧
    ∀ z : State, z.pwr.phase.watches = true → z.wakeEnabled (6 + u.val) = true →
      (u.val = 7 → z.pwr.phase = .sleep → (vget z.uarts 7).line.slow = false) → exec (.uartWakeEdge u) z = .next (z.wakeOn (6 + u.val))

/-- 14 R495–R500: the CAN controllers. A frame that a filter takes is stored with its stamps and counted, one that finds the ring
full is dropped; in loopback the controller takes no frame from the bus and receives what it sends; a sent entry is written back and passed; arbitration losses, errors, bus-off recovery and the join are counted.
Where the spec leaves the reading open it is the model's own (log 30). -/
def Obligations.CanBuses : Prop :=
  ∀ (s : State) (m : Fin 2) (c : Can), vget s.cans m.val = c → s.canOn m.val = true →
    (∀ f sof i, c.mode ≠ 2 → c.filter f = some i → (c.rxProd - c.rxCons).toNat < 2 ^ c.rxLog2.toNat → ∃ t, exec (.canFrameReceived m f sof) s = .next t ∧
      t.mem.sram = s.mem.sram.writeN (c.rxAddr c.rxProd) (canEntry f i (b2n (c.lost != 0)) c.lost sof s.now) ∧
      (vget t.cans m.val).rxProd = c.rxProd + 1 ∧ (vget t.cans m.val).rxNew = true ∧ (vget t.cans m.val).lost = 0 ∧
      (vget t.cans m.val).counts.rx = sat32 c.counts.rx ∧ (c.rec_ ≤ 127 → (vget t.cans m.val).rec_ = c.rec_ - 1) ∧
      (127 < c.rec_ → 119 ≤ (vget t.cans m.val).rec_ ∧ (vget t.cans m.val).rec_ ≤ 127)) ∧
    (∀ f sof i, c.mode ≠ 2 → c.filter f = some i → 2 ^ c.rxLog2.toNat ≤ (c.rxProd - c.rxCons).toNat → ∃ t, exec (.canFrameReceived m f sof) s = .next t ∧
      t.mem = s.mem ∧ (vget t.cans m.val).rxProd = c.rxProd ∧ (vget t.cans m.val).rxDrop = true ∧
      (vget t.cans m.val).lost = min 255 (c.lost + 1) ∧ (vget t.cans m.val).counts.dropped = sat16 c.counts.dropped) ∧
    (∀ f sof, c.filter f = none → ∃ t, exec (.canFrameReceived m f sof) s = .next t ∧ t.mem = s.mem ∧ (vget t.cans m.val).rxProd = c.rxProd ∧
      (vget t.cans m.val).lost = c.lost ∧ (vget t.cans m.val).counts.rx = c.counts.rx) ∧
    (∀ f sof, c.mode = 2 → exec (.canFrameReceived m f sof) s = .next s) ∧
    (∀ sof, c.mode ≠ 1 → (c.mode = 2 → c.filter (s.canTxFrame m.val) = none) → c.txProd ≠ c.txCons → s.canRejects m.val = false → ∃ t, exec (.canFrameSent m sof) s = .next t ∧
      (vget t.cans m.val).txCons = c.txCons + 1 ∧ (vget t.cans m.val).txDone = true ∧ (vget t.cans m.val).tec = c.tec - 1 ∧
      (vget t.cans m.val).counts.tx = sat32 c.counts.tx ∧ t.mem.sram = (s.mem.sram.writeN (c.txAddr c.txCons + 6)
        (le 1 1 ++ le 1 (min 255 c.losses))).writeN (c.txAddr c.txCons + 8) (le 8 sof ++ le 8 s.now)) ∧
    (∀ sof i, c.mode = 2 → c.filter (s.canTxFrame m.val) = some i → (c.rxProd - c.rxCons).toNat < 2 ^ c.rxLog2.toNat → c.txProd ≠ c.txCons →
      s.canRejects m.val = false → ∃ t, exec (.canFrameSent m sof) s = .next t ∧ (vget t.cans m.val).txCons = c.txCons + 1 ∧
        (vget t.cans m.val).rxProd = c.rxProd + 1 ∧ (vget t.cans m.val).rxNew = true ∧ (vget t.cans m.val).counts.rx = sat32 c.counts.rx) ∧
    (c.mode = 0 → c.txProd ≠ c.txCons → ∃ t, exec (.canArbitrationLoss m) s = .next t ∧ (vget t.cans m.val).losses = min 255 (c.losses + 1) ∧
      (vget t.cans m.val).counts.arb = sat16 c.counts.arb ∧ (vget t.cans m.val).txCons = c.txCons) ∧
    (∀ kind large, c.state ≠ 2 → ∃ t, exec (.canBusError m kind true large) s = .next t ∧ (vget t.cans m.val).tec = c.tec + 8 ∧
      (247 < c.tec → (vget t.cans m.val).state = 2 ∧ (vget t.cans m.val).busIdle = false) ∧
      (119 < c.tec → c.tec ≤ 247 → (vget t.cans m.val).state = 1)) ∧
    (∀ kind large, ∃ t, exec (.canBusError m kind false large) s = .next t ∧
      (vget t.cans m.val).rec_ = c.rec_ + (if large then 8 else 1) ∧ (c.tec ≤ 255 → (vget t.cans m.val).counts = c.counts.add kind)) ∧
    exec (.canBusJoin m) s = .next (s.modCan m.val fun k => { k with busIdle := true }) ∧
    (∀ (z : State) (k : Can), vget z.cans m.val = k → z.fast = true → k.en = true → k.state = 2 → k.autoRecover = true → ∃ t,
      exec (.canBusOffRecovery m) z = .next t ∧ (vget t.cans m.val).state = 0 ∧ (vget t.cans m.val).tec = 0 ∧ (vget t.cans m.val).rec_ = 0 ∧
      (vget t.cans m.val).busIdle = true) ∧
    (∀ (z : State) f sof, z.canOn m.val = false → exec (.canFrameReceived m f sof) z = .next z ∧ exec (.canFrameSent m sof) z = .next z) ∧
    ∀ z : State, z.pwr.phase.watches = true → z.wakeEnabled (14 + m.val) = true →
      exec (.canWakeEdge m) z = .next (z.wakeOn (14 + m.val))

/-- 15 R541, 17 R565, R568, R571, R582, R583, 18 R608, 20 R637: what runs beside the cores. The DMA engine moves a burst or faults, a Drum timer
and a Lantern timer expire, a counter overflows, a memory test goes from block to block and ends, a scrub corrects single-bit errors, the
start clears the memories.
Where the spec leaves the reading open it is the model's own (log 33). -/
def Obligations.Engines : Prop :=
  ∀ s : State,
    (∀ (n : Fin 16) c d u w vs, s.fast = true → s.dmaChoice = some n.val → s.dmaCh n.val = c → c.state = .active → s.dma.owner = n.val →
      (∀ m < 16, m ≠ n.val → (s.dmaCh m).state = .idle) → c.desc = some d → c.held = none → c.k + c.burst d < d.count →
      s.dmaReads n.val d c.k (c.burst d) = (u, vs, none) → u.dmaWrites n.val d c.k vs = (w, true) →
      ((w.dmaCh n.val).state = .active → (w.dmaCh n.val).k < d.count → w.dmaReady n.val = true →
        exec .dmaBurst s = .next (w.count (22 + n.val))) ∧
      (d.srcIo = false → d.dstIo = false → d.req = 0 → 0 < c.burst d → ∃ t, exec .dmaBurst s = .next t ∧ (t.dmaCh n.val).state = .active ∧
        (t.dmaCh n.val).k = c.k + c.burst d ∧ (t.dmaCh n.val).doneBytes = (c.k + c.burst d) * d.esize)) ∧
    (∀ (n : Fin 16) c d u e, s.fast = true → s.dmaChoice = some n.val → s.dmaCh n.val = c → c.state = .active → s.dma.owner = n.val →
      (∀ m < 16, m ≠ n.val → (s.dmaCh m).state = .idle) → c.desc = some d → c.held = none → c.k < d.count → 0 < c.burst d → d.srcIo = false →
      s.dmaElement n.val d c.k = (u, .error e) → ∃ t, exec .dmaBurst s = .next t ∧ (t.dmaCh n.val).state = .faulted ∧
        (t.dmaCh n.val).fault = BitVec.ofNat 4 e ∧ (t.dmaCh n.val).fside = 1 ∧ (t.dmaCh n.val).faultF = true ∧ (t.dmaCh n.val).k = c.k) ∧
    (∀ (n : Fin 4) r, s.fast = true → vget s.timers n.val = r → r.en = true → s.reached r.cmp = true → s.pwr.handoverTick = none → ∃ t,
      exec (.timerExpiry n) s = .next t ∧ (vget t.timers n.val).expired = true ∧ (vget t.timers n.val).en = r.periodic ∧
        (vget t.timers n.val).missed = (r.missed || r.expired) ∧
        (vget t.timers n.val).cmp = if r.periodic then r.cmp + BitVec.ofNat 32 r.period.toNat else r.cmp) ∧
    (∀ (n : Fin 4) r, vget s.timers n.val = r → s.reached r.cmp = false → exec (.timerExpiry n) s = .next s) ∧
    (∀ (n : Fin 16) c, s.fast = true → vget s.pmon.counters n.val = c → c.en = true → s.pmon.freeze = false → c.value = 0xFFFF_FFFF_FFFF →
      exec (.pmonOverflow n) s = .next { s with pmon := { s.pmon with
        counters := vset s.pmon.counters n.val { c with value := 0, ovf := true }, freezing := s.pmon.freezing || s.pmon.freezeOnOvf } }) ∧
    (∀ (n : Fin 4) r d, vget s.ltimers n.val = r → r.armed = some d → d ≤ s.now → s.pwr.phase = .running → (n.val = 3 → s.pwr.profile ≠ 0) →
      ∃ t, exec (.lanternTimerExpiry n) s = .next t ∧ t.pwr.ltimerF = true ∧ (vget t.ltimers n.val).expired = true ∧
        (vget t.ltimers n.val).armed = if r.mode = 2 then some (d + r.period.toNat * second) else none) ∧
    (∀ (n : Fin 4) d, (vget s.ltimers n.val).armed = some d → s.now < d → exec (.lanternTimerExpiry n) s = .next s) ∧
    (∀ ok x, s.fast = true → s.mem.test = some x → x.due ≤ s.now → x.next < x.lastBlock → ∃ t, exec (.memTestBlock ok) s = .next t ∧
      t.mem.test = some { x with tested := x.tested + 1, next := x.next + 1, due := x.due + us 64,
                                 failed := if ok then x.failed else x.failed + 1
                                 firstFailed := if ok = true ∨ x.failed ≠ 0 then x.firstFailed else x.next * 1024 } ∧
      t.mem.sram = s.mem.sram ∧ t.mem.testFail = (s.mem.testFail || !ok)) ∧
    (∀ x, s.fast = true → s.mem.test = some x → x.due ≤ s.now → x.next = x.lastBlock → x.failed = 0 → ∃ u : State, u.mem.test = none ∧
      exec (.memTestBlock true) s = .next (u.finalReply x.cmd .ok 0 (le 4 (x.tested + 1) ++ le 4 0 ++ le 4 x.firstFailed))) ∧
    (∀ g x, s.fast = true → s.mem.scrubs.find? (fun y => y.target == g) = some x → x.start + us 100 ≤ s.now → ∃ t,
      exec (.memScrubComplete g) s = .next t ∧ x ∉ t.mem.scrubs ∧ ∀ e, e ∈ t.mem.ecc ↔ e ∈ s.mem.ecc ∧
        ¬ (e.mem < 3 ∧ g.toNat.testBit e.mem = true ∧ e.double = false)) ∧
    (s.fast = true → s.boot.stage = 2 → s.boot.toClear = true → ∃ t, exec .sramClearComplete s = .next t ∧ t.mem.sram = [] ∧ t.mem.dome = [] ∧
      t.mem.lantern = [] ∧ t.mem.mailbox = [] ∧ t.boot.stage = 3 ∧ ∀ k < 8, vget t.cores k = coreAt k 0xFF0000 false)

/-- 09 R310, R311, R324, R328, R332, R340–R344, 12 R441, 19 R625: the seal loop opens and closes, the oldest due record is signed, the odometer is
committed, the inspection port serves, and a load's check ends with its slot written or refused.
Where the spec leaves the reading open it is the model's own (log 20 and 24). -/
def Obligations.SealEvents : Prop :=
  ∀ s : State,
    (s.domeService = true → s.pwr.phase = .running → s.pwr.entry = none → s.sealed.state = .sealed → ∃ t, exec .sealLoopOpen s = .next t ∧
      t.sealed.loopOpen = true ∧ t.sealed.state = .opened ∧ vget t.sealed.counters 1 = sat32 (vget s.sealed.counters 1)) ∧
    (s.pwr.phase = .running → s.sealed.state ≠ .sealed → ∃ t, exec .sealLoopOpen s = .next t ∧ t.sealed.loopOpen = true ∧
      t.sealed.state = s.sealed.state) ∧
    exec .sealLoopClosed s = .next { s with sealed := { s.sealed with loopOpen := false }, pwr := { s.pwr with sealLevel := false } } ∧
    (∀ r l, s.domeService = true → s.pwr.lowSupply = false → s.sealed.due = r :: l → ∃ t, exec .signatureComplete s = .next t ∧
      t.sealed.due = l ∧ t.sealed.storeSeq = s.sealed.storeSeq + 1 ∧ ∃ x : Stored, x ∈ t.sealed.records ∧ x.seq = s.sealed.storeSeq + 1 ∧
        x.dt = r.dt ∧ x.bytes.take 112 = (s.recordBody r).take 112) ∧
    (s.domeService = true → s.sealed.integrating = true → s.sealed.commitDt + 60 * second ≤ s.now → exec .odometerCommit s =
      .next { s with sealed := { s.sealed with
        commit := { measured := s.sealed.measured, bridged := s.sealed.bridged, last := s.sealed.last, zones := s.sealed.zones }
        commitDt := s.now } }) ∧
    exec .u6IdleLineBoundary s = .next { s with sealed := { s.sealed with u6Resync := false } } ∧
    (∀ d, s.sealed.u6Last = some d → d + 60 * second ≤ s.now → exec .u6ActiveTimeout s =
      .next { s with sealed := { s.sealed with u6Last := none } }) ∧
    (∀ b, s.domeUp = true → s.sealed.u6Resync = true →
      exec (.u6Packet b) s = .next { s with sealed := { s.sealed with u6Last := some s.now } }) ∧
    (∀ b st d, s.domeUp = true → s.sealed.u6Resync = false → u6Checks s b = some (st, d) → ∃ t, exec (.u6Packet b) s = .next t ∧
      t.sealed.u6Last = some s.now ∧ t.sealed.u6Tx = s.sealed.u6Tx ++ u6Reply s b true st d [] ∧
      (t.sealed.u6Resync = true ↔ d = 0xFFFF ∨ st = .crcError)) ∧
    (∀ b, s.domeUp = true → s.sealed.u6Resync = false → u6Checks s b = none → (parseHeader b).opcode = 0x0B0B →
      (parseHeader b).noReply = false → exec (.u6Packet b) s = .next { s with sealed := { s.sealed with
        u6Last := some s.now, u6Tx := s.sealed.u6Tx ++ u6Reply s b false .ok 0 s.sealed.odo.bytes } }) ∧
    (∀ l c ok z, s.drumImages.load = some l → l.check = some c → ok = true → getLe l.bytes 0 4 = 0x4D555244 → getLe l.bytes 4 4 = 2 →
      covered l.got l.length = true → s.drumImages.fused ≤ getLe l.bytes 16 4 → sha256 l.bytes = l.sha → ∃ u : State,
        exec (.loadCommitCheckEnd 2 ok z) s = .next (u.finalReply c .ok 0 []) ∧ u.drumImages.load = none ∧
        u.drumImages.active = s.drumImages.active ∧ (if s.drumImages.active then u.drumImages.a else u.drumImages.b) =
          { valid := true, interp := getLe l.bytes 8 4, customer := getLe l.bytes 12 4, length := l.length, sha := l.sha
            rollback := getLe l.bytes 16 4, data := l.data }) ∧
    (∀ l c z, s.drumImages.load = some l → l.check = some c → getLe l.bytes 0 4 = 0x4D555244 → getLe l.bytes 4 4 = 2 →
      covered l.got l.length = true → exec (.loadCommitCheckEnd 2 false z) s =
        .next ({ s with drumImages := { s.drumImages with load := none } }.finalReply c .fault 1 [])) ∧
    (∀ l c, s.domeImages.load = some l → l.check = some c → ∃ t, exec (.loadCommitCheckEnd 0 false true) s = .next t ∧
      t.domeImages = { s.domeImages with load := none } ∧ vget t.sealed.counters 11 = sat32 (vget s.sealed.counters 11)) ∧
    (∀ l c d ok z, s.zoneLoad = some l → l.check = some c → l.zoneFault = some d → exec (.loadCommitCheckEnd 1 ok z) s =
      .next ({ s with zoneLoad := none }.finalReply c .paramRange d [])) ∧
    (∀ l c ok z, s.zoneLoad = some l → l.check = some c → l.zoneFault = none → ∃ t, exec (.loadCommitCheckEnd 1 ok z) s = .next t ∧
      t.zoneLoad = none ∧ t.sealed.table.generation = s.sealed.table.generation + 1 ∧ t.sealed.table.sha = l.sha ∧
      t.sealed.zones.length = t.sealed.table.polygons.length)

/-- 18 R589, R593–R597, R601, R602, 01 R27, 19 R627, 13 R452, R471: the participants grant, delay, refuse or stay silent; the clocks stop at S0; the
level sources decide at the end of isolation; a wake source ends an entry or wakes the device; a profile takes effect; domains and
clusters pass or fail; the start completes.
Where the spec leaves the reading open it is the model's own (log 34). -/
def Obligations.Entries : Prop :=
  ∀ s : State,
    (∀ e (p q : Fin 9) d, s.pwr.phase = .handshake → s.pwr.entry = some e → vget e.answers p.val = .asked d →
      s.refusal p.val e.req.target = none → s.delays p.val = false → q ≠ p → vget e.answers q.val ≠ .granted → exec (.entryGrant p) s =
        .next ((if p.val = 0 then s.commitOdo else if p.val = 6 then s.sendLinkSleep 0 else s).setAnswer e p.val .granted)) ∧
    (∀ e f (p : Fin 9) d, s.pwr.phase = .handshake → s.pwr.entry = some e → vget e.answers p.val = .asked d →
      s.refusal p.val e.req.target = none → s.delays p.val = false → (∀ q : Fin 9, q ≠ p → vget e.answers q.val = .granted) →
      f = { e with answers := vset e.answers p.val .granted, delays := spanMs (s.now - e.accepted) } → exec (.entryGrant p) s =
        .next (((({ (if p.val = 0 then s.commitOdo else if p.val = 6 then s.sendLinkSleep 0 else s) with
          pwr := { s.pwr with phase := .committed, entry := some f } } : State).abortEasel 6).stopMeasurement 8).stopPulses)) ∧
    (∀ e (p : Fin 9) d r, s.pwr.phase = .handshake → s.pwr.entry = some e → vget e.answers p.val = .asked d →
      s.refusal p.val e.req.target = some r → s.pwr.pendingReq = none → s.pwr.pendingProfile = none → ∃ t,
        exec (.entryRefuse p) s = .next t ∧ t.pwr = { s.pwr with
          phase := .running, entry := none, wakeEvent := none, lastReason := r, windowTimers := 0, lastBlock := p.val
          entryFail := true, failed := sat16 s.pwr.failed }) ∧
    (∀ e (p : Fin 9) d, s.pwr.phase = .handshake → s.pwr.entry = some e → vget e.answers p.val = .asked d →
      (∀ n, s.delayAllowed p.val n = true →
        exec (.entryDelay p n) s = .next (s.setAnswer e p.val (.delayed (s.now + ms n)))) ∧
      (d + ms 10 ≤ s.now → (∀ (q : Fin 9) c, q < p → vget e.answers q.val = .asked c → s.now < c + ms 10) →
        s.pwr.pendingReq = none → s.pwr.pendingProfile = none → ∃ t, exec (.entryNoAnswer p) s = .next t ∧
          t.pwr.phase = .running ∧ t.pwr.entry = none ∧ t.pwr.lastReason = 4 ∧ t.pwr.lastBlock = p.val)) ∧
    (∀ e (p : Fin 9) d, s.pwr.phase = .handshake → s.pwr.entry = some e → vget e.answers p.val = .delayed d →
      (d ≤ s.now → exec (.entryDelayExpiry p) s = .next (s.setAnswer e p.val (.asked s.now))) ∧
      (e.accepted + ms e.req.delayMax ≤ s.now → (∀ (q : Fin 9) c, q < p → vget e.answers q.val ≠ .delayed c) →
        s.pwr.pendingReq = none → s.pwr.pendingProfile = none → ∃ t, exec .entryDelayLimit s = .next t ∧
          t.pwr.phase = .running ∧ t.pwr.entry = none ∧ t.pwr.lastReason = 5 ∧ t.pwr.lastBlock = p.val)) ∧
    (∀ e, s.pwr.phase = .committed → s.pwr.entry = some e → e.req.target = .sleep → exec .entryS0 s =
      .next (State.silence ((s.newSegment.modChain fun c =>
        { c with lanes := c.lanes.map fun (l : Lane) =>
            if l.st = .asleep ∨ l.st = .off then l else
              { l with st := .down, lock := false, slept := true, replay := l.replay.filter (·.frame.ftype != 9)
                       queue := l.queue.filter (·.frame.ftype != 9) } }).modPwr fun p =>
        { p with phase := .isolating, s0Dt := s.now, slow := 0, wakeEvent := none, windowTimers := 0, idle := false
                 domains := p.domains &&& ~~~domainBit 9 }))) ∧
    (∀ e, s.pwr.phase = .isolating → s.pwr.entry = some e → 3 ≤ s.pwr.slow →
      (∀ src, src ∈ levelSources → s.levelAsserted src = true → s.wakeEnabled src = true → exec .isolationEnd s =
        .next (s.modPwr fun p =>
          { p with entry := some { e with failure := some ⟨6, 255, s.now, false⟩ }, phase := .waking })) ∧
      ((∀ src, src ∈ levelSources → s.levelAsserted src = true → s.wakeEnabled src = false) →
        (e.req.target = .sleep → s.pwr.wakeEvent = none → exec .isolationEnd s =
          .next (s.modPwr fun p => { p with phase := .sleep, lastReason := 0, lastBlock := 15, lastDone := s.now, windowTimers := 0
                                            completed := satAdd 0xFFFF_FFFF p.completed 1 })) ∧
        (e.req.target = .deep ∨ e.req.target = .off → s.rlink.seq = none → ∃ t : State, exec .isolationEnd s = .next t ∧
          t.pwr = { s.pwr with phase := .turningOff } ∧ t.rlink.state = 2 ∧
          t.rlink.seq = some { purpose := .entryOff, volts := 0, cfg := s.rlink.cfg, at_ := s.rlink.opening }))) ∧
    (∀ e, s.pwr.phase = .isolating → s.pwr.entry = some e → s.pwr.slow < 3 → exec .isolationEnd s = .next s) ∧
    (s.pwr.phase = .sleep →
      (s.wakeEnabled 1 = true → exec (.wakePin true) s = .next (s.modPwr fun p =>
        { p with wakePin := true, wakeEvent := some ⟨1, s.now, false⟩, wakeSlow := p.slow, phase := .waking })) ∧
      (s.wakeEnabled 3 = true → exec .hportWakeEdge s = .next (s.modPwr fun p =>
        { p with wakeEvent := some ⟨3, s.now, false⟩, wakeSlow := p.slow, phase := .waking })) ∧
      (∀ l : LaneId, s.wakeEnabled (4 + l.num) = true → exec (.kakelWakeActivity l) s = .next (s.modPwr fun p =>
        { p with wakeEvent := some ⟨4 + l.num, s.now, false⟩, wakeSlow := p.slow, phase := .waking }))) ∧
    (∀ src w, s.pwr.phase = .turningOff → s.wakeEnabled src = true → s.pwr.wakeEvent = w → ∃ t : State, s.wakeOn src = t ∧
      t.pwr.wakeEvent = some (w.getD ⟨src, s.now, true⟩) ∧ t.pwr.phase = .turningOff) ∧
    (∀ r, s.pwr.profileReq = some r → s.domeService = true → s.pwr.profile ≠ 0 → s.atEpoch = true → s.domainsReady r.profile = true →
      s.rlink.point (profilePoint r.profile) ≤ s.rlink.volts → exec .profileChangeEffect s =
        .next (((s.modPwr fun p => { p with profileReq := none }).enterProfile r.profile).finalOption r.cmd .ok 0 [])) ∧
    (∀ (d : Fin 10) p, s.pwr.powerUps.find? (fun u => u.domain == d.val + 1) = some p → p.started + upTime (d.val + 1) ≤ s.now →
      (∃ t, exec (.domainPowerUpComplete d true) s = .next t ∧ t.poweredOn (d.val + 1) = true ∧
        t.pwr.powerUps = s.pwr.powerUps.filter fun u => u.domain != d.val + 1) ∧
      ∃ t, exec (.domainPowerUpComplete d false) s = .next t ∧ t.poweredOn (d.val + 1) = s.poweredOn (d.val + 1) ∧
        t.pwr.failedDomains = s.pwr.failedDomains ||| domainBit (d.val + 1) ∧
        t.boot.retryAt = some (s.boot.retryAt.getD (s.now + 10 * second))) ∧
    (∀ c : Fin 4, s.domeService = true → s.poweredOn (5 + c.val) = true → s.boot.clustersTested.toNat.testBit c.val = false →
      vget s.boot.testFrom c.val + ms 150 ≤ s.now →
      exec (.clusterSelfTestComplete c true) s =
        .next (s.modBoot fun b => { b with clustersTested := b.clustersTested ||| BitVec.ofNat 4 (2 ^ c.val) }) ∧
      ∃ t, exec (.clusterSelfTestComplete c false) s = .next t ∧ t.boot.clustersFailed.toNat.testBit c.val = true ∧
        t.poweredOn (5 + c.val) = false) ∧
    (s.domeService = true → s.atEpoch = true → s.boot.complete = false → s.boot.stageFiveDone = true → s.domainsReady s.startupProfile = true →
      (∀ c < 4, s.poweredOn (5 + c) = true → s.boot.clustersTested.toNat.testBit c = true) → s.portsReady s.startupProfile = true →
      ∃ t : State, exec .startupComplete s = .next (t.enterProfile s.startupProfile).startCalibration ∧
        t.boot = { s.boot with complete := true, stage := 6, retryAt := none } ∧ t.pwr = s.pwr) ∧
    (∀ d, s.boot.retryAt = some d → d ≤ s.now → s.domeService = true → s.boot.stageFiveDone = false → exec .earlyDomainRetry s =
      .next ((s.modBoot fun b => { b with retryAt := none }).rlinkStart .stageFive s.rlink.vFull))

/-- 18 R601, R603–R605, 19 R622: PAGE precedes the command; VOUT_MODE decides stage 1; a command is acknowledged by PGOOD or by a poll; a
failed attempt is repeated three times; what could not be turned on is tried again after a second.
Where the spec leaves the reading open it is the model's own (log 41). -/
def Obligations.Regulator : Prop :=
  ∀ s : State,
    (∀ q, s.rlink.seq = some q →
      (∀ m, q.at_ = .page → exec (.rlinkTransactionEnd m) s = .next ((s.sent q).modRlink fun r => { r with seq := some { q with at_ := .main } })) ∧
      (∀ m, q.at_ = .main → q.purpose ≠ .stageOneMode → q.purpose ≠ .stageOneVolt → exec (.rlinkTransactionEnd m) s =
        .next ((s.sent q).modRlink fun r => { r with seq := some { q with at_ := .ack, stop := s.now } })) ∧
      (∀ m, q.at_ = .main → q.purpose = .stageOneMode → s.rlink.queue = [] → ∃ t, exec (.rlinkTransactionEnd (some m)) s = .next t ∧
        t.rlink.voutMode = m ∧ t.rlink.n = m.setWidth 5 ∧
        (m.toNat / 32 = 0 → 16 ≤ m.toNat % 32 → m.toNat % 32 ≤ 24 → t.rlink.state = 2 ∧
          t.rlink.seq = some { purpose := .stageOneVolt, volts := s.rlink.vBare, cfg := s.rlink.cfg, at_ := s.rlink.opening }) ∧
        (m.toNat / 32 ≠ 0 ∨ m.toNat % 32 < 16 ∨ 24 < m.toNat % 32 →
          t.rlink.state = 3 ∧ t.rlink.seq = none ∧ t.rlink.retryAt = some (s.now + second))) ∧
      (∀ m, q.at_ = .main → q.purpose = .stageOneVolt → s.rlink.outputOn = false → s.rlink.queue = [] → s.rlink.state ≠ 3 → ∃ t,
        exec (.rlinkTransactionEnd m) s = .next t ∧ t.rlink.volts = q.volts ∧
          t.rlink.seq = some { purpose := .stageOneOn, volts := 0, cfg := s.rlink.cfg, at_ := s.rlink.opening }) ∧
      (q.retries < 3 →
        exec .rlinkNack s = .next ((s.sent q).modRlink fun r =>
          { r with seq := some { q with retries := q.retries + 1, at_ := q.cfg.opening, lastNack := true }, retries := sat16 r.retries }) ∧
        (q.at_ = .ack → q.stop + us (100 * q.cfg.timeout.toNat) ≤ s.now → exec .rlinkAttemptTimeout s =
          .next (s.modRlink fun r =>
            { r with seq := some { q with retries := q.retries + 1, at_ := q.cfg.opening, lastNack := false }, retries := sat16 r.retries }))) ∧
      (q.retries = 3 → q.purpose = .wakeOn → s.rlink.queue = [] → s.rlink.state ≠ 3 → ∃ t, exec .rlinkNack s = .next t ∧
        t.pwr = { s.pwr with phase := .deep, rlinkRetry := true } ∧ t.rlink.seq = none ∧ t.rlink.state = 1 ∧
        t.rlink.faults = sat8 s.rlink.faults ∧ t.rlink.retryAt = some (s.now + second)) ∧
      (q.retries = 3 → q.purpose = .entryOff → s.rlink.queue = [] → s.rlink.state ≠ 3 → ∃ t, exec .rlinkNack s = .next t ∧
        t.pwr.phase = .turningBack ∧ t.rlink.seq = some { purpose := .entryBack, volts := 0, cfg := s.rlink.cfg, at_ := s.rlink.opening } ∧
        ∀ e, s.pwr.entry = some e → t.pwr.entry = some { e with failure := some ⟨7, 255, s.now, true⟩ }) ∧
      (q.at_ = .ack → q.purpose = .stageOneOn → s.rlink.queue = [] → s.rlink.state ≠ 3 →
        (q.cfg.ackSrc ≠ 1 → ∃ t, exec (.rlinkAck none []) s = .next t ∧ t.pwr = { s.pwr with phase := .waking } ∧
          t.rlink.outputOn = true ∧ t.rlink.pgood = true ∧ t.rlink.seq = none ∧ t.rlink.state = 1) ∧
        (q.cfg.ackSrc = 1 → exec (.rlinkAck none []) s = .next (s.modRlink fun r => { r with pgood := true })) ∧
        ∀ w : BitVec 16, q.cfg.ackSrc ≠ 0 →
          (w.toNat.testBit 11 = false → ∃ t, exec (.rlinkAck (some w) []) s = .next t ∧ t.pwr = { s.pwr with phase := .waking } ∧
            t.rlink.outputOn = true ∧ t.rlink.status = w) ∧
          (w.toNat.testBit 11 = true → exec (.rlinkAck (some w) []) s = .next ((s.sent q).modRlink fun r => { r with status := w }))) ∧
      (q.at_ = .ack → q.purpose = .wakeOn → s.rlink.queue = [] → s.rlink.state ≠ 3 → q.cfg.ackSrc ≠ 1 → ∃ t,
        exec (.rlinkAck none []) s = .next t ∧ t.pwr = { s.pwr with phase := .waking, lostBanks := [] } ∧ t.rlink.outputOn = true ∧
          t.mem = { s.mem with
            lostDrum := 0, lostDome := 0, lostCluster := 0, lostEasel := false, lostLantern := false, lostMbx := false, lost := false }) ∧
      (∃ w, (s.sent q).rlink.wire = some w ∧ w.addr = q.cfg.addr ∧ w.pec = q.cfg.pec ∧
        (q.at_ = .page → w.code = 0 ∧ w.data = le 1 q.cfg.page.toNat) ∧ (q.at_ = .ack → w.code = 0x79 ∧ w.data = []) ∧
        (q.at_ = .main →
          (q.purpose = .stageOneMode → w.code = 0x20 ∧ w.data = []) ∧
          (q.purpose = .stageOneOn ∨ q.purpose = .entryBack ∨ q.purpose = .wakeOn → w.code = 1 ∧ w.data = [0x80]) ∧
          (q.purpose = .entryOff → w.code = 1 ∧ w.data = [0]) ∧
          (q.purpose = .stageOneVolt ∨ q.purpose = .stageFive ∨ q.purpose = .profileRaise ∨ q.purpose = .profileLower →
            w.code = 0x21 ∧ w.data = le 2 (voutWord s.rlink.n q.volts)))) ∧
      (q.at_ = .ack → q.cfg.ackSrc ≠ 0 →
        ∀ w, exec (.rlinkPoll w) s = .next ((s.sent q).modRlink fun r => { r with status := w }))) ∧
    (∀ d w, s.rlink.retryAt = some d → d ≤ s.now → s.rlink.seq = none → s.pwr.phase = .deep → s.pwr.wakeEvent = some w → ∃ t,
      exec .rlinkRetry s = .next t ∧ t.pwr = { s.pwr with wakeEvent := some w, wakeSlow := s.pwr.slow, phase := .wakingOn } ∧
        t.rlink.retryAt = none ∧ t.rlink.seq = some { purpose := .wakeOn, volts := 0, cfg := s.rlink.cfg, at_ := s.rlink.opening }) ∧
    (∀ d, s.rlink.retryAt = some d → d ≤ s.now → s.rlink.seq = none → s.pwr.phase = .lantern → ∃ t, exec .stage1Retry s = .next t ∧
      t.rlink.retryAt = none ∧ t.rlink.seq = some { purpose := .stageOneMode, volts := 0, cfg := s.rlink.cfg, at_ := s.rlink.opening })

/-- 03 R87–R89, R94, 09 R338, 18 R600–R602, 19 R622, 21 R647–R649: the PLL locks and the fast clocks take over at a slow edge; the reference goes
and returns; the supply warns, recovers and is lost; power returns.
Where the spec leaves the reading open it is the model's own (log 25). -/
def Obligations.ClocksAndSupply : Prop :=
  ∀ s : State,
    (s.pwr.phase = .waking → exec .frontPllLock s = .next (s.modPwr fun p => { p with phase := .locked })) ∧
    (s.pwr.phase = .locked → s.pwr.entry = none → ∃ t, exec .handover s = .next t ∧ t.pwr =
        { s.pwr with phase := .running, domains := 0b1100000011, handoverTick := some s.clk.tick } ∧ t.clk = s.clk ∧
      (s.boot.toClear = true → t.boot = { s.boot with stage := 2, dome := .bare, drum := .bare } ∧ t.cores = s.cores) ∧
      (s.boot.toClear = false → t.boot = { s.boot with stage := 3, dome := .images, drum := .images } ∧
        ∀ k < 8, vget t.cores k = coreAt k 0xFF0000 false)) ∧
    (∀ e w, s.pwr.phase = .locked → s.pwr.entry = some e → e.failure = none → e.req.target = .sleep → s.pwr.wakeEvent = some w →
      s.pwr.lostBanks = [] → ∃ u v : State, v = u.resumeMeasurement.answerRequest e.req .ok 0 w.source e.delays ∧
        exec .handover s = .next (if v.pwr.pinReset = true then State.stageOne { v with pwr := { v.pwr with pinReset := false } }
          else v.startPending) ∧ u.pwr.phase = .running ∧ u.pwr.entry = none ∧ u.pwr.woke = true ∧ u.pwr.wakeSource = w.source ∧
        u.pwr.wakeDt = w.dt ∧ u.pwr.wakes = sat16 s.pwr.wakes ∧ u.pwr.wakeFrom = 2 ∧ u.pwr.pinReset = s.pwr.pinReset ∧ u.clk = s.clk ∧
        (∀ k < 8, k ≠ 6 → w.source = 6 + k → (vget u.uarts k).woken = true) ∧ (∀ k < 2, w.source = 14 + k → (vget u.cans k).woken = true) ∧
        (3 ≤ w.source → w.source ≤ 5 → u.hport.woken = true)) ∧
    (∀ e f, s.pwr.phase = .locked → s.pwr.entry = some e → e.failure = some f → f.reason = 6 → ∃ u : State,
      exec .handover s = .next u.resumeMeasurement.startPending ∧ u.pwr.phase = .running ∧ u.pwr.entry = none ∧ u.pwr.lastReason = 6 ∧
        u.pwr.lastBlock = (if f.block = 255 then 15 else f.block) ∧ u.pwr.entryFail = true ∧ u.pwr.failed = sat16 s.pwr.failed) ∧
    (s.fast = true → ∃ u : State, exec .refclkLost s = .next (State.silence u) ∧ u.pwr.phase = .refclkLost ∧ u.pwr.slow = 0 ∧
      u.pwr.idle = false) ∧
    (s.fast = false → exec .refclkLost s = .next s) ∧
    (s.pwr.phase = .refclkLost → s.pwr.entry = none → ∃ u : State, exec .refclkRegained s = .next u.resumeMeasurement ∧
      u.pwr = { s.pwr with phase := .running } ∧ u.clk = s.clk) ∧
    (s.pwr.lowSupply = false → s.fast = false → s.pwr.phase ≠ .unpowered → s.pwr.phase ≠ .off → s.pwr.phase ≠ .isolating → exec (.powerFailWarning none) s =
      .next { s with
        pwr := { s.pwr with pfWarnings := sat16 s.pwr.pfWarnings, warned := true, lowSupply := true }
        sealed := { s.sealed with pfLatched := some (s.now, true) } }) ∧
    (∀ sig e, s.pwr.lowSupply = false → s.pwr.phase = .isolating → s.pwr.entry = some e → ∃ t, exec (.powerFailWarning sig) s = .next t ∧
      t.pwr.lowSupply = true ∧ t.pwr.phase = .waking ∧ t.pwr.entry = some { e with failure := some ⟨0, 255, s.now, false⟩ }) ∧
    (∀ sig, s.pwr.lowSupply = false → s.domeService = true → ∃ t, exec (.powerFailWarning sig) s = .next t ∧ t.pwr.lowSupply = true) ∧
    (s.pwr.lowSupply = false → s.domeService = true → s.pwr.entry = none → s.cal.run = none → ∃ t, exec (.powerFailWarning none) s = .next t ∧
      t.pwr = { s.pwr with pfWarnings := sat16 s.pwr.pfWarnings, warned := true, lowSupply := true } ∧
      t.sealed.lowFrom = some (s.startHold s.now) ∧ t.sealed.commit.measured = s.sealed.measured) ∧
    (s.pwr.lowSupply = true → s.pwr.entry = none → ∃ t, exec .vinRestore s = .next t ∧
      t.pwr = { s.pwr with lowSupply := false, warned := false, restored := false } ∧ t.sealed.lowFrom = none) ∧
    exec .vinLoss s = .next { s with pwr := { s.pwr with phase := .unpowered, idle := false } } ∧
    (∀ off low, s.pwr.phase = (if off = true then .off else .unpowered) → ∃ t, exec (.coldStart off low) s = .next t ∧
      t.pwr.phase = .lantern ∧ t.clk = { epoch := (s.clk.epoch + 1) % 2 ^ 32 } ∧ t.cores = State.reset.cores ∧ t.mmus = State.reset.mmus ∧
      t.mem.user = s.mem.user ∧ t.mem.sram = [] ∧ t.sealed.main = s.sealed.main ∧ t.sealed.counters = s.sealed.counters ∧
      t.sealed.table = s.sealed.table ∧ t.sealed.state = s.sealed.state ∧ t.sealed.measured = s.sealed.commit.measured ∧
      t.pwr.startup = s.pwr.startup ∧ t.pending = s.pending) ∧
    (∀ off low, s.pwr.phase ≠ (if off = true then .off else .unpowered) → exec (.coldStart off low) s = .next s)

/-- 12 R423, R424, 19 R618, R620, R623–R625, R629–R632, 15 R510: an image passes its check and its part starts, or the other slot is taken; RESET_N, the
commands, the supervisor and the watchdogs reset the parts of the reach that R618 gives them.
Where the spec leaves the reading open it is the model's own (log 26, 34 and 46). -/
def Obligations.Resets : Prop :=
  ∀ s : State,
    (∀ r, s.boot.drum = .images → s.fast = true → s.drumImages.now.valid = true → s.drumImages.fused ≤ s.drumImages.now.rollback →
      (∀ d, s.drumImages.trial = some d → s.now ≤ d) → ∃ t, exec (.imageCheckComplete false true r) s = .next t ∧
        t.boot.drum = .service ∧ t.rings = startRings ∧ t.hport.ready = true ∧ t.interp.recovery = false ∧
        t.drumImages.fused = s.drumImages.now.rollback ∧ (vget t.cores 0).pc = 0xF8C00 ∧ (vget t.cores 0).sr = 0) ∧
    (∀ r, s.boot.drum = .images → s.fast = true → s.boot.drumRejects = 0 → exec (.imageCheckComplete false false r) s = .next { s with
      drumImages := { s.drumImages with active := !s.drumImages.active, trial := none }
      boot := { s.boot with drumRejects := 1 } }) ∧
    (∀ r, s.boot.drum = .images → s.fast = true → s.boot.drumRejects = 1 → ∃ t, exec (.imageCheckComplete false false r) s = .next t ∧
      t.boot.drum = .noImage ∧ t.interp.recovery = true ∧ (vget t.cores 1).held = true ∧ (vget t.cores 2).held = true) ∧
    (∀ r, s.boot.dome = .images → s.fast = true → s.domeImages.now.valid = true → s.domeImages.fused ≤ s.domeImages.now.rollback →
      (∀ d, s.domeImages.trial = some d → s.now ≤ d) → exec (.imageCheckComplete true true r) s = .next (s.domeStart false)) ∧
    (∀ r, s.boot.dome = .images → s.fast = true → s.boot.rejected = [] → exec (.imageCheckComplete true false r) s = .next { s with
      domeImages := { s.domeImages with active := !s.domeImages.active, trial := none }
      boot := { s.boot with rejected := [(s.domeImages.active, r)] } }) ∧
    (s.pwr.phase = .running → ∃ t, exec .pinReset s = .next t ∧ t.pwr.phase = .lantern ∧ t.pwr.entry = none ∧ t.boot.stage = 1 ∧
      t.boot.dome = .lantern ∧ t.boot.drum = .lantern ∧ t.rings = Vector.replicate 16 {} ∧ t.mem.sram = s.mem.sram ∧
      t.rlink.seq = some { purpose := .stageOneMode, volts := 0, cfg := s.rlink.cfg, at_ := s.rlink.opening } ∧ ∀ k < 8, vget t.cores k = coreAt k 0xFF0000 false) ∧
    (s.pwr.phase = .unpowered ∨ s.pwr.phase = .off → exec .pinReset s = .next s) ∧
    (∀ p, s.domePlan = some p → exec .domeReset s = .next (s.domeReset p.source p.drum.isSome)) ∧
    (s.domePlan = none → exec .domeReset s = .next s) ∧
    (∀ p, s.drumPlan = some p → exec .drumReset s = .next (s.drumReset p.source)) ∧
    (s.drumPlan = none → exec .drumReset s = .next s) ∧
    (∀ src x, ∃ t, s.domeReset src x = t ∧ t.boot.dome = .images ∧ t.pwr.profile = 3 ∧ t.mem = s.mem ∧ t.rings = s.rings ∧
      t.boot.drum = s.boot.drum ∧ t.sealed.main = s.sealed.main ∧ t.sealed.state = s.sealed.state ∧ t.sealed.due = [] ∧
      t.sealed.measured = s.sealed.commit.measured ∧ (∀ k < 3, vget t.cores k = vget s.cores k) ∧
      ∀ k, 3 ≤ k → k < 8 → vget t.cores k = coreAt k 0xFF0000 false) ∧
    (∀ src, ∃ t, s.drumReset src = t ∧ t.boot.drum = .images ∧ t.boot.dome = s.boot.dome ∧ t.interp.inflight = [] ∧ t.sealed = s.sealed ∧
      t.mmus = Vector.replicate 4 {} ∧ t.dma = {} ∧ t.intc = Vector.replicate 64 {} ∧ (∀ k < 3, vget t.cores k = coreAt k 0xFF0000 false) ∧
      ∀ k, 3 ≤ k → k < 8 → vget t.cores k = vget s.cores k) ∧
    (s.fast = true → s.boot.dome ≠ .lantern → s.boot.resetDt + ms 250 ≤ s.now → s.domeImages.trial = none → exec .domeWdtExpiry s = .next (s.domeReset 3 false)) ∧
    (∀ d, s.fast = true → s.boot.dome ≠ .lantern → s.boot.resetDt + ms 250 ≤ s.now → s.domeImages.trial = some d → exec .domeWdtExpiry s =
      .next ({ s with domeImages := { s.domeImages with active := !s.domeImages.active, trial := none } }.domeReset 8 false)) ∧
    (s.wdtExpired 0 = true → s.drumImages.trial = none → exec .drumWdtExpiry s =
      .next ({ s with wdts := vmod s.wdts 0 fun w => { w with expired := true } }.drumReset 9)) ∧
    (s.wdtExpired 0 = false → exec .drumWdtExpiry s = .next s) ∧
    (∀ n : Fin 3, n.val ≠ 0 → s.wdtExpired n.val = true → ∃ t, exec (.coreWdtExpiry n) s = .next t ∧
      t.cores = vset s.cores n.val (coreAt n.val 0xFF0080 false) ∧ (vget t.wdts n.val).expired = true ∧ (vget t.wdts n.val).since = s.now ∧
      (if n.val = 1 then t.boot.srcD1 = 12 else t.boot.srcD2 = 12) ∧ t.mem = s.mem ∧ t.rings = s.rings)

/-- The model's choice (log 1): a step on an empty queue is the end of a tick, or of a slow-clock edge while the fast clocks stand. 11 R401: the
ring pointers that the next tick judges by are those the tick leaves, and 00 R7: so are the bits and counts that it meets (`start`); without power, and in OFF, nothing passes (03 R89). -/
def Obligations.EmptyQueueEndsTick : Prop :=
  ∀ s : State, s.pending = [] →
    (s.pwr.phase = .unpowered ∨ s.pwr.phase = .off → step s = .next s) ∧
    (s.fast = false → s.pwr.phase ≠ .unpowered → s.pwr.phase ≠ .off → step s = .next { s with
      start := s.tickStart
      trk := { s.trk with before := [] }
      ranks := Vector.replicate 10 0
      pwr := { s.pwr with slow := s.pwr.slow + 1 }
      clk := s.clk.slowOn }) ∧
    (s.fast = true → ∃ t, step s = .next t ∧ t.start = t.tickStart ∧ t.trk.before = [] ∧ t.ranks = Vector.replicate 10 0 ∧ t.interp.took = false ∧ t.pwr.handoverTick = none ∧
      ∀ n < 16, (vget t.rings n).prodT = (vget t.rings n).prod ∧ (vget t.rings n).consT = (vget t.rings n).cons)

/-- 03 R90, R92: a tick adds 13,434 units of 2⁻⁴⁰ s and none, one or two further ones, spread evenly: exactly one second in 81,840,000
unsteered ticks. An edge of the slow clock adds 2²⁵ units and 2,497 or 2,498 ticks: one second and 81,840,000 ticks in 32,768 edges. -/
def Obligations.TimeRates : Prop :=
  (∀ (c : Clock) (n k : Nat), c.phase < 81840000 → 73067776 + c.steer = k → k ≤ 163680000 → ∃ d, c.ticked n = d ∧
    d.acc = c.acc + 13434 * n + (c.phase + k * n) / 81840000 ∧ d.tick % 2 ^ 64 = (c.tick + n) % 2 ^ 64 ∧ d.steer = c.steer ∧
    d.phase = (c.phase + k * n) % 81840000) ∧
  (∀ c : Clock, c.phase < 81840000 → 0 ≤ 73067776 + c.steer → 73067776 + c.steer ≤ 163680000 →
    c.acc + 13434 ≤ c.tickOn.acc ∧ c.tickOn.acc ≤ c.acc + 13436 ∧ (c.steer ≤ 8772224 → c.tickOn.acc ≤ c.acc + 13435) ∧
    (8772224 ≤ c.steer → c.acc + 13435 ≤ c.tickOn.acc)) ∧
  (∀ c : Clock, c.phase < 81840000 → c.steer = 0 → (c.ticked 81840000).acc = c.acc + 2 ^ 40 ∧
    (c.ticked 81840000).phase = c.phase) ∧
  (∀ c : Clock, c.slowPhase < 32768 → (c.slowOn.acc = c.acc + 2 ^ 25) ∧
    (c.slowOn.tick = (c.tick + 2497) % 2 ^ 64 ∨ c.slowOn.tick = (c.tick + 2498) % 2 ^ 64) ∧
    (c.slowed 32768).acc = c.acc + 2 ^ 40 ∧ (c.slowed 32768).tick % 2 ^ 64 = (c.tick + 81840000) % 2 ^ 64)

/-- Reset values that the spec gives (03 R89, 15 R510, R512, R539, R541, 17 R570, R577, 18 R589, R600, R605, R607, 19 R622, R630, 02 R40, 09 R312,
11 R399): DT 0, the Lantern's start, every core in Bare mode and held, translation, windows, rings, timers, DMA and interrupts off,
watchdog 0 running, two ports enabled. The model's choices are the A and DSP of 0 (log 14), the seal state and the one audit entry
(log 40), the canonical form and what an SRAM byte reads as before it is cleared (log 13). -/
def Obligations.ResetState : Prop :=
  ∀ s : State, s = State.reset →
    s.pending = [] ∧ s.now = 0 ∧ s.clk.tick = 0 ∧ s.pwr.phase = .lantern ∧ s.boot.stage = 0 ∧ s.pwr.profile = 3 ∧ s.memoryWf = true ∧
    (∀ c : CoreId, (s.core c.val).bare = true ∧ (s.core c.val).priv = 0 ∧ (s.core c.val).held = true ∧ (s.core c.val).a = 0 ∧
      (s.core c.val).dsp = 0 ∧ (s.core c.val).ret = [] ∧ (s.core c.val).sr.getLsbD 15 = decide (3 ≤ c.val)) ∧
    (∀ n < 4, (vget s.mmus n).en = false ∧ (vget s.masters n).en = false ∧ (vget s.timers n).en = false ∧
      (vget s.timers n).period = 81840) ∧
    (∀ n < 16, (vget s.rings n).en = false ∧ (s.dmaCh n).state = .idle) ∧
    (∀ n < 64, (vget s.intc n).prio = 0) ∧ (∀ n < 3, (vget s.wdts n).en = decide (n = 0)) ∧
    (∀ p < 8, (s.port p).cfg.enable = decide (p < 2)) ∧
    s.rlink.vFull = 800 ∧ s.rlink.vRun = 720 ∧ s.rlink.vBare = 700 ∧ s.rlink.cfg = {} ∧ s.pwr.wakeEn = 0x3EF ∧
    s.sealed.state = .unsealed ∧ s.sealed.auditSeq = 1 ∧ (∀ k, 0 < k → k < 18 → vget s.sealed.counters k = 0) ∧
    ∀ a < 0x400000, s.mem.sram.read a = 0

/-- Every step keeps every memory, image slot and open load in its one canonical form (addresses rising, no byte listed that an unlisted
address reads as): the form is the model's own (log 13). -/
def Obligations.MemoryCanonical : Prop :=
  ∀ s t : State, s.memoryWf = true → step s = .next t → t.memoryWf = true

/-- 03 R89: no command and no event but a cold start changes DT or TICK; none adds to or takes from the queue of those still waiting. 09 R316,
R318: AUDIT_SEQ and the audit counters never go down, over any number of steps. The queue is the model's own (log 1). -/
def Obligations.TimeQueueAndAudit : Prop :=
  (∀ (c : Instr) (q : List Instr) (s t : State), s.pending = c :: q → step s = .next t →
    t.pending = q ∧ ((∀ a b, c ≠ .coldStart a b) → t.now = s.now ∧ t.clk.tick = s.clk.tick)) ∧
  ∀ (run : Nat → State) (n : Nat), (∀ k < n, step (run k) = .next (run (k + 1))) → (∀ k, vget (run 0).sealed.counters k < 2 ^ 32) →
    (run 0).sealed.auditSeq ≤ (run n).sealed.auditSeq ∧
      ∀ k, vget (run 0).sealed.counters k ≤ vget (run n).sealed.counters k ∧ vget (run n).sealed.counters k < 2 ^ 32

/-- What the instructions of the cores leave alone, whether they complete or trap (EXL clear, so no double trap): other cores, every
unit but memory, MMUs, the monitor; every byte of memory but those stored; for the plain ones every register they do not name. -/
def Obligations.FinialFrames : Prop :=
  (∀ (i : Instr) (c : CoreId) (s t : State), ownRow i = some c → (s.core c.val).sr.getLsbD 3 = false → exec i s = .next t →
    t.likeButCore s ∧ (∀ k : CoreId, k ≠ c → t.core k.val = s.core k.val) ∧ t.mem.sram = s.mem.sram ∧ t.mem.dome = s.mem.dome ∧
      t.mem.lantern = s.mem.lantern ∧ t.mem.mailbox = s.mem.mailbox ∧ t.mem.user = s.mem.user) ∧
  (∀ (i : Instr) (c : CoreId) (s t : State) (k m : Core), plainRow i = some c → s.core c.val = k → k.sr.getLsbD 3 = false → exec i s = .next t →
    t.core c.val = m → m.dsp = k.dsp ∧ m.ret = k.ret ∧ m.rsLimit = k.rsLimit ∧ m.evr = k.evr ∧ m.tcmp = k.tcmp ∧ m.ls = k.ls ∧ m.le = k.le ∧
      m.tvec = k.tvec ∧ m.segBase = k.segBase ∧ m.segLimit = k.segLimit ∧ m.held = k.held ∧
      (m.sr.getLsbD 3 = false → m.tpc = k.tpc ∧ m.tsr = k.tsr ∧ m.tcause = k.tcause ∧ m.taddr = k.taddr ∧ m.trc = k.trc ∧
        ∀ b, ¬ (10 ≤ b ∧ b < 14) → m.sr.getLsbD b = k.sr.getLsbD b)) ∧
  ∀ (i : Instr) (c : CoreId) (n : Nat) (chk : Option Nat) (ea : Core → Word) (s t : State), storing i = some (c, n, chk, ea) →
    s.Issues c.val → chk = none → (s.core c.val).sr.getLsbD 3 = false → exec i s = .next t →
    t.likeButCore s ∧ (∀ k : CoreId, k ≠ c → t.core k.val = s.core k.val) ∧
    (∀ la u pa p, (s.fetched c.val).linear c.val (ea (s.at_ c.val)) n = .ok la → c.val < 3 →
      (s.fetched c.val).corePhys c.val la .store = (u, .ok pa) → placeOf pa = some p → t.mem.dome = s.mem.dome ∧
        ∀ m ∈ [0, 2, 3, 4], ∀ a, (m ≠ p.mem ∨ a < p.off ∨ p.off + n ≤ a) → (t.placeBytes m).read a = (s.placeBytes m).read a) ∧
    ∀ la, (s.fetched c.val).linear c.val (ea (s.at_ c.val)) n = .ok la → 3 ≤ c.val → (∀ m ∈ [0, 2, 3, 4], t.placeBytes m = s.placeBytes m) ∧
      ∀ a, (a < la.toNat ∨ la.toNat + n ≤ a) → t.mem.dome.read a = s.mem.dome.read a
end

