-- ==== Sys2Proof/Laws/State.lean ====
section
/-! SUPPORT. The fields of the state under each named update, and the fixed arrays under theirs: what no later proof has to unfold. -/

set_option Elab.async false

namespace Sys2Proof.Machine

/-! Fixed arrays. -/

@[simp] theorem vget_vset_same {α : Type} {n : Nat} [Inhabited α] (v : Vector α n) {i : Nat} (a : α) (h : i < n) : vget (vset v i a) i = a := by
  simp [vget, vset, Vector.getD, h]

@[simp] theorem vget_vset_other {α : Type} {n : Nat} [Inhabited α] (v : Vector α n) {i j : Nat} (a : α) (h : j ≠ i) :
    vget (vset v i a) j = vget v j := by
  simp only [vget, vset, Vector.getD, Array.getD]
  by_cases p : j < n <;> simp [p, Ne.symm h]

theorem vget_vmod_same {α : Type} {n : Nat} [Inhabited α] (v : Vector α n) {i : Nat} (f : α → α) (h : i < n) :
    vget (vmod v i f) i = f (vget v i) := vget_vset_same v _ h

theorem vget_vmod_other {α : Type} {n : Nat} [Inhabited α] (v : Vector α n) {i j : Nat} (f : α → α) (h : j ≠ i) :
    vget (vmod v i f) j = vget v j := vget_vset_other v _ h

/-! The parts of the state. -/

@[simp] theorem State.modPwr_pending (s : State) (f : Pwr → Pwr) : (s.modPwr f).pending = s.pending := rfl
@[simp] theorem State.modPwr_free (s : State) (f : Pwr → Pwr) : (s.modPwr f).free = s.free := rfl
@[simp] theorem State.modPwr_ranks (s : State) (f : Pwr → Pwr) : (s.modPwr f).ranks = s.ranks := rfl
@[simp] theorem State.modPwr_clk (s : State) (f : Pwr → Pwr) : (s.modPwr f).clk = s.clk := rfl
@[simp] theorem State.modPwr_cores (s : State) (f : Pwr → Pwr) : (s.modPwr f).cores = s.cores := rfl
@[simp] theorem State.modPwr_intc (s : State) (f : Pwr → Pwr) : (s.modPwr f).intc = s.intc := rfl
@[simp] theorem State.modPwr_timers (s : State) (f : Pwr → Pwr) : (s.modPwr f).timers = s.timers := rfl
@[simp] theorem State.modPwr_wdts (s : State) (f : Pwr → Pwr) : (s.modPwr f).wdts = s.wdts := rfl
@[simp] theorem State.modPwr_pmon (s : State) (f : Pwr → Pwr) : (s.modPwr f).pmon = s.pmon := rfl
@[simp] theorem State.modPwr_start (s : State) (f : Pwr → Pwr) : (s.modPwr f).start = s.start := rfl
@[simp] theorem State.modPwr_evt (s : State) (f : Pwr → Pwr) : (s.modPwr f).evt = s.evt := rfl
@[simp] theorem State.modPwr_evtHeld (s : State) (f : Pwr → Pwr) : (s.modPwr f).evtHeld = s.evtHeld := rfl
@[simp] theorem State.modPwr_mem (s : State) (f : Pwr → Pwr) : (s.modPwr f).mem = s.mem := rfl
@[simp] theorem State.modPwr_mmus (s : State) (f : Pwr → Pwr) : (s.modPwr f).mmus = s.mmus := rfl
@[simp] theorem State.modPwr_masters (s : State) (f : Pwr → Pwr) : (s.modPwr f).masters = s.masters := rfl
@[simp] theorem State.modPwr_dma (s : State) (f : Pwr → Pwr) : (s.modPwr f).dma = s.dma := rfl
@[simp] theorem State.modPwr_rings (s : State) (f : Pwr → Pwr) : (s.modPwr f).rings = s.rings := rfl
@[simp] theorem State.modPwr_interp (s : State) (f : Pwr → Pwr) : (s.modPwr f).interp = s.interp := rfl
@[simp] theorem State.modPwr_mbx (s : State) (f : Pwr → Pwr) : (s.modPwr f).mbx = s.mbx := rfl
@[simp] theorem State.modPwr_drumImages (s : State) (f : Pwr → Pwr) : (s.modPwr f).drumImages = s.drumImages := rfl
@[simp] theorem State.modPwr_domeImages (s : State) (f : Pwr → Pwr) : (s.modPwr f).domeImages = s.domeImages := rfl
@[simp] theorem State.modPwr_zoneLoad (s : State) (f : Pwr → Pwr) : (s.modPwr f).zoneLoad = s.zoneLoad := rfl
@[simp] theorem State.modPwr_pwr (s : State) (f : Pwr → Pwr) : (s.modPwr f).pwr = f s.pwr := rfl
@[simp] theorem State.modPwr_ltimers (s : State) (f : Pwr → Pwr) : (s.modPwr f).ltimers = s.ltimers := rfl
@[simp] theorem State.modPwr_rlink (s : State) (f : Pwr → Pwr) : (s.modPwr f).rlink = s.rlink := rfl
@[simp] theorem State.modPwr_boot (s : State) (f : Pwr → Pwr) : (s.modPwr f).boot = s.boot := rfl
@[simp] theorem State.modPwr_sealed (s : State) (f : Pwr → Pwr) : (s.modPwr f).sealed = s.sealed := rfl
@[simp] theorem State.modPwr_chain (s : State) (f : Pwr → Pwr) : (s.modPwr f).chain = s.chain := rfl
@[simp] theorem State.modPwr_hport (s : State) (f : Pwr → Pwr) : (s.modPwr f).hport = s.hport := rfl
@[simp] theorem State.modPwr_uarts (s : State) (f : Pwr → Pwr) : (s.modPwr f).uarts = s.uarts := rfl
@[simp] theorem State.modPwr_cans (s : State) (f : Pwr → Pwr) : (s.modPwr f).cans = s.cans := rfl
@[simp] theorem State.modPwr_nav (s : State) (f : Pwr → Pwr) : (s.modPwr f).nav = s.nav := rfl
@[simp] theorem State.modPwr_input (s : State) (f : Pwr → Pwr) : (s.modPwr f).input = s.input := rfl
@[simp] theorem State.modPwr_easel (s : State) (f : Pwr → Pwr) : (s.modPwr f).easel = s.easel := rfl
@[simp] theorem State.modPwr_trk (s : State) (f : Pwr → Pwr) : (s.modPwr f).trk = s.trk := rfl
@[simp] theorem State.modPwr_tp (s : State) (f : Pwr → Pwr) : (s.modPwr f).tp = s.tp := rfl
@[simp] theorem State.modPwr_cal (s : State) (f : Pwr → Pwr) : (s.modPwr f).cal = s.cal := rfl

@[simp] theorem State.modBoot_pending (s : State) (f : Boot → Boot) : (s.modBoot f).pending = s.pending := rfl
@[simp] theorem State.modBoot_free (s : State) (f : Boot → Boot) : (s.modBoot f).free = s.free := rfl
@[simp] theorem State.modBoot_ranks (s : State) (f : Boot → Boot) : (s.modBoot f).ranks = s.ranks := rfl
@[simp] theorem State.modBoot_clk (s : State) (f : Boot → Boot) : (s.modBoot f).clk = s.clk := rfl
@[simp] theorem State.modBoot_cores (s : State) (f : Boot → Boot) : (s.modBoot f).cores = s.cores := rfl
@[simp] theorem State.modBoot_intc (s : State) (f : Boot → Boot) : (s.modBoot f).intc = s.intc := rfl
@[simp] theorem State.modBoot_timers (s : State) (f : Boot → Boot) : (s.modBoot f).timers = s.timers := rfl
@[simp] theorem State.modBoot_wdts (s : State) (f : Boot → Boot) : (s.modBoot f).wdts = s.wdts := rfl
@[simp] theorem State.modBoot_pmon (s : State) (f : Boot → Boot) : (s.modBoot f).pmon = s.pmon := rfl
@[simp] theorem State.modBoot_start (s : State) (f : Boot → Boot) : (s.modBoot f).start = s.start := rfl
@[simp] theorem State.modBoot_evt (s : State) (f : Boot → Boot) : (s.modBoot f).evt = s.evt := rfl
@[simp] theorem State.modBoot_evtHeld (s : State) (f : Boot → Boot) : (s.modBoot f).evtHeld = s.evtHeld := rfl
@[simp] theorem State.modBoot_mem (s : State) (f : Boot → Boot) : (s.modBoot f).mem = s.mem := rfl
@[simp] theorem State.modBoot_mmus (s : State) (f : Boot → Boot) : (s.modBoot f).mmus = s.mmus := rfl
@[simp] theorem State.modBoot_masters (s : State) (f : Boot → Boot) : (s.modBoot f).masters = s.masters := rfl
@[simp] theorem State.modBoot_dma (s : State) (f : Boot → Boot) : (s.modBoot f).dma = s.dma := rfl
@[simp] theorem State.modBoot_rings (s : State) (f : Boot → Boot) : (s.modBoot f).rings = s.rings := rfl
@[simp] theorem State.modBoot_interp (s : State) (f : Boot → Boot) : (s.modBoot f).interp = s.interp := rfl
@[simp] theorem State.modBoot_mbx (s : State) (f : Boot → Boot) : (s.modBoot f).mbx = s.mbx := rfl
@[simp] theorem State.modBoot_drumImages (s : State) (f : Boot → Boot) : (s.modBoot f).drumImages = s.drumImages := rfl
@[simp] theorem State.modBoot_domeImages (s : State) (f : Boot → Boot) : (s.modBoot f).domeImages = s.domeImages := rfl
@[simp] theorem State.modBoot_zoneLoad (s : State) (f : Boot → Boot) : (s.modBoot f).zoneLoad = s.zoneLoad := rfl
@[simp] theorem State.modBoot_pwr (s : State) (f : Boot → Boot) : (s.modBoot f).pwr = s.pwr := rfl
@[simp] theorem State.modBoot_ltimers (s : State) (f : Boot → Boot) : (s.modBoot f).ltimers = s.ltimers := rfl
@[simp] theorem State.modBoot_rlink (s : State) (f : Boot → Boot) : (s.modBoot f).rlink = s.rlink := rfl
@[simp] theorem State.modBoot_boot (s : State) (f : Boot → Boot) : (s.modBoot f).boot = f s.boot := rfl
@[simp] theorem State.modBoot_sealed (s : State) (f : Boot → Boot) : (s.modBoot f).sealed = s.sealed := rfl
@[simp] theorem State.modBoot_chain (s : State) (f : Boot → Boot) : (s.modBoot f).chain = s.chain := rfl
@[simp] theorem State.modBoot_hport (s : State) (f : Boot → Boot) : (s.modBoot f).hport = s.hport := rfl
@[simp] theorem State.modBoot_uarts (s : State) (f : Boot → Boot) : (s.modBoot f).uarts = s.uarts := rfl
@[simp] theorem State.modBoot_cans (s : State) (f : Boot → Boot) : (s.modBoot f).cans = s.cans := rfl
@[simp] theorem State.modBoot_nav (s : State) (f : Boot → Boot) : (s.modBoot f).nav = s.nav := rfl
@[simp] theorem State.modBoot_input (s : State) (f : Boot → Boot) : (s.modBoot f).input = s.input := rfl
@[simp] theorem State.modBoot_easel (s : State) (f : Boot → Boot) : (s.modBoot f).easel = s.easel := rfl
@[simp] theorem State.modBoot_trk (s : State) (f : Boot → Boot) : (s.modBoot f).trk = s.trk := rfl
@[simp] theorem State.modBoot_tp (s : State) (f : Boot → Boot) : (s.modBoot f).tp = s.tp := rfl
@[simp] theorem State.modBoot_cal (s : State) (f : Boot → Boot) : (s.modBoot f).cal = s.cal := rfl

@[simp] theorem State.modRlink_pending (s : State) (f : Rlink → Rlink) : (s.modRlink f).pending = s.pending := rfl
@[simp] theorem State.modRlink_free (s : State) (f : Rlink → Rlink) : (s.modRlink f).free = s.free := rfl
@[simp] theorem State.modRlink_ranks (s : State) (f : Rlink → Rlink) : (s.modRlink f).ranks = s.ranks := rfl
@[simp] theorem State.modRlink_clk (s : State) (f : Rlink → Rlink) : (s.modRlink f).clk = s.clk := rfl
@[simp] theorem State.modRlink_cores (s : State) (f : Rlink → Rlink) : (s.modRlink f).cores = s.cores := rfl
@[simp] theorem State.modRlink_intc (s : State) (f : Rlink → Rlink) : (s.modRlink f).intc = s.intc := rfl
@[simp] theorem State.modRlink_timers (s : State) (f : Rlink → Rlink) : (s.modRlink f).timers = s.timers := rfl
@[simp] theorem State.modRlink_wdts (s : State) (f : Rlink → Rlink) : (s.modRlink f).wdts = s.wdts := rfl
@[simp] theorem State.modRlink_pmon (s : State) (f : Rlink → Rlink) : (s.modRlink f).pmon = s.pmon := rfl
@[simp] theorem State.modRlink_start (s : State) (f : Rlink → Rlink) : (s.modRlink f).start = s.start := rfl
@[simp] theorem State.modRlink_evt (s : State) (f : Rlink → Rlink) : (s.modRlink f).evt = s.evt := rfl
@[simp] theorem State.modRlink_evtHeld (s : State) (f : Rlink → Rlink) : (s.modRlink f).evtHeld = s.evtHeld := rfl
@[simp] theorem State.modRlink_mem (s : State) (f : Rlink → Rlink) : (s.modRlink f).mem = s.mem := rfl
@[simp] theorem State.modRlink_mmus (s : State) (f : Rlink → Rlink) : (s.modRlink f).mmus = s.mmus := rfl
@[simp] theorem State.modRlink_masters (s : State) (f : Rlink → Rlink) : (s.modRlink f).masters = s.masters := rfl
@[simp] theorem State.modRlink_dma (s : State) (f : Rlink → Rlink) : (s.modRlink f).dma = s.dma := rfl
@[simp] theorem State.modRlink_rings (s : State) (f : Rlink → Rlink) : (s.modRlink f).rings = s.rings := rfl
@[simp] theorem State.modRlink_interp (s : State) (f : Rlink → Rlink) : (s.modRlink f).interp = s.interp := rfl
@[simp] theorem State.modRlink_mbx (s : State) (f : Rlink → Rlink) : (s.modRlink f).mbx = s.mbx := rfl
@[simp] theorem State.modRlink_drumImages (s : State) (f : Rlink → Rlink) : (s.modRlink f).drumImages = s.drumImages := rfl
@[simp] theorem State.modRlink_domeImages (s : State) (f : Rlink → Rlink) : (s.modRlink f).domeImages = s.domeImages := rfl
@[simp] theorem State.modRlink_zoneLoad (s : State) (f : Rlink → Rlink) : (s.modRlink f).zoneLoad = s.zoneLoad := rfl
@[simp] theorem State.modRlink_pwr (s : State) (f : Rlink → Rlink) : (s.modRlink f).pwr = s.pwr := rfl
@[simp] theorem State.modRlink_ltimers (s : State) (f : Rlink → Rlink) : (s.modRlink f).ltimers = s.ltimers := rfl
@[simp] theorem State.modRlink_rlink (s : State) (f : Rlink → Rlink) : (s.modRlink f).rlink = f s.rlink := rfl
@[simp] theorem State.modRlink_boot (s : State) (f : Rlink → Rlink) : (s.modRlink f).boot = s.boot := rfl
@[simp] theorem State.modRlink_sealed (s : State) (f : Rlink → Rlink) : (s.modRlink f).sealed = s.sealed := rfl
@[simp] theorem State.modRlink_chain (s : State) (f : Rlink → Rlink) : (s.modRlink f).chain = s.chain := rfl
@[simp] theorem State.modRlink_hport (s : State) (f : Rlink → Rlink) : (s.modRlink f).hport = s.hport := rfl
@[simp] theorem State.modRlink_uarts (s : State) (f : Rlink → Rlink) : (s.modRlink f).uarts = s.uarts := rfl
@[simp] theorem State.modRlink_cans (s : State) (f : Rlink → Rlink) : (s.modRlink f).cans = s.cans := rfl
@[simp] theorem State.modRlink_nav (s : State) (f : Rlink → Rlink) : (s.modRlink f).nav = s.nav := rfl
@[simp] theorem State.modRlink_input (s : State) (f : Rlink → Rlink) : (s.modRlink f).input = s.input := rfl
@[simp] theorem State.modRlink_easel (s : State) (f : Rlink → Rlink) : (s.modRlink f).easel = s.easel := rfl
@[simp] theorem State.modRlink_trk (s : State) (f : Rlink → Rlink) : (s.modRlink f).trk = s.trk := rfl
@[simp] theorem State.modRlink_tp (s : State) (f : Rlink → Rlink) : (s.modRlink f).tp = s.tp := rfl
@[simp] theorem State.modRlink_cal (s : State) (f : Rlink → Rlink) : (s.modRlink f).cal = s.cal := rfl

@[simp] theorem State.modMem_pending (s : State) (f : Mem → Mem) : (s.modMem f).pending = s.pending := rfl
@[simp] theorem State.modMem_free (s : State) (f : Mem → Mem) : (s.modMem f).free = s.free := rfl
@[simp] theorem State.modMem_ranks (s : State) (f : Mem → Mem) : (s.modMem f).ranks = s.ranks := rfl
@[simp] theorem State.modMem_clk (s : State) (f : Mem → Mem) : (s.modMem f).clk = s.clk := rfl
@[simp] theorem State.modMem_cores (s : State) (f : Mem → Mem) : (s.modMem f).cores = s.cores := rfl
@[simp] theorem State.modMem_intc (s : State) (f : Mem → Mem) : (s.modMem f).intc = s.intc := rfl
@[simp] theorem State.modMem_timers (s : State) (f : Mem → Mem) : (s.modMem f).timers = s.timers := rfl
@[simp] theorem State.modMem_wdts (s : State) (f : Mem → Mem) : (s.modMem f).wdts = s.wdts := rfl
@[simp] theorem State.modMem_pmon (s : State) (f : Mem → Mem) : (s.modMem f).pmon = s.pmon := rfl
@[simp] theorem State.modMem_start (s : State) (f : Mem → Mem) : (s.modMem f).start = s.start := rfl
@[simp] theorem State.modMem_evt (s : State) (f : Mem → Mem) : (s.modMem f).evt = s.evt := rfl
@[simp] theorem State.modMem_evtHeld (s : State) (f : Mem → Mem) : (s.modMem f).evtHeld = s.evtHeld := rfl
@[simp] theorem State.modMem_mem (s : State) (f : Mem → Mem) : (s.modMem f).mem = f s.mem := rfl
@[simp] theorem State.modMem_mmus (s : State) (f : Mem → Mem) : (s.modMem f).mmus = s.mmus := rfl
@[simp] theorem State.modMem_masters (s : State) (f : Mem → Mem) : (s.modMem f).masters = s.masters := rfl
@[simp] theorem State.modMem_dma (s : State) (f : Mem → Mem) : (s.modMem f).dma = s.dma := rfl
@[simp] theorem State.modMem_rings (s : State) (f : Mem → Mem) : (s.modMem f).rings = s.rings := rfl
@[simp] theorem State.modMem_interp (s : State) (f : Mem → Mem) : (s.modMem f).interp = s.interp := rfl
@[simp] theorem State.modMem_mbx (s : State) (f : Mem → Mem) : (s.modMem f).mbx = s.mbx := rfl
@[simp] theorem State.modMem_drumImages (s : State) (f : Mem → Mem) : (s.modMem f).drumImages = s.drumImages := rfl
@[simp] theorem State.modMem_domeImages (s : State) (f : Mem → Mem) : (s.modMem f).domeImages = s.domeImages := rfl
@[simp] theorem State.modMem_zoneLoad (s : State) (f : Mem → Mem) : (s.modMem f).zoneLoad = s.zoneLoad := rfl
@[simp] theorem State.modMem_pwr (s : State) (f : Mem → Mem) : (s.modMem f).pwr = s.pwr := rfl
@[simp] theorem State.modMem_ltimers (s : State) (f : Mem → Mem) : (s.modMem f).ltimers = s.ltimers := rfl
@[simp] theorem State.modMem_rlink (s : State) (f : Mem → Mem) : (s.modMem f).rlink = s.rlink := rfl
@[simp] theorem State.modMem_boot (s : State) (f : Mem → Mem) : (s.modMem f).boot = s.boot := rfl
@[simp] theorem State.modMem_sealed (s : State) (f : Mem → Mem) : (s.modMem f).sealed = s.sealed := rfl
@[simp] theorem State.modMem_chain (s : State) (f : Mem → Mem) : (s.modMem f).chain = s.chain := rfl
@[simp] theorem State.modMem_hport (s : State) (f : Mem → Mem) : (s.modMem f).hport = s.hport := rfl
@[simp] theorem State.modMem_uarts (s : State) (f : Mem → Mem) : (s.modMem f).uarts = s.uarts := rfl
@[simp] theorem State.modMem_cans (s : State) (f : Mem → Mem) : (s.modMem f).cans = s.cans := rfl
@[simp] theorem State.modMem_nav (s : State) (f : Mem → Mem) : (s.modMem f).nav = s.nav := rfl
@[simp] theorem State.modMem_input (s : State) (f : Mem → Mem) : (s.modMem f).input = s.input := rfl
@[simp] theorem State.modMem_easel (s : State) (f : Mem → Mem) : (s.modMem f).easel = s.easel := rfl
@[simp] theorem State.modMem_trk (s : State) (f : Mem → Mem) : (s.modMem f).trk = s.trk := rfl
@[simp] theorem State.modMem_tp (s : State) (f : Mem → Mem) : (s.modMem f).tp = s.tp := rfl
@[simp] theorem State.modMem_cal (s : State) (f : Mem → Mem) : (s.modMem f).cal = s.cal := rfl

@[simp] theorem State.modInput_pending (s : State) (f : Inputs → Inputs) : (s.modInput f).pending = s.pending := rfl
@[simp] theorem State.modInput_free (s : State) (f : Inputs → Inputs) : (s.modInput f).free = s.free := rfl
@[simp] theorem State.modInput_ranks (s : State) (f : Inputs → Inputs) : (s.modInput f).ranks = s.ranks := rfl
@[simp] theorem State.modInput_clk (s : State) (f : Inputs → Inputs) : (s.modInput f).clk = s.clk := rfl
@[simp] theorem State.modInput_cores (s : State) (f : Inputs → Inputs) : (s.modInput f).cores = s.cores := rfl
@[simp] theorem State.modInput_intc (s : State) (f : Inputs → Inputs) : (s.modInput f).intc = s.intc := rfl
@[simp] theorem State.modInput_timers (s : State) (f : Inputs → Inputs) : (s.modInput f).timers = s.timers := rfl
@[simp] theorem State.modInput_wdts (s : State) (f : Inputs → Inputs) : (s.modInput f).wdts = s.wdts := rfl
@[simp] theorem State.modInput_pmon (s : State) (f : Inputs → Inputs) : (s.modInput f).pmon = s.pmon := rfl
@[simp] theorem State.modInput_start (s : State) (f : Inputs → Inputs) : (s.modInput f).start = s.start := rfl
@[simp] theorem State.modInput_evt (s : State) (f : Inputs → Inputs) : (s.modInput f).evt = s.evt := rfl
@[simp] theorem State.modInput_evtHeld (s : State) (f : Inputs → Inputs) : (s.modInput f).evtHeld = s.evtHeld := rfl
@[simp] theorem State.modInput_mem (s : State) (f : Inputs → Inputs) : (s.modInput f).mem = s.mem := rfl
@[simp] theorem State.modInput_mmus (s : State) (f : Inputs → Inputs) : (s.modInput f).mmus = s.mmus := rfl
@[simp] theorem State.modInput_masters (s : State) (f : Inputs → Inputs) : (s.modInput f).masters = s.masters := rfl
@[simp] theorem State.modInput_dma (s : State) (f : Inputs → Inputs) : (s.modInput f).dma = s.dma := rfl
@[simp] theorem State.modInput_rings (s : State) (f : Inputs → Inputs) : (s.modInput f).rings = s.rings := rfl
@[simp] theorem State.modInput_interp (s : State) (f : Inputs → Inputs) : (s.modInput f).interp = s.interp := rfl
@[simp] theorem State.modInput_mbx (s : State) (f : Inputs → Inputs) : (s.modInput f).mbx = s.mbx := rfl
@[simp] theorem State.modInput_drumImages (s : State) (f : Inputs → Inputs) : (s.modInput f).drumImages = s.drumImages := rfl
@[simp] theorem State.modInput_domeImages (s : State) (f : Inputs → Inputs) : (s.modInput f).domeImages = s.domeImages := rfl
@[simp] theorem State.modInput_zoneLoad (s : State) (f : Inputs → Inputs) : (s.modInput f).zoneLoad = s.zoneLoad := rfl
@[simp] theorem State.modInput_pwr (s : State) (f : Inputs → Inputs) : (s.modInput f).pwr = s.pwr := rfl
@[simp] theorem State.modInput_ltimers (s : State) (f : Inputs → Inputs) : (s.modInput f).ltimers = s.ltimers := rfl
@[simp] theorem State.modInput_rlink (s : State) (f : Inputs → Inputs) : (s.modInput f).rlink = s.rlink := rfl
@[simp] theorem State.modInput_boot (s : State) (f : Inputs → Inputs) : (s.modInput f).boot = s.boot := rfl
@[simp] theorem State.modInput_sealed (s : State) (f : Inputs → Inputs) : (s.modInput f).sealed = s.sealed := rfl
@[simp] theorem State.modInput_chain (s : State) (f : Inputs → Inputs) : (s.modInput f).chain = s.chain := rfl
@[simp] theorem State.modInput_hport (s : State) (f : Inputs → Inputs) : (s.modInput f).hport = s.hport := rfl
@[simp] theorem State.modInput_uarts (s : State) (f : Inputs → Inputs) : (s.modInput f).uarts = s.uarts := rfl
@[simp] theorem State.modInput_cans (s : State) (f : Inputs → Inputs) : (s.modInput f).cans = s.cans := rfl
@[simp] theorem State.modInput_nav (s : State) (f : Inputs → Inputs) : (s.modInput f).nav = s.nav := rfl
@[simp] theorem State.modInput_input (s : State) (f : Inputs → Inputs) : (s.modInput f).input = f s.input := rfl
@[simp] theorem State.modInput_easel (s : State) (f : Inputs → Inputs) : (s.modInput f).easel = s.easel := rfl
@[simp] theorem State.modInput_trk (s : State) (f : Inputs → Inputs) : (s.modInput f).trk = s.trk := rfl
@[simp] theorem State.modInput_tp (s : State) (f : Inputs → Inputs) : (s.modInput f).tp = s.tp := rfl
@[simp] theorem State.modInput_cal (s : State) (f : Inputs → Inputs) : (s.modInput f).cal = s.cal := rfl

@[simp] theorem State.modPort_pending (s : State) (p : Nat) (f : Port → Port) : (s.modPort p f).pending = s.pending := rfl
@[simp] theorem State.modPort_free (s : State) (p : Nat) (f : Port → Port) : (s.modPort p f).free = s.free := rfl
@[simp] theorem State.modPort_ranks (s : State) (p : Nat) (f : Port → Port) : (s.modPort p f).ranks = s.ranks := rfl
@[simp] theorem State.modPort_clk (s : State) (p : Nat) (f : Port → Port) : (s.modPort p f).clk = s.clk := rfl
@[simp] theorem State.modPort_cores (s : State) (p : Nat) (f : Port → Port) : (s.modPort p f).cores = s.cores := rfl
@[simp] theorem State.modPort_intc (s : State) (p : Nat) (f : Port → Port) : (s.modPort p f).intc = s.intc := rfl
@[simp] theorem State.modPort_timers (s : State) (p : Nat) (f : Port → Port) : (s.modPort p f).timers = s.timers := rfl
@[simp] theorem State.modPort_wdts (s : State) (p : Nat) (f : Port → Port) : (s.modPort p f).wdts = s.wdts := rfl
@[simp] theorem State.modPort_pmon (s : State) (p : Nat) (f : Port → Port) : (s.modPort p f).pmon = s.pmon := rfl
@[simp] theorem State.modPort_start (s : State) (p : Nat) (f : Port → Port) : (s.modPort p f).start = s.start := rfl
@[simp] theorem State.modPort_evt (s : State) (p : Nat) (f : Port → Port) : (s.modPort p f).evt = s.evt := rfl
@[simp] theorem State.modPort_evtHeld (s : State) (p : Nat) (f : Port → Port) : (s.modPort p f).evtHeld = s.evtHeld := rfl
@[simp] theorem State.modPort_mem (s : State) (p : Nat) (f : Port → Port) : (s.modPort p f).mem = s.mem := rfl
@[simp] theorem State.modPort_mmus (s : State) (p : Nat) (f : Port → Port) : (s.modPort p f).mmus = s.mmus := rfl
@[simp] theorem State.modPort_masters (s : State) (p : Nat) (f : Port → Port) : (s.modPort p f).masters = s.masters := rfl
@[simp] theorem State.modPort_dma (s : State) (p : Nat) (f : Port → Port) : (s.modPort p f).dma = s.dma := rfl
@[simp] theorem State.modPort_rings (s : State) (p : Nat) (f : Port → Port) : (s.modPort p f).rings = s.rings := rfl
@[simp] theorem State.modPort_interp (s : State) (p : Nat) (f : Port → Port) : (s.modPort p f).interp = s.interp := rfl
@[simp] theorem State.modPort_mbx (s : State) (p : Nat) (f : Port → Port) : (s.modPort p f).mbx = s.mbx := rfl
@[simp] theorem State.modPort_drumImages (s : State) (p : Nat) (f : Port → Port) : (s.modPort p f).drumImages = s.drumImages := rfl
@[simp] theorem State.modPort_domeImages (s : State) (p : Nat) (f : Port → Port) : (s.modPort p f).domeImages = s.domeImages := rfl
@[simp] theorem State.modPort_zoneLoad (s : State) (p : Nat) (f : Port → Port) : (s.modPort p f).zoneLoad = s.zoneLoad := rfl
@[simp] theorem State.modPort_pwr (s : State) (p : Nat) (f : Port → Port) : (s.modPort p f).pwr = s.pwr := rfl
@[simp] theorem State.modPort_ltimers (s : State) (p : Nat) (f : Port → Port) : (s.modPort p f).ltimers = s.ltimers := rfl
@[simp] theorem State.modPort_rlink (s : State) (p : Nat) (f : Port → Port) : (s.modPort p f).rlink = s.rlink := rfl
@[simp] theorem State.modPort_boot (s : State) (p : Nat) (f : Port → Port) : (s.modPort p f).boot = s.boot := rfl
@[simp] theorem State.modPort_sealed (s : State) (p : Nat) (f : Port → Port) : (s.modPort p f).sealed = s.sealed := rfl
@[simp] theorem State.modPort_chain (s : State) (p : Nat) (f : Port → Port) : (s.modPort p f).chain = s.chain := rfl
@[simp] theorem State.modPort_hport (s : State) (p : Nat) (f : Port → Port) : (s.modPort p f).hport = s.hport := rfl
@[simp] theorem State.modPort_uarts (s : State) (p : Nat) (f : Port → Port) : (s.modPort p f).uarts = s.uarts := rfl
@[simp] theorem State.modPort_cans (s : State) (p : Nat) (f : Port → Port) : (s.modPort p f).cans = s.cans := rfl
@[simp] theorem State.modPort_nav (s : State) (p : Nat) (f : Port → Port) : (s.modPort p f).nav = s.nav := rfl
@[simp] theorem State.modPort_easel (s : State) (p : Nat) (f : Port → Port) : (s.modPort p f).easel = s.easel := rfl
@[simp] theorem State.modPort_trk (s : State) (p : Nat) (f : Port → Port) : (s.modPort p f).trk = s.trk := rfl
@[simp] theorem State.modPort_tp (s : State) (p : Nat) (f : Port → Port) : (s.modPort p f).tp = s.tp := rfl
@[simp] theorem State.modPort_cal (s : State) (p : Nat) (f : Port → Port) : (s.modPort p f).cal = s.cal := rfl

@[simp] theorem State.modCal_pending (s : State) (f : Cal → Cal) : (s.modCal f).pending = s.pending := rfl
@[simp] theorem State.modCal_free (s : State) (f : Cal → Cal) : (s.modCal f).free = s.free := rfl
@[simp] theorem State.modCal_ranks (s : State) (f : Cal → Cal) : (s.modCal f).ranks = s.ranks := rfl
@[simp] theorem State.modCal_clk (s : State) (f : Cal → Cal) : (s.modCal f).clk = s.clk := rfl
@[simp] theorem State.modCal_cores (s : State) (f : Cal → Cal) : (s.modCal f).cores = s.cores := rfl
@[simp] theorem State.modCal_intc (s : State) (f : Cal → Cal) : (s.modCal f).intc = s.intc := rfl
@[simp] theorem State.modCal_timers (s : State) (f : Cal → Cal) : (s.modCal f).timers = s.timers := rfl
@[simp] theorem State.modCal_wdts (s : State) (f : Cal → Cal) : (s.modCal f).wdts = s.wdts := rfl
@[simp] theorem State.modCal_pmon (s : State) (f : Cal → Cal) : (s.modCal f).pmon = s.pmon := rfl
@[simp] theorem State.modCal_start (s : State) (f : Cal → Cal) : (s.modCal f).start = s.start := rfl
@[simp] theorem State.modCal_evt (s : State) (f : Cal → Cal) : (s.modCal f).evt = s.evt := rfl
@[simp] theorem State.modCal_evtHeld (s : State) (f : Cal → Cal) : (s.modCal f).evtHeld = s.evtHeld := rfl
@[simp] theorem State.modCal_mem (s : State) (f : Cal → Cal) : (s.modCal f).mem = s.mem := rfl
@[simp] theorem State.modCal_mmus (s : State) (f : Cal → Cal) : (s.modCal f).mmus = s.mmus := rfl
@[simp] theorem State.modCal_masters (s : State) (f : Cal → Cal) : (s.modCal f).masters = s.masters := rfl
@[simp] theorem State.modCal_dma (s : State) (f : Cal → Cal) : (s.modCal f).dma = s.dma := rfl
@[simp] theorem State.modCal_rings (s : State) (f : Cal → Cal) : (s.modCal f).rings = s.rings := rfl
@[simp] theorem State.modCal_interp (s : State) (f : Cal → Cal) : (s.modCal f).interp = s.interp := rfl
@[simp] theorem State.modCal_mbx (s : State) (f : Cal → Cal) : (s.modCal f).mbx = s.mbx := rfl
@[simp] theorem State.modCal_drumImages (s : State) (f : Cal → Cal) : (s.modCal f).drumImages = s.drumImages := rfl
@[simp] theorem State.modCal_domeImages (s : State) (f : Cal → Cal) : (s.modCal f).domeImages = s.domeImages := rfl
@[simp] theorem State.modCal_zoneLoad (s : State) (f : Cal → Cal) : (s.modCal f).zoneLoad = s.zoneLoad := rfl
@[simp] theorem State.modCal_pwr (s : State) (f : Cal → Cal) : (s.modCal f).pwr = s.pwr := rfl
@[simp] theorem State.modCal_ltimers (s : State) (f : Cal → Cal) : (s.modCal f).ltimers = s.ltimers := rfl
@[simp] theorem State.modCal_rlink (s : State) (f : Cal → Cal) : (s.modCal f).rlink = s.rlink := rfl
@[simp] theorem State.modCal_boot (s : State) (f : Cal → Cal) : (s.modCal f).boot = s.boot := rfl
@[simp] theorem State.modCal_sealed (s : State) (f : Cal → Cal) : (s.modCal f).sealed = s.sealed := rfl
@[simp] theorem State.modCal_chain (s : State) (f : Cal → Cal) : (s.modCal f).chain = s.chain := rfl
@[simp] theorem State.modCal_hport (s : State) (f : Cal → Cal) : (s.modCal f).hport = s.hport := rfl
@[simp] theorem State.modCal_uarts (s : State) (f : Cal → Cal) : (s.modCal f).uarts = s.uarts := rfl
@[simp] theorem State.modCal_cans (s : State) (f : Cal → Cal) : (s.modCal f).cans = s.cans := rfl
@[simp] theorem State.modCal_nav (s : State) (f : Cal → Cal) : (s.modCal f).nav = s.nav := rfl
@[simp] theorem State.modCal_input (s : State) (f : Cal → Cal) : (s.modCal f).input = s.input := rfl
@[simp] theorem State.modCal_easel (s : State) (f : Cal → Cal) : (s.modCal f).easel = s.easel := rfl
@[simp] theorem State.modCal_trk (s : State) (f : Cal → Cal) : (s.modCal f).trk = s.trk := rfl
@[simp] theorem State.modCal_tp (s : State) (f : Cal → Cal) : (s.modCal f).tp = s.tp := rfl
@[simp] theorem State.modCal_cal (s : State) (f : Cal → Cal) : (s.modCal f).cal = f s.cal := rfl

@[simp] theorem State.modDma_pending (s : State) (n : Nat) (f : DmaChannel → DmaChannel) : (s.modDma n f).pending = s.pending := rfl
@[simp] theorem State.modDma_free (s : State) (n : Nat) (f : DmaChannel → DmaChannel) : (s.modDma n f).free = s.free := rfl
@[simp] theorem State.modDma_ranks (s : State) (n : Nat) (f : DmaChannel → DmaChannel) : (s.modDma n f).ranks = s.ranks := rfl
@[simp] theorem State.modDma_clk (s : State) (n : Nat) (f : DmaChannel → DmaChannel) : (s.modDma n f).clk = s.clk := rfl
@[simp] theorem State.modDma_cores (s : State) (n : Nat) (f : DmaChannel → DmaChannel) : (s.modDma n f).cores = s.cores := rfl
@[simp] theorem State.modDma_intc (s : State) (n : Nat) (f : DmaChannel → DmaChannel) : (s.modDma n f).intc = s.intc := rfl
@[simp] theorem State.modDma_timers (s : State) (n : Nat) (f : DmaChannel → DmaChannel) : (s.modDma n f).timers = s.timers := rfl
@[simp] theorem State.modDma_wdts (s : State) (n : Nat) (f : DmaChannel → DmaChannel) : (s.modDma n f).wdts = s.wdts := rfl
@[simp] theorem State.modDma_pmon (s : State) (n : Nat) (f : DmaChannel → DmaChannel) : (s.modDma n f).pmon = s.pmon := rfl
@[simp] theorem State.modDma_start (s : State) (n : Nat) (f : DmaChannel → DmaChannel) : (s.modDma n f).start = s.start := rfl
@[simp] theorem State.modDma_evt (s : State) (n : Nat) (f : DmaChannel → DmaChannel) : (s.modDma n f).evt = s.evt := rfl
@[simp] theorem State.modDma_evtHeld (s : State) (n : Nat) (f : DmaChannel → DmaChannel) : (s.modDma n f).evtHeld = s.evtHeld := rfl
@[simp] theorem State.modDma_mem (s : State) (n : Nat) (f : DmaChannel → DmaChannel) : (s.modDma n f).mem = s.mem := rfl
@[simp] theorem State.modDma_mmus (s : State) (n : Nat) (f : DmaChannel → DmaChannel) : (s.modDma n f).mmus = s.mmus := rfl
@[simp] theorem State.modDma_masters (s : State) (n : Nat) (f : DmaChannel → DmaChannel) : (s.modDma n f).masters = s.masters := rfl
@[simp] theorem State.modDma_rings (s : State) (n : Nat) (f : DmaChannel → DmaChannel) : (s.modDma n f).rings = s.rings := rfl
@[simp] theorem State.modDma_interp (s : State) (n : Nat) (f : DmaChannel → DmaChannel) : (s.modDma n f).interp = s.interp := rfl
@[simp] theorem State.modDma_mbx (s : State) (n : Nat) (f : DmaChannel → DmaChannel) : (s.modDma n f).mbx = s.mbx := rfl
@[simp] theorem State.modDma_drumImages (s : State) (n : Nat) (f : DmaChannel → DmaChannel) : (s.modDma n f).drumImages = s.drumImages := rfl
@[simp] theorem State.modDma_domeImages (s : State) (n : Nat) (f : DmaChannel → DmaChannel) : (s.modDma n f).domeImages = s.domeImages := rfl
@[simp] theorem State.modDma_zoneLoad (s : State) (n : Nat) (f : DmaChannel → DmaChannel) : (s.modDma n f).zoneLoad = s.zoneLoad := rfl
@[simp] theorem State.modDma_pwr (s : State) (n : Nat) (f : DmaChannel → DmaChannel) : (s.modDma n f).pwr = s.pwr := rfl
@[simp] theorem State.modDma_ltimers (s : State) (n : Nat) (f : DmaChannel → DmaChannel) : (s.modDma n f).ltimers = s.ltimers := rfl
@[simp] theorem State.modDma_rlink (s : State) (n : Nat) (f : DmaChannel → DmaChannel) : (s.modDma n f).rlink = s.rlink := rfl
@[simp] theorem State.modDma_boot (s : State) (n : Nat) (f : DmaChannel → DmaChannel) : (s.modDma n f).boot = s.boot := rfl
@[simp] theorem State.modDma_sealed (s : State) (n : Nat) (f : DmaChannel → DmaChannel) : (s.modDma n f).sealed = s.sealed := rfl
@[simp] theorem State.modDma_chain (s : State) (n : Nat) (f : DmaChannel → DmaChannel) : (s.modDma n f).chain = s.chain := rfl
@[simp] theorem State.modDma_hport (s : State) (n : Nat) (f : DmaChannel → DmaChannel) : (s.modDma n f).hport = s.hport := rfl
@[simp] theorem State.modDma_uarts (s : State) (n : Nat) (f : DmaChannel → DmaChannel) : (s.modDma n f).uarts = s.uarts := rfl
@[simp] theorem State.modDma_cans (s : State) (n : Nat) (f : DmaChannel → DmaChannel) : (s.modDma n f).cans = s.cans := rfl
@[simp] theorem State.modDma_nav (s : State) (n : Nat) (f : DmaChannel → DmaChannel) : (s.modDma n f).nav = s.nav := rfl
@[simp] theorem State.modDma_input (s : State) (n : Nat) (f : DmaChannel → DmaChannel) : (s.modDma n f).input = s.input := rfl
@[simp] theorem State.modDma_easel (s : State) (n : Nat) (f : DmaChannel → DmaChannel) : (s.modDma n f).easel = s.easel := rfl
@[simp] theorem State.modDma_trk (s : State) (n : Nat) (f : DmaChannel → DmaChannel) : (s.modDma n f).trk = s.trk := rfl
@[simp] theorem State.modDma_tp (s : State) (n : Nat) (f : DmaChannel → DmaChannel) : (s.modDma n f).tp = s.tp := rfl
@[simp] theorem State.modDma_cal (s : State) (n : Nat) (f : DmaChannel → DmaChannel) : (s.modDma n f).cal = s.cal := rfl

@[simp] theorem State.modChain_pending (s : State) (f : Chain → Chain) : (s.modChain f).pending = s.pending := rfl
@[simp] theorem State.modChain_free (s : State) (f : Chain → Chain) : (s.modChain f).free = s.free := rfl
@[simp] theorem State.modChain_ranks (s : State) (f : Chain → Chain) : (s.modChain f).ranks = s.ranks := rfl
@[simp] theorem State.modChain_clk (s : State) (f : Chain → Chain) : (s.modChain f).clk = s.clk := rfl
@[simp] theorem State.modChain_cores (s : State) (f : Chain → Chain) : (s.modChain f).cores = s.cores := rfl
@[simp] theorem State.modChain_intc (s : State) (f : Chain → Chain) : (s.modChain f).intc = s.intc := rfl
@[simp] theorem State.modChain_timers (s : State) (f : Chain → Chain) : (s.modChain f).timers = s.timers := rfl
@[simp] theorem State.modChain_wdts (s : State) (f : Chain → Chain) : (s.modChain f).wdts = s.wdts := rfl
@[simp] theorem State.modChain_pmon (s : State) (f : Chain → Chain) : (s.modChain f).pmon = s.pmon := rfl
@[simp] theorem State.modChain_start (s : State) (f : Chain → Chain) : (s.modChain f).start = s.start := rfl
@[simp] theorem State.modChain_evt (s : State) (f : Chain → Chain) : (s.modChain f).evt = s.evt := rfl
@[simp] theorem State.modChain_evtHeld (s : State) (f : Chain → Chain) : (s.modChain f).evtHeld = s.evtHeld := rfl
@[simp] theorem State.modChain_mem (s : State) (f : Chain → Chain) : (s.modChain f).mem = s.mem := rfl
@[simp] theorem State.modChain_mmus (s : State) (f : Chain → Chain) : (s.modChain f).mmus = s.mmus := rfl
@[simp] theorem State.modChain_masters (s : State) (f : Chain → Chain) : (s.modChain f).masters = s.masters := rfl
@[simp] theorem State.modChain_dma (s : State) (f : Chain → Chain) : (s.modChain f).dma = s.dma := rfl
@[simp] theorem State.modChain_rings (s : State) (f : Chain → Chain) : (s.modChain f).rings = s.rings := rfl
@[simp] theorem State.modChain_interp (s : State) (f : Chain → Chain) : (s.modChain f).interp = s.interp := rfl
@[simp] theorem State.modChain_mbx (s : State) (f : Chain → Chain) : (s.modChain f).mbx = s.mbx := rfl
@[simp] theorem State.modChain_drumImages (s : State) (f : Chain → Chain) : (s.modChain f).drumImages = s.drumImages := rfl
@[simp] theorem State.modChain_domeImages (s : State) (f : Chain → Chain) : (s.modChain f).domeImages = s.domeImages := rfl
@[simp] theorem State.modChain_zoneLoad (s : State) (f : Chain → Chain) : (s.modChain f).zoneLoad = s.zoneLoad := rfl
@[simp] theorem State.modChain_pwr (s : State) (f : Chain → Chain) : (s.modChain f).pwr = s.pwr := rfl
@[simp] theorem State.modChain_ltimers (s : State) (f : Chain → Chain) : (s.modChain f).ltimers = s.ltimers := rfl
@[simp] theorem State.modChain_rlink (s : State) (f : Chain → Chain) : (s.modChain f).rlink = s.rlink := rfl
@[simp] theorem State.modChain_boot (s : State) (f : Chain → Chain) : (s.modChain f).boot = s.boot := rfl
@[simp] theorem State.modChain_sealed (s : State) (f : Chain → Chain) : (s.modChain f).sealed = s.sealed := rfl
@[simp] theorem State.modChain_chain (s : State) (f : Chain → Chain) : (s.modChain f).chain = f s.chain := rfl
@[simp] theorem State.modChain_hport (s : State) (f : Chain → Chain) : (s.modChain f).hport = s.hport := rfl
@[simp] theorem State.modChain_uarts (s : State) (f : Chain → Chain) : (s.modChain f).uarts = s.uarts := rfl
@[simp] theorem State.modChain_cans (s : State) (f : Chain → Chain) : (s.modChain f).cans = s.cans := rfl
@[simp] theorem State.modChain_nav (s : State) (f : Chain → Chain) : (s.modChain f).nav = s.nav := rfl
@[simp] theorem State.modChain_input (s : State) (f : Chain → Chain) : (s.modChain f).input = s.input := rfl
@[simp] theorem State.modChain_easel (s : State) (f : Chain → Chain) : (s.modChain f).easel = s.easel := rfl
@[simp] theorem State.modChain_trk (s : State) (f : Chain → Chain) : (s.modChain f).trk = s.trk := rfl
@[simp] theorem State.modChain_tp (s : State) (f : Chain → Chain) : (s.modChain f).tp = s.tp := rfl
@[simp] theorem State.modChain_cal (s : State) (f : Chain → Chain) : (s.modChain f).cal = s.cal := rfl

@[simp] theorem State.modKakel_pending (s : State) (l : Nat) (f : Lane → Lane) : (s.modKakel l f).pending = s.pending := rfl
@[simp] theorem State.modKakel_free (s : State) (l : Nat) (f : Lane → Lane) : (s.modKakel l f).free = s.free := rfl
@[simp] theorem State.modKakel_ranks (s : State) (l : Nat) (f : Lane → Lane) : (s.modKakel l f).ranks = s.ranks := rfl
@[simp] theorem State.modKakel_clk (s : State) (l : Nat) (f : Lane → Lane) : (s.modKakel l f).clk = s.clk := rfl
@[simp] theorem State.modKakel_cores (s : State) (l : Nat) (f : Lane → Lane) : (s.modKakel l f).cores = s.cores := rfl
@[simp] theorem State.modKakel_intc (s : State) (l : Nat) (f : Lane → Lane) : (s.modKakel l f).intc = s.intc := rfl
@[simp] theorem State.modKakel_timers (s : State) (l : Nat) (f : Lane → Lane) : (s.modKakel l f).timers = s.timers := rfl
@[simp] theorem State.modKakel_wdts (s : State) (l : Nat) (f : Lane → Lane) : (s.modKakel l f).wdts = s.wdts := rfl
@[simp] theorem State.modKakel_pmon (s : State) (l : Nat) (f : Lane → Lane) : (s.modKakel l f).pmon = s.pmon := rfl
@[simp] theorem State.modKakel_start (s : State) (l : Nat) (f : Lane → Lane) : (s.modKakel l f).start = s.start := rfl
@[simp] theorem State.modKakel_evt (s : State) (l : Nat) (f : Lane → Lane) : (s.modKakel l f).evt = s.evt := rfl
@[simp] theorem State.modKakel_evtHeld (s : State) (l : Nat) (f : Lane → Lane) : (s.modKakel l f).evtHeld = s.evtHeld := rfl
@[simp] theorem State.modKakel_mem (s : State) (l : Nat) (f : Lane → Lane) : (s.modKakel l f).mem = s.mem := rfl
@[simp] theorem State.modKakel_mmus (s : State) (l : Nat) (f : Lane → Lane) : (s.modKakel l f).mmus = s.mmus := rfl
@[simp] theorem State.modKakel_masters (s : State) (l : Nat) (f : Lane → Lane) : (s.modKakel l f).masters = s.masters := rfl
@[simp] theorem State.modKakel_dma (s : State) (l : Nat) (f : Lane → Lane) : (s.modKakel l f).dma = s.dma := rfl
@[simp] theorem State.modKakel_rings (s : State) (l : Nat) (f : Lane → Lane) : (s.modKakel l f).rings = s.rings := rfl
@[simp] theorem State.modKakel_interp (s : State) (l : Nat) (f : Lane → Lane) : (s.modKakel l f).interp = s.interp := rfl
@[simp] theorem State.modKakel_mbx (s : State) (l : Nat) (f : Lane → Lane) : (s.modKakel l f).mbx = s.mbx := rfl
@[simp] theorem State.modKakel_drumImages (s : State) (l : Nat) (f : Lane → Lane) : (s.modKakel l f).drumImages = s.drumImages := rfl
@[simp] theorem State.modKakel_domeImages (s : State) (l : Nat) (f : Lane → Lane) : (s.modKakel l f).domeImages = s.domeImages := rfl
@[simp] theorem State.modKakel_zoneLoad (s : State) (l : Nat) (f : Lane → Lane) : (s.modKakel l f).zoneLoad = s.zoneLoad := rfl
@[simp] theorem State.modKakel_pwr (s : State) (l : Nat) (f : Lane → Lane) : (s.modKakel l f).pwr = s.pwr := rfl
@[simp] theorem State.modKakel_ltimers (s : State) (l : Nat) (f : Lane → Lane) : (s.modKakel l f).ltimers = s.ltimers := rfl
@[simp] theorem State.modKakel_rlink (s : State) (l : Nat) (f : Lane → Lane) : (s.modKakel l f).rlink = s.rlink := rfl
@[simp] theorem State.modKakel_boot (s : State) (l : Nat) (f : Lane → Lane) : (s.modKakel l f).boot = s.boot := rfl
@[simp] theorem State.modKakel_sealed (s : State) (l : Nat) (f : Lane → Lane) : (s.modKakel l f).sealed = s.sealed := rfl
@[simp] theorem State.modKakel_hport (s : State) (l : Nat) (f : Lane → Lane) : (s.modKakel l f).hport = s.hport := rfl
@[simp] theorem State.modKakel_uarts (s : State) (l : Nat) (f : Lane → Lane) : (s.modKakel l f).uarts = s.uarts := rfl
@[simp] theorem State.modKakel_cans (s : State) (l : Nat) (f : Lane → Lane) : (s.modKakel l f).cans = s.cans := rfl
@[simp] theorem State.modKakel_nav (s : State) (l : Nat) (f : Lane → Lane) : (s.modKakel l f).nav = s.nav := rfl
@[simp] theorem State.modKakel_input (s : State) (l : Nat) (f : Lane → Lane) : (s.modKakel l f).input = s.input := rfl
@[simp] theorem State.modKakel_easel (s : State) (l : Nat) (f : Lane → Lane) : (s.modKakel l f).easel = s.easel := rfl
@[simp] theorem State.modKakel_trk (s : State) (l : Nat) (f : Lane → Lane) : (s.modKakel l f).trk = s.trk := rfl
@[simp] theorem State.modKakel_tp (s : State) (l : Nat) (f : Lane → Lane) : (s.modKakel l f).tp = s.tp := rfl
@[simp] theorem State.modKakel_cal (s : State) (l : Nat) (f : Lane → Lane) : (s.modKakel l f).cal = s.cal := rfl

@[simp] theorem State.modHport_pending (s : State) (f : Hport → Hport) : (s.modHport f).pending = s.pending := rfl
@[simp] theorem State.modHport_free (s : State) (f : Hport → Hport) : (s.modHport f).free = s.free := rfl
@[simp] theorem State.modHport_ranks (s : State) (f : Hport → Hport) : (s.modHport f).ranks = s.ranks := rfl
@[simp] theorem State.modHport_clk (s : State) (f : Hport → Hport) : (s.modHport f).clk = s.clk := rfl
@[simp] theorem State.modHport_cores (s : State) (f : Hport → Hport) : (s.modHport f).cores = s.cores := rfl
@[simp] theorem State.modHport_intc (s : State) (f : Hport → Hport) : (s.modHport f).intc = s.intc := rfl
@[simp] theorem State.modHport_timers (s : State) (f : Hport → Hport) : (s.modHport f).timers = s.timers := rfl
@[simp] theorem State.modHport_wdts (s : State) (f : Hport → Hport) : (s.modHport f).wdts = s.wdts := rfl
@[simp] theorem State.modHport_pmon (s : State) (f : Hport → Hport) : (s.modHport f).pmon = s.pmon := rfl
@[simp] theorem State.modHport_start (s : State) (f : Hport → Hport) : (s.modHport f).start = s.start := rfl
@[simp] theorem State.modHport_evt (s : State) (f : Hport → Hport) : (s.modHport f).evt = s.evt := rfl
@[simp] theorem State.modHport_evtHeld (s : State) (f : Hport → Hport) : (s.modHport f).evtHeld = s.evtHeld := rfl
@[simp] theorem State.modHport_mem (s : State) (f : Hport → Hport) : (s.modHport f).mem = s.mem := rfl
@[simp] theorem State.modHport_mmus (s : State) (f : Hport → Hport) : (s.modHport f).mmus = s.mmus := rfl
@[simp] theorem State.modHport_masters (s : State) (f : Hport → Hport) : (s.modHport f).masters = s.masters := rfl
@[simp] theorem State.modHport_dma (s : State) (f : Hport → Hport) : (s.modHport f).dma = s.dma := rfl
@[simp] theorem State.modHport_rings (s : State) (f : Hport → Hport) : (s.modHport f).rings = s.rings := rfl
@[simp] theorem State.modHport_interp (s : State) (f : Hport → Hport) : (s.modHport f).interp = s.interp := rfl
@[simp] theorem State.modHport_mbx (s : State) (f : Hport → Hport) : (s.modHport f).mbx = s.mbx := rfl
@[simp] theorem State.modHport_drumImages (s : State) (f : Hport → Hport) : (s.modHport f).drumImages = s.drumImages := rfl
@[simp] theorem State.modHport_domeImages (s : State) (f : Hport → Hport) : (s.modHport f).domeImages = s.domeImages := rfl
@[simp] theorem State.modHport_zoneLoad (s : State) (f : Hport → Hport) : (s.modHport f).zoneLoad = s.zoneLoad := rfl
@[simp] theorem State.modHport_pwr (s : State) (f : Hport → Hport) : (s.modHport f).pwr = s.pwr := rfl
@[simp] theorem State.modHport_ltimers (s : State) (f : Hport → Hport) : (s.modHport f).ltimers = s.ltimers := rfl
@[simp] theorem State.modHport_rlink (s : State) (f : Hport → Hport) : (s.modHport f).rlink = s.rlink := rfl
@[simp] theorem State.modHport_boot (s : State) (f : Hport → Hport) : (s.modHport f).boot = s.boot := rfl
@[simp] theorem State.modHport_sealed (s : State) (f : Hport → Hport) : (s.modHport f).sealed = s.sealed := rfl
@[simp] theorem State.modHport_chain (s : State) (f : Hport → Hport) : (s.modHport f).chain = s.chain := rfl
@[simp] theorem State.modHport_hport (s : State) (f : Hport → Hport) : (s.modHport f).hport = f s.hport := rfl
@[simp] theorem State.modHport_uarts (s : State) (f : Hport → Hport) : (s.modHport f).uarts = s.uarts := rfl
@[simp] theorem State.modHport_cans (s : State) (f : Hport → Hport) : (s.modHport f).cans = s.cans := rfl
@[simp] theorem State.modHport_nav (s : State) (f : Hport → Hport) : (s.modHport f).nav = s.nav := rfl
@[simp] theorem State.modHport_input (s : State) (f : Hport → Hport) : (s.modHport f).input = s.input := rfl
@[simp] theorem State.modHport_easel (s : State) (f : Hport → Hport) : (s.modHport f).easel = s.easel := rfl
@[simp] theorem State.modHport_trk (s : State) (f : Hport → Hport) : (s.modHport f).trk = s.trk := rfl
@[simp] theorem State.modHport_tp (s : State) (f : Hport → Hport) : (s.modHport f).tp = s.tp := rfl
@[simp] theorem State.modHport_cal (s : State) (f : Hport → Hport) : (s.modHport f).cal = s.cal := rfl

@[simp] theorem State.modEpochs_pending (s : State) (f : Epochs → Epochs) : (s.modEpochs f).pending = s.pending := rfl
@[simp] theorem State.modEpochs_free (s : State) (f : Epochs → Epochs) : (s.modEpochs f).free = s.free := rfl
@[simp] theorem State.modEpochs_ranks (s : State) (f : Epochs → Epochs) : (s.modEpochs f).ranks = s.ranks := rfl
@[simp] theorem State.modEpochs_clk (s : State) (f : Epochs → Epochs) : (s.modEpochs f).clk = s.clk := rfl
@[simp] theorem State.modEpochs_cores (s : State) (f : Epochs → Epochs) : (s.modEpochs f).cores = s.cores := rfl
@[simp] theorem State.modEpochs_intc (s : State) (f : Epochs → Epochs) : (s.modEpochs f).intc = s.intc := rfl
@[simp] theorem State.modEpochs_timers (s : State) (f : Epochs → Epochs) : (s.modEpochs f).timers = s.timers := rfl
@[simp] theorem State.modEpochs_wdts (s : State) (f : Epochs → Epochs) : (s.modEpochs f).wdts = s.wdts := rfl
@[simp] theorem State.modEpochs_pmon (s : State) (f : Epochs → Epochs) : (s.modEpochs f).pmon = s.pmon := rfl
@[simp] theorem State.modEpochs_start (s : State) (f : Epochs → Epochs) : (s.modEpochs f).start = s.start := rfl
@[simp] theorem State.modEpochs_evt (s : State) (f : Epochs → Epochs) : (s.modEpochs f).evt = s.evt := rfl
@[simp] theorem State.modEpochs_evtHeld (s : State) (f : Epochs → Epochs) : (s.modEpochs f).evtHeld = s.evtHeld := rfl
@[simp] theorem State.modEpochs_mem (s : State) (f : Epochs → Epochs) : (s.modEpochs f).mem = s.mem := rfl
@[simp] theorem State.modEpochs_mmus (s : State) (f : Epochs → Epochs) : (s.modEpochs f).mmus = s.mmus := rfl
@[simp] theorem State.modEpochs_masters (s : State) (f : Epochs → Epochs) : (s.modEpochs f).masters = s.masters := rfl
@[simp] theorem State.modEpochs_dma (s : State) (f : Epochs → Epochs) : (s.modEpochs f).dma = s.dma := rfl
@[simp] theorem State.modEpochs_rings (s : State) (f : Epochs → Epochs) : (s.modEpochs f).rings = s.rings := rfl
@[simp] theorem State.modEpochs_interp (s : State) (f : Epochs → Epochs) : (s.modEpochs f).interp = s.interp := rfl
@[simp] theorem State.modEpochs_mbx (s : State) (f : Epochs → Epochs) : (s.modEpochs f).mbx = s.mbx := rfl
@[simp] theorem State.modEpochs_drumImages (s : State) (f : Epochs → Epochs) : (s.modEpochs f).drumImages = s.drumImages := rfl
@[simp] theorem State.modEpochs_domeImages (s : State) (f : Epochs → Epochs) : (s.modEpochs f).domeImages = s.domeImages := rfl
@[simp] theorem State.modEpochs_zoneLoad (s : State) (f : Epochs → Epochs) : (s.modEpochs f).zoneLoad = s.zoneLoad := rfl
@[simp] theorem State.modEpochs_pwr (s : State) (f : Epochs → Epochs) : (s.modEpochs f).pwr = s.pwr := rfl
@[simp] theorem State.modEpochs_ltimers (s : State) (f : Epochs → Epochs) : (s.modEpochs f).ltimers = s.ltimers := rfl
@[simp] theorem State.modEpochs_rlink (s : State) (f : Epochs → Epochs) : (s.modEpochs f).rlink = s.rlink := rfl
@[simp] theorem State.modEpochs_boot (s : State) (f : Epochs → Epochs) : (s.modEpochs f).boot = s.boot := rfl
@[simp] theorem State.modEpochs_sealed (s : State) (f : Epochs → Epochs) : (s.modEpochs f).sealed = s.sealed := rfl
@[simp] theorem State.modEpochs_chain (s : State) (f : Epochs → Epochs) : (s.modEpochs f).chain = s.chain := rfl
@[simp] theorem State.modEpochs_hport (s : State) (f : Epochs → Epochs) : (s.modEpochs f).hport = s.hport := rfl
@[simp] theorem State.modEpochs_uarts (s : State) (f : Epochs → Epochs) : (s.modEpochs f).uarts = s.uarts := rfl
@[simp] theorem State.modEpochs_cans (s : State) (f : Epochs → Epochs) : (s.modEpochs f).cans = s.cans := rfl
@[simp] theorem State.modEpochs_nav (s : State) (f : Epochs → Epochs) : (s.modEpochs f).nav = s.nav := rfl
@[simp] theorem State.modEpochs_input (s : State) (f : Epochs → Epochs) : (s.modEpochs f).input = s.input := rfl
@[simp] theorem State.modEpochs_easel (s : State) (f : Epochs → Epochs) : (s.modEpochs f).easel = s.easel := rfl
@[simp] theorem State.modEpochs_tp (s : State) (f : Epochs → Epochs) : (s.modEpochs f).tp = s.tp := rfl
@[simp] theorem State.modEpochs_cal (s : State) (f : Epochs → Epochs) : (s.modEpochs f).cal = s.cal := rfl

@[simp] theorem State.modMmu_pending (s : State) (n : Nat) (f : Mmu → Mmu) : (s.modMmu n f).pending = s.pending := rfl
@[simp] theorem State.modMmu_free (s : State) (n : Nat) (f : Mmu → Mmu) : (s.modMmu n f).free = s.free := rfl
@[simp] theorem State.modMmu_ranks (s : State) (n : Nat) (f : Mmu → Mmu) : (s.modMmu n f).ranks = s.ranks := rfl
@[simp] theorem State.modMmu_clk (s : State) (n : Nat) (f : Mmu → Mmu) : (s.modMmu n f).clk = s.clk := rfl
@[simp] theorem State.modMmu_cores (s : State) (n : Nat) (f : Mmu → Mmu) : (s.modMmu n f).cores = s.cores := rfl
@[simp] theorem State.modMmu_intc (s : State) (n : Nat) (f : Mmu → Mmu) : (s.modMmu n f).intc = s.intc := rfl
@[simp] theorem State.modMmu_timers (s : State) (n : Nat) (f : Mmu → Mmu) : (s.modMmu n f).timers = s.timers := rfl
@[simp] theorem State.modMmu_wdts (s : State) (n : Nat) (f : Mmu → Mmu) : (s.modMmu n f).wdts = s.wdts := rfl
@[simp] theorem State.modMmu_pmon (s : State) (n : Nat) (f : Mmu → Mmu) : (s.modMmu n f).pmon = s.pmon := rfl
@[simp] theorem State.modMmu_start (s : State) (n : Nat) (f : Mmu → Mmu) : (s.modMmu n f).start = s.start := rfl
@[simp] theorem State.modMmu_evt (s : State) (n : Nat) (f : Mmu → Mmu) : (s.modMmu n f).evt = s.evt := rfl
@[simp] theorem State.modMmu_evtHeld (s : State) (n : Nat) (f : Mmu → Mmu) : (s.modMmu n f).evtHeld = s.evtHeld := rfl
@[simp] theorem State.modMmu_mem (s : State) (n : Nat) (f : Mmu → Mmu) : (s.modMmu n f).mem = s.mem := rfl
@[simp] theorem State.modMmu_mmus (s : State) (n : Nat) (f : Mmu → Mmu) : (s.modMmu n f).mmus = vmod s.mmus n f := rfl
@[simp] theorem State.modMmu_masters (s : State) (n : Nat) (f : Mmu → Mmu) : (s.modMmu n f).masters = s.masters := rfl
@[simp] theorem State.modMmu_dma (s : State) (n : Nat) (f : Mmu → Mmu) : (s.modMmu n f).dma = s.dma := rfl
@[simp] theorem State.modMmu_rings (s : State) (n : Nat) (f : Mmu → Mmu) : (s.modMmu n f).rings = s.rings := rfl
@[simp] theorem State.modMmu_interp (s : State) (n : Nat) (f : Mmu → Mmu) : (s.modMmu n f).interp = s.interp := rfl
@[simp] theorem State.modMmu_mbx (s : State) (n : Nat) (f : Mmu → Mmu) : (s.modMmu n f).mbx = s.mbx := rfl
@[simp] theorem State.modMmu_drumImages (s : State) (n : Nat) (f : Mmu → Mmu) : (s.modMmu n f).drumImages = s.drumImages := rfl
@[simp] theorem State.modMmu_domeImages (s : State) (n : Nat) (f : Mmu → Mmu) : (s.modMmu n f).domeImages = s.domeImages := rfl
@[simp] theorem State.modMmu_zoneLoad (s : State) (n : Nat) (f : Mmu → Mmu) : (s.modMmu n f).zoneLoad = s.zoneLoad := rfl
@[simp] theorem State.modMmu_pwr (s : State) (n : Nat) (f : Mmu → Mmu) : (s.modMmu n f).pwr = s.pwr := rfl
@[simp] theorem State.modMmu_ltimers (s : State) (n : Nat) (f : Mmu → Mmu) : (s.modMmu n f).ltimers = s.ltimers := rfl
@[simp] theorem State.modMmu_rlink (s : State) (n : Nat) (f : Mmu → Mmu) : (s.modMmu n f).rlink = s.rlink := rfl
@[simp] theorem State.modMmu_boot (s : State) (n : Nat) (f : Mmu → Mmu) : (s.modMmu n f).boot = s.boot := rfl
@[simp] theorem State.modMmu_sealed (s : State) (n : Nat) (f : Mmu → Mmu) : (s.modMmu n f).sealed = s.sealed := rfl
@[simp] theorem State.modMmu_chain (s : State) (n : Nat) (f : Mmu → Mmu) : (s.modMmu n f).chain = s.chain := rfl
@[simp] theorem State.modMmu_hport (s : State) (n : Nat) (f : Mmu → Mmu) : (s.modMmu n f).hport = s.hport := rfl
@[simp] theorem State.modMmu_uarts (s : State) (n : Nat) (f : Mmu → Mmu) : (s.modMmu n f).uarts = s.uarts := rfl
@[simp] theorem State.modMmu_cans (s : State) (n : Nat) (f : Mmu → Mmu) : (s.modMmu n f).cans = s.cans := rfl
@[simp] theorem State.modMmu_nav (s : State) (n : Nat) (f : Mmu → Mmu) : (s.modMmu n f).nav = s.nav := rfl
@[simp] theorem State.modMmu_input (s : State) (n : Nat) (f : Mmu → Mmu) : (s.modMmu n f).input = s.input := rfl
@[simp] theorem State.modMmu_easel (s : State) (n : Nat) (f : Mmu → Mmu) : (s.modMmu n f).easel = s.easel := rfl
@[simp] theorem State.modMmu_trk (s : State) (n : Nat) (f : Mmu → Mmu) : (s.modMmu n f).trk = s.trk := rfl
@[simp] theorem State.modMmu_tp (s : State) (n : Nat) (f : Mmu → Mmu) : (s.modMmu n f).tp = s.tp := rfl
@[simp] theorem State.modMmu_cal (s : State) (n : Nat) (f : Mmu → Mmu) : (s.modMmu n f).cal = s.cal := rfl

@[simp] theorem State.modCore_pending (s : State) (c : Nat) (f : Core → Core) : (s.modCore c f).pending = s.pending := rfl
@[simp] theorem State.modCore_free (s : State) (c : Nat) (f : Core → Core) : (s.modCore c f).free = s.free := rfl
@[simp] theorem State.modCore_ranks (s : State) (c : Nat) (f : Core → Core) : (s.modCore c f).ranks = s.ranks := rfl
@[simp] theorem State.modCore_clk (s : State) (c : Nat) (f : Core → Core) : (s.modCore c f).clk = s.clk := rfl
@[simp] theorem State.modCore_cores (s : State) (c : Nat) (f : Core → Core) : (s.modCore c f).cores = vmod s.cores c f := rfl
@[simp] theorem State.modCore_intc (s : State) (c : Nat) (f : Core → Core) : (s.modCore c f).intc = s.intc := rfl
@[simp] theorem State.modCore_timers (s : State) (c : Nat) (f : Core → Core) : (s.modCore c f).timers = s.timers := rfl
@[simp] theorem State.modCore_wdts (s : State) (c : Nat) (f : Core → Core) : (s.modCore c f).wdts = s.wdts := rfl
@[simp] theorem State.modCore_pmon (s : State) (c : Nat) (f : Core → Core) : (s.modCore c f).pmon = s.pmon := rfl
@[simp] theorem State.modCore_start (s : State) (c : Nat) (f : Core → Core) : (s.modCore c f).start = s.start := rfl
@[simp] theorem State.modCore_evt (s : State) (c : Nat) (f : Core → Core) : (s.modCore c f).evt = s.evt := rfl
@[simp] theorem State.modCore_evtHeld (s : State) (c : Nat) (f : Core → Core) : (s.modCore c f).evtHeld = s.evtHeld := rfl
@[simp] theorem State.modCore_mem (s : State) (c : Nat) (f : Core → Core) : (s.modCore c f).mem = s.mem := rfl
@[simp] theorem State.modCore_mmus (s : State) (c : Nat) (f : Core → Core) : (s.modCore c f).mmus = s.mmus := rfl
@[simp] theorem State.modCore_masters (s : State) (c : Nat) (f : Core → Core) : (s.modCore c f).masters = s.masters := rfl
@[simp] theorem State.modCore_dma (s : State) (c : Nat) (f : Core → Core) : (s.modCore c f).dma = s.dma := rfl
@[simp] theorem State.modCore_rings (s : State) (c : Nat) (f : Core → Core) : (s.modCore c f).rings = s.rings := rfl
@[simp] theorem State.modCore_interp (s : State) (c : Nat) (f : Core → Core) : (s.modCore c f).interp = s.interp := rfl
@[simp] theorem State.modCore_mbx (s : State) (c : Nat) (f : Core → Core) : (s.modCore c f).mbx = s.mbx := rfl
@[simp] theorem State.modCore_drumImages (s : State) (c : Nat) (f : Core → Core) : (s.modCore c f).drumImages = s.drumImages := rfl
@[simp] theorem State.modCore_domeImages (s : State) (c : Nat) (f : Core → Core) : (s.modCore c f).domeImages = s.domeImages := rfl
@[simp] theorem State.modCore_zoneLoad (s : State) (c : Nat) (f : Core → Core) : (s.modCore c f).zoneLoad = s.zoneLoad := rfl
@[simp] theorem State.modCore_pwr (s : State) (c : Nat) (f : Core → Core) : (s.modCore c f).pwr = s.pwr := rfl
@[simp] theorem State.modCore_ltimers (s : State) (c : Nat) (f : Core → Core) : (s.modCore c f).ltimers = s.ltimers := rfl
@[simp] theorem State.modCore_rlink (s : State) (c : Nat) (f : Core → Core) : (s.modCore c f).rlink = s.rlink := rfl
@[simp] theorem State.modCore_boot (s : State) (c : Nat) (f : Core → Core) : (s.modCore c f).boot = s.boot := rfl
@[simp] theorem State.modCore_sealed (s : State) (c : Nat) (f : Core → Core) : (s.modCore c f).sealed = s.sealed := rfl
@[simp] theorem State.modCore_chain (s : State) (c : Nat) (f : Core → Core) : (s.modCore c f).chain = s.chain := rfl
@[simp] theorem State.modCore_hport (s : State) (c : Nat) (f : Core → Core) : (s.modCore c f).hport = s.hport := rfl
@[simp] theorem State.modCore_uarts (s : State) (c : Nat) (f : Core → Core) : (s.modCore c f).uarts = s.uarts := rfl
@[simp] theorem State.modCore_cans (s : State) (c : Nat) (f : Core → Core) : (s.modCore c f).cans = s.cans := rfl
@[simp] theorem State.modCore_nav (s : State) (c : Nat) (f : Core → Core) : (s.modCore c f).nav = s.nav := rfl
@[simp] theorem State.modCore_input (s : State) (c : Nat) (f : Core → Core) : (s.modCore c f).input = s.input := rfl
@[simp] theorem State.modCore_easel (s : State) (c : Nat) (f : Core → Core) : (s.modCore c f).easel = s.easel := rfl
@[simp] theorem State.modCore_trk (s : State) (c : Nat) (f : Core → Core) : (s.modCore c f).trk = s.trk := rfl
@[simp] theorem State.modCore_tp (s : State) (c : Nat) (f : Core → Core) : (s.modCore c f).tp = s.tp := rfl
@[simp] theorem State.modCore_cal (s : State) (c : Nat) (f : Core → Core) : (s.modCore c f).cal = s.cal := rfl

@[simp] theorem State.modNav_pending (s : State) (f : Nav → Nav) : (s.modNav f).pending = s.pending := rfl
@[simp] theorem State.modNav_free (s : State) (f : Nav → Nav) : (s.modNav f).free = s.free := rfl
@[simp] theorem State.modNav_ranks (s : State) (f : Nav → Nav) : (s.modNav f).ranks = s.ranks := rfl
@[simp] theorem State.modNav_clk (s : State) (f : Nav → Nav) : (s.modNav f).clk = s.clk := rfl
@[simp] theorem State.modNav_cores (s : State) (f : Nav → Nav) : (s.modNav f).cores = s.cores := rfl
@[simp] theorem State.modNav_intc (s : State) (f : Nav → Nav) : (s.modNav f).intc = s.intc := rfl
@[simp] theorem State.modNav_timers (s : State) (f : Nav → Nav) : (s.modNav f).timers = s.timers := rfl
@[simp] theorem State.modNav_wdts (s : State) (f : Nav → Nav) : (s.modNav f).wdts = s.wdts := rfl
@[simp] theorem State.modNav_pmon (s : State) (f : Nav → Nav) : (s.modNav f).pmon = s.pmon := rfl
@[simp] theorem State.modNav_start (s : State) (f : Nav → Nav) : (s.modNav f).start = s.start := rfl
@[simp] theorem State.modNav_evt (s : State) (f : Nav → Nav) : (s.modNav f).evt = s.evt := rfl
@[simp] theorem State.modNav_evtHeld (s : State) (f : Nav → Nav) : (s.modNav f).evtHeld = s.evtHeld := rfl
@[simp] theorem State.modNav_mem (s : State) (f : Nav → Nav) : (s.modNav f).mem = s.mem := rfl
@[simp] theorem State.modNav_mmus (s : State) (f : Nav → Nav) : (s.modNav f).mmus = s.mmus := rfl
@[simp] theorem State.modNav_masters (s : State) (f : Nav → Nav) : (s.modNav f).masters = s.masters := rfl
@[simp] theorem State.modNav_dma (s : State) (f : Nav → Nav) : (s.modNav f).dma = s.dma := rfl
@[simp] theorem State.modNav_rings (s : State) (f : Nav → Nav) : (s.modNav f).rings = s.rings := rfl
@[simp] theorem State.modNav_interp (s : State) (f : Nav → Nav) : (s.modNav f).interp = s.interp := rfl
@[simp] theorem State.modNav_mbx (s : State) (f : Nav → Nav) : (s.modNav f).mbx = s.mbx := rfl
@[simp] theorem State.modNav_drumImages (s : State) (f : Nav → Nav) : (s.modNav f).drumImages = s.drumImages := rfl
@[simp] theorem State.modNav_domeImages (s : State) (f : Nav → Nav) : (s.modNav f).domeImages = s.domeImages := rfl
@[simp] theorem State.modNav_zoneLoad (s : State) (f : Nav → Nav) : (s.modNav f).zoneLoad = s.zoneLoad := rfl
@[simp] theorem State.modNav_pwr (s : State) (f : Nav → Nav) : (s.modNav f).pwr = s.pwr := rfl
@[simp] theorem State.modNav_ltimers (s : State) (f : Nav → Nav) : (s.modNav f).ltimers = s.ltimers := rfl
@[simp] theorem State.modNav_rlink (s : State) (f : Nav → Nav) : (s.modNav f).rlink = s.rlink := rfl
@[simp] theorem State.modNav_boot (s : State) (f : Nav → Nav) : (s.modNav f).boot = s.boot := rfl
@[simp] theorem State.modNav_sealed (s : State) (f : Nav → Nav) : (s.modNav f).sealed = s.sealed := rfl
@[simp] theorem State.modNav_chain (s : State) (f : Nav → Nav) : (s.modNav f).chain = s.chain := rfl
@[simp] theorem State.modNav_hport (s : State) (f : Nav → Nav) : (s.modNav f).hport = s.hport := rfl
@[simp] theorem State.modNav_uarts (s : State) (f : Nav → Nav) : (s.modNav f).uarts = s.uarts := rfl
@[simp] theorem State.modNav_cans (s : State) (f : Nav → Nav) : (s.modNav f).cans = s.cans := rfl
@[simp] theorem State.modNav_nav (s : State) (f : Nav → Nav) : (s.modNav f).nav = f s.nav := rfl
@[simp] theorem State.modNav_input (s : State) (f : Nav → Nav) : (s.modNav f).input = s.input := rfl
@[simp] theorem State.modNav_easel (s : State) (f : Nav → Nav) : (s.modNav f).easel = s.easel := rfl
@[simp] theorem State.modNav_trk (s : State) (f : Nav → Nav) : (s.modNav f).trk = s.trk := rfl
@[simp] theorem State.modNav_tp (s : State) (f : Nav → Nav) : (s.modNav f).tp = s.tp := rfl
@[simp] theorem State.modNav_cal (s : State) (f : Nav → Nav) : (s.modNav f).cal = s.cal := rfl

@[simp] theorem State.modRing_pending (s : State) (n : Nat) (f : Ring → Ring) : (s.modRing n f).pending = s.pending := rfl
@[simp] theorem State.modRing_free (s : State) (n : Nat) (f : Ring → Ring) : (s.modRing n f).free = s.free := rfl
@[simp] theorem State.modRing_ranks (s : State) (n : Nat) (f : Ring → Ring) : (s.modRing n f).ranks = s.ranks := rfl
@[simp] theorem State.modRing_clk (s : State) (n : Nat) (f : Ring → Ring) : (s.modRing n f).clk = s.clk := rfl
@[simp] theorem State.modRing_cores (s : State) (n : Nat) (f : Ring → Ring) : (s.modRing n f).cores = s.cores := rfl
@[simp] theorem State.modRing_intc (s : State) (n : Nat) (f : Ring → Ring) : (s.modRing n f).intc = s.intc := rfl
@[simp] theorem State.modRing_timers (s : State) (n : Nat) (f : Ring → Ring) : (s.modRing n f).timers = s.timers := rfl
@[simp] theorem State.modRing_wdts (s : State) (n : Nat) (f : Ring → Ring) : (s.modRing n f).wdts = s.wdts := rfl
@[simp] theorem State.modRing_pmon (s : State) (n : Nat) (f : Ring → Ring) : (s.modRing n f).pmon = s.pmon := rfl
@[simp] theorem State.modRing_start (s : State) (n : Nat) (f : Ring → Ring) : (s.modRing n f).start = s.start := rfl
@[simp] theorem State.modRing_evt (s : State) (n : Nat) (f : Ring → Ring) : (s.modRing n f).evt = s.evt := rfl
@[simp] theorem State.modRing_evtHeld (s : State) (n : Nat) (f : Ring → Ring) : (s.modRing n f).evtHeld = s.evtHeld := rfl
@[simp] theorem State.modRing_mem (s : State) (n : Nat) (f : Ring → Ring) : (s.modRing n f).mem = s.mem := rfl
@[simp] theorem State.modRing_mmus (s : State) (n : Nat) (f : Ring → Ring) : (s.modRing n f).mmus = s.mmus := rfl
@[simp] theorem State.modRing_masters (s : State) (n : Nat) (f : Ring → Ring) : (s.modRing n f).masters = s.masters := rfl
@[simp] theorem State.modRing_dma (s : State) (n : Nat) (f : Ring → Ring) : (s.modRing n f).dma = s.dma := rfl
@[simp] theorem State.modRing_rings (s : State) (n : Nat) (f : Ring → Ring) : (s.modRing n f).rings = vmod s.rings n f := rfl
@[simp] theorem State.modRing_interp (s : State) (n : Nat) (f : Ring → Ring) : (s.modRing n f).interp = s.interp := rfl
@[simp] theorem State.modRing_mbx (s : State) (n : Nat) (f : Ring → Ring) : (s.modRing n f).mbx = s.mbx := rfl
@[simp] theorem State.modRing_drumImages (s : State) (n : Nat) (f : Ring → Ring) : (s.modRing n f).drumImages = s.drumImages := rfl
@[simp] theorem State.modRing_domeImages (s : State) (n : Nat) (f : Ring → Ring) : (s.modRing n f).domeImages = s.domeImages := rfl
@[simp] theorem State.modRing_zoneLoad (s : State) (n : Nat) (f : Ring → Ring) : (s.modRing n f).zoneLoad = s.zoneLoad := rfl
@[simp] theorem State.modRing_pwr (s : State) (n : Nat) (f : Ring → Ring) : (s.modRing n f).pwr = s.pwr := rfl
@[simp] theorem State.modRing_ltimers (s : State) (n : Nat) (f : Ring → Ring) : (s.modRing n f).ltimers = s.ltimers := rfl
@[simp] theorem State.modRing_rlink (s : State) (n : Nat) (f : Ring → Ring) : (s.modRing n f).rlink = s.rlink := rfl
@[simp] theorem State.modRing_boot (s : State) (n : Nat) (f : Ring → Ring) : (s.modRing n f).boot = s.boot := rfl
@[simp] theorem State.modRing_sealed (s : State) (n : Nat) (f : Ring → Ring) : (s.modRing n f).sealed = s.sealed := rfl
@[simp] theorem State.modRing_chain (s : State) (n : Nat) (f : Ring → Ring) : (s.modRing n f).chain = s.chain := rfl
@[simp] theorem State.modRing_hport (s : State) (n : Nat) (f : Ring → Ring) : (s.modRing n f).hport = s.hport := rfl
@[simp] theorem State.modRing_uarts (s : State) (n : Nat) (f : Ring → Ring) : (s.modRing n f).uarts = s.uarts := rfl
@[simp] theorem State.modRing_cans (s : State) (n : Nat) (f : Ring → Ring) : (s.modRing n f).cans = s.cans := rfl
@[simp] theorem State.modRing_nav (s : State) (n : Nat) (f : Ring → Ring) : (s.modRing n f).nav = s.nav := rfl
@[simp] theorem State.modRing_input (s : State) (n : Nat) (f : Ring → Ring) : (s.modRing n f).input = s.input := rfl
@[simp] theorem State.modRing_easel (s : State) (n : Nat) (f : Ring → Ring) : (s.modRing n f).easel = s.easel := rfl
@[simp] theorem State.modRing_trk (s : State) (n : Nat) (f : Ring → Ring) : (s.modRing n f).trk = s.trk := rfl
@[simp] theorem State.modRing_tp (s : State) (n : Nat) (f : Ring → Ring) : (s.modRing n f).tp = s.tp := rfl
@[simp] theorem State.modRing_cal (s : State) (n : Nat) (f : Ring → Ring) : (s.modRing n f).cal = s.cal := rfl

@[simp] theorem State.modUart_pending (s : State) (u : Nat) (f : Uart → Uart) : (s.modUart u f).pending = s.pending := rfl
@[simp] theorem State.modUart_free (s : State) (u : Nat) (f : Uart → Uart) : (s.modUart u f).free = s.free := rfl
@[simp] theorem State.modUart_ranks (s : State) (u : Nat) (f : Uart → Uart) : (s.modUart u f).ranks = s.ranks := rfl
@[simp] theorem State.modUart_clk (s : State) (u : Nat) (f : Uart → Uart) : (s.modUart u f).clk = s.clk := rfl
@[simp] theorem State.modUart_cores (s : State) (u : Nat) (f : Uart → Uart) : (s.modUart u f).cores = s.cores := rfl
@[simp] theorem State.modUart_intc (s : State) (u : Nat) (f : Uart → Uart) : (s.modUart u f).intc = s.intc := rfl
@[simp] theorem State.modUart_timers (s : State) (u : Nat) (f : Uart → Uart) : (s.modUart u f).timers = s.timers := rfl
@[simp] theorem State.modUart_wdts (s : State) (u : Nat) (f : Uart → Uart) : (s.modUart u f).wdts = s.wdts := rfl
@[simp] theorem State.modUart_pmon (s : State) (u : Nat) (f : Uart → Uart) : (s.modUart u f).pmon = s.pmon := rfl
@[simp] theorem State.modUart_start (s : State) (u : Nat) (f : Uart → Uart) : (s.modUart u f).start = s.start := rfl
@[simp] theorem State.modUart_evt (s : State) (u : Nat) (f : Uart → Uart) : (s.modUart u f).evt = s.evt := rfl
@[simp] theorem State.modUart_evtHeld (s : State) (u : Nat) (f : Uart → Uart) : (s.modUart u f).evtHeld = s.evtHeld := rfl
@[simp] theorem State.modUart_mem (s : State) (u : Nat) (f : Uart → Uart) : (s.modUart u f).mem = s.mem := rfl
@[simp] theorem State.modUart_mmus (s : State) (u : Nat) (f : Uart → Uart) : (s.modUart u f).mmus = s.mmus := rfl
@[simp] theorem State.modUart_masters (s : State) (u : Nat) (f : Uart → Uart) : (s.modUart u f).masters = s.masters := rfl
@[simp] theorem State.modUart_dma (s : State) (u : Nat) (f : Uart → Uart) : (s.modUart u f).dma = s.dma := rfl
@[simp] theorem State.modUart_rings (s : State) (u : Nat) (f : Uart → Uart) : (s.modUart u f).rings = s.rings := rfl
@[simp] theorem State.modUart_interp (s : State) (u : Nat) (f : Uart → Uart) : (s.modUart u f).interp = s.interp := rfl
@[simp] theorem State.modUart_mbx (s : State) (u : Nat) (f : Uart → Uart) : (s.modUart u f).mbx = s.mbx := rfl
@[simp] theorem State.modUart_drumImages (s : State) (u : Nat) (f : Uart → Uart) : (s.modUart u f).drumImages = s.drumImages := rfl
@[simp] theorem State.modUart_domeImages (s : State) (u : Nat) (f : Uart → Uart) : (s.modUart u f).domeImages = s.domeImages := rfl
@[simp] theorem State.modUart_zoneLoad (s : State) (u : Nat) (f : Uart → Uart) : (s.modUart u f).zoneLoad = s.zoneLoad := rfl
@[simp] theorem State.modUart_pwr (s : State) (u : Nat) (f : Uart → Uart) : (s.modUart u f).pwr = s.pwr := rfl
@[simp] theorem State.modUart_ltimers (s : State) (u : Nat) (f : Uart → Uart) : (s.modUart u f).ltimers = s.ltimers := rfl
@[simp] theorem State.modUart_rlink (s : State) (u : Nat) (f : Uart → Uart) : (s.modUart u f).rlink = s.rlink := rfl
@[simp] theorem State.modUart_boot (s : State) (u : Nat) (f : Uart → Uart) : (s.modUart u f).boot = s.boot := rfl
@[simp] theorem State.modUart_sealed (s : State) (u : Nat) (f : Uart → Uart) : (s.modUart u f).sealed = s.sealed := rfl
@[simp] theorem State.modUart_chain (s : State) (u : Nat) (f : Uart → Uart) : (s.modUart u f).chain = s.chain := rfl
@[simp] theorem State.modUart_hport (s : State) (u : Nat) (f : Uart → Uart) : (s.modUart u f).hport = s.hport := rfl
@[simp] theorem State.modUart_uarts (s : State) (u : Nat) (f : Uart → Uart) : (s.modUart u f).uarts = vmod s.uarts u f := rfl
@[simp] theorem State.modUart_cans (s : State) (u : Nat) (f : Uart → Uart) : (s.modUart u f).cans = s.cans := rfl
@[simp] theorem State.modUart_nav (s : State) (u : Nat) (f : Uart → Uart) : (s.modUart u f).nav = s.nav := rfl
@[simp] theorem State.modUart_input (s : State) (u : Nat) (f : Uart → Uart) : (s.modUart u f).input = s.input := rfl
@[simp] theorem State.modUart_easel (s : State) (u : Nat) (f : Uart → Uart) : (s.modUart u f).easel = s.easel := rfl
@[simp] theorem State.modUart_trk (s : State) (u : Nat) (f : Uart → Uart) : (s.modUart u f).trk = s.trk := rfl
@[simp] theorem State.modUart_tp (s : State) (u : Nat) (f : Uart → Uart) : (s.modUart u f).tp = s.tp := rfl
@[simp] theorem State.modUart_cal (s : State) (u : Nat) (f : Uart → Uart) : (s.modUart u f).cal = s.cal := rfl

@[simp] theorem State.modCan_pending (s : State) (m : Nat) (f : Can → Can) : (s.modCan m f).pending = s.pending := rfl
@[simp] theorem State.modCan_free (s : State) (m : Nat) (f : Can → Can) : (s.modCan m f).free = s.free := rfl
@[simp] theorem State.modCan_ranks (s : State) (m : Nat) (f : Can → Can) : (s.modCan m f).ranks = s.ranks := rfl
@[simp] theorem State.modCan_clk (s : State) (m : Nat) (f : Can → Can) : (s.modCan m f).clk = s.clk := rfl
@[simp] theorem State.modCan_cores (s : State) (m : Nat) (f : Can → Can) : (s.modCan m f).cores = s.cores := rfl
@[simp] theorem State.modCan_intc (s : State) (m : Nat) (f : Can → Can) : (s.modCan m f).intc = s.intc := rfl
@[simp] theorem State.modCan_timers (s : State) (m : Nat) (f : Can → Can) : (s.modCan m f).timers = s.timers := rfl
@[simp] theorem State.modCan_wdts (s : State) (m : Nat) (f : Can → Can) : (s.modCan m f).wdts = s.wdts := rfl
@[simp] theorem State.modCan_pmon (s : State) (m : Nat) (f : Can → Can) : (s.modCan m f).pmon = s.pmon := rfl
@[simp] theorem State.modCan_start (s : State) (m : Nat) (f : Can → Can) : (s.modCan m f).start = s.start := rfl
@[simp] theorem State.modCan_evt (s : State) (m : Nat) (f : Can → Can) : (s.modCan m f).evt = s.evt := rfl
@[simp] theorem State.modCan_evtHeld (s : State) (m : Nat) (f : Can → Can) : (s.modCan m f).evtHeld = s.evtHeld := rfl
@[simp] theorem State.modCan_mem (s : State) (m : Nat) (f : Can → Can) : (s.modCan m f).mem = s.mem := rfl
@[simp] theorem State.modCan_mmus (s : State) (m : Nat) (f : Can → Can) : (s.modCan m f).mmus = s.mmus := rfl
@[simp] theorem State.modCan_masters (s : State) (m : Nat) (f : Can → Can) : (s.modCan m f).masters = s.masters := rfl
@[simp] theorem State.modCan_dma (s : State) (m : Nat) (f : Can → Can) : (s.modCan m f).dma = s.dma := rfl
@[simp] theorem State.modCan_rings (s : State) (m : Nat) (f : Can → Can) : (s.modCan m f).rings = s.rings := rfl
@[simp] theorem State.modCan_interp (s : State) (m : Nat) (f : Can → Can) : (s.modCan m f).interp = s.interp := rfl
@[simp] theorem State.modCan_mbx (s : State) (m : Nat) (f : Can → Can) : (s.modCan m f).mbx = s.mbx := rfl
@[simp] theorem State.modCan_drumImages (s : State) (m : Nat) (f : Can → Can) : (s.modCan m f).drumImages = s.drumImages := rfl
@[simp] theorem State.modCan_domeImages (s : State) (m : Nat) (f : Can → Can) : (s.modCan m f).domeImages = s.domeImages := rfl
@[simp] theorem State.modCan_zoneLoad (s : State) (m : Nat) (f : Can → Can) : (s.modCan m f).zoneLoad = s.zoneLoad := rfl
@[simp] theorem State.modCan_pwr (s : State) (m : Nat) (f : Can → Can) : (s.modCan m f).pwr = s.pwr := rfl
@[simp] theorem State.modCan_ltimers (s : State) (m : Nat) (f : Can → Can) : (s.modCan m f).ltimers = s.ltimers := rfl
@[simp] theorem State.modCan_rlink (s : State) (m : Nat) (f : Can → Can) : (s.modCan m f).rlink = s.rlink := rfl
@[simp] theorem State.modCan_boot (s : State) (m : Nat) (f : Can → Can) : (s.modCan m f).boot = s.boot := rfl
@[simp] theorem State.modCan_sealed (s : State) (m : Nat) (f : Can → Can) : (s.modCan m f).sealed = s.sealed := rfl
@[simp] theorem State.modCan_chain (s : State) (m : Nat) (f : Can → Can) : (s.modCan m f).chain = s.chain := rfl
@[simp] theorem State.modCan_hport (s : State) (m : Nat) (f : Can → Can) : (s.modCan m f).hport = s.hport := rfl
@[simp] theorem State.modCan_uarts (s : State) (m : Nat) (f : Can → Can) : (s.modCan m f).uarts = s.uarts := rfl
@[simp] theorem State.modCan_cans (s : State) (m : Nat) (f : Can → Can) : (s.modCan m f).cans = vmod s.cans m f := rfl
@[simp] theorem State.modCan_nav (s : State) (m : Nat) (f : Can → Can) : (s.modCan m f).nav = s.nav := rfl
@[simp] theorem State.modCan_input (s : State) (m : Nat) (f : Can → Can) : (s.modCan m f).input = s.input := rfl
@[simp] theorem State.modCan_easel (s : State) (m : Nat) (f : Can → Can) : (s.modCan m f).easel = s.easel := rfl
@[simp] theorem State.modCan_trk (s : State) (m : Nat) (f : Can → Can) : (s.modCan m f).trk = s.trk := rfl
@[simp] theorem State.modCan_tp (s : State) (m : Nat) (f : Can → Can) : (s.modCan m f).tp = s.tp := rfl
@[simp] theorem State.modCan_cal (s : State) (m : Nat) (f : Can → Can) : (s.modCan m f).cal = s.cal := rfl

@[simp] theorem State.modTp_pending (s : State) (f : Pulses → Pulses) : (s.modTp f).pending = s.pending := rfl
@[simp] theorem State.modTp_free (s : State) (f : Pulses → Pulses) : (s.modTp f).free = s.free := rfl
@[simp] theorem State.modTp_ranks (s : State) (f : Pulses → Pulses) : (s.modTp f).ranks = s.ranks := rfl
@[simp] theorem State.modTp_clk (s : State) (f : Pulses → Pulses) : (s.modTp f).clk = s.clk := rfl
@[simp] theorem State.modTp_cores (s : State) (f : Pulses → Pulses) : (s.modTp f).cores = s.cores := rfl
@[simp] theorem State.modTp_intc (s : State) (f : Pulses → Pulses) : (s.modTp f).intc = s.intc := rfl
@[simp] theorem State.modTp_timers (s : State) (f : Pulses → Pulses) : (s.modTp f).timers = s.timers := rfl
@[simp] theorem State.modTp_wdts (s : State) (f : Pulses → Pulses) : (s.modTp f).wdts = s.wdts := rfl
@[simp] theorem State.modTp_pmon (s : State) (f : Pulses → Pulses) : (s.modTp f).pmon = s.pmon := rfl
@[simp] theorem State.modTp_start (s : State) (f : Pulses → Pulses) : (s.modTp f).start = s.start := rfl
@[simp] theorem State.modTp_evt (s : State) (f : Pulses → Pulses) : (s.modTp f).evt = s.evt := rfl
@[simp] theorem State.modTp_evtHeld (s : State) (f : Pulses → Pulses) : (s.modTp f).evtHeld = s.evtHeld := rfl
@[simp] theorem State.modTp_mem (s : State) (f : Pulses → Pulses) : (s.modTp f).mem = s.mem := rfl
@[simp] theorem State.modTp_mmus (s : State) (f : Pulses → Pulses) : (s.modTp f).mmus = s.mmus := rfl
@[simp] theorem State.modTp_masters (s : State) (f : Pulses → Pulses) : (s.modTp f).masters = s.masters := rfl
@[simp] theorem State.modTp_dma (s : State) (f : Pulses → Pulses) : (s.modTp f).dma = s.dma := rfl
@[simp] theorem State.modTp_rings (s : State) (f : Pulses → Pulses) : (s.modTp f).rings = s.rings := rfl
@[simp] theorem State.modTp_interp (s : State) (f : Pulses → Pulses) : (s.modTp f).interp = s.interp := rfl
@[simp] theorem State.modTp_mbx (s : State) (f : Pulses → Pulses) : (s.modTp f).mbx = s.mbx := rfl
@[simp] theorem State.modTp_drumImages (s : State) (f : Pulses → Pulses) : (s.modTp f).drumImages = s.drumImages := rfl
@[simp] theorem State.modTp_domeImages (s : State) (f : Pulses → Pulses) : (s.modTp f).domeImages = s.domeImages := rfl
@[simp] theorem State.modTp_zoneLoad (s : State) (f : Pulses → Pulses) : (s.modTp f).zoneLoad = s.zoneLoad := rfl
@[simp] theorem State.modTp_pwr (s : State) (f : Pulses → Pulses) : (s.modTp f).pwr = s.pwr := rfl
@[simp] theorem State.modTp_ltimers (s : State) (f : Pulses → Pulses) : (s.modTp f).ltimers = s.ltimers := rfl
@[simp] theorem State.modTp_rlink (s : State) (f : Pulses → Pulses) : (s.modTp f).rlink = s.rlink := rfl
@[simp] theorem State.modTp_boot (s : State) (f : Pulses → Pulses) : (s.modTp f).boot = s.boot := rfl
@[simp] theorem State.modTp_sealed (s : State) (f : Pulses → Pulses) : (s.modTp f).sealed = s.sealed := rfl
@[simp] theorem State.modTp_chain (s : State) (f : Pulses → Pulses) : (s.modTp f).chain = s.chain := rfl
@[simp] theorem State.modTp_hport (s : State) (f : Pulses → Pulses) : (s.modTp f).hport = s.hport := rfl
@[simp] theorem State.modTp_uarts (s : State) (f : Pulses → Pulses) : (s.modTp f).uarts = s.uarts := rfl
@[simp] theorem State.modTp_cans (s : State) (f : Pulses → Pulses) : (s.modTp f).cans = s.cans := rfl
@[simp] theorem State.modTp_nav (s : State) (f : Pulses → Pulses) : (s.modTp f).nav = s.nav := rfl
@[simp] theorem State.modTp_input (s : State) (f : Pulses → Pulses) : (s.modTp f).input = s.input := rfl
@[simp] theorem State.modTp_easel (s : State) (f : Pulses → Pulses) : (s.modTp f).easel = s.easel := rfl
@[simp] theorem State.modTp_trk (s : State) (f : Pulses → Pulses) : (s.modTp f).trk = s.trk := rfl
@[simp] theorem State.modTp_tp (s : State) (f : Pulses → Pulses) : (s.modTp f).tp = f s.tp := rfl
@[simp] theorem State.modTp_cal (s : State) (f : Pulses → Pulses) : (s.modTp f).cal = s.cal := rfl

@[simp] theorem State.modGen_pending (s : State) (g : Nat) (f : Generator → Generator) : (s.modGen g f).pending = s.pending := rfl
@[simp] theorem State.modGen_free (s : State) (g : Nat) (f : Generator → Generator) : (s.modGen g f).free = s.free := rfl
@[simp] theorem State.modGen_ranks (s : State) (g : Nat) (f : Generator → Generator) : (s.modGen g f).ranks = s.ranks := rfl
@[simp] theorem State.modGen_clk (s : State) (g : Nat) (f : Generator → Generator) : (s.modGen g f).clk = s.clk := rfl
@[simp] theorem State.modGen_cores (s : State) (g : Nat) (f : Generator → Generator) : (s.modGen g f).cores = s.cores := rfl
@[simp] theorem State.modGen_intc (s : State) (g : Nat) (f : Generator → Generator) : (s.modGen g f).intc = s.intc := rfl
@[simp] theorem State.modGen_timers (s : State) (g : Nat) (f : Generator → Generator) : (s.modGen g f).timers = s.timers := rfl
@[simp] theorem State.modGen_wdts (s : State) (g : Nat) (f : Generator → Generator) : (s.modGen g f).wdts = s.wdts := rfl
@[simp] theorem State.modGen_pmon (s : State) (g : Nat) (f : Generator → Generator) : (s.modGen g f).pmon = s.pmon := rfl
@[simp] theorem State.modGen_start (s : State) (g : Nat) (f : Generator → Generator) : (s.modGen g f).start = s.start := rfl
@[simp] theorem State.modGen_evt (s : State) (g : Nat) (f : Generator → Generator) : (s.modGen g f).evt = s.evt := rfl
@[simp] theorem State.modGen_evtHeld (s : State) (g : Nat) (f : Generator → Generator) : (s.modGen g f).evtHeld = s.evtHeld := rfl
@[simp] theorem State.modGen_mem (s : State) (g : Nat) (f : Generator → Generator) : (s.modGen g f).mem = s.mem := rfl
@[simp] theorem State.modGen_mmus (s : State) (g : Nat) (f : Generator → Generator) : (s.modGen g f).mmus = s.mmus := rfl
@[simp] theorem State.modGen_masters (s : State) (g : Nat) (f : Generator → Generator) : (s.modGen g f).masters = s.masters := rfl
@[simp] theorem State.modGen_dma (s : State) (g : Nat) (f : Generator → Generator) : (s.modGen g f).dma = s.dma := rfl
@[simp] theorem State.modGen_rings (s : State) (g : Nat) (f : Generator → Generator) : (s.modGen g f).rings = s.rings := rfl
@[simp] theorem State.modGen_interp (s : State) (g : Nat) (f : Generator → Generator) : (s.modGen g f).interp = s.interp := rfl
@[simp] theorem State.modGen_mbx (s : State) (g : Nat) (f : Generator → Generator) : (s.modGen g f).mbx = s.mbx := rfl
@[simp] theorem State.modGen_drumImages (s : State) (g : Nat) (f : Generator → Generator) : (s.modGen g f).drumImages = s.drumImages := rfl
@[simp] theorem State.modGen_domeImages (s : State) (g : Nat) (f : Generator → Generator) : (s.modGen g f).domeImages = s.domeImages := rfl
@[simp] theorem State.modGen_zoneLoad (s : State) (g : Nat) (f : Generator → Generator) : (s.modGen g f).zoneLoad = s.zoneLoad := rfl
@[simp] theorem State.modGen_pwr (s : State) (g : Nat) (f : Generator → Generator) : (s.modGen g f).pwr = s.pwr := rfl
@[simp] theorem State.modGen_ltimers (s : State) (g : Nat) (f : Generator → Generator) : (s.modGen g f).ltimers = s.ltimers := rfl
@[simp] theorem State.modGen_rlink (s : State) (g : Nat) (f : Generator → Generator) : (s.modGen g f).rlink = s.rlink := rfl
@[simp] theorem State.modGen_boot (s : State) (g : Nat) (f : Generator → Generator) : (s.modGen g f).boot = s.boot := rfl
@[simp] theorem State.modGen_sealed (s : State) (g : Nat) (f : Generator → Generator) : (s.modGen g f).sealed = s.sealed := rfl
@[simp] theorem State.modGen_chain (s : State) (g : Nat) (f : Generator → Generator) : (s.modGen g f).chain = s.chain := rfl
@[simp] theorem State.modGen_hport (s : State) (g : Nat) (f : Generator → Generator) : (s.modGen g f).hport = s.hport := rfl
@[simp] theorem State.modGen_uarts (s : State) (g : Nat) (f : Generator → Generator) : (s.modGen g f).uarts = s.uarts := rfl
@[simp] theorem State.modGen_cans (s : State) (g : Nat) (f : Generator → Generator) : (s.modGen g f).cans = s.cans := rfl
@[simp] theorem State.modGen_nav (s : State) (g : Nat) (f : Generator → Generator) : (s.modGen g f).nav = s.nav := rfl
@[simp] theorem State.modGen_input (s : State) (g : Nat) (f : Generator → Generator) : (s.modGen g f).input = s.input := rfl
@[simp] theorem State.modGen_easel (s : State) (g : Nat) (f : Generator → Generator) : (s.modGen g f).easel = s.easel := rfl
@[simp] theorem State.modGen_trk (s : State) (g : Nat) (f : Generator → Generator) : (s.modGen g f).trk = s.trk := rfl
@[simp] theorem State.modGen_cal (s : State) (g : Nat) (f : Generator → Generator) : (s.modGen g f).cal = s.cal := rfl

@[simp] theorem State.modTrk_pending (s : State) (f : Tracking → Tracking) : (s.modTrk f).pending = s.pending := rfl
@[simp] theorem State.modTrk_free (s : State) (f : Tracking → Tracking) : (s.modTrk f).free = s.free := rfl
@[simp] theorem State.modTrk_ranks (s : State) (f : Tracking → Tracking) : (s.modTrk f).ranks = s.ranks := rfl
@[simp] theorem State.modTrk_clk (s : State) (f : Tracking → Tracking) : (s.modTrk f).clk = s.clk := rfl
@[simp] theorem State.modTrk_cores (s : State) (f : Tracking → Tracking) : (s.modTrk f).cores = s.cores := rfl
@[simp] theorem State.modTrk_intc (s : State) (f : Tracking → Tracking) : (s.modTrk f).intc = s.intc := rfl
@[simp] theorem State.modTrk_timers (s : State) (f : Tracking → Tracking) : (s.modTrk f).timers = s.timers := rfl
@[simp] theorem State.modTrk_wdts (s : State) (f : Tracking → Tracking) : (s.modTrk f).wdts = s.wdts := rfl
@[simp] theorem State.modTrk_pmon (s : State) (f : Tracking → Tracking) : (s.modTrk f).pmon = s.pmon := rfl
@[simp] theorem State.modTrk_start (s : State) (f : Tracking → Tracking) : (s.modTrk f).start = s.start := rfl
@[simp] theorem State.modTrk_evt (s : State) (f : Tracking → Tracking) : (s.modTrk f).evt = s.evt := rfl
@[simp] theorem State.modTrk_evtHeld (s : State) (f : Tracking → Tracking) : (s.modTrk f).evtHeld = s.evtHeld := rfl
@[simp] theorem State.modTrk_mem (s : State) (f : Tracking → Tracking) : (s.modTrk f).mem = s.mem := rfl
@[simp] theorem State.modTrk_mmus (s : State) (f : Tracking → Tracking) : (s.modTrk f).mmus = s.mmus := rfl
@[simp] theorem State.modTrk_masters (s : State) (f : Tracking → Tracking) : (s.modTrk f).masters = s.masters := rfl
@[simp] theorem State.modTrk_dma (s : State) (f : Tracking → Tracking) : (s.modTrk f).dma = s.dma := rfl
@[simp] theorem State.modTrk_rings (s : State) (f : Tracking → Tracking) : (s.modTrk f).rings = s.rings := rfl
@[simp] theorem State.modTrk_interp (s : State) (f : Tracking → Tracking) : (s.modTrk f).interp = s.interp := rfl
@[simp] theorem State.modTrk_mbx (s : State) (f : Tracking → Tracking) : (s.modTrk f).mbx = s.mbx := rfl
@[simp] theorem State.modTrk_drumImages (s : State) (f : Tracking → Tracking) : (s.modTrk f).drumImages = s.drumImages := rfl
@[simp] theorem State.modTrk_domeImages (s : State) (f : Tracking → Tracking) : (s.modTrk f).domeImages = s.domeImages := rfl
@[simp] theorem State.modTrk_zoneLoad (s : State) (f : Tracking → Tracking) : (s.modTrk f).zoneLoad = s.zoneLoad := rfl
@[simp] theorem State.modTrk_pwr (s : State) (f : Tracking → Tracking) : (s.modTrk f).pwr = s.pwr := rfl
@[simp] theorem State.modTrk_ltimers (s : State) (f : Tracking → Tracking) : (s.modTrk f).ltimers = s.ltimers := rfl
@[simp] theorem State.modTrk_rlink (s : State) (f : Tracking → Tracking) : (s.modTrk f).rlink = s.rlink := rfl
@[simp] theorem State.modTrk_boot (s : State) (f : Tracking → Tracking) : (s.modTrk f).boot = s.boot := rfl
@[simp] theorem State.modTrk_sealed (s : State) (f : Tracking → Tracking) : (s.modTrk f).sealed = s.sealed := rfl
@[simp] theorem State.modTrk_chain (s : State) (f : Tracking → Tracking) : (s.modTrk f).chain = s.chain := rfl
@[simp] theorem State.modTrk_hport (s : State) (f : Tracking → Tracking) : (s.modTrk f).hport = s.hport := rfl
@[simp] theorem State.modTrk_uarts (s : State) (f : Tracking → Tracking) : (s.modTrk f).uarts = s.uarts := rfl
@[simp] theorem State.modTrk_cans (s : State) (f : Tracking → Tracking) : (s.modTrk f).cans = s.cans := rfl
@[simp] theorem State.modTrk_nav (s : State) (f : Tracking → Tracking) : (s.modTrk f).nav = s.nav := rfl
@[simp] theorem State.modTrk_input (s : State) (f : Tracking → Tracking) : (s.modTrk f).input = s.input := rfl
@[simp] theorem State.modTrk_easel (s : State) (f : Tracking → Tracking) : (s.modTrk f).easel = s.easel := rfl
@[simp] theorem State.modTrk_trk (s : State) (f : Tracking → Tracking) : (s.modTrk f).trk = f s.trk := rfl
@[simp] theorem State.modTrk_tp (s : State) (f : Tracking → Tracking) : (s.modTrk f).tp = s.tp := rfl
@[simp] theorem State.modTrk_cal (s : State) (f : Tracking → Tracking) : (s.modTrk f).cal = s.cal := rfl

@[simp] theorem State.modCluster_pending (s : State) (c : Nat) (f : Cluster → Cluster) : (s.modCluster c f).pending = s.pending := rfl
@[simp] theorem State.modCluster_free (s : State) (c : Nat) (f : Cluster → Cluster) : (s.modCluster c f).free = s.free := rfl
@[simp] theorem State.modCluster_ranks (s : State) (c : Nat) (f : Cluster → Cluster) : (s.modCluster c f).ranks = s.ranks := rfl
@[simp] theorem State.modCluster_clk (s : State) (c : Nat) (f : Cluster → Cluster) : (s.modCluster c f).clk = s.clk := rfl
@[simp] theorem State.modCluster_cores (s : State) (c : Nat) (f : Cluster → Cluster) : (s.modCluster c f).cores = s.cores := rfl
@[simp] theorem State.modCluster_intc (s : State) (c : Nat) (f : Cluster → Cluster) : (s.modCluster c f).intc = s.intc := rfl
@[simp] theorem State.modCluster_timers (s : State) (c : Nat) (f : Cluster → Cluster) : (s.modCluster c f).timers = s.timers := rfl
@[simp] theorem State.modCluster_wdts (s : State) (c : Nat) (f : Cluster → Cluster) : (s.modCluster c f).wdts = s.wdts := rfl
@[simp] theorem State.modCluster_pmon (s : State) (c : Nat) (f : Cluster → Cluster) : (s.modCluster c f).pmon = s.pmon := rfl
@[simp] theorem State.modCluster_start (s : State) (c : Nat) (f : Cluster → Cluster) : (s.modCluster c f).start = s.start := rfl
@[simp] theorem State.modCluster_evt (s : State) (c : Nat) (f : Cluster → Cluster) : (s.modCluster c f).evt = s.evt := rfl
@[simp] theorem State.modCluster_evtHeld (s : State) (c : Nat) (f : Cluster → Cluster) : (s.modCluster c f).evtHeld = s.evtHeld := rfl
@[simp] theorem State.modCluster_mem (s : State) (c : Nat) (f : Cluster → Cluster) : (s.modCluster c f).mem = s.mem := rfl
@[simp] theorem State.modCluster_mmus (s : State) (c : Nat) (f : Cluster → Cluster) : (s.modCluster c f).mmus = s.mmus := rfl
@[simp] theorem State.modCluster_masters (s : State) (c : Nat) (f : Cluster → Cluster) : (s.modCluster c f).masters = s.masters := rfl
@[simp] theorem State.modCluster_dma (s : State) (c : Nat) (f : Cluster → Cluster) : (s.modCluster c f).dma = s.dma := rfl
@[simp] theorem State.modCluster_rings (s : State) (c : Nat) (f : Cluster → Cluster) : (s.modCluster c f).rings = s.rings := rfl
@[simp] theorem State.modCluster_interp (s : State) (c : Nat) (f : Cluster → Cluster) : (s.modCluster c f).interp = s.interp := rfl
@[simp] theorem State.modCluster_mbx (s : State) (c : Nat) (f : Cluster → Cluster) : (s.modCluster c f).mbx = s.mbx := rfl
@[simp] theorem State.modCluster_drumImages (s : State) (c : Nat) (f : Cluster → Cluster) : (s.modCluster c f).drumImages = s.drumImages := rfl
@[simp] theorem State.modCluster_domeImages (s : State) (c : Nat) (f : Cluster → Cluster) : (s.modCluster c f).domeImages = s.domeImages := rfl
@[simp] theorem State.modCluster_zoneLoad (s : State) (c : Nat) (f : Cluster → Cluster) : (s.modCluster c f).zoneLoad = s.zoneLoad := rfl
@[simp] theorem State.modCluster_pwr (s : State) (c : Nat) (f : Cluster → Cluster) : (s.modCluster c f).pwr = s.pwr := rfl
@[simp] theorem State.modCluster_ltimers (s : State) (c : Nat) (f : Cluster → Cluster) : (s.modCluster c f).ltimers = s.ltimers := rfl
@[simp] theorem State.modCluster_rlink (s : State) (c : Nat) (f : Cluster → Cluster) : (s.modCluster c f).rlink = s.rlink := rfl
@[simp] theorem State.modCluster_boot (s : State) (c : Nat) (f : Cluster → Cluster) : (s.modCluster c f).boot = s.boot := rfl
@[simp] theorem State.modCluster_sealed (s : State) (c : Nat) (f : Cluster → Cluster) : (s.modCluster c f).sealed = s.sealed := rfl
@[simp] theorem State.modCluster_chain (s : State) (c : Nat) (f : Cluster → Cluster) : (s.modCluster c f).chain = s.chain := rfl
@[simp] theorem State.modCluster_hport (s : State) (c : Nat) (f : Cluster → Cluster) : (s.modCluster c f).hport = s.hport := rfl
@[simp] theorem State.modCluster_uarts (s : State) (c : Nat) (f : Cluster → Cluster) : (s.modCluster c f).uarts = s.uarts := rfl
@[simp] theorem State.modCluster_cans (s : State) (c : Nat) (f : Cluster → Cluster) : (s.modCluster c f).cans = s.cans := rfl
@[simp] theorem State.modCluster_nav (s : State) (c : Nat) (f : Cluster → Cluster) : (s.modCluster c f).nav = s.nav := rfl
@[simp] theorem State.modCluster_input (s : State) (c : Nat) (f : Cluster → Cluster) : (s.modCluster c f).input = s.input := rfl
@[simp] theorem State.modCluster_easel (s : State) (c : Nat) (f : Cluster → Cluster) : (s.modCluster c f).easel = s.easel := rfl
@[simp] theorem State.modCluster_tp (s : State) (c : Nat) (f : Cluster → Cluster) : (s.modCluster c f).tp = s.tp := rfl
@[simp] theorem State.modCluster_cal (s : State) (c : Nat) (f : Cluster → Cluster) : (s.modCluster c f).cal = s.cal := rfl

@[simp] theorem State.modChan_pending (s : State) (ch : Nat) (f : Channel → Channel) : (s.modChan ch f).pending = s.pending := rfl
@[simp] theorem State.modChan_free (s : State) (ch : Nat) (f : Channel → Channel) : (s.modChan ch f).free = s.free := rfl
@[simp] theorem State.modChan_ranks (s : State) (ch : Nat) (f : Channel → Channel) : (s.modChan ch f).ranks = s.ranks := rfl
@[simp] theorem State.modChan_clk (s : State) (ch : Nat) (f : Channel → Channel) : (s.modChan ch f).clk = s.clk := rfl
@[simp] theorem State.modChan_cores (s : State) (ch : Nat) (f : Channel → Channel) : (s.modChan ch f).cores = s.cores := rfl
@[simp] theorem State.modChan_intc (s : State) (ch : Nat) (f : Channel → Channel) : (s.modChan ch f).intc = s.intc := rfl
@[simp] theorem State.modChan_timers (s : State) (ch : Nat) (f : Channel → Channel) : (s.modChan ch f).timers = s.timers := rfl
@[simp] theorem State.modChan_wdts (s : State) (ch : Nat) (f : Channel → Channel) : (s.modChan ch f).wdts = s.wdts := rfl
@[simp] theorem State.modChan_pmon (s : State) (ch : Nat) (f : Channel → Channel) : (s.modChan ch f).pmon = s.pmon := rfl
@[simp] theorem State.modChan_start (s : State) (ch : Nat) (f : Channel → Channel) : (s.modChan ch f).start = s.start := rfl
@[simp] theorem State.modChan_evt (s : State) (ch : Nat) (f : Channel → Channel) : (s.modChan ch f).evt = s.evt := rfl
@[simp] theorem State.modChan_evtHeld (s : State) (ch : Nat) (f : Channel → Channel) : (s.modChan ch f).evtHeld = s.evtHeld := rfl
@[simp] theorem State.modChan_mem (s : State) (ch : Nat) (f : Channel → Channel) : (s.modChan ch f).mem = s.mem := rfl
@[simp] theorem State.modChan_mmus (s : State) (ch : Nat) (f : Channel → Channel) : (s.modChan ch f).mmus = s.mmus := rfl
@[simp] theorem State.modChan_masters (s : State) (ch : Nat) (f : Channel → Channel) : (s.modChan ch f).masters = s.masters := rfl
@[simp] theorem State.modChan_dma (s : State) (ch : Nat) (f : Channel → Channel) : (s.modChan ch f).dma = s.dma := rfl
@[simp] theorem State.modChan_rings (s : State) (ch : Nat) (f : Channel → Channel) : (s.modChan ch f).rings = s.rings := rfl
@[simp] theorem State.modChan_interp (s : State) (ch : Nat) (f : Channel → Channel) : (s.modChan ch f).interp = s.interp := rfl
@[simp] theorem State.modChan_mbx (s : State) (ch : Nat) (f : Channel → Channel) : (s.modChan ch f).mbx = s.mbx := rfl
@[simp] theorem State.modChan_drumImages (s : State) (ch : Nat) (f : Channel → Channel) : (s.modChan ch f).drumImages = s.drumImages := rfl
@[simp] theorem State.modChan_domeImages (s : State) (ch : Nat) (f : Channel → Channel) : (s.modChan ch f).domeImages = s.domeImages := rfl
@[simp] theorem State.modChan_zoneLoad (s : State) (ch : Nat) (f : Channel → Channel) : (s.modChan ch f).zoneLoad = s.zoneLoad := rfl
@[simp] theorem State.modChan_pwr (s : State) (ch : Nat) (f : Channel → Channel) : (s.modChan ch f).pwr = s.pwr := rfl
@[simp] theorem State.modChan_ltimers (s : State) (ch : Nat) (f : Channel → Channel) : (s.modChan ch f).ltimers = s.ltimers := rfl
@[simp] theorem State.modChan_rlink (s : State) (ch : Nat) (f : Channel → Channel) : (s.modChan ch f).rlink = s.rlink := rfl
@[simp] theorem State.modChan_boot (s : State) (ch : Nat) (f : Channel → Channel) : (s.modChan ch f).boot = s.boot := rfl
@[simp] theorem State.modChan_sealed (s : State) (ch : Nat) (f : Channel → Channel) : (s.modChan ch f).sealed = s.sealed := rfl
@[simp] theorem State.modChan_chain (s : State) (ch : Nat) (f : Channel → Channel) : (s.modChan ch f).chain = s.chain := rfl
@[simp] theorem State.modChan_hport (s : State) (ch : Nat) (f : Channel → Channel) : (s.modChan ch f).hport = s.hport := rfl
@[simp] theorem State.modChan_uarts (s : State) (ch : Nat) (f : Channel → Channel) : (s.modChan ch f).uarts = s.uarts := rfl
@[simp] theorem State.modChan_cans (s : State) (ch : Nat) (f : Channel → Channel) : (s.modChan ch f).cans = s.cans := rfl
@[simp] theorem State.modChan_nav (s : State) (ch : Nat) (f : Channel → Channel) : (s.modChan ch f).nav = s.nav := rfl
@[simp] theorem State.modChan_input (s : State) (ch : Nat) (f : Channel → Channel) : (s.modChan ch f).input = s.input := rfl
@[simp] theorem State.modChan_easel (s : State) (ch : Nat) (f : Channel → Channel) : (s.modChan ch f).easel = s.easel := rfl
@[simp] theorem State.modChan_tp (s : State) (ch : Nat) (f : Channel → Channel) : (s.modChan ch f).tp = s.tp := rfl
@[simp] theorem State.modChan_cal (s : State) (ch : Nat) (f : Channel → Channel) : (s.modChan ch f).cal = s.cal := rfl

@[simp] theorem State.modLane_pending (s : State) (ch : Nat) (lower : Bool) (f : TrkLane → TrkLane) : (s.modLane ch lower f).pending = s.pending := rfl
@[simp] theorem State.modLane_free (s : State) (ch : Nat) (lower : Bool) (f : TrkLane → TrkLane) : (s.modLane ch lower f).free = s.free := rfl
@[simp] theorem State.modLane_ranks (s : State) (ch : Nat) (lower : Bool) (f : TrkLane → TrkLane) : (s.modLane ch lower f).ranks = s.ranks := rfl
@[simp] theorem State.modLane_clk (s : State) (ch : Nat) (lower : Bool) (f : TrkLane → TrkLane) : (s.modLane ch lower f).clk = s.clk := rfl
@[simp] theorem State.modLane_cores (s : State) (ch : Nat) (lower : Bool) (f : TrkLane → TrkLane) : (s.modLane ch lower f).cores = s.cores := rfl
@[simp] theorem State.modLane_intc (s : State) (ch : Nat) (lower : Bool) (f : TrkLane → TrkLane) : (s.modLane ch lower f).intc = s.intc := rfl
@[simp] theorem State.modLane_timers (s : State) (ch : Nat) (lower : Bool) (f : TrkLane → TrkLane) : (s.modLane ch lower f).timers = s.timers := rfl
@[simp] theorem State.modLane_wdts (s : State) (ch : Nat) (lower : Bool) (f : TrkLane → TrkLane) : (s.modLane ch lower f).wdts = s.wdts := rfl
@[simp] theorem State.modLane_pmon (s : State) (ch : Nat) (lower : Bool) (f : TrkLane → TrkLane) : (s.modLane ch lower f).pmon = s.pmon := rfl
@[simp] theorem State.modLane_start (s : State) (ch : Nat) (lower : Bool) (f : TrkLane → TrkLane) : (s.modLane ch lower f).start = s.start := rfl
@[simp] theorem State.modLane_evt (s : State) (ch : Nat) (lower : Bool) (f : TrkLane → TrkLane) : (s.modLane ch lower f).evt = s.evt := rfl
@[simp] theorem State.modLane_evtHeld (s : State) (ch : Nat) (lower : Bool) (f : TrkLane → TrkLane) : (s.modLane ch lower f).evtHeld = s.evtHeld := rfl
@[simp] theorem State.modLane_mem (s : State) (ch : Nat) (lower : Bool) (f : TrkLane → TrkLane) : (s.modLane ch lower f).mem = s.mem := rfl
@[simp] theorem State.modLane_mmus (s : State) (ch : Nat) (lower : Bool) (f : TrkLane → TrkLane) : (s.modLane ch lower f).mmus = s.mmus := rfl
@[simp] theorem State.modLane_masters (s : State) (ch : Nat) (lower : Bool) (f : TrkLane → TrkLane) : (s.modLane ch lower f).masters = s.masters := rfl
@[simp] theorem State.modLane_dma (s : State) (ch : Nat) (lower : Bool) (f : TrkLane → TrkLane) : (s.modLane ch lower f).dma = s.dma := rfl
@[simp] theorem State.modLane_rings (s : State) (ch : Nat) (lower : Bool) (f : TrkLane → TrkLane) : (s.modLane ch lower f).rings = s.rings := rfl
@[simp] theorem State.modLane_interp (s : State) (ch : Nat) (lower : Bool) (f : TrkLane → TrkLane) : (s.modLane ch lower f).interp = s.interp := rfl
@[simp] theorem State.modLane_mbx (s : State) (ch : Nat) (lower : Bool) (f : TrkLane → TrkLane) : (s.modLane ch lower f).mbx = s.mbx := rfl
@[simp] theorem State.modLane_drumImages (s : State) (ch : Nat) (lower : Bool) (f : TrkLane → TrkLane) : (s.modLane ch lower f).drumImages = s.drumImages := rfl
@[simp] theorem State.modLane_domeImages (s : State) (ch : Nat) (lower : Bool) (f : TrkLane → TrkLane) : (s.modLane ch lower f).domeImages = s.domeImages := rfl
@[simp] theorem State.modLane_zoneLoad (s : State) (ch : Nat) (lower : Bool) (f : TrkLane → TrkLane) : (s.modLane ch lower f).zoneLoad = s.zoneLoad := rfl
@[simp] theorem State.modLane_pwr (s : State) (ch : Nat) (lower : Bool) (f : TrkLane → TrkLane) : (s.modLane ch lower f).pwr = s.pwr := rfl
@[simp] theorem State.modLane_ltimers (s : State) (ch : Nat) (lower : Bool) (f : TrkLane → TrkLane) : (s.modLane ch lower f).ltimers = s.ltimers := rfl
@[simp] theorem State.modLane_rlink (s : State) (ch : Nat) (lower : Bool) (f : TrkLane → TrkLane) : (s.modLane ch lower f).rlink = s.rlink := rfl
@[simp] theorem State.modLane_boot (s : State) (ch : Nat) (lower : Bool) (f : TrkLane → TrkLane) : (s.modLane ch lower f).boot = s.boot := rfl
@[simp] theorem State.modLane_sealed (s : State) (ch : Nat) (lower : Bool) (f : TrkLane → TrkLane) : (s.modLane ch lower f).sealed = s.sealed := rfl
@[simp] theorem State.modLane_chain (s : State) (ch : Nat) (lower : Bool) (f : TrkLane → TrkLane) : (s.modLane ch lower f).chain = s.chain := rfl
@[simp] theorem State.modLane_hport (s : State) (ch : Nat) (lower : Bool) (f : TrkLane → TrkLane) : (s.modLane ch lower f).hport = s.hport := rfl
@[simp] theorem State.modLane_uarts (s : State) (ch : Nat) (lower : Bool) (f : TrkLane → TrkLane) : (s.modLane ch lower f).uarts = s.uarts := rfl
@[simp] theorem State.modLane_cans (s : State) (ch : Nat) (lower : Bool) (f : TrkLane → TrkLane) : (s.modLane ch lower f).cans = s.cans := rfl
@[simp] theorem State.modLane_nav (s : State) (ch : Nat) (lower : Bool) (f : TrkLane → TrkLane) : (s.modLane ch lower f).nav = s.nav := rfl
@[simp] theorem State.modLane_input (s : State) (ch : Nat) (lower : Bool) (f : TrkLane → TrkLane) : (s.modLane ch lower f).input = s.input := rfl
@[simp] theorem State.modLane_easel (s : State) (ch : Nat) (lower : Bool) (f : TrkLane → TrkLane) : (s.modLane ch lower f).easel = s.easel := rfl
@[simp] theorem State.modLane_tp (s : State) (ch : Nat) (lower : Bool) (f : TrkLane → TrkLane) : (s.modLane ch lower f).tp = s.tp := rfl
@[simp] theorem State.modLane_cal (s : State) (ch : Nat) (lower : Bool) (f : TrkLane → TrkLane) : (s.modLane ch lower f).cal = s.cal := rfl

@[simp] theorem State.modSeal_pending (s : State) (f : Seal → Seal) : (s.modSeal f).pending = s.pending := rfl
@[simp] theorem State.modSeal_free (s : State) (f : Seal → Seal) : (s.modSeal f).free = s.free := rfl
@[simp] theorem State.modSeal_ranks (s : State) (f : Seal → Seal) : (s.modSeal f).ranks = s.ranks := rfl
@[simp] theorem State.modSeal_clk (s : State) (f : Seal → Seal) : (s.modSeal f).clk = s.clk := rfl
@[simp] theorem State.modSeal_cores (s : State) (f : Seal → Seal) : (s.modSeal f).cores = s.cores := rfl
@[simp] theorem State.modSeal_intc (s : State) (f : Seal → Seal) : (s.modSeal f).intc = s.intc := rfl
@[simp] theorem State.modSeal_timers (s : State) (f : Seal → Seal) : (s.modSeal f).timers = s.timers := rfl
@[simp] theorem State.modSeal_wdts (s : State) (f : Seal → Seal) : (s.modSeal f).wdts = s.wdts := rfl
@[simp] theorem State.modSeal_pmon (s : State) (f : Seal → Seal) : (s.modSeal f).pmon = s.pmon := rfl
@[simp] theorem State.modSeal_start (s : State) (f : Seal → Seal) : (s.modSeal f).start = s.start := rfl
@[simp] theorem State.modSeal_evt (s : State) (f : Seal → Seal) : (s.modSeal f).evt = s.evt := rfl
@[simp] theorem State.modSeal_evtHeld (s : State) (f : Seal → Seal) : (s.modSeal f).evtHeld = s.evtHeld := rfl
@[simp] theorem State.modSeal_mem (s : State) (f : Seal → Seal) : (s.modSeal f).mem = s.mem := rfl
@[simp] theorem State.modSeal_mmus (s : State) (f : Seal → Seal) : (s.modSeal f).mmus = s.mmus := rfl
@[simp] theorem State.modSeal_masters (s : State) (f : Seal → Seal) : (s.modSeal f).masters = s.masters := rfl
@[simp] theorem State.modSeal_dma (s : State) (f : Seal → Seal) : (s.modSeal f).dma = s.dma := rfl
@[simp] theorem State.modSeal_rings (s : State) (f : Seal → Seal) : (s.modSeal f).rings = s.rings := rfl
@[simp] theorem State.modSeal_interp (s : State) (f : Seal → Seal) : (s.modSeal f).interp = s.interp := rfl
@[simp] theorem State.modSeal_mbx (s : State) (f : Seal → Seal) : (s.modSeal f).mbx = s.mbx := rfl
@[simp] theorem State.modSeal_drumImages (s : State) (f : Seal → Seal) : (s.modSeal f).drumImages = s.drumImages := rfl
@[simp] theorem State.modSeal_domeImages (s : State) (f : Seal → Seal) : (s.modSeal f).domeImages = s.domeImages := rfl
@[simp] theorem State.modSeal_zoneLoad (s : State) (f : Seal → Seal) : (s.modSeal f).zoneLoad = s.zoneLoad := rfl
@[simp] theorem State.modSeal_pwr (s : State) (f : Seal → Seal) : (s.modSeal f).pwr = s.pwr := rfl
@[simp] theorem State.modSeal_ltimers (s : State) (f : Seal → Seal) : (s.modSeal f).ltimers = s.ltimers := rfl
@[simp] theorem State.modSeal_rlink (s : State) (f : Seal → Seal) : (s.modSeal f).rlink = s.rlink := rfl
@[simp] theorem State.modSeal_boot (s : State) (f : Seal → Seal) : (s.modSeal f).boot = s.boot := rfl
@[simp] theorem State.modSeal_sealed (s : State) (f : Seal → Seal) : (s.modSeal f).sealed = f s.sealed := rfl
@[simp] theorem State.modSeal_chain (s : State) (f : Seal → Seal) : (s.modSeal f).chain = s.chain := rfl
@[simp] theorem State.modSeal_hport (s : State) (f : Seal → Seal) : (s.modSeal f).hport = s.hport := rfl
@[simp] theorem State.modSeal_uarts (s : State) (f : Seal → Seal) : (s.modSeal f).uarts = s.uarts := rfl
@[simp] theorem State.modSeal_cans (s : State) (f : Seal → Seal) : (s.modSeal f).cans = s.cans := rfl
@[simp] theorem State.modSeal_nav (s : State) (f : Seal → Seal) : (s.modSeal f).nav = s.nav := rfl
@[simp] theorem State.modSeal_input (s : State) (f : Seal → Seal) : (s.modSeal f).input = s.input := rfl
@[simp] theorem State.modSeal_easel (s : State) (f : Seal → Seal) : (s.modSeal f).easel = s.easel := rfl
@[simp] theorem State.modSeal_trk (s : State) (f : Seal → Seal) : (s.modSeal f).trk = s.trk := rfl
@[simp] theorem State.modSeal_tp (s : State) (f : Seal → Seal) : (s.modSeal f).tp = s.tp := rfl
@[simp] theorem State.modSeal_cal (s : State) (f : Seal → Seal) : (s.modSeal f).cal = s.cal := rfl

@[simp] theorem State.modEasel_pending (s : State) (f : Easel → Easel) : (s.modEasel f).pending = s.pending := rfl
@[simp] theorem State.modEasel_free (s : State) (f : Easel → Easel) : (s.modEasel f).free = s.free := rfl
@[simp] theorem State.modEasel_ranks (s : State) (f : Easel → Easel) : (s.modEasel f).ranks = s.ranks := rfl
@[simp] theorem State.modEasel_clk (s : State) (f : Easel → Easel) : (s.modEasel f).clk = s.clk := rfl
@[simp] theorem State.modEasel_cores (s : State) (f : Easel → Easel) : (s.modEasel f).cores = s.cores := rfl
@[simp] theorem State.modEasel_intc (s : State) (f : Easel → Easel) : (s.modEasel f).intc = s.intc := rfl
@[simp] theorem State.modEasel_timers (s : State) (f : Easel → Easel) : (s.modEasel f).timers = s.timers := rfl
@[simp] theorem State.modEasel_wdts (s : State) (f : Easel → Easel) : (s.modEasel f).wdts = s.wdts := rfl
@[simp] theorem State.modEasel_pmon (s : State) (f : Easel → Easel) : (s.modEasel f).pmon = s.pmon := rfl
@[simp] theorem State.modEasel_start (s : State) (f : Easel → Easel) : (s.modEasel f).start = s.start := rfl
@[simp] theorem State.modEasel_evt (s : State) (f : Easel → Easel) : (s.modEasel f).evt = s.evt := rfl
@[simp] theorem State.modEasel_evtHeld (s : State) (f : Easel → Easel) : (s.modEasel f).evtHeld = s.evtHeld := rfl
@[simp] theorem State.modEasel_mem (s : State) (f : Easel → Easel) : (s.modEasel f).mem = s.mem := rfl
@[simp] theorem State.modEasel_mmus (s : State) (f : Easel → Easel) : (s.modEasel f).mmus = s.mmus := rfl
@[simp] theorem State.modEasel_masters (s : State) (f : Easel → Easel) : (s.modEasel f).masters = s.masters := rfl
@[simp] theorem State.modEasel_dma (s : State) (f : Easel → Easel) : (s.modEasel f).dma = s.dma := rfl
@[simp] theorem State.modEasel_rings (s : State) (f : Easel → Easel) : (s.modEasel f).rings = s.rings := rfl
@[simp] theorem State.modEasel_interp (s : State) (f : Easel → Easel) : (s.modEasel f).interp = s.interp := rfl
@[simp] theorem State.modEasel_mbx (s : State) (f : Easel → Easel) : (s.modEasel f).mbx = s.mbx := rfl
@[simp] theorem State.modEasel_drumImages (s : State) (f : Easel → Easel) : (s.modEasel f).drumImages = s.drumImages := rfl
@[simp] theorem State.modEasel_domeImages (s : State) (f : Easel → Easel) : (s.modEasel f).domeImages = s.domeImages := rfl
@[simp] theorem State.modEasel_zoneLoad (s : State) (f : Easel → Easel) : (s.modEasel f).zoneLoad = s.zoneLoad := rfl
@[simp] theorem State.modEasel_pwr (s : State) (f : Easel → Easel) : (s.modEasel f).pwr = s.pwr := rfl
@[simp] theorem State.modEasel_ltimers (s : State) (f : Easel → Easel) : (s.modEasel f).ltimers = s.ltimers := rfl
@[simp] theorem State.modEasel_rlink (s : State) (f : Easel → Easel) : (s.modEasel f).rlink = s.rlink := rfl
@[simp] theorem State.modEasel_boot (s : State) (f : Easel → Easel) : (s.modEasel f).boot = s.boot := rfl
@[simp] theorem State.modEasel_sealed (s : State) (f : Easel → Easel) : (s.modEasel f).sealed = s.sealed := rfl
@[simp] theorem State.modEasel_chain (s : State) (f : Easel → Easel) : (s.modEasel f).chain = s.chain := rfl
@[simp] theorem State.modEasel_hport (s : State) (f : Easel → Easel) : (s.modEasel f).hport = s.hport := rfl
@[simp] theorem State.modEasel_uarts (s : State) (f : Easel → Easel) : (s.modEasel f).uarts = s.uarts := rfl
@[simp] theorem State.modEasel_cans (s : State) (f : Easel → Easel) : (s.modEasel f).cans = s.cans := rfl
@[simp] theorem State.modEasel_nav (s : State) (f : Easel → Easel) : (s.modEasel f).nav = s.nav := rfl
@[simp] theorem State.modEasel_input (s : State) (f : Easel → Easel) : (s.modEasel f).input = s.input := rfl
@[simp] theorem State.modEasel_easel (s : State) (f : Easel → Easel) : (s.modEasel f).easel = f s.easel := rfl
@[simp] theorem State.modEasel_trk (s : State) (f : Easel → Easel) : (s.modEasel f).trk = s.trk := rfl
@[simp] theorem State.modEasel_tp (s : State) (f : Easel → Easel) : (s.modEasel f).tp = s.tp := rfl
@[simp] theorem State.modEasel_cal (s : State) (f : Easel → Easel) : (s.modEasel f).cal = s.cal := rfl

@[simp] theorem State.modWatch_pending (s : State) (f : Watch → Watch) : (s.modWatch f).pending = s.pending := rfl
@[simp] theorem State.modWatch_free (s : State) (f : Watch → Watch) : (s.modWatch f).free = s.free := rfl
@[simp] theorem State.modWatch_ranks (s : State) (f : Watch → Watch) : (s.modWatch f).ranks = s.ranks := rfl
@[simp] theorem State.modWatch_clk (s : State) (f : Watch → Watch) : (s.modWatch f).clk = s.clk := rfl
@[simp] theorem State.modWatch_cores (s : State) (f : Watch → Watch) : (s.modWatch f).cores = s.cores := rfl
@[simp] theorem State.modWatch_intc (s : State) (f : Watch → Watch) : (s.modWatch f).intc = s.intc := rfl
@[simp] theorem State.modWatch_timers (s : State) (f : Watch → Watch) : (s.modWatch f).timers = s.timers := rfl
@[simp] theorem State.modWatch_wdts (s : State) (f : Watch → Watch) : (s.modWatch f).wdts = s.wdts := rfl
@[simp] theorem State.modWatch_pmon (s : State) (f : Watch → Watch) : (s.modWatch f).pmon = s.pmon := rfl
@[simp] theorem State.modWatch_start (s : State) (f : Watch → Watch) : (s.modWatch f).start = s.start := rfl
@[simp] theorem State.modWatch_evt (s : State) (f : Watch → Watch) : (s.modWatch f).evt = s.evt := rfl
@[simp] theorem State.modWatch_evtHeld (s : State) (f : Watch → Watch) : (s.modWatch f).evtHeld = s.evtHeld := rfl
@[simp] theorem State.modWatch_mem (s : State) (f : Watch → Watch) : (s.modWatch f).mem = s.mem := rfl
@[simp] theorem State.modWatch_mmus (s : State) (f : Watch → Watch) : (s.modWatch f).mmus = s.mmus := rfl
@[simp] theorem State.modWatch_masters (s : State) (f : Watch → Watch) : (s.modWatch f).masters = s.masters := rfl
@[simp] theorem State.modWatch_dma (s : State) (f : Watch → Watch) : (s.modWatch f).dma = s.dma := rfl
@[simp] theorem State.modWatch_rings (s : State) (f : Watch → Watch) : (s.modWatch f).rings = s.rings := rfl
@[simp] theorem State.modWatch_interp (s : State) (f : Watch → Watch) : (s.modWatch f).interp = s.interp := rfl
@[simp] theorem State.modWatch_mbx (s : State) (f : Watch → Watch) : (s.modWatch f).mbx = s.mbx := rfl
@[simp] theorem State.modWatch_drumImages (s : State) (f : Watch → Watch) : (s.modWatch f).drumImages = s.drumImages := rfl
@[simp] theorem State.modWatch_domeImages (s : State) (f : Watch → Watch) : (s.modWatch f).domeImages = s.domeImages := rfl
@[simp] theorem State.modWatch_zoneLoad (s : State) (f : Watch → Watch) : (s.modWatch f).zoneLoad = s.zoneLoad := rfl
@[simp] theorem State.modWatch_pwr (s : State) (f : Watch → Watch) : (s.modWatch f).pwr = s.pwr := rfl
@[simp] theorem State.modWatch_ltimers (s : State) (f : Watch → Watch) : (s.modWatch f).ltimers = s.ltimers := rfl
@[simp] theorem State.modWatch_rlink (s : State) (f : Watch → Watch) : (s.modWatch f).rlink = s.rlink := rfl
@[simp] theorem State.modWatch_boot (s : State) (f : Watch → Watch) : (s.modWatch f).boot = s.boot := rfl
@[simp] theorem State.modWatch_sealed (s : State) (f : Watch → Watch) : (s.modWatch f).sealed = s.sealed := rfl
@[simp] theorem State.modWatch_chain (s : State) (f : Watch → Watch) : (s.modWatch f).chain = s.chain := rfl
@[simp] theorem State.modWatch_hport (s : State) (f : Watch → Watch) : (s.modWatch f).hport = s.hport := rfl
@[simp] theorem State.modWatch_uarts (s : State) (f : Watch → Watch) : (s.modWatch f).uarts = s.uarts := rfl
@[simp] theorem State.modWatch_cans (s : State) (f : Watch → Watch) : (s.modWatch f).cans = s.cans := rfl
@[simp] theorem State.modWatch_nav (s : State) (f : Watch → Watch) : (s.modWatch f).nav = s.nav := rfl
@[simp] theorem State.modWatch_input (s : State) (f : Watch → Watch) : (s.modWatch f).input = s.input := rfl
@[simp] theorem State.modWatch_trk (s : State) (f : Watch → Watch) : (s.modWatch f).trk = s.trk := rfl
@[simp] theorem State.modWatch_tp (s : State) (f : Watch → Watch) : (s.modWatch f).tp = s.tp := rfl
@[simp] theorem State.modWatch_cal (s : State) (f : Watch → Watch) : (s.modWatch f).cal = s.cal := rfl

@[simp] theorem State.claim_pending (s : State) (r : Nat) : (s.claim r).2.pending = s.pending := rfl
@[simp] theorem State.claim_free (s : State) (r : Nat) : (s.claim r).2.free = s.free := rfl
@[simp] theorem State.claim_clk (s : State) (r : Nat) : (s.claim r).2.clk = s.clk := rfl
@[simp] theorem State.claim_cores (s : State) (r : Nat) : (s.claim r).2.cores = s.cores := rfl
@[simp] theorem State.claim_intc (s : State) (r : Nat) : (s.claim r).2.intc = s.intc := rfl
@[simp] theorem State.claim_timers (s : State) (r : Nat) : (s.claim r).2.timers = s.timers := rfl
@[simp] theorem State.claim_wdts (s : State) (r : Nat) : (s.claim r).2.wdts = s.wdts := rfl
@[simp] theorem State.claim_pmon (s : State) (r : Nat) : (s.claim r).2.pmon = s.pmon := rfl
@[simp] theorem State.claim_start (s : State) (r : Nat) : (s.claim r).2.start = s.start := rfl
@[simp] theorem State.claim_evt (s : State) (r : Nat) : (s.claim r).2.evt = s.evt := rfl
@[simp] theorem State.claim_evtHeld (s : State) (r : Nat) : (s.claim r).2.evtHeld = s.evtHeld := rfl
@[simp] theorem State.claim_mem (s : State) (r : Nat) : (s.claim r).2.mem = s.mem := rfl
@[simp] theorem State.claim_mmus (s : State) (r : Nat) : (s.claim r).2.mmus = s.mmus := rfl
@[simp] theorem State.claim_masters (s : State) (r : Nat) : (s.claim r).2.masters = s.masters := rfl
@[simp] theorem State.claim_dma (s : State) (r : Nat) : (s.claim r).2.dma = s.dma := rfl
@[simp] theorem State.claim_rings (s : State) (r : Nat) : (s.claim r).2.rings = s.rings := rfl
@[simp] theorem State.claim_interp (s : State) (r : Nat) : (s.claim r).2.interp = s.interp := rfl
@[simp] theorem State.claim_mbx (s : State) (r : Nat) : (s.claim r).2.mbx = s.mbx := rfl
@[simp] theorem State.claim_drumImages (s : State) (r : Nat) : (s.claim r).2.drumImages = s.drumImages := rfl
@[simp] theorem State.claim_domeImages (s : State) (r : Nat) : (s.claim r).2.domeImages = s.domeImages := rfl
@[simp] theorem State.claim_zoneLoad (s : State) (r : Nat) : (s.claim r).2.zoneLoad = s.zoneLoad := rfl
@[simp] theorem State.claim_pwr (s : State) (r : Nat) : (s.claim r).2.pwr = s.pwr := rfl
@[simp] theorem State.claim_ltimers (s : State) (r : Nat) : (s.claim r).2.ltimers = s.ltimers := rfl
@[simp] theorem State.claim_rlink (s : State) (r : Nat) : (s.claim r).2.rlink = s.rlink := rfl
@[simp] theorem State.claim_boot (s : State) (r : Nat) : (s.claim r).2.boot = s.boot := rfl
@[simp] theorem State.claim_sealed (s : State) (r : Nat) : (s.claim r).2.sealed = s.sealed := rfl
@[simp] theorem State.claim_chain (s : State) (r : Nat) : (s.claim r).2.chain = s.chain := rfl
@[simp] theorem State.claim_hport (s : State) (r : Nat) : (s.claim r).2.hport = s.hport := rfl
@[simp] theorem State.claim_uarts (s : State) (r : Nat) : (s.claim r).2.uarts = s.uarts := rfl
@[simp] theorem State.claim_cans (s : State) (r : Nat) : (s.claim r).2.cans = s.cans := rfl
@[simp] theorem State.claim_nav (s : State) (r : Nat) : (s.claim r).2.nav = s.nav := rfl
@[simp] theorem State.claim_input (s : State) (r : Nat) : (s.claim r).2.input = s.input := rfl
@[simp] theorem State.claim_easel (s : State) (r : Nat) : (s.claim r).2.easel = s.easel := rfl
@[simp] theorem State.claim_trk (s : State) (r : Nat) : (s.claim r).2.trk = s.trk := rfl
@[simp] theorem State.claim_tp (s : State) (r : Nat) : (s.claim r).2.tp = s.tp := rfl
@[simp] theorem State.claim_cal (s : State) (r : Nat) : (s.claim r).2.cal = s.cal := rfl

@[simp] theorem State.draw_pending (s : State) : s.draw.2.pending = s.pending := rfl
@[simp] theorem State.draw_ranks (s : State) : s.draw.2.ranks = s.ranks := rfl
@[simp] theorem State.draw_clk (s : State) : s.draw.2.clk = s.clk := rfl
@[simp] theorem State.draw_cores (s : State) : s.draw.2.cores = s.cores := rfl
@[simp] theorem State.draw_intc (s : State) : s.draw.2.intc = s.intc := rfl
@[simp] theorem State.draw_timers (s : State) : s.draw.2.timers = s.timers := rfl
@[simp] theorem State.draw_wdts (s : State) : s.draw.2.wdts = s.wdts := rfl
@[simp] theorem State.draw_pmon (s : State) : s.draw.2.pmon = s.pmon := rfl
@[simp] theorem State.draw_start (s : State) : s.draw.2.start = s.start := rfl
@[simp] theorem State.draw_evt (s : State) : s.draw.2.evt = s.evt := rfl
@[simp] theorem State.draw_evtHeld (s : State) : s.draw.2.evtHeld = s.evtHeld := rfl
@[simp] theorem State.draw_mem (s : State) : s.draw.2.mem = s.mem := rfl
@[simp] theorem State.draw_mmus (s : State) : s.draw.2.mmus = s.mmus := rfl
@[simp] theorem State.draw_masters (s : State) : s.draw.2.masters = s.masters := rfl
@[simp] theorem State.draw_dma (s : State) : s.draw.2.dma = s.dma := rfl
@[simp] theorem State.draw_rings (s : State) : s.draw.2.rings = s.rings := rfl
@[simp] theorem State.draw_interp (s : State) : s.draw.2.interp = s.interp := rfl
@[simp] theorem State.draw_mbx (s : State) : s.draw.2.mbx = s.mbx := rfl
@[simp] theorem State.draw_drumImages (s : State) : s.draw.2.drumImages = s.drumImages := rfl
@[simp] theorem State.draw_domeImages (s : State) : s.draw.2.domeImages = s.domeImages := rfl
@[simp] theorem State.draw_zoneLoad (s : State) : s.draw.2.zoneLoad = s.zoneLoad := rfl
@[simp] theorem State.draw_pwr (s : State) : s.draw.2.pwr = s.pwr := rfl
@[simp] theorem State.draw_ltimers (s : State) : s.draw.2.ltimers = s.ltimers := rfl
@[simp] theorem State.draw_rlink (s : State) : s.draw.2.rlink = s.rlink := rfl
@[simp] theorem State.draw_boot (s : State) : s.draw.2.boot = s.boot := rfl
@[simp] theorem State.draw_sealed (s : State) : s.draw.2.sealed = s.sealed := rfl
@[simp] theorem State.draw_chain (s : State) : s.draw.2.chain = s.chain := rfl
@[simp] theorem State.draw_hport (s : State) : s.draw.2.hport = s.hport := rfl
@[simp] theorem State.draw_uarts (s : State) : s.draw.2.uarts = s.uarts := rfl
@[simp] theorem State.draw_cans (s : State) : s.draw.2.cans = s.cans := rfl
@[simp] theorem State.draw_nav (s : State) : s.draw.2.nav = s.nav := rfl
@[simp] theorem State.draw_input (s : State) : s.draw.2.input = s.input := rfl
@[simp] theorem State.draw_easel (s : State) : s.draw.2.easel = s.easel := rfl
@[simp] theorem State.draw_trk (s : State) : s.draw.2.trk = s.trk := rfl
@[simp] theorem State.draw_tp (s : State) : s.draw.2.tp = s.tp := rfl
@[simp] theorem State.draw_cal (s : State) : s.draw.2.cal = s.cal := rfl

@[simp] theorem State.count_pending (s : State) (n : Nat) : (s.count n).pending = s.pending := rfl
@[simp] theorem State.count_free (s : State) (n : Nat) : (s.count n).free = s.free := rfl
@[simp] theorem State.count_ranks (s : State) (n : Nat) : (s.count n).ranks = s.ranks := rfl
@[simp] theorem State.count_clk (s : State) (n : Nat) : (s.count n).clk = s.clk := rfl
@[simp] theorem State.count_cores (s : State) (n : Nat) : (s.count n).cores = s.cores := rfl
@[simp] theorem State.count_intc (s : State) (n : Nat) : (s.count n).intc = s.intc := rfl
@[simp] theorem State.count_timers (s : State) (n : Nat) : (s.count n).timers = s.timers := rfl
@[simp] theorem State.count_wdts (s : State) (n : Nat) : (s.count n).wdts = s.wdts := rfl
@[simp] theorem State.count_evt (s : State) (n : Nat) : (s.count n).evt = s.evt := rfl
@[simp] theorem State.count_evtHeld (s : State) (n : Nat) : (s.count n).evtHeld = s.evtHeld := rfl
@[simp] theorem State.count_mem (s : State) (n : Nat) : (s.count n).mem = s.mem := rfl
@[simp] theorem State.count_mmus (s : State) (n : Nat) : (s.count n).mmus = s.mmus := rfl
@[simp] theorem State.count_masters (s : State) (n : Nat) : (s.count n).masters = s.masters := rfl
@[simp] theorem State.count_dma (s : State) (n : Nat) : (s.count n).dma = s.dma := rfl
@[simp] theorem State.count_rings (s : State) (n : Nat) : (s.count n).rings = s.rings := rfl
@[simp] theorem State.count_interp (s : State) (n : Nat) : (s.count n).interp = s.interp := rfl
@[simp] theorem State.count_mbx (s : State) (n : Nat) : (s.count n).mbx = s.mbx := rfl
@[simp] theorem State.count_drumImages (s : State) (n : Nat) : (s.count n).drumImages = s.drumImages := rfl
@[simp] theorem State.count_domeImages (s : State) (n : Nat) : (s.count n).domeImages = s.domeImages := rfl
@[simp] theorem State.count_zoneLoad (s : State) (n : Nat) : (s.count n).zoneLoad = s.zoneLoad := rfl
@[simp] theorem State.count_pwr (s : State) (n : Nat) : (s.count n).pwr = s.pwr := rfl
@[simp] theorem State.count_ltimers (s : State) (n : Nat) : (s.count n).ltimers = s.ltimers := rfl
@[simp] theorem State.count_rlink (s : State) (n : Nat) : (s.count n).rlink = s.rlink := rfl
@[simp] theorem State.count_boot (s : State) (n : Nat) : (s.count n).boot = s.boot := rfl
@[simp] theorem State.count_sealed (s : State) (n : Nat) : (s.count n).sealed = s.sealed := rfl
@[simp] theorem State.count_chain (s : State) (n : Nat) : (s.count n).chain = s.chain := rfl
@[simp] theorem State.count_hport (s : State) (n : Nat) : (s.count n).hport = s.hport := rfl
@[simp] theorem State.count_uarts (s : State) (n : Nat) : (s.count n).uarts = s.uarts := rfl
@[simp] theorem State.count_cans (s : State) (n : Nat) : (s.count n).cans = s.cans := rfl
@[simp] theorem State.count_nav (s : State) (n : Nat) : (s.count n).nav = s.nav := rfl
@[simp] theorem State.count_input (s : State) (n : Nat) : (s.count n).input = s.input := rfl
@[simp] theorem State.count_easel (s : State) (n : Nat) : (s.count n).easel = s.easel := rfl
@[simp] theorem State.count_trk (s : State) (n : Nat) : (s.count n).trk = s.trk := rfl
@[simp] theorem State.count_tp (s : State) (n : Nat) : (s.count n).tp = s.tp := rfl
@[simp] theorem State.count_cal (s : State) (n : Nat) : (s.count n).cal = s.cal := rfl

/-- The mailbox takes a record of the Dome, or drops it: nothing else changes (01 R22). -/
@[simp] theorem State.domeRecord_pending (s : State) (n c t d : Nat) (p : List Byte) : (s.domeRecord n c t d p).pending = s.pending := by
  unfold State.domeRecord; dsimp only; split <;> rfl
@[simp] theorem State.domeRecord_free (s : State) (n c t d : Nat) (p : List Byte) : (s.domeRecord n c t d p).free = s.free := by
  unfold State.domeRecord; dsimp only; split <;> rfl
@[simp] theorem State.domeRecord_ranks (s : State) (n c t d : Nat) (p : List Byte) : (s.domeRecord n c t d p).ranks = s.ranks := by
  unfold State.domeRecord; dsimp only; split <;> rfl
@[simp] theorem State.domeRecord_clk (s : State) (n c t d : Nat) (p : List Byte) : (s.domeRecord n c t d p).clk = s.clk := by
  unfold State.domeRecord; dsimp only; split <;> rfl
@[simp] theorem State.domeRecord_cores (s : State) (n c t d : Nat) (p : List Byte) : (s.domeRecord n c t d p).cores = s.cores := by
  unfold State.domeRecord; dsimp only; split <;> rfl
@[simp] theorem State.domeRecord_intc (s : State) (n c t d : Nat) (p : List Byte) : (s.domeRecord n c t d p).intc = s.intc := by
  unfold State.domeRecord; dsimp only; split <;> rfl
@[simp] theorem State.domeRecord_timers (s : State) (n c t d : Nat) (p : List Byte) : (s.domeRecord n c t d p).timers = s.timers := by
  unfold State.domeRecord; dsimp only; split <;> rfl
@[simp] theorem State.domeRecord_wdts (s : State) (n c t d : Nat) (p : List Byte) : (s.domeRecord n c t d p).wdts = s.wdts := by
  unfold State.domeRecord; dsimp only; split <;> rfl
@[simp] theorem State.domeRecord_pmon (s : State) (n c t d : Nat) (p : List Byte) : (s.domeRecord n c t d p).pmon = s.pmon := by
  unfold State.domeRecord; dsimp only; split <;> rfl
@[simp] theorem State.domeRecord_start (s : State) (n c t d : Nat) (p : List Byte) : (s.domeRecord n c t d p).start = s.start := by
  unfold State.domeRecord; dsimp only; split <;> rfl
@[simp] theorem State.domeRecord_evt (s : State) (n c t d : Nat) (p : List Byte) : (s.domeRecord n c t d p).evt = s.evt := by
  unfold State.domeRecord; dsimp only; split <;> rfl
@[simp] theorem State.domeRecord_evtHeld (s : State) (n c t d : Nat) (p : List Byte) : (s.domeRecord n c t d p).evtHeld = s.evtHeld := by
  unfold State.domeRecord; dsimp only; split <;> rfl
@[simp] theorem State.domeRecord_mem (s : State) (n c t d : Nat) (p : List Byte) : (s.domeRecord n c t d p).mem = s.mem := by
  unfold State.domeRecord; dsimp only; split <;> rfl
@[simp] theorem State.domeRecord_mmus (s : State) (n c t d : Nat) (p : List Byte) : (s.domeRecord n c t d p).mmus = s.mmus := by
  unfold State.domeRecord; dsimp only; split <;> rfl
@[simp] theorem State.domeRecord_masters (s : State) (n c t d : Nat) (p : List Byte) : (s.domeRecord n c t d p).masters = s.masters := by
  unfold State.domeRecord; dsimp only; split <;> rfl
@[simp] theorem State.domeRecord_dma (s : State) (n c t d : Nat) (p : List Byte) : (s.domeRecord n c t d p).dma = s.dma := by
  unfold State.domeRecord; dsimp only; split <;> rfl
@[simp] theorem State.domeRecord_rings (s : State) (n c t d : Nat) (p : List Byte) : (s.domeRecord n c t d p).rings = s.rings := by
  unfold State.domeRecord; dsimp only; split <;> rfl
@[simp] theorem State.domeRecord_interp (s : State) (n c t d : Nat) (p : List Byte) : (s.domeRecord n c t d p).interp = s.interp := by
  unfold State.domeRecord; dsimp only; split <;> rfl
@[simp] theorem State.domeRecord_drumImages (s : State) (n c t d : Nat) (p : List Byte) : (s.domeRecord n c t d p).drumImages = s.drumImages := by
  unfold State.domeRecord; dsimp only; split <;> rfl
@[simp] theorem State.domeRecord_domeImages (s : State) (n c t d : Nat) (p : List Byte) : (s.domeRecord n c t d p).domeImages = s.domeImages := by
  unfold State.domeRecord; dsimp only; split <;> rfl
@[simp] theorem State.domeRecord_zoneLoad (s : State) (n c t d : Nat) (p : List Byte) : (s.domeRecord n c t d p).zoneLoad = s.zoneLoad := by
  unfold State.domeRecord; dsimp only; split <;> rfl
@[simp] theorem State.domeRecord_pwr (s : State) (n c t d : Nat) (p : List Byte) : (s.domeRecord n c t d p).pwr = s.pwr := by
  unfold State.domeRecord; dsimp only; split <;> rfl
@[simp] theorem State.domeRecord_ltimers (s : State) (n c t d : Nat) (p : List Byte) : (s.domeRecord n c t d p).ltimers = s.ltimers := by
  unfold State.domeRecord; dsimp only; split <;> rfl
@[simp] theorem State.domeRecord_rlink (s : State) (n c t d : Nat) (p : List Byte) : (s.domeRecord n c t d p).rlink = s.rlink := by
  unfold State.domeRecord; dsimp only; split <;> rfl
@[simp] theorem State.domeRecord_boot (s : State) (n c t d : Nat) (p : List Byte) : (s.domeRecord n c t d p).boot = s.boot := by
  unfold State.domeRecord; dsimp only; split <;> rfl
@[simp] theorem State.domeRecord_sealed (s : State) (n c t d : Nat) (p : List Byte) : (s.domeRecord n c t d p).sealed = s.sealed := by
  unfold State.domeRecord; dsimp only; split <;> rfl
@[simp] theorem State.domeRecord_chain (s : State) (n c t d : Nat) (p : List Byte) : (s.domeRecord n c t d p).chain = s.chain := by
  unfold State.domeRecord; dsimp only; split <;> rfl
@[simp] theorem State.domeRecord_hport (s : State) (n c t d : Nat) (p : List Byte) : (s.domeRecord n c t d p).hport = s.hport := by
  unfold State.domeRecord; dsimp only; split <;> rfl
@[simp] theorem State.domeRecord_uarts (s : State) (n c t d : Nat) (p : List Byte) : (s.domeRecord n c t d p).uarts = s.uarts := by
  unfold State.domeRecord; dsimp only; split <;> rfl
@[simp] theorem State.domeRecord_cans (s : State) (n c t d : Nat) (p : List Byte) : (s.domeRecord n c t d p).cans = s.cans := by
  unfold State.domeRecord; dsimp only; split <;> rfl
@[simp] theorem State.domeRecord_nav (s : State) (n c t d : Nat) (p : List Byte) : (s.domeRecord n c t d p).nav = s.nav := by
  unfold State.domeRecord; dsimp only; split <;> rfl
@[simp] theorem State.domeRecord_input (s : State) (n c t d : Nat) (p : List Byte) : (s.domeRecord n c t d p).input = s.input := by
  unfold State.domeRecord; dsimp only; split <;> rfl
@[simp] theorem State.domeRecord_easel (s : State) (n c t d : Nat) (p : List Byte) : (s.domeRecord n c t d p).easel = s.easel := by
  unfold State.domeRecord; dsimp only; split <;> rfl
@[simp] theorem State.domeRecord_trk (s : State) (n c t d : Nat) (p : List Byte) : (s.domeRecord n c t d p).trk = s.trk := by
  unfold State.domeRecord; dsimp only; split <;> rfl
@[simp] theorem State.domeRecord_tp (s : State) (n c t d : Nat) (p : List Byte) : (s.domeRecord n c t d p).tp = s.tp := by
  unfold State.domeRecord; dsimp only; split <;> rfl
@[simp] theorem State.domeRecord_cal (s : State) (n c t d : Nat) (p : List Byte) : (s.domeRecord n c t d p).cal = s.cal := by
  unfold State.domeRecord; dsimp only; split <;> rfl

end Sys2Proof.Machine
end

