-- ==== Sys2Proof/Laws/Cores.lean ====
section
/-! SUPPORT. What issuing an instruction does: it completes, is undefined, or traps (15 R533). -/

set_option Elab.async false

namespace Sys2Proof.Machine

@[simp] theorem State.core_modCore (s : State) {c : Nat} (f : Core → Core) (h : c < 8) : (s.modCore c f).core c = f (s.core c) :=
  vget_vmod_same _ f h

@[simp] theorem State.core_modCore_other (s : State) {c k : Nat} (f : Core → Core) (h : k ≠ c) : (s.modCore c f).core k = s.core k :=
  vget_vmod_other _ f h

@[simp] theorem State.eccFound_cores (s : State) (e : EccMark) (pa : Nat) : (s.eccFound e pa).cores = s.cores := by
  unfold State.eccFound
  dsimp only
  split <;> rfl

/-- The check of ECC leaves the cores. -/
@[simp] theorem State.eccCheck_cores (s : State) (p : Place) (pa : Nat) : (s.eccCheck p pa).1.cores = s.cores := by
  unfold State.eccCheck
  split
  · rfl
  · exact State.eccFound_cores s _ pa

/-- A fetch leaves the cores. -/
@[simp] theorem State.fetchTrap_cores (s : State) (c : Nat) (pc : BitVec 24) : (s.fetchTrap c pc).1.cores = s.cores := by
  unfold State.fetchTrap
  dsimp only
  split
  · rfl
  · split
    · rfl
    · split
      · rfl
      · split
        · split
          · exact State.eccCheck_cores s _ _
          · rfl
        · rfl

theorem State.at_eq (s : State) {c : Nat} (h : c < 8) : s.at_ c = (s.core c).landProducts := by
  unfold State.at_ State.fetched State.core
  dsimp only
  rw [State.fetchTrap_cores]
  exact State.core_modCore s _ h

theorem State.at_pc (s : State) (c : Nat) : ((s.modCore c Core.landProducts).core c).pc = (s.at_ c).pc := by
  unfold State.at_ State.fetched State.core
  dsimp only
  rw [State.fetchTrap_cores]

section
variable {s u : State} {c : Nat} {chk : Core → Option Nat} {op : Operation}

/-- With nothing in its place, an instruction begins in the state fetched. -/
theorem State.atIssue_eq {go : State → Res} (h : s.Issues c) : s.atIssue c go = go (s.fetched c) := by
  unfold State.atIssue
  rw [h.on, h.calm]
  simp only [Bool.not_true, Bool.false_eq_true, if_false]
  rw [show (s.modCore c Core.landProducts).fetchTrap c ((s.modCore c Core.landProducts).core c).pc = (s.fetched c, none)
    from Prod.ext rfl h.fetch]

/-- A pending interrupt is taken in the instruction's place. -/
theorem State.atIssue_interrupt {go : State → Res} {n : Nat} (h : s.issues c = true) (hn : s.takeable c = some n) :
    s.atIssue c go = .next (s.interrupt c n (s.core c).resume) := by
  unfold State.atIssue
  rw [h, hn]
  rfl

/-- An instruction that is well formed and whose operation succeeds completes. -/
theorem State.issue_done {d : Done} (h : s.Issues c) (hc : chk (s.at_ c) = none) (ho : op c (s.fetched c) = (u, .ok d)) :
    s.issue c chk op = u.done c d := by
  unfold State.issue
  rw [State.atIssue_eq h]
  dsimp only
  unfold State.at_ at hc
  rw [hc]
  dsimp only
  rw [ho]
  rfl

/-- An undefined instruction takes the undefined-opcode trap with its detail. -/
theorem State.issue_undefined {d : Nat} (h : s.Issues c) (hc : chk (s.at_ c) = some d) :
    s.issue c chk op = .next ((s.fetched c).trap c ⟨3, d, 0⟩ (s.at_ c).pc none) := by
  unfold State.issue
  rw [State.atIssue_eq h]
  dsimp only
  unfold State.at_ at hc ⊢
  rw [hc]

/-- An instruction whose operation traps takes that trap. -/
theorem State.issue_trap {t : Trap} (h : s.Issues c) (hc : chk (s.at_ c) = none) (ho : op c (s.fetched c) = (u, .error (.trap t))) :
    s.issue c chk op = .next (u.trap c t (s.at_ c).pc none) := by
  unfold State.issue
  rw [State.atIssue_eq h]
  dsimp only
  unfold State.at_ at hc ⊢
  rw [hc]
  dsimp only
  rw [ho]
end

end Sys2Proof.Machine
end

