-- ==== Sys2Proof/Laws/Host.lean ====
section
/-! SUPPORT. Laws of the interpreter: what the take leaves alone, and how a command that is admitted runs. -/

set_option Elab.async false

namespace Sys2Proof.Machine

theorem forUpto_keep {σ α : Type} {f : σ → α} {n : Nat} {g : Nat → σ → σ} {s : σ} (h : ∀ i s, f (g i s) = f s) :
    f (forUpto n g s) = f s := by
  unfold forUpto
  generalize List.range n = l
  induction l generalizing s with
  | nil => rfl
  | cons a l ih => exact (ih (s := g a s)).trans (h a s)

/-- A take changes rings, the interpreter's mark and a performance counter. -/
theorem State.take_eq (s : State) (q : Nat) :
    ∃ rings pmon, s.take q = { s with rings := rings, interp := { s.interp with took := true }, pmon := pmon } := by
  have key : ∀ (l : List Nat) (g : Nat → Ring → Ring) (s : State),
      ∃ rings, l.foldl (fun s i => s.modRing i (g i)) s = { s with rings := rings } := by
    intro l
    induction l with
    | nil => exact fun g s => ⟨s.rings, rfl⟩
    | cons a l ih =>
      intro g s
      obtain ⟨r, e⟩ := ih g (s.modRing a (g a))
      exact ⟨r, e⟩
  unfold State.take forUpto
  extract_lets el passed slots s1 s2
  obtain ⟨r, e⟩ := key (List.range 4) passed s
  have h1 : s1 = { s with rings := r } := e
  clear_value s1
  subst h1
  exact ⟨_, _, rfl⟩

@[simp] theorem State.take_nextId (s : State) (q : Nat) : (s.take q).interp.nextId = s.interp.nextId := by
  obtain ⟨r, p, e⟩ := s.take_eq q
  rw [e]

@[simp] theorem State.take_now (s : State) (q : Nat) : (s.take q).now = s.now := by
  obtain ⟨r, p, e⟩ := s.take_eq q
  rw [e]; rfl

/-- A command begins: rings, the interpreter and the performance counters change, nothing else. -/
theorem State.begun_eq (s : State) (t : Txn) :
    ∃ rings pmon interp, s.begun t = { s with rings := rings, interp := interp, pmon := pmon } := by
  obtain ⟨r, p, e⟩ := s.take_eq t.ring.val
  exact ⟨r, p, _, by unfold State.begun; rw [e]⟩

@[simp] theorem State.begun_pending (s : State) (t : Txn) : (s.begun t).pending = s.pending := by obtain ⟨_, _, _, e⟩ := s.begun_eq t; rw [e]

@[simp] theorem State.begun_free (s : State) (t : Txn) : (s.begun t).free = s.free := by obtain ⟨_, _, _, e⟩ := s.begun_eq t; rw [e]

@[simp] theorem State.begun_ranks (s : State) (t : Txn) : (s.begun t).ranks = s.ranks := by obtain ⟨_, _, _, e⟩ := s.begun_eq t; rw [e]

@[simp] theorem State.begun_clk (s : State) (t : Txn) : (s.begun t).clk = s.clk := by obtain ⟨_, _, _, e⟩ := s.begun_eq t; rw [e]

@[simp] theorem State.begun_cores (s : State) (t : Txn) : (s.begun t).cores = s.cores := by obtain ⟨_, _, _, e⟩ := s.begun_eq t; rw [e]

@[simp] theorem State.begun_intc (s : State) (t : Txn) : (s.begun t).intc = s.intc := by obtain ⟨_, _, _, e⟩ := s.begun_eq t; rw [e]

@[simp] theorem State.begun_timers (s : State) (t : Txn) : (s.begun t).timers = s.timers := by obtain ⟨_, _, _, e⟩ := s.begun_eq t; rw [e]

@[simp] theorem State.begun_wdts (s : State) (t : Txn) : (s.begun t).wdts = s.wdts := by obtain ⟨_, _, _, e⟩ := s.begun_eq t; rw [e]

@[simp] theorem State.begun_evt (s : State) (t : Txn) : (s.begun t).evt = s.evt := by obtain ⟨_, _, _, e⟩ := s.begun_eq t; rw [e]

@[simp] theorem State.begun_evtHeld (s : State) (t : Txn) : (s.begun t).evtHeld = s.evtHeld := by obtain ⟨_, _, _, e⟩ := s.begun_eq t; rw [e]

@[simp] theorem State.begun_mem (s : State) (t : Txn) : (s.begun t).mem = s.mem := by obtain ⟨_, _, _, e⟩ := s.begun_eq t; rw [e]

@[simp] theorem State.begun_mmus (s : State) (t : Txn) : (s.begun t).mmus = s.mmus := by obtain ⟨_, _, _, e⟩ := s.begun_eq t; rw [e]

@[simp] theorem State.begun_masters (s : State) (t : Txn) : (s.begun t).masters = s.masters := by obtain ⟨_, _, _, e⟩ := s.begun_eq t; rw [e]

@[simp] theorem State.begun_dma (s : State) (t : Txn) : (s.begun t).dma = s.dma := by obtain ⟨_, _, _, e⟩ := s.begun_eq t; rw [e]

@[simp] theorem State.begun_mbx (s : State) (t : Txn) : (s.begun t).mbx = s.mbx := by obtain ⟨_, _, _, e⟩ := s.begun_eq t; rw [e]

@[simp] theorem State.begun_drumImages (s : State) (t : Txn) : (s.begun t).drumImages = s.drumImages := by obtain ⟨_, _, _, e⟩ := s.begun_eq t; rw [e]

@[simp] theorem State.begun_domeImages (s : State) (t : Txn) : (s.begun t).domeImages = s.domeImages := by obtain ⟨_, _, _, e⟩ := s.begun_eq t; rw [e]

@[simp] theorem State.begun_zoneLoad (s : State) (t : Txn) : (s.begun t).zoneLoad = s.zoneLoad := by obtain ⟨_, _, _, e⟩ := s.begun_eq t; rw [e]

@[simp] theorem State.begun_pwr (s : State) (t : Txn) : (s.begun t).pwr = s.pwr := by obtain ⟨_, _, _, e⟩ := s.begun_eq t; rw [e]

@[simp] theorem State.begun_ltimers (s : State) (t : Txn) : (s.begun t).ltimers = s.ltimers := by obtain ⟨_, _, _, e⟩ := s.begun_eq t; rw [e]

@[simp] theorem State.begun_rlink (s : State) (t : Txn) : (s.begun t).rlink = s.rlink := by obtain ⟨_, _, _, e⟩ := s.begun_eq t; rw [e]

@[simp] theorem State.begun_boot (s : State) (t : Txn) : (s.begun t).boot = s.boot := by obtain ⟨_, _, _, e⟩ := s.begun_eq t; rw [e]

@[simp] theorem State.begun_sealed (s : State) (t : Txn) : (s.begun t).sealed = s.sealed := by obtain ⟨_, _, _, e⟩ := s.begun_eq t; rw [e]

@[simp] theorem State.begun_chain (s : State) (t : Txn) : (s.begun t).chain = s.chain := by obtain ⟨_, _, _, e⟩ := s.begun_eq t; rw [e]

@[simp] theorem State.begun_hport (s : State) (t : Txn) : (s.begun t).hport = s.hport := by obtain ⟨_, _, _, e⟩ := s.begun_eq t; rw [e]

@[simp] theorem State.begun_uarts (s : State) (t : Txn) : (s.begun t).uarts = s.uarts := by obtain ⟨_, _, _, e⟩ := s.begun_eq t; rw [e]

@[simp] theorem State.begun_cans (s : State) (t : Txn) : (s.begun t).cans = s.cans := by obtain ⟨_, _, _, e⟩ := s.begun_eq t; rw [e]

@[simp] theorem State.begun_nav (s : State) (t : Txn) : (s.begun t).nav = s.nav := by obtain ⟨_, _, _, e⟩ := s.begun_eq t; rw [e]

@[simp] theorem State.begun_input (s : State) (t : Txn) : (s.begun t).input = s.input := by obtain ⟨_, _, _, e⟩ := s.begun_eq t; rw [e]

@[simp] theorem State.begun_easel (s : State) (t : Txn) : (s.begun t).easel = s.easel := by obtain ⟨_, _, _, e⟩ := s.begun_eq t; rw [e]

@[simp] theorem State.begun_trk (s : State) (t : Txn) : (s.begun t).trk = s.trk := by obtain ⟨_, _, _, e⟩ := s.begun_eq t; rw [e]

@[simp] theorem State.begun_tp (s : State) (t : Txn) : (s.begun t).tp = s.tp := by obtain ⟨_, _, _, e⟩ := s.begun_eq t; rw [e]

@[simp] theorem State.begun_cal (s : State) (t : Txn) : (s.begun t).cal = s.cal := by obtain ⟨_, _, _, e⟩ := s.begun_eq t; rw [e]

/-- A command that is admitted runs its meaning in the state in which it has begun. -/
theorem hostCommand_admits {s : State} {t : Txn} {op : Nat} {isRow : Nat → List Byte → Bool} {body : Body} (h : s.Admits t op)
    (hr : isRow op (payloadOf t) = true) (ho : (cmdRow op).isSome = true) :
    hostCommand isRow body t s =
      .next ((body ⟨s.interp.nextId, t.ring.val, (parseHeader t.bytes).noReply, payloadOf t⟩ (s.begun t)).1.answer s.interp.nextId
        (body ⟨s.interp.nextId, t.ring.val, (parseHeader t.bytes).noReply, payloadOf t⟩ (s.begun t)).2) := by
  obtain ⟨row, hrow⟩ := Option.isSome_iff_exists.1 ho
  have hs := h.served row hrow
  unfold payloadOf at *
  have ho := h.opcode
  simp only [hostCommand, h.takes, h.framed, ho, hr, State.interpret, h.header, hrow, State.take_nextId, State.take_now,
    Option.isNone_none, Bool.and_self, if_true]
  simp only [State.begun, ho, hrow] at hs ⊢
  rw [hs]

/-- A list of checks none of which fails. -/
theorem checked_pass {s : State} {l : List (Bool × Ans)} {k : State × Ans} (h : firstBad l = none) : checked s l k = k := by
  unfold checked; rw [h]

theorem firstBad_cons {b : Bool} {a : Ans} {r : List (Bool × Ans)} : firstBad ((b, a) :: r) = none ↔ b = false ∧ firstBad r = none := by
  cases b <;> simp [firstBad]

theorem firstBad_append {l r : List (Bool × Ans)} : firstBad (l ++ r) = none ↔ firstBad l = none ∧ firstBad r = none := by
  induction l with
  | nil => simp [firstBad]
  | cons x l ih => obtain ⟨b, a⟩ := x; cases b <;> simp [firstBad, ih]

theorem firstBad_range {b : Bool} {n : Nat} {r : List (Bool × Ans)} :
    firstBad (outOfRange b n :: r) = none ↔ b = false ∧ firstBad r = none := firstBad_cons

theorem firstBad_reserved {p : List Byte} {l : List (Nat × Nat)} {r : List (Bool × Ans)} :
    firstBad (reservedPayload p l :: r) = none ↔ zeroIn p l ∧ firstBad r = none := by
  unfold reservedPayload zeroIn
  cases h : firstReserved p l <;> simp [firstBad]

theorem firstBad_sealed {s : State} {l : List ParamField} : firstBad (sealedChecks s l) = none ↔ s.mayChange l := by
  unfold sealedChecks State.mayChange
  simp only [firstBad_cons]
  cases h : changedFields l <;> simp [firstBad]

@[simp] theorem State.begun_port (s : State) (t : Txn) (p : Nat) : (s.begun t).port p = s.port p := by
  unfold State.port; rw [begun_input]

theorem firstBad_nil : firstBad [] = none := rfl

end Sys2Proof.Machine
end

