-- ==== Sys2Proof/Laws/Memory.lean ====
section
/-! SUPPORT. Laws of the sparse memories: reads after writes, and that every operation keeps the canonical form. -/

set_option Elab.async false

namespace Sys2Proof.Machine

/-- Every offset listed lies above `a`. -/
def Bytes.above (a : Nat) (m : Bytes) : Prop := ∀ c ∈ m, a < c.1

theorem Bytes.wf_cons {c : Host.Cell} {r : Bytes} :
    Bytes.wf (c :: r) = true ↔ c.2 ≠ unlistedByte ∧ Bytes.above c.1 r ∧ Bytes.wf r = true := by
  induction r generalizing c with
  | nil => simp [Bytes.wf, Bytes.above]
  | cons d r ih =>
    constructor
    · intro h
      simp only [Bytes.wf, Bool.and_eq_true, bne_iff_ne, ne_eq, decide_eq_true_eq] at h
      obtain ⟨⟨h1, h2⟩, h3⟩ := h
      obtain ⟨-, h5, -⟩ := (ih (c := d)).1 h3
      refine ⟨h1, ?_, h3⟩
      intro e he
      rcases List.mem_cons.1 he with rfl | he
      · exact h2
      · exact Nat.lt_trans h2 (h5 e he)
    · rintro ⟨h1, h2, h3⟩
      simp only [Bytes.wf, Bool.and_eq_true, bne_iff_ne, ne_eq, decide_eq_true_eq]
      exact ⟨⟨h1, h2 d (List.mem_cons_self ..)⟩, h3⟩

theorem Bytes.above_write {m : Bytes} {b a : Nat} {v : Byte} (h : m.above b) (hb : b < a) : (m.write a v).above b := by
  induction m with
  | nil =>
    unfold Bytes.write
    split
    · exact h
    · intro e he; simp at he; subst he; exact hb
  | cons c r ih =>
    have hr : Bytes.above b r := fun e he => h e (List.mem_cons_of_mem _ he)
    have hc : b < c.1 := h c (List.mem_cons_self ..)
    unfold Bytes.write
    split_ifs <;> intro e he
    · rcases List.mem_cons.1 he with rfl | he
      · exact hc
      · exact ih hr e he
    · exact hr e he
    · rcases List.mem_cons.1 he with rfl | he
      · exact hb
      · exact hr e he
    · exact h e he
    · rcases List.mem_cons.1 he with rfl | he
      · exact hb
      · exact h e he

/-- A write keeps the canonical form. -/
theorem Bytes.wf_write {m : Bytes} {a : Nat} {v : Byte} (h : m.wf = true) : (m.write a v).wf = true := by
  induction m with
  | nil => unfold Bytes.write; split <;> simp_all [Bytes.wf]
  | cons c r ih =>
    obtain ⟨h1, h2, h3⟩ := Bytes.wf_cons.1 h
    unfold Bytes.write
    split_ifs with p1 p2 p3 p4
    · exact Bytes.wf_cons.2 ⟨h1, Bytes.above_write h2 p1, ih h3⟩
    · exact h3
    · exact Bytes.wf_cons.2 ⟨p3, p2 ▸ h2, h3⟩
    · exact h
    · refine Bytes.wf_cons.2 ⟨p4, ?_, h⟩
      have p5 : a < c.1 := by omega
      intro e he
      rcases List.mem_cons.1 he with rfl | he
      · exact p5
      · exact Nat.lt_trans p5 (h2 e he)

theorem Bytes.wf_writeN {vs : List Byte} : ∀ {m : Bytes} {a : Nat}, m.wf = true → (m.writeN a vs).wf = true := by
  induction vs with
  | nil => intro m a h; exact h
  | cons v vs ih => intro m a h; exact ih (Bytes.wf_write h)

theorem Bytes.wf_filter {m : Bytes} {p : Host.Cell → Bool} (h : m.wf = true) : Bytes.wf (m.filter p) = true := by
  induction m with
  | nil => exact h
  | cons c r ih =>
    obtain ⟨h1, h2, h3⟩ := Bytes.wf_cons.1 h
    rw [List.filter_cons]
    split
    · exact Bytes.wf_cons.2 ⟨h1, fun e he => h2 e (List.mem_filter.1 he).1, ih h3⟩
    · exact ih h3

theorem Bytes.wf_clearRange {m : Bytes} {a n : Nat} (h : m.wf = true) : (m.clearRange a n).wf = true := Bytes.wf_filter h

theorem Ring.wf_put {r : Ring} {i : Nat} {bs : List Byte} {m : Bytes} (h : m.wf = true) : (r.put m i bs).wf = true := by
  unfold Ring.put
  generalize (List.range bs.length).zip bs = l
  induction l generalizing m with
  | nil => exact h
  | cons k l ih => exact ih (Bytes.wf_write h)

theorem Bytes.read_above {m : Bytes} {a : Nat} (h : m.above a) : m.read a = unlistedByte := by
  induction m with
  | nil => rfl
  | cons c r ih =>
    have hc := h c (List.mem_cons_self ..)
    unfold Bytes.read
    rw [if_neg (by omega)]
    exact ih fun e he => h e (List.mem_cons_of_mem _ he)

/-- A read after a write to the same byte gives what was written. -/
theorem Bytes.read_write_same {m : Bytes} {a : Nat} {v : Byte} (h : m.wf = true) : (m.write a v).read a = v := by
  induction m with
  | nil => unfold Bytes.write; split <;> simp_all [Bytes.read]
  | cons c r ih =>
    obtain ⟨-, h2, h3⟩ := Bytes.wf_cons.1 h
    unfold Bytes.write
    split_ifs with p1 p2 p3 p4
    · rw [Bytes.read, if_neg (by omega)]; exact ih h3
    · rw [p3]; exact Bytes.read_above (p2 ▸ h2)
    · simp [Bytes.read]
    · have p5 : a < c.1 := by omega
      rw [p4]
      refine Bytes.read_above ?_
      intro e he
      rcases List.mem_cons.1 he with rfl | he
      · exact p5
      · exact Nat.lt_trans p5 (h2 e he)
    · simp [Bytes.read]

/-- A write leaves every other byte alone. -/
theorem Bytes.read_write_other {m : Bytes} {a b : Nat} {v : Byte} (h : b ≠ a) : (m.write a v).read b = m.read b := by
  induction m with
  | nil => unfold Bytes.write; split <;> simp [Bytes.read, Ne.symm h]
  | cons c r ih =>
    unfold Bytes.write
    split_ifs with p1 p2 p3 p4
    · simp only [Bytes.read]; rw [ih]
    · rw [Bytes.read, if_neg (by omega)]
    · simp only [Bytes.read]; rw [if_neg (by omega), if_neg (by omega)]
    · rfl
    · simp only [Bytes.read]; rw [if_neg (by omega)]

/-- Bytes outside a span of writes are unchanged. -/
theorem Bytes.read_writeN_other {vs : List Byte} : ∀ {m : Bytes} {a b : Nat}, (b < a ∨ a + vs.length ≤ b) →
    (m.writeN a vs).read b = m.read b := by
  induction vs with
  | nil => intros; rfl
  | cons v vs ih =>
    intro m a b h
    simp only [List.length_cons] at h
    rw [Bytes.writeN, ih (by omega), Bytes.read_write_other (by omega)]

end Sys2Proof.Machine
end

