-- ==== Sys2Proof/Laws/Keeps.lean ====
section
/-! SUPPORT. What every operation of the model leaves alone or moves one way only: the queue, DT and TICK (but for a cold start,
`b` false), the canonical form of the memories, AUDIT_SEQ and the audit counters. -/

set_option Elab.async false

namespace Sys2Proof.Machine

/-- The audit counters are within 32 bits. -/
def Seal.counts32 (v : Seal) : Prop := ∀ k, vget v.counters k < 2 ^ 32

/-- No counter goes down. -/
def countersRise {n : Nat} (v w : Vector Nat n) : Prop := ∀ k, vget v k ≤ vget w k

/-- From `s` to `t`: the queue is the same; with `b`, so are DT and TICK; canonical memories stay so; AUDIT_SEQ
and the audit counters never go down (09 R316, R318). -/
structure Keeps (b : Bool) (s t : State) : Prop where
  pending : t.pending = s.pending
  dt : b = true → t.clk.acc = s.clk.acc ∧ t.clk.tick = s.clk.tick
  memory : s.memoryWf = true → t.memoryWf = true
  auditSeq : s.sealed.auditSeq ≤ t.sealed.auditSeq
  counters : s.sealed.counts32 → countersRise s.sealed.counters t.sealed.counters ∧ t.sealed.counts32

namespace Keeps

variable {b : Bool} {s0 s t : State}

theorem refl : Keeps b s s := ⟨rfl, fun _ => ⟨rfl, rfl⟩, id, le_rfl, fun h => ⟨fun _ => le_rfl, h⟩⟩

theorem trans (h : Keeps b s0 s) (k : Keeps b s t) : Keeps b s0 t :=
  ⟨k.pending.trans h.pending, fun e => ⟨(k.dt e).1.trans (h.dt e).1, (k.dt e).2.trans (h.dt e).2⟩, fun e => k.memory (h.memory e),
   h.auditSeq.trans k.auditSeq, fun e => ⟨fun n => ((h.counters e).1 n).trans ((k.counters (h.counters e).2).1 n), (k.counters (h.counters e).2).2⟩⟩

/-- A change of other fields. -/
theorem upd (h : Keeps b s0 s) (e1 : t.pending = s.pending) (e2 : t.clk.acc = s.clk.acc) (e3 : t.clk.tick = s.clk.tick)
    (e4 : t.mem = s.mem) (e5 : t.drumImages = s.drumImages) (e6 : t.domeImages = s.domeImages) (e7 : t.zoneLoad = s.zoneLoad)
    (e9 : t.sealed.auditSeq = s.sealed.auditSeq) (e10 : t.sealed.counters =
    s.sealed.counters) :
    Keeps b s0 t :=
  h.trans ⟨e1, fun _ => ⟨e2, e3⟩, fun h => by simpa [State.memoryWf, e4, e5, e6, e7] using h, 
    by rw [e9], fun h => by unfold Seal.counts32; rw [e10]; exact ⟨fun _ => le_rfl, h⟩⟩

/-- A change of the memories that keeps their form. -/
theorem updMem (h : Keeps b s0 s) (hm : s.memoryWf = true → t.memoryWf = true) (e1 : t.pending = s.pending)
    (e2 : t.clk.acc = s.clk.acc) (e3 : t.clk.tick = s.clk.tick)
    (e9 : t.sealed.auditSeq = s.sealed.auditSeq) (e10 : t.sealed.counters =
    s.sealed.counters) :
    Keeps b s0 t :=
  h.trans ⟨e1, fun _ => ⟨e2, e3⟩, hm, by rw [e9], fun h => by unfold Seal.counts32; rw [e10]; exact ⟨fun _ => le_rfl, h⟩⟩

/-- A state written out with other fields of `s`. -/
theorem mk_ {b : Bool} {s0 s : State} {free' : Nat} {ranks' : Vector Nat 10} {clk' : Clock} {cores' : Vector Core 8} {intc' :
    Vector IntSource 64} {timers' : Vector DrumTimer 4} {wdts' : Vector Watchdog 3} {pmon' : Pmon} {start' : TickStart} {evt' : Vector EvtInput 4}
    {evtHeld' : List OutRecord} {mmus' : Vector Mmu 4} {masters' : Vector Master 4} {dma' : DmaEngine} {rings' : Vector Ring 16}
    {interp' : Interp} {mbx' : Mailbox} {pwr' : Pwr} {ltimers' : Vector LanternTimer 4} {rlink' : Rlink} {boot' : Boot} {sealed'
    : Seal} {chain' : Chain} {hport' : Hport} {uarts' : Vector Uart 8} {cans' : Vector Can 2} {nav' : Nav} {input' : Inputs}
    {easel' : Easel} {trk' : Tracking} {tp' : Pulses} {cal' : Cal}
    (h : Keeps b s0 s) (e2 : clk'.acc = s.clk.acc) (e3 : clk'.tick = s.clk.tick)
    (e9 : sealed'.auditSeq = s.sealed.auditSeq) (e10 : sealed'.counters = s.sealed.counters) :
    Keeps b s0 (State.mk s.pending free' ranks' clk' cores' intc' timers' wdts' pmon' start' evt' evtHeld' s.mem mmus' masters' dma'
    rings' interp' mbx' s.drumImages s.domeImages s.zoneLoad pwr' ltimers' rlink' boot' sealed' chain' hport' uarts' cans' nav'
    input' easel' trk' tp' cal') :=
  h.upd rfl e2 e3 rfl rfl rfl rfl e9 e10

/-- The same with other memories, images and loads. -/
theorem mkMem_ {b : Bool} {s0 s : State} {free' : Nat} {ranks' : Vector Nat 10} {clk' : Clock} {cores' : Vector Core 8} {intc' :
    Vector IntSource 64} {timers' : Vector DrumTimer 4} {wdts' : Vector Watchdog 3} {pmon' : Pmon} {start' : TickStart} {evt' : Vector EvtInput 4}
    {evtHeld' : List OutRecord} {mem' : Mem} {mmus' : Vector Mmu 4} {masters' : Vector Master 4} {dma' : DmaEngine} {rings' :
    Vector Ring 16} {interp' : Interp} {mbx' : Mailbox} {drumImages' : Images} {domeImages' : Images} {zoneLoad' : Option Load}
    {pwr' : Pwr} {ltimers' : Vector LanternTimer 4} {rlink' : Rlink} {boot' : Boot} {sealed' : Seal} {chain' : Chain} {hport' :
    Hport} {uarts' : Vector Uart 8} {cans' : Vector Can 2} {nav' : Nav} {input' : Inputs} {easel' : Easel} {trk' : Tracking}
    {tp' : Pulses} {cal' : Cal}
    (h : Keeps b s0 s) (hm : s.mem.wf = true → mem'.wf = true) (h1 : s.drumImages.wf = true → drumImages'.wf = true)
    (h2 : s.domeImages.wf = true → domeImages'.wf = true) (h3 : loadWf s.zoneLoad = true → loadWf zoneLoad' = true)
    (e2 : clk'.acc = s.clk.acc) (e3 : clk'.tick = s.clk.tick)
    (e9 : sealed'.auditSeq = s.sealed.auditSeq) (e10 : sealed'.counters = s.sealed.counters) :
    Keeps b s0 (State.mk s.pending free' ranks' clk' cores' intc' timers' wdts' pmon' start' evt' evtHeld' mem' mmus' masters' dma'
    rings' interp' mbx' drumImages' domeImages' zoneLoad' pwr' ltimers' rlink' boot' sealed' chain' hport' uarts' cans' nav'
    input' easel' trk' tp' cal') := by
  refine h.updMem (fun hw => ?_) rfl e2 e3 e9 e10
  simp only [State.memoryWf, Bool.and_eq_true] at hw ⊢
  exact ⟨⟨⟨hm hw.1.1.1, h1 hw.1.1.2⟩, h2 hw.1.2⟩, h3 hw.2⟩

theorem foldl1 {α β : Type} {f : State × β → α → State × β} {l : List α} {r : State × β} (h : Keeps b s0 r.1)
    (hf : ∀ r a, Keeps b s0 r.1 → Keeps b s0 (f r a).1) : Keeps b s0 (l.foldl f r).1 := by
  induction l generalizing r with
  | nil => exact h
  | cons a l ih => exact ih (hf r a h)

theorem foldl {α : Type} {f : State → α → State} {l : List α} (h : Keeps b s0 s)
    (hf : ∀ s a, Keeps b s0 s → Keeps b s0 (f s a)) : Keeps b s0 (l.foldl f s) := by
  induction l generalizing s with
  | nil => exact h
  | cons a l ih => exact ih (hf s a h)

theorem forUpto {n : Nat} {f : Nat → State → State} (h : Keeps b s0 s)
    (hf : ∀ i s, Keeps b s0 s → Keeps b s0 (f i s)) : Keeps b s0 (forUpto n f s) := foldl h fun s i h => hf i s h

end Keeps

/-- What `Keeps` says of a pair with the state first, and last. -/
abbrev Keeps1 {α : Type} (b : Bool) (s0 : State) (r : State × α) : Prop := Keeps b s0 r.1

abbrev Keeps2 {α : Type} (b : Bool) (s0 : State) (r : α × State) : Prop := Keeps b s0 r.2

theorem Keeps.ite {b : Bool} {s0 s t : State} {c : Prop} [Decidable c] (h : Keeps b s0 s) (k : Keeps b s0 t) :
    Keeps b s0 (if c then s else t) := by
  split
  · exact h
  · exact k

theorem Keeps.fst {α : Type} {b : Bool} {s0 s : State} {a : α} {r : State × α} (h : Keeps1 b s0 r) (e : r = (s, a)) : Keeps b s0
    s := by
  subst e; exact h

theorem Keeps.snd {α : Type} {b : Bool} {s0 s : State} {a : α} {r : α × State} (h : Keeps2 b s0 r) (e : r = (a, s)) : Keeps b s0
    s := by
  subst e; exact h

/-- What `Keeps` says of an operation that may give no state. -/
structure KeepsW {ε : Type} (b : Bool) (s0 : State) (r : Except ε State) : Prop where
  out : ∀ t, r = .ok t → Keeps b s0 t

theorem KeepsW.ok {ε : Type} {b : Bool} {s0 s : State} (h : Keeps b s0 s) : KeepsW b s0 (.ok s : Except ε State) :=
  ⟨fun _ e => by cases e; exact h⟩

theorem KeepsW.error {ε : Type} {b : Bool} {s0 : State} {x : ε} : KeepsW b s0 (.error x : Except ε State) :=
  ⟨fun _ e => by cases e⟩

theorem Keeps.exc {ε : Type} {b : Bool} {s0 s : State} {r : Except ε State} (h : KeepsW b s0 r) (e : r = .ok s) : Keeps b s0 s := h.out s e

structure KeepsO {α : Type} (b : Bool) (s0 : State) (r : Option (State × α)) : Prop where
  out : ∀ t, r = some t → Keeps b s0 t.1

theorem KeepsO.some {α : Type} {b : Bool} {s0 s : State} {a : α} (h : Keeps b s0 s) : KeepsO b s0 (some (s, a)) :=
  ⟨fun _ e => by cases e; exact h⟩

theorem KeepsO.none {α : Type} {b : Bool} {s0 : State} : KeepsO b s0 (none : Option (State × α)) := ⟨fun _ e => by cases e⟩

theorem Keeps.opt {α : Type} {b : Bool} {s0 s : State} {a : α} {r : Option (State × α)} (h : KeepsO b s0 r) (e : r = some (s, a)) :
    Keeps b s0 s := h.out _ e

/-- What `Keeps` says of a triple with the state last. -/
abbrev Keeps3 {α β : Type} (b : Bool) (s0 : State) (r : α × β × State) : Prop := Keeps b s0 r.2.2

theorem Keeps.trd {α β : Type} {b : Bool} {s0 s : State} {x : α} {y : β} {r : α × β × State} (h : Keeps3 b s0 r)
    (e : r = (x, y, s)) : Keeps b s0 s := by
  subst e; exact h

/-- An optional result with the state last, and an optional state. -/
structure KeepsP {α : Type} (b : Bool) (s0 : State) (r : Option (α × State)) : Prop where
  out : ∀ t, r = some t → Keeps b s0 t.2

theorem KeepsP.some {α : Type} {b : Bool} {s0 s : State} {a : α} (h : Keeps b s0 s) : KeepsP b s0 (some (a, s)) :=
  ⟨fun _ e => by cases e; exact h⟩

theorem KeepsP.none {α : Type} {b : Bool} {s0 : State} : KeepsP b s0 (none : Option (α × State)) := ⟨fun _ e => by cases e⟩

theorem Keeps.optLast {α : Type} {b : Bool} {s0 s : State} {a : α} {r : Option (α × State)} (h : KeepsP b s0 r)
    (e : r = some (a, s)) : Keeps b s0 s := h.out _ e

structure KeepsQ (b : Bool) (s0 : State) (r : Option State) : Prop where
  out : ∀ t, r = some t → Keeps b s0 t

theorem KeepsQ.some {b : Bool} {s0 s : State} (h : Keeps b s0 s) : KeepsQ b s0 (some s) := ⟨fun _ e => by cases e; exact h⟩

theorem KeepsQ.none {b : Bool} {s0 : State} : KeepsQ b s0 none := ⟨fun _ e => by cases e⟩

theorem Keeps.optState {b : Bool} {s0 s : State} {r : Option State} (h : KeepsQ b s0 r) (e : r = some s) : Keeps b s0 s := h.out _ e

/-- A meaning's outcome: a next state, or the one refusal. -/
inductive KeepsR (b : Bool) (s0 : State) : Res → Prop where
  | next {s : State} (h : Keeps b s0 s) : KeepsR b s0 (.next s)
  | refused : KeepsR b s0 (.refused .domeIo)

theorem KeepsR.after {b : Bool} {s0 s : State} {r : Res} (h : Keeps b s0 s) (k : KeepsR b s r) : KeepsR b s0 r := by
  cases k with
  | next k => exact .next (h.trans k)
  | refused => exact .refused

/-- A value of the state, taken for itself. -/
theorem Keeps.gen {b : Bool} {s0 : State} {p : Prop} (v : State) (hv : Keeps b s0 v) (h : Keeps b s0 v → p) : p := h hv

theorem Keeps.gen1 {α : Type} {b : Bool} {s0 : State} {p : Prop} (v : State × α) (hv : Keeps1 b s0 v) (h : Keeps1 b s0 v → p) :
    p := h hv

theorem Keeps.checked {b : Bool} {s0 s : State} {l : List (Bool × Ans)} {k : State × Ans} (h : Keeps b s0 s) (hk : Keeps1 b s0
    k) :
    Keeps1 b s0 (checked s l k) := by
  unfold Machine.checked; split
  · exact h
  · exact hk

/-! Functions of the seal's state that leave AUDIT_SEQ and the counters alone. -/

theorem Seal.advance_auditSeq {v : Seal} {p a : Accepted} : (v.advance p a).auditSeq = v.auditSeq := by
  unfold Seal.advance; split <;> rfl

theorem Seal.advance_counters {v : Seal} {p a : Accepted} : (v.advance p a).counters = v.counters := by
  unfold Seal.advance; split <;> rfl

/-! Images and loads keep their form. -/

theorem loadWf_put {o : Option Load} {a : Nat} {bs : List Byte} (h : loadWf o = true) : loadWf (o.map fun l => l.put a bs) = true := by
  cases o with
  | none => rfl
  | some l => exact Bytes.wf_writeN h

theorem loadWf_check {o : Option Load} {c : Option Nat} (h : loadWf o = true) : loadWf (o.map fun l => { l with check := c }) = true := by
  cases o with
  | none => rfl
  | some l => exact h

theorem Images.wf_iff {i : Images} : i.wf = true ↔ Bytes.wf i.a.data = true ∧ Bytes.wf i.b.data = true ∧ loadWf i.load = true := by
  simp [Images.wf, and_assoc]

theorem Images.wf_setSlot {i : Images} {b : Bool} {v : ImageSlot} (h : i.wf = true) (hv : Bytes.wf v.data = true) :
    (i.setSlot b v).wf = true := by
  obtain ⟨h1, h2, h3⟩ := wf_iff.1 h
  cases b
  · exact wf_iff.2 ⟨hv, h2, h3⟩
  · exact wf_iff.2 ⟨h1, hv, h3⟩

theorem Images.wf_spoil {i : Images} (h : i.wf = true) : i.spoil.wf = true := by
  obtain ⟨h1, h2, -⟩ := wf_iff.1 h
  refine wf_setSlot h ?_
  show Bytes.wf i.other.data = true
  unfold Images.other Images.slot
  split
  · exact h2
  · exact h1

theorem Images.wf_load {i : Images} {o : Option Load} {a : Bool} {t : Option Nat} (h : i.wf = true) (ho : loadWf o = true) :
    Images.wf { i with load := o, active := a, trial := t } = true := by
  obtain ⟨h1, h2, -⟩ := wf_iff.1 h
  exact wf_iff.2 ⟨h1, h2, ho⟩

theorem Images.wf_closed {i : Images} {a : Bool} {t : Option Nat} (h : i.wf = true) :
    Images.wf { i with load := none, active := a, trial := t } = true := wf_load h rfl

theorem Images.wf_begun {i : Images} {n : Nat} {sha : List Byte} (h : i.wf = true) :
    Images.wf { i.spoil with load := some { length := n, sha := sha } } = true := wf_load (wf_spoil h) rfl

theorem Images.wf_put {i : Images} {a : Nat} {bs : List Byte} (h : i.wf = true) :
    Images.wf { i with load := i.load.map fun l => l.put a bs } = true := wf_load h (loadWf_put (wf_iff.1 h).2.2)

theorem Images.wf_check {i : Images} {c : Option Nat} (h : i.wf = true) :
    Images.wf { i with load := i.load.map fun l => { l with check := c } } = true := wf_load h (loadWf_check (wf_iff.1 h).2.2)

end Sys2Proof.Machine
end

