-- ==== Sys2Proof/Laws/KeepsOps.lean ====
section
/-! SUPPORT. What the operations of Machine/Ops.lean keep (`Keeps`). -/

set_option Elab.async false

namespace Sys2Proof.Machine

set_option linter.all false
set_option maxRecDepth 20000

theorem keeps_State_modPwr {b : Bool} {s0 s : State} {x1} (h : Keeps b s0 s) : Keeps b s0 (State.modPwr s x1) := by
  unfold State.modPwr
  repeat' (first
    | with_reducible assumption | (extract_lets +onlyGivenNames x) | exact rfl | with_reducible apply Keeps.mk_)

theorem keeps_State_endCommand {b : Bool} {s0 s : State} {x1} (h : Keeps b s0 s) : Keeps b s0 (State.endCommand s x1) := by
  unfold State.endCommand
  repeat' (first
    | with_reducible assumption | (extract_lets +onlyGivenNames x) | exact rfl | with_reducible apply Keeps.mk_)

theorem keeps_State_endOption {b : Bool} {s0 s : State} {x1} (h : Keeps b s0 s) : Keeps b s0 (State.endOption s x1) := by
  unfold State.endOption
  repeat' (first | with_reducible assumption | with_reducible apply keeps_State_endCommand | split)

theorem keeps_State_count {b : Bool} {s0 s : State} {x1} (h : Keeps b s0 s) : Keeps b s0 (State.count s x1) := by
  unfold State.count
  repeat' (first
    | with_reducible assumption | (extract_lets +onlyGivenNames x) | exact rfl | with_reducible apply Keeps.mk_)

theorem keeps_State_modRing {b : Bool} {s0 s : State} {x1} {x2} (h : Keeps b s0 s) : Keeps b s0 (State.modRing s x1 x2) := by
  unfold State.modRing
  repeat' (first
    | with_reducible assumption | (extract_lets +onlyGivenNames x) | exact rfl | with_reducible apply Keeps.mk_)

theorem keeps_State_produce {b : Bool} {s0 s : State} {n} {bs} (h : Keeps b s0 s) : Keeps b s0 (s.produce n bs) := by
  refine h.updMem (fun hw => ?_) rfl rfl rfl rfl rfl
  simp only [State.memoryWf, Mem.wf, State.produce, State.modRing, Bool.and_eq_true] at hw ⊢
  obtain ⟨⟨⟨⟨⟨⟨⟨h1, h2⟩, h3⟩, h4⟩, h5⟩, h6⟩, h7⟩, h8⟩ := hw
  exact ⟨⟨⟨⟨⟨⟨⟨Ring.wf_put h1, h2⟩, h3⟩, h4⟩, h5⟩, h6⟩, h7⟩, h8⟩

theorem keeps_State_sendReply {b : Bool} {s0 s : State} {x1} {x2} {x3} (h : Keeps b s0 s) : Keeps b s0 (State.sendReply s x1 x2 x3) := by
  unfold State.sendReply
  repeat' (first
    | with_reducible assumption | with_reducible apply keeps_State_endOption | with_reducible apply keeps_State_count
    | with_reducible apply keeps_State_produce | with_reducible apply keeps_State_modRing
    | (extract_lets +onlyGivenNames x) | split)

theorem keeps_State_claim {b : Bool} {s0 s : State} {x1} (h : Keeps b s0 s) : Keeps2 b s0 (State.claim s x1) := by
  unfold State.claim
  repeat' (first
    | with_reducible assumption | (extract_lets +onlyGivenNames x) | exact rfl | with_reducible apply Keeps.mk_)

theorem keeps_State_domeRecord {b : Bool} {s0 s : State} {x1} {x2} {x3} {x4} {x5} (h : Keeps b s0 s) : Keeps b s0 (State.domeRecord s x1 x2 x3 x4 x5) := by
  unfold State.domeRecord
  repeat' (first
    | with_reducible assumption | (extract_lets +onlyGivenNames x) | split | exact rfl | with_reducible apply Keeps.mk_)

theorem keeps_State_powerDomains {b : Bool} {s0 s : State} {x1} (h : Keeps b s0 s) : Keeps b s0 (State.powerDomains s x1) := by
  unfold State.powerDomains
  repeat' (first
    | with_reducible assumption | with_reducible apply keeps_State_modPwr
    | with_reducible refine Keeps.foldl ?_ (fun s a h => ?_) | (extract_lets +onlyGivenNames x) | split)

theorem keeps_State_draw {b : Bool} {s0 s : State}  (h : Keeps b s0 s) : Keeps2 b s0 (State.draw s) := by
  unfold State.draw
  repeat' (first
    | with_reducible assumption | (extract_lets +onlyGivenNames x) | exact rfl | with_reducible apply Keeps.mk_)

theorem keeps_State_modRlink {b : Bool} {s0 s : State} {x1} (h : Keeps b s0 s) : Keeps b s0 (State.modRlink s x1) := by
  unfold State.modRlink
  repeat' (first
    | with_reducible assumption | (extract_lets +onlyGivenNames x) | exact rfl | with_reducible apply Keeps.mk_)

theorem keeps_State_forgetSent {b : Bool} {s0 s : State} {x1} (h : Keeps b s0 s) : Keeps b s0 (State.forgetSent s x1) := by
  unfold State.forgetSent
  repeat' (first
    | with_reducible assumption

    | with_reducible apply KeepsR.next
    | with_reducible apply KeepsR.refused
    | with_reducible apply KeepsW.ok
    | with_reducible apply KeepsW.error
    | with_reducible apply KeepsO.some
    | with_reducible apply KeepsO.none
    | with_reducible apply KeepsP.some
    | with_reducible apply KeepsP.none
    | with_reducible apply KeepsQ.some
    | with_reducible apply KeepsQ.none
    | with_reducible apply Keeps.checked
    | with_reducible refine Keeps.foldl ?_ (fun s a h => ?_)
    | with_reducible refine Keeps.foldl1 ?_ (fun r a h => ?_)
    | with_reducible refine Keeps.forUpto ?_ (fun i s h => ?_)
    | (extract_lets +onlyGivenNames x; refine Keeps.gen x ?_ (fun hx => ?_) <;> [dsimp only [x]; try clear_value x])
    | (extract_lets +onlyGivenNames x; refine Keeps.gen1 x ?_ (fun hx => ?_) <;> [dsimp only [x]; try clear_value x])
    | (extract_lets +onlyGivenNames x)
    | (refine Keeps.fst ?_ (by with_reducible assumption))
    | (refine Keeps.snd ?_ (by with_reducible assumption))
    | (refine Keeps.exc ?_ (by with_reducible assumption))
    | (refine Keeps.opt ?_ (by with_reducible assumption))
    | (refine Keeps.trd ?_ (by with_reducible assumption))
    | (refine Keeps.optLast ?_ (by with_reducible assumption))
    | (refine Keeps.optState ?_ (by with_reducible assumption))
    | split
    | exact rfl
    | (dsimp +zetaDelta only; split)
    | with_reducible apply Keeps.mk_
    | with_reducible apply Keeps.mkMem_
    | exact id
    | exact fun _ => rfl
    | exact loadWf_put
    | exact loadWf_check
    | exact Images.wf_closed
    | exact Images.wf_begun
    | exact Images.wf_put
    | exact Images.wf_check)

theorem keeps_State_offer {b : Bool} {s0 s : State} {x1} {x2} {x3} {x4} (h : Keeps b s0 s) : Keeps b s0 (State.offer s x1 x2 x3 x4) := by
  unfold State.offer
  repeat' (first
    | with_reducible assumption | with_reducible apply keeps_State_count | with_reducible apply keeps_State_modRing
    | with_reducible apply keeps_State_produce | (extract_lets +onlyGivenNames x) | split)

theorem keeps_State_releaseHeld {b : Bool} {s0 s : State}  (h : Keeps b s0 s) : Keeps b s0 (State.releaseHeld s) := by
  unfold State.releaseHeld
  repeat' (first
    | with_reducible assumption | with_reducible apply keeps_State_offer
    | with_reducible refine Keeps.foldl ?_ (fun s a h => ?_) | (extract_lets +onlyGivenNames x) | split | exact rfl
    | with_reducible apply Keeps.mk_)

theorem keeps_State_modBoot {b : Bool} {s0 s : State} {x1} (h : Keeps b s0 s) : Keeps b s0 (State.modBoot s x1) := by
  unfold State.modBoot
  repeat' (first
    | with_reducible assumption | (extract_lets +onlyGivenNames x) | exact rfl | with_reducible apply Keeps.mk_)

theorem keeps_State_holdRecord {b : Bool} {s0 s : State} {x1} {x2} {x3} {x4} (h : Keeps b s0 s) : Keeps b s0 (State.holdRecord s x1 x2 x3 x4) := by
  unfold State.holdRecord
  repeat' (first
    | with_reducible assumption

    | with_reducible apply KeepsR.next
    | with_reducible apply KeepsR.refused
    | with_reducible apply KeepsW.ok
    | with_reducible apply KeepsW.error
    | with_reducible apply KeepsO.some
    | with_reducible apply KeepsO.none
    | with_reducible apply KeepsP.some
    | with_reducible apply KeepsP.none
    | with_reducible apply KeepsQ.some
    | with_reducible apply KeepsQ.none
    | with_reducible apply Keeps.checked
    | with_reducible refine Keeps.foldl ?_ (fun s a h => ?_)
    | with_reducible refine Keeps.foldl1 ?_ (fun r a h => ?_)
    | with_reducible refine Keeps.forUpto ?_ (fun i s h => ?_)
    | (extract_lets +onlyGivenNames x; refine Keeps.gen x ?_ (fun hx => ?_) <;> [dsimp only [x]; try clear_value x])
    | (extract_lets +onlyGivenNames x; refine Keeps.gen1 x ?_ (fun hx => ?_) <;> [dsimp only [x]; try clear_value x])
    | (extract_lets +onlyGivenNames x)
    | (refine Keeps.fst ?_ (by with_reducible assumption))
    | (refine Keeps.snd ?_ (by with_reducible assumption))
    | (refine Keeps.exc ?_ (by with_reducible assumption))
    | (refine Keeps.opt ?_ (by with_reducible assumption))
    | (refine Keeps.trd ?_ (by with_reducible assumption))
    | (refine Keeps.optLast ?_ (by with_reducible assumption))
    | (refine Keeps.optState ?_ (by with_reducible assumption))
    | split
    | exact rfl
    | (dsimp +zetaDelta only; split)
    | with_reducible apply Keeps.mk_
    | with_reducible apply Keeps.mkMem_
    | exact id
    | exact fun _ => rfl
    | exact loadWf_put
    | exact loadWf_check
    | exact Images.wf_closed
    | exact Images.wf_begun
    | exact Images.wf_put
    | exact Images.wf_check)

theorem keeps_State_drumRecord {b : Bool} {s0 s : State} {x1} {x2} {x3} {x4} {x5} (h : Keeps b s0 s) : Keeps b s0 (State.drumRecord s x1 x2 x3 x4 x5) := by
  unfold State.drumRecord
  repeat' (first | with_reducible assumption | with_reducible apply keeps_State_offer)

theorem keeps_State_sramWrite {b : Bool} {s0 s : State} {a} {bs} (h : Keeps b s0 s) : Keeps b s0 (s.sramWrite a bs) := by
  refine h.updMem (fun hw => ?_) rfl rfl rfl rfl rfl
  simp only [State.memoryWf, Mem.wf, State.sramWrite, Bool.and_eq_true] at hw ⊢
  obtain ⟨⟨⟨⟨⟨⟨⟨h1, h2⟩, h3⟩, h4⟩, h5⟩, h6⟩, h7⟩, h8⟩ := hw
  exact ⟨⟨⟨⟨⟨⟨⟨Bytes.wf_writeN h1, h2⟩, h3⟩, h4⟩, h5⟩, h6⟩, h7⟩, h8⟩

end Sys2Proof.Machine
end

