-- ==== Sys2Proof/Laws/KeepsOperands.lean ====
section
/-! SUPPORT. What the operations of Machine/Operands.lean keep (`Keeps`). -/

set_option Elab.async false

namespace Sys2Proof.Machine

set_option linter.all false
set_option maxRecDepth 20000

theorem keeps_State_finalReply {b : Bool} {s0 s : State} {x1} {x2} {x3} {x4} (h : Keeps b s0 s) : Keeps b s0 (State.finalReply s x1 x2 x3 x4) := by
  unfold State.finalReply
  repeat' (first
    | with_reducible assumption | with_reducible apply keeps_State_endCommand | with_reducible apply keeps_State_sendReply
    | split)

theorem keeps_State_take {b : Bool} {s0 s : State} {x1} (h : Keeps b s0 s) : Keeps b s0 (State.take s x1) := by
  unfold State.take
  repeat' (first
    | with_reducible assumption | with_reducible apply keeps_State_modRing | with_reducible apply keeps_State_count
    | with_reducible refine Keeps.forUpto ?_ (fun i s h => ?_) | (extract_lets +onlyGivenNames x) | split | exact rfl
    | (dsimp +zetaDelta only; split) | with_reducible apply Keeps.mk_)

theorem keeps_State_reject {b : Bool} {s0 s : State} {x1} {x2} {x3} {x4} (h : Keeps b s0 s) : Keeps b s0 (State.reject s x1 x2 x3 x4) := by
  unfold State.reject
  repeat' (first
    | with_reducible assumption | with_reducible apply keeps_State_count | with_reducible apply keeps_State_sendReply
    | (extract_lets +onlyGivenNames x) | exact rfl | with_reducible apply Keeps.mk_)

theorem keeps_State_acceptedReply {b : Bool} {s0 s : State} {x1} (h : Keeps b s0 s) : Keeps b s0 (State.acceptedReply s x1) := by
  unfold State.acceptedReply
  repeat' (first | with_reducible assumption | with_reducible apply keeps_State_sendReply | split)

theorem keeps_State_answer {b : Bool} {s0 s : State} {x1} {x2} (h : Keeps b s0 s) : Keeps b s0 (State.answer s x1 x2) := by
  unfold State.answer
  repeat' (first
    | with_reducible assumption | with_reducible apply keeps_State_finalReply
    | with_reducible apply keeps_State_acceptedReply | split)

theorem keeps_State_interpret {b : Bool} {s0 s : State} {body : Body} {q} {bs} (h : Keeps b s0 s)
    (hb : ∀ c s, Keeps b s0 s → Keeps1 b s0 (body c s)) : Keeps b s0 (s.interpret body q bs) := by
  unfold State.interpret
  have ht : Keeps b s0 (s.take q) := keeps_State_take h
  dsimp only
  split
  · exact keeps_State_reject ht
  · split
    · exact ht
    · have hi : ∀ i, Keeps b s0 { s.take q with interp := i } := fun i =>
        ht.upd rfl rfl rfl rfl rfl rfl rfl rfl rfl
      split
      · exact keeps_State_finalReply (hi _)
      · exact keeps_State_answer (hb _ _ (hi _))

theorem keeps_hostCommand {b : Bool} {s0 s : State} {isRow} {body : Body} {t} (h : Keeps b s0 s)
    (hb : ∀ c s, Keeps b s0 s → Keeps1 b s0 (body c s)) : KeepsR b s0 (hostCommand isRow body t s) := by
  unfold hostCommand
  dsimp only
  split
  · exact .next (keeps_State_interpret h hb)
  · exact .next h

theorem keeps_State_finalOption {b : Bool} {s0 s : State} {x1} {x2} {x3} {x4} (h : Keeps b s0 s) : Keeps b s0 (State.finalOption s x1 x2 x3 x4) := by
  unfold State.finalOption
  repeat' (first | with_reducible assumption | with_reducible apply keeps_State_finalReply | split)

theorem keeps_execMalformedTransaction {b : Bool} {s0 s : State} {x0} (h : Keeps b s0 s) : KeepsR b s0 (execMalformedTransaction x0 s) := by
  unfold execMalformedTransaction
  repeat' (first
    | with_reducible assumption | with_reducible apply keeps_State_reject | with_reducible apply keeps_State_take
    | with_reducible apply KeepsR.next | split)

theorem keeps_execUndefinedOpcode {b : Bool} {s0 s : State} {x0} (h : Keeps b s0 s) : KeepsR b s0 (execUndefinedOpcode x0 s) := by
  unfold execUndefinedOpcode
  repeat' (first | with_reducible assumption | with_reducible refine keeps_hostCommand ?_ (fun c s h => ?_))

theorem keeps_execReplyRelease {b : Bool} {s0 s : State} {x0} (h : Keeps b s0 s) : KeepsR b s0 (execReplyRelease x0 s) := by
  unfold execReplyRelease
  repeat' (first
    | with_reducible assumption | with_reducible apply keeps_State_endOption | with_reducible apply keeps_State_count
    | with_reducible apply keeps_State_produce | with_reducible apply keeps_State_modRing
    | with_reducible apply KeepsR.next | (extract_lets +onlyGivenNames x) | split | exact rfl
    | with_reducible apply Keeps.mk_)

end Sys2Proof.Machine
end

