-- ==== Sys2Proof/Laws/KeepsVarnish.lean ====
section
/-! SUPPORT. What the operations of Machine/Varnish.lean keep (`Keeps`). -/

set_option Elab.async false

namespace Sys2Proof.Machine

set_option linter.all false
set_option maxRecDepth 20000

theorem keeps_State_modSeal {b : Bool} {s0 s : State} {f : Seal → Seal} (h : Keeps b s0 s)
    (e : (f s.sealed).auditSeq = s.sealed.auditSeq) (k : (f s.sealed).counters = s.sealed.counters) : Keeps b s0 (s.modSeal f) :=
  h.upd rfl rfl rfl rfl rfl rfl rfl e k

/-- Counting one audit counter. -/

theorem counters_count {v : Vector Nat 18} {k : Nat} (h : ∀ i, vget v i < 2 ^ 32) :
    countersRise v (vmod v k sat32) ∧ ∀ i, vget (vmod v k sat32) i < 2 ^ 32 := by
  have hk : ∀ i, vget (vmod v k sat32) i = if i = k ∧ k < 18 then sat32 (vget v k) else vget v i := by
    intro i
    simp only [vget, vmod, vset, Vector.getD]
    by_cases hi : i < 18
    · by_cases hik : k = i
      · subst hik; simp [hi]
      · have : ¬ i = k := fun e => hik e.symm
        simp [hi, hik, this]
    · have : ¬ (i = k ∧ k < 18) := by rintro ⟨rfl, h⟩; exact hi h
      simp [hi, this]
  constructor
  · intro i
    rw [hk]
    split
    · rename_i e
      have := h k
      rw [e.1]; unfold sat32 satAdd; omega
    · exact le_rfl
  · intro i
    rw [hk]
    split
    · unfold sat32 satAdd; omega
    · exact h i

theorem keeps_countOne {b : Bool} {s0 s t : State} (k : Nat) (h : Keeps b s0 s) (e1 : t.pending = s.pending)
    (e2 : t.clk.acc = s.clk.acc) (e3 : t.clk.tick = s.clk.tick) (e4 : t.memoryWf = s.memoryWf)
    (e : s.sealed.auditSeq ≤ t.sealed.auditSeq) (hk : t.sealed.counters = vmod s.sealed.counters k sat32) : Keeps b s0 t :=
  h.trans ⟨e1, fun _ => ⟨e2, e3⟩, fun h => by rw [e4]; exact h, e, fun hc => by
    unfold Seal.counts32
    rw [hk]; exact counters_count hc⟩

theorem keeps_State_writeEntry {b : Bool} {s0 s : State} {x1} {x2} {x3} {x4} {x5} {x6} (h : Keeps b s0 s) :
    Keeps b s0 (State.writeEntry s x1 x2 x3 x4 x5 x6) := by
  unfold State.writeEntry State.modSeal
  exact keeps_countOne 0 h rfl rfl rfl rfl (Nat.le_succ s.sealed.auditSeq) rfl

/-- An audit counter counts. -/

theorem keeps_counted {b : Bool} {s0 s : State} {x : Option Nat} (h : Keeps b s0 s) : Keeps b s0 (match x with
    | none => s
    | some r => s.modSeal fun v => { v with counters := vmod v.counters r sat32 }) := by
  cases x with
  | none => exact h
  | some r => exact keeps_countOne r h rfl rfl rfl rfl le_rfl rfl

theorem keeps_overflow {b : Bool} {s0 s : State} {dt} (h : Keeps b s0 s) : Keeps b s0 (s.modSeal fun v =>
      { v with counters := vmod v.counters 17 sat32, overflowed := true, notEntered := v.notEntered + 1,
               notEnteredDt := dt }) := keeps_countOne 17 h rfl rfl rfl rfl le_rfl rfl

theorem keeps_State_audit {b : Bool} {s0 s : State} {x1} {x2} {x3} {x4} {x5} {x6} {x7} (h : Keeps b s0 s) :
    Keeps b s0 (State.audit s x1 x2 x3 x4 x5 x6 x7) := by
  unfold State.audit
  extract_lets +onlyGivenNames x
  have h1 : Keeps b s0 x := keeps_counted (x := x2) h
  split
  · exact keeps_State_writeEntry h1
  · extract_lets y
    have h2 : Keeps b s0 y := by
      dsimp only [y]
      split
      · exact keeps_State_writeEntry h1
      · exact h1
    exact keeps_overflow h2

theorem keeps_execVarnishRecordOffer {b : Bool} {s0 s : State}  (h : Keeps b s0 s) : KeepsR b s0 (execVarnishRecordOffer s) := by
  unfold execVarnishRecordOffer
  repeat' (first
    | with_reducible assumption | with_reducible apply keeps_State_offer | with_reducible apply keeps_State_modSeal
    | with_reducible apply KeepsR.next | (extract_lets +onlyGivenNames x) | split | exact rfl)

theorem keeps_execMailboxOutputDelivery {b : Bool} {s0 s : State}  (h : Keeps b s0 s) : KeepsR b s0 (execMailboxOutputDelivery s) := by
  unfold execMailboxOutputDelivery
  repeat' (first
    | with_reducible assumption | with_reducible apply keeps_State_modRing | with_reducible apply keeps_State_releaseHeld
    | with_reducible apply keeps_State_offer | with_reducible apply KeepsR.next | (extract_lets +onlyGivenNames x) | split
    | exact rfl | (dsimp +zetaDelta only; split) | with_reducible apply Keeps.mk_)

theorem keeps_execMailboxPacketTake {b : Bool} {s0 s : State} {x0} {x1} (h : Keeps b s0 s) : KeepsR b s0 (execMailboxPacketTake x0 x1 s) := by
  unfold execMailboxPacketTake
  repeat' (first
    | with_reducible assumption | with_reducible apply KeepsR.next | (extract_lets +onlyGivenNames x) | split | exact rfl
    | with_reducible apply Keeps.mk_)

theorem keeps_State_mailboxWrite {b : Bool} {s0 s : State} {x0} {x1} {x2} {x3} {x4} (h : Keeps b s0 s) :
    Keeps b s0 (s.mailboxWrite x0 x1 x2 x3 x4) := by
  refine h.updMem (fun hw => ?_) rfl rfl rfl rfl rfl
  simp only [State.memoryWf, Mem.wf, State.mailboxWrite, Bool.and_eq_true] at hw ⊢
  obtain ⟨⟨⟨⟨⟨⟨⟨h1, h2⟩, h3⟩, h4⟩, h5⟩, h6⟩, h7⟩, h8⟩ := hw
  have hp : ∀ (m : Bytes) (k : Nat), m.wf = true →
      Bytes.wf (if x1.getLsbD k then m.write (4 * x0.toNat + k) (lane x3 k)
        else if x2.getLsbD k then m.write (4 * x0.toNat + k) (lane x4 k) else m) = true := by
    intro m k hm
    split
    · exact Bytes.wf_write hm
    · split
      · exact Bytes.wf_write hm
      · exact hm
  exact ⟨⟨⟨⟨⟨⟨⟨h1, hp _ _ (hp _ _ (hp _ _ (hp _ _ h2)))⟩, h3⟩, h4⟩, h5⟩, h6⟩, h7⟩, h8⟩

theorem keeps_State_collided {b : Bool} {s0 s : State} {x0} {x1} (h : Keeps b s0 s) : Keeps b s0 (s.collided x0 x1) := by
  unfold State.collided
  have h1 : ∀ m, Keeps b s0 ({ s with mbx := m }.count 58) := fun m =>
    keeps_State_count (h.upd rfl rfl rfl rfl rfl rfl rfl rfl rfl)
  exact keeps_countOne 12 (h1 _) rfl rfl rfl rfl le_rfl rfl

theorem keeps_execMailboxCollision {b : Bool} {s0 s : State} {x0} {x1} {x2} {x3} {x4} (h : Keeps b s0 s) : KeepsR b s0 (execMailboxCollision x0 x1 x2 x3 x4 s) := by
  unfold execMailboxCollision
  repeat' (first
    | with_reducible assumption | with_reducible apply keeps_State_mailboxWrite | with_reducible apply keeps_State_collided
    | with_reducible apply keeps_State_claim | with_reducible apply keeps_State_audit | with_reducible apply KeepsR.next
    | (extract_lets +onlyGivenNames x) | split | exact rfl | with_reducible apply Keeps.mk_)

theorem keeps_State_recordDue {b : Bool} {s0 s : State} {x1} (h : Keeps b s0 s) : Keeps b s0 (State.recordDue s x1) := by
  unfold State.recordDue
  repeat' (first
    | with_reducible assumption | with_reducible apply keeps_State_modSeal | with_reducible apply keeps_State_audit
    | (extract_lets +onlyGivenNames x) | split | exact rfl)

theorem keeps_State_gapRecord {b : Bool} {s0 s : State} {x1} {x2} {x3} {x4} {x5} {x6} {x7} {x8} (h : Keeps b s0 s) : Keeps b s0 (State.gapRecord s x1 x2 x3 x4 x5 x6 x7 x8) := by
  unfold State.gapRecord
  repeat' (first
    | with_reducible assumption | with_reducible apply keeps_State_modSeal | with_reducible apply keeps_State_recordDue
    | (extract_lets +onlyGivenNames x) | exact rfl)

theorem keeps_State_crossingRecord {b : Bool} {s0 s : State} {x1} {x2} {x3} {x4} {x5} {x6} {x7} (h : Keeps b s0 s) : Keeps b s0 (State.crossingRecord s x1 x2 x3 x4 x5 x6 x7) := by
  unfold State.crossingRecord
  repeat' (first | with_reducible assumption | with_reducible apply keeps_State_recordDue | split)

theorem keeps_State_zonesAt {b : Bool} {s0 s : State} {x1} {x2} {x3} {x4} (h : Keeps b s0 s) : Keeps b s0 (State.zonesAt s x1 x2 x3 x4) := by
  unfold State.zonesAt
  repeat' (first
    | with_reducible assumption | with_reducible apply keeps_State_modSeal
    | with_reducible apply keeps_State_crossingRecord | with_reducible refine Keeps.forUpto ?_ (fun i s h => ?_)
    | (extract_lets +onlyGivenNames x) | split | exact rfl)

theorem keeps_State_markOdo {b : Bool} {s0 s : State} {x1} (h : Keeps b s0 s) : Keeps b s0 (State.markOdo s x1) := by
  unfold State.markOdo
  repeat' (first
    | with_reducible assumption | with_reducible apply keeps_State_modSeal | (extract_lets +onlyGivenNames x) | split
    | exact rfl)

theorem keeps_State_commitOdo {b : Bool} {s0 s : State}  (h : Keeps b s0 s) : Keeps b s0 (State.commitOdo s) := by
  unfold State.commitOdo
  repeat' (first
    | with_reducible assumption | with_reducible apply keeps_State_modSeal | (extract_lets +onlyGivenNames x) | exact rfl)

theorem keeps_State_acceptSolution {b : Bool} {s0 s : State} {x1} {x2} {x3} (h : Keeps b s0 s) : Keeps b s0 (State.acceptSolution s x1 x2 x3) := by
  unfold State.acceptSolution
  repeat' (first
    | with_reducible assumption | with_reducible apply keeps_State_modSeal | with_reducible apply keeps_State_gapRecord
    | with_reducible apply keeps_State_zonesAt | with_reducible apply keeps_State_recordDue
    | with_reducible apply keeps_State_markOdo | with_reducible apply keeps_State_commitOdo
    | (extract_lets +onlyGivenNames x) | split | exact rfl | exact Seal.advance_auditSeq | exact Seal.advance_counters
    | (dsimp +zetaDelta only; split))

theorem keeps_State_rejectSolution {b : Bool} {s0 s : State} {x1} {x2} (h : Keeps b s0 s) : Keeps b s0 (State.rejectSolution s x1 x2) := by
  unfold State.rejectSolution
  repeat' (first
    | with_reducible assumption | with_reducible apply keeps_State_modSeal | with_reducible apply keeps_State_markOdo
    | (extract_lets +onlyGivenNames x) | split | exact rfl)

theorem keeps_State_signOldest {b : Bool} {s0 s : State}  (h : Keeps b s0 s) : Keeps b s0 (State.signOldest s) := by
  unfold State.signOldest
  repeat' (first
    | with_reducible assumption | with_reducible apply keeps_State_draw | with_reducible apply keeps_State_modSeal
    | with_reducible apply keeps_State_audit | (extract_lets +onlyGivenNames x)
    | (refine Keeps.snd ?_ (by with_reducible assumption)) | split | exact rfl)

theorem keeps_execSignatureComplete {b : Bool} {s0 s : State}  (h : Keeps b s0 s) : KeepsR b s0 (execSignatureComplete s) := by
  unfold execSignatureComplete
  repeat' (first
    | with_reducible assumption | with_reducible apply keeps_State_signOldest | with_reducible apply KeepsR.next)

theorem keeps_execOdometerCommit {b : Bool} {s0 s : State}  (h : Keeps b s0 s) : KeepsR b s0 (execOdometerCommit s) := by
  unfold execOdometerCommit
  repeat' (first
    | with_reducible assumption | with_reducible apply keeps_State_commitOdo | with_reducible apply KeepsR.next | split)

theorem keeps_State_sealStateRecord {b : Bool} {s0 s : State} {x1} {x2} {x3} {x4} {x5} (h : Keeps b s0 s) : Keeps b s0 (State.sealStateRecord s x1 x2 x3 x4 x5) := by
  unfold State.sealStateRecord
  repeat' (first | with_reducible assumption | with_reducible apply keeps_State_recordDue)

theorem keeps_State_sealOpened {b : Bool} {s0 s : State} {x1} {x2} {x3} (h : Keeps b s0 s) : Keeps b s0 (State.sealOpened s x1 x2 x3) := by
  unfold State.sealOpened
  repeat' (first
    | with_reducible assumption | with_reducible apply keeps_State_claim | with_reducible apply keeps_State_modSeal
    | with_reducible apply keeps_State_audit | with_reducible apply keeps_State_sealStateRecord
    | (extract_lets +onlyGivenNames x) | split | exact rfl)

end Sys2Proof.Machine
end

