-- ==== Sys2Proof/Laws/KeepsDomeCmd.lean ====
section
/-! SUPPORT. What the operations of Machine/DomeCmd.lean keep (`Keeps`). -/

set_option Elab.async false

namespace Sys2Proof.Machine

set_option linter.all false
set_option maxRecDepth 20000

theorem keeps_query {b : Bool} {s0 s : State} {x0} {x1} (h : Keeps b s0 s) : Keeps1 b s0 (query x0 x1 s) := by
  unfold query
  repeat' (first | with_reducible assumption)

theorem keeps_State_enterChanges {b : Bool} {s0 s : State} {x1} (h : Keeps b s0 s) : Keeps b s0 (State.enterChanges s x1) := by
  unfold State.enterChanges
  repeat' (first
    | with_reducible assumption | with_reducible apply keeps_State_claim | with_reducible apply keeps_State_audit
    | with_reducible refine Keeps.foldl ?_ (fun s a h => ?_) | split)

theorem keeps_bodyDomeGetIdent {b : Bool} {s0 s : State} {x0} (h : Keeps b s0 s) : Keeps1 b s0 (bodyDomeGetIdent x0 s) := by
  unfold bodyDomeGetIdent
  repeat' (first | with_reducible assumption | with_reducible apply keeps_query)

theorem keeps_execDomeGetIdent {b : Bool} {s0 s : State} {x0} (h : Keeps b s0 s) : KeepsR b s0 (execDomeGetIdent x0 s) := by
  unfold execDomeGetIdent
  repeat' (first
    | with_reducible assumption | with_reducible refine keeps_hostCommand ?_ (fun c s h => ?_)
    | with_reducible apply keeps_bodyDomeGetIdent)

theorem keeps_bodyDomeGetCert {b : Bool} {s0 s : State} {x0} (h : Keeps b s0 s) : Keeps1 b s0 (bodyDomeGetCert x0 s) := by
  unfold bodyDomeGetCert
  repeat' (first | with_reducible assumption | with_reducible apply keeps_query)

theorem keeps_execDomeGetCert {b : Bool} {s0 s : State} {x0} (h : Keeps b s0 s) : KeepsR b s0 (execDomeGetCert x0 s) := by
  unfold execDomeGetCert
  repeat' (first
    | with_reducible assumption | with_reducible refine keeps_hostCommand ?_ (fun c s h => ?_)
    | with_reducible apply keeps_bodyDomeGetCert)

theorem keeps_bodyDomeSeal {b : Bool} {s0 s : State} {x0} (h : Keeps b s0 s) : Keeps1 b s0 (bodyDomeSeal x0 s) := by
  unfold bodyDomeSeal
  repeat' (first
    | with_reducible assumption | with_reducible apply keeps_State_claim | with_reducible apply keeps_State_modSeal
    | with_reducible apply keeps_State_audit | with_reducible apply keeps_State_sealStateRecord
    | with_reducible apply Keeps.checked | (extract_lets +onlyGivenNames x) | exact rfl)

theorem keeps_execDomeSeal {b : Bool} {s0 s : State} {x0} (h : Keeps b s0 s) : KeepsR b s0 (execDomeSeal x0 s) := by
  unfold execDomeSeal
  repeat' (first
    | with_reducible assumption | with_reducible refine keeps_hostCommand ?_ (fun c s h => ?_)
    | with_reducible apply keeps_bodyDomeSeal)

theorem keeps_bodyDomeGetCounters {b : Bool} {s0 s : State} {x0} (h : Keeps b s0 s) : Keeps1 b s0 (bodyDomeGetCounters x0 s) := by
  unfold bodyDomeGetCounters
  repeat' (first | with_reducible assumption | with_reducible apply keeps_query)

theorem keeps_execDomeGetCounters {b : Bool} {s0 s : State} {x0} (h : Keeps b s0 s) : KeepsR b s0 (execDomeGetCounters x0 s) := by
  unfold execDomeGetCounters
  repeat' (first
    | with_reducible assumption | with_reducible refine keeps_hostCommand ?_ (fun c s h => ?_)
    | with_reducible apply keeps_bodyDomeGetCounters)

theorem keeps_bodyDomeReadAudit {b : Bool} {s0 s : State} {x0} (h : Keeps b s0 s) : Keeps1 b s0 (bodyDomeReadAudit x0 s) := by
  unfold bodyDomeReadAudit
  repeat' (first | with_reducible assumption | with_reducible apply Keeps.checked)

theorem keeps_execDomeReadAudit {b : Bool} {s0 s : State} {x0} (h : Keeps b s0 s) : KeepsR b s0 (execDomeReadAudit x0 s) := by
  unfold execDomeReadAudit
  repeat' (first
    | with_reducible assumption | with_reducible refine keeps_hostCommand ?_ (fun c s h => ?_)
    | with_reducible apply keeps_bodyDomeReadAudit)

theorem keeps_bodyDomeAuditAck {b : Bool} {s0 s : State} {x0} (h : Keeps b s0 s) : Keeps1 b s0 (bodyDomeAuditAck x0 s) := by
  unfold bodyDomeAuditAck
  repeat' (first
    | with_reducible assumption | with_reducible apply keeps_State_modSeal | with_reducible apply keeps_State_claim
    | with_reducible apply keeps_State_audit | with_reducible apply Keeps.checked | (extract_lets +onlyGivenNames x)
    | split | exact rfl)

theorem keeps_execDomeAuditAck {b : Bool} {s0 s : State} {x0} (h : Keeps b s0 s) : KeepsR b s0 (execDomeAuditAck x0 s) := by
  unfold execDomeAuditAck
  repeat' (first
    | with_reducible assumption | with_reducible refine keeps_hostCommand ?_ (fun c s h => ?_)
    | with_reducible apply keeps_bodyDomeAuditAck)

theorem keeps_bodyDomeReadRecord {b : Bool} {s0 s : State} {x0} (h : Keeps b s0 s) : Keeps1 b s0 (bodyDomeReadRecord x0 s) := by
  unfold bodyDomeReadRecord
  repeat' (first | with_reducible assumption | with_reducible apply Keeps.checked)

theorem keeps_execDomeReadRecord {b : Bool} {s0 s : State} {x0} (h : Keeps b s0 s) : KeepsR b s0 (execDomeReadRecord x0 s) := by
  unfold execDomeReadRecord
  repeat' (first
    | with_reducible assumption | with_reducible refine keeps_hostCommand ?_ (fun c s h => ?_)
    | with_reducible apply keeps_bodyDomeReadRecord)

theorem keeps_bodyDomeRecordAck {b : Bool} {s0 s : State} {x0} (h : Keeps b s0 s) : Keeps1 b s0 (bodyDomeRecordAck x0 s) := by
  unfold bodyDomeRecordAck
  repeat' (first
    | with_reducible assumption | with_reducible apply keeps_State_modSeal | with_reducible apply keeps_State_claim
    | with_reducible apply keeps_State_gapRecord | with_reducible apply Keeps.checked | (extract_lets +onlyGivenNames x)
    | split | exact rfl)

theorem keeps_execDomeRecordAck {b : Bool} {s0 s : State} {x0} (h : Keeps b s0 s) : KeepsR b s0 (execDomeRecordAck x0 s) := by
  unfold execDomeRecordAck
  repeat' (first
    | with_reducible assumption | with_reducible refine keeps_hostCommand ?_ (fun c s h => ?_)
    | with_reducible apply keeps_bodyDomeRecordAck)

theorem keeps_bodyDomeGetStore {b : Bool} {s0 s : State} {x0} (h : Keeps b s0 s) : Keeps1 b s0 (bodyDomeGetStore x0 s) := by
  unfold bodyDomeGetStore
  repeat' (first | with_reducible assumption | with_reducible apply keeps_query)

theorem keeps_execDomeGetStore {b : Bool} {s0 s : State} {x0} (h : Keeps b s0 s) : KeepsR b s0 (execDomeGetStore x0 s) := by
  unfold execDomeGetStore
  repeat' (first
    | with_reducible assumption | with_reducible refine keeps_hostCommand ?_ (fun c s h => ?_)
    | with_reducible apply keeps_bodyDomeGetStore)

theorem keeps_bodyDomeGetOdometer {b : Bool} {s0 s : State} {x0} (h : Keeps b s0 s) : Keeps1 b s0 (bodyDomeGetOdometer x0 s) := by
  unfold bodyDomeGetOdometer
  repeat' (first | with_reducible assumption | with_reducible apply keeps_query)

theorem keeps_execDomeGetOdometer {b : Bool} {s0 s : State} {x0} (h : Keeps b s0 s) : KeepsR b s0 (execDomeGetOdometer x0 s) := by
  unfold execDomeGetOdometer
  repeat' (first
    | with_reducible assumption | with_reducible refine keeps_hostCommand ?_ (fun c s h => ?_)
    | with_reducible apply keeps_bodyDomeGetOdometer)

theorem keeps_bodyDomeSetOdoConfig {b : Bool} {s0 s : State} {x0} (h : Keeps b s0 s) : Keeps1 b s0 (bodyDomeSetOdoConfig x0 s) := by
  unfold bodyDomeSetOdoConfig
  repeat' (first
    | with_reducible assumption | with_reducible apply keeps_State_modSeal | with_reducible apply keeps_State_enterChanges
    | with_reducible apply Keeps.checked | (extract_lets +onlyGivenNames x) | exact rfl)

theorem keeps_execDomeSetOdoConfig {b : Bool} {s0 s : State} {x0} (h : Keeps b s0 s) : KeepsR b s0 (execDomeSetOdoConfig x0 s) := by
  unfold execDomeSetOdoConfig
  repeat' (first
    | with_reducible assumption | with_reducible refine keeps_hostCommand ?_ (fun c s h => ?_)
    | with_reducible apply keeps_bodyDomeSetOdoConfig)

theorem keeps_bodyDomeGetOdoConfig {b : Bool} {s0 s : State} {x0} (h : Keeps b s0 s) : Keeps1 b s0 (bodyDomeGetOdoConfig x0 s) := by
  unfold bodyDomeGetOdoConfig
  repeat' (first | with_reducible assumption | with_reducible apply keeps_query)

theorem keeps_execDomeGetOdoConfig {b : Bool} {s0 s : State} {x0} (h : Keeps b s0 s) : KeepsR b s0 (execDomeGetOdoConfig x0 s) := by
  unfold execDomeGetOdoConfig
  repeat' (first
    | with_reducible assumption | with_reducible refine keeps_hostCommand ?_ (fun c s h => ?_)
    | with_reducible apply keeps_bodyDomeGetOdoConfig)

theorem keeps_bodyZoneBegin {b : Bool} {s0 s : State} {x0} (h : Keeps b s0 s) : Keeps1 b s0 (bodyZoneBegin x0 s) := by
  unfold bodyZoneBegin
  repeat' (first
    | with_reducible assumption | with_reducible apply Keeps.checked | (extract_lets +onlyGivenNames x) | exact rfl
    | with_reducible apply Keeps.mkMem_ | exact id | exact fun _ => rfl)

theorem keeps_execDomeZoneLoadBegin {b : Bool} {s0 s : State} {x0} (h : Keeps b s0 s) : KeepsR b s0 (execDomeZoneLoadBegin x0 s) := by
  unfold execDomeZoneLoadBegin
  repeat' (first
    | with_reducible assumption | with_reducible refine keeps_hostCommand ?_ (fun c s h => ?_)
    | with_reducible apply keeps_bodyZoneBegin)

theorem keeps_bodyZoneData {b : Bool} {s0 s : State} {x0} (h : Keeps b s0 s) : Keeps1 b s0 (bodyZoneData x0 s) := by
  unfold bodyZoneData
  repeat' (first
    | with_reducible assumption | with_reducible apply Keeps.checked | (extract_lets +onlyGivenNames x) | exact rfl
    | with_reducible apply Keeps.mkMem_ | exact id | exact loadWf_put)

theorem keeps_execDomeZoneLoadData {b : Bool} {s0 s : State} {x0} (h : Keeps b s0 s) : KeepsR b s0 (execDomeZoneLoadData x0 s) := by
  unfold execDomeZoneLoadData
  repeat' (first
    | with_reducible assumption | with_reducible refine keeps_hostCommand ?_ (fun c s h => ?_)
    | with_reducible apply keeps_bodyZoneData)

theorem keeps_bodyZoneCommit {b : Bool} {s0 s : State} {x0} (h : Keeps b s0 s) : Keeps1 b s0 (bodyZoneCommit x0 s) := by
  unfold bodyZoneCommit
  repeat' (first
    | with_reducible assumption | with_reducible apply Keeps.checked | (extract_lets +onlyGivenNames x) | exact rfl
    | with_reducible apply Keeps.mkMem_ | exact id | exact loadWf_check)

theorem keeps_execDomeZoneLoadCommit {b : Bool} {s0 s : State} {x0} (h : Keeps b s0 s) : KeepsR b s0 (execDomeZoneLoadCommit x0 s) := by
  unfold execDomeZoneLoadCommit
  repeat' (first
    | with_reducible assumption | with_reducible refine keeps_hostCommand ?_ (fun c s h => ?_)
    | with_reducible apply keeps_bodyZoneCommit)

theorem keeps_bodyZoneCancel {b : Bool} {s0 s : State} {x0} (h : Keeps b s0 s) : Keeps1 b s0 (bodyZoneCancel x0 s) := by
  unfold bodyZoneCancel
  repeat' (first
    | with_reducible assumption | with_reducible apply Keeps.checked | (extract_lets +onlyGivenNames x) | exact rfl
    | with_reducible apply Keeps.mkMem_ | exact id | exact fun _ => rfl)

theorem keeps_execDomeZoneLoadCancel {b : Bool} {s0 s : State} {x0} (h : Keeps b s0 s) : KeepsR b s0 (execDomeZoneLoadCancel x0 s) := by
  unfold execDomeZoneLoadCancel
  repeat' (first
    | with_reducible assumption | with_reducible refine keeps_hostCommand ?_ (fun c s h => ?_)
    | with_reducible apply keeps_bodyZoneCancel)

theorem keeps_bodyDomeZoneGet {b : Bool} {s0 s : State} {x0} (h : Keeps b s0 s) : Keeps1 b s0 (bodyDomeZoneGet x0 s) := by
  unfold bodyDomeZoneGet
  repeat' (first | with_reducible assumption | with_reducible apply keeps_query)

theorem keeps_execDomeZoneGet {b : Bool} {s0 s : State} {x0} (h : Keeps b s0 s) : KeepsR b s0 (execDomeZoneGet x0 s) := by
  unfold execDomeZoneGet
  repeat' (first
    | with_reducible assumption | with_reducible refine keeps_hostCommand ?_ (fun c s h => ?_)
    | with_reducible apply keeps_bodyDomeZoneGet)

theorem keeps_bodyDomeMark {b : Bool} {s0 s : State} {x0} (h : Keeps b s0 s) : Keeps1 b s0 (bodyDomeMark x0 s) := by
  unfold bodyDomeMark
  repeat' (first
    | with_reducible assumption | with_reducible apply keeps_State_modSeal | with_reducible apply keeps_State_claim
    | with_reducible apply keeps_State_recordDue | (extract_lets +onlyGivenNames x) | split | exact rfl
    | (dsimp +zetaDelta only; split))

theorem keeps_execDomeMark {b : Bool} {s0 s : State} {x0} (h : Keeps b s0 s) : KeepsR b s0 (execDomeMark x0 s) := by
  unfold execDomeMark
  repeat' (first
    | with_reducible assumption | with_reducible refine keeps_hostCommand ?_ (fun c s h => ?_)
    | with_reducible apply keeps_bodyDomeMark)

theorem keeps_bodyDomeChallenge {b : Bool} {s0 s : State} {x0} (h : Keeps b s0 s) : Keeps1 b s0 (bodyDomeChallenge x0 s) := by
  unfold bodyDomeChallenge
  repeat' (first | with_reducible assumption | with_reducible apply keeps_State_draw)

theorem keeps_execDomeChallenge {b : Bool} {s0 s : State} {x0} (h : Keeps b s0 s) : KeepsR b s0 (execDomeChallenge x0 s) := by
  unfold execDomeChallenge
  repeat' (first
    | with_reducible assumption | with_reducible refine keeps_hostCommand ?_ (fun c s h => ?_)
    | with_reducible apply keeps_bodyDomeChallenge)

theorem keeps_bodyDomeSetRefclk {b : Bool} {s0 s : State} {x0} (h : Keeps b s0 s) : Keeps1 b s0 (bodyDomeSetRefclk x0 s) := by
  unfold bodyDomeSetRefclk
  repeat' (first
    | with_reducible assumption | with_reducible apply keeps_State_enterChanges | with_reducible apply Keeps.checked
    | (extract_lets +onlyGivenNames x) | exact rfl | with_reducible apply Keeps.mk_)

theorem keeps_execDomeSetRefclk {b : Bool} {s0 s : State} {x0} (h : Keeps b s0 s) : KeepsR b s0 (execDomeSetRefclk x0 s) := by
  unfold execDomeSetRefclk
  repeat' (first
    | with_reducible assumption | with_reducible refine keeps_hostCommand ?_ (fun c s h => ?_)
    | with_reducible apply keeps_bodyDomeSetRefclk)

theorem keeps_bodyDomeFwBegin {b : Bool} {s0 s : State} {x0} (h : Keeps b s0 s) : Keeps1 b s0 (bodyDomeFwBegin x0 s) := by
  unfold bodyDomeFwBegin
  repeat' (first
    | with_reducible assumption | with_reducible apply Keeps.checked | (extract_lets +onlyGivenNames x) | exact rfl
    | with_reducible apply Keeps.mkMem_ | exact id | exact Images.wf_begun)

theorem keeps_execDomeFwLoadBegin {b : Bool} {s0 s : State} {x0} (h : Keeps b s0 s) : KeepsR b s0 (execDomeFwLoadBegin x0 s) := by
  unfold execDomeFwLoadBegin
  repeat' (first
    | with_reducible assumption | with_reducible refine keeps_hostCommand ?_ (fun c s h => ?_)
    | with_reducible apply keeps_bodyDomeFwBegin)

theorem keeps_bodyDomeFwData {b : Bool} {s0 s : State} {x0} (h : Keeps b s0 s) : Keeps1 b s0 (bodyDomeFwData x0 s) := by
  unfold bodyDomeFwData
  repeat' (first
    | with_reducible assumption | with_reducible apply Keeps.checked | (extract_lets +onlyGivenNames x) | exact rfl
    | with_reducible apply Keeps.mkMem_ | exact id | exact Images.wf_put)

theorem keeps_execDomeFwLoadData {b : Bool} {s0 s : State} {x0} (h : Keeps b s0 s) : KeepsR b s0 (execDomeFwLoadData x0 s) := by
  unfold execDomeFwLoadData
  repeat' (first
    | with_reducible assumption | with_reducible refine keeps_hostCommand ?_ (fun c s h => ?_)
    | with_reducible apply keeps_bodyDomeFwData)

theorem keeps_bodyDomeFwCommit {b : Bool} {s0 s : State} {x0} (h : Keeps b s0 s) : Keeps1 b s0 (bodyDomeFwCommit x0 s) := by
  unfold bodyDomeFwCommit
  repeat' (first
    | with_reducible assumption | with_reducible apply Keeps.checked | (extract_lets +onlyGivenNames x) | exact rfl
    | with_reducible apply Keeps.mkMem_ | exact id | exact Images.wf_check)

theorem keeps_execDomeFwLoadCommit {b : Bool} {s0 s : State} {x0} (h : Keeps b s0 s) : KeepsR b s0 (execDomeFwLoadCommit x0 s) := by
  unfold execDomeFwLoadCommit
  repeat' (first
    | with_reducible assumption | with_reducible refine keeps_hostCommand ?_ (fun c s h => ?_)
    | with_reducible apply keeps_bodyDomeFwCommit)

theorem keeps_bodyDomeFwCancel {b : Bool} {s0 s : State} {x0} (h : Keeps b s0 s) : Keeps1 b s0 (bodyDomeFwCancel x0 s) := by
  unfold bodyDomeFwCancel
  repeat' (first
    | with_reducible assumption | with_reducible apply Keeps.checked | (extract_lets +onlyGivenNames x) | exact rfl
    | with_reducible apply Keeps.mkMem_ | exact id | exact Images.wf_closed)

theorem keeps_execDomeFwLoadCancel {b : Bool} {s0 s : State} {x0} (h : Keeps b s0 s) : KeepsR b s0 (execDomeFwLoadCancel x0 s) := by
  unfold execDomeFwLoadCancel
  repeat' (first
    | with_reducible assumption | with_reducible refine keeps_hostCommand ?_ (fun c s h => ?_)
    | with_reducible apply keeps_bodyDomeFwCancel)

theorem keeps_bodyDomeFwActivate {b : Bool} {s0 s : State} {x0} (h : Keeps b s0 s) : Keeps1 b s0 (bodyDomeFwActivate x0 s) := by
  unfold bodyDomeFwActivate
  repeat' (first
    | with_reducible assumption | with_reducible apply keeps_State_claim | with_reducible apply keeps_State_audit
    | with_reducible apply Keeps.checked | (extract_lets +onlyGivenNames x)
    | (refine Keeps.snd ?_ (by with_reducible assumption)) | split | exact rfl | with_reducible apply Keeps.mk_
    | with_reducible apply Keeps.mkMem_ | exact id)

theorem keeps_execDomeFwActivate {b : Bool} {s0 s : State} {x0} (h : Keeps b s0 s) : KeepsR b s0 (execDomeFwActivate x0 s) := by
  unfold execDomeFwActivate
  repeat' (first
    | with_reducible assumption | with_reducible refine keeps_hostCommand ?_ (fun c s h => ?_)
    | with_reducible apply keeps_bodyDomeFwActivate)

theorem keeps_u6Body {b : Bool} {s0 s : State} {op} {body : Body} {c} (hb : u6Body op = some body) (h : Keeps b s0 s) :
    Keeps1 b s0 (body c s) := by
  unfold u6Body at hb
  split at hb; cases hb; exact keeps_bodyDomeGetIdent h
  split at hb; cases hb; exact keeps_bodyDomeGetCert h
  split at hb; cases hb; exact keeps_bodyDomeGetCounters h
  split at hb; cases hb; exact keeps_bodyDomeReadAudit h
  split at hb; cases hb; exact keeps_bodyDomeReadRecord h
  split at hb; cases hb; exact keeps_bodyDomeGetStore h
  split at hb; cases hb; exact keeps_bodyDomeGetOdometer h
  split at hb; cases hb; exact keeps_bodyDomeGetOdoConfig h
  split at hb; cases hb; exact keeps_bodyDomeZoneGet h
  split at hb; cases hb; exact keeps_bodyDomeChallenge h
  cases hb

theorem keeps_execU6Packet {b : Bool} {s0 s : State} {x0} (h : Keeps b s0 s) : KeepsR b s0 (execU6Packet x0 s) := by
  unfold execU6Packet
  split
  · exact .next h
  extract_lets +onlyGivenNames s1
  have h1 : Keeps b s0 s1 := keeps_State_modSeal h rfl rfl
  split
  · exact .next h1
  split
  · exact .next (keeps_State_modSeal h1 rfl rfl)
  extract_lets +onlyGivenNames hd
  split
  · exact .next h1
  rename_i body hb
  extract_lets +onlyGivenNames r
  have hr : Keeps b s0 r.1 := keeps_u6Body hb h1
  clear_value r
  split
  · split
    · exact .next hr
    · exact .next (keeps_State_modSeal hr rfl rfl)
  · exact .next hr

theorem keeps_execU6ActiveTimeout {b : Bool} {s0 s : State}  (h : Keeps b s0 s) : KeepsR b s0 (execU6ActiveTimeout s) := by
  unfold execU6ActiveTimeout
  repeat' (first
    | with_reducible assumption | with_reducible apply keeps_State_modSeal | with_reducible apply KeepsR.next
    | (extract_lets +onlyGivenNames x) | split | exact rfl)

theorem keeps_execU6IdleLineBoundary {b : Bool} {s0 s : State}  (h : Keeps b s0 s) : KeepsR b s0 (execU6IdleLineBoundary s) := by
  unfold execU6IdleLineBoundary
  repeat' (first
    | with_reducible assumption | with_reducible apply keeps_State_modSeal | with_reducible apply KeepsR.next
    | (extract_lets +onlyGivenNames x) | exact rfl)

theorem keeps_State_domeFwCommitEnd {b : Bool} {s0 s : State} {l : Load} {cmd} {x2} {x3} (h : Keeps b s0 s)
    (hl : s.memoryWf = true → Bytes.wf l.data = true) : Keeps b s0 (s.domeFwCommitEnd l cmd x2 x3) := by
  refine h.trans ?_
  unfold State.domeFwCommitEnd
  extract_lets i r s1 
  have h1 : Keeps b s s1 := Keeps.mkMem_ .refl id id Images.wf_closed id rfl rfl rfl rfl
  split
  · refine keeps_State_finalReply (Keeps.updMem .refl (fun hw => ?_) rfl rfl rfl rfl rfl)
    have h2 := hw
    simp only [State.memoryWf, Bool.and_eq_true] at h2 ⊢
    exact ⟨⟨⟨h2.1.1.1, h2.1.1.2⟩, Images.wf_setSlot (Images.wf_closed h2.1.2) (hl hw)⟩, h2.2⟩
  · split
    rename_i e
    exact keeps_State_finalReply (keeps_State_audit (Keeps.snd (keeps_State_claim h1) e))

theorem keeps_State_zoneCommitEnd {b : Bool} {s0 s : State} {x1} {x2} (h : Keeps b s0 s) : Keeps b s0 (State.zoneCommitEnd s x1 x2) := by
  unfold State.zoneCommitEnd
  repeat' (first
    | with_reducible assumption | with_reducible apply keeps_State_finalReply | with_reducible apply keeps_State_claim
    | with_reducible apply keeps_State_audit | with_reducible apply keeps_State_modSeal | (extract_lets +onlyGivenNames x)
    | split | exact rfl | with_reducible apply Keeps.mkMem_ | exact id | exact fun _ => rfl)

theorem keeps_State_drumFwCommitEnd {b : Bool} {s0 s : State} {l : Load} {cmd} {x2} (h : Keeps b s0 s)
    (hl : s.memoryWf = true → Bytes.wf l.data = true) : Keeps b s0 (s.drumFwCommitEnd l cmd x2) := by
  refine h.trans ?_
  unfold State.drumFwCommitEnd
  extract_lets i bs d s1
  have h1 : Keeps b s s1 := Keeps.mkMem_ .refl id Images.wf_closed id id rfl rfl rfl rfl
  split
  · refine keeps_State_finalReply (Keeps.updMem .refl (fun hw => ?_) rfl rfl rfl rfl rfl)
    have h2 := hw
    simp only [State.memoryWf, Bool.and_eq_true] at h2 ⊢
    exact ⟨⟨⟨h2.1.1.1, Images.wf_setSlot (Images.wf_closed h2.1.1.2) (hl hw)⟩, h2.1.2⟩, h2.2⟩
  · exact keeps_State_finalReply h1

theorem keeps_execLoadCommitCheckEnd {b : Bool} {s0 s : State} {w} {x1} {x2} (h : Keeps b s0 s) :
    KeepsR b s0 (execLoadCommitCheckEnd w x1 x2 s) := by
  unfold execLoadCommitCheckEnd
  extract_lets o
  have hk : KeepsR b s (match o with
    | none => .next s
    | some l =>
      match l.check with
      | none => .next s
      | some cmd =>
        .next (if w = 0 then s.domeFwCommitEnd l cmd x1 x2
               else if w = 1 then s.zoneCommitEnd l cmd
               else s.drumFwCommitEnd l cmd x1)) := by
    have ho : s.memoryWf = true → loadWf o = true := by
      intro hw
      simp only [State.memoryWf, Bool.and_eq_true] at hw
      dsimp only [o]
      split
      · exact (Images.wf_iff.1 hw.1.2).2.2
      · split
        · exact hw.2
        · exact (Images.wf_iff.1 hw.1.1.2).2.2
    clear_value o
    cases o with
    | none => exact .next .refl
    | some l =>
      dsimp only
      split
      · exact .next .refl
      · refine .next ?_
        split
        · exact keeps_State_domeFwCommitEnd .refl ho
        · split
          · exact keeps_State_zoneCommitEnd .refl
          · exact keeps_State_drumFwCommitEnd .refl ho
  exact .after h hk

end Sys2Proof.Machine
end

