-- ==== Sys2Proof/Laws/KeepsInput.lean ====
section
/-! SUPPORT. What the operations of Machine/Input.lean keep (`Keeps`). -/

set_option Elab.async false

namespace Sys2Proof.Machine

set_option linter.all false
set_option maxRecDepth 20000

theorem keeps_State_modInput {b : Bool} {s0 s : State} {x1} (h : Keeps b s0 s) : Keeps b s0 (State.modInput s x1) := by
  unfold State.modInput
  repeat' (first
    | with_reducible assumption | (extract_lets +onlyGivenNames x) | exact rfl | with_reducible apply Keeps.mk_)

theorem keeps_State_modPort {b : Bool} {s0 s : State} {x1} {x2} (h : Keeps b s0 s) : Keeps b s0 (State.modPort s x1 x2) := by
  unfold State.modPort
  repeat' (first | with_reducible assumption | with_reducible apply keeps_State_modInput)

theorem keeps_State_nrefStart {b : Bool} {s0 s : State} {x1} (h : Keeps b s0 s) : Keeps b s0 (State.nrefStart s x1) := by
  unfold State.nrefStart
  repeat' (first | with_reducible assumption | with_reducible apply keeps_State_modPort)

theorem keeps_State_train {b : Bool} {s0 s : State} {x1} (h : Keeps b s0 s) : Keeps b s0 (State.train s x1) := by
  unfold State.train
  repeat' (first | with_reducible assumption | with_reducible apply keeps_State_modPort)

theorem keeps_State_trainAfresh {b : Bool} {s0 s : State} {x1} (h : Keeps b s0 s) : Keeps b s0 (State.trainAfresh s x1) := by
  unfold State.trainAfresh
  repeat' (first
    | with_reducible assumption | with_reducible apply keeps_State_train | with_reducible apply keeps_State_modPort)

theorem keeps_State_laneOff {b : Bool} {s0 s : State} {x1} (h : Keeps b s0 s) : Keeps b s0 (State.laneOff s x1) := by
  unfold State.laneOff
  repeat' (first | with_reducible assumption | with_reducible apply keeps_State_modPort)

theorem keeps_State_abortPortJobs {b : Bool} {s0 s : State} {x1} {x2} (h : Keeps b s0 s) : Keeps b s0 (State.abortPortJobs s x1 x2) := by
  unfold State.abortPortJobs
  repeat' (first
    | with_reducible assumption | with_reducible apply keeps_State_finalReply | with_reducible apply keeps_State_modPort
    | with_reducible apply keeps_State_modInput | with_reducible refine Keeps.foldl ?_ (fun s a h => ?_)
    | (extract_lets +onlyGivenNames x) | split)

theorem keeps_State_syncPort {b : Bool} {s0 s : State} {x1} {x2} {x3} (h : Keeps b s0 s) : Keeps b s0 (State.syncPort s x1 x2 x3) := by
  unfold State.syncPort
  repeat' (first
    | with_reducible assumption | with_reducible apply keeps_State_nrefStart | with_reducible apply keeps_State_modPort
    | with_reducible apply keeps_State_trainAfresh | with_reducible apply keeps_State_laneOff
    | with_reducible apply keeps_State_abortPortJobs | (extract_lets +onlyGivenNames x) | split)

theorem keeps_State_syncPorts {b : Bool} {s0 s : State} {x1} {x2} (h : Keeps b s0 s) : Keeps b s0 (State.syncPorts s x1 x2) := by
  unfold State.syncPorts
  repeat' (first
    | with_reducible assumption | with_reducible apply keeps_State_syncPort
    | with_reducible refine Keeps.forUpto ?_ (fun i s h => ?_))

theorem keeps_State_notchEvent {b : Bool} {s0 s : State} {x1} {x2} {x3} (h : Keeps b s0 s) : Keeps b s0 (State.notchEvent s x1 x2 x3) := by
  unfold State.notchEvent
  repeat' (first
    | with_reducible assumption | with_reducible apply keeps_State_claim | with_reducible apply keeps_State_domeRecord)

theorem keeps_State_release {b : Bool} {s0 s : State} {x1} {x2} (h : Keeps b s0 s) : Keeps b s0 (State.release s x1 x2) := by
  unfold State.release
  repeat' (first
    | with_reducible assumption | with_reducible apply keeps_State_modPort | with_reducible apply keeps_State_notchEvent
    | (extract_lets +onlyGivenNames x) | split)

theorem keeps_State_moveNotch {b : Bool} {s0 s : State} {x1} {x2} {x3} {x4} (h : Keeps b s0 s) : Keeps b s0 (State.moveNotch s x1 x2 x3 x4) := by
  unfold State.moveNotch
  repeat' (first
    | with_reducible assumption | with_reducible apply keeps_State_modPort | with_reducible apply keeps_State_notchEvent
    | (extract_lets +onlyGivenNames x) | split)

theorem keeps_State_engage {b : Bool} {s0 s : State} {x1} {x2} {x3} {x4} (h : Keeps b s0 s) : Keeps b s0 (State.engage s x1 x2 x3 x4) := by
  unfold State.engage
  repeat' (first
    | with_reducible assumption | with_reducible apply keeps_State_modPort | with_reducible apply keeps_State_notchEvent)

theorem keeps_State_applyNotch {b : Bool} {s0 s : State} {x1} {x2} (h : Keeps b s0 s) : Keeps b s0 (State.applyNotch s x1 x2) := by
  unfold State.applyNotch
  repeat' (first
    | with_reducible assumption | with_reducible apply keeps_State_release | with_reducible apply keeps_State_modPort
    | with_reducible apply keeps_State_moveNotch | with_reducible apply keeps_State_engage
    | (extract_lets +onlyGivenNames x) | split | (dsimp +zetaDelta only; split))

theorem keeps_State_applyNotches {b : Bool} {s0 s : State} {x1} (h : Keeps b s0 s) : Keeps b s0 (State.applyNotches s x1) := by
  unfold State.applyNotches
  repeat' (first
    | with_reducible assumption | with_reducible apply keeps_State_modPort | with_reducible apply keeps_State_applyNotch
    | with_reducible refine Keeps.foldl ?_ (fun s a h => ?_))

theorem keeps_State_lateReleases {b : Bool} {s0 s : State} {x1} (h : Keeps b s0 s) : Keeps b s0 (State.lateReleases s x1) := by
  unfold State.lateReleases
  repeat' (first
    | with_reducible assumption | with_reducible apply keeps_State_release
    | with_reducible refine Keeps.forUpto ?_ (fun i s h => ?_) | (extract_lets +onlyGivenNames x) | split)

theorem keeps_State_setFrozen {b : Bool} {s0 s : State} {x1} (h : Keeps b s0 s) : Keeps b s0 (State.setFrozen s x1) := by
  unfold State.setFrozen
  repeat' (first
    | with_reducible assumption | with_reducible apply keeps_State_notchEvent | with_reducible apply keeps_State_modInput
    | with_reducible apply keeps_State_applyNotches | with_reducible apply keeps_State_lateReleases
    | with_reducible refine Keeps.forUpto ?_ (fun i s h => ?_) | (extract_lets +onlyGivenNames x) | split)

theorem keeps_State_refreeze {b : Bool} {s0 s : State}  (h : Keeps b s0 s) : Keeps b s0 (State.refreeze s) := by
  unfold State.refreeze
  repeat' (first | with_reducible assumption | with_reducible apply keeps_State_setFrozen)

theorem keeps_State_modCal {b : Bool} {s0 s : State} {x1} (h : Keeps b s0 s) : Keeps b s0 (State.modCal s x1) := by
  unfold State.modCal
  repeat' (first
    | with_reducible assumption | (extract_lets +onlyGivenNames x) | exact rfl | with_reducible apply Keeps.mk_)

theorem keeps_State_calTrigger {b : Bool} {s0 s : State} {x1} (h : Keeps b s0 s) : Keeps b s0 (State.calTrigger s x1) := by
  unfold State.calTrigger
  repeat' (first | with_reducible assumption | with_reducible apply keeps_State_modCal | split)

theorem keeps_State_setPort {b : Bool} {s0 s : State} {x1} {x2} (h : Keeps b s0 s) : Keeps b s0 (State.setPort s x1 x2) := by
  unfold State.setPort
  repeat' (first
    | with_reducible assumption | with_reducible apply keeps_State_release | with_reducible apply keeps_State_syncPort
    | with_reducible apply keeps_State_modPort | with_reducible apply keeps_State_calTrigger
    | with_reducible refine Keeps.forUpto ?_ (fun i s h => ?_) | (extract_lets +onlyGivenNames x) | split
    | (dsimp +zetaDelta only; split))

theorem keeps_bodyInputSetPort {b : Bool} {s0 s : State} {x0} (h : Keeps b s0 s) : Keeps1 b s0 (bodyInputSetPort x0 s) := by
  unfold bodyInputSetPort
  repeat' (first
    | with_reducible assumption | with_reducible apply keeps_State_enterChanges | with_reducible apply keeps_State_setPort
    | with_reducible apply keeps_State_modInput | with_reducible apply Keeps.checked | (extract_lets +onlyGivenNames x)
    | split)

theorem keeps_bodyInputGetPort {b : Bool} {s0 s : State} {x0} (h : Keeps b s0 s) : Keeps1 b s0 (bodyInputGetPort x0 s) := by
  unfold bodyInputGetPort
  repeat' (first | with_reducible assumption | with_reducible apply Keeps.checked)

theorem keeps_execInputGetPort {b : Bool} {s0 s : State} {x0} (h : Keeps b s0 s) : KeepsR b s0 (execInputGetPort x0 s) := by
  unfold execInputGetPort
  repeat' (first
    | with_reducible assumption | with_reducible refine keeps_hostCommand ?_ (fun c s h => ?_)
    | with_reducible apply keeps_bodyInputGetPort)

theorem keeps_bodyInputTrain {b : Bool} {s0 s : State} {x0} (h : Keeps b s0 s) : Keeps1 b s0 (bodyInputTrain x0 s) := by
  unfold bodyInputTrain
  repeat' (first
    | with_reducible assumption | with_reducible apply keeps_State_modInput | with_reducible apply keeps_State_trainAfresh
    | with_reducible apply Keeps.checked | with_reducible refine Keeps.forUpto ?_ (fun i s h => ?_)
    | (extract_lets +onlyGivenNames x) | split)

theorem keeps_bodyInputGetHistogram {b : Bool} {s0 s : State} {x0} (h : Keeps b s0 s) : Keeps1 b s0 (bodyInputGetHistogram x0 s) := by
  unfold bodyInputGetHistogram
  repeat' (first
    | with_reducible assumption | with_reducible apply keeps_State_modPort | with_reducible apply Keeps.checked)

theorem keeps_execInputGetHistogram {b : Bool} {s0 s : State} {x0} (h : Keeps b s0 s) : KeepsR b s0 (execInputGetHistogram x0 s) := by
  unfold execInputGetHistogram
  repeat' (first
    | with_reducible assumption | with_reducible refine keeps_hostCommand ?_ (fun c s h => ?_)
    | with_reducible apply keeps_bodyInputGetHistogram)

theorem keeps_bodyInputGetSpectrum {b : Bool} {s0 s : State} {x0} (h : Keeps b s0 s) : Keeps1 b s0 (bodyInputGetSpectrum x0 s) := by
  unfold bodyInputGetSpectrum
  repeat' (first
    | with_reducible assumption | with_reducible apply keeps_State_modPort | with_reducible apply Keeps.checked)

theorem keeps_execInputGetSpectrum {b : Bool} {s0 s : State} {x0} (h : Keeps b s0 s) : KeepsR b s0 (execInputGetSpectrum x0 s) := by
  unfold execInputGetSpectrum
  repeat' (first
    | with_reducible assumption | with_reducible refine keeps_hostCommand ?_ (fun c s h => ?_)
    | with_reducible apply keeps_bodyInputGetSpectrum)

theorem keeps_execSpectrumJobComplete {b : Bool} {s0 s : State} {x0} {x1} {x2} (h : Keeps b s0 s) : KeepsR b s0 (execSpectrumJobComplete x0 x1 x2 s) := by
  unfold execSpectrumJobComplete
  repeat' (first
    | with_reducible assumption | with_reducible apply keeps_State_modPort | with_reducible apply keeps_State_finalReply
    | with_reducible apply KeepsR.next | (extract_lets +onlyGivenNames x) | split | exact rfl
    | (dsimp +zetaDelta only; split) | with_reducible apply Keeps.mk_)

theorem keeps_bodyInputSetNotch {b : Bool} {s0 s : State} {x0} (h : Keeps b s0 s) : Keeps1 b s0 (bodyInputSetNotch x0 s) := by
  unfold bodyInputSetNotch
  repeat' (first
    | with_reducible assumption | with_reducible apply keeps_State_modPort | with_reducible apply Keeps.checked)

theorem keeps_execInputSetNotch {b : Bool} {s0 s : State} {x0} (h : Keeps b s0 s) : KeepsR b s0 (execInputSetNotch x0 s) := by
  unfold execInputSetNotch
  repeat' (first
    | with_reducible assumption | with_reducible refine keeps_hostCommand ?_ (fun c s h => ?_)
    | with_reducible apply keeps_bodyInputSetNotch)

theorem keeps_bodyInputGetNotch {b : Bool} {s0 s : State} {x0} (h : Keeps b s0 s) : Keeps1 b s0 (bodyInputGetNotch x0 s) := by
  unfold bodyInputGetNotch
  repeat' (first | with_reducible assumption | with_reducible apply Keeps.checked)

theorem keeps_execInputGetNotch {b : Bool} {s0 s : State} {x0} (h : Keeps b s0 s) : KeepsR b s0 (execInputGetNotch x0 s) := by
  unfold execInputGetNotch
  repeat' (first
    | with_reducible assumption | with_reducible refine keeps_hostCommand ?_ (fun c s h => ?_)
    | with_reducible apply keeps_bodyInputGetNotch)

theorem keeps_bodyInputSetArray {b : Bool} {s0 s : State} {x0} (h : Keeps b s0 s) : Keeps1 b s0 (bodyInputSetArray x0 s) := by
  unfold bodyInputSetArray
  repeat' (first
    | with_reducible assumption | with_reducible apply keeps_State_modInput | with_reducible apply keeps_State_enterChanges
    | with_reducible apply keeps_State_applyArray | with_reducible apply Keeps.checked | (extract_lets +onlyGivenNames x)
    | split)

theorem keeps_execInputSetArray {b : Bool} {s0 s : State} {x0} (h : Keeps b s0 s) : KeepsR b s0 (execInputSetArray x0 s) := by
  unfold execInputSetArray
  repeat' (first
    | with_reducible assumption | with_reducible refine keeps_hostCommand ?_ (fun c s h => ?_)
    | with_reducible apply keeps_bodyInputSetArray)

theorem keeps_bodyInputGetArray {b : Bool} {s0 s : State} {x0} (h : Keeps b s0 s) : Keeps1 b s0 (bodyInputGetArray x0 s) := by
  unfold bodyInputGetArray
  repeat' (first | with_reducible assumption | with_reducible apply keeps_query)

theorem keeps_execInputGetArray {b : Bool} {s0 s : State} {x0} (h : Keeps b s0 s) : KeepsR b s0 (execInputGetArray x0 s) := by
  unfold execInputGetArray
  repeat' (first
    | with_reducible assumption | with_reducible refine keeps_hostCommand ?_ (fun c s h => ?_)
    | with_reducible apply keeps_bodyInputGetArray)

theorem keeps_State_applyThresholds {b : Bool} {s0 s : State}  (h : Keeps b s0 s) : Keeps b s0 (State.applyThresholds s) := by
  unfold State.applyThresholds
  repeat' (first | with_reducible assumption | with_reducible apply keeps_State_modInput | split)

theorem keeps_bodyInputSetGlobal {b : Bool} {s0 s : State} {x0} (h : Keeps b s0 s) : Keeps1 b s0 (bodyInputSetGlobal x0 s) := by
  unfold bodyInputSetGlobal
  repeat' (first
    | with_reducible assumption | with_reducible apply keeps_State_modInput | with_reducible apply keeps_State_enterChanges
    | with_reducible apply keeps_State_calTrigger | with_reducible apply keeps_State_applyThresholds
    | with_reducible apply Keeps.checked | (extract_lets +onlyGivenNames x) | split | (dsimp +zetaDelta only; split))

theorem keeps_execInputSetGlobal {b : Bool} {s0 s : State} {x0} (h : Keeps b s0 s) : KeepsR b s0 (execInputSetGlobal x0 s) := by
  unfold execInputSetGlobal
  repeat' (first
    | with_reducible assumption | with_reducible refine keeps_hostCommand ?_ (fun c s h => ?_)
    | with_reducible apply keeps_bodyInputSetGlobal)

theorem keeps_bodyInputGetGlobal {b : Bool} {s0 s : State} {x0} (h : Keeps b s0 s) : Keeps1 b s0 (bodyInputGetGlobal x0 s) := by
  unfold bodyInputGetGlobal
  repeat' (first | with_reducible assumption | with_reducible apply keeps_query)

theorem keeps_execInputGetGlobal {b : Bool} {s0 s : State} {x0} (h : Keeps b s0 s) : KeepsR b s0 (execInputGetGlobal x0 s) := by
  unfold execInputGetGlobal
  repeat' (first
    | with_reducible assumption | with_reducible refine keeps_hostCommand ?_ (fun c s h => ?_)
    | with_reducible apply keeps_bodyInputGetGlobal)

theorem keeps_State_applyArray {b : Bool} {s0 s : State}  (h : Keeps b s0 s) : Keeps b s0 (State.applyArray s) := by
  unfold State.applyArray
  repeat' (first
    | with_reducible assumption | with_reducible apply keeps_State_modInput | with_reducible apply keeps_State_calTrigger
    | (extract_lets +onlyGivenNames x) | split)

theorem keeps_State_applyPorts {b : Bool} {s0 s : State}  (h : Keeps b s0 s) : Keeps b s0 (State.applyPorts s) := by
  unfold State.applyPorts
  repeat' (first
    | with_reducible assumption | with_reducible apply keeps_State_modInput | with_reducible apply keeps_State_finalReply
    | with_reducible apply keeps_State_setPort | with_reducible refine Keeps.foldl ?_ (fun s a h => ?_))

theorem keeps_State_histogramReply {b : Bool} {s0 s : State} {x1} {x2} (h : Keeps b s0 s) : Keeps b s0 (State.histogramReply s x1 x2) := by
  unfold State.histogramReply
  repeat' (first | with_reducible assumption | with_reducible apply keeps_State_finalReply)

theorem keeps_State_histograms {b : Bool} {s0 s : State} {x1} {x2} {x3} {x4} (h : Keeps b s0 s) : Keeps b s0 (State.histograms s x1 x2 x3 x4) := by
  unfold State.histograms
  repeat' (first
    | with_reducible assumption | with_reducible apply keeps_State_modPort
    | with_reducible apply keeps_State_histogramReply | with_reducible refine Keeps.foldl ?_ (fun s a h => ?_))

theorem keeps_State_blankWindow {b : Bool} {s0 s : State} {x1} (h : Keeps b s0 s) : Keeps b s0 (State.blankWindow s x1) := by
  unfold State.blankWindow
  repeat' (first
    | with_reducible assumption | with_reducible apply keeps_State_modPort | with_reducible apply keeps_State_histograms)

theorem keeps_State_window {b : Bool} {s0 s : State} {x1} {x2} (h : Keeps b s0 s) : Keeps b s0 (State.window s x1 x2) := by
  unfold State.window
  repeat' (first
    | with_reducible assumption | with_reducible apply keeps_State_draw | with_reducible apply keeps_State_modPort
    | with_reducible apply keeps_State_histograms | (extract_lets +onlyGivenNames x) | split)

theorem keeps_State_loseLock {b : Bool} {s0 s : State} {x1} (h : Keeps b s0 s) : Keeps b s0 (State.loseLock s x1) := by
  unfold State.loseLock
  repeat' (first
    | with_reducible assumption | with_reducible apply keeps_State_modPort | with_reducible apply keeps_State_trainAfresh
    | (extract_lets +onlyGivenNames x) | split)

theorem keeps_execFrmFrame {b : Bool} {s0 s : State}  (h : Keeps b s0 s) : KeepsR b s0 (execFrmFrame s) := by
  unfold execFrmFrame
  repeat' (first
    | with_reducible assumption | with_reducible apply keeps_State_modInput | with_reducible apply keeps_State_modPort
    | with_reducible apply KeepsR.next
    | (extract_lets +onlyGivenNames x; have hf : (_ → _) := x; clear hf; dsimp only [x]; clear x)
    | (extract_lets +onlyGivenNames x) | split)

theorem keeps_State_follow {b : Bool} {s0 s : State} {x1} {x2} {x3} (h : Keeps b s0 s) : Keeps b s0 (State.follow s x1 x2 x3) := by
  unfold State.follow
  repeat' (first
    | with_reducible assumption | with_reducible apply keeps_State_moveNotch | with_reducible apply keeps_State_modPort
    | with_reducible apply keeps_State_release | (extract_lets +onlyGivenNames x) | split)

theorem keeps_execLineDetectorUpdate {b : Bool} {s0 s : State} {x0} {x1} {x2} (h : Keeps b s0 s) : KeepsR b s0 (execLineDetectorUpdate x0 x1 x2 s) := by
  unfold execLineDetectorUpdate
  repeat' (first
    | with_reducible assumption | with_reducible apply keeps_State_modPort | with_reducible apply keeps_State_applyNotches
    | with_reducible apply keeps_State_follow | with_reducible apply keeps_State_engage | with_reducible apply KeepsR.next
    | with_reducible refine Keeps.forUpto ?_ (fun i s h => ?_) | (extract_lets +onlyGivenNames x) | split)

theorem keeps_execNoiseFloorUpdate {b : Bool} {s0 s : State}  (h : Keeps b s0 s) : KeepsR b s0 (execNoiseFloorUpdate s) := by
  unfold execNoiseFloorUpdate
  repeat' (first
    | with_reducible assumption | with_reducible apply keeps_State_modInput | with_reducible apply keeps_State_modPort
    | with_reducible apply KeepsR.next | with_reducible refine Keeps.forUpto ?_ (fun i s h => ?_)
    | (extract_lets +onlyGivenNames x) | split)

theorem keeps_execFeStartDelayExpiry {b : Bool} {s0 s : State}  (h : Keeps b s0 s) : KeepsR b s0 (execFeStartDelayExpiry s) := by
  unfold execFeStartDelayExpiry
  repeat' (first
    | with_reducible assumption | with_reducible apply keeps_State_trainAfresh | with_reducible apply KeepsR.next
    | with_reducible refine Keeps.forUpto ?_ (fun i s h => ?_) | (extract_lets +onlyGivenNames x) | split)

theorem keeps_execTrainingMarker {b : Bool} {s0 s : State} {x0} {x1} (h : Keeps b s0 s) : KeepsR b s0 (execTrainingMarker x0 x1 s) := by
  unfold execTrainingMarker
  repeat' (first
    | with_reducible assumption | with_reducible apply keeps_State_modPort | with_reducible apply KeepsR.next
    | (extract_lets +onlyGivenNames x) | split)

theorem keeps_execTrainingVerifyEnd {b : Bool} {s0 s : State} {x0} {x1} (h : Keeps b s0 s) : KeepsR b s0 (execTrainingVerifyEnd x0 x1 s) := by
  unfold execTrainingVerifyEnd
  repeat' (first
    | with_reducible assumption | with_reducible apply keeps_State_modPort | with_reducible apply KeepsR.next | split)

theorem keeps_State_finishTrains {b : Bool} {s0 s : State}  (h : Keeps b s0 s) : Keeps b s0 (State.finishTrains s) := by
  unfold State.finishTrains
  repeat' (first
    | with_reducible assumption | with_reducible apply keeps_State_modInput | with_reducible apply keeps_State_finalReply
    | with_reducible refine Keeps.foldl ?_ (fun s a h => ?_))

theorem keeps_State_failAttempt {b : Bool} {s0 s : State} {x1} (h : Keeps b s0 s) : Keeps b s0 (State.failAttempt s x1) := by
  unfold State.failAttempt
  repeat' (first
    | with_reducible assumption | with_reducible apply keeps_State_modPort | with_reducible apply keeps_State_finishTrains
    | with_reducible apply keeps_State_train | (extract_lets +onlyGivenNames x) | split)

theorem keeps_State_lockLane {b : Bool} {s0 s : State} {x1} (h : Keeps b s0 s) : Keeps b s0 (State.lockLane s x1) := by
  unfold State.lockLane
  repeat' (first
    | with_reducible assumption | with_reducible apply keeps_State_finishTrains | with_reducible apply keeps_State_modPort)

theorem keeps_State_lockLanes {b : Bool} {s0 s : State}  (h : Keeps b s0 s) : Keeps b s0 (State.lockLanes s) := by
  unfold State.lockLanes
  repeat' (first
    | with_reducible assumption | with_reducible apply keeps_State_lockLane
    | with_reducible refine Keeps.forUpto ?_ (fun i s h => ?_) | (extract_lets +onlyGivenNames x) | split)

end Sys2Proof.Machine
end

