-- ==== Sys2Proof/Laws/KeepsEasel.lean ====
section
/-! SUPPORT. What the operations of Machine/Easel.lean keep (`Keeps`). -/

set_option Elab.async false

namespace Sys2Proof.Machine

set_option linter.all false
set_option maxRecDepth 20000

theorem keeps_State_powerDownIdle {b : Bool} {s0 s : State}  (h : Keeps b s0 s) : Keeps b s0 (State.powerDownIdle s) := by
  unfold State.powerDownIdle
  repeat' (first
    | with_reducible assumption | with_reducible apply keeps_State_modPwr | with_reducible apply keeps_State_syncPorts
    | (extract_lets +onlyGivenNames x; have hf : (_ → _) := x; clear hf; dsimp only [x]; clear x)
    | (extract_lets +onlyGivenNames x) | split)

theorem keeps_State_modEasel {b : Bool} {s0 s : State} {x1} (h : Keeps b s0 s) : Keeps b s0 (State.modEasel s x1) := by
  unfold State.modEasel
  repeat' (first
    | with_reducible assumption | (extract_lets +onlyGivenNames x) | exact rfl | with_reducible apply Keeps.mk_)

theorem keeps_State_startPass {b : Bool} {s0 s : State} {x1} {x2} (h : Keeps b s0 s) : Keeps b s0 (State.startPass s x1 x2) := by
  unfold State.startPass
  repeat' (first
    | with_reducible assumption | with_reducible apply keeps_State_modEasel | (extract_lets +onlyGivenNames x) | split)

theorem keeps_State_assignBanks {b : Bool} {s0 s : State}  (h : Keeps b s0 s) : Keeps b s0 (State.assignBanks s) := by
  unfold State.assignBanks
  repeat' (first
    | with_reducible assumption | with_reducible apply keeps_State_startPass
    | with_reducible refine Keeps.forUpto ?_ (fun i s h => ?_) | (extract_lets +onlyGivenNames x) | split)

theorem keeps_State_dropJob {b : Bool} {s0 s : State} {x1} (h : Keeps b s0 s) : Keeps b s0 (State.dropJob s x1) := by
  unfold State.dropJob
  repeat' (first
    | with_reducible assumption | with_reducible apply keeps_State_assignBanks | with_reducible apply keeps_State_modEasel)

theorem keeps_State_withdrawReacq {b : Bool} {s0 s : State} {x1} (h : Keeps b s0 s) : Keeps b s0 (State.withdrawReacq s x1) := by
  unfold State.withdrawReacq
  repeat' (first
    | with_reducible assumption | with_reducible apply keeps_State_powerDownIdle | with_reducible apply keeps_State_dropJob
    | split)

theorem keeps_State_addJob {b : Bool} {s0 s : State} {x1} (h : Keeps b s0 s) : Keeps b s0 (State.addJob s x1) := by
  unfold State.addJob
  repeat' (first | with_reducible assumption | with_reducible apply keeps_State_modEasel)

theorem keeps_State_powerEasel {b : Bool} {s0 s : State}  (h : Keeps b s0 s) : Keeps b s0 (State.powerEasel s) := by
  unfold State.powerEasel
  repeat' (first | with_reducible assumption | with_reducible apply keeps_State_powerDomains | split)

theorem keeps_State_discardPass {b : Bool} {s0 s : State} {x1} (h : Keeps b s0 s) : Keeps b s0 (State.discardPass s x1) := by
  unfold State.discardPass
  repeat' (first
    | with_reducible assumption | with_reducible apply keeps_State_modEasel | (extract_lets +onlyGivenNames x) | split)

theorem keeps_State_suspendPass {b : Bool} {s0 s : State} {x1} (h : Keeps b s0 s) : Keeps b s0 (State.suspendPass s x1) := by
  unfold State.suspendPass
  repeat' (first
    | with_reducible assumption | with_reducible apply keeps_State_modEasel | (extract_lets +onlyGivenNames x) | split)

theorem keeps_State_reacqBank {b : Bool} {s0 s : State}  (h : Keeps b s0 s) : Keeps b s0 (State.reacqBank s) := by
  unfold State.reacqBank
  repeat' (first
    | with_reducible assumption | with_reducible apply keeps_State_assignBanks
    | with_reducible apply keeps_State_discardPass | (extract_lets +onlyGivenNames x) | split)

theorem keeps_State_requestReacq {b : Bool} {s0 s : State} {x1} {x2} {x3} {x4} {x5} {x6} {x7} (h : Keeps b s0 s) : Keeps b s0 (State.requestReacq s x1 x2 x3 x4 x5 x6 x7) := by
  unfold State.requestReacq
  repeat' (first
    | with_reducible assumption | with_reducible apply keeps_State_reacqBank | with_reducible apply keeps_State_addJob
    | with_reducible apply keeps_State_powerEasel | (extract_lets +onlyGivenNames x) | split)

end Sys2Proof.Machine
end

