-- ==== Sys2Proof/Laws/KeepsTrack.lean ====
section
/-! SUPPORT. What the operations of Machine/Track.lean keep (`Keeps`). -/

set_option Elab.async false

namespace Sys2Proof.Machine

set_option linter.all false
set_option maxRecDepth 20000

theorem keeps_State_modTrk {b : Bool} {s0 s : State} {x1} (h : Keeps b s0 s) : Keeps b s0 (State.modTrk s x1) := by
  unfold State.modTrk
  repeat' (first
    | with_reducible assumption | (extract_lets +onlyGivenNames x) | exact rfl | with_reducible apply Keeps.mk_)

theorem keeps_State_modChan {b : Bool} {s0 s : State} {x1} {x2} (h : Keeps b s0 s) : Keeps b s0 (State.modChan s x1 x2) := by
  unfold State.modChan
  repeat' (first | with_reducible assumption | with_reducible apply keeps_State_modTrk)

theorem keeps_State_modLane {b : Bool} {s0 s : State} {x1} {x2} {x3} (h : Keeps b s0 s) : Keeps b s0 (State.modLane s x1 x2 x3) := by
  unfold State.modLane
  repeat' (first | with_reducible assumption | with_reducible apply keeps_State_modChan)

theorem keeps_State_assign {b : Bool} {s0 s : State} {x1} {x2} {x3} {x4} {x5} {x6} {x7} (h : Keeps b s0 s) : Keeps b s0 (State.assign s x1 x2 x3 x4 x5 x6 x7) := by
  unfold State.assign
  repeat' (first | with_reducible assumption | with_reducible apply keeps_State_modChan)

theorem keeps_State_residueRecord {b : Bool} {s0 s : State} {x1} {x2} {x3} (h : Keeps b s0 s) : Keeps b s0 (State.residueRecord s x1 x2 x3) := by
  unfold State.residueRecord
  repeat' (first | with_reducible assumption | with_reducible apply keeps_State_domeRecord)

theorem keeps_State_residueRecords {b : Bool} {s0 s : State} {x1} {x2} (h : Keeps b s0 s) : Keeps b s0 (State.residueRecords s x1 x2) := by
  unfold State.residueRecords
  repeat' (first
    | with_reducible assumption | with_reducible apply keeps_State_residueRecord
    | with_reducible refine Keeps.foldl ?_ (fun s a h => ?_))

theorem keeps_State_modCluster {b : Bool} {s0 s : State} {x1} {x2} (h : Keeps b s0 s) : Keeps b s0 (State.modCluster s x1 x2) := by
  unfold State.modCluster
  repeat' (first | with_reducible assumption | with_reducible apply keeps_State_modTrk)

theorem keeps_State_goIdle {b : Bool} {s0 s : State} {x1} (h : Keeps b s0 s) : Keeps b s0 (State.goIdle s x1) := by
  unfold State.goIdle
  repeat' (first
    | with_reducible assumption | with_reducible apply keeps_State_withdrawReacq | with_reducible apply keeps_State_modChan
    | (extract_lets +onlyGivenNames x) | split)

theorem keeps_State_carry {b : Bool} {s0 s : State} {x1} {x2} (h : Keeps b s0 s) : Keeps b s0 (State.carry s x1 x2) := by
  unfold State.carry
  repeat' (first
    | with_reducible assumption | with_reducible apply keeps_State_modChan | with_reducible apply keeps_State_goIdle)

theorem keeps_State_retire {b : Bool} {s0 s : State} {x1} (h : Keeps b s0 s) : Keeps b s0 (State.retire s x1) := by
  unfold State.retire
  repeat' (first
    | with_reducible assumption | with_reducible apply keeps_State_residueRecords
    | with_reducible apply keeps_State_modCluster | with_reducible apply keeps_State_modChan
    | with_reducible apply keeps_State_carry | with_reducible apply keeps_State_goIdle
    | with_reducible apply keeps_State_modTrk | with_reducible apply keeps_State_domeRecord
    | with_reducible apply keeps_State_audit | (extract_lets +onlyGivenNames x) | split)

theorem keeps_State_carryAll {b : Bool} {s0 s : State} {x1} (h : Keeps b s0 s) : Keeps1 b s0 (State.carryAll s x1) := by
  unfold State.carryAll
  repeat' (first
    | with_reducible assumption | with_reducible apply keeps_State_retire | with_reducible apply keeps_State_carry
    | with_reducible apply keeps_State_goIdle | with_reducible refine Keeps.foldl ?_ (fun s a h => ?_)
    | with_reducible refine Keeps.foldl1 ?_ (fun r a h => ?_) | (extract_lets +onlyGivenNames x) | split)

theorem keeps_State_modNav {b : Bool} {s0 s : State} {x1} (h : Keeps b s0 s) : Keeps b s0 (State.modNav s x1) := by
  unfold State.modNav
  repeat' (first
    | with_reducible assumption

    | with_reducible apply KeepsR.next
    | with_reducible apply KeepsR.refused
    | with_reducible apply KeepsW.ok
    | with_reducible apply KeepsW.error
    | with_reducible apply KeepsO.some
    | with_reducible apply KeepsO.none
    | with_reducible apply KeepsP.some
    | with_reducible apply KeepsP.none
    | with_reducible apply KeepsQ.some
    | with_reducible apply KeepsQ.none
    | with_reducible apply Keeps.checked
    | with_reducible refine Keeps.foldl ?_ (fun s a h => ?_)
    | with_reducible refine Keeps.foldl1 ?_ (fun r a h => ?_)
    | with_reducible refine Keeps.forUpto ?_ (fun i s h => ?_)
    | (extract_lets +onlyGivenNames x; refine Keeps.gen x ?_ (fun hx => ?_) <;> [dsimp only [x]; try clear_value x])
    | (extract_lets +onlyGivenNames x; refine Keeps.gen1 x ?_ (fun hx => ?_) <;> [dsimp only [x]; try clear_value x])
    | (extract_lets +onlyGivenNames x)
    | (refine Keeps.fst ?_ (by with_reducible assumption))
    | (refine Keeps.snd ?_ (by with_reducible assumption))
    | (refine Keeps.exc ?_ (by with_reducible assumption))
    | (refine Keeps.opt ?_ (by with_reducible assumption))
    | (refine Keeps.trd ?_ (by with_reducible assumption))
    | (refine Keeps.optLast ?_ (by with_reducible assumption))
    | (refine Keeps.optState ?_ (by with_reducible assumption))
    | split
    | exact rfl
    | (dsimp +zetaDelta only; split)
    | with_reducible apply Keeps.mk_
    | with_reducible apply Keeps.mkMem_
    | exact id
    | exact fun _ => rfl
    | exact loadWf_put
    | exact loadWf_check
    | exact Images.wf_closed
    | exact Images.wf_begun
    | exact Images.wf_put
    | exact Images.wf_check)

theorem keeps_State_rebuildRetired {b : Bool} {s0 s : State}  (h : Keeps b s0 s) : Keeps b s0 (State.rebuildRetired s) := by
  unfold State.rebuildRetired
  repeat' (first
    | with_reducible assumption | with_reducible apply keeps_State_modCluster | with_reducible apply keeps_State_modTrk
    | with_reducible refine Keeps.foldl ?_ (fun s a h => ?_))

end Sys2Proof.Machine
end

