-- ==== Sys2Proof/Laws/KeepsTrackRows.lean ====
section
/-! SUPPORT. What the operations of Machine/TrackRows.lean keep (`Keeps`). -/

set_option Elab.async false

namespace Sys2Proof.Machine

set_option linter.all false
set_option maxRecDepth 20000

theorem keeps_State_giveTo {b : Bool} {s0 s : State} {x1} {x2} (h : Keeps b s0 s) : Keeps b s0 (State.giveTo s x1 x2) := by
  unfold State.giveTo
  repeat' (first
    | with_reducible assumption | with_reducible apply keeps_State_withdrawReacq | with_reducible apply keeps_State_modChan
    | with_reducible apply keeps_State_modLane | (extract_lets +onlyGivenNames x) | split)

theorem keeps_bodyTrkSetLoop {b : Bool} {s0 s : State} {x0} (h : Keeps b s0 s) : Keeps1 b s0 (bodyTrkSetLoop x0 s) := by
  unfold bodyTrkSetLoop
  repeat' (first
    | with_reducible assumption | with_reducible apply keeps_State_modTrk | with_reducible apply Keeps.checked)

theorem keeps_execTrkSetLoop {b : Bool} {s0 s : State} {x0} (h : Keeps b s0 s) : KeepsR b s0 (execTrkSetLoop x0 s) := by
  unfold execTrkSetLoop
  repeat' (first
    | with_reducible assumption | with_reducible refine keeps_hostCommand ?_ (fun c s h => ?_)
    | with_reducible apply keeps_bodyTrkSetLoop)

theorem keeps_bodyTrkGetLoop {b : Bool} {s0 s : State} {x0} (h : Keeps b s0 s) : Keeps1 b s0 (bodyTrkGetLoop x0 s) := by
  unfold bodyTrkGetLoop
  repeat' (first | with_reducible assumption | with_reducible apply Keeps.checked)

theorem keeps_execTrkGetLoop {b : Bool} {s0 s : State} {x0} (h : Keeps b s0 s) : KeepsR b s0 (execTrkGetLoop x0 s) := by
  unfold execTrkGetLoop
  repeat' (first
    | with_reducible assumption | with_reducible refine keeps_hostCommand ?_ (fun c s h => ?_)
    | with_reducible apply keeps_bodyTrkGetLoop)

theorem keeps_bodyTrkSetPalette {b : Bool} {s0 s : State} {x0} (h : Keeps b s0 s) : Keeps1 b s0 (bodyTrkSetPalette x0 s) := by
  unfold bodyTrkSetPalette
  repeat' (first
    | with_reducible assumption | with_reducible apply keeps_State_modTrk | with_reducible apply Keeps.checked)

theorem keeps_execTrkSetPalette {b : Bool} {s0 s : State} {x0} (h : Keeps b s0 s) : KeepsR b s0 (execTrkSetPalette x0 s) := by
  unfold execTrkSetPalette
  repeat' (first
    | with_reducible assumption | with_reducible refine keeps_hostCommand ?_ (fun c s h => ?_)
    | with_reducible apply keeps_bodyTrkSetPalette)

theorem keeps_bodyTrkGetPalette {b : Bool} {s0 s : State} {x0} (h : Keeps b s0 s) : Keeps1 b s0 (bodyTrkGetPalette x0 s) := by
  unfold bodyTrkGetPalette
  repeat' (first | with_reducible assumption | with_reducible apply keeps_query)

theorem keeps_execTrkGetPalette {b : Bool} {s0 s : State} {x0} (h : Keeps b s0 s) : KeepsR b s0 (execTrkGetPalette x0 s) := by
  unfold execTrkGetPalette
  repeat' (first
    | with_reducible assumption | with_reducible refine keeps_hostCommand ?_ (fun c s h => ?_)
    | with_reducible apply keeps_bodyTrkGetPalette)

theorem keeps_State_release_ {b : Bool} {s0 s : State} {x1} (h : Keeps b s0 s) : Keeps b s0 (State.release_ s x1) := by
  unfold State.release_
  repeat' (first
    | with_reducible assumption | with_reducible apply keeps_State_goIdle | with_reducible apply keeps_State_modTrk | split)

theorem keeps_bodyTrkRelease {b : Bool} {s0 s : State} {x0} (h : Keeps b s0 s) : Keeps1 b s0 (bodyTrkRelease x0 s) := by
  unfold bodyTrkRelease
  repeat' (first
    | with_reducible assumption | with_reducible apply keeps_State_release_ | with_reducible apply Keeps.checked
    | with_reducible refine Keeps.forUpto ?_ (fun i s h => ?_) | (extract_lets +onlyGivenNames x) | split)

theorem keeps_execTrkRelease {b : Bool} {s0 s : State} {x0} (h : Keeps b s0 s) : KeepsR b s0 (execTrkRelease x0 s) := by
  unfold execTrkRelease
  repeat' (first
    | with_reducible assumption | with_reducible refine keeps_hostCommand ?_ (fun c s h => ?_)
    | with_reducible apply keeps_bodyTrkRelease)

theorem keeps_bodyTrkGetChannel {b : Bool} {s0 s : State} {x0} (h : Keeps b s0 s) : Keeps1 b s0 (bodyTrkGetChannel x0 s) := by
  unfold bodyTrkGetChannel
  repeat' (first | with_reducible assumption | with_reducible apply Keeps.checked)

theorem keeps_execTrkGetChannel {b : Bool} {s0 s : State} {x0} (h : Keeps b s0 s) : KeepsR b s0 (execTrkGetChannel x0 s) := by
  unfold execTrkGetChannel
  repeat' (first
    | with_reducible assumption | with_reducible refine keeps_hostCommand ?_ (fun c s h => ?_)
    | with_reducible apply keeps_bodyTrkGetChannel)

theorem keeps_bodyTrkGetSummary {b : Bool} {s0 s : State} {x0} (h : Keeps b s0 s) : Keeps1 b s0 (bodyTrkGetSummary x0 s) := by
  unfold bodyTrkGetSummary
  repeat' (first | with_reducible assumption | with_reducible apply keeps_query)

theorem keeps_execTrkGetSummary {b : Bool} {s0 s : State} {x0} (h : Keeps b s0 s) : KeepsR b s0 (execTrkGetSummary x0 s) := by
  unfold execTrkGetSummary
  repeat' (first
    | with_reducible assumption | with_reducible refine keeps_hostCommand ?_ (fun c s h => ?_)
    | with_reducible apply keeps_bodyTrkGetSummary)

theorem keeps_bodyTrkSetConfig {b : Bool} {s0 s : State} {x0} (h : Keeps b s0 s) : Keeps1 b s0 (bodyTrkSetConfig x0 s) := by
  unfold bodyTrkSetConfig
  repeat' (first
    | with_reducible assumption | with_reducible apply keeps_State_modTrk | with_reducible apply Keeps.checked)

theorem keeps_execTrkSetConfig {b : Bool} {s0 s : State} {x0} (h : Keeps b s0 s) : KeepsR b s0 (execTrkSetConfig x0 s) := by
  unfold execTrkSetConfig
  repeat' (first
    | with_reducible assumption | with_reducible refine keeps_hostCommand ?_ (fun c s h => ?_)
    | with_reducible apply keeps_bodyTrkSetConfig)

theorem keeps_bodyTrkGetConfig {b : Bool} {s0 s : State} {x0} (h : Keeps b s0 s) : Keeps1 b s0 (bodyTrkGetConfig x0 s) := by
  unfold bodyTrkGetConfig
  repeat' (first | with_reducible assumption | with_reducible apply keeps_query)

theorem keeps_execTrkGetConfig {b : Bool} {s0 s : State} {x0} (h : Keeps b s0 s) : KeepsR b s0 (execTrkGetConfig x0 s) := by
  unfold execTrkGetConfig
  repeat' (first
    | with_reducible assumption | with_reducible refine keeps_hostCommand ?_ (fun c s h => ?_)
    | with_reducible apply keeps_bodyTrkGetConfig)

theorem keeps_State_withholdDump {b : Bool} {s0 s : State} {x1} {x2} {x3} {x4} (h : Keeps b s0 s) : Keeps b s0 (State.withholdDump s x1 x2 x3 x4) := by
  unfold State.withholdDump
  repeat' (first | with_reducible assumption | with_reducible apply keeps_State_modChan)

theorem keeps_State_residueFailure {b : Bool} {s0 s : State} {x1} {x2} {x3} (h : Keeps b s0 s) : Keeps b s0 (State.residueFailure s x1 x2 x3) := by
  unfold State.residueFailure
  repeat' (first
    | with_reducible assumption | with_reducible apply keeps_State_claim | with_reducible apply keeps_State_modLane
    | with_reducible apply keeps_State_modTrk | with_reducible apply keeps_State_modChan)

theorem keeps_execAccumulationDump {b : Bool} {s0 s : State} {x0} {x1} {x2} (h : Keeps b s0 s) : KeepsR b s0 (execAccumulationDump x0 x1 x2 s) := by
  unfold execAccumulationDump
  repeat' (first
    | with_reducible assumption | with_reducible apply keeps_State_goIdle | with_reducible apply keeps_State_retire
    | with_reducible apply keeps_State_withholdDump | with_reducible apply keeps_State_residueFailure
    | with_reducible apply keeps_State_modLane | with_reducible apply KeepsR.next | (extract_lets +onlyGivenNames x)
    | split)

theorem keeps_execSidePeakCheckEnd {b : Bool} {s0 s : State} {x0} {x1} (h : Keeps b s0 s) : KeepsR b s0 (execSidePeakCheckEnd x0 x1 s) := by
  unfold execSidePeakCheckEnd
  repeat' (first
    | with_reducible assumption | with_reducible apply keeps_State_modLane | with_reducible apply KeepsR.next
    | (extract_lets +onlyGivenNames x) | split)

theorem keeps_execSelfCheckComplete {b : Bool} {s0 s : State} {x0} {x1} (h : Keeps b s0 s) : KeepsR b s0 (execSelfCheckComplete x0 x1 s) := by
  unfold execSelfCheckComplete
  repeat' (first
    | with_reducible assumption | with_reducible apply keeps_State_residueRecords | with_reducible apply keeps_State_claim
    | with_reducible apply keeps_State_modChan | with_reducible apply KeepsR.next | (extract_lets +onlyGivenNames x)
    | split | (dsimp +zetaDelta only; split))

theorem keeps_execLoopStateCheckpoint {b : Bool} {s0 s : State}  (h : Keeps b s0 s) : KeepsR b s0 (execLoopStateCheckpoint s) := by
  unfold execLoopStateCheckpoint
  repeat' (first
    | with_reducible assumption | with_reducible apply keeps_State_modCluster | with_reducible apply keeps_State_modTrk
    | with_reducible apply KeepsR.next | with_reducible refine Keeps.forUpto ?_ (fun i s h => ?_)
    | (extract_lets +onlyGivenNames x) | split)

theorem keeps_execPullInTimeout {b : Bool} {s0 s : State} {x0} {x1} (h : Keeps b s0 s) : KeepsR b s0 (execPullInTimeout x0 x1 s) := by
  unfold execPullInTimeout
  repeat' (first
    | with_reducible assumption | with_reducible apply keeps_State_modChan | with_reducible apply keeps_State_modLane
    | with_reducible apply keeps_State_goIdle | with_reducible apply keeps_State_modTrk | with_reducible apply KeepsR.next
    | (extract_lets +onlyGivenNames x) | split)

theorem keeps_execSyncTimeout {b : Bool} {s0 s : State} {x0} {x1} (h : Keeps b s0 s) : KeepsR b s0 (execSyncTimeout x0 x1 s) := by
  unfold execSyncTimeout
  repeat' (first
    | with_reducible assumption | with_reducible apply keeps_State_modChan | with_reducible apply keeps_State_modLane
    | with_reducible apply KeepsR.next | (extract_lets +onlyGivenNames x) | split)

theorem keeps_execLossTimeExpiry {b : Bool} {s0 s : State} {x0} {x1} (h : Keeps b s0 s) : KeepsR b s0 (execLossTimeExpiry x0 x1 s) := by
  unfold execLossTimeExpiry
  repeat' (first
    | with_reducible assumption | with_reducible apply keeps_State_modLane | with_reducible apply KeepsR.next
    | (extract_lets +onlyGivenNames x) | split)

theorem keeps_execLostCoastExpiry {b : Bool} {s0 s : State} {x0} (h : Keeps b s0 s) : KeepsR b s0 (execLostCoastExpiry x0 s) := by
  unfold execLostCoastExpiry
  repeat' (first
    | with_reducible assumption | with_reducible apply keeps_State_modChan | with_reducible apply keeps_State_requestReacq
    | with_reducible apply keeps_State_goIdle | with_reducible apply KeepsR.next | (extract_lets +onlyGivenNames x) | split)

theorem keeps_execReacqTimeout {b : Bool} {s0 s : State} {x0} (h : Keeps b s0 s) : KeepsR b s0 (execReacqTimeout x0 s) := by
  unfold execReacqTimeout
  repeat' (first
    | with_reducible assumption | with_reducible apply keeps_State_modTrk | with_reducible apply KeepsR.next
    | (extract_lets +onlyGivenNames x) | split)

theorem keeps_execLostLaneCheck {b : Bool} {s0 s : State} {x0} {x1} {x2} (h : Keeps b s0 s) : KeepsR b s0 (execLostLaneCheck x0 x1 x2 s) := by
  unfold execLostLaneCheck
  repeat' (first
    | with_reducible assumption | with_reducible apply keeps_State_withdrawReacq | with_reducible apply keeps_State_modLane
    | with_reducible apply KeepsR.next | (extract_lets +onlyGivenNames x) | split | (dsimp +zetaDelta only; split))

theorem keeps_execLostLaneReentry {b : Bool} {s0 s : State} {x0} {x1} (h : Keeps b s0 s) : KeepsR b s0 (execLostLaneReentry x0 x1 s) := by
  unfold execLostLaneReentry
  repeat' (first
    | with_reducible assumption | with_reducible apply keeps_State_modLane | with_reducible apply KeepsR.next
    | (extract_lets +onlyGivenNames x) | split)

theorem keeps_execMultipathFit {b : Bool} {s0 s : State} {x0} {x1} {x2} (h : Keeps b s0 s) : KeepsR b s0 (execMultipathFit x0 x1 x2 s) := by
  unfold execMultipathFit
  repeat' (first
    | with_reducible assumption | with_reducible apply keeps_State_modLane | with_reducible apply keeps_State_modTrk
    | with_reducible apply KeepsR.next | (extract_lets +onlyGivenNames x) | split | exact rfl
    | with_reducible apply Keeps.mk_)

theorem keeps_State_applyLoops {b : Bool} {s0 s : State}  (h : Keeps b s0 s) : Keeps b s0 (State.applyLoops s) := by
  unfold State.applyLoops
  repeat' (first
    | with_reducible assumption | with_reducible apply keeps_State_modTrk
    | with_reducible refine Keeps.foldl ?_ (fun s a h => ?_))

theorem keeps_State_expireReacq {b : Bool} {s0 s : State}  (h : Keeps b s0 s) : Keeps b s0 (State.expireReacq s) := by
  unfold State.expireReacq
  repeat' (first
    | with_reducible assumption | with_reducible apply keeps_State_goIdle
    | with_reducible refine Keeps.forUpto ?_ (fun i s h => ?_) | (extract_lets +onlyGivenNames x) | split)

end Sys2Proof.Machine
end

