-- ==== Sys2Proof/Laws/KeepsAcq.lean ====
section
/-! SUPPORT. What the operations of Machine/Acq.lean keep (`Keeps`). -/

set_option Elab.async false

namespace Sys2Proof.Machine

set_option linter.all false
set_option maxRecDepth 20000

theorem keeps_State_twinRecord {b : Bool} {s0 s : State} {x1} {x2} {x3} {x4} (h : Keeps b s0 s) : Keeps b s0 (State.twinRecord s x1 x2 x3 x4) := by
  unfold State.twinRecord
  repeat' (first | with_reducible assumption | with_reducible apply keeps_State_domeRecord)

theorem keeps_State_twinEvent {b : Bool} {s0 s : State} {x1} {x2} (h : Keeps b s0 s) : Keeps b s0 (State.twinEvent s x1 x2) := by
  unfold State.twinEvent
  repeat' (first
    | with_reducible assumption | with_reducible apply keeps_State_claim | with_reducible apply keeps_State_twinRecord)

theorem keeps_State_modWatch {b : Bool} {s0 s : State} {x1} (h : Keeps b s0 s) : Keeps b s0 (State.modWatch s x1) := by
  unfold State.modWatch
  repeat' (first | with_reducible assumption | with_reducible apply keeps_State_modEasel)

theorem keeps_State_suspect {b : Bool} {s0 s : State} {x1} {x2} {x3} {x4} (h : Keeps b s0 s) : Keeps b s0 (State.suspect s x1 x2 x3 x4) := by
  unfold State.suspect
  repeat' (first
    | with_reducible assumption | with_reducible apply keeps_State_twinEvent | with_reducible apply keeps_State_modWatch
    | (extract_lets +onlyGivenNames x) | split)

theorem keeps_State_dropCandidate {b : Bool} {s0 s : State}  (h : Keeps b s0 s) : Keeps b s0 (State.dropCandidate s) := by
  unfold State.dropCandidate
  repeat' (first | with_reducible assumption | with_reducible apply keeps_State_modEasel)

theorem keeps_State_handOver {b : Bool} {s0 s : State} {x1} {x2} {x3} (h : Keeps b s0 s) : Keeps1 b s0 (State.handOver s x1 x2 x3) := by
  unfold State.handOver
  repeat' (first
    | with_reducible assumption | with_reducible apply keeps_State_giveTo | with_reducible apply keeps_State_suspect
    | with_reducible apply keeps_State_assign | with_reducible apply keeps_State_modEasel
    | with_reducible apply keeps_State_dropCandidate | (extract_lets +onlyGivenNames x) | split)

theorem keeps_State_markCandidate {b : Bool} {s0 s : State} {x1} {x2} {x3} {x4} (h : Keeps b s0 s) : Keeps b s0 (State.markCandidate s x1 x2 x3 x4) := by
  unfold State.markCandidate
  repeat' (first | with_reducible assumption | with_reducible apply keeps_State_modEasel | split)

theorem keeps_State_serveQueue {b : Bool} {s0 s : State}  (h : Keeps b s0 s) : Keeps b s0 (State.serveQueue s) := by
  unfold State.serveQueue
  repeat' (first
    | with_reducible assumption | with_reducible apply keeps_State_modEasel | with_reducible apply keeps_State_handOver
    | with_reducible apply keeps_State_markCandidate | with_reducible refine Keeps.foldl ?_ (fun s a h => ?_)
    | (extract_lets +onlyGivenNames x) | split)

theorem keeps_State_deliver {b : Bool} {s0 s : State} {x1} {x2} {x3} (h : Keeps b s0 s) : Keeps1 b s0 (State.deliver s x1 x2 x3) := by
  unfold State.deliver
  repeat' (first
    | with_reducible assumption | with_reducible apply keeps_State_handOver | with_reducible apply keeps_State_serveQueue)

theorem keeps_State_watchSettings {b : Bool} {s0 s : State}  (h : Keeps b s0 s) : Keeps b s0 (State.watchSettings s) := by
  unfold State.watchSettings
  repeat' (first | with_reducible assumption | with_reducible apply keeps_State_modWatch)

theorem keeps_State_visit {b : Bool} {s0 s : State}  (h : Keeps b s0 s) : Keeps b s0 (State.visit s) := by
  unfold State.visit
  repeat' (first
    | with_reducible assumption | with_reducible apply keeps_State_watchSettings
    | with_reducible apply keeps_State_modWatch | with_reducible apply keeps_State_addJob
    | (extract_lets +onlyGivenNames x) | split | (dsimp +zetaDelta only; split))

theorem keeps_State_fillWatch {b : Bool} {s0 s : State}  (h : Keeps b s0 s) : Keeps b s0 (State.fillWatch s) := by
  unfold State.fillWatch
  repeat' (first
    | with_reducible assumption | with_reducible apply keeps_State_watchSettings
    | with_reducible apply keeps_State_assignBanks | with_reducible apply keeps_State_visit
    | with_reducible refine Keeps.forUpto ?_ (fun i s h => ?_) | (extract_lets +onlyGivenNames x) | split)

theorem keeps_State_followTwins {b : Bool} {s0 s : State}  (h : Keeps b s0 s) : Keeps b s0 (State.followTwins s) := by
  unfold State.followTwins
  repeat' (first
    | with_reducible assumption | with_reducible apply keeps_State_modWatch | with_reducible apply keeps_State_twinEvent
    | with_reducible refine Keeps.foldl ?_ (fun s a h => ?_) | (extract_lets +onlyGivenNames x) | split)

theorem keeps_State_requestCapture {b : Bool} {s0 s : State} {x1} {x2} {x3} {x4} {x5} {x6} {x7} (h : Keeps b s0 s) : KeepsP b s0 (State.requestCapture s x1 x2 x3 x4 x5 x6 x7) := by
  unfold State.requestCapture
  repeat' (first
    | with_reducible assumption | with_reducible apply keeps_State_powerDomains | with_reducible apply KeepsP.some
    | with_reducible apply KeepsP.none | (extract_lets +onlyGivenNames x) | split | exact rfl
    | with_reducible apply Keeps.mk_)

theorem keeps_State_scheduleFix {b : Bool} {s0 s : State}  (h : Keeps b s0 s) : Keeps b s0 (State.scheduleFix s) := by
  unfold State.scheduleFix
  repeat' (first
    | with_reducible assumption | (extract_lets +onlyGivenNames x) | exact rfl | with_reducible apply Keeps.mk_)

theorem keeps_State_sketchSolve {b : Bool} {s0 s : State} {x1} (h : Keeps b s0 s) : Keeps b s0 (State.sketchSolve s x1) := by
  unfold State.sketchSolve
  repeat' (first
    | with_reducible assumption | with_reducible apply keeps_State_powerDownIdle
    | with_reducible apply keeps_State_modEasel)

theorem keeps_State_sketchSearch {b : Bool} {s0 s : State} {x1} {x2} (h : Keeps b s0 s) : Keeps b s0 (State.sketchSearch s x1 x2) := by
  unfold State.sketchSearch
  repeat' (first | with_reducible assumption | with_reducible apply keeps_State_addJob)

theorem keeps_State_sketchRun {b : Bool} {s0 s : State} {x1} {x2} (h : Keeps b s0 s) : Keeps b s0 (State.sketchRun s x1 x2) := by
  unfold State.sketchRun
  repeat' (first
    | with_reducible assumption | with_reducible apply keeps_State_sketchSearch | with_reducible apply keeps_State_modEasel)

theorem keeps_State_sketchStep {b : Bool} {s0 s : State} {x1} {x2} (h : Keeps b s0 s) : Keeps b s0 (State.sketchStep s x1 x2) := by
  unfold State.sketchStep
  repeat' (first
    | with_reducible assumption | with_reducible apply keeps_State_sketchSolve | with_reducible apply keeps_State_draw
    | with_reducible apply keeps_State_sketchRun | (extract_lets +onlyGivenNames x)
    | (refine Keeps.snd ?_ (by with_reducible assumption)) | split)

theorem keeps_State_sketchBegin {b : Bool} {s0 s : State}  (h : Keeps b s0 s) : Keeps b s0 (State.sketchBegin s) := by
  unfold State.sketchBegin
  repeat' (first
    | with_reducible assumption | with_reducible apply keeps_State_assignBanks
    | with_reducible apply keeps_State_sketchStep | with_reducible apply keeps_State_powerEasel | split)

theorem keeps_State_sketchChecks {b : Bool} {s0 s : State} {x1} {x2} {x3} (h : Keeps b s0 s) : Keeps3 b s0 (State.sketchChecks s x1 x2 x3) := by
  unfold State.sketchChecks
  repeat' (first
    | with_reducible assumption | with_reducible apply keeps_State_draw | (extract_lets +onlyGivenNames x)
    | (refine Keeps.snd ?_ (by with_reducible assumption)) | split | (dsimp +zetaDelta only; split))

theorem keeps_State_sketchSettings {b : Bool} {s0 s : State}  (h : Keeps b s0 s) : Keeps b s0 (State.sketchSettings s) := by
  unfold State.sketchSettings
  repeat' (first | with_reducible assumption | with_reducible apply keeps_State_modEasel)

theorem keeps_State_startScheduled {b : Bool} {s0 s : State}  (h : Keeps b s0 s) : Keeps b s0 (State.startScheduled s) := by
  unfold State.startScheduled
  repeat' (first
    | with_reducible assumption | with_reducible apply keeps_State_sketchSettings
    | with_reducible apply keeps_State_modEasel | with_reducible apply keeps_State_scheduleFix
    | with_reducible apply keeps_State_sketchChecks | with_reducible apply keeps_State_requestCapture
    | (extract_lets +onlyGivenNames x; have hf : (_ → _) := x; clear hf; dsimp only [x]; clear x)
    | (extract_lets +onlyGivenNames x) | (refine Keeps.trd ?_ (by with_reducible assumption))
    | (refine Keeps.optLast ?_ (by with_reducible assumption)) | split)

theorem keeps_State_sketchDue {b : Bool} {s0 s : State}  (h : Keeps b s0 s) : Keeps b s0 (State.sketchDue s) := by
  unfold State.sketchDue
  repeat' (first
    | with_reducible assumption | with_reducible apply keeps_State_scheduleFix | with_reducible apply keeps_State_modEasel
    | with_reducible apply keeps_State_startScheduled | split)

theorem keeps_State_watchBoundary {b : Bool} {s0 s : State}  (h : Keeps b s0 s) : Keeps b s0 (State.watchBoundary s) := by
  unfold State.watchBoundary
  repeat' (first
    | with_reducible assumption | with_reducible apply keeps_State_modWatch
    | with_reducible apply keeps_State_watchSettings | with_reducible apply keeps_State_fillWatch
    | with_reducible apply keeps_State_discardPass | with_reducible apply keeps_State_visit
    | with_reducible apply keeps_State_startPass | (extract_lets +onlyGivenNames x) | split
    | (dsimp +zetaDelta only; split))

theorem keeps_State_yieldWatch {b : Bool} {s0 s : State}  (h : Keeps b s0 s) : Keeps b s0 (State.yieldWatch s) := by
  unfold State.yieldWatch
  repeat' (first
    | with_reducible assumption | with_reducible apply keeps_State_assignBanks
    | with_reducible apply keeps_State_suspendPass | with_reducible refine Keeps.forUpto ?_ (fun i s h => ?_)
    | (extract_lets +onlyGivenNames x) | split)

theorem keeps_bodyTrkAssign {b : Bool} {s0 s : State} {x0} (h : Keeps b s0 s) : Keeps1 b s0 (bodyTrkAssign x0 s) := by
  unfold bodyTrkAssign
  repeat' (first
    | with_reducible assumption | with_reducible apply keeps_State_serveQueue | with_reducible apply keeps_State_assign
    | with_reducible apply Keeps.checked | (extract_lets +onlyGivenNames x) | split)

theorem keeps_execTrkAssign {b : Bool} {s0 s : State} {x0} (h : Keeps b s0 s) : KeepsR b s0 (execTrkAssign x0 s) := by
  unfold execTrkAssign
  repeat' (first
    | with_reducible assumption | with_reducible refine keeps_hostCommand ?_ (fun c s h => ?_)
    | with_reducible apply keeps_bodyTrkAssign)

end Sys2Proof.Machine
end

