-- ==== Sys2Proof/Laws/KeepsCalOps.lean ====
section
/-! SUPPORT. What the operations of Machine/CalOps.lean keep (`Keeps`). -/

set_option Elab.async false

namespace Sys2Proof.Machine

set_option linter.all false
set_option maxRecDepth 20000

theorem keeps_State_unclaim {b : Bool} {s0 s : State} {x1} (h : Keeps b s0 s) : Keeps b s0 (State.unclaim s x1) := by
  unfold State.unclaim
  repeat' (first | with_reducible assumption | with_reducible apply keeps_State_modChan)

theorem keeps_State_calRelease {b : Bool} {s0 s : State}  (h : Keeps b s0 s) : Keeps b s0 (State.calRelease s) := by
  unfold State.calRelease
  repeat' (first
    | with_reducible assumption | with_reducible apply keeps_State_modCal | with_reducible apply keeps_State_modEasel
    | with_reducible apply keeps_State_assignBanks | with_reducible apply keeps_State_refreeze
    | with_reducible apply keeps_State_unclaim | with_reducible refine Keeps.foldl ?_ (fun s a h => ?_) | split)

theorem keeps_State_answerCal {b : Bool} {s0 s : State} {x1} {x2} {x3} (h : Keeps b s0 s) : Keeps b s0 (State.answerCal s x1 x2 x3) := by
  unfold State.answerCal
  repeat' (first
    | with_reducible assumption | with_reducible apply keeps_State_modCal | with_reducible apply keeps_State_finalReply
    | with_reducible refine Keeps.foldl ?_ (fun s a h => ?_))

theorem keeps_State_calAbort {b : Bool} {s0 s : State} {x1} {x2} {x3} (h : Keeps b s0 s) : Keeps b s0 (State.calAbort s x1 x2 x3) := by
  unfold State.calAbort
  repeat' (first
    | with_reducible assumption | with_reducible apply keeps_State_calRelease | with_reducible apply keeps_State_modCal
    | with_reducible apply keeps_State_refreeze | with_reducible apply keeps_State_answerCal)

theorem keeps_State_clearBanks {b : Bool} {s0 s : State}  (h : Keeps b s0 s) : Keeps b s0 (State.clearBanks s) := by
  unfold State.clearBanks
  repeat' (first
    | with_reducible assumption | with_reducible apply keeps_State_discardPass
    | with_reducible refine Keeps.forUpto ?_ (fun i s h => ?_))

theorem keeps_State_calStart {b : Bool} {s0 s : State} {x1} (h : Keeps b s0 s) : Keeps b s0 (State.calStart s x1) := by
  unfold State.calStart
  repeat' (first
    | with_reducible assumption | with_reducible apply keeps_State_modCal | with_reducible apply keeps_State_calAbort
    | with_reducible apply keeps_State_clearBanks | with_reducible apply keeps_State_modTrk
    | with_reducible apply keeps_State_modEasel | with_reducible apply keeps_State_refreeze
    | with_reducible refine Keeps.foldl ?_ (fun s a h => ?_) | (extract_lets +onlyGivenNames x) | split
    | (dsimp +zetaDelta only; split))

theorem keeps_State_tempTrigger {b : Bool} {s0 s : State} {x1} (h : Keeps b s0 s) : Keeps b s0 (State.tempTrigger s x1) := by
  unfold State.tempTrigger
  repeat' (first
    | with_reducible assumption | with_reducible apply keeps_State_calTrigger | (extract_lets +onlyGivenNames x) | split
    | exact rfl | with_reducible apply Keeps.mk_)

theorem keeps_State_lateClaims {b : Bool} {s0 s : State}  (h : Keeps b s0 s) : Keeps b s0 (State.lateClaims s) := by
  unfold State.lateClaims
  repeat' (first
    | with_reducible assumption | with_reducible apply keeps_State_modCal | with_reducible apply keeps_State_unclaim
    | with_reducible refine Keeps.foldl ?_ (fun s a h => ?_) | (extract_lets +onlyGivenNames x) | split)

theorem keeps_State_calBoundary {b : Bool} {s0 s : State}  (h : Keeps b s0 s) : Keeps b s0 (State.calBoundary s) := by
  unfold State.calBoundary
  repeat' (first
    | with_reducible assumption | with_reducible apply keeps_State_lateClaims | with_reducible apply keeps_State_modInput
    | with_reducible apply keeps_State_calStart | with_reducible apply keeps_State_modCal
    | (extract_lets +onlyGivenNames x) | split | (dsimp +zetaDelta only; split))

end Sys2Proof.Machine
end

