-- ==== Sys2Proof/Laws/KeepsFront.lean ====
section
/-! SUPPORT. What the operations of Machine/Front.lean keep (`Keeps`). -/

set_option Elab.async false

namespace Sys2Proof.Machine

set_option linter.all false
set_option maxRecDepth 20000

theorem keeps_State_freeCapture {b : Bool} {s0 s : State} {x1} (h : Keeps b s0 s) : Keeps b s0 (State.freeCapture s x1) := by
  unfold State.freeCapture
  repeat' (first | with_reducible assumption | with_reducible apply keeps_State_modEasel)

theorem keeps_State_endFix {b : Bool} {s0 s : State} {x1} {x2} {x3} (h : Keeps b s0 s) : Keeps b s0 (State.endFix s x1 x2 x3) := by
  unfold State.endFix
  repeat' (first
    | with_reducible assumption | with_reducible apply keeps_State_dropJob | with_reducible apply keeps_State_modEasel
    | with_reducible apply keeps_State_freeCapture | with_reducible apply keeps_State_finalOption
    | with_reducible refine Keeps.foldl ?_ (fun s a h => ?_) | (extract_lets +onlyGivenNames x) | split)

theorem keeps_State_abandonCapture {b : Bool} {s0 s : State} {x1} (h : Keeps b s0 s) : Keeps b s0 (State.abandonCapture s x1) := by
  unfold State.abandonCapture
  repeat' (first
    | with_reducible assumption | with_reducible apply keeps_State_refreeze | with_reducible apply keeps_State_modEasel
    | with_reducible apply keeps_State_endFix | with_reducible apply keeps_State_finalOption
    | with_reducible apply keeps_State_freeCapture | (extract_lets +onlyGivenNames x) | split)

theorem keeps_State_disturb {b : Bool} {s0 s : State} {x1} {x2} (h : Keeps b s0 s) : Keeps b s0 (State.disturb s x1 x2) := by
  unfold State.disturb
  repeat' (first | with_reducible assumption | with_reducible apply keeps_State_modCal)

theorem keeps_State_failFix {b : Bool} {s0 s : State} {x1} (h : Keeps b s0 s) : Keeps b s0 (State.failFix s x1) := by
  unfold State.failFix
  repeat' (first | with_reducible assumption | with_reducible apply keeps_State_endFix | split)

theorem keeps_State_failJobs {b : Bool} {s0 s : State} {x1} (h : Keeps b s0 s) : Keeps b s0 (State.failJobs s x1) := by
  unfold State.failJobs
  repeat' (first
    | with_reducible assumption | with_reducible apply keeps_State_dropJob | with_reducible apply keeps_State_finalOption
    | with_reducible refine Keeps.foldl ?_ (fun s a h => ?_))

theorem keeps_State_holdPasses {b : Bool} {s0 s : State}  (h : Keeps b s0 s) : Keeps b s0 (State.holdPasses s) := by
  unfold State.holdPasses
  repeat' (first | with_reducible assumption | with_reducible apply keeps_State_modEasel)

theorem keeps_State_followLanes {b : Bool} {s0 s : State}  (h : Keeps b s0 s) : Keeps b s0 (State.followLanes s) := by
  unfold State.followLanes
  repeat' (first
    | with_reducible assumption | with_reducible apply keeps_State_abandonCapture
    | with_reducible apply keeps_State_disturb | with_reducible apply keeps_State_failFix
    | with_reducible apply keeps_State_failJobs | with_reducible apply keeps_State_holdPasses
    | with_reducible refine Keeps.forUpto ?_ (fun i s h => ?_) | (extract_lets +onlyGivenNames x) | split)

theorem keeps_execInputSetPort {b : Bool} {s0 s : State} {x0} (h : Keeps b s0 s) : KeepsR b s0 (execInputSetPort x0 s) := by
  unfold execInputSetPort
  repeat' (first
    | with_reducible assumption | with_reducible refine keeps_hostCommand ?_ (fun c s h => ?_)
    | with_reducible apply keeps_bodyInputSetPort | with_reducible apply keeps_State_followLanes)

theorem keeps_execInputTrain {b : Bool} {s0 s : State} {x0} (h : Keeps b s0 s) : KeepsR b s0 (execInputTrain x0 s) := by
  unfold execInputTrain
  repeat' (first
    | with_reducible assumption | with_reducible refine keeps_hostCommand ?_ (fun c s h => ?_)
    | with_reducible apply keeps_bodyInputTrain | with_reducible apply keeps_State_followLanes)

theorem keeps_execAgcWindow {b : Bool} {s0 s : State} {x0} {x1} {x2} (h : Keeps b s0 s) : KeepsR b s0 (execAgcWindow x0 x1 x2 s) := by
  unfold execAgcWindow
  repeat' (first
    | with_reducible assumption | with_reducible apply keeps_State_blankWindow | with_reducible apply keeps_State_window
    | with_reducible apply keeps_State_followLanes | with_reducible apply keeps_State_loseLock
    | with_reducible apply keeps_State_modPort | with_reducible apply KeepsR.next | (extract_lets +onlyGivenNames x)
    | split)

theorem keeps_execEyeTrackUpdate {b : Bool} {s0 s : State} {x0} {x1} {x2} (h : Keeps b s0 s) : KeepsR b s0 (execEyeTrackUpdate x0 x1 x2 s) := by
  unfold execEyeTrackUpdate
  repeat' (first
    | with_reducible assumption | with_reducible apply keeps_State_followLanes | with_reducible apply keeps_State_loseLock
    | with_reducible apply keeps_State_modPort | with_reducible apply KeepsR.next | (extract_lets +onlyGivenNames x)
    | split)

theorem keeps_execTrainingAttemptTimeout {b : Bool} {s0 s : State} {x0} (h : Keeps b s0 s) : KeepsR b s0 (execTrainingAttemptTimeout x0 s) := by
  unfold execTrainingAttemptTimeout
  repeat' (first
    | with_reducible assumption | with_reducible apply keeps_State_followLanes
    | with_reducible apply keeps_State_failAttempt | with_reducible apply KeepsR.next | split)

end Sys2Proof.Machine
end

