-- ==== Sys2Proof/Laws/KeepsAcqRows.lean ====
section
/-! SUPPORT. What the operations of Machine/AcqRows.lean keep (`Keeps`). -/

set_option Elab.async false

namespace Sys2Proof.Machine

set_option linter.all false
set_option maxRecDepth 20000

theorem keeps_State_beginFix {b : Bool} {s0 s : State} {x1} (h : Keeps b s0 s) : KeepsQ b s0 (State.beginFix s x1) := by
  unfold State.beginFix
  repeat' (first
    | with_reducible assumption | with_reducible apply keeps_State_sketchBegin | with_reducible apply keeps_State_modEasel
    | with_reducible apply keeps_State_requestCapture | with_reducible apply KeepsQ.some | with_reducible apply KeepsQ.none
    | (extract_lets +onlyGivenNames x) | (refine Keeps.optLast ?_ (by with_reducible assumption)) | split)

theorem keeps_State_confirmTwin {b : Bool} {s0 s : State} {x1} {x2} {x3} {x4} (h : Keeps b s0 s) : Keeps b s0 (State.confirmTwin s x1 x2 x3 x4) := by
  unfold State.confirmTwin
  repeat' (first
    | with_reducible assumption | with_reducible apply keeps_State_modWatch | with_reducible apply keeps_State_assign
    | with_reducible apply keeps_State_twinEvent | (extract_lets +onlyGivenNames x) | split)

theorem keeps_State_searchAdvance {b : Bool} {s0 s : State} {x1} (h : Keeps b s0 s) : Keeps b s0 (State.searchAdvance s x1) := by
  unfold State.searchAdvance
  repeat' (first
    | with_reducible assumption | with_reducible apply keeps_State_modEasel
    | with_reducible apply keeps_State_powerDownIdle | with_reducible apply keeps_State_finalOption
    | with_reducible apply keeps_State_dropJob | (extract_lets +onlyGivenNames x) | split)

theorem keeps_State_judgeLower {b : Bool} {s0 s : State}  (h : Keeps b s0 s) : Keeps b s0 (State.judgeLower s) := by
  unfold State.judgeLower
  repeat' (first
    | with_reducible assumption | with_reducible apply keeps_State_assignBanks | with_reducible apply keeps_State_modEasel
    | with_reducible apply keeps_State_searchAdvance | with_reducible refine Keeps.foldl ?_ (fun s a h => ?_)
    | (extract_lets +onlyGivenNames x) | split)

theorem keeps_State_setTwin {b : Bool} {s0 s : State} {x1} {x2} (h : Keeps b s0 s) : Keeps b s0 (State.setTwin s x1 x2) := by
  unfold State.setTwin
  repeat' (first | with_reducible assumption | with_reducible apply keeps_State_modWatch)

theorem keeps_State_judgeVisit {b : Bool} {s0 s : State} {x1} {x2} {x3} {x4} (h : Keeps b s0 s) : Keeps b s0 (State.judgeVisit s x1 x2 x3 x4) := by
  unfold State.judgeVisit
  repeat' (first
    | with_reducible assumption | with_reducible apply keeps_State_suspect | with_reducible apply keeps_State_confirmTwin
    | with_reducible apply keeps_State_modWatch | with_reducible apply keeps_State_setTwin
    | with_reducible apply keeps_State_twinEvent | (extract_lets +onlyGivenNames x) | split
    | (dsimp +zetaDelta only; split))

theorem keeps_State_nextFix {b : Bool} {s0 s : State}  (h : Keeps b s0 s) : Keeps b s0 (State.nextFix s) := by
  unfold State.nextFix
  repeat' (first
    | with_reducible assumption | with_reducible apply keeps_State_modEasel | with_reducible apply keeps_State_beginFix
    | with_reducible apply keeps_State_finalOption | (extract_lets +onlyGivenNames x)
    | (refine Keeps.optState ?_ (by with_reducible assumption)) | split)

theorem keeps_State_searchEntry {b : Bool} {s0 s : State} {x1} {x2} (h : Keeps b s0 s) : Keeps b s0 (State.searchEntry s x1 x2) := by
  unfold State.searchEntry
  repeat' (first
    | with_reducible assumption | with_reducible apply keeps_State_suspect | with_reducible apply keeps_State_deliver
    | with_reducible apply keeps_State_markCandidate | (extract_lets +onlyGivenNames x) | split)

theorem keeps_State_searchPass {b : Bool} {s0 s : State} {x1} {x2} (h : Keeps b s0 s) : Keeps b s0 (State.searchPass s x1 x2) := by
  unfold State.searchPass
  repeat' (first
    | with_reducible assumption | with_reducible apply keeps_State_modEasel | with_reducible apply keeps_State_searchEntry
    | with_reducible refine Keeps.foldl ?_ (fun s a h => ?_) | split)

theorem keeps_State_reacqAgain {b : Bool} {s0 s : State} {x1} {x2} (h : Keeps b s0 s) : Keeps b s0 (State.reacqAgain s x1 x2) := by
  unfold State.reacqAgain
  repeat' (first
    | with_reducible assumption | with_reducible apply keeps_State_powerDownIdle | with_reducible apply keeps_State_dropJob
    | with_reducible apply keeps_State_modEasel | (extract_lets +onlyGivenNames x) | split)

theorem keeps_State_passPeaks {b : Bool} {s0 s : State} {x1} {x2} {x3} (h : Keeps b s0 s) : Keeps b s0 (State.passPeaks s x1 x2 x3) := by
  unfold State.passPeaks
  repeat' (first
    | with_reducible assumption | with_reducible apply keeps_State_searchAdvance
    | with_reducible apply keeps_State_searchPass | with_reducible apply keeps_State_powerDownIdle
    | with_reducible apply keeps_State_giveTo | with_reducible apply keeps_State_dropJob
    | with_reducible apply keeps_State_reacqAgain | with_reducible apply keeps_State_modEasel
    | with_reducible apply keeps_State_sketchStep | with_reducible apply keeps_State_sketchSolve
    | with_reducible apply keeps_State_judgeVisit | (extract_lets +onlyGivenNames x) | split)

theorem keeps_bodyAcqAbort {b : Bool} {s0 s : State} {x0} (h : Keeps b s0 s) : Keeps1 b s0 (bodyAcqAbort x0 s) := by
  unfold bodyAcqAbort
  repeat' (first
    | with_reducible assumption | with_reducible apply keeps_State_refreeze | with_reducible apply keeps_State_modEasel
    | with_reducible apply keeps_State_powerDownIdle | with_reducible apply keeps_State_endFix
    | with_reducible apply keeps_State_dropJob | with_reducible apply keeps_State_freeCapture
    | with_reducible apply keeps_State_finalReply | with_reducible apply Keeps.checked
    | with_reducible refine Keeps.foldl ?_ (fun s a h => ?_) | (extract_lets +onlyGivenNames x) | split
    | (dsimp +zetaDelta only; split))

theorem keeps_bodyAcqCapture {b : Bool} {s0 s : State} {x0} (h : Keeps b s0 s) : Keeps1 b s0 (bodyAcqCapture x0 s) := by
  unfold bodyAcqCapture
  repeat' (first
    | with_reducible assumption | with_reducible apply keeps_State_requestCapture | with_reducible apply Keeps.checked
    | (extract_lets +onlyGivenNames x) | (refine Keeps.optLast ?_ (by with_reducible assumption)) | split)

theorem keeps_bodyAcqFreeCapture {b : Bool} {s0 s : State} {x0} (h : Keeps b s0 s) : Keeps1 b s0 (bodyAcqFreeCapture x0 s) := by
  unfold bodyAcqFreeCapture
  repeat' (first
    | with_reducible assumption | with_reducible apply keeps_State_freeCapture
    | with_reducible apply keeps_State_powerDownIdle | with_reducible apply Keeps.checked
    | with_reducible refine Keeps.forUpto ?_ (fun i s h => ?_) | (extract_lets +onlyGivenNames x) | split)

theorem keeps_bodyAcqGetSketch {b : Bool} {s0 s : State} {x0} (h : Keeps b s0 s) : Keeps1 b s0 (bodyAcqGetSketch x0 s) := by
  unfold bodyAcqGetSketch
  repeat' (first | with_reducible assumption | with_reducible apply keeps_query)

theorem keeps_bodyAcqGetStatus {b : Bool} {s0 s : State} {x0} (h : Keeps b s0 s) : Keeps1 b s0 (bodyAcqGetStatus x0 s) := by
  unfold bodyAcqGetStatus
  repeat' (first | with_reducible assumption | with_reducible apply keeps_query)

theorem keeps_bodyAcqGetWatch {b : Bool} {s0 s : State} {x0} (h : Keeps b s0 s) : Keeps1 b s0 (bodyAcqGetWatch x0 s) := by
  unfold bodyAcqGetWatch
  repeat' (first | with_reducible assumption | with_reducible apply keeps_query)

theorem keeps_bodyAcqListCaptures {b : Bool} {s0 s : State} {x0} (h : Keeps b s0 s) : Keeps1 b s0 (bodyAcqListCaptures x0 s) := by
  unfold bodyAcqListCaptures
  repeat' (first | with_reducible assumption | with_reducible apply keeps_query)

theorem keeps_bodyAcqReadCapture {b : Bool} {s0 s : State} {x0} (h : Keeps b s0 s) : Keeps1 b s0 (bodyAcqReadCapture x0 s) := by
  unfold bodyAcqReadCapture
  repeat' (first | with_reducible assumption | with_reducible apply Keeps.checked)

theorem keeps_bodyAcqSearch {b : Bool} {s0 s : State} {x0} (h : Keeps b s0 s) : Keeps1 b s0 (bodyAcqSearch x0 s) := by
  unfold bodyAcqSearch
  repeat' (first
    | with_reducible assumption | with_reducible apply keeps_State_draw | with_reducible apply keeps_State_addJob
    | with_reducible apply keeps_State_powerDomains | with_reducible apply keeps_State_assignBanks
    | with_reducible apply Keeps.checked | (extract_lets +onlyGivenNames x)
    | (refine Keeps.snd ?_ (by with_reducible assumption)) | split | (dsimp +zetaDelta only; split))

theorem keeps_bodyAcqSetSketch {b : Bool} {s0 s : State} {x0} (h : Keeps b s0 s) : Keeps1 b s0 (bodyAcqSetSketch x0 s) := by
  unfold bodyAcqSetSketch
  repeat' (first
    | with_reducible assumption | with_reducible apply keeps_State_modEasel | with_reducible apply Keeps.checked)

theorem keeps_bodyAcqSetWatch {b : Bool} {s0 s : State} {x0} (h : Keeps b s0 s) : Keeps1 b s0 (bodyAcqSetWatch x0 s) := by
  unfold bodyAcqSetWatch
  repeat' (first
    | with_reducible assumption | with_reducible apply keeps_State_modWatch | with_reducible apply keeps_State_enterChanges
    | with_reducible apply keeps_State_watchSettings | with_reducible apply Keeps.checked
    | (extract_lets +onlyGivenNames x) | split)

theorem keeps_bodyAcqSketchFix {b : Bool} {s0 s : State} {x0} (h : Keeps b s0 s) : Keeps1 b s0 (bodyAcqSketchFix x0 s) := by
  unfold bodyAcqSketchFix
  repeat' (first
    | with_reducible assumption | with_reducible apply keeps_State_sketchChecks | with_reducible apply keeps_State_modEasel
    | with_reducible apply keeps_State_beginFix | with_reducible apply Keeps.checked | (extract_lets +onlyGivenNames x)
    | (refine Keeps.trd ?_ (by with_reducible assumption)) | (refine Keeps.optState ?_ (by with_reducible assumption))
    | split)

theorem keeps_execAcqAbort {b : Bool} {s0 s : State} {x0} (h : Keeps b s0 s) : KeepsR b s0 (execAcqAbort x0 s) := by
  unfold execAcqAbort
  repeat' (first
    | with_reducible assumption | with_reducible refine keeps_hostCommand ?_ (fun c s h => ?_)
    | with_reducible apply keeps_bodyAcqAbort)

theorem keeps_execAcqCapture {b : Bool} {s0 s : State} {x0} (h : Keeps b s0 s) : KeepsR b s0 (execAcqCapture x0 s) := by
  unfold execAcqCapture
  repeat' (first
    | with_reducible assumption | with_reducible refine keeps_hostCommand ?_ (fun c s h => ?_)
    | with_reducible apply keeps_bodyAcqCapture)

theorem keeps_execAcqFreeCapture {b : Bool} {s0 s : State} {x0} (h : Keeps b s0 s) : KeepsR b s0 (execAcqFreeCapture x0 s) := by
  unfold execAcqFreeCapture
  repeat' (first
    | with_reducible assumption | with_reducible refine keeps_hostCommand ?_ (fun c s h => ?_)
    | with_reducible apply keeps_bodyAcqFreeCapture)

theorem keeps_execAcqGetSketch {b : Bool} {s0 s : State} {x0} (h : Keeps b s0 s) : KeepsR b s0 (execAcqGetSketch x0 s) := by
  unfold execAcqGetSketch
  repeat' (first
    | with_reducible assumption | with_reducible refine keeps_hostCommand ?_ (fun c s h => ?_)
    | with_reducible apply keeps_bodyAcqGetSketch)

theorem keeps_execAcqGetStatus {b : Bool} {s0 s : State} {x0} (h : Keeps b s0 s) : KeepsR b s0 (execAcqGetStatus x0 s) := by
  unfold execAcqGetStatus
  repeat' (first
    | with_reducible assumption | with_reducible refine keeps_hostCommand ?_ (fun c s h => ?_)
    | with_reducible apply keeps_bodyAcqGetStatus)

theorem keeps_execAcqGetWatch {b : Bool} {s0 s : State} {x0} (h : Keeps b s0 s) : KeepsR b s0 (execAcqGetWatch x0 s) := by
  unfold execAcqGetWatch
  repeat' (first
    | with_reducible assumption | with_reducible refine keeps_hostCommand ?_ (fun c s h => ?_)
    | with_reducible apply keeps_bodyAcqGetWatch)

theorem keeps_execAcqListCaptures {b : Bool} {s0 s : State} {x0} (h : Keeps b s0 s) : KeepsR b s0 (execAcqListCaptures x0 s) := by
  unfold execAcqListCaptures
  repeat' (first
    | with_reducible assumption | with_reducible refine keeps_hostCommand ?_ (fun c s h => ?_)
    | with_reducible apply keeps_bodyAcqListCaptures)

theorem keeps_execAcqReadCapture {b : Bool} {s0 s : State} {x0} (h : Keeps b s0 s) : KeepsR b s0 (execAcqReadCapture x0 s) := by
  unfold execAcqReadCapture
  repeat' (first
    | with_reducible assumption | with_reducible refine keeps_hostCommand ?_ (fun c s h => ?_)
    | with_reducible apply keeps_bodyAcqReadCapture)

theorem keeps_execAcqSearch {b : Bool} {s0 s : State} {x0} (h : Keeps b s0 s) : KeepsR b s0 (execAcqSearch x0 s) := by
  unfold execAcqSearch
  repeat' (first
    | with_reducible assumption | with_reducible refine keeps_hostCommand ?_ (fun c s h => ?_)
    | with_reducible apply keeps_bodyAcqSearch)

theorem keeps_execAcqSetSketch {b : Bool} {s0 s : State} {x0} (h : Keeps b s0 s) : KeepsR b s0 (execAcqSetSketch x0 s) := by
  unfold execAcqSetSketch
  repeat' (first
    | with_reducible assumption | with_reducible refine keeps_hostCommand ?_ (fun c s h => ?_)
    | with_reducible apply keeps_bodyAcqSetSketch)

theorem keeps_execAcqSetWatch {b : Bool} {s0 s : State} {x0} (h : Keeps b s0 s) : KeepsR b s0 (execAcqSetWatch x0 s) := by
  unfold execAcqSetWatch
  repeat' (first
    | with_reducible assumption | with_reducible refine keeps_hostCommand ?_ (fun c s h => ?_)
    | with_reducible apply keeps_bodyAcqSetWatch)

theorem keeps_execAcqSketchFix {b : Bool} {s0 s : State} {x0} (h : Keeps b s0 s) : KeepsR b s0 (execAcqSketchFix x0 s) := by
  unfold execAcqSketchFix
  repeat' (first
    | with_reducible assumption | with_reducible refine keeps_hostCommand ?_ (fun c s h => ?_)
    | with_reducible apply keeps_bodyAcqSketchFix)

theorem keeps_execBankPassEnd {b : Bool} {s0 s : State} {x0} {x1} (h : Keeps b s0 s) : KeepsR b s0 (execBankPassEnd x0 x1 s) := by
  unfold execBankPassEnd
  repeat' (first
    | with_reducible assumption | with_reducible apply keeps_State_modEasel | with_reducible apply keeps_State_fillWatch
    | with_reducible apply keeps_State_assignBanks | with_reducible apply keeps_State_passPeaks
    | with_reducible apply KeepsR.next | (extract_lets +onlyGivenNames x) | split)

theorem keeps_execCaptureEnd {b : Bool} {s0 s : State} {x0} (h : Keeps b s0 s) : KeepsR b s0 (execCaptureEnd x0 s) := by
  unfold execCaptureEnd
  repeat' (first
    | with_reducible assumption | with_reducible apply keeps_State_modEasel | with_reducible apply keeps_State_refreeze
    | with_reducible apply keeps_State_calStart | with_reducible apply keeps_State_modCal
    | with_reducible apply keeps_State_powerDownIdle | with_reducible apply keeps_State_sketchBegin
    | with_reducible apply keeps_State_finalOption | with_reducible apply KeepsR.next | (extract_lets +onlyGivenNames x)
    | split)

theorem keeps_execCaptureStart {b : Bool} {s0 s : State} {x0} (h : Keeps b s0 s) : KeepsR b s0 (execCaptureStart x0 s) := by
  unfold execCaptureStart
  repeat' (first
    | with_reducible assumption | with_reducible apply keeps_State_modEasel | with_reducible apply keeps_State_scheduleFix
    | with_reducible apply keeps_State_tempTrigger | with_reducible apply keeps_State_refreeze
    | with_reducible apply KeepsR.next | (extract_lets +onlyGivenNames x) | split | (dsimp +zetaDelta only; split))

theorem keeps_execHandoverQueueTimeout {b : Bool} {s0 s : State}  (h : Keeps b s0 s) : KeepsR b s0 (execHandoverQueueTimeout s) := by
  unfold execHandoverQueueTimeout
  repeat' (first
    | with_reducible assumption | with_reducible apply keeps_State_modEasel
    | with_reducible apply keeps_State_markCandidate | with_reducible apply keeps_State_dropCandidate
    | with_reducible apply KeepsR.next | with_reducible refine Keeps.foldl ?_ (fun s a h => ?_)
    | (extract_lets +onlyGivenNames x) | split)

end Sys2Proof.Machine
end

