-- ==== Sys2Proof/Laws/KeepsCalRows.lean ====
section
/-! SUPPORT. What the operations of Machine/CalRows.lean keep (`Keeps`). -/

set_option Elab.async false

namespace Sys2Proof.Machine

set_option linter.all false
set_option maxRecDepth 20000

theorem keeps_State_calApply {b : Bool} {s0 s : State} {x1} {x2} (h : Keeps b s0 s) : Keeps b s0 (State.calApply s x1 x2) := by
  unfold State.calApply
  repeat' (first
    | with_reducible assumption | with_reducible apply keeps_State_claim | with_reducible apply keeps_State_modCal
    | with_reducible apply keeps_State_audit)

theorem keeps_bodyCalGetConfig {b : Bool} {s0 s : State} {x0} (h : Keeps b s0 s) : Keeps1 b s0 (bodyCalGetConfig x0 s) := by
  unfold bodyCalGetConfig
  repeat' (first | with_reducible assumption | with_reducible apply keeps_query)

theorem keeps_bodyCalGetStatus {b : Bool} {s0 s : State} {x0} (h : Keeps b s0 s) : Keeps1 b s0 (bodyCalGetStatus x0 s) := by
  unfold bodyCalGetStatus
  repeat' (first | with_reducible assumption | with_reducible apply keeps_query)

theorem keeps_bodyCalGetValues {b : Bool} {s0 s : State} {x0} (h : Keeps b s0 s) : Keeps1 b s0 (bodyCalGetValues x0 s) := by
  unfold bodyCalGetValues
  repeat' (first | with_reducible assumption | with_reducible apply Keeps.checked)

theorem keeps_bodyCalRun {b : Bool} {s0 s : State} {x0} (h : Keeps b s0 s) : Keeps1 b s0 (bodyCalRun x0 s) := by
  unfold bodyCalRun
  repeat' (first
    | with_reducible assumption | with_reducible apply keeps_State_calTrigger | with_reducible apply keeps_State_modCal
    | with_reducible apply Keeps.checked)

theorem keeps_bodyCalSetConfig {b : Bool} {s0 s : State} {x0} (h : Keeps b s0 s) : Keeps1 b s0 (bodyCalSetConfig x0 s) := by
  unfold bodyCalSetConfig
  repeat' (first
    | with_reducible assumption | with_reducible apply keeps_State_modCal | with_reducible apply keeps_State_enterChanges
    | with_reducible apply keeps_State_calTrigger | with_reducible apply Keeps.checked | (extract_lets +onlyGivenNames x)
    | split)

theorem keeps_execCalGetConfig {b : Bool} {s0 s : State} {x0} (h : Keeps b s0 s) : KeepsR b s0 (execCalGetConfig x0 s) := by
  unfold execCalGetConfig
  repeat' (first
    | with_reducible assumption | with_reducible refine keeps_hostCommand ?_ (fun c s h => ?_)
    | with_reducible apply keeps_bodyCalGetConfig)

theorem keeps_execCalGetStatus {b : Bool} {s0 s : State} {x0} (h : Keeps b s0 s) : KeepsR b s0 (execCalGetStatus x0 s) := by
  unfold execCalGetStatus
  repeat' (first
    | with_reducible assumption | with_reducible refine keeps_hostCommand ?_ (fun c s h => ?_)
    | with_reducible apply keeps_bodyCalGetStatus)

theorem keeps_execCalGetValues {b : Bool} {s0 s : State} {x0} (h : Keeps b s0 s) : KeepsR b s0 (execCalGetValues x0 s) := by
  unfold execCalGetValues
  repeat' (first
    | with_reducible assumption | with_reducible refine keeps_hostCommand ?_ (fun c s h => ?_)
    | with_reducible apply keeps_bodyCalGetValues)

theorem keeps_execCalRetryHoldoffExpiry {b : Bool} {s0 s : State}  (h : Keeps b s0 s) : KeepsR b s0 (execCalRetryHoldoffExpiry s) := by
  unfold execCalRetryHoldoffExpiry
  repeat' (first
    | with_reducible assumption | with_reducible apply keeps_State_modCal | with_reducible apply KeepsR.next | split)

theorem keeps_execCalRun {b : Bool} {s0 s : State} {x0} (h : Keeps b s0 s) : KeepsR b s0 (execCalRun x0 s) := by
  unfold execCalRun
  repeat' (first
    | with_reducible assumption | with_reducible refine keeps_hostCommand ?_ (fun c s h => ?_)
    | with_reducible apply keeps_bodyCalRun)

theorem keeps_execCalRunComplete {b : Bool} {s0 s : State} {x0} (h : Keeps b s0 s) : KeepsR b s0 (execCalRunComplete x0 s) := by
  unfold execCalRunComplete
  repeat' (first
    | with_reducible assumption | with_reducible apply keeps_State_calAbort | with_reducible apply keeps_State_answerCal
    | with_reducible apply keeps_State_modCal | with_reducible apply keeps_State_calApply
    | with_reducible apply KeepsR.next | (extract_lets +onlyGivenNames x) | split)

theorem keeps_execCalSetConfig {b : Bool} {s0 s : State} {x0} (h : Keeps b s0 s) : KeepsR b s0 (execCalSetConfig x0 s) := by
  unfold execCalSetConfig
  repeat' (first
    | with_reducible assumption | with_reducible refine keeps_hostCommand ?_ (fun c s h => ?_)
    | with_reducible apply keeps_bodyCalSetConfig)

theorem keeps_execCalUnitsRelease {b : Bool} {s0 s : State} {x0} (h : Keeps b s0 s) : KeepsR b s0 (execCalUnitsRelease x0 s) := by
  unfold execCalUnitsRelease
  repeat' (first
    | with_reducible assumption | with_reducible apply keeps_State_powerDownIdle
    | with_reducible apply keeps_State_sketchBegin | with_reducible apply keeps_State_calAbort
    | with_reducible apply keeps_State_calRelease | with_reducible apply KeepsR.next
    | (extract_lets +onlyGivenNames x; have hf : (_ → _) := x; clear hf; dsimp only [x]; clear x)
    | (extract_lets +onlyGivenNames x) | split)

end Sys2Proof.Machine
end

