-- ==== Sys2Proof/Laws/KeepsLink.lean ====
section
/-! SUPPORT. What the operations of Machine/Link.lean keep (`Keeps`). -/

set_option Elab.async false

namespace Sys2Proof.Machine

set_option linter.all false
set_option maxRecDepth 20000

theorem keeps_State_modChain {b : Bool} {s0 s : State} {x1} (h : Keeps b s0 s) : Keeps b s0 (State.modChain s x1) := by
  unfold State.modChain
  repeat' (first
    | with_reducible assumption | (extract_lets +onlyGivenNames x) | exact rfl | with_reducible apply Keeps.mk_)

theorem keeps_State_chainCount {b : Bool} {s0 s : State} {x1} (h : Keeps b s0 s) : Keeps b s0 (State.chainCount s x1) := by
  unfold State.chainCount
  repeat' (first | with_reducible assumption | with_reducible apply keeps_State_modChain)

theorem keeps_State_modKakel {b : Bool} {s0 s : State} {x1} {x2} (h : Keeps b s0 s) : Keeps b s0 (State.modKakel s x1 x2) := by
  unfold State.modKakel
  repeat' (first | with_reducible assumption | with_reducible apply keeps_State_modChain)

theorem keeps_State_sendOne {b : Bool} {s0 s : State} {x1} (h : Keeps b s0 s) : Keeps b s0 (State.sendOne s x1) := by
  unfold State.sendOne
  repeat' (first
    | with_reducible assumption | with_reducible apply keeps_State_count | with_reducible apply keeps_State_modKakel
    | (extract_lets +onlyGivenNames x) | split)

theorem keeps_State_pump {b : Bool} {s0 s : State} {x1} (h : Keeps b s0 s) : Keeps b s0 (State.pump s x1) := by
  unfold State.pump
  repeat' (first
    | with_reducible assumption | with_reducible apply keeps_State_sendOne
    | with_reducible refine Keeps.forUpto ?_ (fun i s h => ?_))

theorem keeps_State_sendSingle {b : Bool} {s0 s : State} {x1} {x2} {x3} (h : Keeps b s0 s) : Keeps b s0 (State.sendSingle s x1 x2 x3) := by
  unfold State.sendSingle
  repeat' (first
    | with_reducible assumption | with_reducible apply keeps_State_pump | with_reducible apply keeps_State_modKakel
    | (extract_lets +onlyGivenNames x) | split)

theorem keeps_State_startEnum {b : Bool} {s0 s : State} {x1} {x2} (h : Keeps b s0 s) : Keeps b s0 (State.startEnum s x1 x2) := by
  unfold State.startEnum
  repeat' (first
    | with_reducible assumption | with_reducible apply keeps_State_chainCount | with_reducible apply keeps_State_modChain
    | with_reducible apply keeps_State_sendSingle)

theorem keeps_State_sendLinkSleep {b : Bool} {s0 s : State} {x1} (h : Keeps b s0 s) : Keeps b s0 (State.sendLinkSleep s x1) := by
  unfold State.sendLinkSleep
  repeat' (first | with_reducible assumption | with_reducible apply keeps_State_sendSingle)

theorem keeps_State_modHport {b : Bool} {s0 s : State} {x1} (h : Keeps b s0 s) : Keeps b s0 (State.modHport s x1) := by
  unfold State.modHport
  repeat' (first
    | with_reducible assumption | (extract_lets +onlyGivenNames x) | exact rfl | with_reducible apply Keeps.mk_)

theorem keeps_execReadStatus {b : Bool} {s0 s : State} {x0} {x1} (h : Keeps b s0 s) : KeepsR b s0 (execReadStatus x0 x1 s) := by
  unfold execReadStatus
  repeat' (first
    | with_reducible assumption | with_reducible apply keeps_State_modHport | with_reducible apply keeps_State_count
    | with_reducible apply keeps_State_draw | with_reducible apply KeepsR.next | (extract_lets +onlyGivenNames x) | split
    | (dsimp +zetaDelta only; split))

theorem keeps_State_discardWrite {b : Bool} {s0 s : State} {x1} (h : Keeps b s0 s) : Keeps b s0 (State.discardWrite s x1) := by
  unfold State.discardWrite
  repeat' (first
    | with_reducible assumption | with_reducible apply keeps_State_count | with_reducible apply keeps_State_chainCount)

theorem keeps_State_sendFrames {b : Bool} {s0 s : State} {x1} {x2} (h : Keeps b s0 s) : Keeps b s0 (State.sendFrames s x1 x2) := by
  unfold State.sendFrames
  repeat' (first
    | with_reducible assumption | with_reducible apply keeps_State_pump | with_reducible apply keeps_State_modKakel)

theorem keeps_State_arrive {b : Bool} {s0 s : State} {x1} {x2} (h : Keeps b s0 s) : Keeps b s0 (State.arrive s x1 x2) := by
  unfold State.arrive
  repeat' (first
    | with_reducible assumption | with_reducible apply keeps_State_claim | with_reducible apply keeps_State_produce
    | with_reducible apply keeps_State_modRing)

theorem keeps_execWritePacket {b : Bool} {s0 s : State} {x0} {x1} (h : Keeps b s0 s) : KeepsR b s0 (execWritePacket x0 x1 s) := by
  unfold execWritePacket
  repeat' (first
    | with_reducible assumption | with_reducible apply keeps_State_count | with_reducible apply keeps_State_modHport
    | with_reducible apply keeps_State_discardWrite | with_reducible apply keeps_State_sendFrames
    | with_reducible apply keeps_State_modChain | with_reducible apply keeps_State_arrive
    | with_reducible apply KeepsR.next | (extract_lets +onlyGivenNames x) | split | (dsimp +zetaDelta only; split))

theorem keeps_State_hportErr {b : Bool} {s0 s : State}  (h : Keeps b s0 s) : Keeps b s0 (State.hportErr s) := by
  unfold State.hportErr
  repeat' (first
    | with_reducible assumption | with_reducible apply keeps_State_chainCount | with_reducible apply keeps_State_modHport)

theorem keeps_execReadRing {b : Bool} {s0 s : State} {x0} {x1} {x2} (h : Keeps b s0 s) : KeepsR b s0 (execReadRing x0 x1 x2 s) := by
  unfold execReadRing
  repeat' (first
    | with_reducible assumption | with_reducible apply keeps_State_count | with_reducible apply keeps_State_modHport
    | with_reducible apply keeps_State_hportErr | with_reducible apply keeps_State_modChain
    | with_reducible apply keeps_State_modRing | with_reducible apply KeepsR.next | (extract_lets +onlyGivenNames x)
    | split)

theorem keeps_execReadChain {b : Bool} {s0 s : State} {x0} {x1} (h : Keeps b s0 s) : KeepsR b s0 (execReadChain x0 x1 s) := by
  unfold execReadChain
  repeat' (first
    | with_reducible assumption | with_reducible apply keeps_State_count | with_reducible apply keeps_State_modHport
    | with_reducible apply keeps_State_modChain | with_reducible apply KeepsR.next | (extract_lets +onlyGivenNames x)
    | split)

theorem keeps_execHportUnknownInstruction {b : Bool} {s0 s : State} {x0} (h : Keeps b s0 s) : KeepsR b s0 (execHportUnknownInstruction x0 s) := by
  unfold execHportUnknownInstruction
  repeat' (first
    | with_reducible assumption | with_reducible apply keeps_State_count | with_reducible apply keeps_State_hportErr
    | with_reducible apply KeepsR.next | split)

theorem keeps_State_chainAlign {b : Bool} {s0 s : State} {x1} (h : Keeps b s0 s) : Keeps b s0 (State.chainAlign s x1) := by
  unfold State.chainAlign
  repeat' (first
    | with_reducible assumption | with_reducible apply keeps_State_claim | with_reducible apply keeps_State_drumRecord)

theorem keeps_State_setAlign {b : Bool} {s0 s : State} {x1} (h : Keeps b s0 s) : Keeps b s0 (State.setAlign s x1) := by
  unfold State.setAlign
  repeat' (first
    | with_reducible assumption | with_reducible apply keeps_State_chainAlign | (extract_lets +onlyGivenNames x) | split
    | exact rfl | with_reducible apply Keeps.mk_)

theorem keeps_State_requestEnum {b : Bool} {s0 s : State}  (h : Keeps b s0 s) : Keeps b s0 (State.requestEnum s) := by
  unfold State.requestEnum
  repeat' (first
    | with_reducible assumption | with_reducible apply keeps_State_startEnum | with_reducible apply keeps_State_finalReply
    | with_reducible refine Keeps.foldl ?_ (fun s a h => ?_) | split)

theorem keeps_State_chdChanged {b : Bool} {s0 s : State}  (h : Keeps b s0 s) : Keeps b s0 (State.chdChanged s) := by
  unfold State.chdChanged
  repeat' (first
    | with_reducible assumption | with_reducible apply keeps_State_startEnum | with_reducible apply keeps_State_requestEnum
    | with_reducible apply keeps_State_sendSingle | split)

theorem keeps_execLinkUp {b : Bool} {s0 s : State} {x0} (h : Keeps b s0 s) : KeepsR b s0 (execLinkUp x0 s) := by
  unfold execLinkUp
  repeat' (first
    | with_reducible assumption | with_reducible apply keeps_State_modKakel | with_reducible apply keeps_State_count
    | with_reducible apply keeps_State_chainCount | with_reducible apply keeps_State_pump
    | with_reducible apply keeps_State_modChain | with_reducible apply keeps_State_setAlign
    | with_reducible apply keeps_State_chdChanged | with_reducible apply KeepsR.next
    | with_reducible refine Keeps.foldl ?_ (fun s a h => ?_) | (extract_lets +onlyGivenNames x) | split)

theorem keeps_State_laneDown {b : Bool} {s0 s : State} {x1} (h : Keeps b s0 s) : Keeps b s0 (State.laneDown s x1) := by
  unfold State.laneDown
  repeat' (first
    | with_reducible assumption | with_reducible apply keeps_State_modKakel | with_reducible apply keeps_State_chainCount
    | with_reducible apply keeps_State_modChain | (extract_lets +onlyGivenNames x) | split)

theorem keeps_State_linkFails {b : Bool} {s0 s : State} {x1} (h : Keeps b s0 s) : Keeps b s0 (State.linkFails s x1) := by
  unfold State.linkFails
  repeat' (first
    | with_reducible assumption | with_reducible apply keeps_State_chdChanged | with_reducible apply keeps_State_laneDown
    | split)

theorem keeps_State_lineErrors {b : Bool} {s0 s : State} {x1} {x2} (h : Keeps b s0 s) : Keeps b s0 (State.lineErrors s x1 x2) := by
  unfold State.lineErrors
  repeat' (first | with_reducible assumption | with_reducible apply keeps_State_modChain)

theorem keeps_execLinkDown {b : Bool} {s0 s : State} {x0} (h : Keeps b s0 s) : KeepsR b s0 (execLinkDown x0 s) := by
  unfold execLinkDown
  repeat' (first
    | with_reducible assumption | with_reducible apply keeps_State_linkFails | with_reducible apply keeps_State_lineErrors
    | with_reducible apply KeepsR.next | split)

theorem keeps_State_receive {b : Bool} {s0 s : State} {x1} {x2} (h : Keeps b s0 s) : Keeps1 b s0 (State.receive s x1 x2) := by
  unfold State.receive
  repeat' (first
    | with_reducible assumption | with_reducible apply keeps_State_lineErrors | with_reducible apply keeps_State_modKakel
    | with_reducible apply keeps_State_chainCount | with_reducible apply keeps_State_count
    | (extract_lets +onlyGivenNames x) | split)

theorem keeps_State_gatherDown {b : Bool} {s0 s : State} {x1} (h : Keeps b s0 s) : Keeps b s0 (State.gatherDown s x1) := by
  unfold State.gatherDown
  repeat' (first
    | with_reducible assumption | with_reducible apply keeps_State_chainCount | with_reducible apply keeps_State_modKakel
    | with_reducible apply keeps_State_arrive | (extract_lets +onlyGivenNames x) | split)

theorem keeps_State_downFrame {b : Bool} {s0 s : State} {x1} (h : Keeps b s0 s) : Keeps b s0 (State.downFrame s x1) := by
  unfold State.downFrame
  repeat' (first
    | with_reducible assumption | with_reducible apply keeps_State_modChain | with_reducible apply keeps_State_modKakel
    | with_reducible apply keeps_State_sendFrames | with_reducible apply keeps_State_gatherDown
    | with_reducible apply keeps_State_chainCount | (extract_lets +onlyGivenNames x) | split
    | (dsimp +zetaDelta only; split))

theorem keeps_execDown {b : Bool} {s0 s : State} {x0} (h : Keeps b s0 s) : KeepsR b s0 (execDown x0 s) := by
  unfold execDown
  repeat' (first
    | with_reducible assumption | with_reducible apply keeps_State_receive | with_reducible apply keeps_State_downFrame
    | with_reducible apply KeepsR.next | (extract_lets +onlyGivenNames x)
    | (refine Keeps.fst ?_ (by with_reducible assumption)) | split)

theorem keeps_State_crxPut {b : Bool} {s0 s : State} {x1} (h : Keeps b s0 s) : Keeps b s0 (State.crxPut s x1) := by
  unfold State.crxPut
  repeat' (first
    | with_reducible assumption | with_reducible apply keeps_State_modChain | with_reducible apply keeps_State_modHport
    | (extract_lets +onlyGivenNames x) | split | exact rfl | with_reducible apply Keeps.mk_)

theorem keeps_State_flowUp {b : Bool} {s0 s : State}  (h : Keeps b s0 s) : Keeps b s0 (State.flowUp s) := by
  unfold State.flowUp
  repeat' (first
    | with_reducible assumption | with_reducible apply keeps_State_modChain | with_reducible apply keeps_State_sendFrames
    | with_reducible refine Keeps.forUpto ?_ (fun i s h => ?_) | (extract_lets +onlyGivenNames x) | split)

theorem keeps_execUp {b : Bool} {s0 s : State} {x0} (h : Keeps b s0 s) : KeepsR b s0 (execUp x0 s) := by
  unfold execUp
  repeat' (first
    | with_reducible assumption | with_reducible apply keeps_State_receive | with_reducible apply keeps_State_chainCount
    | with_reducible apply keeps_State_modChain | with_reducible apply keeps_State_crxPut
    | with_reducible apply keeps_State_flowUp | with_reducible apply KeepsR.next | (extract_lets +onlyGivenNames x)
    | (refine Keeps.fst ?_ (by with_reducible assumption)) | split)

theorem keeps_execAlignReq {b : Bool} {s0 s : State} {x0} {x1} {x2} (h : Keeps b s0 s) : KeepsR b s0 (execAlignReq x0 x1 x2 s) := by
  unfold execAlignReq
  repeat' (first
    | with_reducible assumption | with_reducible apply keeps_State_receive | with_reducible apply keeps_State_chainCount
    | with_reducible apply keeps_State_sendSingle | with_reducible apply KeepsR.next | (extract_lets +onlyGivenNames x)
    | (refine Keeps.fst ?_ (by with_reducible assumption)) | split)

theorem keeps_State_voidExchange {b : Bool} {s0 s : State}  (h : Keeps b s0 s) : Keeps b s0 (State.voidExchange s) := by
  unfold State.voidExchange
  repeat' (first
    | with_reducible assumption | with_reducible apply keeps_State_chainCount | (extract_lets +onlyGivenNames x) | split
    | exact rfl | with_reducible apply Keeps.mk_)

theorem keeps_execAlignRsp {b : Bool} {s0 s : State} {x0} {x1} (h : Keeps b s0 s) : KeepsR b s0 (execAlignRsp x0 x1 s) := by
  unfold execAlignRsp
  repeat' (first
    | with_reducible assumption | with_reducible apply keeps_State_receive | with_reducible apply keeps_State_voidExchange
    | with_reducible apply KeepsR.next | (extract_lets +onlyGivenNames x)
    | (refine Keeps.fst ?_ (by with_reducible assumption)) | split | exact rfl | with_reducible apply Keeps.mk_)

theorem keeps_execAlignFup {b : Bool} {s0 s : State} {x0} (h : Keeps b s0 s) : KeepsR b s0 (execAlignFup x0 s) := by
  unfold execAlignFup
  repeat' (first
    | with_reducible assumption | with_reducible apply keeps_State_receive | with_reducible apply keeps_State_voidExchange
    | with_reducible apply keeps_State_chainAlign | with_reducible apply KeepsR.next | (extract_lets +onlyGivenNames x)
    | (refine Keeps.fst ?_ (by with_reducible assumption)) | split | exact rfl | (dsimp +zetaDelta only; split)
    | with_reducible apply Keeps.mk_)

theorem keeps_execAlignExchangeDue {b : Bool} {s0 s : State} {x0} (h : Keeps b s0 s) : KeepsR b s0 (execAlignExchangeDue x0 s) := by
  unfold execAlignExchangeDue
  repeat' (first
    | with_reducible assumption | with_reducible apply keeps_State_sendSingle | with_reducible apply KeepsR.next
    | (extract_lets +onlyGivenNames x) | split | exact rfl | with_reducible apply Keeps.mk_)

theorem keeps_execAlignExchangeVoid {b : Bool} {s0 s : State}  (h : Keeps b s0 s) : KeepsR b s0 (execAlignExchangeVoid s) := by
  unfold execAlignExchangeVoid
  repeat' (first
    | with_reducible assumption | with_reducible apply keeps_State_voidExchange | with_reducible apply KeepsR.next | split)

theorem keeps_execUnalignedTimeout {b : Bool} {s0 s : State}  (h : Keeps b s0 s) : KeepsR b s0 (execUnalignedTimeout s) := by
  unfold execUnalignedTimeout
  repeat' (first
    | with_reducible assumption | with_reducible apply keeps_State_setAlign | with_reducible apply KeepsR.next
    | (extract_lets +onlyGivenNames x) | split | exact rfl | with_reducible apply Keeps.mk_)

theorem keeps_execEnum {b : Bool} {s0 s : State} {x0} (h : Keeps b s0 s) : KeepsR b s0 (execEnum x0 s) := by
  unfold execEnum
  repeat' (first
    | with_reducible assumption | with_reducible apply keeps_State_receive | with_reducible apply keeps_State_chainAlign
    | with_reducible apply keeps_State_modChain | with_reducible apply keeps_State_sendSingle
    | with_reducible apply KeepsR.next | (extract_lets +onlyGivenNames x)
    | (refine Keeps.fst ?_ (by with_reducible assumption)) | split | exact rfl | (dsimp +zetaDelta only; split)
    | with_reducible apply Keeps.mk_)

theorem keeps_State_endEnum {b : Bool} {s0 s : State} {x1} {x2} {x3} (h : Keeps b s0 s) : Keeps b s0 (State.endEnum s x1 x2 x3) := by
  unfold State.endEnum
  repeat' (first
    | with_reducible assumption | with_reducible apply keeps_State_modChain | with_reducible apply keeps_State_finalReply
    | with_reducible refine Keeps.foldl ?_ (fun s a h => ?_) | (extract_lets +onlyGivenNames x) | split)

theorem keeps_execEnumEnd {b : Bool} {s0 s : State} {x0} (h : Keeps b s0 s) : KeepsR b s0 (execEnumEnd x0 s) := by
  unfold execEnumEnd
  repeat' (first
    | with_reducible assumption | with_reducible apply keeps_State_receive | with_reducible apply keeps_State_endEnum
    | with_reducible apply keeps_State_sendSingle | with_reducible apply keeps_State_modChain
    | with_reducible apply KeepsR.next | (extract_lets +onlyGivenNames x)
    | (refine Keeps.fst ?_ (by with_reducible assumption)) | split)

theorem keeps_execEnumReq {b : Bool} {s0 s : State} {x0} (h : Keeps b s0 s) : KeepsR b s0 (execEnumReq x0 s) := by
  unfold execEnumReq
  repeat' (first
    | with_reducible assumption | with_reducible apply keeps_State_receive | with_reducible apply keeps_State_requestEnum
    | with_reducible apply keeps_State_chainCount | with_reducible apply keeps_State_sendSingle
    | with_reducible apply KeepsR.next | (extract_lets +onlyGivenNames x)
    | (refine Keeps.fst ?_ (by with_reducible assumption)) | split)

theorem keeps_execEnumerationTimeout {b : Bool} {s0 s : State}  (h : Keeps b s0 s) : KeepsR b s0 (execEnumerationTimeout s) := by
  unfold execEnumerationTimeout
  repeat' (first
    | with_reducible assumption | with_reducible apply keeps_State_modChain | with_reducible apply keeps_State_finalReply
    | with_reducible apply KeepsR.next | with_reducible refine Keeps.foldl ?_ (fun s a h => ?_)
    | (extract_lets +onlyGivenNames x) | split)

theorem keeps_execLinkSleep {b : Bool} {s0 s : State} {x0} {x1} (h : Keeps b s0 s) : KeepsR b s0 (execLinkSleep x0 x1 s) := by
  unfold execLinkSleep
  repeat' (first
    | with_reducible assumption | with_reducible apply keeps_State_receive | with_reducible apply keeps_State_modKakel
    | with_reducible apply KeepsR.next | (extract_lets +onlyGivenNames x)
    | (refine Keeps.fst ?_ (by with_reducible assumption)) | split)

theorem keeps_execReservedFrame {b : Bool} {s0 s : State} {x0} {x1} (h : Keeps b s0 s) : KeepsR b s0 (execReservedFrame x0 x1 s) := by
  unfold execReservedFrame
  repeat' (first
    | with_reducible assumption | with_reducible apply keeps_State_receive | with_reducible apply keeps_State_chainCount
    | with_reducible apply KeepsR.next | (extract_lets +onlyGivenNames x)
    | (refine Keeps.fst ?_ (by with_reducible assumption)) | split)

theorem keeps_State_freed {b : Bool} {s0 s : State} {x1} (h : Keeps b s0 s) : Keeps b s0 (State.freed s x1) := by
  unfold State.freed
  repeat' (first
    | with_reducible assumption | with_reducible apply keeps_State_modChain | with_reducible apply keeps_State_modRing
    | split)

theorem keeps_execAck {b : Bool} {s0 s : State} {x0} {x1} (h : Keeps b s0 s) : KeepsR b s0 (execAck x0 x1 s) := by
  unfold execAck
  repeat' (first
    | with_reducible assumption | with_reducible apply keeps_State_modKakel | with_reducible apply keeps_State_pump
    | with_reducible apply keeps_State_freed | with_reducible apply KeepsR.next
    | with_reducible refine Keeps.foldl ?_ (fun s a h => ?_) | (extract_lets +onlyGivenNames x) | split)

theorem keeps_State_replayFrom {b : Bool} {s0 s : State} {x1} {x2} (h : Keeps b s0 s) : Keeps b s0 (State.replayFrom s x1 x2) := by
  unfold State.replayFrom
  repeat' (first
    | with_reducible assumption | with_reducible apply keeps_State_modKakel | with_reducible apply keeps_State_count
    | with_reducible apply keeps_State_chainCount | with_reducible apply keeps_State_laneDown
    | with_reducible refine Keeps.foldl ?_ (fun s a h => ?_) | (extract_lets +onlyGivenNames x) | split)

theorem keeps_State_replayOn {b : Bool} {s0 s : State} {x1} {x2} (h : Keeps b s0 s) : Keeps b s0 (State.replayOn s x1 x2) := by
  unfold State.replayOn
  repeat' (first
    | with_reducible assumption | with_reducible apply keeps_State_replayFrom
    | with_reducible apply keeps_State_voidExchange | with_reducible apply keeps_State_linkFails
    | (extract_lets +onlyGivenNames x) | split | (dsimp +zetaDelta only; split))

theorem keeps_execNak {b : Bool} {s0 s : State} {x0} {x1} (h : Keeps b s0 s) : KeepsR b s0 (execNak x0 x1 s) := by
  unfold execNak
  repeat' (first
    | with_reducible assumption | with_reducible apply keeps_State_replayOn | with_reducible apply KeepsR.next | split)

theorem keeps_execCredit {b : Bool} {s0 s : State} {x0} {x1} (h : Keeps b s0 s) : KeepsR b s0 (execCredit x0 x1 s) := by
  unfold execCredit
  repeat' (first
    | with_reducible assumption | with_reducible apply keeps_State_pump | with_reducible apply keeps_State_modKakel
    | with_reducible apply KeepsR.next)

theorem keeps_execReplayTimeout {b : Bool} {s0 s : State} {x0} (h : Keeps b s0 s) : KeepsR b s0 (execReplayTimeout x0 s) := by
  unfold execReplayTimeout
  repeat' (first
    | with_reducible assumption | with_reducible apply keeps_State_replayOn | with_reducible apply KeepsR.next | split)

theorem keeps_execUnitAbandon {b : Bool} {s0 s : State} {x0} (h : Keeps b s0 s) : KeepsR b s0 (execUnitAbandon x0 s) := by
  unfold execUnitAbandon
  repeat' (first
    | with_reducible assumption | with_reducible apply keeps_State_chainCount | with_reducible apply keeps_State_sendFrames
    | with_reducible apply keeps_State_modKakel | with_reducible apply keeps_State_modChain
    | with_reducible apply KeepsR.next | (extract_lets +onlyGivenNames x) | split)

theorem keeps_State_resumeDown {b : Bool} {s0 s : State} {x1} (h : Keeps b s0 s) : Keeps b s0 (State.resumeDown s x1) := by
  unfold State.resumeDown
  repeat' (first
    | with_reducible assumption | with_reducible apply keeps_State_downFrame | with_reducible apply keeps_State_modChain
    | with_reducible refine Keeps.foldl ?_ (fun s a h => ?_))

theorem keeps_execDownHoldExpiry {b : Bool} {s0 s : State}  (h : Keeps b s0 s) : KeepsR b s0 (execDownHoldExpiry s) := by
  unfold execDownHoldExpiry
  repeat' (first
    | with_reducible assumption | with_reducible apply keeps_State_resumeDown | with_reducible apply keeps_State_chainCount
    | with_reducible apply keeps_State_modKakel | with_reducible apply KeepsR.next | split)

theorem keeps_execUnitBoundaryArbitration {b : Bool} {s0 s : State}  (h : Keeps b s0 s) : KeepsR b s0 (execUnitBoundaryArbitration s) := by
  unfold execUnitBoundaryArbitration
  repeat' (first
    | with_reducible assumption | with_reducible apply keeps_State_modChain | with_reducible apply keeps_State_sendFrames
    | with_reducible apply keeps_State_flowUp | with_reducible apply KeepsR.next | (extract_lets +onlyGivenNames x) | split
    | (dsimp +zetaDelta only; split))

theorem keeps_execHeadTimeout {b : Bool} {s0 s : State}  (h : Keeps b s0 s) : KeepsR b s0 (execHeadTimeout s) := by
  unfold execHeadTimeout
  repeat' (first
    | with_reducible assumption | with_reducible apply keeps_State_modChain | with_reducible apply keeps_State_setAlign
    | with_reducible apply keeps_State_startEnum | with_reducible apply KeepsR.next | (extract_lets +onlyGivenNames x)
    | split | exact rfl | with_reducible apply Keeps.mk_)

theorem keeps_execSymbolLock {b : Bool} {s0 s : State} {x0} (h : Keeps b s0 s) : KeepsR b s0 (execSymbolLock x0 s) := by
  unfold execSymbolLock
  repeat' (first
    | with_reducible assumption | with_reducible apply keeps_State_modChain | with_reducible apply keeps_State_modKakel
    | with_reducible apply KeepsR.next | split)

theorem keeps_State_retryHeld {b : Bool} {s0 s : State}  (h : Keeps b s0 s) : Keeps b s0 (State.retryHeld s) := by
  unfold State.retryHeld
  repeat' (first | with_reducible assumption | with_reducible apply keeps_State_resumeDown | split)

theorem keeps_State_returnCredits {b : Bool} {s0 s : State}  (h : Keeps b s0 s) : Keeps b s0 (State.returnCredits s) := by
  unfold State.returnCredits
  repeat' (first
    | with_reducible assumption | with_reducible apply keeps_State_modKakel
    | (extract_lets +onlyGivenNames x; have hf : (_ → _) := x; clear hf; dsimp only [x]; clear x) | split)

theorem keeps_State_wakeTimeouts {b : Bool} {s0 s : State}  (h : Keeps b s0 s) : Keeps b s0 (State.wakeTimeouts s) := by
  unfold State.wakeTimeouts
  repeat' (first
    | with_reducible assumption | with_reducible apply keeps_State_modChain | with_reducible apply keeps_State_finalReply
    | with_reducible refine Keeps.foldl ?_ (fun s a h => ?_))

end Sys2Proof.Machine
end

