-- ==== Sys2Proof/Laws/KeepsChainCmd.lean ====
section
/-! SUPPORT. What the operations of Machine/ChainCmd.lean keep (`Keeps`). -/

set_option Elab.async false

namespace Sys2Proof.Machine

set_option linter.all false
set_option maxRecDepth 20000

theorem keeps_bodyChainEnumerate {b : Bool} {s0 s : State} {x0} (h : Keeps b s0 s) : Keeps1 b s0 (bodyChainEnumerate x0 s) := by
  unfold bodyChainEnumerate
  repeat' (first
    | with_reducible assumption | with_reducible apply keeps_State_modChain | with_reducible apply keeps_State_startEnum
    | with_reducible apply Keeps.checked | (extract_lets +onlyGivenNames x) | split)

theorem keeps_bodyChainGetConfig {b : Bool} {s0 s : State} {x0} (h : Keeps b s0 s) : Keeps1 b s0 (bodyChainGetConfig x0 s) := by
  unfold bodyChainGetConfig
  repeat' (first | with_reducible assumption)

theorem keeps_bodyChainGetCounters {b : Bool} {s0 s : State} {x0} (h : Keeps b s0 s) : Keeps1 b s0 (bodyChainGetCounters x0 s) := by
  unfold bodyChainGetCounters
  repeat' (first | with_reducible assumption)

theorem keeps_bodyChainGetStatus {b : Bool} {s0 s : State} {x0} (h : Keeps b s0 s) : Keeps1 b s0 (bodyChainGetStatus x0 s) := by
  unfold bodyChainGetStatus
  repeat' (first | with_reducible assumption)

theorem keeps_bodyChainSetConfig {b : Bool} {s0 s : State} {x0} (h : Keeps b s0 s) : Keeps1 b s0 (bodyChainSetConfig x0 s) := by
  unfold bodyChainSetConfig
  repeat' (first
    | with_reducible assumption | with_reducible apply keeps_State_modChain | with_reducible apply Keeps.checked)

theorem keeps_bodyChainWake {b : Bool} {s0 s : State} {x0} (h : Keeps b s0 s) : Keeps1 b s0 (bodyChainWake x0 s) := by
  unfold bodyChainWake
  repeat' (first
    | with_reducible assumption | with_reducible apply keeps_State_modChain | with_reducible apply Keeps.checked)

theorem keeps_execChainEnumerate {b : Bool} {s0 s : State} {x0} (h : Keeps b s0 s) : KeepsR b s0 (execChainEnumerate x0 s) := by
  unfold execChainEnumerate
  repeat' (first
    | with_reducible assumption | with_reducible refine keeps_hostCommand ?_ (fun c s h => ?_)
    | with_reducible apply keeps_bodyChainEnumerate)

theorem keeps_execChainGetConfig {b : Bool} {s0 s : State} {x0} (h : Keeps b s0 s) : KeepsR b s0 (execChainGetConfig x0 s) := by
  unfold execChainGetConfig
  repeat' (first
    | with_reducible assumption | with_reducible refine keeps_hostCommand ?_ (fun c s h => ?_)
    | with_reducible apply keeps_bodyChainGetConfig)

theorem keeps_execChainGetCounters {b : Bool} {s0 s : State} {x0} (h : Keeps b s0 s) : KeepsR b s0 (execChainGetCounters x0 s) := by
  unfold execChainGetCounters
  repeat' (first
    | with_reducible assumption | with_reducible refine keeps_hostCommand ?_ (fun c s h => ?_)
    | with_reducible apply keeps_bodyChainGetCounters)

theorem keeps_execChainGetStatus {b : Bool} {s0 s : State} {x0} (h : Keeps b s0 s) : KeepsR b s0 (execChainGetStatus x0 s) := by
  unfold execChainGetStatus
  repeat' (first
    | with_reducible assumption | with_reducible refine keeps_hostCommand ?_ (fun c s h => ?_)
    | with_reducible apply keeps_bodyChainGetStatus)

theorem keeps_execChainSetConfig {b : Bool} {s0 s : State} {x0} (h : Keeps b s0 s) : KeepsR b s0 (execChainSetConfig x0 s) := by
  unfold execChainSetConfig
  repeat' (first
    | with_reducible assumption | with_reducible refine keeps_hostCommand ?_ (fun c s h => ?_)
    | with_reducible apply keeps_bodyChainSetConfig)

theorem keeps_execChainWake {b : Bool} {s0 s : State} {x0} (h : Keeps b s0 s) : KeepsR b s0 (execChainWake x0 s) := by
  unfold execChainWake
  repeat' (first
    | with_reducible assumption | with_reducible refine keeps_hostCommand ?_ (fun c s h => ?_)
    | with_reducible apply keeps_bodyChainWake)

end Sys2Proof.Machine
end

