-- ==== Sys2Proof/Laws/KeepsEpoch.lean ====
section
/-! SUPPORT. What the operations of Machine/Epoch.lean keep (`Keeps`). -/

set_option Elab.async false

namespace Sys2Proof.Machine

set_option linter.all false
set_option maxRecDepth 20000

theorem keeps_State_modLanes {b : Bool} {s0 s : State} {x1} (h : Keeps b s0 s) : Keeps b s0 (State.modLanes s x1) := by
  unfold State.modLanes
  repeat' (first | with_reducible assumption | with_reducible apply keeps_State_modTrk)

theorem keeps_State_switchPrimary {b : Bool} {s0 s : State}  (h : Keeps b s0 s) : Keeps b s0 (State.switchPrimary s) := by
  unfold State.switchPrimary
  repeat' (first
    | with_reducible assumption | with_reducible apply keeps_State_modLanes | with_reducible apply keeps_State_modTrk
    | (extract_lets +onlyGivenNames x) | split | exact rfl | with_reducible apply Keeps.mk_)

theorem keeps_State_countEpoch {b : Bool} {s0 s : State}  (h : Keeps b s0 s) : Keeps b s0 (State.countEpoch s) := by
  unfold State.countEpoch
  repeat' (first | with_reducible assumption | with_reducible apply keeps_State_modTrk)

theorem keeps_State_applyRate {b : Bool} {s0 s : State}  (h : Keeps b s0 s) : Keeps b s0 (State.applyRate s) := by
  unfold State.applyRate
  repeat' (first
    | with_reducible assumption | with_reducible apply keeps_State_modTrk | (extract_lets +onlyGivenNames x) | split
    | exact rfl | with_reducible apply Keeps.mk_)

theorem keeps_State_glaze {b : Bool} {s0 s : State}  (h : Keeps b s0 s) : Keeps b s0 (State.glaze s) := by
  unfold State.glaze
  repeat' (first | with_reducible assumption | with_reducible apply keeps_State_modCal)

theorem keeps_State_lockRestarts {b : Bool} {s0 s : State}  (h : Keeps b s0 s) : Keeps b s0 (State.lockRestarts s) := by
  unfold State.lockRestarts
  repeat' (first
    | with_reducible assumption | with_reducible apply keeps_State_modLanes | with_reducible apply keeps_State_modTrk
    | (extract_lets +onlyGivenNames x) | split | exact rfl | with_reducible apply Keeps.mk_)

theorem keeps_State_closeBands {b : Bool} {s0 s : State}  (h : Keeps b s0 s) : Keeps b s0 (State.closeBands s) := by
  unfold State.closeBands
  repeat' (first
    | with_reducible assumption | with_reducible apply keeps_State_modChan | with_reducible apply keeps_State_goIdle
    | with_reducible refine Keeps.forUpto ?_ (fun i s h => ?_) | (extract_lets +onlyGivenNames x) | split)

theorem keeps_State_boundarySettings {b : Bool} {s0 s : State}  (h : Keeps b s0 s) : Keeps b s0 (State.boundarySettings s) := by
  unfold State.boundarySettings
  repeat' (first
    | with_reducible assumption | with_reducible apply keeps_State_modTrk | with_reducible apply keeps_State_applyLoops
    | with_reducible apply keeps_State_applyThresholds | with_reducible apply keeps_State_applyArray
    | with_reducible apply keeps_State_applyPorts | with_reducible apply keeps_State_lockRestarts
    | with_reducible apply keeps_State_switchPrimary | with_reducible apply keeps_State_modLanes
    | with_reducible apply keeps_State_followLanes | with_reducible apply keeps_State_closeBands
    | (extract_lets +onlyGivenNames x) | split)

theorem keeps_State_amend {b : Bool} {s0 s : State} {x1} {x2} {x3} (h : Keeps b s0 s) : Keeps b s0 (State.amend s x1 x2 x3) := by
  unfold State.amend
  repeat' (first | with_reducible assumption | with_reducible apply keeps_State_modTrk)

theorem keeps_State_hear {b : Bool} {s0 s : State} {x1} {x2} {x3} (h : Keeps b s0 s) : Keeps b s0 (State.hear s x1 x2 x3) := by
  unfold State.hear
  repeat' (first
    | with_reducible assumption

    | with_reducible apply KeepsR.next
    | with_reducible apply KeepsR.refused
    | with_reducible apply KeepsW.ok
    | with_reducible apply KeepsW.error
    | with_reducible apply KeepsO.some
    | with_reducible apply KeepsO.none
    | with_reducible apply KeepsP.some
    | with_reducible apply KeepsP.none
    | with_reducible apply KeepsQ.some
    | with_reducible apply KeepsQ.none
    | with_reducible apply Keeps.checked
    | with_reducible refine Keeps.foldl ?_ (fun s a h => ?_)
    | with_reducible refine Keeps.foldl1 ?_ (fun r a h => ?_)
    | with_reducible refine Keeps.forUpto ?_ (fun i s h => ?_)
    | (extract_lets +onlyGivenNames x; refine Keeps.gen x ?_ (fun hx => ?_) <;> [dsimp only [x]; try clear_value x])
    | (extract_lets +onlyGivenNames x; refine Keeps.gen1 x ?_ (fun hx => ?_) <;> [dsimp only [x]; try clear_value x])
    | (extract_lets +onlyGivenNames x)
    | (refine Keeps.fst ?_ (by with_reducible assumption))
    | (refine Keeps.snd ?_ (by with_reducible assumption))
    | (refine Keeps.exc ?_ (by with_reducible assumption))
    | (refine Keeps.opt ?_ (by with_reducible assumption))
    | (refine Keeps.trd ?_ (by with_reducible assumption))
    | (refine Keeps.optLast ?_ (by with_reducible assumption))
    | (refine Keeps.optState ?_ (by with_reducible assumption))
    | split
    | exact rfl
    | (dsimp +zetaDelta only; split)
    | with_reducible apply Keeps.mk_
    | with_reducible apply Keeps.mkMem_
    | exact id
    | exact fun _ => rfl
    | exact loadWf_put
    | exact loadWf_check
    | exact Images.wf_closed
    | exact Images.wf_begun
    | exact Images.wf_put
    | exact Images.wf_check)

theorem keeps_State_putEph {b : Bool} {s0 s : State} {x1} (h : Keeps b s0 s) : Keeps b s0 (State.putEph s x1) := by
  unfold State.putEph
  repeat' (first
    | with_reducible assumption | (extract_lets +onlyGivenNames x) | exact rfl | with_reducible apply Keeps.mk_)

theorem keeps_State_takeUnit {b : Bool} {s0 s : State} {x1} (h : Keeps b s0 s) : Keeps1 b s0 (State.takeUnit s x1) := by
  unfold State.takeUnit
  repeat' (first
    | with_reducible assumption | with_reducible apply keeps_State_amend | with_reducible apply keeps_State_hear
    | with_reducible apply keeps_State_putEph | (extract_lets +onlyGivenNames x) | split | exact rfl
    | (dsimp +zetaDelta only; split) | with_reducible apply Keeps.mk_)

theorem keeps_State_takeUnits {b : Bool} {s0 s : State} {x1} (h : Keeps b s0 s) : Keeps1 b s0 (State.takeUnits s x1) := by
  unfold State.takeUnits
  repeat' (first
    | with_reducible assumption | with_reducible apply keeps_State_takeUnit
    | with_reducible refine Keeps.foldl1 ?_ (fun r a h => ?_))

theorem keeps_State_multipathRecord {b : Bool} {s0 s : State} {x1} (h : Keeps b s0 s) : Keeps b s0 (State.multipathRecord s x1) := by
  unfold State.multipathRecord
  repeat' (first
    | with_reducible assumption | with_reducible apply keeps_State_modTrk | with_reducible apply keeps_State_domeRecord
    | (extract_lets +onlyGivenNames x) | split)

theorem keeps_State_interferenceRecord {b : Bool} {s0 s : State} {x1} (h : Keeps b s0 s) : Keeps b s0 (State.interferenceRecord s x1) := by
  unfold State.interferenceRecord
  repeat' (first
    | with_reducible assumption | with_reducible apply keeps_State_domeRecord | (extract_lets +onlyGivenNames x)
    | exact rfl | with_reducible apply Keeps.mk_)

theorem keeps_State_laneSymbols {b : Bool} {s0 s : State} {x1} {x2} {x3} (h : Keeps b s0 s) : Keeps b s0 (State.laneSymbols s x1 x2 x3) := by
  unfold State.laneSymbols
  repeat' (first
    | with_reducible assumption | with_reducible apply keeps_State_modTrk | with_reducible apply keeps_State_domeRecord
    | (extract_lets +onlyGivenNames x; have hf : (_ → _) := x; clear hf; dsimp only [x]; clear x)
    | (extract_lets +onlyGivenNames x) | split)

theorem keeps_State_symbolRecords {b : Bool} {s0 s : State} {x1} (h : Keeps b s0 s) : Keeps b s0 (State.symbolRecords s x1) := by
  unfold State.symbolRecords
  repeat' (first
    | with_reducible assumption | with_reducible apply keeps_State_laneSymbols
    | with_reducible refine Keeps.forUpto ?_ (fun i s h => ?_) | (extract_lets +onlyGivenNames x) | split)

theorem keeps_State_epochRecords {b : Bool} {s0 s : State} {x1} {x2} {x3} (h : Keeps b s0 s) : Keeps b s0 (State.epochRecords s x1 x2 x3) := by
  unfold State.epochRecords
  repeat' (first
    | with_reducible assumption | with_reducible apply keeps_State_domeRecord
    | with_reducible apply keeps_State_multipathRecord | with_reducible apply keeps_State_interferenceRecord
    | with_reducible apply keeps_State_symbolRecords | with_reducible refine Keeps.foldl ?_ (fun s a h => ?_)
    | (extract_lets +onlyGivenNames x) | split)

theorem keeps_State_endInterval {b : Bool} {s0 s : State}  (h : Keeps b s0 s) : Keeps b s0 (State.endInterval s) := by
  unfold State.endInterval
  repeat' (first
    | with_reducible assumption | with_reducible apply keeps_State_modLanes | with_reducible apply keeps_State_modTrk
    | with_reducible apply keeps_State_modInput)

end Sys2Proof.Machine
end

