-- ==== Sys2Proof/Laws/KeepsTpOps.lean ====
section
/-! SUPPORT. What the operations of Machine/TpOps.lean keep (`Keeps`). -/

set_option Elab.async false

namespace Sys2Proof.Machine

set_option linter.all false
set_option maxRecDepth 20000

theorem keeps_State_modTp {b : Bool} {s0 s : State} {x1} (h : Keeps b s0 s) : Keeps b s0 (State.modTp s x1) := by
  unfold State.modTp
  repeat' (first
    | with_reducible assumption | (extract_lets +onlyGivenNames x) | exact rfl | with_reducible apply Keeps.mk_)

theorem keeps_State_modGen {b : Bool} {s0 s : State} {x1} {x2} (h : Keeps b s0 s) : Keeps b s0 (State.modGen s x1 x2) := by
  unfold State.modGen
  repeat' (first | with_reducible assumption | with_reducible apply keeps_State_modTp)

theorem keeps_State_stateRecord {b : Bool} {s0 s : State} {x1} {x2} {x3} {x4} {x5} (h : Keeps b s0 s) : Keeps b s0 (State.stateRecord s x1 x2 x3 x4 x5) := by
  unfold State.stateRecord
  repeat' (first
    | with_reducible assumption | with_reducible apply keeps_State_claim | with_reducible apply keeps_State_domeRecord)

theorem keeps_State_stopPulses {b : Bool} {s0 s : State}  (h : Keeps b s0 s) : Keeps b s0 (State.stopPulses s) := by
  unfold State.stopPulses
  repeat' (first
    | with_reducible assumption | with_reducible apply keeps_State_modGen | with_reducible apply keeps_State_stateRecord
    | with_reducible apply keeps_State_modTp | with_reducible refine Keeps.forUpto ?_ (fun i s h => ?_)
    | (extract_lets +onlyGivenNames x) | split)

theorem keeps_State_enterTp {b : Bool} {s0 s : State} {x1} {x2} {x3} (h : Keeps b s0 s) : Keeps b s0 (State.enterTp s x1 x2 x3) := by
  unfold State.enterTp
  repeat' (first
    | with_reducible assumption | with_reducible apply keeps_State_stateRecord | with_reducible apply keeps_State_modGen
    | (extract_lets +onlyGivenNames x) | split)

theorem keeps_State_settleTp {b : Bool} {s0 s : State} {x1} (h : Keeps b s0 s) : Keeps b s0 (State.settleTp s x1) := by
  unfold State.settleTp
  repeat' (first
    | with_reducible assumption | with_reducible apply keeps_State_modGen | with_reducible apply keeps_State_enterTp
    | (extract_lets +onlyGivenNames x) | split)

theorem keeps_State_thenEnter {b : Bool} {s0 s : State} {x1} {x2} {x3} (h : Keeps b s0 s) : Keeps b s0 (State.thenEnter s x1 x2 x3) := by
  unfold State.thenEnter
  repeat' (first
    | with_reducible assumption | with_reducible apply keeps_State_settleTp | with_reducible apply keeps_State_modGen)

theorem keeps_State_restPulses {b : Bool} {s0 s : State}  (h : Keeps b s0 s) : Keeps b s0 (State.restPulses s) := by
  unfold State.restPulses
  repeat' (first
    | with_reducible assumption | with_reducible apply keeps_State_thenEnter | with_reducible apply keeps_State_modTp
    | with_reducible refine Keeps.forUpto ?_ (fun i s h => ?_) | (extract_lets +onlyGivenNames x) | split)

theorem keeps_State_writeMap {b : Bool} {s0 s : State} {x1} {x2} {x3} {x4} (h : Keeps b s0 s) : Keeps b s0 (State.writeMap s x1 x2 x3 x4) := by
  unfold State.writeMap
  repeat' (first
    | with_reducible assumption | with_reducible apply keeps_State_domeRecord | with_reducible apply keeps_State_modTp
    | with_reducible apply keeps_State_modCal | (extract_lets +onlyGivenNames x) | split | exact rfl
    | (dsimp +zetaDelta only; split) | with_reducible apply Keeps.mk_)

theorem keeps_State_startTp {b : Bool} {s0 s : State} {x1} (h : Keeps b s0 s) : Keeps b s0 (State.startTp s x1) := by
  unfold State.startTp
  repeat' (first
    | with_reducible assumption | with_reducible apply keeps_State_modGen | with_reducible apply keeps_State_enterTp)

theorem keeps_State_steerTp {b : Bool} {s0 s : State} {x1} {x2} {x3} (h : Keeps b s0 s) : Keeps b s0 (State.steerTp s x1 x2 x3) := by
  unfold State.steerTp
  repeat' (first
    | with_reducible assumption | with_reducible apply keeps_State_modTp | with_reducible apply keeps_State_modGen
    | with_reducible apply keeps_State_startTp | with_reducible refine Keeps.forUpto ?_ (fun i s h => ?_)
    | (extract_lets +onlyGivenNames x) | split)

theorem keeps_State_glazeDtp {b : Bool} {s0 s : State} {x1} (h : Keeps b s0 s) : Keeps b s0 (State.glazeDtp s x1) := by
  unfold State.glazeDtp
  repeat' (first | with_reducible assumption | with_reducible apply keeps_State_modCal)

theorem keeps_State_newSegment {b : Bool} {s0 s : State}  (h : Keeps b s0 s) : Keeps b s0 (State.newSegment s) := by
  unfold State.newSegment
  repeat' (first
    | with_reducible assumption | with_reducible apply keeps_State_modTp | (extract_lets +onlyGivenNames x) | exact rfl
    | with_reducible apply Keeps.mk_)

end Sys2Proof.Machine
end

