-- ==== Sys2Proof/Laws/KeepsMeasure.lean ====
section
/-! SUPPORT. What the operations of Machine/Measure.lean keep (`Keeps`). -/

set_option Elab.async false

namespace Sys2Proof.Machine

set_option linter.all false
set_option maxRecDepth 20000

theorem keeps_State_resetMeasurement {b : Bool} {s0 s : State}  (h : Keeps b s0 s) : Keeps b s0 (State.resetMeasurement s) := by
  unfold State.resetMeasurement
  repeat' (first
    | with_reducible assumption | (extract_lets +onlyGivenNames x) | exact rfl | with_reducible apply Keeps.mk_)

theorem keeps_State_modEpochs {b : Bool} {s0 s : State} {x1} (h : Keeps b s0 s) : Keeps b s0 (State.modEpochs s x1) := by
  unfold State.modEpochs
  repeat' (first | with_reducible assumption | with_reducible apply keeps_State_modTrk)

theorem keeps_State_resumeEpochs {b : Bool} {s0 s : State}  (h : Keeps b s0 s) : Keeps b s0 (State.resumeEpochs s) := by
  unfold State.resumeEpochs
  repeat' (first
    | with_reducible assumption | with_reducible apply keeps_State_modEpochs | (extract_lets +onlyGivenNames x) | exact rfl
    | with_reducible apply Keeps.mk_)

theorem keeps_State_resumeMeasurement {b : Bool} {s0 s : State}  (h : Keeps b s0 s) : Keeps b s0 (State.resumeMeasurement s) := by
  unfold State.resumeMeasurement
  repeat' (first
    | with_reducible assumption | with_reducible apply keeps_State_syncPorts
    | with_reducible apply keeps_State_resumeEpochs | with_reducible apply keeps_State_startScheduled
    | with_reducible apply keeps_State_powerDownIdle | (extract_lets +onlyGivenNames x) | split
    | (dsimp +zetaDelta only; split))

theorem keeps_State_stopLower {b : Bool} {s0 s : State}  (h : Keeps b s0 s) : Keeps b s0 (State.stopLower s) := by
  unfold State.stopLower
  repeat' (first
    | with_reducible assumption | with_reducible apply keeps_State_modChan | with_reducible apply keeps_State_goIdle
    | with_reducible refine Keeps.forUpto ?_ (fun i s h => ?_) | (extract_lets +onlyGivenNames x) | split)

theorem keeps_State_endWatch {b : Bool} {s0 s : State}  (h : Keeps b s0 s) : Keeps b s0 (State.endWatch s) := by
  unfold State.endWatch
  repeat' (first
    | with_reducible assumption | with_reducible apply keeps_State_modWatch | with_reducible apply keeps_State_dropJob
    | with_reducible apply keeps_State_twinEvent | with_reducible refine Keeps.foldl ?_ (fun s a h => ?_)
    | (extract_lets +onlyGivenNames x) | split)

theorem keeps_State_endGlaze {b : Bool} {s0 s : State}  (h : Keeps b s0 s) : Keeps b s0 (State.endGlaze s) := by
  unfold State.endGlaze
  repeat' (first | with_reducible assumption | with_reducible apply keeps_State_modCal)

theorem keeps_State_endCapturing {b : Bool} {s0 s : State}  (h : Keeps b s0 s) : Keeps b s0 (State.endCapturing s) := by
  unfold State.endCapturing
  repeat' (first
    | with_reducible assumption | with_reducible apply keeps_State_refreeze | with_reducible apply keeps_State_modEasel
    | split)

theorem keeps_State_abortCaptures {b : Bool} {s0 s : State} {x1} {x2} (h : Keeps b s0 s) : Keeps b s0 (State.abortCaptures s x1 x2) := by
  unfold State.abortCaptures
  repeat' (first
    | with_reducible assumption | with_reducible apply keeps_State_modEasel | with_reducible apply keeps_State_endCapturing
    | with_reducible apply keeps_State_finalOption | with_reducible apply keeps_State_freeCapture
    | with_reducible refine Keeps.foldl ?_ (fun s a h => ?_) | (extract_lets +onlyGivenNames x) | split)

theorem keeps_State_abortJobs {b : Bool} {s0 s : State} {x1} {x2} (h : Keeps b s0 s) : Keeps b s0 (State.abortJobs s x1 x2) := by
  unfold State.abortJobs
  repeat' (first
    | with_reducible assumption | with_reducible apply keeps_State_finalOption | with_reducible apply keeps_State_dropJob
    | with_reducible refine Keeps.foldl ?_ (fun s a h => ?_))

theorem keeps_State_abortUnserved {b : Bool} {s0 s : State}  (h : Keeps b s0 s) : Keeps b s0 (State.abortUnserved s) := by
  unfold State.abortUnserved
  repeat' (first
    | with_reducible assumption | with_reducible apply keeps_State_abortCaptures
    | with_reducible apply keeps_State_abortJobs | with_reducible apply keeps_State_dropJob
    | with_reducible refine Keeps.foldl ?_ (fun s a h => ?_))

theorem keeps_State_abortFix {b : Bool} {s0 s : State} {x1} (h : Keeps b s0 s) : Keeps b s0 (State.abortFix s x1) := by
  unfold State.abortFix
  repeat' (first
    | with_reducible assumption | with_reducible apply keeps_State_endCapturing | with_reducible apply keeps_State_endFix
    | (extract_lets +onlyGivenNames x) | split | (dsimp +zetaDelta only; split))

theorem keeps_State_loseCaptures {b : Bool} {s0 s : State} {x1} (h : Keeps b s0 s) : Keeps b s0 (State.loseCaptures s x1) := by
  unfold State.loseCaptures
  repeat' (first
    | with_reducible assumption | with_reducible apply keeps_State_abortFix
    | with_reducible apply keeps_State_abortCaptures | with_reducible apply keeps_State_abortJobs
    | with_reducible apply keeps_State_modEasel | (extract_lets +onlyGivenNames x) | split)

theorem keeps_State_dropOwnJobs {b : Bool} {s0 s : State}  (h : Keeps b s0 s) : Keeps b s0 (State.dropOwnJobs s) := by
  unfold State.dropOwnJobs
  repeat' (first
    | with_reducible assumption | with_reducible apply keeps_State_dropJob
    | with_reducible refine Keeps.foldl ?_ (fun s a h => ?_))

theorem keeps_State_applyProfile {b : Bool} {s0 s : State} {x1} (h : Keeps b s0 s) : Keeps b s0 (State.applyProfile s x1) := by
  unfold State.applyProfile
  extract_lets +onlyGivenNames new lost s1
  have h1 : Keeps b s0 s1 := keeps_State_carryAll h
  clear_value s1
  extract_lets +onlyGivenNames s2
  have h2 : Keeps b s0 s2 := keeps_State_switchPrimary (Keeps.ite (keeps_State_stopLower h1) h1)
  clear_value s2
  extract_lets +onlyGivenNames s3
  have h3 : Keeps b s0 s3 := keeps_State_modTrk h2
  clear_value s3
  extract_lets +onlyGivenNames s4
  have h4 : Keeps b s0 s4 := Keeps.ite (keeps_State_endWatch h3) h3
  clear_value s4
  extract_lets +onlyGivenNames s5
  have h5 : Keeps b s0 s5 := Keeps.ite (keeps_State_endGlaze h4) h4
  clear_value s5
  extract_lets +onlyGivenNames s6
  have h6 : Keeps b s0 s6 := Keeps.ite h5 (Keeps.mk_ (s := s5) h5 rfl rfl rfl rfl)
  clear_value s6
  extract_lets +onlyGivenNames s7
  have h7 : Keeps b s0 s7 := keeps_State_abortUnserved (keeps_State_syncPorts h6)
  clear_value s7
  extract_lets +onlyGivenNames s8
  have h8 : Keeps b s0 s8 := Keeps.ite (keeps_State_loseCaptures h7) h7
  clear_value s8
  extract_lets +onlyGivenNames s9
  have h9 : Keeps b s0 s9 := Keeps.ite (keeps_State_powerDownIdle (keeps_State_modEasel (keeps_State_scheduleFix (keeps_State_restPulses
    (keeps_State_dropOwnJobs h8))))) h8
  clear_value s9
  extract_lets +onlyGivenNames s10
  have h10 : Keeps b s0 s10 := Keeps.ite (keeps_State_resumeEpochs h9) h9
  exact keeps_State_followLanes h10

theorem keeps_State_breakRun {b : Bool} {s0 s : State} {x1} (h : Keeps b s0 s) : Keeps b s0 (State.breakRun s x1) := by
  unfold State.breakRun
  repeat' (first | with_reducible assumption | with_reducible apply keeps_State_calAbort | split)

theorem keeps_State_stopMeasurement {b : Bool} {s0 s : State} {x1} (h : Keeps b s0 s) : Keeps b s0 (State.stopMeasurement s x1) := by
  unfold State.stopMeasurement
  repeat' (first
    | with_reducible assumption | with_reducible apply keeps_State_breakRun | with_reducible apply keeps_State_goIdle
    | with_reducible apply keeps_State_modEasel | with_reducible apply keeps_State_dropOwnJobs
    | with_reducible apply keeps_State_followTwins | with_reducible apply keeps_State_modEpochs
    | with_reducible refine Keeps.forUpto ?_ (fun i s h => ?_) | (extract_lets +onlyGivenNames x) | split)

theorem keeps_State_abortEasel {b : Bool} {s0 s : State} {x1} (h : Keeps b s0 s) : Keeps b s0 (State.abortEasel s x1) := by
  unfold State.abortEasel
  repeat' (first
    | with_reducible assumption | with_reducible apply keeps_State_finalOption | with_reducible apply keeps_State_modEasel
    | with_reducible apply keeps_State_abortCaptures | with_reducible apply keeps_State_abortFix
    | with_reducible apply keeps_State_abortJobs | with_reducible refine Keeps.foldl ?_ (fun s a h => ?_))

theorem keeps_State_abandonRun {b : Bool} {s0 s : State}  (h : Keeps b s0 s) : Keeps b s0 (State.abandonRun s) := by
  unfold State.abandonRun
  repeat' (first
    | with_reducible assumption | with_reducible apply keeps_State_answerCal | with_reducible apply keeps_State_modCal
    | with_reducible apply keeps_State_calRelease | split)

theorem keeps_State_engageFixed {b : Bool} {s0 s : State}  (h : Keeps b s0 s) : Keeps b s0 (State.engageFixed s) := by
  unfold State.engageFixed
  repeat' (first
    | with_reducible assumption | with_reducible apply keeps_State_engage
    | with_reducible refine Keeps.forUpto ?_ (fun i s h => ?_) | (extract_lets +onlyGivenNames x) | split)

theorem keeps_State_calStartup {b : Bool} {s0 s : State}  (h : Keeps b s0 s) : Keeps b s0 (State.calStartup s) := by
  unfold State.calStartup
  repeat' (first
    | with_reducible assumption | with_reducible apply keeps_State_modCal | with_reducible apply keeps_State_claim
    | with_reducible apply keeps_State_audit | (extract_lets +onlyGivenNames x) | split)

theorem keeps_State_startMeasurement {b : Bool} {s0 s : State}  (h : Keeps b s0 s) : Keeps b s0 (State.startMeasurement s) := by
  unfold State.startMeasurement
  repeat' (first
    | with_reducible assumption | with_reducible apply keeps_State_modEpochs | with_reducible apply keeps_State_syncPorts
    | with_reducible apply keeps_State_engageFixed | with_reducible apply keeps_State_calStartup
    | with_reducible apply keeps_State_rebuildRetired)

theorem keeps_State_startCalibration {b : Bool} {s0 s : State}  (h : Keeps b s0 s) : Keeps b s0 (State.startCalibration s) := by
  unfold State.startCalibration
  repeat' (first | with_reducible assumption | with_reducible apply keeps_State_calTrigger | split)

end Sys2Proof.Machine
end

