-- ==== Sys2Proof/Laws/KeepsReset.lean ====
section
/-! SUPPORT. What the operations of Machine/Reset.lean keep (`Keeps`). -/

set_option Elab.async false

namespace Sys2Proof.Machine

set_option linter.all false
set_option maxRecDepth 20000

theorem keeps_State_drumReset {b : Bool} {s0 s : State} {x1} (h : Keeps b s0 s) : Keeps b s0 (State.drumReset s x1) := by
  have h1 : Keeps b s0 (if s.fast then s.sendLinkSleep 1 else s) := by
    split
    · exact keeps_State_sendLinkSleep h
    · exact h
  unfold State.drumReset
  extract_lets again s1 entering
  have h2 : Keeps b s0 s1 := h1
  clear_value s1
  exact Keeps.mkMem_ h2 id Images.wf_closed id id rfl rfl rfl rfl

theorem keeps_State_drumFailure {b : Bool} {s0 s : State} {x1} (h : Keeps b s0 s) : Keeps b s0 (State.drumFailure s x1) := by
  unfold State.drumFailure
  repeat' (first
    | with_reducible assumption | with_reducible apply keeps_State_drumReset | (extract_lets +onlyGivenNames x) | split
    | exact rfl | with_reducible apply Keeps.mkMem_ | exact id)

theorem keeps_State_coreReset {b : Bool} {s0 s : State} {x1} {x2} (h : Keeps b s0 s) : Keeps b s0 (State.coreReset s x1 x2) := by
  unfold State.coreReset
  repeat' (first
    | with_reducible assumption | (extract_lets +onlyGivenNames x) | split | exact rfl | with_reducible apply Keeps.mk_)

theorem Seal.restart_auditSeq {v : Seal} {n : Nat} {p : Bool} : (v.restart n p).auditSeq = v.auditSeq := rfl

theorem Seal.restart_counters {v : Seal} {n : Nat} {p : Bool} : (v.restart n p).counters = v.counters := rfl

theorem keeps_State_domeReset {b : Bool} {s0 s : State} {x1 x2} (h : Keeps b s0 s) : Keeps b s0 (State.domeReset s x1 x2) := by
  have h1 : Keeps b s0 (s.stopPulses.resetMeasurement.modSeal fun v => v.restart s.nav.held false) :=
    keeps_State_modSeal (f := fun v => v.restart s.nav.held false) (keeps_State_resetMeasurement (keeps_State_stopPulses h))
      Seal.restart_auditSeq Seal.restart_counters
  unfold State.domeReset
  extract_lets again held startHeld s1 s2
  have h2 : Keeps b s0 s2 := Keeps.mk_ (s := s1) h1 rfl rfl rfl rfl
  clear_value s2
  refine h2.trans ⟨rfl, fun _ => ⟨rfl, rfl⟩, fun hw => ?_, le_rfl, fun h => ⟨fun _ => le_rfl, h⟩⟩
  simp only [State.memoryWf, Bool.and_eq_true] at hw ⊢
  exact ⟨⟨⟨hw.1.1.1, hw.1.1.2⟩, Images.wf_closed hw.1.2⟩, rfl⟩

theorem keeps_State_domeFailure {b : Bool} {s0 s : State} {x1} (h : Keeps b s0 s) : Keeps b s0 (State.domeFailure s x1) := by
  unfold State.domeFailure
  repeat' (first
    | with_reducible assumption | with_reducible apply keeps_State_domeReset | (extract_lets +onlyGivenNames x) | split
    | exact rfl | with_reducible apply Keeps.mkMem_ | exact id)

theorem keeps_State_doubleTrap {b : Bool} {s0 s : State} {x1} (h : Keeps b s0 s) : Keeps b s0 (State.doubleTrap s x1) := by
  unfold State.doubleTrap
  repeat' (first
    | with_reducible assumption | with_reducible apply keeps_State_drumFailure | with_reducible apply keeps_State_coreReset
    | with_reducible apply keeps_State_domeFailure | split)

theorem keeps_State_rlinkStart {b : Bool} {s0 s : State} {x1} {x2} (h : Keeps b s0 s) : Keeps b s0 (State.rlinkStart s x1 x2) := by
  unfold State.rlinkStart
  repeat' (first | with_reducible assumption | with_reducible apply keeps_State_modRlink)

theorem keeps_State_powerFailEntry {b : Bool} {s0 s : State} {x1} {x2} {x3} {x4} {x5} (h : Keeps b s0 s) : Keeps b s0 (State.powerFailEntry s x1 x2 x3 x4 x5) := by
  unfold State.powerFailEntry
  repeat' (first
    | with_reducible assumption | with_reducible apply keeps_State_claim | with_reducible apply keeps_State_audit)

theorem keeps_State_stageOne {b : Bool} {s0 s : State}  (h : Keeps b s0 s) : Keeps b s0 (State.stageOne s) := by
  unfold State.stageOne
  repeat' (first
    | with_reducible assumption | with_reducible apply keeps_State_drumReset | with_reducible apply keeps_State_domeReset
    | with_reducible apply keeps_State_modPwr | with_reducible apply keeps_State_modBoot
    | with_reducible apply keeps_State_rlinkStart | with_reducible apply keeps_State_modRlink)

theorem keeps_State_coldStart {s0 s : State} {x1 x2} (h : Keeps false s0 s) : Keeps false s0 (State.coldStart s x1 x2) := by
  unfold State.coldStart
  refine h.trans ⟨rfl, nofun, fun hw => ?_, le_rfl, fun h => ⟨fun _ => le_rfl, h⟩⟩
  · simp only [State.memoryWf, Bool.and_eq_true] at hw ⊢
    refine ⟨⟨⟨?_, Images.wf_closed hw.1.1.2⟩, Images.wf_closed hw.1.2⟩, rfl⟩
    have := hw.1.1.1
    simp only [Mem.wf, Bool.and_eq_true] at this ⊢
    exact ⟨⟨⟨⟨rfl, rfl⟩, rfl⟩, this.1.2⟩, rfl⟩

theorem keeps_State_epochStart {b : Bool} {s0 s : State}  (h : Keeps b s0 s) : Keeps b s0 (State.epochStart s) := by
  unfold State.epochStart
  repeat' (first
    | with_reducible assumption | with_reducible apply keeps_State_modBoot | with_reducible apply keeps_State_domeRecord
    | split)

theorem keeps_State_resetEntry {b : Bool} {s0 s : State} {x1} (h : Keeps b s0 s) : Keeps b s0 (State.resetEntry s x1) := by
  unfold State.resetEntry
  repeat' (first
    | with_reducible assumption | with_reducible apply keeps_State_claim | with_reducible apply keeps_State_audit)

theorem keeps_State_abortDome {b : Bool} {s0 s : State}  (h : Keeps b s0 s) : Keeps b s0 (State.abortDome s) := by
  unfold State.abortDome
  repeat' (first
    | with_reducible assumption | with_reducible apply keeps_State_finalReply
    | with_reducible refine Keeps.foldl ?_ (fun s a h => ?_))

theorem keeps_State_domeStart {b : Bool} {s0 s : State} {x1} (h : Keeps b s0 s) : Keeps b s0 (State.domeStart s x1) := by
  unfold State.domeStart
  extract_lets +onlyGivenNames s1
  have h1 : Keeps b s0 s1 := Keeps.mk_ h rfl rfl rfl rfl
  clear_value s1
  extract_lets +onlyGivenNames s2
  have h2 : Keeps b s0 s2 := keeps_State_epochStart h1
  clear_value s2
  extract_lets +onlyGivenNames s4
  have h4 : Keeps b s0 s4 := Keeps.foldl h2 fun s a h => keeps_State_resetEntry h
  clear_value s4
  extract_lets +onlyGivenNames s45 s5
  have h5 : Keeps b s0 s5 := Keeps.foldl (keeps_State_modBoot h4) fun s a h => by
    split; rename_i e
    exact keeps_State_audit (Keeps.snd (keeps_State_claim h) e)
  clear_value s5
  extract_lets +onlyGivenNames s6
  have h6 : Keeps b s0 s6 := by
    dsimp only [s6]
    split
    · exact h5
    · exact keeps_State_modSeal (f := fun v => { v with pfLatched := none }) (keeps_State_powerFailEntry h5) rfl rfl
  clear_value s6
  extract_lets +onlyGivenNames s7
  have h7 : Keeps b s0 s7 := Keeps.ite (keeps_State_sealOpened h6) h6
  clear_value s7
  extract_lets +onlyGivenNames s8
  have h8 : Keeps b s0 s8 := keeps_State_modSeal h7 rfl rfl
  clear_value s8
  extract_lets +onlyGivenNames d9 t9 u9 v9 w9 s9
  have h9 : Keeps b s0 s9 := Keeps.mkMem_ h8 id id (fun hi => by split <;> exact hi) id rfl rfl rfl rfl
  clear_value s9
  extract_lets +onlyGivenNames s10
  have h10 : Keeps b s0 s10 := keeps_State_abortDome h9
  clear_value s10
  exact Keeps.ite h10 (keeps_State_rlinkStart (keeps_State_startMeasurement h10))

theorem keeps_State_drumStart {b : Bool} {s0 s : State} {x1} (h : Keeps b s0 s) : Keeps b s0 (State.drumStart s x1) := by
  unfold State.drumStart
  refine Keeps.mkMem_ h (fun hm => ?_) (fun hi => ?_) id id rfl rfl rfl rfl
  · simp only [Mem.wf, Bool.and_eq_true] at hm ⊢
    refine ⟨⟨⟨⟨?_, hm.1.1.1.2⟩, hm.1.1.2⟩, hm.1.2⟩, hm.2⟩
    split
    · exact hm.1.1.1.1
    · exact Bytes.wf_writeN (Bytes.wf_writeN hm.1.1.1.1)
  · split
    · exact hi
    · exact hi

theorem keeps_execImageCheckComplete {b : Bool} {s0 s : State} {x0} {x1} {x2} (h : Keeps b s0 s) : KeepsR b s0 (execImageCheckComplete x0 x1 x2 s) := by
  unfold execImageCheckComplete
  repeat' (first
    | with_reducible assumption | with_reducible apply keeps_State_domeStart | with_reducible apply keeps_State_modBoot
    | with_reducible apply keeps_State_drumStart | with_reducible apply KeepsR.next | (extract_lets +onlyGivenNames x)
    | split | exact rfl | with_reducible apply Keeps.mkMem_ | exact id)

theorem keeps_execDomeReset {b : Bool} {s0 s : State}  (h : Keeps b s0 s) : KeepsR b s0 (execDomeReset s) := by
  unfold execDomeReset
  repeat' (first
    | with_reducible assumption | with_reducible apply keeps_State_domeReset | with_reducible apply KeepsR.next | split)

theorem keeps_execDrumReset {b : Bool} {s0 s : State}  (h : Keeps b s0 s) : KeepsR b s0 (execDrumReset s) := by
  unfold execDrumReset
  repeat' (first
    | with_reducible assumption | with_reducible apply keeps_State_drumReset | with_reducible apply KeepsR.next | split)

theorem keeps_execDomeWdtExpiry {b : Bool} {s0 s : State}  (h : Keeps b s0 s) : KeepsR b s0 (execDomeWdtExpiry s) := by
  unfold execDomeWdtExpiry
  repeat' (first
    | with_reducible assumption | with_reducible apply keeps_State_domeFailure | with_reducible apply KeepsR.next | split)

theorem keeps_State_markExpired {b : Bool} {s0 s : State} {x1} (h : Keeps b s0 s) : Keeps b s0 (State.markExpired s x1) := by
  unfold State.markExpired
  repeat' (first
    | with_reducible assumption | (extract_lets +onlyGivenNames x) | exact rfl | with_reducible apply Keeps.mk_)

theorem keeps_execDrumWdtExpiry {b : Bool} {s0 s : State}  (h : Keeps b s0 s) : KeepsR b s0 (execDrumWdtExpiry s) := by
  unfold execDrumWdtExpiry
  repeat' (first
    | with_reducible assumption | with_reducible apply keeps_State_drumFailure
    | with_reducible apply keeps_State_markExpired | with_reducible apply KeepsR.next | split)

theorem keeps_execCoreWdtExpiry {b : Bool} {s0 s : State} {x0} (h : Keeps b s0 s) : KeepsR b s0 (execCoreWdtExpiry x0 s) := by
  unfold execCoreWdtExpiry
  repeat' (first
    | with_reducible assumption | with_reducible apply keeps_State_coreReset | with_reducible apply keeps_State_markExpired
    | with_reducible apply KeepsR.next | split)

end Sys2Proof.Machine
end

