-- ==== Sys2Proof/Laws/KeepsSerial.lean ====
section
/-! SUPPORT. What the operations of Machine/Serial.lean keep (`Keeps`). -/

set_option Elab.async false

namespace Sys2Proof.Machine

set_option linter.all false
set_option maxRecDepth 20000

theorem keeps_State_modUart {b : Bool} {s0 s : State} {x1} {x2} (h : Keeps b s0 s) : Keeps b s0 (State.modUart s x1 x2) := by
  unfold State.modUart
  repeat' (first
    | with_reducible assumption | (extract_lets +onlyGivenNames x) | exact rfl | with_reducible apply Keeps.mk_)

theorem keeps_State_uartStart {b : Bool} {s0 s : State} {x1} (h : Keeps b s0 s) : Keeps b s0 (State.uartStart s x1) := by
  unfold State.uartStart
  repeat' (first
    | with_reducible assumption | with_reducible apply keeps_State_modUart | with_reducible apply keeps_State_acceptedReply
    | (extract_lets +onlyGivenNames x) | split)

theorem keeps_State_uartEnables {b : Bool} {s0 s : State} {x1} {x2} {x3} (h : Keeps b s0 s) : Keeps b s0 (State.uartEnables s x1 x2 x3) := by
  unfold State.uartEnables
  repeat' (first
    | with_reducible assumption | with_reducible apply keeps_State_modUart | with_reducible apply keeps_State_uartStart
    | with_reducible apply keeps_State_finalReply | (extract_lets +onlyGivenNames x) | split)

theorem keeps_State_requestBreak {b : Bool} {s0 s : State} {x1} {x2} {x3} (h : Keeps b s0 s) : Keeps b s0 (State.requestBreak s x1 x2 x3) := by
  unfold State.requestBreak
  repeat' (first
    | with_reducible assumption | with_reducible apply keeps_State_uartStart | with_reducible apply keeps_State_modUart
    | (extract_lets +onlyGivenNames x) | split)

theorem keeps_State_modCan {b : Bool} {s0 s : State} {x1} {x2} (h : Keeps b s0 s) : Keeps b s0 (State.modCan s x1 x2) := by
  unfold State.modCan
  repeat' (first
    | with_reducible assumption | (extract_lets +onlyGivenNames x) | exact rfl | with_reducible apply Keeps.mk_)

theorem keeps_bodySerialSetUart {b : Bool} {s0 s : State} {x0} (h : Keeps b s0 s) : Keeps1 b s0 (bodySerialSetUart x0 s) := by
  unfold bodySerialSetUart
  repeat' (first
    | with_reducible assumption | with_reducible apply keeps_State_modUart | with_reducible apply keeps_State_uartEnables
    | with_reducible apply Keeps.checked)

theorem keeps_execSerialSetUart {b : Bool} {s0 s : State} {x0} (h : Keeps b s0 s) : KeepsR b s0 (execSerialSetUart x0 s) := by
  unfold execSerialSetUart
  repeat' (first
    | with_reducible assumption | with_reducible refine keeps_hostCommand ?_ (fun c s h => ?_)
    | with_reducible apply keeps_bodySerialSetUart)

theorem keeps_bodySerialGetUart {b : Bool} {s0 s : State} {x0} (h : Keeps b s0 s) : Keeps1 b s0 (bodySerialGetUart x0 s) := by
  unfold bodySerialGetUart
  repeat' (first | with_reducible assumption | with_reducible apply Keeps.checked)

theorem keeps_execSerialGetUart {b : Bool} {s0 s : State} {x0} (h : Keeps b s0 s) : KeepsR b s0 (execSerialGetUart x0 s) := by
  unfold execSerialGetUart
  repeat' (first
    | with_reducible assumption | with_reducible refine keeps_hostCommand ?_ (fun c s h => ?_)
    | with_reducible apply keeps_bodySerialGetUart)

theorem keeps_bodySerialSendBreak {b : Bool} {s0 s : State} {x0} (h : Keeps b s0 s) : Keeps1 b s0 (bodySerialSendBreak x0 s) := by
  unfold bodySerialSendBreak
  repeat' (first
    | with_reducible assumption | with_reducible apply keeps_State_requestBreak | with_reducible apply Keeps.checked)

theorem keeps_execSerialSendBreak {b : Bool} {s0 s : State} {x0} (h : Keeps b s0 s) : KeepsR b s0 (execSerialSendBreak x0 s) := by
  unfold execSerialSendBreak
  repeat' (first
    | with_reducible assumption | with_reducible refine keeps_hostCommand ?_ (fun c s h => ?_)
    | with_reducible apply keeps_bodySerialSendBreak)

theorem keeps_bodySerialSetCan {b : Bool} {s0 s : State} {x0} (h : Keeps b s0 s) : Keeps1 b s0 (bodySerialSetCan x0 s) := by
  unfold bodySerialSetCan
  repeat' (first
    | with_reducible assumption | with_reducible apply keeps_State_modCan | with_reducible apply Keeps.checked)

theorem keeps_execSerialSetCan {b : Bool} {s0 s : State} {x0} (h : Keeps b s0 s) : KeepsR b s0 (execSerialSetCan x0 s) := by
  unfold execSerialSetCan
  repeat' (first
    | with_reducible assumption | with_reducible refine keeps_hostCommand ?_ (fun c s h => ?_)
    | with_reducible apply keeps_bodySerialSetCan)

theorem keeps_bodySerialGetCan {b : Bool} {s0 s : State} {x0} (h : Keeps b s0 s) : Keeps1 b s0 (bodySerialGetCan x0 s) := by
  unfold bodySerialGetCan
  repeat' (first | with_reducible assumption | with_reducible apply Keeps.checked)

theorem keeps_execSerialGetCan {b : Bool} {s0 s : State} {x0} (h : Keeps b s0 s) : KeepsR b s0 (execSerialGetCan x0 s) := by
  unfold execSerialGetCan
  repeat' (first
    | with_reducible assumption | with_reducible refine keeps_hostCommand ?_ (fun c s h => ?_)
    | with_reducible apply keeps_bodySerialGetCan)

theorem keeps_bodySerialGetCounters {b : Bool} {s0 s : State} {x0} (h : Keeps b s0 s) : Keeps1 b s0 (bodySerialGetCounters x0 s) := by
  unfold bodySerialGetCounters
  repeat' (first | with_reducible assumption | with_reducible apply Keeps.checked)

theorem keeps_execSerialGetCounters {b : Bool} {s0 s : State} {x0} (h : Keeps b s0 s) : KeepsR b s0 (execSerialGetCounters x0 s) := by
  unfold execSerialGetCounters
  repeat' (first
    | with_reducible assumption | with_reducible refine keeps_hostCommand ?_ (fun c s h => ?_)
    | with_reducible apply keeps_bodySerialGetCounters)

theorem keeps_State_uartReceive {b : Bool} {s0 s : State} {x1} {x2} (h : Keeps b s0 s) : Keeps b s0 (State.uartReceive s x1 x2) := by
  unfold State.uartReceive
  repeat' (first
    | with_reducible assumption | with_reducible apply keeps_State_modUart | with_reducible apply keeps_State_claim
    | with_reducible apply keeps_State_count | (extract_lets +onlyGivenNames x) | split)

theorem keeps_State_uartBreak {b : Bool} {s0 s : State} {x1} (h : Keeps b s0 s) : Keeps b s0 (State.uartBreak s x1) := by
  unfold State.uartBreak
  repeat' (first
    | with_reducible assumption | with_reducible apply keeps_State_claim | with_reducible apply keeps_State_modUart
    | (extract_lets +onlyGivenNames x) | split)

theorem keeps_execUartCharacterSent {b : Bool} {s0 s : State} {x0} (h : Keeps b s0 s) : KeepsR b s0 (execUartCharacterSent x0 s) := by
  unfold execUartCharacterSent
  repeat' (first
    | with_reducible assumption | with_reducible apply keeps_State_modSeal | with_reducible apply keeps_State_claim
    | with_reducible apply keeps_State_uartStart | with_reducible apply keeps_State_modUart
    | with_reducible apply KeepsR.next | (extract_lets +onlyGivenNames x) | split | exact rfl)

theorem keeps_execUartBreakSent {b : Bool} {s0 s : State} {x0} (h : Keeps b s0 s) : KeepsR b s0 (execUartBreakSent x0 s) := by
  unfold execUartBreakSent
  repeat' (first
    | with_reducible assumption | with_reducible apply keeps_State_modUart | with_reducible apply keeps_State_finalReply
    | with_reducible apply keeps_State_uartStart | with_reducible apply KeepsR.next | (extract_lets +onlyGivenNames x)
    | split | (dsimp +zetaDelta only; split))

theorem keeps_State_canStore {b : Bool} {s0 s : State} {x1} {x2} {x3} (h : Keeps b s0 s) : Keeps b s0 (State.canStore s x1 x2 x3) := by
  unfold State.canStore
  repeat' (first
    | with_reducible assumption | with_reducible apply keeps_State_count | with_reducible apply keeps_State_modCan
    | with_reducible apply keeps_State_sramWrite | (extract_lets +onlyGivenNames x) | split)

theorem keeps_execCanFrameReceived {b : Bool} {s0 s : State} {x0} {x1} {x2} (h : Keeps b s0 s) : KeepsR b s0 (execCanFrameReceived x0 x1 x2 s) := by
  unfold execCanFrameReceived
  repeat' (first
    | with_reducible assumption | with_reducible apply keeps_State_claim | with_reducible apply keeps_State_draw
    | with_reducible apply keeps_State_modCan | with_reducible apply keeps_State_canStore
    | with_reducible apply KeepsR.next | (extract_lets +onlyGivenNames x) | split)

theorem keeps_State_canComplete {b : Bool} {s0 s : State} {x1} {x2} {x3} {x4} (h : Keeps b s0 s) : Keeps b s0 (State.canComplete s x1 x2 x3 x4) := by
  unfold State.canComplete
  repeat' (first
    | with_reducible assumption | with_reducible apply keeps_State_sramWrite | with_reducible apply keeps_State_modCan
    | (extract_lets +onlyGivenNames x) | split)

theorem keeps_State_canSkipRejected {b : Bool} {s0 s : State} {x1} (h : Keeps b s0 s) : Keeps b s0 (State.canSkipRejected s x1) := by
  unfold State.canSkipRejected
  repeat' (first
    | with_reducible assumption | with_reducible apply keeps_State_canComplete
    | with_reducible refine Keeps.forUpto ?_ (fun i s h => ?_) | (extract_lets +onlyGivenNames x) | split)

theorem keeps_State_canTick {b : Bool} {s0 s : State} {x1} (h : Keeps b s0 s) : Keeps b s0 (State.canTick s x1) := by
  unfold State.canTick
  repeat' (first | with_reducible assumption | with_reducible apply keeps_State_canSkipRejected | split)

theorem keeps_execCanFrameSent {b : Bool} {s0 s : State} {x0} {x1} (h : Keeps b s0 s) : KeepsR b s0 (execCanFrameSent x0 x1 s) := by
  unfold execCanFrameSent
  repeat' (first
    | with_reducible assumption | with_reducible apply keeps_State_canTick | with_reducible apply keeps_State_claim
    | with_reducible apply keeps_State_canComplete | with_reducible apply keeps_State_canStore
    | with_reducible apply keeps_State_count | with_reducible apply keeps_State_modCan | with_reducible apply KeepsR.next
    | (extract_lets +onlyGivenNames x) | split | (dsimp +zetaDelta only; split))

theorem keeps_execCanArbitrationLoss {b : Bool} {s0 s : State} {x0} (h : Keeps b s0 s) : KeepsR b s0 (execCanArbitrationLoss x0 s) := by
  unfold execCanArbitrationLoss
  repeat' (first
    | with_reducible assumption | with_reducible apply keeps_State_modCan | with_reducible apply KeepsR.next
    | (extract_lets +onlyGivenNames x) | split)

theorem keeps_execCanBusError {b : Bool} {s0 s : State} {x0} {x1} {x2} {x3} (h : Keeps b s0 s) : KeepsR b s0 (execCanBusError x0 x1 x2 x3 s) := by
  unfold execCanBusError
  repeat' (first
    | with_reducible assumption | with_reducible apply keeps_State_modCan | with_reducible apply KeepsR.next | split)

theorem keeps_execCanBusOffRecovery {b : Bool} {s0 s : State} {x0} (h : Keeps b s0 s) : KeepsR b s0 (execCanBusOffRecovery x0 s) := by
  unfold execCanBusOffRecovery
  repeat' (first
    | with_reducible assumption | with_reducible apply keeps_State_modCan | with_reducible apply KeepsR.next
    | (extract_lets +onlyGivenNames x) | split)

theorem keeps_execUartStartEdge {b : Bool} {s0 s : State} {x0} {x1} (h : Keeps b s0 s) : KeepsR b s0 (execUartStartEdge x0 x1 s) := by
  unfold execUartStartEdge
  repeat' (first
    | with_reducible assumption | with_reducible apply keeps_State_modUart | with_reducible apply KeepsR.next
    | (extract_lets +onlyGivenNames x) | split)

theorem keeps_execCanBusJoin {b : Bool} {s0 s : State} {x0} (h : Keeps b s0 s) : KeepsR b s0 (execCanBusJoin x0 s) := by
  unfold execCanBusJoin
  repeat' (first
    | with_reducible assumption | with_reducible apply keeps_State_modCan | with_reducible apply KeepsR.next | split)

end Sys2Proof.Machine
end

