-- ==== Sys2Proof/Laws/KeepsPower.lean ====
section
/-! SUPPORT. What the operations of Machine/Power.lean keep (`Keeps`). -/

set_option Elab.async false

namespace Sys2Proof.Machine

set_option linter.all false
set_option maxRecDepth 20000

theorem keeps_State_answerRequest {b : Bool} {s0 s : State} {x1} {x2} {x3} {x4} {x5} (h : Keeps b s0 s) : Keeps b s0 (State.answerRequest s x1 x2 x3 x4 x5) := by
  unfold State.answerRequest
  repeat' (first | with_reducible assumption | with_reducible apply keeps_State_finalReply | split)

theorem keeps_State_rejoin {b : Bool} {s0 s : State} {x1} (h : Keeps b s0 s) : Keeps b s0 (State.rejoin s x1) := by
  unfold State.rejoin
  repeat' (first | with_reducible assumption | with_reducible apply keeps_State_modChain | split)

theorem keeps_State_supersede {b : Bool} {s0 s : State}  (h : Keeps b s0 s) : Keeps b s0 (State.supersede s) := by
  unfold State.supersede
  repeat' (first
    | with_reducible assumption | with_reducible apply keeps_State_answerRequest
    | with_reducible apply keeps_State_finalOption | with_reducible apply keeps_State_modPwr
    | (extract_lets +onlyGivenNames x) | split)

theorem keeps_State_endAborted {b : Bool} {s0 s : State} {x1} {x2} {x3} {x4} (h : Keeps b s0 s) : Keeps b s0 (State.endAborted s x1 x2 x3 x4) := by
  unfold State.endAborted
  repeat' (first
    | with_reducible assumption | with_reducible apply keeps_State_rejoin | with_reducible apply keeps_State_answerRequest
    | with_reducible apply keeps_State_supersede | with_reducible apply keeps_State_modPwr)

theorem keeps_State_abortEntry {b : Bool} {s0 s : State} {x1} {x2} (h : Keeps b s0 s) : Keeps b s0 (State.abortEntry s x1 x2) := by
  unfold State.abortEntry
  repeat' (first
    | with_reducible assumption | with_reducible apply keeps_State_endAborted
    | with_reducible apply keeps_State_resumeMeasurement | (extract_lets +onlyGivenNames x) | split)

theorem keeps_State_endFailure {b : Bool} {s0 s : State} {x1} {x2} (h : Keeps b s0 s) : Keeps b s0 (State.endFailure s x1 x2) := by
  unfold State.endFailure
  repeat' (first
    | with_reducible assumption | with_reducible apply keeps_State_endAborted | with_reducible apply keeps_State_rejoin
    | with_reducible apply keeps_State_claim | with_reducible apply keeps_State_domeRecord
    | with_reducible apply keeps_State_answerRequest | with_reducible apply keeps_State_modPwr
    | (extract_lets +onlyGivenNames x) | split)

theorem keeps_State_acceptEntry {b : Bool} {s0 s : State} {x1} (h : Keeps b s0 s) : Keeps b s0 (State.acceptEntry s x1) := by
  unfold State.acceptEntry
  repeat' (first | with_reducible assumption | with_reducible apply keeps_State_modPwr)

theorem keeps_State_withdrawProfile {b : Bool} {s0 s : State} {x1} (h : Keeps b s0 s) : Keeps b s0 (State.withdrawProfile s x1) := by
  unfold State.withdrawProfile
  repeat' (first
    | with_reducible assumption | with_reducible apply keeps_State_modPwr | with_reducible apply keeps_State_finalOption
    | with_reducible apply keeps_State_rlinkStart | with_reducible apply keeps_State_powerDownIdle
    | (extract_lets +onlyGivenNames x) | split | (dsimp +zetaDelta only; split))

theorem keeps_State_startProfile {b : Bool} {s0 s : State} {x1} (h : Keeps b s0 s) : Keeps b s0 (State.startProfile s x1) := by
  unfold State.startProfile
  repeat' (first
    | with_reducible assumption | with_reducible apply keeps_State_modPwr | with_reducible apply keeps_State_rlinkStart
    | with_reducible apply keeps_State_powerDomains | (extract_lets +onlyGivenNames x) | split)

theorem keeps_State_requestProfile {b : Bool} {s0 s : State} {x1} {x2} (h : Keeps b s0 s) : Keeps b s0 (State.requestProfile s x1 x2) := by
  unfold State.requestProfile
  repeat' (first
    | with_reducible assumption | with_reducible apply keeps_State_withdrawProfile
    | with_reducible apply keeps_State_finalOption | with_reducible apply keeps_State_startProfile
    | (extract_lets +onlyGivenNames x) | split)

theorem keeps_State_startPending {b : Bool} {s0 s : State}  (h : Keeps b s0 s) : Keeps b s0 (State.startPending s) := by
  unfold State.startPending
  repeat' (first
    | with_reducible assumption | with_reducible apply keeps_State_modPwr | with_reducible apply keeps_State_answerRequest
    | with_reducible apply keeps_State_endFailure | with_reducible apply keeps_State_acceptEntry
    | with_reducible apply keeps_State_requestProfile | (extract_lets +onlyGivenNames x) | split)

theorem keeps_State_request {b : Bool} {s0 s : State} {x1} (h : Keeps b s0 s) : Keeps b s0 (State.request s x1) := by
  unfold State.request
  repeat' (first
    | with_reducible assumption | with_reducible apply keeps_State_answerRequest
    | with_reducible apply keeps_State_abortEntry | with_reducible apply keeps_State_modPwr
    | with_reducible apply keeps_State_supersede | with_reducible apply keeps_State_startPending | split)

theorem keeps_State_enterProfile {b : Bool} {s0 s : State} {x1} (h : Keeps b s0 s) : Keeps b s0 (State.enterProfile s x1) := by
  unfold State.enterProfile
  repeat' (first
    | with_reducible assumption | with_reducible apply keeps_State_modPwr | with_reducible apply keeps_State_applyProfile
    | with_reducible apply keeps_State_powerDownIdle | with_reducible apply keeps_State_rlinkStart
    | (extract_lets +onlyGivenNames x) | split | (dsimp +zetaDelta only; split))

theorem keeps_execProfileChangeEffect {b : Bool} {s0 s : State}  (h : Keeps b s0 s) : KeepsR b s0 (execProfileChangeEffect s) := by
  unfold execProfileChangeEffect
  repeat' (first
    | with_reducible assumption | with_reducible apply keeps_State_enterProfile | with_reducible apply keeps_State_modPwr
    | with_reducible apply keeps_State_finalOption | with_reducible apply KeepsR.next | (extract_lets +onlyGivenNames x)
    | split)

theorem keeps_State_loseRunCluster {b : Bool} {s0 s : State} {x1} (h : Keeps b s0 s) : Keeps b s0 (State.loseRunCluster s x1) := by
  unfold State.loseRunCluster
  repeat' (first
    | with_reducible assumption | with_reducible apply keeps_State_modCal | with_reducible apply keeps_State_unclaim
    | with_reducible refine Keeps.foldl ?_ (fun s a h => ?_) | split)

theorem keeps_State_failCluster {b : Bool} {s0 s : State} {x1} {x2} (h : Keeps b s0 s) : Keeps b s0 (State.failCluster s x1 x2) := by
  unfold State.failCluster
  repeat' (first
    | with_reducible assumption | with_reducible apply keeps_State_audit | with_reducible apply keeps_State_modBoot
    | with_reducible apply keeps_State_modPwr | with_reducible apply keeps_State_loseRunCluster
    | with_reducible apply keeps_State_carryAll | with_reducible apply keeps_State_domeRecord)

theorem keeps_State_beginWake {b : Bool} {s0 s : State} {x1} (h : Keeps b s0 s) : Keeps b s0 (State.beginWake s x1) := by
  unfold State.beginWake
  repeat' (first
    | with_reducible assumption | with_reducible apply keeps_State_modPwr | with_reducible apply keeps_State_rlinkStart
    | (extract_lets +onlyGivenNames x) | split)

theorem keeps_State_wakeOn {b : Bool} {s0 s : State} {x1} (h : Keeps b s0 s) : Keeps b s0 (State.wakeOn s x1) := by
  unfold State.wakeOn
  repeat' (first
    | with_reducible assumption | with_reducible apply keeps_State_abortEntry | with_reducible apply keeps_State_modPwr
    | with_reducible apply keeps_State_beginWake | split)

theorem keeps_execSealLoopOpen {b : Bool} {s0 s : State}  (h : Keeps b s0 s) : KeepsR b s0 (execSealLoopOpen s) := by
  unfold execSealLoopOpen
  repeat' (first
    | with_reducible assumption | with_reducible apply keeps_State_modSeal | with_reducible apply keeps_State_wakeOn
    | with_reducible apply keeps_State_modPwr | with_reducible apply keeps_State_sealOpened
    | with_reducible apply KeepsR.next | (extract_lets +onlyGivenNames x) | split | exact rfl)

theorem keeps_execEvtEdge {b : Bool} {s0 s : State} {x0} {x1} {x2} (h : Keeps b s0 s) : KeepsR b s0 (execEvtEdge x0 x1 x2 s) := by
  unfold execEvtEdge
  repeat' (first
    | with_reducible assumption | with_reducible apply keeps_State_wakeOn | with_reducible apply keeps_State_claim
    | with_reducible apply keeps_State_holdRecord | with_reducible apply keeps_State_drumRecord
    | with_reducible apply keeps_State_count | with_reducible apply KeepsR.next
    | (extract_lets +onlyGivenNames x; have hf : (_ → _) := x; clear hf; dsimp only [x]; clear x)
    | (extract_lets +onlyGivenNames x) | split | exact rfl | with_reducible apply Keeps.mk_)

theorem keeps_State_slowWoken {b : Bool} {s0 s : State} {x1} (h : Keeps b s0 s) : Keeps b s0 (State.slowWoken s x1) := by
  unfold State.slowWoken
  repeat' (first | with_reducible assumption | with_reducible apply keeps_State_wakeOn | split)

theorem keeps_execUartCharacterReceived {b : Bool} {s0 s : State} {x0} {x1} (h : Keeps b s0 s) : KeepsR b s0 (execUartCharacterReceived x0 x1 s) := by
  unfold execUartCharacterReceived
  repeat' (first
    | with_reducible assumption | with_reducible apply keeps_State_slowWoken | with_reducible apply keeps_State_uartReceive
    | with_reducible apply KeepsR.next)

theorem keeps_execUartBreakReceived {b : Bool} {s0 s : State} {x0} {x1} (h : Keeps b s0 s) : KeepsR b s0 (execUartBreakReceived x0 x1 s) := by
  unfold execUartBreakReceived
  repeat' (first
    | with_reducible assumption | with_reducible apply keeps_State_slowWoken | with_reducible apply keeps_State_uartBreak
    | with_reducible apply KeepsR.next)

theorem keeps_execUartWakeEdge {b : Bool} {s0 s : State} {x0} (h : Keeps b s0 s) : KeepsR b s0 (execUartWakeEdge x0 s) := by
  unfold execUartWakeEdge
  repeat' (first
    | with_reducible assumption | with_reducible apply keeps_State_modUart | with_reducible apply keeps_State_wakeOn
    | with_reducible apply KeepsR.next | (extract_lets +onlyGivenNames x) | split | (dsimp +zetaDelta only; split))

theorem keeps_execCanWakeEdge {b : Bool} {s0 s : State} {x0} (h : Keeps b s0 s) : KeepsR b s0 (execCanWakeEdge x0 s) := by
  unfold execCanWakeEdge
  repeat' (first
    | with_reducible assumption | with_reducible apply keeps_State_wakeOn | with_reducible apply keeps_State_modCan
    | with_reducible apply KeepsR.next | split)

theorem keeps_execLanternTimerExpiry {b : Bool} {s0 s : State} {x0} (h : Keeps b s0 s) : KeepsR b s0 (execLanternTimerExpiry x0 s) := by
  unfold execLanternTimerExpiry
  repeat' (first
    | with_reducible assumption | with_reducible apply keeps_State_claim | with_reducible apply keeps_State_modPwr
    | with_reducible apply keeps_State_wakeOn | with_reducible apply keeps_State_sketchDue
    | with_reducible apply KeepsR.next | (extract_lets +onlyGivenNames x) | split | exact rfl
    | (dsimp +zetaDelta only; split) | with_reducible apply Keeps.mk_)

theorem keeps_execKakelWakeActivity {b : Bool} {s0 s : State} {x0} (h : Keeps b s0 s) : KeepsR b s0 (execKakelWakeActivity x0 s) := by
  unfold execKakelWakeActivity
  repeat' (first
    | with_reducible assumption | with_reducible apply keeps_State_wakeOn | with_reducible apply KeepsR.next | split)

theorem keeps_execHportWakeEdge {b : Bool} {s0 s : State}  (h : Keeps b s0 s) : KeepsR b s0 (execHportWakeEdge s) := by
  unfold execHportWakeEdge
  repeat' (first
    | with_reducible assumption | with_reducible apply keeps_State_wakeOn | with_reducible apply keeps_State_modHport
    | with_reducible apply KeepsR.next | split)

theorem keeps_execWakePin {b : Bool} {s0 s : State} {x0} (h : Keeps b s0 s) : KeepsR b s0 (execWakePin x0 s) := by
  unfold execWakePin
  repeat' (first
    | with_reducible assumption | with_reducible apply keeps_State_modPwr | with_reducible apply keeps_State_wakeOn
    | with_reducible apply KeepsR.next | (extract_lets +onlyGivenNames x) | split)

theorem keeps_State_commitEntry {b : Bool} {s0 s : State} {x1} (h : Keeps b s0 s) : Keeps b s0 (State.commitEntry s x1) := by
  unfold State.commitEntry
  repeat' (first
    | with_reducible assumption | with_reducible apply keeps_State_modPwr | with_reducible apply keeps_State_stopPulses
    | with_reducible apply keeps_State_stopMeasurement | with_reducible apply keeps_State_abortEasel)

theorem keeps_execEntryGrant {b : Bool} {s0 s : State} {x0} (h : Keeps b s0 s) : KeepsR b s0 (execEntryGrant x0 s) := by
  unfold execEntryGrant
  repeat' (first
    | with_reducible assumption | with_reducible apply keeps_State_commitOdo
    | with_reducible apply keeps_State_sendLinkSleep | with_reducible apply keeps_State_modPwr
    | with_reducible apply keeps_State_commitEntry | with_reducible apply KeepsR.next | (extract_lets +onlyGivenNames x)
    | split | (dsimp +zetaDelta only; split))

theorem keeps_State_failEntry {b : Bool} {s0 s : State} {x1} {x2} {x3} (h : Keeps b s0 s) : Keeps b s0 (State.failEntry s x1 x2 x3) := by
  unfold State.failEntry
  repeat' (first
    | with_reducible assumption | with_reducible apply keeps_State_startPending
    | with_reducible apply keeps_State_endFailure | with_reducible apply keeps_State_modPwr
    | (extract_lets +onlyGivenNames x) | split)

theorem keeps_execEntryRefuse {b : Bool} {s0 s : State} {x0} (h : Keeps b s0 s) : KeepsR b s0 (execEntryRefuse x0 s) := by
  unfold execEntryRefuse
  repeat' (first
    | with_reducible assumption | with_reducible apply keeps_State_failEntry | with_reducible apply KeepsR.next | split)

theorem keeps_State_setAnswer {b : Bool} {s0 s : State} {x1} {x2} {x3} (h : Keeps b s0 s) : Keeps b s0 (State.setAnswer s x1 x2 x3) := by
  unfold State.setAnswer
  repeat' (first | with_reducible assumption | with_reducible apply keeps_State_modPwr)

theorem keeps_execEntryDelay {b : Bool} {s0 s : State} {x0} {x1} (h : Keeps b s0 s) : KeepsR b s0 (execEntryDelay x0 x1 s) := by
  unfold execEntryDelay
  repeat' (first
    | with_reducible assumption | with_reducible apply keeps_State_setAnswer | with_reducible apply KeepsR.next | split)

theorem keeps_execEntryDelayExpiry {b : Bool} {s0 s : State} {x0} (h : Keeps b s0 s) : KeepsR b s0 (execEntryDelayExpiry x0 s) := by
  unfold execEntryDelayExpiry
  repeat' (first
    | with_reducible assumption | with_reducible apply keeps_State_setAnswer | with_reducible apply KeepsR.next | split)

theorem keeps_execEntryNoAnswer {b : Bool} {s0 s : State} {x0} (h : Keeps b s0 s) : KeepsR b s0 (execEntryNoAnswer x0 s) := by
  unfold execEntryNoAnswer
  repeat' (first
    | with_reducible assumption | with_reducible apply keeps_State_failEntry | with_reducible apply KeepsR.next
    | (extract_lets +onlyGivenNames x) | split)

theorem keeps_execEntryDelayLimit {b : Bool} {s0 s : State}  (h : Keeps b s0 s) : KeepsR b s0 (execEntryDelayLimit s) := by
  unfold execEntryDelayLimit
  repeat' (first
    | with_reducible assumption | with_reducible apply keeps_State_failEntry | with_reducible apply KeepsR.next
    | (extract_lets +onlyGivenNames x) | split)

theorem keeps_State_silence {b : Bool} {s0 s : State}  (h : Keeps b s0 s) : Keeps b s0 (State.silence s) := by
  unfold State.silence
  repeat' (first
    | with_reducible assumption | with_reducible apply keeps_State_followLanes | with_reducible apply keeps_State_syncPorts)

theorem keeps_execEntryS0 {b : Bool} {s0 s : State}  (h : Keeps b s0 s) : KeepsR b s0 (execEntryS0 s) := by
  unfold execEntryS0
  repeat' (first
    | with_reducible assumption | with_reducible apply keeps_State_newSegment | with_reducible apply keeps_State_modPwr
    | with_reducible apply keeps_State_loseCaptures | with_reducible apply keeps_State_modChain
    | with_reducible apply keeps_State_silence | with_reducible apply KeepsR.next | (extract_lets +onlyGivenNames x)
    | split)

theorem keeps_State_completeEntry {b : Bool} {s0 s : State} {x1} (h : Keeps b s0 s) : Keeps b s0 (State.completeEntry s x1) := by
  unfold State.completeEntry
  repeat' (first
    | with_reducible assumption | with_reducible apply keeps_State_modPwr | with_reducible apply keeps_State_beginWake
    | (extract_lets +onlyGivenNames x) | split)

theorem keeps_execIsolationEnd {b : Bool} {s0 s : State}  (h : Keeps b s0 s) : KeepsR b s0 (execIsolationEnd s) := by
  unfold execIsolationEnd
  repeat' (first
    | with_reducible assumption | with_reducible apply keeps_State_failEntry
    | with_reducible apply keeps_State_completeEntry | with_reducible apply keeps_State_rlinkStart
    | with_reducible apply keeps_State_modPwr | with_reducible apply KeepsR.next | split)

theorem keeps_State_loseBank {b : Bool} {s0 s : State} {x1} (h : Keeps b s0 s) : Keeps b s0 (State.loseBank s x1) := by
  unfold State.loseBank
  repeat' (first
    | with_reducible assumption | (extract_lets +onlyGivenNames x) | split | exact rfl
    | (intro hm; simp only [Mem.wf, Bool.and_eq_true] at hm ⊢; obtain ⟨⟨⟨⟨m1, m2⟩, m3⟩, m4⟩, m5⟩ := hm; (refine ⟨⟨⟨⟨?_, ?_⟩, ?_⟩, ?_⟩, ?_⟩ <;> first | assumption | exact Bytes.wf_writeN (by assumption) | exact Bytes.wf_clearRange (by assumption) | exact rfl))
    | with_reducible apply Keeps.mkMem_ | exact id)

theorem keeps_State_canaries {b : Bool} {s0 s : State} {x1} (h : Keeps b s0 s) : Keeps b s0 (State.canaries s x1) := by
  unfold State.canaries
  repeat' (first
    | with_reducible assumption | with_reducible apply keeps_State_loseBank | with_reducible apply keeps_State_modPwr
    | with_reducible refine Keeps.foldl ?_ (fun s a h => ?_) | (extract_lets +onlyGivenNames x) | exact rfl
    | (intro hm; simp only [Mem.wf, Bool.and_eq_true] at hm ⊢; obtain ⟨⟨⟨⟨m1, m2⟩, m3⟩, m4⟩, m5⟩ := hm; (refine ⟨⟨⟨⟨?_, ?_⟩, ?_⟩, ?_⟩, ?_⟩ <;> first | assumption | exact Bytes.wf_writeN (by assumption) | exact Bytes.wf_clearRange (by assumption) | exact rfl))
    | with_reducible apply Keeps.mkMem_ | exact id)

theorem keeps_execFrontPllLock {b : Bool} {s0 s : State}  (h : Keeps b s0 s) : KeepsR b s0 (execFrontPllLock s) := by
  unfold execFrontPllLock
  repeat' (first
    | with_reducible assumption | with_reducible apply keeps_State_modPwr | with_reducible apply KeepsR.next | split)

theorem keeps_State_linkWakes {b : Bool} {s0 s : State}  (h : Keeps b s0 s) : Keeps b s0 (State.linkWakes s) := by
  unfold State.linkWakes
  repeat' (first
    | with_reducible assumption | (extract_lets +onlyGivenNames x) | exact rfl | (dsimp +zetaDelta only; split)
    | with_reducible apply Keeps.mk_)

theorem keeps_State_latchedEntries {b : Bool} {s0 s : State}  (h : Keeps b s0 s) : Keeps b s0 (State.latchedEntries s) := by
  unfold State.latchedEntries
  repeat' (first
    | with_reducible assumption | with_reducible apply keeps_State_modSeal
    | with_reducible apply keeps_State_powerFailEntry | with_reducible apply keeps_State_sealOpened
    | (extract_lets +onlyGivenNames x; have hf : (_ → _) := x; clear hf; dsimp only [x]; clear x)
    | (extract_lets +onlyGivenNames x) | split | exact rfl)

theorem keeps_State_bankConsequences {b : Bool} {s0 s : State} {x1} {x2} (h : Keeps b s0 s) : Keeps b s0 (State.bankConsequences s x1 x2) := by
  unfold State.bankConsequences
  repeat' (first
    | with_reducible assumption | with_reducible apply keeps_State_claim | with_reducible apply keeps_State_domeRecord
    | with_reducible apply keeps_State_domeReset | with_reducible apply keeps_State_drumReset
    | with_reducible refine Keeps.foldl ?_ (fun s a h => ?_) | (extract_lets +onlyGivenNames x) | split
    | (dsimp +zetaDelta only; split))

theorem keeps_State_endWake {b : Bool} {s0 s : State} {x1} (h : Keeps b s0 s) : Keeps b s0 (State.endWake s x1) := by
  unfold State.endWake
  extract_lets +onlyGivenNames w pf s1
  have h1 : Keeps b s0 s1 := keeps_State_latchedEntries h
  clear_value s1
  extract_lets +onlyGivenNames banks flags from_
  split; rename_i cause s2 e
  have h2 : Keeps b s0 s2 := Keeps.snd (keeps_State_claim h1) e
  clear e
  extract_lets +onlyGivenNames s3
  have h3 : Keeps b s0 s3 := keeps_State_domeRecord h2
  clear_value s3
  extract_lets +onlyGivenNames s4
  have h4 : Keeps b s0 s4 := keeps_State_modPwr h3
  clear_value s4
  extract_lets +onlyGivenNames s5
  have h5 : Keeps b s0 s5 := keeps_State_releaseHeld h4
  clear_value s5
  extract_lets +onlyGivenNames m6 s6
  have h6 : Keeps b s0 s6 := by
    dsimp only [s6]
    split
    · exact Keeps.mkMem_ h5 id id id id rfl rfl rfl rfl
    · exact h5
  clear_value s6
  exact keeps_State_answerRequest (keeps_State_bankConsequences (keeps_State_resumeMeasurement (keeps_State_powerDomains h6)))

theorem keeps_execHandover {b : Bool} {s0 s : State}  (h : Keeps b s0 s) : KeepsR b s0 (execHandover s) := by
  unfold execHandover
  split
  · exact .next h
  extract_lets +onlyGivenNames s1
  have h1 : Keeps b s0 s1 := keeps_State_linkWakes h
  clear_value s1
  extract_lets +onlyGivenNames s2
  have h2 : Keeps b s0 s2 := keeps_State_modPwr h1
  clear_value s2
  split
  · extract_lets +onlyGivenNames s3
    have h3 : Keeps b s0 s3 := keeps_State_modPwr h2
    clear_value s3
    split
    · exact .next (keeps_State_modBoot h3)
    · extract_lets +onlyGivenNames s4
      have h4 : Keeps b s0 s4 := Keeps.mk_ h3 rfl rfl rfl rfl
      clear_value s4
      exact .next (keeps_State_modBoot h4)
  · split
    · extract_lets +onlyGivenNames s3
      have h3 : Keeps b s0 s3 := keeps_State_releaseHeld (keeps_State_endFailure (keeps_State_latchedEntries h2))
      clear_value s3
      exact .next (keeps_State_startPending (keeps_State_resumeMeasurement (keeps_State_powerDomains h3)))
    · extract_lets +onlyGivenNames s3
      have h3 : Keeps b s0 s3 := keeps_State_endWake h2
      clear_value s3
      split
      · exact .next (keeps_State_stageOne (keeps_State_modPwr h3))
      · exact .next (keeps_State_startPending h3)

theorem keeps_State_refclkRecord {b : Bool} {s0 s : State} {x1} {x2} (h : Keeps b s0 s) : Keeps b s0 (State.refclkRecord s x1 x2) := by
  unfold State.refclkRecord
  repeat' (first
    | with_reducible assumption | with_reducible apply keeps_State_holdRecord | with_reducible apply keeps_State_domeRecord
    | split)

theorem keeps_execRefclkLost {b : Bool} {s0 s : State} {x0} (h : Keeps b s0 s) : KeepsR b s0 (execRefclkLost x0 s) := by
  unfold execRefclkLost
  repeat' (first
    | with_reducible assumption | with_reducible apply keeps_State_claim | with_reducible apply keeps_State_newSegment
    | with_reducible apply keeps_State_stopPulses | with_reducible apply keeps_State_stopMeasurement
    | with_reducible apply keeps_State_refclkRecord | with_reducible apply keeps_State_audit
    | with_reducible apply keeps_State_silence | with_reducible apply keeps_State_modPwr | with_reducible apply KeepsR.next
    | (extract_lets +onlyGivenNames x) | split)

theorem keeps_execRefclkRegained {b : Bool} {s0 s : State}  (h : Keeps b s0 s) : KeepsR b s0 (execRefclkRegained s) := by
  unfold execRefclkRegained
  repeat' (first
    | with_reducible assumption | with_reducible apply keeps_State_modPwr | with_reducible apply keeps_State_linkWakes
    | with_reducible apply keeps_State_claim | with_reducible apply keeps_State_refclkRecord
    | with_reducible apply keeps_State_releaseHeld | with_reducible apply keeps_State_audit
    | with_reducible apply keeps_State_resumeMeasurement | with_reducible apply KeepsR.next
    | (extract_lets +onlyGivenNames x) | split)

theorem Seal.abandon_auditSeq {v : Seal} : v.abandon.auditSeq = v.auditSeq := by unfold Seal.abandon; split <;> rfl

theorem Seal.abandon_counters {v : Seal} : v.abandon.counters = v.counters := by unfold Seal.abandon; split <;> rfl

theorem keeps_execPowerFailWarning {b : Bool} {s0 s : State} {x0} (h : Keeps b s0 s) : KeepsR b s0 (execPowerFailWarning x0 s) := by
  unfold execPowerFailWarning
  split
  · exact .next h
  extract_lets +onlyGivenNames s1
  have h1 : Keeps b s0 s1 := keeps_State_modPwr h
  clear_value s1
  extract_lets +onlyGivenNames low
  have hl : ∀ s, Keeps b s0 s → Keeps b s0 (low s) := fun s h => keeps_State_modPwr h
  clear_value low
  split
  · extract_lets +onlyGivenNames s2
    have h2 : Keeps b s0 s2 := keeps_State_abandonRun (keeps_State_stopPulses (keeps_State_abortEntry h1))
    clear_value s2
    extract_lets +onlyGivenNames s3
    have h3 : Keeps b s0 s3 := Keeps.ite (keeps_State_signOldest h2) h2
    clear_value s3
    extract_lets +onlyGivenNames gone s4
    have h4 : Keeps b s0 s4 := Keeps.ite (keeps_State_modSeal h3 Seal.abandon_auditSeq Seal.abandon_counters) h3
    clear_value s4
    extract_lets +onlyGivenNames s5
    have h5 : Keeps b s0 s5 := keeps_State_commitOdo (hl _ h4)
    clear_value s5
    extract_lets +onlyGivenNames s6
    have h6 : Keeps b s0 s6 := keeps_State_modSeal h5 rfl rfl
    clear_value s6
    exact .next (keeps_State_powerFailEntry h6)
  · extract_lets +onlyGivenNames s2
    have h2 : Keeps b s0 s2 := Keeps.ite (keeps_State_modPwr h1) h1
    clear_value s2
    exact .next (keeps_State_modSeal (hl _ h2) rfl rfl)

theorem keeps_execVinRestore {b : Bool} {s0 s : State}  (h : Keeps b s0 s) : KeepsR b s0 (execVinRestore s) := by
  unfold execVinRestore
  repeat' (first
    | with_reducible assumption | with_reducible apply keeps_State_modPwr | with_reducible apply keeps_State_claim
    | with_reducible apply keeps_State_modSeal | with_reducible apply keeps_State_gapRecord
    | with_reducible apply keeps_State_wakeOn | with_reducible apply KeepsR.next | (extract_lets +onlyGivenNames x) | split
    | exact rfl | (dsimp +zetaDelta only; split))

theorem keeps_execVinLoss {b : Bool} {s0 s : State}  (h : Keeps b s0 s) : KeepsR b s0 (execVinLoss s) := by
  unfold execVinLoss
  repeat' (first
    | with_reducible assumption | with_reducible apply keeps_State_modPwr | with_reducible apply KeepsR.next)

theorem keeps_execColdStart {s0 s : State} {x0} {x1} (h : Keeps false s0 s) : KeepsR false s0 (execColdStart x0 x1 s) := by
  unfold execColdStart
  repeat' (first
    | with_reducible assumption | with_reducible apply keeps_State_coldStart | with_reducible apply KeepsR.next | split)

theorem keeps_execStartupComplete {b : Bool} {s0 s : State}  (h : Keeps b s0 s) : KeepsR b s0 (execStartupComplete s) := by
  unfold execStartupComplete
  repeat' (first
    | with_reducible assumption | with_reducible apply keeps_State_modBoot | with_reducible apply keeps_State_claim
    | with_reducible apply keeps_State_domeRecord | with_reducible apply keeps_State_startCalibration
    | with_reducible apply keeps_State_enterProfile | with_reducible apply KeepsR.next | (extract_lets +onlyGivenNames x)
    | split)

theorem keeps_execEarlyDomainRetry {b : Bool} {s0 s : State}  (h : Keeps b s0 s) : KeepsR b s0 (execEarlyDomainRetry s) := by
  unfold execEarlyDomainRetry
  repeat' (first
    | with_reducible assumption | with_reducible apply keeps_State_modBoot | with_reducible apply keeps_State_rlinkStart
    | with_reducible apply keeps_State_powerDomains | with_reducible apply KeepsR.next | (extract_lets +onlyGivenNames x)
    | split)

theorem keeps_execPinReset {b : Bool} {s0 s : State}  (h : Keeps b s0 s) : KeepsR b s0 (execPinReset s) := by
  unfold execPinReset
  repeat' (first
    | with_reducible assumption | with_reducible apply keeps_State_beginWake | with_reducible apply keeps_State_modPwr
    | with_reducible apply keeps_State_stageOne | with_reducible apply KeepsR.next | split)

theorem keeps_execSealLoopClosed {b : Bool} {s0 s : State}  (h : Keeps b s0 s) : KeepsR b s0 (execSealLoopClosed s) := by
  unfold execSealLoopClosed
  repeat' (first
    | with_reducible assumption | with_reducible apply keeps_State_modPwr | with_reducible apply keeps_State_modSeal
    | with_reducible apply KeepsR.next | (extract_lets +onlyGivenNames x) | exact rfl)

theorem keeps_execSramClearComplete {b : Bool} {s0 s : State}  (h : Keeps b s0 s) : KeepsR b s0 (execSramClearComplete s) := by
  unfold execSramClearComplete
  repeat' (first
    | with_reducible assumption | with_reducible apply keeps_State_modBoot | with_reducible apply KeepsR.next
    | (extract_lets +onlyGivenNames x) | split | exact rfl
    | (intro hm; simp only [Mem.wf, Bool.and_eq_true] at hm ⊢; obtain ⟨⟨⟨⟨m1, m2⟩, m3⟩, m4⟩, m5⟩ := hm; (refine ⟨⟨⟨⟨?_, ?_⟩, ?_⟩, ?_⟩, ?_⟩ <;> first | assumption | exact Bytes.wf_writeN (by assumption) | exact Bytes.wf_clearRange (by assumption) | exact rfl))
    | with_reducible apply Keeps.mkMem_ | exact id)

theorem keeps_execDomainPowerUpComplete {b : Bool} {s0 s : State} {x0} {x1} (h : Keeps b s0 s) : KeepsR b s0 (execDomainPowerUpComplete x0 x1 s) := by
  unfold execDomainPowerUpComplete
  repeat' (first
    | with_reducible assumption | with_reducible apply keeps_State_modPwr | with_reducible apply keeps_State_syncPorts
    | with_reducible apply keeps_State_modBoot | with_reducible apply KeepsR.next | (extract_lets +onlyGivenNames x)
    | split | (dsimp +zetaDelta only; split))

theorem keeps_execClusterSelfTestComplete {b : Bool} {s0 s : State} {x0} {x1} (h : Keeps b s0 s) : KeepsR b s0 (execClusterSelfTestComplete x0 x1 s) := by
  unfold execClusterSelfTestComplete
  repeat' (first
    | with_reducible assumption | with_reducible apply keeps_State_modBoot | with_reducible apply keeps_State_failCluster
    | with_reducible apply keeps_State_claim | with_reducible apply KeepsR.next | (extract_lets +onlyGivenNames x) | split)

end Sys2Proof.Machine
end

