-- ==== Sys2Proof/Laws/KeepsHostCmd.lean ====
section
/-! SUPPORT. What the operations of Machine/HostCmd.lean keep (`Keeps`). -/

set_option Elab.async false

namespace Sys2Proof.Machine

set_option linter.all false
set_option maxRecDepth 20000

theorem keeps_State_modMem {b : Bool} {s0 s : State} {f : Mem → Mem} (h : Keeps b s0 s) (e : s.mem.wf = true → (f s.mem).wf = true) :
    Keeps b s0 (s.modMem f) := Keeps.mkMem_ h e id id id rfl rfl rfl rfl

theorem Mem.eccRead_wf {m : Mem} {e : EccMark} {pa : Nat} (h : m.wf = true) : (m.eccRead e pa).wf = true := by
  unfold Mem.eccRead
  extract_lets drum dome
  split <;> exact h

theorem keeps_State_eccFound {b : Bool} {s0 s : State} {x1} {x2} (h : Keeps b s0 s) : Keeps b s0 (State.eccFound s x1 x2) := by
  unfold State.eccFound
  extract_lets +onlyGivenNames s1
  have h1 : Keeps b s0 s1 := keeps_State_modMem h Mem.eccRead_wf
  exact Keeps.ite (keeps_State_count h1) h1

theorem keeps_bodySysNop {b : Bool} {s0 s : State} {x0} (h : Keeps b s0 s) : Keeps1 b s0 (bodySysNop x0 s) := by
  unfold bodySysNop
  repeat' (first | with_reducible assumption)

theorem keeps_execSysNop {b : Bool} {s0 s : State} {x0} (h : Keeps b s0 s) : KeepsR b s0 (execSysNop x0 s) := by
  unfold execSysNop
  repeat' (first
    | with_reducible assumption | with_reducible refine keeps_hostCommand ?_ (fun c s h => ?_)
    | with_reducible apply keeps_bodySysNop)

theorem keeps_bodySysGetIdent {b : Bool} {s0 s : State} {x0} (h : Keeps b s0 s) : Keeps1 b s0 (bodySysGetIdent x0 s) := by
  unfold bodySysGetIdent
  repeat' (first | with_reducible assumption | with_reducible apply keeps_query)

theorem keeps_execSysGetIdent {b : Bool} {s0 s : State} {x0} (h : Keeps b s0 s) : KeepsR b s0 (execSysGetIdent x0 s) := by
  unfold execSysGetIdent
  repeat' (first
    | with_reducible assumption | with_reducible refine keeps_hostCommand ?_ (fun c s h => ?_)
    | with_reducible apply keeps_bodySysGetIdent)

theorem keeps_bodySysGetStatus {b : Bool} {s0 s : State} {x0} (h : Keeps b s0 s) : Keeps1 b s0 (bodySysGetStatus x0 s) := by
  unfold bodySysGetStatus
  repeat' (first | with_reducible assumption | with_reducible apply keeps_query)

theorem keeps_execSysGetStatus {b : Bool} {s0 s : State} {x0} (h : Keeps b s0 s) : KeepsR b s0 (execSysGetStatus x0 s) := by
  unfold execSysGetStatus
  repeat' (first
    | with_reducible assumption | with_reducible refine keeps_hostCommand ?_ (fun c s h => ?_)
    | with_reducible apply keeps_bodySysGetStatus)

theorem keeps_State_planReset {b : Bool} {s0 s : State} {x1} {x2} {x3} {x4} (h : Keeps b s0 s) : Keeps b s0 (State.planReset s x1 x2 x3 x4) := by
  unfold State.planReset
  repeat' (first
    | with_reducible assumption | with_reducible apply keeps_State_finalReply | (extract_lets +onlyGivenNames x) | split
    | exact rfl | (dsimp +zetaDelta only; split) | with_reducible apply Keeps.mk_)

theorem keeps_bodySysReset {b : Bool} {s0 s : State} {x0} (h : Keeps b s0 s) : Keeps1 b s0 (bodySysReset x0 s) := by
  unfold bodySysReset
  repeat' (first
    | with_reducible assumption | with_reducible apply keeps_State_planReset | with_reducible apply Keeps.checked)

theorem keeps_execSysReset {b : Bool} {s0 s : State} {x0} (h : Keeps b s0 s) : KeepsR b s0 (execSysReset x0 s) := by
  unfold execSysReset
  repeat' (first
    | with_reducible assumption | with_reducible refine keeps_hostCommand ?_ (fun c s h => ?_)
    | with_reducible apply keeps_bodySysReset)

theorem keeps_bodySysEcho {b : Bool} {s0 s : State} {x0} (h : Keeps b s0 s) : Keeps1 b s0 (bodySysEcho x0 s) := by
  unfold bodySysEcho
  repeat' (first | with_reducible assumption)

theorem keeps_execSysEcho {b : Bool} {s0 s : State} {x0} (h : Keeps b s0 s) : KeepsR b s0 (execSysEcho x0 s) := by
  unfold execSysEcho
  repeat' (first
    | with_reducible assumption | with_reducible refine keeps_hostCommand ?_ (fun c s h => ?_)
    | with_reducible apply keeps_bodySysEcho)

theorem keeps_bodyPwrSetProfile {b : Bool} {s0 s : State} {x0} (h : Keeps b s0 s) : Keeps1 b s0 (bodyPwrSetProfile x0 s) := by
  unfold bodyPwrSetProfile
  repeat' (first
    | with_reducible assumption | with_reducible apply keeps_State_modPwr | with_reducible apply keeps_State_acceptedReply
    | with_reducible apply keeps_State_supersede | with_reducible apply keeps_State_requestProfile
    | with_reducible apply Keeps.checked | (extract_lets +onlyGivenNames x) | split | (dsimp +zetaDelta only; split))

theorem keeps_execPwrSetProfile {b : Bool} {s0 s : State} {x0} (h : Keeps b s0 s) : KeepsR b s0 (execPwrSetProfile x0 s) := by
  unfold execPwrSetProfile
  repeat' (first
    | with_reducible assumption | with_reducible refine keeps_hostCommand ?_ (fun c s h => ?_)
    | with_reducible apply keeps_bodyPwrSetProfile)

theorem keeps_bodyPwrGetState {b : Bool} {s0 s : State} {x0} (h : Keeps b s0 s) : Keeps1 b s0 (bodyPwrGetState x0 s) := by
  unfold bodyPwrGetState
  repeat' (first | with_reducible assumption | with_reducible apply keeps_query)

theorem keeps_execPwrGetState {b : Bool} {s0 s : State} {x0} (h : Keeps b s0 s) : KeepsR b s0 (execPwrGetState x0 s) := by
  unfold execPwrGetState
  repeat' (first
    | with_reducible assumption | with_reducible refine keeps_hostCommand ?_ (fun c s h => ?_)
    | with_reducible apply keeps_bodyPwrGetState)

theorem keeps_bodyPwrEnter {b : Bool} {s0 s : State} {x0} (h : Keeps b s0 s) : Keeps1 b s0 (bodyPwrEnter x0 s) := by
  unfold bodyPwrEnter
  repeat' (first
    | with_reducible assumption | with_reducible apply keeps_State_request | with_reducible apply keeps_State_acceptedReply
    | with_reducible apply Keeps.checked | (extract_lets +onlyGivenNames x) | split)

theorem keeps_execPwrEnter {b : Bool} {s0 s : State} {x0} (h : Keeps b s0 s) : KeepsR b s0 (execPwrEnter x0 s) := by
  unfold execPwrEnter
  repeat' (first
    | with_reducible assumption | with_reducible refine keeps_hostCommand ?_ (fun c s h => ?_)
    | with_reducible apply keeps_bodyPwrEnter)

theorem keeps_bodyPwrSetWake {b : Bool} {s0 s : State} {x0} (h : Keeps b s0 s) : Keeps1 b s0 (bodyPwrSetWake x0 s) := by
  unfold bodyPwrSetWake
  repeat' (first
    | with_reducible assumption | with_reducible apply keeps_State_modPwr | with_reducible apply Keeps.checked)

theorem keeps_execPwrSetWake {b : Bool} {s0 s : State} {x0} (h : Keeps b s0 s) : KeepsR b s0 (execPwrSetWake x0 s) := by
  unfold execPwrSetWake
  repeat' (first
    | with_reducible assumption | with_reducible refine keeps_hostCommand ?_ (fun c s h => ?_)
    | with_reducible apply keeps_bodyPwrSetWake)

theorem keeps_bodyPwrGetWake {b : Bool} {s0 s : State} {x0} (h : Keeps b s0 s) : Keeps1 b s0 (bodyPwrGetWake x0 s) := by
  unfold bodyPwrGetWake
  repeat' (first | with_reducible assumption | with_reducible apply Keeps.checked)

theorem keeps_execPwrGetWake {b : Bool} {s0 s : State} {x0} (h : Keeps b s0 s) : KeepsR b s0 (execPwrGetWake x0 s) := by
  unfold execPwrGetWake
  repeat' (first
    | with_reducible assumption | with_reducible refine keeps_hostCommand ?_ (fun c s h => ?_)
    | with_reducible apply keeps_bodyPwrGetWake)

theorem keeps_bodyPwrSetTimer {b : Bool} {s0 s : State} {x0} (h : Keeps b s0 s) : Keeps1 b s0 (bodyPwrSetTimer x0 s) := by
  unfold bodyPwrSetTimer
  repeat' (first
    | with_reducible assumption | with_reducible apply Keeps.checked | (extract_lets +onlyGivenNames x) | exact rfl
    | with_reducible apply Keeps.mk_)

theorem keeps_execPwrSetTimer {b : Bool} {s0 s : State} {x0} (h : Keeps b s0 s) : KeepsR b s0 (execPwrSetTimer x0 s) := by
  unfold execPwrSetTimer
  repeat' (first
    | with_reducible assumption | with_reducible refine keeps_hostCommand ?_ (fun c s h => ?_)
    | with_reducible apply keeps_bodyPwrSetTimer)

theorem keeps_bodyPwrSetVcore {b : Bool} {s0 s : State} {x0} (h : Keeps b s0 s) : Keeps1 b s0 (bodyPwrSetVcore x0 s) := by
  unfold bodyPwrSetVcore
  repeat' (first
    | with_reducible assumption | with_reducible apply keeps_State_rlinkStart
    | with_reducible apply keeps_State_acceptedReply | with_reducible apply keeps_State_modRlink
    | with_reducible apply Keeps.checked | (extract_lets +onlyGivenNames x) | split)

theorem keeps_execPwrSetVcore {b : Bool} {s0 s : State} {x0} (h : Keeps b s0 s) : KeepsR b s0 (execPwrSetVcore x0 s) := by
  unfold execPwrSetVcore
  repeat' (first
    | with_reducible assumption | with_reducible refine keeps_hostCommand ?_ (fun c s h => ?_)
    | with_reducible apply keeps_bodyPwrSetVcore)

theorem keeps_bodyPwrGetRlink {b : Bool} {s0 s : State} {x0} (h : Keeps b s0 s) : Keeps1 b s0 (bodyPwrGetRlink x0 s) := by
  unfold bodyPwrGetRlink
  repeat' (first | with_reducible assumption | with_reducible apply keeps_query)

theorem keeps_execPwrGetRlink {b : Bool} {s0 s : State} {x0} (h : Keeps b s0 s) : KeepsR b s0 (execPwrGetRlink x0 s) := by
  unfold execPwrGetRlink
  repeat' (first
    | with_reducible assumption | with_reducible refine keeps_hostCommand ?_ (fun c s h => ?_)
    | with_reducible apply keeps_bodyPwrGetRlink)

theorem keeps_bodyTimeGet {b : Bool} {s0 s : State} {x0} (h : Keeps b s0 s) : Keeps1 b s0 (bodyTimeGet x0 s) := by
  unfold bodyTimeGet
  repeat' (first | with_reducible assumption | with_reducible apply keeps_query)

theorem keeps_execTimeGet {b : Bool} {s0 s : State} {x0} (h : Keeps b s0 s) : KeepsR b s0 (execTimeGet x0 s) := by
  unfold execTimeGet
  repeat' (first
    | with_reducible assumption | with_reducible refine keeps_hostCommand ?_ (fun c s h => ?_)
    | with_reducible apply keeps_bodyTimeGet)

theorem keeps_bodyTimeGetMap {b : Bool} {s0 s : State} {x0} (h : Keeps b s0 s) : Keeps1 b s0 (bodyTimeGetMap x0 s) := by
  unfold bodyTimeGetMap
  repeat' (first | with_reducible assumption | split)

theorem keeps_execTimeGetMap {b : Bool} {s0 s : State} {x0} (h : Keeps b s0 s) : KeepsR b s0 (execTimeGetMap x0 s) := by
  unfold execTimeGetMap
  repeat' (first
    | with_reducible assumption | with_reducible refine keeps_hostCommand ?_ (fun c s h => ?_)
    | with_reducible apply keeps_bodyTimeGetMap)

theorem keeps_bodyTimeSetEvt {b : Bool} {s0 s : State} {x0} (h : Keeps b s0 s) : Keeps1 b s0 (bodyTimeSetEvt x0 s) := by
  unfold bodyTimeSetEvt
  repeat' (first
    | with_reducible assumption | with_reducible apply Keeps.checked | (extract_lets +onlyGivenNames x) | exact rfl
    | with_reducible apply Keeps.mk_)

theorem keeps_execTimeSetEvt {b : Bool} {s0 s : State} {x0} (h : Keeps b s0 s) : KeepsR b s0 (execTimeSetEvt x0 s) := by
  unfold execTimeSetEvt
  repeat' (first
    | with_reducible assumption | with_reducible refine keeps_hostCommand ?_ (fun c s h => ?_)
    | with_reducible apply keeps_bodyTimeSetEvt)

theorem keeps_bodyTimeGetEvt {b : Bool} {s0 s : State} {x0} (h : Keeps b s0 s) : Keeps1 b s0 (bodyTimeGetEvt x0 s) := by
  unfold bodyTimeGetEvt
  repeat' (first | with_reducible assumption | with_reducible apply keeps_query)

theorem keeps_execTimeGetEvt {b : Bool} {s0 s : State} {x0} (h : Keeps b s0 s) : KeepsR b s0 (execTimeGetEvt x0 s) := by
  unfold execTimeGetEvt
  repeat' (first
    | with_reducible assumption | with_reducible refine keeps_hostCommand ?_ (fun c s h => ?_)
    | with_reducible apply keeps_bodyTimeGetEvt)

theorem keeps_bodyOutSetRing {b : Bool} {s0 s : State} {x0} (h : Keeps b s0 s) : Keeps1 b s0 (bodyOutSetRing x0 s) := by
  unfold bodyOutSetRing
  repeat' (first
    | with_reducible assumption | with_reducible apply keeps_State_modRing | with_reducible apply keeps_State_forgetSent
    | with_reducible apply keeps_State_modSeal | with_reducible apply Keeps.checked | (extract_lets +onlyGivenNames x)
    | split | exact rfl)

theorem keeps_execOutSetRing {b : Bool} {s0 s : State} {x0} (h : Keeps b s0 s) : KeepsR b s0 (execOutSetRing x0 s) := by
  unfold execOutSetRing
  repeat' (first
    | with_reducible assumption | with_reducible refine keeps_hostCommand ?_ (fun c s h => ?_)
    | with_reducible apply keeps_bodyOutSetRing)

theorem keeps_bodyOutGetRing {b : Bool} {s0 s : State} {x0} (h : Keeps b s0 s) : Keeps1 b s0 (bodyOutGetRing x0 s) := by
  unfold bodyOutGetRing
  repeat' (first | with_reducible assumption | with_reducible apply Keeps.checked)

theorem keeps_execOutGetRing {b : Bool} {s0 s : State} {x0} (h : Keeps b s0 s) : KeepsR b s0 (execOutGetRing x0 s) := by
  unfold execOutGetRing
  repeat' (first
    | with_reducible assumption | with_reducible refine keeps_hostCommand ?_ (fun c s h => ?_)
    | with_reducible apply keeps_bodyOutGetRing)

theorem keeps_bodyOutSetOutput {b : Bool} {s0 s : State} {x0} (h : Keeps b s0 s) : Keeps1 b s0 (bodyOutSetOutput x0 s) := by
  unfold bodyOutSetOutput
  repeat' (first
    | with_reducible assumption | with_reducible apply Keeps.checked | (extract_lets +onlyGivenNames x) | exact rfl
    | with_reducible apply Keeps.mk_)

theorem keeps_execOutSetOutput {b : Bool} {s0 s : State} {x0} (h : Keeps b s0 s) : KeepsR b s0 (execOutSetOutput x0 s) := by
  unfold execOutSetOutput
  repeat' (first
    | with_reducible assumption | with_reducible refine keeps_hostCommand ?_ (fun c s h => ?_)
    | with_reducible apply keeps_bodyOutSetOutput)

theorem keeps_bodyOutGetOutput {b : Bool} {s0 s : State} {x0} (h : Keeps b s0 s) : Keeps1 b s0 (bodyOutGetOutput x0 s) := by
  unfold bodyOutGetOutput
  repeat' (first | with_reducible assumption | with_reducible apply keeps_query)

theorem keeps_execOutGetOutput {b : Bool} {s0 s : State} {x0} (h : Keeps b s0 s) : KeepsR b s0 (execOutGetOutput x0 s) := by
  unfold execOutGetOutput
  repeat' (first
    | with_reducible assumption | with_reducible refine keeps_hostCommand ?_ (fun c s h => ?_)
    | with_reducible apply keeps_bodyOutGetOutput)

theorem keeps_bodyOutQ15LossAdd {b : Bool} {s0 s : State} {x0} (h : Keeps b s0 s) : Keeps1 b s0 (bodyOutQ15LossAdd x0 s) := by
  unfold bodyOutQ15LossAdd
  repeat' (first
    | with_reducible assumption | with_reducible apply keeps_State_modRing | with_reducible apply Keeps.checked)

theorem keeps_execOutQ15LossAdd {b : Bool} {s0 s : State} {x0} (h : Keeps b s0 s) : KeepsR b s0 (execOutQ15LossAdd x0 s) := by
  unfold execOutQ15LossAdd
  repeat' (first
    | with_reducible assumption | with_reducible refine keeps_hostCommand ?_ (fun c s h => ?_)
    | with_reducible apply keeps_bodyOutQ15LossAdd)

theorem keeps_bodyOutQ15LossClear {b : Bool} {s0 s : State} {x0} (h : Keeps b s0 s) : Keeps1 b s0 (bodyOutQ15LossClear x0 s) := by
  unfold bodyOutQ15LossClear
  repeat' (first
    | with_reducible assumption | with_reducible apply keeps_State_modRing | with_reducible apply Keeps.checked)

theorem keeps_execOutQ15LossClear {b : Bool} {s0 s : State} {x0} (h : Keeps b s0 s) : KeepsR b s0 (execOutQ15LossClear x0 s) := by
  unfold execOutQ15LossClear
  repeat' (first
    | with_reducible assumption | with_reducible refine keeps_hostCommand ?_ (fun c s h => ?_)
    | with_reducible apply keeps_bodyOutQ15LossClear)

theorem keeps_bodyMemGetStatus {b : Bool} {s0 s : State} {x0} (h : Keeps b s0 s) : Keeps1 b s0 (bodyMemGetStatus x0 s) := by
  unfold bodyMemGetStatus
  repeat' (first | with_reducible assumption | with_reducible apply keeps_query)

theorem keeps_execMemGetStatus {b : Bool} {s0 s : State} {x0} (h : Keeps b s0 s) : KeepsR b s0 (execMemGetStatus x0 s) := by
  unfold execMemGetStatus
  repeat' (first
    | with_reducible assumption | with_reducible refine keeps_hostCommand ?_ (fun c s h => ?_)
    | with_reducible apply keeps_bodyMemGetStatus)

theorem keeps_bodyMemTestRun {b : Bool} {s0 s : State} {x0} (h : Keeps b s0 s) : Keeps1 b s0 (bodyMemTestRun x0 s) := by
  unfold bodyMemTestRun
  repeat' (first
    | with_reducible assumption | with_reducible apply keeps_State_modMem | with_reducible apply Keeps.checked
    | (extract_lets +onlyGivenNames x)
    | (intro hm; simp only [Mem.wf, Bool.and_eq_true] at hm ⊢; obtain ⟨⟨⟨⟨m1, m2⟩, m3⟩, m4⟩, m5⟩ := hm; (refine ⟨⟨⟨⟨?_, ?_⟩, ?_⟩, ?_⟩, ?_⟩ <;> first | assumption | exact Bytes.wf_writeN (by assumption) | exact Bytes.wf_clearRange (by assumption) | exact rfl)))

theorem keeps_execMemTestRun {b : Bool} {s0 s : State} {x0} (h : Keeps b s0 s) : KeepsR b s0 (execMemTestRun x0 s) := by
  unfold execMemTestRun
  repeat' (first
    | with_reducible assumption | with_reducible refine keeps_hostCommand ?_ (fun c s h => ?_)
    | with_reducible apply keeps_bodyMemTestRun)

theorem keeps_bodyMemTestStop {b : Bool} {s0 s : State} {x0} (h : Keeps b s0 s) : Keeps1 b s0 (bodyMemTestStop x0 s) := by
  unfold bodyMemTestStop
  repeat' (first
    | with_reducible assumption | with_reducible apply keeps_State_modMem | with_reducible apply keeps_State_finalReply
    | with_reducible apply Keeps.checked | (extract_lets +onlyGivenNames x) | split
    | (intro hm; simp only [Mem.wf, Bool.and_eq_true] at hm ⊢; obtain ⟨⟨⟨⟨m1, m2⟩, m3⟩, m4⟩, m5⟩ := hm; (refine ⟨⟨⟨⟨?_, ?_⟩, ?_⟩, ?_⟩, ?_⟩ <;> first | assumption | exact Bytes.wf_writeN (by assumption) | exact Bytes.wf_clearRange (by assumption) | exact rfl)))

theorem keeps_execMemTestStop {b : Bool} {s0 s : State} {x0} (h : Keeps b s0 s) : KeepsR b s0 (execMemTestStop x0 s) := by
  unfold execMemTestStop
  repeat' (first
    | with_reducible assumption | with_reducible refine keeps_hostCommand ?_ (fun c s h => ?_)
    | with_reducible apply keeps_bodyMemTestStop)

theorem keeps_execMemTestBlock {b : Bool} {s0 s : State} {x0} (h : Keeps b s0 s) : KeepsR b s0 (execMemTestBlock x0 s) := by
  unfold execMemTestBlock
  repeat' (first
    | with_reducible assumption | with_reducible apply keeps_State_eccFound | with_reducible apply keeps_State_modMem
    | with_reducible apply keeps_State_claim | with_reducible apply keeps_State_finalReply
    | with_reducible apply KeepsR.next | with_reducible refine Keeps.foldl ?_ (fun s a h => ?_)
    | (extract_lets +onlyGivenNames x) | split
    | (intro hm; simp only [Mem.wf, Bool.and_eq_true] at hm ⊢; obtain ⟨⟨⟨⟨m1, m2⟩, m3⟩, m4⟩, m5⟩ := hm; (refine ⟨⟨⟨⟨?_, ?_⟩, ?_⟩, ?_⟩, ?_⟩ <;> first | assumption | exact Bytes.wf_writeN (by assumption) | exact Bytes.wf_clearRange (by assumption) | exact rfl)))

theorem keeps_bodyMemScrub {b : Bool} {s0 s : State} {x0} (h : Keeps b s0 s) : Keeps1 b s0 (bodyMemScrub x0 s) := by
  unfold bodyMemScrub
  repeat' (first
    | with_reducible assumption | with_reducible apply keeps_State_modMem | with_reducible apply Keeps.checked
    | (extract_lets +onlyGivenNames x)
    | (intro hm; simp only [Mem.wf, Bool.and_eq_true] at hm ⊢; obtain ⟨⟨⟨⟨m1, m2⟩, m3⟩, m4⟩, m5⟩ := hm; (refine ⟨⟨⟨⟨?_, ?_⟩, ?_⟩, ?_⟩, ?_⟩ <;> first | assumption | exact Bytes.wf_writeN (by assumption) | exact Bytes.wf_clearRange (by assumption) | exact rfl)))

theorem keeps_execMemScrub {b : Bool} {s0 s : State} {x0} (h : Keeps b s0 s) : KeepsR b s0 (execMemScrub x0 s) := by
  unfold execMemScrub
  repeat' (first
    | with_reducible assumption | with_reducible refine keeps_hostCommand ?_ (fun c s h => ?_)
    | with_reducible apply keeps_bodyMemScrub)

theorem keeps_execMemScrubComplete {b : Bool} {s0 s : State} {x0} (h : Keeps b s0 s) : KeepsR b s0 (execMemScrubComplete x0 s) := by
  unfold execMemScrubComplete
  repeat' (first
    | with_reducible assumption | with_reducible apply keeps_State_eccFound | with_reducible apply keeps_State_modMem
    | with_reducible apply keeps_State_claim | with_reducible apply keeps_State_finalOption
    | with_reducible apply KeepsR.next | with_reducible refine Keeps.foldl ?_ (fun s a h => ?_)
    | (extract_lets +onlyGivenNames x) | split
    | (intro hm; simp only [Mem.wf, Bool.and_eq_true] at hm ⊢; obtain ⟨⟨⟨⟨m1, m2⟩, m3⟩, m4⟩, m5⟩ := hm; (refine ⟨⟨⟨⟨?_, ?_⟩, ?_⟩, ?_⟩, ?_⟩ <;> first | assumption | exact Bytes.wf_writeN (by assumption) | exact Bytes.wf_clearRange (by assumption) | exact rfl)))

theorem keeps_bodyMemNvRead {b : Bool} {s0 s : State} {x0} (h : Keeps b s0 s) : Keeps1 b s0 (bodyMemNvRead x0 s) := by
  unfold bodyMemNvRead
  repeat' (first | with_reducible assumption | with_reducible apply Keeps.checked)

theorem keeps_execMemNvRead {b : Bool} {s0 s : State} {x0} (h : Keeps b s0 s) : KeepsR b s0 (execMemNvRead x0 s) := by
  unfold execMemNvRead
  repeat' (first
    | with_reducible assumption | with_reducible refine keeps_hostCommand ?_ (fun c s h => ?_)
    | with_reducible apply keeps_bodyMemNvRead)

theorem keeps_bodyMemNvWrite {b : Bool} {s0 s : State} {x0} (h : Keeps b s0 s) : Keeps1 b s0 (bodyMemNvWrite x0 s) := by
  unfold bodyMemNvWrite
  repeat' (first
    | with_reducible assumption | with_reducible apply keeps_State_modMem | with_reducible apply Keeps.checked
    | (extract_lets +onlyGivenNames x)
    | (intro hm; simp only [Mem.wf, Bool.and_eq_true] at hm ⊢; obtain ⟨⟨⟨⟨m1, m2⟩, m3⟩, m4⟩, m5⟩ := hm; (refine ⟨⟨⟨⟨?_, ?_⟩, ?_⟩, ?_⟩, ?_⟩ <;> first | assumption | exact Bytes.wf_writeN (by assumption) | exact Bytes.wf_clearRange (by assumption) | exact rfl)))

theorem keeps_execMemNvWrite {b : Bool} {s0 s : State} {x0} (h : Keeps b s0 s) : KeepsR b s0 (execMemNvWrite x0 s) := by
  unfold execMemNvWrite
  repeat' (first
    | with_reducible assumption | with_reducible refine keeps_hostCommand ?_ (fun c s h => ?_)
    | with_reducible apply keeps_bodyMemNvWrite)

theorem keeps_bodyMemNvWear {b : Bool} {s0 s : State} {x0} (h : Keeps b s0 s) : Keeps1 b s0 (bodyMemNvWear x0 s) := by
  unfold bodyMemNvWear
  repeat' (first | with_reducible assumption | with_reducible apply Keeps.checked)

theorem keeps_execMemNvWear {b : Bool} {s0 s : State} {x0} (h : Keeps b s0 s) : KeepsR b s0 (execMemNvWear x0 s) := by
  unfold execMemNvWear
  repeat' (first
    | with_reducible assumption | with_reducible refine keeps_hostCommand ?_ (fun c s h => ?_)
    | with_reducible apply keeps_bodyMemNvWear)

theorem keeps_bodyMonSetCounter {b : Bool} {s0 s : State} {x0} (h : Keeps b s0 s) : Keeps1 b s0 (bodyMonSetCounter x0 s) := by
  unfold bodyMonSetCounter
  repeat' (first
    | with_reducible assumption | with_reducible apply Keeps.checked | (extract_lets +onlyGivenNames x) | exact rfl
    | with_reducible apply Keeps.mk_)

theorem keeps_execMonSetCounter {b : Bool} {s0 s : State} {x0} (h : Keeps b s0 s) : KeepsR b s0 (execMonSetCounter x0 s) := by
  unfold execMonSetCounter
  repeat' (first
    | with_reducible assumption | with_reducible refine keeps_hostCommand ?_ (fun c s h => ?_)
    | with_reducible apply keeps_bodyMonSetCounter)

theorem keeps_bodyMonGetCounters {b : Bool} {s0 s : State} {x0} (h : Keeps b s0 s) : Keeps1 b s0 (bodyMonGetCounters x0 s) := by
  unfold bodyMonGetCounters
  repeat' (first | with_reducible assumption | with_reducible apply keeps_query)

theorem keeps_execMonGetCounters {b : Bool} {s0 s : State} {x0} (h : Keeps b s0 s) : KeepsR b s0 (execMonGetCounters x0 s) := by
  unfold execMonGetCounters
  repeat' (first
    | with_reducible assumption | with_reducible refine keeps_hostCommand ?_ (fun c s h => ?_)
    | with_reducible apply keeps_bodyMonGetCounters)

theorem keeps_bodyMonGetRejects {b : Bool} {s0 s : State} {x0} (h : Keeps b s0 s) : Keeps1 b s0 (bodyMonGetRejects x0 s) := by
  unfold bodyMonGetRejects
  repeat' (first | with_reducible assumption | with_reducible apply keeps_query)

theorem keeps_execMonGetRejects {b : Bool} {s0 s : State} {x0} (h : Keeps b s0 s) : KeepsR b s0 (execMonGetRejects x0 s) := by
  unfold execMonGetRejects
  repeat' (first
    | with_reducible assumption | with_reducible refine keeps_hostCommand ?_ (fun c s h => ?_)
    | with_reducible apply keeps_bodyMonGetRejects)

theorem keeps_bodyMonGetHealth {b : Bool} {s0 s : State} {x0} (h : Keeps b s0 s) : Keeps1 b s0 (bodyMonGetHealth x0 s) := by
  unfold bodyMonGetHealth
  repeat' (first | with_reducible assumption | with_reducible apply keeps_State_draw)

theorem keeps_execMonGetHealth {b : Bool} {s0 s : State} {x0} (h : Keeps b s0 s) : KeepsR b s0 (execMonGetHealth x0 s) := by
  unfold execMonGetHealth
  repeat' (first
    | with_reducible assumption | with_reducible refine keeps_hostCommand ?_ (fun c s h => ?_)
    | with_reducible apply keeps_bodyMonGetHealth)

theorem keeps_bodyFwGetInfo {b : Bool} {s0 s : State} {x0} (h : Keeps b s0 s) : Keeps1 b s0 (bodyFwGetInfo x0 s) := by
  unfold bodyFwGetInfo
  repeat' (first | with_reducible assumption | with_reducible apply keeps_query)

theorem keeps_execFwGetInfo {b : Bool} {s0 s : State} {x0} (h : Keeps b s0 s) : KeepsR b s0 (execFwGetInfo x0 s) := by
  unfold execFwGetInfo
  repeat' (first
    | with_reducible assumption | with_reducible refine keeps_hostCommand ?_ (fun c s h => ?_)
    | with_reducible apply keeps_bodyFwGetInfo)

theorem keeps_bodyFwBegin {b : Bool} {s0 s : State} {x0} (h : Keeps b s0 s) : Keeps1 b s0 (bodyFwBegin x0 s) := by
  unfold bodyFwBegin
  repeat' (first
    | with_reducible assumption | with_reducible apply Keeps.checked | (extract_lets +onlyGivenNames x) | exact rfl
    | (intro hm; simp only [Mem.wf, Bool.and_eq_true] at hm ⊢; obtain ⟨⟨⟨⟨m1, m2⟩, m3⟩, m4⟩, m5⟩ := hm; (refine ⟨⟨⟨⟨?_, ?_⟩, ?_⟩, ?_⟩, ?_⟩ <;> first | assumption | exact Bytes.wf_writeN (by assumption) | exact Bytes.wf_clearRange (by assumption) | exact rfl))
    | with_reducible apply Keeps.mkMem_ | exact id | exact Images.wf_begun)

theorem keeps_execFwLoadBegin {b : Bool} {s0 s : State} {x0} (h : Keeps b s0 s) : KeepsR b s0 (execFwLoadBegin x0 s) := by
  unfold execFwLoadBegin
  repeat' (first
    | with_reducible assumption | with_reducible refine keeps_hostCommand ?_ (fun c s h => ?_)
    | with_reducible apply keeps_bodyFwBegin)

theorem keeps_bodyFwData {b : Bool} {s0 s : State} {x0} (h : Keeps b s0 s) : Keeps1 b s0 (bodyFwData x0 s) := by
  unfold bodyFwData
  repeat' (first
    | with_reducible assumption | with_reducible apply Keeps.checked | (extract_lets +onlyGivenNames x) | exact rfl
    | (intro hm; simp only [Mem.wf, Bool.and_eq_true] at hm ⊢; obtain ⟨⟨⟨⟨m1, m2⟩, m3⟩, m4⟩, m5⟩ := hm; (refine ⟨⟨⟨⟨?_, ?_⟩, ?_⟩, ?_⟩, ?_⟩ <;> first | assumption | exact Bytes.wf_writeN (by assumption) | exact Bytes.wf_clearRange (by assumption) | exact rfl))
    | with_reducible apply Keeps.mkMem_ | exact id | exact Images.wf_put)

theorem keeps_execFwLoadData {b : Bool} {s0 s : State} {x0} (h : Keeps b s0 s) : KeepsR b s0 (execFwLoadData x0 s) := by
  unfold execFwLoadData
  repeat' (first
    | with_reducible assumption | with_reducible refine keeps_hostCommand ?_ (fun c s h => ?_)
    | with_reducible apply keeps_bodyFwData)

theorem keeps_bodyFwCommit {b : Bool} {s0 s : State} {x0} (h : Keeps b s0 s) : Keeps1 b s0 (bodyFwCommit x0 s) := by
  unfold bodyFwCommit
  repeat' (first
    | with_reducible assumption | with_reducible apply Keeps.checked | (extract_lets +onlyGivenNames x) | exact rfl
    | (intro hm; simp only [Mem.wf, Bool.and_eq_true] at hm ⊢; obtain ⟨⟨⟨⟨m1, m2⟩, m3⟩, m4⟩, m5⟩ := hm; (refine ⟨⟨⟨⟨?_, ?_⟩, ?_⟩, ?_⟩, ?_⟩ <;> first | assumption | exact Bytes.wf_writeN (by assumption) | exact Bytes.wf_clearRange (by assumption) | exact rfl))
    | with_reducible apply Keeps.mkMem_ | exact id | exact Images.wf_check)

theorem keeps_execFwLoadCommit {b : Bool} {s0 s : State} {x0} (h : Keeps b s0 s) : KeepsR b s0 (execFwLoadCommit x0 s) := by
  unfold execFwLoadCommit
  repeat' (first
    | with_reducible assumption | with_reducible refine keeps_hostCommand ?_ (fun c s h => ?_)
    | with_reducible apply keeps_bodyFwCommit)

theorem keeps_bodyFwCancel {b : Bool} {s0 s : State} {x0} (h : Keeps b s0 s) : Keeps1 b s0 (bodyFwCancel x0 s) := by
  unfold bodyFwCancel
  repeat' (first
    | with_reducible assumption | with_reducible apply Keeps.checked | (extract_lets +onlyGivenNames x) | exact rfl
    | (intro hm; simp only [Mem.wf, Bool.and_eq_true] at hm ⊢; obtain ⟨⟨⟨⟨m1, m2⟩, m3⟩, m4⟩, m5⟩ := hm; (refine ⟨⟨⟨⟨?_, ?_⟩, ?_⟩, ?_⟩, ?_⟩ <;> first | assumption | exact Bytes.wf_writeN (by assumption) | exact Bytes.wf_clearRange (by assumption) | exact rfl))
    | with_reducible apply Keeps.mkMem_ | exact id | exact Images.wf_closed)

theorem keeps_execFwLoadCancel {b : Bool} {s0 s : State} {x0} (h : Keeps b s0 s) : KeepsR b s0 (execFwLoadCancel x0 s) := by
  unfold execFwLoadCancel
  repeat' (first
    | with_reducible assumption | with_reducible refine keeps_hostCommand ?_ (fun c s h => ?_)
    | with_reducible apply keeps_bodyFwCancel)

theorem keeps_bodyFwActivate {b : Bool} {s0 s : State} {x0} (h : Keeps b s0 s) : Keeps1 b s0 (bodyFwActivate x0 s) := by
  unfold bodyFwActivate
  repeat' (first
    | with_reducible assumption | with_reducible apply keeps_State_planReset | with_reducible apply Keeps.checked
    | (extract_lets +onlyGivenNames x) | exact rfl
    | (intro hm; simp only [Mem.wf, Bool.and_eq_true] at hm ⊢; obtain ⟨⟨⟨⟨m1, m2⟩, m3⟩, m4⟩, m5⟩ := hm; (refine ⟨⟨⟨⟨?_, ?_⟩, ?_⟩, ?_⟩, ?_⟩ <;> first | assumption | exact Bytes.wf_writeN (by assumption) | exact Bytes.wf_clearRange (by assumption) | exact rfl))
    | with_reducible apply Keeps.mkMem_ | exact id)

theorem keeps_execFwActivate {b : Bool} {s0 s : State} {x0} (h : Keeps b s0 s) : KeepsR b s0 (execFwActivate x0 s) := by
  unfold execFwActivate
  repeat' (first
    | with_reducible assumption | with_reducible refine keeps_hostCommand ?_ (fun c s h => ?_)
    | with_reducible apply keeps_bodyFwActivate)

end Sys2Proof.Machine
end

