-- ==== Sys2Proof/Laws/KeepsMmu.lean ====
section
/-! SUPPORT. What the operations of Machine/Mmu.lean keep (`Keeps`). -/

set_option Elab.async false

namespace Sys2Proof.Machine

set_option linter.all false
set_option maxRecDepth 20000

theorem keeps_State_modCore {b : Bool} {s0 s : State} {x1} {x2} (h : Keeps b s0 s) : Keeps b s0 (State.modCore s x1 x2) := by
  unfold State.modCore
  repeat' (first
    | with_reducible assumption | (extract_lets +onlyGivenNames x) | exact rfl | with_reducible apply Keeps.mk_)

theorem keeps_State_eccCheck {b : Bool} {s0 s : State} {x1} {x2} (h : Keeps b s0 s) : Keeps1 b s0 (State.eccCheck s x1 x2) := by
  unfold State.eccCheck
  repeat' (first | with_reducible assumption | with_reducible apply keeps_State_eccFound | split)

theorem keeps_State_fetchTrap {b : Bool} {s0 s : State} {x1} {x2} (h : Keeps b s0 s) : Keeps1 b s0 (State.fetchTrap s x1 x2) := by
  unfold State.fetchTrap
  repeat' (first
    | with_reducible assumption | with_reducible apply keeps_State_eccCheck | (extract_lets +onlyGivenNames x) | split)

theorem keeps_State_loadPlace {b : Bool} {s0 s : State} {x1} {x2} {x3} (h : Keeps b s0 s) : Keeps1 b s0 (State.loadPlace s x1 x2 x3) := by
  unfold State.loadPlace
  repeat' (first
    | with_reducible assumption | with_reducible apply keeps_State_eccCheck
    | (refine Keeps.fst ?_ (by with_reducible assumption)) | split)

theorem keeps_State_physRead {b : Bool} {s0 s : State} {x1} {x2} (h : Keeps b s0 s) : Keeps1 b s0 (State.physRead s x1 x2) := by
  unfold State.physRead
  repeat' (first | with_reducible assumption | with_reducible apply keeps_State_loadPlace | split)

theorem keeps_State_tableWord {b : Bool} {s0 s : State} {x1} {x2} (h : Keeps b s0 s) : Keeps1 b s0 (State.tableWord s x1 x2) := by
  unfold State.tableWord
  repeat' (first
    | with_reducible assumption | with_reducible apply keeps_State_physRead
    | (refine Keeps.fst ?_ (by with_reducible assumption)) | split)

theorem keeps_State_walk {b : Bool} {s0 s : State} {x1} {x2} (h : Keeps b s0 s) : Keeps1 b s0 (State.walk s x1 x2) := by
  unfold State.walk
  repeat' (first
    | with_reducible assumption | with_reducible apply keeps_State_tableWord | (extract_lets +onlyGivenNames x)
    | (refine Keeps.fst ?_ (by with_reducible assumption)) | split)

theorem keeps_State_modMmu {b : Bool} {s0 s : State} {x1} {x2} (h : Keeps b s0 s) : Keeps b s0 (State.modMmu s x1 x2) := by
  unfold State.modMmu
  repeat' (first
    | with_reducible assumption | (extract_lets +onlyGivenNames x) | exact rfl | with_reducible apply Keeps.mk_)

theorem keeps_State_tlbInsert {b : Bool} {s0 s : State} {x1} {x2} (h : Keeps b s0 s) : Keeps b s0 (State.tlbInsert s x1 x2) := by
  unfold State.tlbInsert
  repeat' (first
    | with_reducible assumption | with_reducible apply keeps_State_modMmu | with_reducible apply keeps_State_draw
    | (extract_lets +onlyGivenNames x) | split)

theorem keeps_State_translate {b : Bool} {s0 s : State} {x1} {x2} {x3} {x4} (h : Keeps b s0 s) : Keeps1 b s0 (State.translate s x1 x2 x3 x4) := by
  unfold State.translate
  repeat' (first
    | with_reducible assumption | with_reducible apply keeps_State_walk | with_reducible apply keeps_State_count
    | with_reducible apply keeps_State_tlbInsert | (extract_lets +onlyGivenNames x)
    | (refine Keeps.fst ?_ (by with_reducible assumption)) | split)

theorem keeps_State_corePhys {b : Bool} {s0 s : State} {x1} {x2} {x3} (h : Keeps b s0 s) : Keeps1 b s0 (State.corePhys s x1 x2 x3) := by
  unfold State.corePhys
  repeat' (first
    | with_reducible assumption | with_reducible apply keeps_State_translate | (extract_lets +onlyGivenNames x)
    | (refine Keeps.fst ?_ (by with_reducible assumption)) | split)

theorem keeps_State_coreLoad {b : Bool} {s0 s : State} {x1} {x2} {x3} (h : Keeps b s0 s) : Keeps1 b s0 (State.coreLoad s x1 x2 x3) := by
  unfold State.coreLoad
  repeat' (first
    | with_reducible assumption | with_reducible apply keeps_State_loadPlace | with_reducible apply keeps_State_corePhys
    | with_reducible apply keeps_State_physRead
    | (extract_lets +onlyGivenNames x; have hf : (_ → _) := x; clear hf; dsimp only [x]; clear x)
    | (extract_lets +onlyGivenNames x) | (refine Keeps.fst ?_ (by with_reducible assumption)) | split)

theorem State.placeBytes_wf {s : State} {m : Nat} (hm : s.mem.wf = true) : Bytes.wf (s.placeBytes m) = true := by
  simp only [Mem.wf, Bool.and_eq_true] at hm
  obtain ⟨⟨⟨⟨m1, m2⟩, m3⟩, m4⟩, m5⟩ := hm
  unfold State.placeBytes
  repeat' split
  all_goals assumption

theorem keeps_State_setPlaceBytes {b : Bool} {s0 s : State} {x1} {x2} (h : Keeps b s0 s)
    (hx : s.mem.wf = true → Bytes.wf x2 = true) : Keeps b s0 (State.setPlaceBytes s x1 x2) := by
  unfold State.setPlaceBytes
  refine keeps_State_modMem h fun hm => ?_
  have hb := hx hm
  simp only [Mem.wf, Bool.and_eq_true] at hm
  obtain ⟨⟨⟨⟨m1, m2⟩, m3⟩, m4⟩, m5⟩ := hm
  repeat' split
  all_goals simp [Mem.wf, *]

theorem keeps_State_storePlace {b : Bool} {s0 s : State} {x1} {x2} {x3} (h : Keeps b s0 s) : Keeps1 b s0 (State.storePlace s x1 x2 x3) := by
  unfold State.storePlace
  repeat' (first
    | with_reducible assumption | with_reducible apply keeps_State_modMem | with_reducible apply keeps_State_eccCheck
    | with_reducible apply keeps_State_setPlaceBytes | with_reducible apply keeps_State_count
    | (extract_lets +onlyGivenNames x) | (refine Keeps.fst ?_ (by with_reducible assumption)) | split
    | exact fun hm => Bytes.wf_writeN (State.placeBytes_wf hm)
    | (intro hm; simp only [Mem.wf, Bool.and_eq_true] at hm ⊢; obtain ⟨⟨⟨⟨m1, m2⟩, m3⟩, m4⟩, m5⟩ := hm; (refine ⟨⟨⟨⟨?_, ?_⟩, ?_⟩, ?_⟩, ?_⟩ <;> first | assumption | exact Bytes.wf_writeN (by assumption) | exact Bytes.wf_clearRange (by assumption) | exact rfl))
    | (dsimp +zetaDelta only; split))

theorem keeps_State_physWrite {b : Bool} {s0 s : State} {x1} {x2} (h : Keeps b s0 s) : Keeps1 b s0 (State.physWrite s x1 x2) := by
  unfold State.physWrite
  repeat' (first | with_reducible assumption | with_reducible apply keeps_State_storePlace | split)

theorem keeps_State_coreStore {b : Bool} {s0 s : State} {x1} {x2} {x3} {x4} (h : Keeps b s0 s) : Keeps1 b s0 (State.coreStore s x1 x2 x3 x4) := by
  unfold State.coreStore
  repeat' (first
    | with_reducible assumption | with_reducible apply keeps_State_storePlace | with_reducible apply keeps_State_corePhys
    | with_reducible apply keeps_State_physWrite
    | (extract_lets +onlyGivenNames x; have hf : (_ → _) := x; clear hf; dsimp only [x]; clear x)
    | (extract_lets +onlyGivenNames x) | (refine Keeps.fst ?_ (by with_reducible assumption)) | split)

end Sys2Proof.Machine
end

