-- ==== Sys2Proof/Laws/KeepsIoRegs.lean ====
section
/-! SUPPORT. What the operations of Machine/IoRegs.lean keep (`Keeps`). -/

set_option Elab.async false

namespace Sys2Proof.Machine

set_option linter.all false
set_option maxRecDepth 20000

theorem KeepsO.ite {α : Type} {b : Bool} {s0 : State} {c : Prop} [Decidable c] {x y : Option (State × α)} (h : KeepsO b s0 x)
    (k : KeepsO b s0 y) : KeepsO b s0 (if c then x else y) := by
  split
  · exact h
  · exact k

theorem KeepsW.ite {ε : Type} {b : Bool} {s0 : State} {c : Prop} [Decidable c] {x y : Except ε State} (h : KeepsW b s0 x)
    (k : KeepsW b s0 y) : KeepsW b s0 (if c then x else y) := by
  split
  · exact h
  · exact k

theorem keeps_State_readAon {b : Bool} {s0 s : State} {x1} (h : Keeps b s0 s) : KeepsO b s0 (State.readAon s x1) := by
  unfold State.readAon
  repeat' (first
    | with_reducible assumption | with_reducible apply KeepsO.some | with_reducible apply KeepsO.none
    | (extract_lets +onlyGivenNames x) | with_reducible apply KeepsO.ite | exact rfl | with_reducible apply Keeps.mk_)

theorem keeps_State_readPwr {b : Bool} {s0 s : State} {x1} (h : Keeps b s0 s) : KeepsO b s0 (State.readPwr s x1) := by
  unfold State.readPwr
  repeat' (first
    | with_reducible assumption | with_reducible apply KeepsO.some | with_reducible apply KeepsO.none
    | (extract_lets +onlyGivenNames x) | with_reducible apply KeepsO.ite)

theorem keeps_State_readTim {b : Bool} {s0 s : State} {x1} (h : Keeps b s0 s) : KeepsO b s0 (State.readTim s x1) := by
  unfold State.readTim
  repeat' (first
    | with_reducible assumption | with_reducible apply KeepsO.some | with_reducible apply KeepsO.none
    | (extract_lets +onlyGivenNames x) | with_reducible apply KeepsO.ite)

theorem keeps_State_readMbx {b : Bool} {s0 s : State} {x1} (h : Keeps b s0 s) : KeepsO b s0 (State.readMbx s x1) := by
  unfold State.readMbx
  repeat' (first
    | with_reducible assumption | with_reducible apply KeepsO.some | with_reducible apply KeepsO.none
    | (extract_lets +onlyGivenNames x) | with_reducible apply KeepsO.ite | exact rfl | with_reducible apply Keeps.mk_)

theorem keeps_State_readRing {b : Bool} {s0 s : State} {x1} (h : Keeps b s0 s) : KeepsO b s0 (State.readRing s x1) := by
  unfold State.readRing
  repeat' (first
    | with_reducible assumption | with_reducible apply keeps_State_modRing | with_reducible apply KeepsO.some
    | with_reducible apply KeepsO.none | (extract_lets +onlyGivenNames x) | with_reducible apply KeepsO.ite | exact rfl
    | with_reducible apply Keeps.mk_)

theorem keeps_State_readLink {b : Bool} {s0 s : State} {x1} (h : Keeps b s0 s) : KeepsO b s0 (State.readLink s x1) := by
  unfold State.readLink
  repeat' (first
    | with_reducible assumption | with_reducible apply KeepsO.some | with_reducible apply KeepsO.none
    | (extract_lets +onlyGivenNames x) | with_reducible apply KeepsO.ite)

theorem keeps_State_readDma {b : Bool} {s0 s : State} {x1} (h : Keeps b s0 s) : KeepsO b s0 (State.readDma s x1) := by
  unfold State.readDma
  repeat' (first
    | with_reducible assumption | with_reducible apply KeepsO.some | with_reducible apply KeepsO.none
    | (extract_lets +onlyGivenNames x) | with_reducible apply KeepsO.ite)

theorem keeps_State_readMmu {b : Bool} {s0 s : State} {x1} (h : Keeps b s0 s) : KeepsO b s0 (State.readMmu s x1) := by
  unfold State.readMmu
  repeat' (first
    | with_reducible assumption | with_reducible apply KeepsO.some | with_reducible apply KeepsO.none
    | (extract_lets +onlyGivenNames x) | with_reducible apply KeepsO.ite)

theorem keeps_State_readMem {b : Bool} {s0 s : State} {x1} (h : Keeps b s0 s) : KeepsO b s0 (State.readMem s x1) := by
  unfold State.readMem
  repeat' (first
    | with_reducible assumption | with_reducible apply KeepsO.some | with_reducible apply KeepsO.none
    | (extract_lets +onlyGivenNames x) | with_reducible apply KeepsO.ite)

theorem keeps_State_readUart {b : Bool} {s0 s : State} {x1} (h : Keeps b s0 s) : KeepsO b s0 (State.readUart s x1) := by
  unfold State.readUart
  repeat' (first
    | with_reducible assumption | with_reducible apply keeps_State_modUart | with_reducible apply KeepsO.some
    | with_reducible apply KeepsO.none | (extract_lets +onlyGivenNames x) | with_reducible apply KeepsO.ite | split)

theorem keeps_State_readCan {b : Bool} {s0 s : State} {x1} (h : Keeps b s0 s) : KeepsO b s0 (State.readCan s x1) := by
  unfold State.readCan
  repeat' (first
    | with_reducible assumption | with_reducible apply KeepsO.some | with_reducible apply KeepsO.none
    | (extract_lets +onlyGivenNames x) | with_reducible apply KeepsO.ite)

theorem keeps_State_readEvt {b : Bool} {s0 s : State} {x1} (h : Keeps b s0 s) : KeepsO b s0 (State.readEvt s x1) := by
  unfold State.readEvt
  repeat' (first
    | with_reducible assumption | with_reducible apply KeepsO.some | with_reducible apply KeepsO.none
    | (extract_lets +onlyGivenNames x) | with_reducible apply KeepsO.ite | exact rfl | with_reducible apply Keeps.mk_)

theorem keeps_State_readPmon {b : Bool} {s0 s : State} {x1} (h : Keeps b s0 s) : KeepsO b s0 (State.readPmon s x1) := by
  unfold State.readPmon
  repeat' (first
    | with_reducible assumption | with_reducible apply KeepsO.some | with_reducible apply KeepsO.none
    | (extract_lets +onlyGivenNames x) | with_reducible apply KeepsO.ite | exact rfl | with_reducible apply Keeps.mk_)

theorem keeps_State_claimSource {b : Bool} {s0 s : State} {x1} (h : Keeps b s0 s) : Keeps1 b s0 (State.claimSource s x1) := by
  unfold State.claimSource
  repeat' (first
    | with_reducible assumption | (extract_lets +onlyGivenNames x) | split | exact rfl | with_reducible apply Keeps.mk_)

theorem keeps_State_readIntc {b : Bool} {s0 s : State} {x1} (h : Keeps b s0 s) : KeepsO b s0 (State.readIntc s x1) := by
  unfold State.readIntc
  repeat' (first
    | with_reducible assumption | with_reducible apply keeps_State_claimSource | with_reducible apply KeepsO.some
    | with_reducible apply KeepsO.none | (extract_lets +onlyGivenNames x) | with_reducible apply KeepsO.ite)

theorem keeps_State_readRlink {b : Bool} {s0 s : State} {x1} (h : Keeps b s0 s) : KeepsO b s0 (State.readRlink s x1) := by
  unfold State.readRlink
  repeat' (first
    | with_reducible assumption | with_reducible apply KeepsO.some | with_reducible apply KeepsO.none
    | (extract_lets +onlyGivenNames x) | with_reducible apply KeepsO.ite)

theorem keeps_State_readBlock {b : Bool} {s0 s : State} {x1} (h : Keeps b s0 s) : KeepsO b s0 (State.readBlock s x1) := by
  unfold State.readBlock
  repeat' (first
    | with_reducible assumption | with_reducible apply keeps_State_readAon | with_reducible apply keeps_State_readPwr
    | with_reducible apply keeps_State_readTim | with_reducible apply keeps_State_readMbx
    | with_reducible apply keeps_State_readRing | with_reducible apply keeps_State_readLink
    | with_reducible apply keeps_State_readDma | with_reducible apply keeps_State_readMmu
    | with_reducible apply keeps_State_readMem | with_reducible apply keeps_State_readUart
    | with_reducible apply keeps_State_readCan | with_reducible apply keeps_State_readEvt
    | with_reducible apply keeps_State_readPmon | with_reducible apply keeps_State_readIntc
    | with_reducible apply keeps_State_readRlink | (extract_lets +onlyGivenNames x) | with_reducible apply KeepsO.ite)

theorem keeps_State_ioRead {b : Bool} {s0 s : State} {x1} (h : Keeps b s0 s) : Keeps1 b s0 (State.ioRead s x1) := by
  unfold State.ioRead
  repeat' (first
    | with_reducible assumption | with_reducible apply keeps_State_readBlock
    | (refine Keeps.opt ?_ (by with_reducible assumption)) | split)

theorem keeps_State_ignore {b : Bool} {s0 s : State}  (h : Keeps b s0 s) : KeepsW b s0 (State.ignore s) := by
  unfold State.ignore
  repeat' (first | with_reducible assumption | with_reducible apply KeepsW.ok)

theorem keeps_State_writeAon {b : Bool} {s0 s : State} {x1} {x2} (h : Keeps b s0 s) : KeepsW b s0 (State.writeAon s x1 x2) := by
  unfold State.writeAon
  repeat' (first
    | with_reducible assumption | with_reducible apply keeps_State_modPwr | with_reducible apply keeps_State_ignore
    | with_reducible apply KeepsW.ok | with_reducible apply KeepsW.error
    | (extract_lets +onlyGivenNames x; have hf : (_ → _) := x; clear hf; dsimp only [x]; clear x)
    | (extract_lets +onlyGivenNames x) | with_reducible apply KeepsW.ite | exact rfl | with_reducible apply Keeps.mk_)

theorem keeps_State_writePwr {b : Bool} {s0 s : State} {x1} {x2} (h : Keeps b s0 s) : KeepsW b s0 (State.writePwr s x1 x2) := by
  unfold State.writePwr
  repeat' (first
    | with_reducible assumption | with_reducible apply keeps_State_request | with_reducible apply keeps_State_modPwr
    | with_reducible apply keeps_State_ignore | with_reducible apply KeepsW.ok | with_reducible apply KeepsW.error
    | (extract_lets +onlyGivenNames x) | with_reducible apply KeepsW.ite | split)

theorem keeps_State_writeTim {b : Bool} {s0 s : State} {x1} {x2} (h : Keeps b s0 s) : KeepsW b s0 (State.writeTim s x1 x2) := by
  unfold State.writeTim
  repeat' (first
    | with_reducible assumption | with_reducible apply KeepsW.ok | with_reducible apply KeepsW.error
    | (extract_lets +onlyGivenNames x; have hf : (_ → _) := x; clear hf; dsimp only [x]; clear x)
    | (extract_lets +onlyGivenNames x) | with_reducible apply KeepsW.ite | exact rfl | with_reducible apply Keeps.mk_)

theorem keeps_State_writeMbx {b : Bool} {s0 s : State} {x1} {x2} {x3} (h : Keeps b s0 s) : KeepsW b s0 (State.writeMbx s x1 x2 x3) := by
  unfold State.writeMbx
  repeat' (first
    | with_reducible assumption | with_reducible apply keeps_State_ignore | with_reducible apply KeepsW.ok
    | with_reducible apply KeepsW.error | (extract_lets +onlyGivenNames x) | with_reducible apply KeepsW.ite | split
    | exact rfl | with_reducible apply Keeps.mk_)

theorem keeps_State_writeRingCfg {b : Bool} {s0 s : State} {x1} {x2} (h : Keeps b s0 s) : KeepsW b s0 (State.writeRingCfg s x1 x2) := by
  unfold State.writeRingCfg
  repeat' (first
    | with_reducible assumption | with_reducible apply keeps_State_modRing | with_reducible apply keeps_State_forgetSent
    | with_reducible apply KeepsW.ok | with_reducible apply KeepsW.error | (extract_lets +onlyGivenNames x)
    | with_reducible apply KeepsW.ite | split)

theorem keeps_State_writeProd {b : Bool} {s0 s : State} {x1} {x2} (h : Keeps b s0 s) : KeepsW b s0 (State.writeProd s x1 x2) := by
  unfold State.writeProd
  repeat' (first
    | with_reducible assumption | with_reducible apply keeps_State_modRing | with_reducible apply keeps_State_claim
    | with_reducible apply KeepsW.ok | with_reducible apply KeepsW.error | (extract_lets +onlyGivenNames x)
    | with_reducible apply KeepsW.ite)

theorem keeps_State_writeCons {b : Bool} {s0 s : State} {x1} {x2} (h : Keeps b s0 s) : KeepsW b s0 (State.writeCons s x1 x2) := by
  unfold State.writeCons
  repeat' (first
    | with_reducible assumption | with_reducible apply keeps_State_modRing | with_reducible apply KeepsW.ok
    | with_reducible apply KeepsW.error | (extract_lets +onlyGivenNames x) | with_reducible apply KeepsW.ite)

theorem keeps_State_writeRing {b : Bool} {s0 s : State} {x1} {x2} (h : Keeps b s0 s) : KeepsW b s0 (State.writeRing s x1 x2) := by
  unfold State.writeRing
  repeat' (first
    | with_reducible assumption | with_reducible apply keeps_State_modRing | with_reducible apply keeps_State_writeRingCfg
    | with_reducible apply keeps_State_writeProd | with_reducible apply keeps_State_writeCons
    | with_reducible apply keeps_State_ignore | with_reducible apply KeepsW.ok | with_reducible apply KeepsW.error
    | (extract_lets +onlyGivenNames x) | with_reducible apply KeepsW.ite | exact rfl | with_reducible apply Keeps.mk_)

theorem keeps_State_writeLink {b : Bool} {s0 s : State} {x1} {x2} (h : Keeps b s0 s) : KeepsW b s0 (State.writeLink s x1 x2) := by
  unfold State.writeLink
  repeat' (first
    | with_reducible assumption | with_reducible apply keeps_State_modHport | with_reducible apply keeps_State_modChain
    | with_reducible apply keeps_State_ignore | with_reducible apply KeepsW.ok | with_reducible apply KeepsW.error
    | (extract_lets +onlyGivenNames x) | with_reducible apply KeepsW.ite)

theorem keeps_State_modDma {b : Bool} {s0 s : State} {x1} {x2} (h : Keeps b s0 s) : Keeps b s0 (State.modDma s x1 x2) := by
  unfold State.modDma
  repeat' (first
    | with_reducible assumption | (extract_lets +onlyGivenNames x) | exact rfl | with_reducible apply Keeps.mk_)

theorem keeps_State_dmaFault {b : Bool} {s0 s : State} {x1} {x2} {x3} {x4} (h : Keeps b s0 s) : Keeps b s0 (State.dmaFault s x1 x2 x3 x4) := by
  unfold State.dmaFault
  repeat' (first
    | with_reducible assumption | with_reducible apply keeps_State_count | with_reducible apply keeps_State_modDma)

theorem keeps_State_dmaPhys {b : Bool} {s0 s : State} {x1} {x2} {x3} (h : Keeps b s0 s) : Keeps1 b s0 (State.dmaPhys s x1 x2 x3) := by
  unfold State.dmaPhys
  repeat' (first
    | with_reducible assumption | with_reducible apply keeps_State_translate | (extract_lets +onlyGivenNames x)
    | (refine Keeps.fst ?_ (by with_reducible assumption)) | split | (dsimp +zetaDelta only; split))

theorem keeps_State_dmaRead {b : Bool} {s0 s : State} {x1} {x2} {x3} (h : Keeps b s0 s) : Keeps1 b s0 (State.dmaRead s x1 x2 x3) := by
  unfold State.dmaRead
  repeat' (first
    | with_reducible assumption | with_reducible apply keeps_State_dmaPhys | with_reducible apply keeps_State_physRead
    | (extract_lets +onlyGivenNames x) | (refine Keeps.fst ?_ (by with_reducible assumption)) | split)

theorem keeps_State_dmaBlock {b : Bool} {s0 : State} {n} : ∀ {x3 : Nat} {va : Nat} {s : State}, Keeps b s0 s →
    Keeps1 b s0 (State.dmaBlock s n va x3)
  | 0, _, _, h => h
  | k + 1, va, s, h => by
    unfold State.dmaBlock
    split
    · rename_i e; exact Keeps.fst (keeps_State_dmaRead h) e
    · rename_i s1 v e
      have h1 : Keeps b s0 s1 := Keeps.fst (keeps_State_dmaRead h) e
      split
      · rename_i e; exact Keeps.fst (keeps_State_dmaBlock h1) e
      · rename_i e; exact Keeps.fst (keeps_State_dmaBlock h1) e

theorem keeps_State_dmaLoad {b : Bool} {s0 s : State} {x1} {x2} (h : Keeps b s0 s) : Keeps b s0 (State.dmaLoad s x1 x2) := by
  unfold State.dmaLoad
  repeat' (first
    | with_reducible assumption | with_reducible apply keeps_State_modDma | with_reducible apply keeps_State_dmaFault
    | with_reducible apply keeps_State_dmaBlock | (extract_lets +onlyGivenNames x)
    | (refine Keeps.fst ?_ (by with_reducible assumption)) | split)

theorem keeps_State_dmaResume {b : Bool} {s0 s : State} {x1} (h : Keeps b s0 s) : Keeps b s0 (State.dmaResume s x1) := by
  unfold State.dmaResume
  repeat' (first
    | with_reducible assumption | with_reducible apply keeps_State_dmaLoad | with_reducible apply keeps_State_modDma
    | (extract_lets +onlyGivenNames x) | split)

theorem keeps_State_dmaAbort {b : Bool} {s0 s : State} {x1} (h : Keeps b s0 s) : Keeps b s0 (State.dmaAbort s x1) := by
  unfold State.dmaAbort
  repeat' (first | with_reducible assumption | with_reducible apply keeps_State_modDma | split)

theorem keeps_State_writeDmaCtl {b : Bool} {s0 s : State} {x1} {x2} {x3} (h : Keeps b s0 s) : KeepsW b s0 (State.writeDmaCtl s x1 x2 x3) := by
  unfold State.writeDmaCtl
  repeat' (first
    | with_reducible assumption | with_reducible apply keeps_State_modDma | with_reducible apply keeps_State_dmaLoad
    | with_reducible apply keeps_State_dmaResume | with_reducible apply keeps_State_dmaAbort
    | with_reducible apply KeepsW.ok | with_reducible apply KeepsW.error | (extract_lets +onlyGivenNames x)
    | with_reducible apply KeepsW.ite | split | (dsimp +zetaDelta only; split))

theorem keeps_State_writeDma {b : Bool} {s0 s : State} {x1} {x2} {x3} (h : Keeps b s0 s) : KeepsW b s0 (State.writeDma s x1 x2 x3) := by
  unfold State.writeDma
  repeat' (first
    | with_reducible assumption | with_reducible apply keeps_State_writeDmaCtl | with_reducible apply keeps_State_modDma
    | with_reducible apply keeps_State_ignore | with_reducible apply KeepsW.ok | with_reducible apply KeepsW.error
    | (extract_lets +onlyGivenNames x) | with_reducible apply KeepsW.ite)

theorem keeps_State_writeMmu {b : Bool} {s0 s : State} {x1} {x2} (h : Keeps b s0 s) : KeepsW b s0 (State.writeMmu s x1 x2) := by
  unfold State.writeMmu
  repeat' (first
    | with_reducible assumption | with_reducible apply keeps_State_modMmu | with_reducible apply KeepsW.ok
    | with_reducible apply KeepsW.error
    | (extract_lets +onlyGivenNames x; have hf : (_ → _) := x; clear hf; dsimp only [x]; clear x)
    | (extract_lets +onlyGivenNames x) | with_reducible apply KeepsW.ite | exact rfl | with_reducible apply Keeps.mk_)

theorem keeps_State_writeMem {b : Bool} {s0 s : State} {x1} {x2} (h : Keeps b s0 s) : KeepsW b s0 (State.writeMem s x1 x2) := by
  unfold State.writeMem
  repeat' (first
    | with_reducible assumption | with_reducible apply keeps_State_modMem | with_reducible apply keeps_State_ignore
    | with_reducible apply KeepsW.ok | with_reducible apply KeepsW.error | (extract_lets +onlyGivenNames x)
    | with_reducible apply KeepsW.ite
    | (intro hm; simp only [Mem.wf, Bool.and_eq_true] at hm ⊢; obtain ⟨⟨⟨⟨m1, m2⟩, m3⟩, m4⟩, m5⟩ := hm; (refine ⟨⟨⟨⟨?_, ?_⟩, ?_⟩, ?_⟩, ?_⟩ <;> first | assumption | exact Bytes.wf_writeN (by assumption) | exact Bytes.wf_clearRange (by assumption) | exact rfl)))

theorem keeps_State_writeUart {b : Bool} {s0 s : State} {x1} {x2} (h : Keeps b s0 s) : KeepsW b s0 (State.writeUart s x1 x2) := by
  unfold State.writeUart
  repeat' (first
    | with_reducible assumption | with_reducible apply keeps_State_modUart | with_reducible apply keeps_State_uartEnables
    | with_reducible apply keeps_State_uartStart | with_reducible apply keeps_State_ignore
    | with_reducible apply keeps_State_requestBreak | with_reducible apply KeepsW.ok | with_reducible apply KeepsW.error
    | (extract_lets +onlyGivenNames x) | with_reducible apply KeepsW.ite | split)

theorem keeps_State_writeCanCfg {b : Bool} {s0 s : State} {x1} {x2} (h : Keeps b s0 s) : KeepsW b s0 (State.writeCanCfg s x1 x2) := by
  unfold State.writeCanCfg
  repeat' (first
    | with_reducible assumption | with_reducible apply keeps_State_modCan | with_reducible apply KeepsW.ok
    | with_reducible apply KeepsW.error | (extract_lets +onlyGivenNames x) | with_reducible apply KeepsW.ite)

theorem keeps_State_writeCan {b : Bool} {s0 s : State} {x1} {x2} (h : Keeps b s0 s) : KeepsW b s0 (State.writeCan s x1 x2) := by
  unfold State.writeCan
  repeat' (first
    | with_reducible assumption | with_reducible apply keeps_State_modCan | with_reducible apply keeps_State_writeCanCfg
    | with_reducible apply keeps_State_ignore | with_reducible apply KeepsW.ok | with_reducible apply KeepsW.error
    | (extract_lets +onlyGivenNames x; have hf : (_ → _) := x; clear hf; dsimp only [x]; clear x)
    | (extract_lets +onlyGivenNames x) | with_reducible apply KeepsW.ite)

theorem keeps_State_writeEvt {b : Bool} {s0 s : State} {x1} {x2} (h : Keeps b s0 s) : KeepsW b s0 (State.writeEvt s x1 x2) := by
  unfold State.writeEvt
  repeat' (first
    | with_reducible assumption | with_reducible apply keeps_State_ignore | with_reducible apply KeepsW.ok
    | with_reducible apply KeepsW.error | (extract_lets +onlyGivenNames x) | with_reducible apply KeepsW.ite | exact rfl
    | with_reducible apply Keeps.mk_)

theorem keeps_State_writePmon {b : Bool} {s0 s : State} {x1} {x2} (h : Keeps b s0 s) : KeepsW b s0 (State.writePmon s x1 x2) := by
  unfold State.writePmon
  repeat' (first
    | with_reducible assumption | with_reducible apply keeps_State_ignore | with_reducible apply KeepsW.ok
    | with_reducible apply KeepsW.error
    | (extract_lets +onlyGivenNames x; have hf : (_ → _) := x; clear hf; dsimp only [x]; clear x)
    | (extract_lets +onlyGivenNames x) | with_reducible apply KeepsW.ite | exact rfl | with_reducible apply Keeps.mk_)

theorem keeps_State_writeIntc {b : Bool} {s0 s : State} {x1} {x2} (h : Keeps b s0 s) : KeepsW b s0 (State.writeIntc s x1 x2) := by
  unfold State.writeIntc
  repeat' (first
    | with_reducible assumption | with_reducible apply keeps_State_ignore | with_reducible apply KeepsW.ok
    | with_reducible apply KeepsW.error | (extract_lets +onlyGivenNames x) | with_reducible apply KeepsW.ite | exact rfl
    | with_reducible apply Keeps.mk_)

theorem keeps_State_writeRlink {b : Bool} {s0 s : State} {x1} {x2} (h : Keeps b s0 s) : KeepsW b s0 (State.writeRlink s x1 x2) := by
  unfold State.writeRlink
  repeat' (first
    | with_reducible assumption | with_reducible apply keeps_State_modRlink | with_reducible apply keeps_State_ignore
    | with_reducible apply KeepsW.ok | with_reducible apply KeepsW.error | (extract_lets +onlyGivenNames x)
    | with_reducible apply KeepsW.ite)

theorem keeps_State_ioWrite {b : Bool} {s0 s : State} {x1} {x2} {x3} {x4} (h : Keeps b s0 s) : KeepsW b s0 (State.ioWrite s x1 x2 x3 x4) := by
  unfold State.ioWrite
  repeat' (first
    | with_reducible assumption | with_reducible apply keeps_State_writeAon | with_reducible apply keeps_State_writePwr
    | with_reducible apply keeps_State_writeTim | with_reducible apply keeps_State_writeMbx
    | with_reducible apply keeps_State_writeRing | with_reducible apply keeps_State_writeLink
    | with_reducible apply keeps_State_writeDma | with_reducible apply keeps_State_writeMmu
    | with_reducible apply keeps_State_writeMem | with_reducible apply keeps_State_writeUart
    | with_reducible apply keeps_State_writeCan | with_reducible apply keeps_State_writeEvt
    | with_reducible apply keeps_State_writePmon | with_reducible apply keeps_State_writeIntc
    | with_reducible apply keeps_State_writeRlink | (extract_lets +onlyGivenNames x) | with_reducible apply KeepsW.ite)

theorem keeps_State_dmaWrite {b : Bool} {s0 s : State} {x1} {x2} {x3} (h : Keeps b s0 s) : Keeps1 b s0 (State.dmaWrite s x1 x2 x3) := by
  unfold State.dmaWrite
  repeat' (first
    | with_reducible assumption | with_reducible apply keeps_State_dmaPhys | with_reducible apply keeps_State_physWrite
    | (extract_lets +onlyGivenNames x) | (refine Keeps.fst ?_ (by with_reducible assumption)) | split)

end Sys2Proof.Machine
end

