-- ==== Sys2Proof/Laws/KeepsFinial.lean ====
section
/-! SUPPORT. What the operations of Machine/Finial.lean keep (`Keeps`). -/

set_option Elab.async false

namespace Sys2Proof.Machine

set_option linter.all false
set_option maxRecDepth 20000

theorem keeps_State_interrupt {b : Bool} {s0 s : State} {x1} {x2} {x3} (h : Keeps b s0 s) : Keeps b s0 (State.interrupt s x1 x2 x3) := by
  unfold State.interrupt
  repeat' (first
    | with_reducible assumption | with_reducible apply keeps_State_count | with_reducible apply keeps_State_modCore
    | (extract_lets +onlyGivenNames x) | exact rfl | with_reducible apply Keeps.mk_)

theorem keeps_State_trap {b : Bool} {s0 s : State} {x1} {x2} {x3} {x4} (h : Keeps b s0 s) : Keeps b s0 (State.trap s x1 x2 x3 x4) := by
  unfold State.trap
  repeat' (first
    | with_reducible assumption | with_reducible apply keeps_State_count | with_reducible apply keeps_State_doubleTrap
    | with_reducible apply keeps_State_modCore | (extract_lets +onlyGivenNames x) | split | (dsimp +zetaDelta only; split))

theorem keeps_State_atIssue {b : Bool} {s0 s : State} {c : Nat} {go : State → Res} (h : Keeps b s0 s)
    (hgo : ∀ s, Keeps b s0 s → KeepsR b s0 (go s)) : KeepsR b s0 (s.atIssue c go) := by
  unfold State.atIssue
  split
  · exact .next h
  split
  · exact .next (keeps_State_interrupt h)
  extract_lets +onlyGivenNames s1
  have h1 : Keeps b s0 s1 := keeps_State_modCore h
  clear_value s1
  split
  · rename_i e
    exact .next (keeps_State_trap (Keeps.fst (keeps_State_fetchTrap h1) e))
  · rename_i e
    exact hgo _ (Keeps.fst (keeps_State_fetchTrap h1) e)

theorem keeps_State_complete {b : Bool} {s0 s : State} {x1} {x2} (h : Keeps b s0 s) : Keeps b s0 (State.complete s x1 x2) := by
  unfold State.complete
  repeat' (first
    | with_reducible assumption | with_reducible apply keeps_State_modCore | with_reducible apply keeps_State_count
    | (extract_lets +onlyGivenNames x) | split)

theorem keeps_State_issue {b : Bool} {s0 s : State} {c} {chk} {op : Operation} (h : Keeps b s0 s)
    (hop : ∀ c s, Keeps b s0 s → Keeps1 b s0 (op c s)) : KeepsR b s0 (s.issue c chk op) := by
  refine keeps_State_atIssue h fun s2 h2 => ?_
  extract_lets pc
  split
  · exact .next (keeps_State_trap h2)
  · split
    · rename_i e; exact .next (keeps_State_trap (Keeps.fst (hop _ _ h2) e))
    · exact .refused
    · rename_i e; exact .next (keeps_State_complete (Keeps.fst (hop _ _ h2) e))

theorem keeps_opNop {b : Bool} {s0 s : State} {x0} (h : Keeps b s0 s) : Keeps1 b s0 (opNop x0 s) := by
  unfold opNop
  repeat' (first | with_reducible assumption)

theorem keeps_execNop {b : Bool} {s0 s : State} {x0} {x1} (h : Keeps b s0 s) : KeepsR b s0 (execNop x0 x1 s) := by
  unfold execNop
  repeat' (first
    | with_reducible assumption | with_reducible refine keeps_State_issue ?_ (fun c s h => ?_)
    | with_reducible apply keeps_opNop)

theorem keeps_State_writeReg {b : Bool} {s0 s : State} {x1} {x2} {x3} (h : Keeps b s0 s) : Keeps1 b s0 (State.writeReg s x1 x2 x3) := by
  unfold State.writeReg
  repeat' (first | with_reducible assumption | with_reducible apply keeps_State_modCore | split)

theorem keeps_opLdi {b : Bool} {s0 s : State} {x0} {x1} (h : Keeps b s0 s) : Keeps1 b s0 (opLdi x0 x1 s) := by
  unfold opLdi
  repeat' (first | with_reducible assumption | with_reducible apply keeps_State_writeReg)

theorem keeps_execLdi {b : Bool} {s0 s : State} {x0} {x1} (h : Keeps b s0 s) : KeepsR b s0 (execLdi x0 x1 s) := by
  unfold execLdi
  repeat' (first
    | with_reducible assumption | with_reducible refine keeps_State_issue ?_ (fun c s h => ?_)
    | with_reducible apply keeps_opLdi)

theorem keeps_opMov {b : Bool} {s0 s : State} {x0} {x1} (h : Keeps b s0 s) : Keeps1 b s0 (opMov x0 x1 s) := by
  unfold opMov
  repeat' (first | with_reducible assumption | with_reducible apply keeps_State_writeReg)

theorem keeps_execMov {b : Bool} {s0 s : State} {x0} {x1} (h : Keeps b s0 s) : KeepsR b s0 (execMov x0 x1 s) := by
  unfold execMov
  repeat' (first
    | with_reducible assumption | with_reducible refine keeps_State_issue ?_ (fun c s h => ?_)
    | with_reducible apply keeps_opMov)

theorem keeps_opLea {b : Bool} {s0 s : State} {x0} {x1} (h : Keeps b s0 s) : Keeps1 b s0 (opLea x0 x1 s) := by
  unfold opLea
  repeat' (first | with_reducible assumption | with_reducible apply keeps_State_writeReg)

theorem keeps_execLea {b : Bool} {s0 s : State} {x0} {x1} (h : Keeps b s0 s) : KeepsR b s0 (execLea x0 x1 s) := by
  unfold execLea
  repeat' (first
    | with_reducible assumption | with_reducible refine keeps_State_issue ?_ (fun c s h => ?_)
    | with_reducible apply keeps_opLea)

theorem keeps_State_operand {b : Bool} {s0 s : State} {x1} {x2} {x3} (h : Keeps b s0 s) : Keeps1 b s0 (State.operand s x1 x2 x3) := by
  unfold State.operand
  repeat' (first
    | with_reducible assumption | with_reducible apply keeps_State_coreLoad | (extract_lets +onlyGivenNames x)
    | (refine Keeps.fst ?_ (by with_reducible assumption)) | split)

theorem keeps_opAlu {b : Bool} {s0 s : State} {x0} {x1} {x2} {x3} (h : Keeps b s0 s) : Keeps1 b s0 (opAlu x0 x1 x2 x3 s) := by
  unfold opAlu
  repeat' (first
    | with_reducible assumption | with_reducible apply keeps_State_operand | with_reducible apply keeps_State_modCore
    | (extract_lets +onlyGivenNames x) | (refine Keeps.fst ?_ (by with_reducible assumption)) | split)

theorem keeps_opAdd {b : Bool} {s0 s : State} {x0} {x1} (h : Keeps b s0 s) : Keeps1 b s0 (opAdd x0 x1 s) := by
  unfold opAdd
  repeat' (first | with_reducible assumption | with_reducible apply keeps_opAlu)

theorem keeps_execAdd {b : Bool} {s0 s : State} {x0} {x1} (h : Keeps b s0 s) : KeepsR b s0 (execAdd x0 x1 s) := by
  unfold execAdd
  repeat' (first
    | with_reducible assumption | with_reducible refine keeps_State_issue ?_ (fun c s h => ?_)
    | with_reducible apply keeps_opAdd)

theorem keeps_opSub {b : Bool} {s0 s : State} {x0} {x1} (h : Keeps b s0 s) : Keeps1 b s0 (opSub x0 x1 s) := by
  unfold opSub
  repeat' (first | with_reducible assumption | with_reducible apply keeps_opAlu)

theorem keeps_execSub {b : Bool} {s0 s : State} {x0} {x1} (h : Keeps b s0 s) : KeepsR b s0 (execSub x0 x1 s) := by
  unfold execSub
  repeat' (first
    | with_reducible assumption | with_reducible refine keeps_State_issue ?_ (fun c s h => ?_)
    | with_reducible apply keeps_opSub)

theorem keeps_opRsb {b : Bool} {s0 s : State} {x0} {x1} (h : Keeps b s0 s) : Keeps1 b s0 (opRsb x0 x1 s) := by
  unfold opRsb
  repeat' (first | with_reducible assumption | with_reducible apply keeps_opAlu)

theorem keeps_execRsb {b : Bool} {s0 s : State} {x0} {x1} (h : Keeps b s0 s) : KeepsR b s0 (execRsb x0 x1 s) := by
  unfold execRsb
  repeat' (first
    | with_reducible assumption | with_reducible refine keeps_State_issue ?_ (fun c s h => ?_)
    | with_reducible apply keeps_opRsb)

theorem keeps_opAnd {b : Bool} {s0 s : State} {x0} {x1} (h : Keeps b s0 s) : Keeps1 b s0 (opAnd x0 x1 s) := by
  unfold opAnd
  repeat' (first | with_reducible assumption | with_reducible apply keeps_opAlu)

theorem keeps_execAnd {b : Bool} {s0 s : State} {x0} {x1} (h : Keeps b s0 s) : KeepsR b s0 (execAnd x0 x1 s) := by
  unfold execAnd
  repeat' (first
    | with_reducible assumption | with_reducible refine keeps_State_issue ?_ (fun c s h => ?_)
    | with_reducible apply keeps_opAnd)

theorem keeps_opOr {b : Bool} {s0 s : State} {x0} {x1} (h : Keeps b s0 s) : Keeps1 b s0 (opOr x0 x1 s) := by
  unfold opOr
  repeat' (first | with_reducible assumption | with_reducible apply keeps_opAlu)

theorem keeps_execOr {b : Bool} {s0 s : State} {x0} {x1} (h : Keeps b s0 s) : KeepsR b s0 (execOr x0 x1 s) := by
  unfold execOr
  repeat' (first
    | with_reducible assumption | with_reducible refine keeps_State_issue ?_ (fun c s h => ?_)
    | with_reducible apply keeps_opOr)

theorem keeps_opXor {b : Bool} {s0 s : State} {x0} {x1} (h : Keeps b s0 s) : Keeps1 b s0 (opXor x0 x1 s) := by
  unfold opXor
  repeat' (first | with_reducible assumption | with_reducible apply keeps_opAlu)

theorem keeps_execXor {b : Bool} {s0 s : State} {x0} {x1} (h : Keeps b s0 s) : KeepsR b s0 (execXor x0 x1 s) := by
  unfold execXor
  repeat' (first
    | with_reducible assumption | with_reducible refine keeps_State_issue ?_ (fun c s h => ?_)
    | with_reducible apply keeps_opXor)

theorem keeps_opShift {b : Bool} {s0 s : State} {x0} {x1} {x2} {x3} {x4} (h : Keeps b s0 s) : Keeps1 b s0 (opShift x0 x1 x2 x3 x4 s) := by
  unfold opShift
  repeat' (first | with_reducible assumption | with_reducible apply keeps_State_modCore)

theorem keeps_opShl {b : Bool} {s0 s : State} {x0} {x1} {x2} {x3} (h : Keeps b s0 s) : Keeps1 b s0 (opShl x0 x1 x2 x3 s) := by
  unfold opShl
  repeat' (first | with_reducible assumption | with_reducible apply keeps_opShift)

theorem keeps_execShl {b : Bool} {s0 s : State} {x0} {x1} {x2} {x3} (h : Keeps b s0 s) : KeepsR b s0 (execShl x0 x1 x2 x3 s) := by
  unfold execShl
  repeat' (first
    | with_reducible assumption | with_reducible refine keeps_State_issue ?_ (fun c s h => ?_)
    | with_reducible apply keeps_opShl)

theorem keeps_opShr {b : Bool} {s0 s : State} {x0} {x1} {x2} {x3} (h : Keeps b s0 s) : Keeps1 b s0 (opShr x0 x1 x2 x3 s) := by
  unfold opShr
  repeat' (first | with_reducible assumption | with_reducible apply keeps_opShift)

theorem keeps_execShr {b : Bool} {s0 s : State} {x0} {x1} {x2} {x3} (h : Keeps b s0 s) : KeepsR b s0 (execShr x0 x1 x2 x3 s) := by
  unfold execShr
  repeat' (first
    | with_reducible assumption | with_reducible refine keeps_State_issue ?_ (fun c s h => ?_)
    | with_reducible apply keeps_opShr)

theorem keeps_opSar {b : Bool} {s0 s : State} {x0} {x1} {x2} {x3} (h : Keeps b s0 s) : Keeps1 b s0 (opSar x0 x1 x2 x3 s) := by
  unfold opSar
  repeat' (first | with_reducible assumption | with_reducible apply keeps_opShift)

theorem keeps_execSar {b : Bool} {s0 s : State} {x0} {x1} {x2} {x3} (h : Keeps b s0 s) : KeepsR b s0 (execSar x0 x1 x2 x3 s) := by
  unfold execSar
  repeat' (first
    | with_reducible assumption | with_reducible refine keeps_State_issue ?_ (fun c s h => ?_)
    | with_reducible apply keeps_opSar)

theorem keeps_opRor {b : Bool} {s0 s : State} {x0} {x1} {x2} {x3} (h : Keeps b s0 s) : Keeps1 b s0 (opRor x0 x1 x2 x3 s) := by
  unfold opRor
  repeat' (first | with_reducible assumption | with_reducible apply keeps_opShift)

theorem keeps_execRor {b : Bool} {s0 s : State} {x0} {x1} {x2} {x3} (h : Keeps b s0 s) : KeepsR b s0 (execRor x0 x1 x2 x3 s) := by
  unfold execRor
  repeat' (first
    | with_reducible assumption | with_reducible refine keeps_State_issue ?_ (fun c s h => ?_)
    | with_reducible apply keeps_opRor)

theorem keeps_State_product {b : Bool} {s0 s : State} {x1} {x2} (h : Keeps b s0 s) : Keeps b s0 (State.product s x1 x2) := by
  unfold State.product
  repeat' (first | with_reducible assumption | with_reducible apply keeps_State_modCore)

theorem keeps_opMul {b : Bool} {s0 s : State} {x0} {x1} {x2} (h : Keeps b s0 s) : Keeps1 b s0 (opMul x0 x1 x2 s) := by
  unfold opMul
  repeat' (first
    | with_reducible assumption | with_reducible apply keeps_State_operand | with_reducible apply keeps_State_product
    | (extract_lets +onlyGivenNames x) | (refine Keeps.fst ?_ (by with_reducible assumption)) | split)

theorem keeps_execMul {b : Bool} {s0 s : State} {x0} {x1} (h : Keeps b s0 s) : KeepsR b s0 (execMul x0 x1 s) := by
  unfold execMul
  repeat' (first
    | with_reducible assumption | with_reducible refine keeps_State_issue ?_ (fun c s h => ?_)
    | with_reducible apply keeps_opMul)

theorem keeps_execMulu {b : Bool} {s0 s : State} {x0} {x1} (h : Keeps b s0 s) : KeepsR b s0 (execMulu x0 x1 s) := by
  unfold execMulu
  repeat' (first
    | with_reducible assumption | with_reducible refine keeps_State_issue ?_ (fun c s h => ?_)
    | with_reducible apply keeps_opMul)

theorem keeps_execBareMulProductLand {b : Bool} {s0 s : State} {x0} (h : Keeps b s0 s) : KeepsR b s0 (execBareMulProductLand x0 s) := by
  unfold execBareMulProductLand
  repeat' (first
    | with_reducible assumption | with_reducible apply keeps_State_modCore | with_reducible apply KeepsR.next | split)

theorem keeps_opLoad {b : Bool} {s0 s : State} {x0} {x1} {x2} {x3} (h : Keeps b s0 s) : Keeps1 b s0 (opLoad x0 x1 x2 x3 s) := by
  unfold opLoad
  repeat' (first
    | with_reducible assumption | with_reducible apply keeps_State_coreLoad | with_reducible apply keeps_State_modCore
    | (extract_lets +onlyGivenNames x) | (refine Keeps.fst ?_ (by with_reducible assumption)) | split)

theorem keeps_execLdw {b : Bool} {s0 s : State} {x0} {x1} (h : Keeps b s0 s) : KeepsR b s0 (execLdw x0 x1 s) := by
  unfold execLdw
  repeat' (first
    | with_reducible assumption | with_reducible refine keeps_State_issue ?_ (fun c s h => ?_)
    | with_reducible apply keeps_opLoad)

theorem keeps_execLdh {b : Bool} {s0 s : State} {x0} {x1} (h : Keeps b s0 s) : KeepsR b s0 (execLdh x0 x1 s) := by
  unfold execLdh
  repeat' (first
    | with_reducible assumption | with_reducible refine keeps_State_issue ?_ (fun c s h => ?_)
    | with_reducible apply keeps_opLoad)

theorem keeps_execLdhu {b : Bool} {s0 s : State} {x0} {x1} (h : Keeps b s0 s) : KeepsR b s0 (execLdhu x0 x1 s) := by
  unfold execLdhu
  repeat' (first
    | with_reducible assumption | with_reducible refine keeps_State_issue ?_ (fun c s h => ?_)
    | with_reducible apply keeps_opLoad)

theorem keeps_execLdb {b : Bool} {s0 s : State} {x0} {x1} (h : Keeps b s0 s) : KeepsR b s0 (execLdb x0 x1 s) := by
  unfold execLdb
  repeat' (first
    | with_reducible assumption | with_reducible refine keeps_State_issue ?_ (fun c s h => ?_)
    | with_reducible apply keeps_opLoad)

theorem keeps_execLdbu {b : Bool} {s0 s : State} {x0} {x1} (h : Keeps b s0 s) : KeepsR b s0 (execLdbu x0 x1 s) := by
  unfold execLdbu
  repeat' (first
    | with_reducible assumption | with_reducible refine keeps_State_issue ?_ (fun c s h => ?_)
    | with_reducible apply keeps_opLoad)

theorem keeps_opStore {b : Bool} {s0 s : State} {x0} {x1} {x2} (h : Keeps b s0 s) : Keeps1 b s0 (opStore x0 x1 x2 s) := by
  unfold opStore
  repeat' (first
    | with_reducible assumption | with_reducible apply keeps_State_coreStore | with_reducible apply keeps_State_modCore
    | (extract_lets +onlyGivenNames x) | (refine Keeps.fst ?_ (by with_reducible assumption)) | split)

theorem keeps_execStw {b : Bool} {s0 s : State} {x0} {x1} (h : Keeps b s0 s) : KeepsR b s0 (execStw x0 x1 s) := by
  unfold execStw
  repeat' (first
    | with_reducible assumption | with_reducible refine keeps_State_issue ?_ (fun c s h => ?_)
    | with_reducible apply keeps_opStore)

theorem keeps_execSth {b : Bool} {s0 s : State} {x0} {x1} (h : Keeps b s0 s) : KeepsR b s0 (execSth x0 x1 s) := by
  unfold execSth
  repeat' (first
    | with_reducible assumption | with_reducible refine keeps_State_issue ?_ (fun c s h => ?_)
    | with_reducible apply keeps_opStore)

theorem keeps_execStb {b : Bool} {s0 s : State} {x0} {x1} (h : Keeps b s0 s) : KeepsR b s0 (execStb x0 x1 s) := by
  unfold execStb
  repeat' (first
    | with_reducible assumption | with_reducible refine keeps_State_issue ?_ (fun c s h => ?_)
    | with_reducible apply keeps_opStore)

theorem keeps_opPush {b : Bool} {s0 s : State} {x0} {x1} (h : Keeps b s0 s) : Keeps1 b s0 (opPush x0 x1 s) := by
  unfold opPush
  repeat' (first
    | with_reducible assumption | with_reducible apply keeps_State_coreStore | with_reducible apply keeps_State_modCore
    | (extract_lets +onlyGivenNames x) | (refine Keeps.fst ?_ (by with_reducible assumption)) | split)

theorem keeps_execPush {b : Bool} {s0 s : State} {x0} {x1} (h : Keeps b s0 s) : KeepsR b s0 (execPush x0 x1 s) := by
  unfold execPush
  repeat' (first
    | with_reducible assumption | with_reducible refine keeps_State_issue ?_ (fun c s h => ?_)
    | with_reducible apply keeps_opPush)

theorem keeps_opPop {b : Bool} {s0 s : State} {x0} {x1} (h : Keeps b s0 s) : Keeps1 b s0 (opPop x0 x1 s) := by
  unfold opPop
  repeat' (first
    | with_reducible assumption | with_reducible apply keeps_State_coreLoad | with_reducible apply keeps_State_modCore
    | with_reducible apply keeps_State_writeReg
    | (extract_lets +onlyGivenNames x; have hf : (_ → _) := x; clear hf; dsimp only [x]; clear x)
    | (extract_lets +onlyGivenNames x) | (refine Keeps.fst ?_ (by with_reducible assumption)) | split)

theorem keeps_execPop {b : Bool} {s0 s : State} {x0} {x1} (h : Keeps b s0 s) : KeepsR b s0 (execPop x0 x1 s) := by
  unfold execPop
  repeat' (first
    | with_reducible assumption | with_reducible refine keeps_State_issue ?_ (fun c s h => ?_)
    | with_reducible apply keeps_opPop)

theorem keeps_State_doIn {b : Bool} {s0 s : State} {x1} {x2} {x3} (h : Keeps b s0 s) : Keeps1 b s0 (State.doIn s x1 x2 x3) := by
  unfold State.doIn
  repeat' (first
    | with_reducible assumption | with_reducible apply keeps_State_ioRead
    | (refine Keeps.fst ?_ (by with_reducible assumption)) | split)

theorem keeps_opIn {b : Bool} {s0 s : State} {x0} {x1} (h : Keeps b s0 s) : Keeps1 b s0 (opIn x0 x1 s) := by
  unfold opIn
  repeat' (first | with_reducible assumption | with_reducible apply keeps_State_doIn)

theorem keeps_execInp {b : Bool} {s0 s : State} {x0} {x1} (h : Keeps b s0 s) : KeepsR b s0 (execInp x0 x1 s) := by
  unfold execInp
  repeat' (first
    | with_reducible assumption | with_reducible refine keeps_State_issue ?_ (fun c s h => ?_)
    | with_reducible apply keeps_opIn)

theorem keeps_State_doOut {b : Bool} {s0 s : State} {x1} {x2} {x3} (h : Keeps b s0 s) : Keeps1 b s0 (State.doOut s x1 x2 x3) := by
  unfold State.doOut
  repeat' (first
    | with_reducible assumption | with_reducible apply keeps_State_ioWrite | (extract_lets +onlyGivenNames x)
    | (refine Keeps.exc ?_ (by with_reducible assumption)) | split)

theorem keeps_opOut {b : Bool} {s0 s : State} {x0} {x1} (h : Keeps b s0 s) : Keeps1 b s0 (opOut x0 x1 s) := by
  unfold opOut
  repeat' (first | with_reducible assumption | with_reducible apply keeps_State_doOut)

theorem keeps_execOutp {b : Bool} {s0 s : State} {x0} {x1} (h : Keeps b s0 s) : KeepsR b s0 (execOutp x0 x1 s) := by
  unfold execOutp
  repeat' (first
    | with_reducible assumption | with_reducible refine keeps_State_issue ?_ (fun c s h => ?_)
    | with_reducible apply keeps_opOut)

theorem keeps_opBranch {b : Bool} {s0 s : State} {x0} {x1} {x2} (h : Keeps b s0 s) : Keeps1 b s0 (opBranch x0 x1 x2 s) := by
  unfold opBranch
  repeat' (first | with_reducible assumption)

theorem keeps_execCbr {b : Bool} {s0 s : State} {x0} {x1} (h : Keeps b s0 s) : KeepsR b s0 (execCbr x0 x1 s) := by
  unfold execCbr
  repeat' (first
    | with_reducible assumption | with_reducible refine keeps_State_issue ?_ (fun c s h => ?_)
    | with_reducible apply keeps_opBranch)

theorem keeps_execCbi {b : Bool} {s0 s : State} {x0} {x1} (h : Keeps b s0 s) : KeepsR b s0 (execCbi x0 x1 s) := by
  unfold execCbi
  repeat' (first
    | with_reducible assumption | with_reducible refine keeps_State_issue ?_ (fun c s h => ?_)
    | with_reducible apply keeps_opBranch)

theorem keeps_execBr {b : Bool} {s0 s : State} {x0} {x1} (h : Keeps b s0 s) : KeepsR b s0 (execBr x0 x1 s) := by
  unfold execBr
  repeat' (first
    | with_reducible assumption | with_reducible refine keeps_State_issue ?_ (fun c s h => ?_)
    | with_reducible apply keeps_opBranch)

theorem keeps_execJmp {b : Bool} {s0 s : State} {x0} {x1} (h : Keeps b s0 s) : KeepsR b s0 (execJmp x0 x1 s) := by
  unfold execJmp
  repeat' (first | with_reducible assumption | with_reducible refine keeps_State_issue ?_ (fun c s h => ?_))

theorem keeps_State_call {b : Bool} {s0 s : State} {x1} {x2} (h : Keeps b s0 s) : Keeps1 b s0 (State.call s x1 x2) := by
  unfold State.call
  repeat' (first
    | with_reducible assumption | with_reducible apply keeps_State_modCore | (extract_lets +onlyGivenNames x) | split)

theorem keeps_execCall {b : Bool} {s0 s : State} {x0} {x1} (h : Keeps b s0 s) : KeepsR b s0 (execCall x0 x1 s) := by
  unfold execCall
  repeat' (first
    | with_reducible assumption | with_reducible refine keeps_State_issue ?_ (fun c s h => ?_)
    | with_reducible apply keeps_State_call)

theorem keeps_execJmpr {b : Bool} {s0 s : State} {x0} {x1} {x2} (h : Keeps b s0 s) : KeepsR b s0 (execJmpr x0 x1 x2 s) := by
  unfold execJmpr
  repeat' (first | with_reducible assumption | with_reducible refine keeps_State_issue ?_ (fun c s h => ?_))

theorem keeps_execCallr {b : Bool} {s0 s : State} {x0} {x1} {x2} (h : Keeps b s0 s) : KeepsR b s0 (execCallr x0 x1 x2 s) := by
  unfold execCallr
  repeat' (first
    | with_reducible assumption | with_reducible refine keeps_State_issue ?_ (fun c s h => ?_)
    | with_reducible apply keeps_State_call)

theorem keeps_opRet {b : Bool} {s0 s : State} {x0} (h : Keeps b s0 s) : Keeps1 b s0 (opRet x0 s) := by
  unfold opRet
  repeat' (first | with_reducible assumption | with_reducible apply keeps_State_modCore | split)

theorem keeps_execRet {b : Bool} {s0 s : State} {x0} {x1} (h : Keeps b s0 s) : KeepsR b s0 (execRet x0 x1 s) := by
  unfold execRet
  repeat' (first
    | with_reducible assumption | with_reducible refine keeps_State_issue ?_ (fun c s h => ?_)
    | with_reducible apply keeps_opRet)

theorem keeps_execRett {b : Bool} {s0 s : State} {x0} {x1} (h : Keeps b s0 s) : KeepsR b s0 (execRett x0 x1 s) := by
  refine keeps_State_atIssue h fun s2 h2 => ?_
  dsimp only
  split
  · exact .next (keeps_State_trap h2)
  · split
    · exact .next (keeps_State_trap h2)
    · exact .next (Keeps.ite (keeps_State_count (keeps_State_modCore h2)) (keeps_State_modCore h2))

theorem keeps_opLoop {b : Bool} {s0 s : State} {x0} {x1} (h : Keeps b s0 s) : Keeps1 b s0 (opLoop x0 x1 s) := by
  unfold opLoop
  repeat' (first | with_reducible assumption | with_reducible apply keeps_State_modCore)

theorem keeps_execLoop {b : Bool} {s0 s : State} {x0} {x1} (h : Keeps b s0 s) : KeepsR b s0 (execLoop x0 x1 s) := by
  unfold execLoop
  repeat' (first
    | with_reducible assumption | with_reducible refine keeps_State_issue ?_ (fun c s h => ?_)
    | with_reducible apply keeps_opLoop)

theorem keeps_State_endRep {b : Bool} {s0 s : State} {x1} {x2} (h : Keeps b s0 s) : Keeps b s0 (State.endRep s x1 x2) := by
  unfold State.endRep
  repeat' (first
    | with_reducible assumption | with_reducible apply keeps_State_modCore | (extract_lets +onlyGivenNames x) | split
    | exact rfl | with_reducible apply Keeps.mk_)

theorem keeps_State_iterate {b : Bool} {s0 : State} {c} {op : Operation} {until_} (hop : ∀ s, Keeps b s0 s → Keeps1 b s0 (op c s)) :
    ∀ {left done : Nat} {s : State}, Keeps b s0 s → KeepsR b s0 (State.iterate s c op done until_ left)
  | 0, _, _, h => .next (keeps_State_endRep h)
  | left + 1, done, s, h => by
    unfold State.iterate
    split
    · split
      · exact .next (keeps_State_interrupt h)
      · exact .next h
    · extract_lets +onlyGivenNames s1
      have h1 : Keeps b s0 s1 := keeps_State_modCore h
      clear_value s1
      split
      · rename_i e; exact .next (keeps_State_trap (Keeps.fst (hop _ h1) e))
      · exact .refused
      · rename_i e; exact keeps_State_iterate hop (keeps_State_modCore (Keeps.fst (hop _ h1) e))

theorem keeps_opSev {b : Bool} {s0 s : State} {x0} (h : Keeps b s0 s) : Keeps1 b s0 (opSev x0 s) := by
  unfold opSev
  repeat' (first
    | with_reducible assumption | with_reducible apply keeps_State_modCore
    | with_reducible refine Keeps.forUpto ?_ (fun i s h => ?_) | (extract_lets +onlyGivenNames x) | split)

theorem keeps_opMfc {b : Bool} {s0 s : State} {x0} {x1} (h : Keeps b s0 s) : Keeps1 b s0 (opMfc x0 x1 s) := by
  unfold opMfc
  repeat' (first
    | with_reducible assumption | with_reducible apply keeps_State_modCore | with_reducible apply keeps_State_writeReg
    | (extract_lets +onlyGivenNames x) | split | (dsimp +zetaDelta only; split))

theorem Keeps1.ite {α : Type} {b : Bool} {s0 : State} {c : Prop} [Decidable c] {x y : State × α} (h : Keeps1 b s0 x)
    (k : Keeps1 b s0 y) : Keeps1 b s0 (if c then x else y) := by
  split
  · exact h
  · exact k

theorem keeps_opMtc {b : Bool} {s0 s : State} {x0} {x1} (h : Keeps b s0 s) : Keeps1 b s0 (opMtc x0 x1 s) := by
  unfold opMtc
  extract_lets k n v
  exact Keeps1.ite h (Keeps1.ite h (keeps_State_modCore h))

theorem keeps_shiftOf {b : Bool} {s0 s : State} {c} {f} (h : Keeps b s0 s) : Keeps1 b s0 ((shiftOf f).2 c s) := by
  unfold shiftOf
  extract_lets m reg imm by_ op
  dsimp only [op]
  split
  · exact keeps_opShl h
  · split
    · exact keeps_opShr h
    · split
      · exact keeps_opSar h
      · exact keeps_opRor h

/-- The operation that REP repeats. -/

theorem keeps_repeated {b : Bool} {s0 s : State} {c c'} {w} {r : Option Nat × Operation} (e : repeated c' w = some r) (h : Keeps b s0 s) :
    Keeps1 b s0 (r.2 c s) := by
  unfold repeated at e
  have hn : w.toNat / 2 ^ 26 < 41 ∨ 41 ≤ w.toNat / 2 ^ 26 := by omega
  generalize w.toNat / 2 ^ 26 = n at e hn
  extract_lets f at e
  rcases hn with hn | hn
  swap
  · obtain ⟨m, rfl⟩ := Nat.exists_eq_add_of_le' hn
    cases e
  interval_cases n <;> cases e
  all_goals first
    | with_reducible exact keeps_opNop h | with_reducible exact keeps_opLdi h | with_reducible exact keeps_opMov h | with_reducible exact keeps_opLea h | with_reducible exact keeps_opAdd h
    | with_reducible exact keeps_opSub h | with_reducible exact keeps_opRsb h | with_reducible exact keeps_opAnd h | with_reducible exact keeps_opOr h | with_reducible exact keeps_opXor h
    | with_reducible exact keeps_opMul h | with_reducible exact keeps_opLoad h | with_reducible exact keeps_opStore h | with_reducible exact keeps_opPush h | with_reducible exact keeps_opPop h
    | with_reducible exact keeps_opIn h | with_reducible exact keeps_opOut h | with_reducible exact keeps_opSev h | with_reducible exact keeps_opMfc h | with_reducible exact keeps_opMtc h
    | exact keeps_shiftOf h

theorem keeps_execRep {b : Bool} {s0 s : State} {c} {f} {w} {i} (h : Keeps b s0 s) : KeepsR b s0 (execRep c f w i s) := by
  refine keeps_State_atIssue h fun s2 h2 => ?_
  extract_lets k bad
  split
  · rename_i e; exact .next (keeps_State_trap (Keeps.fst (keeps_State_fetchTrap h2) e))
  · rename_i s3 e
    have h3 : Keeps b s0 s3 := Keeps.fst (keeps_State_fetchTrap h2) e
    split
    · rename_i r _ e
      exact keeps_State_iterate (fun s h => keeps_repeated e h) (keeps_State_modCore h3)
    · exact .next (keeps_State_trap h3)

theorem keeps_State_wait {b : Bool} {s0 s : State} {x1} {x2} {x3} {x4} {x5} (h : Keeps b s0 s) : KeepsR b s0 (State.wait s x1 x2 x3 x4 x5) := by
  refine keeps_State_atIssue h fun s2 h2 => ?_
  split
  · exact .next (keeps_State_trap h2)
  · split
    · exact .next (keeps_State_complete (keeps_State_modCore h2))
    · exact .next (keeps_State_modCore h2)

theorem keeps_execWfe {b : Bool} {s0 s : State} {x0} {x1} (h : Keeps b s0 s) : KeepsR b s0 (execWfe x0 x1 s) := by
  unfold execWfe
  repeat' (first | with_reducible assumption | with_reducible apply keeps_State_wait)

theorem keeps_execWfeComplete {b : Bool} {s0 s : State} {x0} (h : Keeps b s0 s) : KeepsR b s0 (execWfeComplete x0 s) := by
  unfold execWfeComplete
  repeat' (first
    | with_reducible assumption | with_reducible apply keeps_State_complete | with_reducible apply keeps_State_modCore
    | with_reducible apply KeepsR.next | split)

theorem keeps_execSev {b : Bool} {s0 s : State} {x0} {x1} (h : Keeps b s0 s) : KeepsR b s0 (execSev x0 x1 s) := by
  unfold execSev
  repeat' (first
    | with_reducible assumption | with_reducible refine keeps_State_issue ?_ (fun c s h => ?_)
    | with_reducible apply keeps_opSev)

theorem keeps_execWaitt {b : Bool} {s0 s : State} {x0} {x1} (h : Keeps b s0 s) : KeepsR b s0 (execWaitt x0 x1 s) := by
  unfold execWaitt
  repeat' (first | with_reducible assumption | with_reducible apply keeps_State_wait)

theorem keeps_execWaittComplete {b : Bool} {s0 s : State} {x0} (h : Keeps b s0 s) : KeepsR b s0 (execWaittComplete x0 s) := by
  unfold execWaittComplete
  repeat' (first
    | with_reducible assumption | with_reducible apply keeps_State_complete | with_reducible apply KeepsR.next | split)

theorem keeps_execMfc {b : Bool} {s0 s : State} {x0} {x1} (h : Keeps b s0 s) : KeepsR b s0 (execMfc x0 x1 s) := by
  unfold execMfc
  repeat' (first
    | with_reducible assumption | with_reducible refine keeps_State_issue ?_ (fun c s h => ?_)
    | with_reducible apply keeps_opMfc)

theorem keeps_execMtc {b : Bool} {s0 s : State} {x0} {x1} (h : Keeps b s0 s) : KeepsR b s0 (execMtc x0 x1 s) := by
  unfold execMtc
  repeat' (first
    | with_reducible assumption | with_reducible refine keeps_State_issue ?_ (fun c s h => ?_)
    | with_reducible apply keeps_opMtc)

theorem keeps_execInterruptEntry {b : Bool} {s0 s : State} {x0} (h : Keeps b s0 s) : KeepsR b s0 (execInterruptEntry x0 s) := by
  unfold execInterruptEntry
  repeat' (first
    | with_reducible assumption | with_reducible apply keeps_State_complete | with_reducible apply keeps_State_interrupt
    | with_reducible apply KeepsR.next | (extract_lets +onlyGivenNames x) | split | (dsimp +zetaDelta only; split))

end Sys2Proof.Machine
end

