-- ==== Sys2Proof/Laws/KeepsFlags.lean ====
section
/-! SUPPORT. What the operations of Machine/Flags.lean keep (`Keeps`). -/

set_option Elab.async false

namespace Sys2Proof.Machine

set_option linter.all false
set_option maxRecDepth 20000

theorem keeps_State_sampleSources {b : Bool} {s0 s : State}  (h : Keeps b s0 s) : Keeps b s0 (State.sampleSources s) := by
  unfold State.sampleSources
  repeat' (first
    | with_reducible assumption | with_reducible refine Keeps.forUpto ?_ (fun i s h => ?_)
    | (extract_lets +onlyGivenNames x) | split | exact rfl | with_reducible apply Keeps.mk_)

end Sys2Proof.Machine
end

