-- ==== Sys2Proof/Laws/KeepsIoRows.lean ====
section
/-! SUPPORT. What the operations of Machine/IoRows.lean keep (`Keeps`). -/

set_option Elab.async false

namespace Sys2Proof.Machine

set_option linter.all false
set_option maxRecDepth 20000

theorem keeps_State_inRow {b : Bool} {s0 s : State} {x1} {x2} {x3} (h : Keeps b s0 s) : KeepsR b s0 (State.inRow s x1 x2 x3) := by
  unfold State.inRow
  repeat' (first
    | with_reducible assumption | with_reducible refine keeps_State_issue ?_ (fun c s h => ?_)
    | with_reducible apply keeps_State_doIn)

theorem keeps_execAonDtfRead {b : Bool} {s0 s : State} {x0} {x1} (h : Keeps b s0 s) : KeepsR b s0 (execAonDtfRead x0 x1 s) := by
  unfold execAonDtfRead
  repeat' (first | with_reducible assumption | with_reducible apply keeps_State_inRow)

theorem keeps_execEvtStatRead {b : Bool} {s0 s : State} {x0} {x1} (h : Keeps b s0 s) : KeepsR b s0 (execEvtStatRead x0 x1 s) := by
  unfold execEvtStatRead
  repeat' (first | with_reducible assumption | with_reducible apply keeps_State_inRow)

theorem keeps_execMbxCcountRead {b : Bool} {s0 s : State} {x0} {x1} (h : Keeps b s0 s) : KeepsR b s0 (execMbxCcountRead x0 x1 s) := by
  unfold execMbxCcountRead
  repeat' (first | with_reducible assumption | with_reducible apply keeps_State_inRow)

theorem keeps_execRingDropRead {b : Bool} {s0 s : State} {x0} {x1} {x2} (h : Keeps b s0 s) : KeepsR b s0 (execRingDropRead x0 x1 x2 s) := by
  unfold execRingDropRead
  repeat' (first | with_reducible assumption | with_reducible apply keeps_State_inRow)

theorem keeps_execIntcClaim {b : Bool} {s0 s : State} {x0} {x1} {x2} (h : Keeps b s0 s) : KeepsR b s0 (execIntcClaim x0 x1 x2 s) := by
  unfold execIntcClaim
  repeat' (first | with_reducible assumption | with_reducible apply keeps_State_inRow)

theorem keeps_State_outRow {b : Bool} {s0 s : State} {x1} {x2} {x3} (h : Keeps b s0 s) : KeepsR b s0 (State.outRow s x1 x2 x3) := by
  unfold State.outRow
  repeat' (first
    | with_reducible assumption | with_reducible refine keeps_State_issue ?_ (fun c s h => ?_)
    | with_reducible apply keeps_State_doOut)

theorem keeps_execIntcEoi {b : Bool} {s0 s : State} {x0} {x1} {x2} (h : Keeps b s0 s) : KeepsR b s0 (execIntcEoi x0 x1 x2 s) := by
  unfold execIntcEoi
  repeat' (first | with_reducible assumption | with_reducible apply keeps_State_outRow)

theorem keeps_execUartRxdPop {b : Bool} {s0 s : State} {x0} {x1} {x2} (h : Keeps b s0 s) : KeepsR b s0 (execUartRxdPop x0 x1 x2 s) := by
  unfold execUartRxdPop
  repeat' (first | with_reducible assumption | with_reducible apply keeps_State_inRow)

theorem keeps_execUartTxdPush {b : Bool} {s0 s : State} {x0} {x1} {x2} (h : Keeps b s0 s) : KeepsR b s0 (execUartTxdPush x0 x1 x2 s) := by
  unfold execUartTxdPush
  repeat' (first | with_reducible assumption | with_reducible apply keeps_State_outRow)

theorem keeps_execUartFlushRx {b : Bool} {s0 s : State} {x0} {x1} {x2} (h : Keeps b s0 s) : KeepsR b s0 (execUartFlushRx x0 x1 x2 s) := by
  unfold execUartFlushRx
  repeat' (first | with_reducible assumption | with_reducible apply keeps_State_outRow)

theorem keeps_execUartFlushTx {b : Bool} {s0 s : State} {x0} {x1} {x2} (h : Keeps b s0 s) : KeepsR b s0 (execUartFlushTx x0 x1 x2 s) := by
  unfold execUartFlushTx
  repeat' (first | with_reducible assumption | with_reducible apply keeps_State_outRow)

theorem keeps_execUartBreakSend {b : Bool} {s0 s : State} {x0} {x1} {x2} (h : Keeps b s0 s) : KeepsR b s0 (execUartBreakSend x0 x1 x2 s) := by
  unfold execUartBreakSend
  repeat' (first | with_reducible assumption | with_reducible apply keeps_State_outRow)

theorem keeps_execRingProdWrite {b : Bool} {s0 s : State} {x0} {x1} {x2} (h : Keeps b s0 s) : KeepsR b s0 (execRingProdWrite x0 x1 x2 s) := by
  unfold execRingProdWrite
  repeat' (first | with_reducible assumption | with_reducible apply keeps_State_outRow)

theorem keeps_execRingConsWrite {b : Bool} {s0 s : State} {x0} {x1} {x2} (h : Keeps b s0 s) : KeepsR b s0 (execRingConsWrite x0 x1 x2 s) := by
  unfold execRingConsWrite
  repeat' (first | with_reducible assumption | with_reducible apply keeps_State_outRow)

theorem keeps_execRingCfgWrite {b : Bool} {s0 s : State} {x0} {x1} {x2} (h : Keeps b s0 s) : KeepsR b s0 (execRingCfgWrite x0 x1 x2 s) := by
  unfold execRingCfgWrite
  repeat' (first | with_reducible assumption | with_reducible apply keeps_State_outRow)

theorem keeps_execCanCfgWrite {b : Bool} {s0 s : State} {x0} {x1} {x2} (h : Keeps b s0 s) : KeepsR b s0 (execCanCfgWrite x0 x1 x2 s) := by
  unfold execCanCfgWrite
  repeat' (first | with_reducible assumption | with_reducible apply keeps_State_outRow)

theorem keeps_execCanRxconsWrite {b : Bool} {s0 s : State} {x0} {x1} {x2} (h : Keeps b s0 s) : KeepsR b s0 (execCanRxconsWrite x0 x1 x2 s) := by
  unfold execCanRxconsWrite
  repeat' (first | with_reducible assumption | with_reducible apply keeps_State_outRow)

theorem keeps_execCanTxprodWrite {b : Bool} {s0 s : State} {x0} {x1} {x2} (h : Keeps b s0 s) : KeepsR b s0 (execCanTxprodWrite x0 x1 x2 s) := by
  unfold execCanTxprodWrite
  repeat' (first | with_reducible assumption | with_reducible apply keeps_State_outRow)

theorem keeps_execDmaStart {b : Bool} {s0 s : State} {x0} {x1} {x2} (h : Keeps b s0 s) : KeepsR b s0 (execDmaStart x0 x1 x2 s) := by
  unfold execDmaStart
  repeat' (first | with_reducible assumption | with_reducible apply keeps_State_outRow)

theorem keeps_execDmaResume {b : Bool} {s0 s : State} {x0} {x1} {x2} (h : Keeps b s0 s) : KeepsR b s0 (execDmaResume x0 x1 x2 s) := by
  unfold execDmaResume
  repeat' (first | with_reducible assumption | with_reducible apply keeps_State_outRow)

theorem keeps_execDmaAbort {b : Bool} {s0 s : State} {x0} {x1} {x2} (h : Keeps b s0 s) : KeepsR b s0 (execDmaAbort x0 x1 x2 s) := by
  unfold execDmaAbort
  repeat' (first | with_reducible assumption | with_reducible apply keeps_State_outRow)

theorem keeps_execMmuInvalidatePage {b : Bool} {s0 s : State} {x0} {x1} {x2} (h : Keeps b s0 s) : KeepsR b s0 (execMmuInvalidatePage x0 x1 x2 s) := by
  unfold execMmuInvalidatePage
  repeat' (first | with_reducible assumption | with_reducible apply keeps_State_outRow)

theorem keeps_execMmuInvalidateAsid {b : Bool} {s0 s : State} {x0} {x1} {x2} (h : Keeps b s0 s) : KeepsR b s0 (execMmuInvalidateAsid x0 x1 x2 s) := by
  unfold execMmuInvalidateAsid
  repeat' (first | with_reducible assumption | with_reducible apply keeps_State_outRow)

theorem keeps_execMmuInvalidateAll {b : Bool} {s0 s : State} {x0} {x1} {x2} (h : Keeps b s0 s) : KeepsR b s0 (execMmuInvalidateAll x0 x1 x2 s) := by
  unfold execMmuInvalidateAll
  repeat' (first | with_reducible assumption | with_reducible apply keeps_State_outRow)

theorem keeps_execPwrReqRun {b : Bool} {s0 s : State} {x0} {x1} (h : Keeps b s0 s) : KeepsR b s0 (execPwrReqRun x0 x1 s) := by
  unfold execPwrReqRun
  repeat' (first | with_reducible assumption | with_reducible apply keeps_State_outRow)

theorem keeps_execPwrReqEntry {b : Bool} {s0 s : State} {x0} {x1} (h : Keeps b s0 s) : KeepsR b s0 (execPwrReqEntry x0 x1 s) := by
  unfold execPwrReqEntry
  repeat' (first | with_reducible assumption | with_reducible apply keeps_State_outRow)

theorem keeps_execLtimCfgWrite {b : Bool} {s0 s : State} {x0} {x1} {x2} (h : Keeps b s0 s) : KeepsR b s0 (execLtimCfgWrite x0 x1 x2 s) := by
  unfold execLtimCfgWrite
  repeat' (first | with_reducible assumption | with_reducible apply keeps_State_outRow)

theorem keeps_execWdtKick {b : Bool} {s0 s : State} {x0} {x1} {x2} (h : Keeps b s0 s) : KeepsR b s0 (execWdtKick x0 x1 x2 s) := by
  unfold execWdtKick
  repeat' (first | with_reducible assumption | with_reducible apply keeps_State_outRow)

theorem keeps_execPmonClear {b : Bool} {s0 s : State} {x0} {x1} {x2} (h : Keeps b s0 s) : KeepsR b s0 (execPmonClear x0 x1 x2 s) := by
  unfold execPmonClear
  repeat' (first | with_reducible assumption | with_reducible apply keeps_State_outRow)

theorem keeps_execPmonVallRead {b : Bool} {s0 s : State} {x0} {x1} {x2} (h : Keeps b s0 s) : KeepsR b s0 (execPmonVallRead x0 x1 x2 s) := by
  unfold execPmonVallRead
  repeat' (first | with_reducible assumption | with_reducible apply keeps_State_inRow)

theorem keeps_execMbxDoorbellOut {b : Bool} {s0 s : State} {x0} {x1} (h : Keeps b s0 s) : KeepsR b s0 (execMbxDoorbellOut x0 x1 s) := by
  unfold execMbxDoorbellOut
  repeat' (first | with_reducible assumption | with_reducible apply keeps_State_outRow)

theorem keeps_execRegisterWrite {b : Bool} {s0 s : State} {x0} {x1} {x2} (h : Keeps b s0 s) : KeepsR b s0 (execRegisterWrite x0 x1 x2 s) := by
  unfold execRegisterWrite
  repeat' (first | with_reducible assumption | with_reducible apply keeps_State_outRow)

theorem keeps_State_dmaPut {b : Bool} {s0 s : State} {x1} {x2} {x3} {x4} (h : Keeps b s0 s) : Keeps1 b s0 (State.dmaPut s x1 x2 x3 x4) := by
  unfold State.dmaPut
  repeat' (first
    | with_reducible assumption | with_reducible apply keeps_State_ioWrite | with_reducible apply keeps_State_dmaWrite
    | (refine Keeps.exc ?_ (by with_reducible assumption)) | split)

theorem keeps_State_dmaMoved {b : Bool} {s0 s : State} {x1} {x2} {x3} (h : Keeps b s0 s) : Keeps b s0 (State.dmaMoved s x1 x2 x3) := by
  unfold State.dmaMoved
  repeat' (first | with_reducible assumption | with_reducible apply keeps_State_modDma)

theorem keeps_State_dmaWrites {b : Bool} {s0 : State} {n d} : ∀ {l : List Nat} {k : Nat} {s : State}, Keeps b s0 s →
    Keeps1 b s0 (State.dmaWrites s n d k l)
  | [], _, _, h => h
  | v :: r, k, s, h => by
    unfold State.dmaWrites
    split
    · rename_i e
      have h1 := Keeps.fst (keeps_State_dmaPut h) e
      exact keeps_State_dmaFault (Keeps.ite (keeps_State_modDma h1) h1)
    · rename_i e
      exact keeps_State_dmaWrites (keeps_State_dmaMoved (Keeps.fst (keeps_State_dmaPut h) e))

theorem keeps_State_dmaElement {b : Bool} {s0 s : State} {x1} {x2} {x3} (h : Keeps b s0 s) : Keeps1 b s0 (State.dmaElement s x1 x2 x3) := by
  unfold State.dmaElement
  repeat' (first
    | with_reducible assumption | with_reducible apply keeps_State_ioRead | with_reducible apply keeps_State_dmaRead
    | (refine Keeps.fst ?_ (by with_reducible assumption)) | split)

theorem keeps_State_dmaReads {b : Bool} {s0 : State} {n d} : ∀ {j k : Nat} {s : State}, Keeps b s0 s →
    Keeps1 b s0 (State.dmaReads s n d k j)
  | 0, _, _, h => h
  | j + 1, k, s, h => by
    unfold State.dmaReads
    split
    · rename_i e; exact Keeps.fst (keeps_State_dmaElement h) e
    · rename_i e; exact keeps_State_dmaReads (Keeps.fst (keeps_State_dmaElement h) e)

theorem keeps_State_dmaDescriptorEnd {b : Bool} {s0 s : State} {n d} (h : Keeps b s0 s) : Keeps b s0 (State.dmaDescriptorEnd s n d) := by
  unfold State.dmaDescriptorEnd
  extract_lets +onlyGivenNames a wb
  have hw : Keeps1 b s0 wb := by
    dsimp only [wb]
    split
    · exact h
    · split
      · rename_i e; exact Keeps.fst (keeps_State_dmaWrite h) e
      · rename_i e
        have h1 := Keeps.fst (keeps_State_dmaWrite h) e
        split
        · rename_i e; exact Keeps.fst (keeps_State_dmaWrite h1) e
        · rename_i e; exact Keeps.fst (keeps_State_dmaWrite h1) e
  clear_value wb
  split
  · exact keeps_State_dmaFault hw
  · rename_i s1
    have h1 : Keeps b s0 s1 := hw
    extract_lets +onlyGivenNames s2
    have h2 : Keeps b s0 s2 := Keeps.ite (keeps_State_modDma (keeps_State_claim h1)) h1
    clear_value s2
    exact Keeps.ite (keeps_State_modDma h2) (keeps_State_dmaLoad h2)

theorem keeps_State_dmaBurst {b : Bool} {s0 s : State} {x1} {x2} (h : Keeps b s0 s) : Keeps b s0 (State.dmaBurst s x1 x2) := by
  unfold State.dmaBurst
  repeat' (first
    | with_reducible assumption | with_reducible apply keeps_State_dmaWrites | with_reducible apply keeps_State_dmaReads
    | with_reducible apply keeps_State_dmaFault | with_reducible apply keeps_State_count
    | with_reducible apply keeps_State_dmaDescriptorEnd | (extract_lets +onlyGivenNames x)
    | (refine Keeps.fst ?_ (by with_reducible assumption)) | split | (dsimp +zetaDelta only; split))

theorem keeps_execDmaBurst {b : Bool} {s0 s : State}  (h : Keeps b s0 s) : KeepsR b s0 (execDmaBurst s) := by
  unfold execDmaBurst
  repeat' (first
    | with_reducible assumption | with_reducible apply keeps_State_count | with_reducible apply keeps_State_dmaBurst
    | with_reducible apply keeps_State_modDma | with_reducible apply KeepsR.next | (extract_lets +onlyGivenNames x) | split
    | exact rfl | (dsimp +zetaDelta only; split) | with_reducible apply Keeps.mk_)

theorem keeps_execTimerExpiry {b : Bool} {s0 s : State} {x0} (h : Keeps b s0 s) : KeepsR b s0 (execTimerExpiry x0 s) := by
  unfold execTimerExpiry
  repeat' (first
    | with_reducible assumption | with_reducible apply keeps_State_count | with_reducible apply keeps_State_claim
    | with_reducible apply KeepsR.next | (extract_lets +onlyGivenNames x) | split | exact rfl
    | (dsimp +zetaDelta only; split) | with_reducible apply Keeps.mk_)

theorem keeps_execPmonOverflow {b : Bool} {s0 s : State} {x0} (h : Keeps b s0 s) : KeepsR b s0 (execPmonOverflow x0 s) := by
  unfold execPmonOverflow
  repeat' (first
    | with_reducible assumption | with_reducible apply KeepsR.next | (extract_lets +onlyGivenNames x) | split | exact rfl
    | with_reducible apply Keeps.mk_)

end Sys2Proof.Machine
end

