-- ==== Sys2Proof/Laws/KeepsLockstep.lean ====
section
/-! SUPPORT. What the operations of Machine/Lockstep.lean keep (`Keeps`). -/

set_option Elab.async false

namespace Sys2Proof.Machine

set_option linter.all false
set_option maxRecDepth 20000

theorem keeps_State_lockstepRecords {b : Bool} {s0 s : State} {x1} (h : Keeps b s0 s) : Keeps b s0 (State.lockstepRecords s x1) := by
  unfold State.lockstepRecords
  repeat' (first
    | with_reducible assumption | with_reducible apply keeps_State_domeRecord | with_reducible apply keeps_State_modCluster
    | with_reducible refine Keeps.foldl ?_ (fun s a h => ?_))

theorem keeps_State_clusterMismatch {b : Bool} {s0 s : State} {x1} {x2} {x3} (h : Keeps b s0 s) : Keeps b s0 (State.clusterMismatch s x1 x2 x3) := by
  unfold State.clusterMismatch
  repeat' (first
    | with_reducible assumption | with_reducible apply keeps_State_modTrk | with_reducible apply keeps_State_modCluster
    | with_reducible apply keeps_State_failCluster | with_reducible apply keeps_State_lockstepRecords
    | with_reducible apply keeps_State_loseRunCluster | (extract_lets +onlyGivenNames x) | split)

theorem keeps_State_supervisorMismatch {b : Bool} {s0 s : State} {x1} (h : Keeps b s0 s) : Keeps b s0 (State.supervisorMismatch s x1) := by
  unfold State.supervisorMismatch
  repeat' (first
    | with_reducible assumption | with_reducible apply keeps_State_modTrk | with_reducible apply keeps_State_calAbort
    | with_reducible apply keeps_State_endFix | with_reducible apply keeps_State_modEasel
    | (extract_lets +onlyGivenNames x) | split | (dsimp +zetaDelta only; split))

theorem keeps_execLockstepMismatch {b : Bool} {s0 s : State} {x0} (h : Keeps b s0 s) : KeepsR b s0 (execLockstepMismatch x0 s) := by
  unfold execLockstepMismatch
  repeat' (first
    | with_reducible assumption | with_reducible apply keeps_State_claim | with_reducible apply keeps_State_audit
    | with_reducible apply keeps_State_modCore | with_reducible apply keeps_State_clusterMismatch
    | with_reducible apply keeps_State_supervisorMismatch | with_reducible apply KeepsR.next
    | (extract_lets +onlyGivenNames x) | split)

theorem keeps_execLoopPairRestartComplete {b : Bool} {s0 s : State} {x0} (h : Keeps b s0 s) : KeepsR b s0 (execLoopPairRestartComplete x0 s) := by
  unfold execLoopPairRestartComplete
  repeat' (first
    | with_reducible assumption | with_reducible apply keeps_State_lockstepRecords
    | with_reducible apply keeps_State_modTrk | with_reducible apply keeps_State_modTp
    | with_reducible apply keeps_State_domeRecord | with_reducible apply KeepsR.next
    | with_reducible refine Keeps.foldl ?_ (fun s a h => ?_) | (extract_lets +onlyGivenNames x) | split)

end Sys2Proof.Machine
end

