-- ==== Sys2Proof/Laws/KeepsTpRows.lean ====
section
/-! SUPPORT. What the operations of Machine/TpRows.lean keep (`Keeps`). -/

set_option Elab.async false

namespace Sys2Proof.Machine

set_option linter.all false
set_option maxRecDepth 20000

theorem keeps_State_heatHoldover {b : Bool} {s0 s : State} {x1} (h : Keeps b s0 s) : Keeps b s0 (State.heatHoldover s x1) := by
  unfold State.heatHoldover
  repeat' (first | with_reducible assumption | with_reducible apply keeps_State_modTp)

theorem keeps_State_setTp {b : Bool} {s0 s : State} {x1} {x2} (h : Keeps b s0 s) : Keeps b s0 (State.setTp s x1 x2) := by
  unfold State.setTp
  repeat' (first
    | with_reducible assumption | with_reducible apply keeps_State_modGen | with_reducible apply keeps_State_enterTp
    | with_reducible apply keeps_State_stateRecord | with_reducible apply keeps_State_settleTp
    | (extract_lets +onlyGivenNames x) | split | (dsimp +zetaDelta only; split))

theorem keeps_bodyTpSet {b : Bool} {s0 s : State} {x0} (h : Keeps b s0 s) : Keeps1 b s0 (bodyTpSet x0 s) := by
  unfold bodyTpSet
  repeat' (first
    | with_reducible assumption | with_reducible apply keeps_State_setTp | with_reducible apply Keeps.checked)

theorem keeps_execTpSet {b : Bool} {s0 s : State} {x0} (h : Keeps b s0 s) : KeepsR b s0 (execTpSet x0 s) := by
  unfold execTpSet
  repeat' (first
    | with_reducible assumption | with_reducible refine keeps_hostCommand ?_ (fun c s h => ?_)
    | with_reducible apply keeps_bodyTpSet)

theorem keeps_bodyTpGet {b : Bool} {s0 s : State} {x0} (h : Keeps b s0 s) : Keeps1 b s0 (bodyTpGet x0 s) := by
  unfold bodyTpGet
  repeat' (first | with_reducible assumption | with_reducible apply Keeps.checked)

theorem keeps_execTpGet {b : Bool} {s0 s : State} {x0} (h : Keeps b s0 s) : KeepsR b s0 (execTpGet x0 s) := by
  unfold execTpGet
  repeat' (first
    | with_reducible assumption | with_reducible refine keeps_hostCommand ?_ (fun c s h => ?_)
    | with_reducible apply keeps_bodyTpGet)

theorem keeps_State_takeLimit {b : Bool} {s0 s : State}  (h : Keeps b s0 s) : Keeps b s0 (State.takeLimit s) := by
  unfold State.takeLimit
  repeat' (first | with_reducible assumption | with_reducible apply keeps_State_modTp)

theorem keeps_bodyTpSetHoldover {b : Bool} {s0 s : State} {x0} (h : Keeps b s0 s) : Keeps1 b s0 (bodyTpSetHoldover x0 s) := by
  unfold bodyTpSetHoldover
  repeat' (first
    | with_reducible assumption | with_reducible apply keeps_State_modTp | with_reducible apply keeps_State_takeLimit
    | with_reducible apply Keeps.checked | (extract_lets +onlyGivenNames x) | split)

theorem keeps_execTpSetHoldover {b : Bool} {s0 s : State} {x0} (h : Keeps b s0 s) : KeepsR b s0 (execTpSetHoldover x0 s) := by
  unfold execTpSetHoldover
  repeat' (first
    | with_reducible assumption | with_reducible refine keeps_hostCommand ?_ (fun c s h => ?_)
    | with_reducible apply keeps_bodyTpSetHoldover)

theorem keeps_bodyTpGetHoldover {b : Bool} {s0 s : State} {x0} (h : Keeps b s0 s) : Keeps1 b s0 (bodyTpGetHoldover x0 s) := by
  unfold bodyTpGetHoldover
  repeat' (first | with_reducible assumption | with_reducible apply keeps_query)

theorem keeps_execTpGetHoldover {b : Bool} {s0 s : State} {x0} (h : Keeps b s0 s) : KeepsR b s0 (execTpGetHoldover x0 s) := by
  unfold execTpGetHoldover
  repeat' (first
    | with_reducible assumption | with_reducible refine keeps_hostCommand ?_ (fun c s h => ?_)
    | with_reducible apply keeps_bodyTpGetHoldover)

theorem keeps_bodyTpGetState {b : Bool} {s0 s : State} {x0} (h : Keeps b s0 s) : Keeps1 b s0 (bodyTpGetState x0 s) := by
  unfold bodyTpGetState
  repeat' (first | with_reducible assumption | with_reducible apply Keeps.checked)

theorem keeps_execTpGetState {b : Bool} {s0 s : State} {x0} (h : Keeps b s0 s) : KeepsR b s0 (execTpGetState x0 s) := by
  unfold execTpGetState
  repeat' (first
    | with_reducible assumption | with_reducible refine keeps_hostCommand ?_ (fun c s h => ?_)
    | with_reducible apply keeps_bodyTpGetState)

theorem keeps_State_pulseState {b : Bool} {s0 s : State} {x1} (h : Keeps b s0 s) : Keeps b s0 (State.pulseState s x1) := by
  unfold State.pulseState
  repeat' (first | with_reducible assumption | with_reducible apply keeps_State_enterTp | split)

theorem keeps_State_stepRecord {b : Bool} {s0 s : State} {x1} {x2} {x3} (h : Keeps b s0 s) : Keeps b s0 (State.stepRecord s x1 x2 x3) := by
  unfold State.stepRecord
  repeat' (first
    | with_reducible assumption | with_reducible apply keeps_State_domeRecord | (extract_lets +onlyGivenNames x) | split)

theorem keeps_State_fixPulse {b : Bool} {s0 s : State} {x1} {x2} {x3} {x4} {x5} {x6} {x7} (h : Keeps b s0 s) : Keeps b s0 (State.fixPulse s x1 x2 x3 x4 x5 x6 x7) := by
  unfold State.fixPulse
  repeat' (first | with_reducible assumption | with_reducible apply keeps_State_modGen)

theorem keeps_State_announcePulse {b : Bool} {s0 s : State} {x1} {x2} {x3} {x4} {x5} (h : Keeps b s0 s) : Keeps b s0 (State.announcePulse s x1 x2 x3 x4 x5) := by
  unfold State.announcePulse
  repeat' (first
    | with_reducible assumption | with_reducible apply keeps_State_modGen | with_reducible apply keeps_State_enterTp
    | with_reducible apply keeps_State_stepRecord | with_reducible apply keeps_State_fixPulse
    | with_reducible apply keeps_State_modTp | with_reducible apply keeps_State_domeRecord
    | (extract_lets +onlyGivenNames x) | split | (dsimp +zetaDelta only; split))

theorem keeps_execTpPulse {b : Bool} {s0 s : State} {x0} {x1} {x2} {x3} (h : Keeps b s0 s) : KeepsR b s0 (execTpPulse x0 x1 x2 x3 s) := by
  unfold execTpPulse
  repeat' (first
    | with_reducible assumption | with_reducible apply keeps_State_takeLimit | with_reducible apply keeps_State_glazeDtp
    | with_reducible apply keeps_State_pulseState | with_reducible apply keeps_State_heatHoldover
    | with_reducible apply keeps_State_announcePulse | with_reducible apply KeepsR.next | (extract_lets +onlyGivenNames x)
    | split | (dsimp +zetaDelta only; split))

theorem keeps_execTpLeadingEdge {b : Bool} {s0 s : State} {x0} (h : Keeps b s0 s) : KeepsR b s0 (execTpLeadingEdge x0 s) := by
  unfold execTpLeadingEdge
  repeat' (first
    | with_reducible assumption | with_reducible apply keeps_State_modGen | with_reducible apply KeepsR.next | split)

theorem keeps_execTpTrailingEdge {b : Bool} {s0 s : State} {x0} (h : Keeps b s0 s) : KeepsR b s0 (execTpTrailingEdge x0 s) := by
  unfold execTpTrailingEdge
  repeat' (first
    | with_reducible assumption | with_reducible apply keeps_State_settleTp | with_reducible apply keeps_State_modGen
    | with_reducible apply KeepsR.next | split)

theorem keeps_execHoldoverStart {b : Bool} {s0 s : State} {x0} (h : Keeps b s0 s) : KeepsR b s0 (execHoldoverStart x0 s) := by
  unfold execHoldoverStart
  repeat' (first
    | with_reducible assumption | with_reducible apply keeps_State_modTp | with_reducible apply KeepsR.next | split)

theorem keeps_execHoldoverDtMap {b : Bool} {s0 s : State} {x0} (h : Keeps b s0 s) : KeepsR b s0 (execHoldoverDtMap x0 s) := by
  unfold execHoldoverDtMap
  repeat' (first
    | with_reducible assumption | with_reducible apply keeps_State_heatHoldover | with_reducible apply keeps_State_claim
    | with_reducible apply keeps_State_modTp | with_reducible apply keeps_State_writeMap | with_reducible apply KeepsR.next
    | (extract_lets +onlyGivenNames x) | split)

theorem keeps_execHoldLimitReached {b : Bool} {s0 s : State}  (h : Keeps b s0 s) : KeepsR b s0 (execHoldLimitReached s) := by
  unfold execHoldLimitReached
  repeat' (first
    | with_reducible assumption | with_reducible apply keeps_State_modTp | with_reducible apply keeps_State_thenEnter
    | with_reducible apply KeepsR.next | with_reducible refine Keeps.forUpto ?_ (fun i s h => ?_)
    | (extract_lets +onlyGivenNames x) | split)

end Sys2Proof.Machine
end

