-- ==== Sys2Proof/Laws/KeepsNav.lean ====
section
/-! SUPPORT. What the operations of Machine/Nav.lean keep (`Keeps`). -/

set_option Elab.async false

namespace Sys2Proof.Machine

set_option linter.all false
set_option maxRecDepth 20000

theorem keeps_State_frozenEpoch {b : Bool} {s0 s : State}  (h : Keeps b s0 s) : Keeps b s0 (State.frozenEpoch s) := by
  unfold State.frozenEpoch
  repeat' (first
    | with_reducible assumption | with_reducible apply keeps_State_modTrk | with_reducible apply keeps_State_countEpoch
    | with_reducible apply keeps_State_applyRate | with_reducible apply keeps_State_modNav)

theorem keeps_State_judgeTwins {b : Bool} {s0 s : State} {x1} {x2} {x3} (h : Keeps b s0 s) : Keeps b s0 (State.judgeTwins s x1 x2 x3) := by
  unfold State.judgeTwins
  repeat' (first
    | with_reducible assumption | with_reducible apply keeps_State_twinRecord | with_reducible apply keeps_State_modWatch
    | with_reducible refine Keeps.foldl ?_ (fun s a h => ?_) | (extract_lets +onlyGivenNames x) | split)

theorem keeps_State_checkSat {b : Bool} {s0 s : State} {x1} {x2} (h : Keeps b s0 s) : Keeps b s0 (State.checkSat s x1 x2) := by
  unfold State.checkSat
  repeat' (first | with_reducible assumption | with_reducible apply keeps_State_modNav)

theorem keeps_State_checkGlobal {b : Bool} {s0 s : State} {x1} {x2} {x3} {x4} (h : Keeps b s0 s) : Keeps b s0 (State.checkGlobal s x1 x2 x3 x4) := by
  unfold State.checkGlobal
  repeat' (first | with_reducible assumption | with_reducible apply keeps_State_modNav)

theorem keeps_State_checkClock {b : Bool} {s0 s : State} {x1} (h : Keeps b s0 s) : Keeps b s0 (State.checkClock s x1) := by
  unfold State.checkClock
  repeat' (first
    | with_reducible assumption | with_reducible apply keeps_State_modNav | (extract_lets +onlyGivenNames x) | split)

theorem keeps_State_judge {b : Bool} {s0 s : State} {x1} {x2} {x3} (h : Keeps b s0 s) : Keeps1 b s0 (State.judge s x1 x2 x3) := by
  unfold State.judge
  repeat' (first
    | with_reducible assumption | with_reducible apply keeps_State_judgeTwins | with_reducible apply keeps_State_checkSat
    | with_reducible apply keeps_State_modNav | with_reducible apply keeps_State_checkGlobal
    | with_reducible apply keeps_State_checkClock | with_reducible refine Keeps.foldl ?_ (fun s a h => ?_)
    | (extract_lets +onlyGivenNames x) | split)

theorem keeps_State_verdictRecord {b : Bool} {s0 s : State} {x1} {x2} {x3} (h : Keeps b s0 s) : Keeps b s0 (State.verdictRecord s x1 x2 x3) := by
  unfold State.verdictRecord
  repeat' (first | with_reducible assumption | with_reducible apply keeps_State_domeRecord | split)

theorem keeps_State_solutionRecords {b : Bool} {s0 s : State} {x1} {x2} {x3} {x4} {x5} {x6} (h : Keeps b s0 s) : Keeps b s0 (State.solutionRecords s x1 x2 x3 x4 x5 x6) := by
  unfold State.solutionRecords
  repeat' (first
    | with_reducible assumption | with_reducible apply keeps_State_domeRecord | with_reducible apply keeps_State_modNav
    | with_reducible apply keeps_State_verdictRecord)

theorem keeps_State_keepSolution {b : Bool} {s0 s : State} {x1} {x2} {x3} (h : Keeps b s0 s) : Keeps b s0 (State.keepSolution s x1 x2 x3) := by
  unfold State.keepSolution
  repeat' (first
    | with_reducible assumption | with_reducible apply keeps_State_modTrk | with_reducible apply keeps_State_modNav)

theorem keeps_State_mapAtEpoch {b : Bool} {s0 s : State} {x1} (h : Keeps b s0 s) : Keeps b s0 (State.mapAtEpoch s x1) := by
  unfold State.mapAtEpoch
  repeat' (first | with_reducible assumption | with_reducible apply keeps_State_writeMap | split)

theorem keeps_State_solve {b : Bool} {s0 s : State} {x1} {x2} {x3} (h : Keeps b s0 s) : Keeps b s0 (State.solve s x1 x2 x3) := by
  unfold State.solve
  split; rename_i s1 j e
  have h1 : Keeps b s0 s1 := Keeps.fst (keeps_State_judge h) e
  clear e
  extract_lets +onlyGivenNames old s2
  have h2 : Keeps b s0 s2 := keeps_State_modNav h1
  clear_value s2
  extract_lets +onlyGivenNames held s3
  have h3 : Keeps b s0 s3 := keeps_State_modSeal h2 rfl rfl
  clear_value s3
  extract_lets +onlyGivenNames qualified vel s4
  have h4 : Keeps b s0 s4 := keeps_State_solutionRecords h3
  clear_value s4
  extract_lets +onlyGivenNames m s5
  have h5 : Keeps b s0 s5 := keeps_State_keepSolution h4
  clear_value s5
  extract_lets +onlyGivenNames s6
  have h6 : Keeps b s0 s6 := keeps_State_steerTp h5
  clear_value s6
  extract_lets +onlyGivenNames s7
  have h7 : Keeps b s0 s7 := keeps_State_mapAtEpoch h6
  clear_value s7
  extract_lets +onlyGivenNames ok s8
  have h8 : Keeps b s0 s8 := keeps_State_modNav h7
  clear_value s8
  extract_lets +onlyGivenNames s9
  have h9 : Keeps b s0 s9 := Keeps.ite (keeps_State_acceptSolution h8) (Keeps.ite (keeps_State_rejectSolution h8) h8)
  exact keeps_State_modNav h9

theorem keeps_State_backgroundAtEpoch {b : Bool} {s0 s : State}  (h : Keeps b s0 s) : Keeps b s0 (State.backgroundAtEpoch s) := by
  unfold State.backgroundAtEpoch
  repeat' (first
    | with_reducible assumption | with_reducible apply keeps_State_followTwins
    | with_reducible apply keeps_State_watchBoundary | with_reducible apply keeps_State_serveQueue
    | with_reducible apply keeps_State_yieldWatch | with_reducible apply keeps_State_calBoundary
    | (extract_lets +onlyGivenNames x) | split)

theorem keeps_State_epoch {b : Bool} {s0 s : State} {x1} {x2} {x3} (h : Keeps b s0 s) : Keeps b s0 (State.epoch s x1 x2 x3) := by
  unfold State.epoch
  split; rename_i cause s1 e
  have h1 : Keeps b s0 s1 := Keeps.snd (keeps_State_claim h) e
  clear e
  extract_lets +onlyGivenNames step due fit s2
  have h2 : Keeps b s0 s2 := keeps_State_heatHoldover (keeps_State_tempTrigger (keeps_State_applyRate h1))
  clear_value s2
  extract_lets +onlyGivenNames s3
  have h3 : Keeps b s0 s3 := keeps_State_glaze (keeps_State_boundarySettings h2)
  clear_value s3
  split; rename_i s4 recs e
  have h4 : Keeps b s0 s4 := Keeps.fst (keeps_State_takeUnits h3) e
  clear e
  extract_lets +onlyGivenNames s5
  have h5 : Keeps b s0 s5 := keeps_State_epochRecords h4
  clear_value s5
  extract_lets +onlyGivenNames s6
  have h6 : Keeps b s0 s6 := Keeps.ite (keeps_State_solve h5) h5
  clear_value s6
  exact keeps_State_backgroundAtEpoch (keeps_State_endInterval (keeps_State_countEpoch (keeps_State_mapAtEpoch h6)))

theorem keeps_execMeasurementEpoch {b : Bool} {s0 s : State} {x0} {x1} {x2} {x3} (h : Keeps b s0 s) : KeepsR b s0 (execMeasurementEpoch x0 x1 x2 x3 s) := by
  unfold execMeasurementEpoch
  repeat' (first
    | with_reducible assumption  | with_reducible apply keeps_State_frozenEpoch | with_reducible apply keeps_State_epoch
    | with_reducible apply KeepsR.next | split)

theorem keeps_execClaimRelease {b : Bool} {s0 s : State}  (h : Keeps b s0 s) : KeepsR b s0 (execClaimRelease s) := by
  unfold execClaimRelease
  repeat' (first
    | with_reducible assumption | with_reducible apply keeps_State_calRelease | with_reducible apply keeps_State_yieldWatch
    | with_reducible apply keeps_State_modWatch | with_reducible apply KeepsR.next | (extract_lets +onlyGivenNames x)
    | split | (dsimp +zetaDelta only; split))

end Sys2Proof.Machine
end

