-- ==== Sys2Proof/Laws/KeepsNavRows.lean ====
section
/-! SUPPORT. What the operations of Machine/NavRows.lean keep (`Keeps`). -/

set_option Elab.async false

namespace Sys2Proof.Machine

set_option linter.all false
set_option maxRecDepth 20000

theorem keeps_State_sketchFixed {b : Bool} {s0 s : State} {x1} {x2} {x3} {x4} (h : Keeps b s0 s) : Keeps b s0 (State.sketchFixed s x1 x2 x3 x4) := by
  unfold State.sketchFixed
  repeat' (first
    | with_reducible assumption | with_reducible apply keeps_State_claim | with_reducible apply keeps_State_domeRecord
    | with_reducible apply keeps_State_modNav | with_reducible apply keeps_State_writeMap
    | with_reducible apply keeps_State_acceptSolution | with_reducible apply keeps_State_rejectSolution
    | (extract_lets +onlyGivenNames x) | split)

theorem keeps_execSketchFixComplete {b : Bool} {s0 s : State} {x0} {x1} (h : Keeps b s0 s) : KeepsR b s0 (execSketchFixComplete x0 x1 s) := by
  unfold execSketchFixComplete
  repeat' (first
    | with_reducible assumption | with_reducible apply keeps_State_sketchFixed | with_reducible apply keeps_State_modEasel
    | with_reducible apply keeps_State_powerDownIdle | with_reducible apply keeps_State_endFix
    | with_reducible apply KeepsR.next | (extract_lets +onlyGivenNames x) | split | (dsimp +zetaDelta only; split))

theorem keeps_bodyNavSetConfig {b : Bool} {s0 s : State} {x0} (h : Keeps b s0 s) : Keeps1 b s0 (bodyNavSetConfig x0 s) := by
  unfold bodyNavSetConfig
  repeat' (first
    | with_reducible assumption | with_reducible apply keeps_State_modNav | with_reducible apply keeps_State_enterChanges
    | with_reducible apply Keeps.checked)

theorem keeps_execNavSetConfig {b : Bool} {s0 s : State} {x0} (h : Keeps b s0 s) : KeepsR b s0 (execNavSetConfig x0 s) := by
  unfold execNavSetConfig
  repeat' (first
    | with_reducible assumption | with_reducible refine keeps_hostCommand ?_ (fun c s h => ?_)
    | with_reducible apply keeps_bodyNavSetConfig)

theorem keeps_bodyNavGetConfig {b : Bool} {s0 s : State} {x0} (h : Keeps b s0 s) : Keeps1 b s0 (bodyNavGetConfig x0 s) := by
  unfold bodyNavGetConfig
  repeat' (first | with_reducible assumption | with_reducible apply keeps_query)

theorem keeps_execNavGetConfig {b : Bool} {s0 s : State} {x0} (h : Keeps b s0 s) : KeepsR b s0 (execNavGetConfig x0 s) := by
  unfold execNavGetConfig
  repeat' (first
    | with_reducible assumption | with_reducible refine keeps_hostCommand ?_ (fun c s h => ?_)
    | with_reducible apply keeps_bodyNavGetConfig)

theorem keeps_bodyNavSetPrior {b : Bool} {s0 s : State} {x0} (h : Keeps b s0 s) : Keeps1 b s0 (bodyNavSetPrior x0 s) := by
  unfold bodyNavSetPrior
  repeat' (first
    | with_reducible assumption | with_reducible apply keeps_State_modNav | with_reducible apply Keeps.checked)

theorem keeps_execNavSetPrior {b : Bool} {s0 s : State} {x0} (h : Keeps b s0 s) : KeepsR b s0 (execNavSetPrior x0 s) := by
  unfold execNavSetPrior
  repeat' (first
    | with_reducible assumption | with_reducible refine keeps_hostCommand ?_ (fun c s h => ?_)
    | with_reducible apply keeps_bodyNavSetPrior)

theorem keeps_bodyNavSetTime {b : Bool} {s0 s : State} {x0} (h : Keeps b s0 s) : Keeps1 b s0 (bodyNavSetTime x0 s) := by
  unfold bodyNavSetTime
  repeat' (first
    | with_reducible assumption | with_reducible apply keeps_State_modNav | with_reducible apply Keeps.checked)

theorem keeps_execNavSetTime {b : Bool} {s0 s : State} {x0} (h : Keeps b s0 s) : KeepsR b s0 (execNavSetTime x0 s) := by
  unfold execNavSetTime
  repeat' (first
    | with_reducible assumption | with_reducible refine keeps_hostCommand ?_ (fun c s h => ?_)
    | with_reducible apply keeps_bodyNavSetTime)

theorem keeps_bodyNavLoadUnit {b : Bool} {s0 s : State} {x0} (h : Keeps b s0 s) : Keeps1 b s0 (bodyNavLoadUnit x0 s) := by
  unfold bodyNavLoadUnit
  repeat' (first
    | with_reducible assumption | with_reducible apply keeps_State_hear | with_reducible apply keeps_State_putEph
    | with_reducible apply keeps_State_modNav | with_reducible apply Keeps.checked | (extract_lets +onlyGivenNames x)
    | split)

theorem keeps_execNavLoadUnit {b : Bool} {s0 s : State} {x0} (h : Keeps b s0 s) : KeepsR b s0 (execNavLoadUnit x0 s) := by
  unfold execNavLoadUnit
  repeat' (first
    | with_reducible assumption | with_reducible refine keeps_hostCommand ?_ (fun c s h => ?_)
    | with_reducible apply keeps_bodyNavLoadUnit)

theorem keeps_bodyNavGetEph {b : Bool} {s0 s : State} {x0} (h : Keeps b s0 s) : Keeps1 b s0 (bodyNavGetEph x0 s) := by
  unfold bodyNavGetEph
  repeat' (first | with_reducible assumption | with_reducible apply keeps_query)

theorem keeps_execNavGetEph {b : Bool} {s0 s : State} {x0} (h : Keeps b s0 s) : KeepsR b s0 (execNavGetEph x0 s) := by
  unfold execNavGetEph
  repeat' (first
    | with_reducible assumption | with_reducible refine keeps_hostCommand ?_ (fun c s h => ?_)
    | with_reducible apply keeps_bodyNavGetEph)

theorem keeps_bodyNavGetSolution {b : Bool} {s0 s : State} {x0} (h : Keeps b s0 s) : Keeps1 b s0 (bodyNavGetSolution x0 s) := by
  unfold bodyNavGetSolution
  repeat' (first | with_reducible assumption | split)

theorem keeps_execNavGetSolution {b : Bool} {s0 s : State} {x0} (h : Keeps b s0 s) : KeepsR b s0 (execNavGetSolution x0 s) := by
  unfold execNavGetSolution
  repeat' (first
    | with_reducible assumption | with_reducible refine keeps_hostCommand ?_ (fun c s h => ?_)
    | with_reducible apply keeps_bodyNavGetSolution)

theorem keeps_bodyIntegSetConfig {b : Bool} {s0 s : State} {x0} (h : Keeps b s0 s) : Keeps1 b s0 (bodyIntegSetConfig x0 s) := by
  unfold bodyIntegSetConfig
  repeat' (first
    | with_reducible assumption | with_reducible apply keeps_State_modNav | with_reducible apply keeps_State_enterChanges
    | with_reducible apply Keeps.checked)

theorem keeps_execIntegSetConfig {b : Bool} {s0 s : State} {x0} (h : Keeps b s0 s) : KeepsR b s0 (execIntegSetConfig x0 s) := by
  unfold execIntegSetConfig
  repeat' (first
    | with_reducible assumption | with_reducible refine keeps_hostCommand ?_ (fun c s h => ?_)
    | with_reducible apply keeps_bodyIntegSetConfig)

theorem keeps_bodyIntegGetConfig {b : Bool} {s0 s : State} {x0} (h : Keeps b s0 s) : Keeps1 b s0 (bodyIntegGetConfig x0 s) := by
  unfold bodyIntegGetConfig
  repeat' (first | with_reducible assumption | with_reducible apply keeps_query)

theorem keeps_execIntegGetConfig {b : Bool} {s0 s : State} {x0} (h : Keeps b s0 s) : KeepsR b s0 (execIntegGetConfig x0 s) := by
  unfold execIntegGetConfig
  repeat' (first
    | with_reducible assumption | with_reducible refine keeps_hostCommand ?_ (fun c s h => ?_)
    | with_reducible apply keeps_bodyIntegGetConfig)

theorem keeps_bodyIntegGetStatus {b : Bool} {s0 s : State} {x0} (h : Keeps b s0 s) : Keeps1 b s0 (bodyIntegGetStatus x0 s) := by
  unfold bodyIntegGetStatus
  repeat' (first | with_reducible assumption | with_reducible apply keeps_query)

theorem keeps_execIntegGetStatus {b : Bool} {s0 s : State} {x0} (h : Keeps b s0 s) : KeepsR b s0 (execIntegGetStatus x0 s) := by
  unfold execIntegGetStatus
  repeat' (first
    | with_reducible assumption | with_reducible refine keeps_hostCommand ?_ (fun c s h => ?_)
    | with_reducible apply keeps_bodyIntegGetStatus)

end Sys2Proof.Machine
end

