-- ==== Sys2Proof/Laws/KeepsRlink.lean ====
section
/-! SUPPORT. What the operations of Machine/Rlink.lean keep (`Keeps`). -/

set_option Elab.async false

namespace Sys2Proof.Machine

set_option linter.all false
set_option maxRecDepth 20000

theorem keeps_State_sequenceDone {b : Bool} {s0 s : State} {x1} {x2} (h : Keeps b s0 s) : Keeps b s0 (State.sequenceDone s x1 x2) := by
  unfold State.sequenceDone
  repeat' (first
    | with_reducible assumption | with_reducible apply keeps_State_modRlink | with_reducible apply keeps_State_rlinkStart
    | with_reducible apply keeps_State_modPwr | with_reducible apply keeps_State_modBoot
    | with_reducible apply keeps_State_powerDomains | with_reducible apply keeps_State_finalReply
    | with_reducible apply keeps_State_completeEntry | with_reducible apply keeps_State_canaries
    | (extract_lets +onlyGivenNames x; have hf : (_ → _) := x; clear hf; dsimp only [x]; clear x)
    | (extract_lets +onlyGivenNames x) | split)

theorem keeps_State_sent {b : Bool} {s0 s : State} {x1} (h : Keeps b s0 s) : Keeps b s0 (State.sent s x1) := by
  unfold State.sent
  repeat' (first | with_reducible assumption | with_reducible apply keeps_State_modRlink)

theorem keeps_execRlinkAck {b : Bool} {s0 s : State} {x0} {x1} (h : Keeps b s0 s) : KeepsR b s0 (execRlinkAck x0 x1 s) := by
  unfold execRlinkAck
  repeat' (first
    | with_reducible assumption | with_reducible apply keeps_State_modRlink | with_reducible apply keeps_State_sequenceDone
    | with_reducible apply keeps_State_sent | with_reducible apply KeepsR.next | (extract_lets +onlyGivenNames x) | split)

theorem keeps_execRlinkPoll {b : Bool} {s0 s : State} {x0} (h : Keeps b s0 s) : KeepsR b s0 (execRlinkPoll x0 s) := by
  unfold execRlinkPoll
  repeat' (first
    | with_reducible assumption | with_reducible apply keeps_State_modRlink | with_reducible apply keeps_State_sent
    | with_reducible apply KeepsR.next | split)

theorem keeps_State_stageOneFailed {b : Bool} {s0 s : State}  (h : Keeps b s0 s) : Keeps b s0 (State.stageOneFailed s) := by
  unfold State.stageOneFailed
  repeat' (first | with_reducible assumption | with_reducible apply keeps_State_modRlink)

theorem keeps_State_sequenceFailed {b : Bool} {s0 s : State} {x1} (h : Keeps b s0 s) : Keeps b s0 (State.sequenceFailed s x1) := by
  unfold State.sequenceFailed
  repeat' (first
    | with_reducible assumption | with_reducible apply keeps_State_modRlink
    | with_reducible apply keeps_State_stageOneFailed | with_reducible apply keeps_State_modBoot
    | with_reducible apply keeps_State_modPwr | with_reducible apply keeps_State_finalOption
    | with_reducible apply keeps_State_finalReply | with_reducible apply keeps_State_rlinkStart
    | (extract_lets +onlyGivenNames x) | split)

theorem keeps_State_attemptFailed {b : Bool} {s0 s : State} {x1} {x2} (h : Keeps b s0 s) : Keeps b s0 (State.attemptFailed s x1 x2) := by
  unfold State.attemptFailed
  repeat' (first
    | with_reducible assumption | with_reducible apply keeps_State_modRlink
    | with_reducible apply keeps_State_sequenceFailed | split)

theorem keeps_execRlinkNack {b : Bool} {s0 s : State}  (h : Keeps b s0 s) : KeepsR b s0 (execRlinkNack s) := by
  unfold execRlinkNack
  repeat' (first
    | with_reducible assumption | with_reducible apply keeps_State_attemptFailed | with_reducible apply keeps_State_sent
    | with_reducible apply KeepsR.next | split)

theorem keeps_execRlinkAttemptTimeout {b : Bool} {s0 s : State}  (h : Keeps b s0 s) : KeepsR b s0 (execRlinkAttemptTimeout s) := by
  unfold execRlinkAttemptTimeout
  repeat' (first
    | with_reducible assumption | with_reducible apply keeps_State_attemptFailed | with_reducible apply KeepsR.next | split)

theorem keeps_execRlinkRetry {b : Bool} {s0 s : State}  (h : Keeps b s0 s) : KeepsR b s0 (execRlinkRetry s) := by
  unfold execRlinkRetry
  repeat' (first
    | with_reducible assumption | with_reducible apply keeps_State_modRlink | with_reducible apply keeps_State_beginWake
    | with_reducible apply keeps_State_rlinkStart | with_reducible apply KeepsR.next | (extract_lets +onlyGivenNames x)
    | split)

theorem keeps_execStage1Retry {b : Bool} {s0 s : State}  (h : Keeps b s0 s) : KeepsR b s0 (execStage1Retry s) := by
  unfold execStage1Retry
  repeat' (first
    | with_reducible assumption | with_reducible apply keeps_State_rlinkStart | with_reducible apply keeps_State_modRlink
    | with_reducible apply KeepsR.next | split)

theorem keeps_execRlinkTransactionEnd {b : Bool} {s0 s : State} {x0} (h : Keeps b s0 s) : KeepsR b s0 (execRlinkTransactionEnd x0 s) := by
  unfold execRlinkTransactionEnd
  repeat' (first
    | with_reducible assumption | with_reducible apply keeps_State_sent | with_reducible apply keeps_State_modRlink
    | with_reducible apply keeps_State_sequenceDone | with_reducible apply keeps_State_stageOneFailed
    | with_reducible apply KeepsR.next | (extract_lets +onlyGivenNames x) | split | (dsimp +zetaDelta only; split))

end Sys2Proof.Machine
end

