-- ==== Sys2Proof/Laws/KeepsTick.lean ====
section
/-! SUPPORT. What the operations of Machine/Tick.lean keep (`Keeps`). -/

set_option Elab.async false

namespace Sys2Proof.Machine

set_option linter.all false
set_option maxRecDepth 20000

theorem keeps_State_countHead {b : Bool} {s0 s : State}  (h : Keeps b s0 s) : Keeps b s0 (State.countHead s) := by
  unfold State.countHead
  repeat' (first | with_reducible assumption | with_reducible apply keeps_State_modChain | split)

theorem keeps_State_powerLanes {b : Bool} {s0 s : State}  (h : Keeps b s0 s) : Keeps b s0 (State.powerLanes s) := by
  unfold State.powerLanes
  repeat' (first | with_reducible assumption | with_reducible apply keeps_State_modChain | split)

theorem keeps_State_rest {b : Bool} {s0 s : State}  (h : Keeps b s0 s) : Keeps b s0 (State.rest s) := by
  unfold State.rest
  repeat' (first
    | with_reducible assumption | with_reducible apply keeps_State_request | with_reducible apply keeps_State_modEasel
    | split)

theorem keeps_State_ringDrum {b : Bool} {s0 s : State}  (h : Keeps b s0 s) : Keeps b s0 (State.ringDrum s) := by
  unfold State.ringDrum
  repeat' (first
    | with_reducible assumption | with_reducible apply keeps_State_count | (extract_lets +onlyGivenNames x) | split
    | exact rfl | with_reducible apply Keeps.mk_)

theorem keeps_State_countPassed {b : Bool} {s0 s : State}  (h : Keeps b s0 s) : Keeps b s0 (State.countPassed s) := by
  unfold State.countPassed
  repeat' (first
    | with_reducible assumption | with_reducible apply keeps_State_modRing
    | with_reducible refine Keeps.forUpto ?_ (fun i s h => ?_) | (extract_lets +onlyGivenNames x) | split)

theorem keeps_State_fastTick {s0 s : State}  (h : Keeps false s0 s) : Keeps false s0 (State.fastTick s) := by
  unfold State.fastTick
  extract_lets +onlyGivenNames s1
  have h1 : Keeps false s0 s1 := keeps_State_countHead (keeps_State_powerLanes (keeps_State_wakeTimeouts (keeps_State_returnCredits
    (keeps_State_retryHeld (keeps_State_rest (keeps_State_nextFix (keeps_State_judgeLower (keeps_State_followLanes
    (keeps_State_lockLanes h)))))))))
  clear_value s1
  extract_lets +onlyGivenNames s2
  have h2 : Keeps false s0 s2 := keeps_State_ringDrum (keeps_State_canTick (keeps_State_canTick (keeps_State_countPassed (keeps_State_serveQueue
    (keeps_State_expireReacq h1)))))
  clear_value s2
  extract_lets +onlyGivenNames s3
  have h3 : Keeps false s0 s3 := Keeps.ite (keeps_State_sampleSources h2) h2
  clear_value s3
  extract_lets +onlyGivenNames a b c t
  have h4 : Keeps false s0 t := h3.trans ⟨rfl, nofun, id, le_rfl, fun h => ⟨fun _ => le_rfl, h⟩⟩
  clear_value t
  exact Keeps.mk_ h4 rfl rfl rfl rfl

theorem keeps_State_slowTick {s0 s : State}  (h : Keeps false s0 s) : Keeps false s0 (State.slowTick s) := by
  unfold State.slowTick
  refine h.trans ⟨rfl, nofun, id, le_rfl, fun h => ⟨fun _ => le_rfl, h⟩⟩

theorem keeps_State_tickEnd {s0 s : State}  (h : Keeps false s0 s) : Keeps false s0 (State.tickEnd s) := by
  unfold State.tickEnd
  repeat' (first
    | with_reducible assumption | with_reducible apply keeps_State_fastTick | with_reducible apply keeps_State_slowTick
    | split)

end Sys2Proof.Machine
end

