-- ==== Sys2Proof/Laws/KeepsExec.lean ====
section
/-! SUPPORT. What every command and every step keep (`Keeps`). -/

set_option Elab.async false

namespace Sys2Proof.Machine

theorem exec_keeps (i : Instr) (s : State) : KeepsR (timeless i) s (exec i s) :=
  match i with
  | .nop _ _ => keeps_execNop .refl
  | .ldi _ _ => keeps_execLdi .refl
  | .mov _ _ => keeps_execMov .refl
  | .lea _ _ => keeps_execLea .refl
  | .add _ _ => keeps_execAdd .refl
  | .sub _ _ => keeps_execSub .refl
  | .rsb _ _ => keeps_execRsb .refl
  | .and _ _ => keeps_execAnd .refl
  | .or _ _ => keeps_execOr .refl
  | .xor _ _ => keeps_execXor .refl
  | .shl _ _ _ _ => keeps_execShl .refl
  | .shr _ _ _ _ => keeps_execShr .refl
  | .sar _ _ _ _ => keeps_execSar .refl
  | .ror _ _ _ _ => keeps_execRor .refl
  | .mul _ _ => keeps_execMul .refl
  | .mulu _ _ => keeps_execMulu .refl
  | .bareMulProductLand _ => keeps_execBareMulProductLand .refl
  | .ldw _ _ => keeps_execLdw .refl
  | .ldh _ _ => keeps_execLdh .refl
  | .ldhu _ _ => keeps_execLdhu .refl
  | .ldb _ _ => keeps_execLdb .refl
  | .ldbu _ _ => keeps_execLdbu .refl
  | .stw _ _ => keeps_execStw .refl
  | .sth _ _ => keeps_execSth .refl
  | .stb _ _ => keeps_execStb .refl
  | .push _ _ => keeps_execPush .refl
  | .pop _ _ => keeps_execPop .refl
  | .inp _ _ => keeps_execInp .refl
  | .outp _ _ => keeps_execOutp .refl
  | .cbr _ _ => keeps_execCbr .refl
  | .cbi _ _ => keeps_execCbi .refl
  | .br _ _ => keeps_execBr .refl
  | .jmp _ _ => keeps_execJmp .refl
  | .call _ _ => keeps_execCall .refl
  | .jmpr _ _ _ => keeps_execJmpr .refl
  | .callr _ _ _ => keeps_execCallr .refl
  | .ret _ _ => keeps_execRet .refl
  | .rett _ _ => keeps_execRett .refl
  | .loop _ _ => keeps_execLoop .refl
  | .rep _ _ _ _ => keeps_execRep .refl
  | .wfe _ _ => keeps_execWfe .refl
  | .wfeComplete _ => keeps_execWfeComplete .refl
  | .sev _ _ => keeps_execSev .refl
  | .waitt _ _ => keeps_execWaitt .refl
  | .waittComplete _ => keeps_execWaittComplete .refl
  | .mfc _ _ => keeps_execMfc .refl
  | .mtc _ _ => keeps_execMtc .refl
  | .interruptEntry _ => keeps_execInterruptEntry .refl
  | .aonDtfRead _ _ => keeps_execAonDtfRead .refl
  | .evtStatRead _ _ => keeps_execEvtStatRead .refl
  | .mbxCcountRead _ _ => keeps_execMbxCcountRead .refl
  | .ringDropRead _ _ _ => keeps_execRingDropRead .refl
  | .intcClaim _ _ _ => keeps_execIntcClaim .refl
  | .intcEoi _ _ _ => keeps_execIntcEoi .refl
  | .uartRxdPop _ _ _ => keeps_execUartRxdPop .refl
  | .uartTxdPush _ _ _ => keeps_execUartTxdPush .refl
  | .uartFlushRx _ _ _ => keeps_execUartFlushRx .refl
  | .uartFlushTx _ _ _ => keeps_execUartFlushTx .refl
  | .uartBreakSend _ _ _ => keeps_execUartBreakSend .refl
  | .ringProdWrite _ _ _ => keeps_execRingProdWrite .refl
  | .ringConsWrite _ _ _ => keeps_execRingConsWrite .refl
  | .ringCfgWrite _ _ _ => keeps_execRingCfgWrite .refl
  | .canCfgWrite _ _ _ => keeps_execCanCfgWrite .refl
  | .canRxconsWrite _ _ _ => keeps_execCanRxconsWrite .refl
  | .canTxprodWrite _ _ _ => keeps_execCanTxprodWrite .refl
  | .dmaStart _ _ _ => keeps_execDmaStart .refl
  | .dmaResume _ _ _ => keeps_execDmaResume .refl
  | .dmaAbort _ _ _ => keeps_execDmaAbort .refl
  | .mmuInvalidatePage _ _ _ => keeps_execMmuInvalidatePage .refl
  | .mmuInvalidateAsid _ _ _ => keeps_execMmuInvalidateAsid .refl
  | .mmuInvalidateAll _ _ _ => keeps_execMmuInvalidateAll .refl
  | .pwrReqRun _ _ => keeps_execPwrReqRun .refl
  | .pwrReqEntry _ _ => keeps_execPwrReqEntry .refl
  | .ltimCfgWrite _ _ _ => keeps_execLtimCfgWrite .refl
  | .wdtKick _ _ _ => keeps_execWdtKick .refl
  | .pmonClear _ _ _ => keeps_execPmonClear .refl
  | .pmonVallRead _ _ _ => keeps_execPmonVallRead .refl
  | .mbxDoorbellOut _ _ => keeps_execMbxDoorbellOut .refl
  | .registerWrite _ _ _ => keeps_execRegisterWrite .refl
  | .readStatus _ _ => keeps_execReadStatus .refl
  | .writePacket quad _ => keeps_execWritePacket (x0 := quad) .refl
  | .readRing quad _ _ => keeps_execReadRing (x0 := quad) .refl
  | .readChain quad _ => keeps_execReadChain (x0 := quad) .refl
  | .hportUnknownInstruction _ => keeps_execHportUnknownInstruction .refl
  | .malformedTransaction _ => keeps_execMalformedTransaction .refl
  | .undefinedOpcode _ => keeps_execUndefinedOpcode .refl
  | .replyRelease _ => keeps_execReplyRelease .refl
  | .varnishRecordOffer => keeps_execVarnishRecordOffer .refl
  | .mailboxOutputDelivery => keeps_execMailboxOutputDelivery .refl
  | .mailboxPacketTake _ _ => keeps_execMailboxPacketTake .refl
  | .mailboxCollision _ _ _ _ _ => keeps_execMailboxCollision .refl
  | .sysNop _ => keeps_execSysNop .refl
  | .sysGetIdent _ => keeps_execSysGetIdent .refl
  | .sysGetStatus _ => keeps_execSysGetStatus .refl
  | .sysReset _ => keeps_execSysReset .refl
  | .sysEcho _ => keeps_execSysEcho .refl
  | .pwrSetProfile _ => keeps_execPwrSetProfile .refl
  | .profileChangeEffect => keeps_execProfileChangeEffect .refl
  | .pwrGetState _ => keeps_execPwrGetState .refl
  | .pwrEnter _ => keeps_execPwrEnter .refl
  | .pwrSetWake _ => keeps_execPwrSetWake .refl
  | .pwrGetWake _ => keeps_execPwrGetWake .refl
  | .pwrSetTimer _ => keeps_execPwrSetTimer .refl
  | .pwrSetVcore _ => keeps_execPwrSetVcore .refl
  | .pwrGetRlink _ => keeps_execPwrGetRlink .refl
  | .timeGet _ => keeps_execTimeGet .refl
  | .timeGetMap _ => keeps_execTimeGetMap .refl
  | .timeSetEvt _ => keeps_execTimeSetEvt .refl
  | .timeGetEvt _ => keeps_execTimeGetEvt .refl
  | .inputSetPort _ => keeps_execInputSetPort .refl
  | .inputGetPort _ => keeps_execInputGetPort .refl
  | .inputTrain _ => keeps_execInputTrain .refl
  | .inputGetHistogram _ => keeps_execInputGetHistogram .refl
  | .inputGetSpectrum _ => keeps_execInputGetSpectrum .refl
  | .spectrumJobComplete _ _ _ => keeps_execSpectrumJobComplete (x2 := ()) .refl
  | .inputSetNotch _ => keeps_execInputSetNotch .refl
  | .inputGetNotch _ => keeps_execInputGetNotch .refl
  | .inputSetArray _ => keeps_execInputSetArray .refl
  | .inputGetArray _ => keeps_execInputGetArray .refl
  | .inputSetGlobal _ => keeps_execInputSetGlobal .refl
  | .inputGetGlobal _ => keeps_execInputGetGlobal .refl
  | .acqSearch _ => keeps_execAcqSearch .refl
  | .acqAbort _ => keeps_execAcqAbort .refl
  | .acqCapture _ => keeps_execAcqCapture .refl
  | .captureStart _ => keeps_execCaptureStart .refl
  | .captureEnd _ => keeps_execCaptureEnd .refl
  | .acqSketchFix _ => keeps_execAcqSketchFix .refl
  | .sketchFixComplete _ _ => keeps_execSketchFixComplete .refl
  | .acqGetStatus _ => keeps_execAcqGetStatus .refl
  | .acqSetWatch _ => keeps_execAcqSetWatch .refl
  | .acqGetWatch _ => keeps_execAcqGetWatch .refl
  | .acqListCaptures _ => keeps_execAcqListCaptures .refl
  | .acqReadCapture _ => keeps_execAcqReadCapture .refl
  | .acqFreeCapture _ => keeps_execAcqFreeCapture .refl
  | .acqSetSketch _ => keeps_execAcqSetSketch .refl
  | .acqGetSketch _ => keeps_execAcqGetSketch .refl
  | .bankPassEnd _ _ => keeps_execBankPassEnd .refl
  | .handoverQueueTimeout => keeps_execHandoverQueueTimeout .refl
  | .trkSetLoop _ => keeps_execTrkSetLoop .refl
  | .trkGetLoop _ => keeps_execTrkGetLoop .refl
  | .trkSetPalette _ => keeps_execTrkSetPalette .refl
  | .trkGetPalette _ => keeps_execTrkGetPalette .refl
  | .trkAssign _ => keeps_execTrkAssign .refl
  | .trkRelease _ => keeps_execTrkRelease .refl
  | .trkGetChannel _ => keeps_execTrkGetChannel .refl
  | .trkGetSummary _ => keeps_execTrkGetSummary .refl
  | .trkSetConfig _ => keeps_execTrkSetConfig .refl
  | .trkGetConfig _ => keeps_execTrkGetConfig .refl
  | .accumulationDump _ _ _ => keeps_execAccumulationDump .refl
  | .sidePeakCheckEnd _ _ => keeps_execSidePeakCheckEnd .refl
  | .selfCheckComplete _ _ => keeps_execSelfCheckComplete .refl
  | .loopStateCheckpoint => keeps_execLoopStateCheckpoint .refl
  | .lockstepMismatch _ => keeps_execLockstepMismatch .refl
  | .loopPairRestartComplete _ => keeps_execLoopPairRestartComplete .refl
  | .pullInTimeout _ _ => keeps_execPullInTimeout .refl
  | .syncTimeout _ _ => keeps_execSyncTimeout .refl
  | .lossTimeExpiry _ _ => keeps_execLossTimeExpiry .refl
  | .lostCoastExpiry _ => keeps_execLostCoastExpiry .refl
  | .reacqTimeout _ => keeps_execReacqTimeout .refl
  | .lostLaneCheck _ _ _ => keeps_execLostLaneCheck (x2 := ()) .refl
  | .lostLaneReentry _ _ => keeps_execLostLaneReentry .refl
  | .multipathFit _ _ _ => keeps_execMultipathFit (x2 := ()) .refl
  | .measurementEpoch _ _ _ _ => keeps_execMeasurementEpoch (x3 := ()) .refl
  | .signatureComplete => keeps_execSignatureComplete .refl
  | .claimRelease => keeps_execClaimRelease .refl
  | .calUnitsRelease _ => keeps_execCalUnitsRelease .refl
  | .calRunComplete _ => keeps_execCalRunComplete .refl
  | .calRetryHoldoffExpiry => keeps_execCalRetryHoldoffExpiry .refl
  | .odometerCommit => keeps_execOdometerCommit .refl
  | .navSetConfig _ => keeps_execNavSetConfig .refl
  | .navGetConfig _ => keeps_execNavGetConfig .refl
  | .navSetPrior _ => keeps_execNavSetPrior .refl
  | .navSetTime _ => keeps_execNavSetTime .refl
  | .navLoadUnit _ => keeps_execNavLoadUnit .refl
  | .navGetEph _ => keeps_execNavGetEph .refl
  | .navGetSolution _ => keeps_execNavGetSolution .refl
  | .integSetConfig _ => keeps_execIntegSetConfig .refl
  | .integGetConfig _ => keeps_execIntegGetConfig .refl
  | .integGetStatus _ => keeps_execIntegGetStatus .refl
  | .tpSet _ => keeps_execTpSet .refl
  | .tpGet _ => keeps_execTpGet .refl
  | .tpSetHoldover _ => keeps_execTpSetHoldover .refl
  | .tpGetHoldover _ => keeps_execTpGetHoldover .refl
  | .tpGetState _ => keeps_execTpGetState .refl
  | .tpPulse _ _ _ _ => keeps_execTpPulse (x2 := ()) (x3 := ()) .refl
  | .tpLeadingEdge _ => keeps_execTpLeadingEdge .refl
  | .tpTrailingEdge _ => keeps_execTpTrailingEdge .refl
  | .holdoverStart _ => keeps_execHoldoverStart .refl
  | .holdoverDtMap _ => keeps_execHoldoverDtMap .refl
  | .holdLimitReached => keeps_execHoldLimitReached .refl
  | .calRun _ => keeps_execCalRun .refl
  | .calGetStatus _ => keeps_execCalGetStatus .refl
  | .calSetConfig _ => keeps_execCalSetConfig .refl
  | .calGetConfig _ => keeps_execCalGetConfig .refl
  | .calGetValues _ => keeps_execCalGetValues .refl
  | .domeGetIdent _ => keeps_execDomeGetIdent .refl
  | .domeGetCert _ => keeps_execDomeGetCert .refl
  | .domeSeal _ => keeps_execDomeSeal .refl
  | .domeGetCounters _ => keeps_execDomeGetCounters .refl
  | .domeReadAudit _ => keeps_execDomeReadAudit .refl
  | .domeAuditAck _ => keeps_execDomeAuditAck .refl
  | .domeReadRecord _ => keeps_execDomeReadRecord .refl
  | .domeRecordAck _ => keeps_execDomeRecordAck .refl
  | .domeGetStore _ => keeps_execDomeGetStore .refl
  | .domeGetOdometer _ => keeps_execDomeGetOdometer .refl
  | .domeSetOdoConfig _ => keeps_execDomeSetOdoConfig .refl
  | .domeGetOdoConfig _ => keeps_execDomeGetOdoConfig .refl
  | .domeZoneLoadBegin _ => keeps_execDomeZoneLoadBegin .refl
  | .domeZoneLoadData _ => keeps_execDomeZoneLoadData .refl
  | .domeZoneLoadCommit _ => keeps_execDomeZoneLoadCommit .refl
  | .domeZoneLoadCancel _ => keeps_execDomeZoneLoadCancel .refl
  | .domeZoneGet _ => keeps_execDomeZoneGet .refl
  | .domeMark _ => keeps_execDomeMark .refl
  | .domeChallenge _ => keeps_execDomeChallenge .refl
  | .domeSetRefclk _ => keeps_execDomeSetRefclk .refl
  | .domeFwLoadBegin _ => keeps_execDomeFwLoadBegin .refl
  | .domeFwLoadData _ => keeps_execDomeFwLoadData .refl
  | .domeFwLoadCommit _ => keeps_execDomeFwLoadCommit .refl
  | .domeFwLoadCancel _ => keeps_execDomeFwLoadCancel .refl
  | .domeFwActivate _ => keeps_execDomeFwActivate .refl
  | .sealLoopOpen => keeps_execSealLoopOpen .refl
  | .u6Packet _ => keeps_execU6Packet .refl
  | .u6ActiveTimeout => keeps_execU6ActiveTimeout .refl
  | .outSetRing _ => keeps_execOutSetRing .refl
  | .outGetRing _ => keeps_execOutGetRing .refl
  | .outSetOutput _ => keeps_execOutSetOutput .refl
  | .outGetOutput _ => keeps_execOutGetOutput .refl
  | .outQ15LossAdd _ => keeps_execOutQ15LossAdd .refl
  | .outQ15LossClear _ => keeps_execOutQ15LossClear .refl
  | .memGetStatus _ => keeps_execMemGetStatus .refl
  | .memTestRun _ => keeps_execMemTestRun .refl
  | .memTestStop _ => keeps_execMemTestStop .refl
  | .memTestBlock _ => keeps_execMemTestBlock .refl
  | .memScrub _ => keeps_execMemScrub .refl
  | .memScrubComplete _ => keeps_execMemScrubComplete .refl
  | .memNvRead _ => keeps_execMemNvRead .refl
  | .memNvWrite _ => keeps_execMemNvWrite .refl
  | .memNvWear _ => keeps_execMemNvWear .refl
  | .monSetCounter _ => keeps_execMonSetCounter .refl
  | .monGetCounters _ => keeps_execMonGetCounters .refl
  | .monGetRejects _ => keeps_execMonGetRejects .refl
  | .monGetHealth _ => keeps_execMonGetHealth .refl
  | .fwGetInfo _ => keeps_execFwGetInfo .refl
  | .fwLoadBegin _ => keeps_execFwLoadBegin .refl
  | .fwLoadData _ => keeps_execFwLoadData .refl
  | .fwLoadCommit _ => keeps_execFwLoadCommit .refl
  | .fwLoadCancel _ => keeps_execFwLoadCancel .refl
  | .fwActivate _ => keeps_execFwActivate .refl
  | .chainGetStatus _ => keeps_execChainGetStatus .refl
  | .chainEnumerate _ => keeps_execChainEnumerate .refl
  | .chainSetConfig _ => keeps_execChainSetConfig .refl
  | .chainGetConfig _ => keeps_execChainGetConfig .refl
  | .chainGetCounters _ => keeps_execChainGetCounters .refl
  | .chainWake _ => keeps_execChainWake .refl
  | .serialSetUart _ => keeps_execSerialSetUart .refl
  | .serialGetUart _ => keeps_execSerialGetUart .refl
  | .serialSendBreak _ => keeps_execSerialSendBreak .refl
  | .serialSetCan _ => keeps_execSerialSetCan .refl
  | .serialGetCan _ => keeps_execSerialGetCan .refl
  | .serialGetCounters _ => keeps_execSerialGetCounters .refl
  | .agcWindow _ _ _ => keeps_execAgcWindow .refl
  | .frmFrame => keeps_execFrmFrame .refl
  | .lineDetectorUpdate _ _ _ => keeps_execLineDetectorUpdate .refl
  | .noiseFloorUpdate => keeps_execNoiseFloorUpdate .refl
  | .eyeTrackUpdate _ _ _ => keeps_execEyeTrackUpdate .refl
  | .feStartDelayExpiry => keeps_execFeStartDelayExpiry .refl
  | .trainingMarker _ _ => keeps_execTrainingMarker .refl
  | .trainingVerifyEnd _ _ => keeps_execTrainingVerifyEnd .refl
  | .trainingAttemptTimeout _ => keeps_execTrainingAttemptTimeout .refl
  | .evtEdge _ _ _ => keeps_execEvtEdge .refl
  | .uartCharacterReceived _ _ => keeps_execUartCharacterReceived .refl
  | .uartBreakReceived _ _ => keeps_execUartBreakReceived (x1 := ()) .refl
  | .uartCharacterSent _ => keeps_execUartCharacterSent .refl
  | .uartBreakSent _ => keeps_execUartBreakSent .refl
  | .uartWakeEdge _ => keeps_execUartWakeEdge .refl
  | .canFrameReceived _ _ _ => keeps_execCanFrameReceived .refl
  | .canFrameSent _ _ => keeps_execCanFrameSent .refl
  | .canArbitrationLoss _ => keeps_execCanArbitrationLoss .refl
  | .canBusError _ _ _ _ => keeps_execCanBusError .refl
  | .canBusOffRecovery _ => keeps_execCanBusOffRecovery .refl
  | .canWakeEdge _ => keeps_execCanWakeEdge .refl
  | .dmaBurst => keeps_execDmaBurst .refl
  | .timerExpiry _ => keeps_execTimerExpiry .refl
  | .pmonOverflow _ => keeps_execPmonOverflow .refl
  | .lanternTimerExpiry _ => keeps_execLanternTimerExpiry .refl
  | .linkUp _ => keeps_execLinkUp .refl
  | .linkDown _ => keeps_execLinkDown .refl
  | .down _ => keeps_execDown .refl
  | .up _ => keeps_execUp .refl
  | .alignReq _ _ _ => keeps_execAlignReq .refl
  | .alignRsp _ _ => keeps_execAlignRsp .refl
  | .alignFup _ => keeps_execAlignFup .refl
  | .alignExchangeDue _ => keeps_execAlignExchangeDue .refl
  | .alignExchangeVoid => keeps_execAlignExchangeVoid .refl
  | .unalignedTimeout => keeps_execUnalignedTimeout .refl
  | .enum _ => keeps_execEnum .refl
  | .enumEnd _ => keeps_execEnumEnd .refl
  | .enumReq _ => keeps_execEnumReq .refl
  | .enumerationTimeout => keeps_execEnumerationTimeout .refl
  | .linkSleep _ _ => keeps_execLinkSleep .refl
  | .reservedFrame _ _ => keeps_execReservedFrame .refl
  | .ack _ _ => keeps_execAck .refl
  | .nak _ _ => keeps_execNak .refl
  | .credit _ _ => keeps_execCredit .refl
  | .replayTimeout _ => keeps_execReplayTimeout .refl
  | .unitAbandon _ => keeps_execUnitAbandon .refl
  | .downHoldExpiry => keeps_execDownHoldExpiry .refl
  | .unitBoundaryArbitration => keeps_execUnitBoundaryArbitration .refl
  | .headTimeout => keeps_execHeadTimeout .refl
  | .kakelWakeActivity _ => keeps_execKakelWakeActivity .refl
  | .hportWakeEdge => keeps_execHportWakeEdge .refl
  | .wakePin _ => keeps_execWakePin .refl
  | .entryGrant _ => keeps_execEntryGrant .refl
  | .entryRefuse _ => keeps_execEntryRefuse .refl
  | .entryDelay _ _ => keeps_execEntryDelay .refl
  | .entryDelayExpiry _ => keeps_execEntryDelayExpiry .refl
  | .entryNoAnswer _ => keeps_execEntryNoAnswer .refl
  | .entryDelayLimit => keeps_execEntryDelayLimit .refl
  | .entryS0 => keeps_execEntryS0 .refl
  | .isolationEnd => keeps_execIsolationEnd .refl
  | .rlinkAck _ _ => keeps_execRlinkAck .refl
  | .rlinkPoll _ => keeps_execRlinkPoll .refl
  | .rlinkNack => keeps_execRlinkNack .refl
  | .rlinkAttemptTimeout => keeps_execRlinkAttemptTimeout .refl
  | .rlinkRetry => keeps_execRlinkRetry .refl
  | .frontPllLock => keeps_execFrontPllLock .refl
  | .handover => keeps_execHandover .refl
  | .refclkLost _ => keeps_execRefclkLost (x0 := ()) .refl
  | .refclkRegained => keeps_execRefclkRegained .refl
  | .powerFailWarning _ => keeps_execPowerFailWarning .refl
  | .vinRestore => keeps_execVinRestore .refl
  | .vinLoss => keeps_execVinLoss .refl
  | .coldStart _ _ => keeps_execColdStart .refl
  | .stage1Retry => keeps_execStage1Retry .refl
  | .imageCheckComplete _ _ _ => keeps_execImageCheckComplete .refl
  | .startupComplete => keeps_execStartupComplete .refl
  | .earlyDomainRetry => keeps_execEarlyDomainRetry .refl
  | .pinReset => keeps_execPinReset .refl
  | .domeReset => keeps_execDomeReset .refl
  | .drumReset => keeps_execDrumReset .refl
  | .domeWdtExpiry => keeps_execDomeWdtExpiry .refl
  | .drumWdtExpiry => keeps_execDrumWdtExpiry .refl
  | .coreWdtExpiry _ => keeps_execCoreWdtExpiry .refl
  | .sealLoopClosed => keeps_execSealLoopClosed .refl
  | .symbolLock _ => keeps_execSymbolLock .refl
  | .uartStartEdge _ _ => keeps_execUartStartEdge .refl
  | .canBusJoin _ => keeps_execCanBusJoin .refl
  | .u6IdleLineBoundary => keeps_execU6IdleLineBoundary .refl
  | .rlinkTransactionEnd _ => keeps_execRlinkTransactionEnd .refl
  | .sramClearComplete => keeps_execSramClearComplete .refl
  | .domainPowerUpComplete _ _ => keeps_execDomainPowerUpComplete .refl
  | .clusterSelfTestComplete _ _ => keeps_execClusterSelfTestComplete .refl
  | .loadCommitCheckEnd _ _ _ => keeps_execLoadCommitCheckEnd .refl

/-- A step on an empty queue. -/
theorem step_keeps_empty {s : State} (e : s.pending = []) : KeepsR false s (step s) := by
  unfold step
  rw [e]
  exact .next (keeps_State_tickEnd .refl)

/-- A step that takes a command. -/
theorem step_keeps_front {s : State} {c : Instr} {rest : List Instr} (e : s.pending = c :: rest) :
    KeepsR (timeless c) { s with pending := rest } (step s) := by
  unfold step
  rw [e]
  exact exec_keeps c _

end Sys2Proof.Machine
end

