-- ==== Sys2Proof/Tests/Slice0.lean ====
section
/-! SUPPORT. Tests of the model: ill-formed commands that WellFormed refuses, and for every statement with hypotheses a state and
operands that meet them together, clause by clause. -/

set_option Elab.async false

open Sys2Proof Sys2Proof.Machine

namespace Sys2Proof.Tests

/-- The module in service in a profile, with every domain powered, at tick 10^9. -/
def up (profile : Nat) : State :=
  { State.reset with
    pwr := { phase := .running, vin := 120, profile := profile, domains := 0x3FF }
    boot := { dome := .service, drum := .service, complete := true, stage := 6, stageFiveDone := true, toClear := false }
    clk := { epoch := 1, acc := 20 * 2 ^ 40, tick := 1000000000 }
    rings := startRings
    rlink := { state := 1, outputOn := true, volts := 800 } }

/-- A host command's packet, filled to whole slots. -/
def packet (op : Nat) (p : List Byte) : List Byte := padSlots (packetBytes op 0 5 0 0 0 p)

/-- The transaction of a command on Q0. -/
def txn (op : Nat) (p : List Byte) : Txn := { ring := 0, bytes := packet op p }

/-- With that command lying in Q0. -/
def sent (s : State) (op : Nat) (p : List Byte) : State :=
  let b := packet op p
  { s with
    mem := { s.mem with sram := s.mem.sram.writeN (0xF000 * 64) b }
    rings := vset s.rings 0 { vget s.rings 0 with prod := BitVec.ofNat 32 (b.length / 64), arrivals := [⟨b.length / 64, 1⟩] } }

/-- The command is taken next and admitted. -/
def admitted (s : State) (t : Txn) (op : Nat) : Bool :=
  s.takes t && framing t.bytes (t.bytes.length / 64) == none && (parseHeader t.bytes).opcode == op &&
    s.headerChecks t.ring.val t.bytes == none &&
      match cmdRow op with
      | none => true
      | some r => (s.begun t).notServed t.ring.val op (parseHeader t.bytes).len r == none

theorem admits {s : State} {t : Txn} {op : Nat} (h : admitted s t op = true) : s.Admits t op := by
  unfold admitted at h
  simp only [Bool.and_eq_true, beq_iff_eq] at h
  obtain ⟨⟨⟨⟨h1, h2⟩, h3⟩, h4⟩, h5⟩ := h
  refine ⟨h1, h2, h3, h4, fun r e => ?_⟩
  rw [e] at h5
  simpa using h5

/-- A mapping has been recorded. -/
def mapped : State := { up 1 with nav := { mapPayload := some [1] } }

/-- A memory test runs in block 5. -/
def testing : State := { up 1 with mem := { (up 1).mem with test := some { lastBlock := 5, next := 5, cmd := 9, due := 0 } } }

/-- A load of 200 bytes is open for each part and for the zone table. -/
def loading : State :=
  let l : Load := { length := 200, sha := zeros 32 }
  { up 1 with
    drumImages := { (up 1).drumImages with load := some l }
    domeImages := { (up 1).domeImages with load := some l }
    zoneLoad := some l }

/-- Every port is enabled and LOCKED. -/
def locked (profile : Nat) : State :=
  (up profile).modInput fun i => { i with ports := i.ports.map fun (q : Port) => { q with cfg := { q.cfg with enable := true }, lane := .locked, nref := some 0 } }

/-- A capture that is not being written. -/
def snap : Capture :=
  { antenna := 0, format := 1, band := 0, samples := 81840, dt := 0, words := (0, 0), js := (0, 0), first := 0, units := 1, temp := 0, order := 0
    writing := false }

def snapped : State := (locked 2).modEasel fun e => { e with captures := vset e.captures 3 (some snap) }

/-- Channel 7 tracks GPS satellite 5. -/
def tracking : State := (locked 2).modChan 7 fun c => { c with anchor := some 1, sv := 5 }

/-- Every core runs in Service mode at word 100H, as `f` leaves it. -/
def running (f : Core → Core) : State := { up 2 with cores := Vector.replicate 8 (f { sr := 0, pc := 0x100, held := false }) }

def okOf {ε α : Type} : (x : Except ε α) → x.toBool = true → α
  | .ok a, _ => a

theorem ok_of {ε α : Type} {x : Except ε α} (h : x.toBool = true) : x = .ok (okOf x h) := by
  cases x with
  | ok a => rfl
  | error e => simp [Except.toBool] at h

theorem some_of {α : Type} {x : Option α} (h : x.isSome = true) : x = some (x.get h) := (Option.some_get h).symm

/-- With both lanes of the chain UP, as `f` leaves them, and the chain as `g` leaves it. -/
def chained (f : Lane → Lane) (g : Chain → Chain) : State :=
  (((up 2).modKakel 0 fun a => f { a with st := .up, credits := 8, grants := 8 }).modKakel 1 fun a => f { a with st := .up, credits := 8, grants := 8 }).modChain g

/-- A frame of one segment that arrives whole. -/
def frame (ftype dev : Nat) (seg : List Byte) : RxFrame :=
  { frame := { ftype := ftype, first := true, last := true, abandon := false, dev := dev, ring := 8, seg := seg }, hseq := 0, crcOk := true, aborted := false }

/-- Port `p` as `f` leaves it. -/
def port (p : Nat) (f : Port → Port) : State := (locked 2).modPort p f

/-- Channel 191 runs, its upper lane as `f` leaves it and the channel as `g` does. -/
def chan191 (f : TrkLane → TrkLane) (g : Channel → Channel) : State :=
  (locked 2).modChan 191 fun c => g { c with anchor := some 1, sv := 5, upper := f { c.upper with signal := 1 } }

/-- An accumulation of one prompt. -/
def dump (residueOk : Bool) : Sums :=
  { residueOk := residueOk, pilot := false, prompts := [(100, 3)], early := (50, 1), late := (50, 2), arms := [], array := [], data := [] }

/-- A calibration run as `f` leaves it. -/
def calibrating (f : CalRun → CalRun) : State :=
  (locked 2).modCal fun c => { c with run := some (f { tick0 := 1, dt0 := 1, temp := 0, trigger := 1, profile := 2, overdue := false, cfg := {}
                                                       ports := [0, 1], clusters := [], channels := [], mask := 0 }) }

theorem reads_of {α β γ : Type} {x : α × β × Option γ} (h : x.2.2.isNone = true) : x = (x.1, x.2.1, none) := by
  obtain ⟨a, b, c⟩ := x
  cases c with
  | none => rfl
  | some v => cases h

theorem writes_of {α : Type} {x : α × Bool} (h : x.2 = true) : x = (x.1, true) := by
  obtain ⟨a, b⟩ := x
  exact congrArg _ h

def errOf {ε α : Type} : (x : Except ε α) → x.toBool = false → ε
  | .error e, _ => e
  | .ok _, h => nomatch h

theorem err_of {α ε β : Type} {x : α × Except ε β} (h : x.2.toBool = false) : x = (x.1, .error (errOf x.2 h)) := by
  obtain ⟨a, b⟩ := x
  cases b with
  | error e => rfl
  | ok v => cases h

/-- Channel 15 of the DMA engine owns the engine, on a descriptor as `f` leaves it. -/
def moving (f : Descriptor → Descriptor) : State :=
  let d : Descriptor := { src := 0x1000, dst := 0x2000, count := 20, esize := 4, srcIo := false, dstIo := false, last := true, wb := false, irq := false
                          req := 0, sstride := 4, dstride := 4, next := 0 }
  { up 2 with dma := { channels := vset (up 2).dma.channels 15 { priv := 0, state := .active, desc := some (f d) }, owner := 15 } }

/-- Bytes as the cells of a load. -/
def cells (bs : List Byte) : List (Nat × Byte) := Bytes.writeN [] 0 bs

/-- An entry to `t` stands, with participant `p` answering `a` and the others `o`, in a phase; the power state as `f` leaves it. -/
def entering (ph : Phase) (t : Target) (p : Nat) (a o : Answer) (f : Pwr → Pwr) : State :=
  (up 2).modPwr fun q => f { q with
    phase := ph, entry := some { req := { target := t, snapSr := false, delayMax := 1, from_ := .drum }, accepted := 5, answers := vset (Vector.replicate 9 o) p a } }

/-- The link to the regulator stands in a sequence, as `f` leaves it. -/
def linked (p : RPurpose) (a : RTransaction) (f : Rlink → Rlink) : State :=
  (up 2).modRlink fun r => f { r with seq := some { purpose := p, volts := 700, at_ := a } }

def completes : Res → Bool
  | .next _ => true
  | _ => false

def nextOf : (x : Res) → completes x = true → State
  | .next t, _ => t

theorem next_of {x : Res} (h : completes x = true) : x = .next (nextOf x h) := by
  cases x with
  | next t => rfl
  | fault r => cases h
  | refused r => cases h

theorem okPair_of {α ε β : Type} {x : α × Except ε β} (h : x.2.toBool = true) : x = (x.1, .ok (okOf x.2 h)) := by
  obtain ⟨a, b⟩ := x
  cases b with
  | ok v => rfl
  | error e => cases h

/-- The module is off. -/
def off : State := (up 2).modPwr fun q => { q with phase := .off }

theorem off_counters (k : Nat) : vget off.sealed.counters k < 2 ^ 32 := by
  have h : ∀ k < 18, vget off.sealed.counters k < 2 ^ 32 := by decide +kernel
  by_cases e : k < 18
  · exact h k e
  · simp [vget, Vector.getD, Nat.not_lt.mp e]

/-- A command waits. -/
def awaiting (c : Instr) : State := { up 2 with pending := [c, .u6ActiveTimeout] }

/-! Ill-formed commands, one for each check of WellFormed. -/

theorem test_ill_formed_transactions :
    (Instr.sysNop { ring := 0, bytes := zeros 63 }).wf = false ∧ (Instr.sysNop { ring := 0, bytes := [] }).wf = false ∧
      (Instr.sysNop { ring := 0, bytes := zeros 4160 }).wf = false ∧ (Instr.writePacket true (zeros 4097)).wf = false := by decide +kernel

theorem test_ill_formed_frames :
    (Instr.down { frame 16 0 [] with hseq := 0 }).wf = false ∧ (Instr.up { frame 2 256 [] with hseq := 0 }).wf = false ∧
      (Instr.enum { frame 6 0 [] with hseq := 256 }).wf = false ∧ (Instr.alignFup (frame 5 0 (zeros 1025))).wf = false ∧
      (Instr.alignReq (frame 3 0 []) ⟨0, 64⟩ ⟨0, 0⟩).wf = false ∧ (Instr.alignRsp (frame 4 0 []) ⟨2 ^ 64, 0⟩).wf = false ∧
      (Instr.alignExchangeDue ⟨0, 64⟩).wf = false ∧ (Instr.linkSleep .chu { frame 9 0 [] with hseq := 256 }).wf = false := by decide +kernel

theorem test_ill_formed_events :
    (Instr.canFrameReceived 0 ⟨0, false, false, 0, false, false, false, zeros 65⟩ 0).wf = false ∧
      (Instr.agcWindow 0 (List.replicate 15 1) (List.replicate 16 1)).wf = false ∧
      (Instr.agcWindow 0 (List.replicate 16 1) (List.replicate 16 2)).wf = false ∧
      (Instr.spectrumJobComplete 0 (List.replicate 1023 0)).wf = false ∧ (Instr.entryDelay 0 256).wf = false ∧
      (Instr.entryDelay 0 0).wf = false ∧ (Instr.imageCheckComplete true true 256).wf = false ∧
      (Instr.bankPassEnd 0 [⟨1, 1, 40920, 0, 9⟩]).wf = false ∧
      (Instr.accumulationDump 0 true { dump true with arms := List.replicate 10 0 }).wf = false ∧
      (Instr.accumulationDump 0 false { dump true with prompts := List.replicate 101 (0, 0) }).wf = false ∧
      (Instr.rlinkAck none [(6, 0, 1)]).wf = false := by decide +kernel

theorem test_ill_formed_epochs :
    (Instr.measurementEpoch 0 [{ (default : UnitIn) with channel := 192 }] none).wf = false ∧
      (Instr.measurementEpoch 0 [] (some { (default : SolveIn) with sats := [⟨0, 0, 180, (0, 0), 0, none⟩] })).wf = false ∧ (Instr.calUnitsRelease [⟨8, 1, 1, 1⟩]).wf = false ∧
      (Instr.calRunComplete { delays := List.replicate 7 0, sums := List.replicate 4 (List.replicate 3 (0, 0)), dtp := [0, 0] }).wf = false ∧
      (Instr.calRunComplete { delays := List.replicate 8 0, sums := List.replicate 4 [], dtp := [0, 0] }).wf = false := by decide +kernel

/-- No word of the table spells a command. -/
theorem test_no_words (n w : Nat) : decodeTableWord n w = none ∧ (State.reset.withFetchWord n w) = State.reset := ⟨rfl, rfl⟩

theorem test_reset_memory : State.reset.memoryWf = true := by decide +kernel

/-- The vector that 11 R378 gives. -/
theorem test_crc32 : crc32 [0x31, 0x32, 0x33, 0x34, 0x35, 0x36, 0x37, 0x38, 0x39] = 0xCBF43926 := by decide +kernel

/-! Each statement with hypotheses: a state and operands that meet them together, clause by clause. -/

/-- The clauses of `Obligations.QueriesAnswer` can be met. -/
theorem test_QueriesAnswer :
    (∃ i : Instr, ∃ t : Txn, ∃ op : Nat, ∃ n : Nat, ∃ s : State, queryRow i = some (t, op, n) ∧ s.Admits t op) :=
  ⟨.sysNop (txn 0 []), txn 0 [], 0, 0, sent (up 2) 0 [], rfl, admits (by decide +kernel)⟩

/-- The clauses of `Obligations.ConfigurationsReadBack` can be met. -/
theorem test_ConfigurationsReadBack :
    (∃ i : Instr, ∃ t : Txn, ∃ op : Nat, ∃ f : State → List Byte, ∃ s : State, readBackRow i = some (t, op, f) ∧ s.Admits t op) :=
  ⟨.inputGetArray (txn 0x308 []), txn 0x308 [], 0x308, fun s => s.input.array.bytes, sent (up 2) 0x308 [], rfl, admits (by decide +kernel)⟩

/-- The clauses of `Obligations.SysPwrCommands` can be met. -/
theorem test_SysPwrCommands :
    (∃ s : State, ∃ t : Txn, ∃ p : List Byte, p = payloadOf t ∧ s.Admits t 0x0004) ∧
    (∃ s : State, ∃ t : Txn, ∃ p : List Byte, p = payloadOf t ∧ s.Admits t 0x0003 ∧ zeroIn p [(1, 0xFF), (2, 0xFF), (3, 0xFF)] ∧ 1 ≤ byteAt p 0 ∧ byteAt p 0 ≤ 3) ∧
    (∃ s : State, ∃ t : Txn, ∃ p : List Byte, p = payloadOf t ∧ s.Admits t 0x0100 ∧ zeroIn p [(1, 0xFE), (2, 0xFF), (3, 0xFF)] ∧ byteAt p 0 ≤ 2 ∧ s.pwr.profile ≠ 3 ∧ s.pwr.phase = .running) ∧
    (∃ s : State, ∃ t : Txn, ∃ p : List Byte, ∃ target, p = payloadOf t ∧ s.Admits t 0x0102 ∧ zeroIn p [(1, 0xFE), (4, 0xFF), (5, 0xFF), (6, 0xFF), (7, 0xFF)] ∧ targetOf (byteAt p 0) = some target ∧ s.pwr.profile ≠ 3) ∧
    (∃ s : State, ∃ t : Txn, ∃ p : List Byte, p = payloadOf t ∧ s.Admits t 0x0103 ∧ zeroIn p [(4, 0xFF), (5, 0xFF), (6, 0xFF), (7, 0xFF)]) ∧
    (∃ s : State, ∃ t : Txn, ∃ p : List Byte, p = payloadOf t ∧ s.Admits t 0x0104 ∧ s.pwr.wakes ≠ 0) ∧
    (∃ s : State, ∃ t : Txn, ∃ p : List Byte, p = payloadOf t ∧ s.Admits t 0x0105 ∧ zeroIn p [(2, 0xFF), (3, 0xFF)] ∧ byteAt p 0 < 3 ∧ byteAt p 1 ≤ 2 ∧ (if byteAt p 1 = 2 then 1 ≤ getLe p 4 4 ∧ getLe p 4 4 ≤ 86400 else getLe p 4 4 = 0)) ∧
    (∃ s : State, ∃ t : Txn, ∃ p : List Byte, p = payloadOf t ∧ s.Admits t 0x0106 ∧ zeroIn p [(1, 0xFF)] ∧ byteAt p 0 ≤ 2 ∧ pointMin (byteAt p 0) ≤ getLe p 2 2 ∧ getLe p 2 2 ≤ 900 ∧ s.rlink.state ≠ 0 ∧ s.pwr.phase = .running ∧ byteAt p 0 = s.pointInForce) :=
  ⟨⟨sent (up 2) 4 ([1, 2, 3, 4]), txn 4 ([1, 2, 3, 4]), [1, 2, 3, 4], by decide +kernel, admits (by decide +kernel)⟩,
    ⟨sent (up 2) 3 ([3, 0, 0, 0]), txn 3 ([3, 0, 0, 0]), [3, 0, 0, 0], by decide +kernel, admits (by decide +kernel), by unfold zeroIn; decide +kernel, by decide +kernel⟩,
    ⟨sent (up 1) 0x100 ([2, 1, 0, 0]), txn 0x100 ([2, 1, 0, 0]), [2, 1, 0, 0], by decide +kernel, admits (by decide +kernel), by unfold zeroIn; decide +kernel, by decide +kernel⟩,
    ⟨sent (up 1) 0x102 ([2, 1, 0xE8, 3, 0, 0, 0, 0]), txn 0x102 ([2, 1, 0xE8, 3, 0, 0, 0, 0]), [2, 1, 0xE8, 3, 0, 0, 0, 0], .sleep, by decide +kernel, admits (by decide +kernel), by unfold zeroIn; decide +kernel, by decide +kernel⟩,
    ⟨sent (up 1) 0x103 ([0xFF, 3, 0, 0, 0, 0, 0, 0]), txn 0x103 ([0xFF, 3, 0, 0, 0, 0, 0, 0]), [0xFF, 3, 0, 0, 0, 0, 0, 0], by decide +kernel, admits (by decide +kernel), by unfold zeroIn; decide +kernel⟩,
    ⟨sent ({ up 1 with pwr := { (up 1).pwr with wakes := 1 } }) 0x104 ([]), txn 0x104 ([]), [], by decide +kernel, admits (by decide +kernel), by decide +kernel⟩,
    ⟨sent (up 1) 0x105 ([2, 2, 0, 0, 0x80, 0x51, 1, 0, 0, 0, 0, 0, 5, 0, 0, 0]), txn 0x105 ([2, 2, 0, 0, 0x80, 0x51, 1, 0, 0, 0, 0, 0, 5, 0, 0, 0]), [2, 2, 0, 0, 0x80, 0x51, 1, 0, 0, 0, 0, 0, 5, 0, 0, 0], by decide +kernel, admits (by decide +kernel), by unfold zeroIn; decide +kernel, by decide +kernel⟩,
    ⟨sent (up 2) 0x106 ([0, 0, 0x84, 3]), txn 0x106 ([0, 0, 0x84, 3]), [0, 0, 0x84, 3], by decide +kernel, admits (by decide +kernel), by unfold zeroIn; decide +kernel, by decide +kernel⟩⟩

/-- The clauses of `Obligations.TimeOutCommands` can be met. -/
theorem test_TimeOutCommands :
    (∃ s : State, ∃ t : Txn, ∃ p : List Byte, ∃ m, p = payloadOf t ∧ s.Admits t 0x0201 ∧ s.nav.mapPayload = some m) ∧
    (∃ s : State, ∃ t : Txn, ∃ p : List Byte, p = payloadOf t ∧ s.Admits t 0x0202 ∧ zeroIn p [(1, 0xF0), (2, 0xFF), (3, 0xFF)] ∧ byteAt p 0 ≤ 3 ∧ byteAt p 1 / 2 % 4 ≠ 3) ∧
    (∃ s : State, ∃ t : Txn, ∃ p : List Byte, ∃ n, p = payloadOf t ∧ s.Admits t 0x0601 ∧ byteAt p 0 = n ∧ n ≤ 15) ∧
    (∃ s : State, ∃ t : Txn, ∃ p : List Byte, p = payloadOf t ∧ s.Admits t 0x0602 ∧ zeroIn p [(1, 0xFE), (3, 0xFF)] ∧ byteAt p 0 ∈ [1, 2, 5, 10, 20, 50] ∧ byteAt p 2 ≤ 2) ∧
    (∃ s : State, ∃ t : Txn, ∃ p : List Byte, p = payloadOf t ∧ s.Admits t 0x0604 ∧ zeroIn p [(1, 0xFF)] ∧ byteAt p 0 = 0 ∧ 1 ≤ getLe p 2 2) ∧
    (∃ s : State, ∃ t : Txn, ∃ p : List Byte, p = payloadOf t ∧ s.Admits t 0x0604 ∧ zeroIn p [(1, 0xFF)] ∧ byteAt p 0 = 1 ∧ getLe p 2 2 = 0) ∧
    (∃ s : State, ∃ t : Txn, ∃ p : List Byte, ∃ n, p = payloadOf t ∧ s.Admits t 0x0600 ∧ zeroIn p [(2, 0xFC), (3, 0xFF), (10, 0xFF), (11, 0xFF)] ∧ byteAt p 0 = n ∧ 8 ≤ n ∧ n ≤ 15 ∧ n ≠ 13 ∧ 4 ≤ byteAt p 1 ∧ byteAt p 1 ≤ 12 ∧ getLe p 4 4 % 64 = 0 ∧ getLe p 4 4 + 64 * 2 ^ byteAt p 1 ≤ 0x400000 ∧ getLe p 8 2 ≤ 2 ^ byteAt p 1 ∧ bit (byteAt p 2) 0 = true ∧ (s.begun t).ringOverlap n (getLe p 4 4) (64 * 2 ^ byteAt p 1) = none ∧ overlap (getLe p 4 4) (64 * 2 ^ byteAt p 1) 0x3E3000 0x1D000 = false ∧ (∃ k < 4, ((vget (s.begun t).rings k).en && !(vget (s.begun t).rings k).side) = true ∧ ((vget (s.begun t).rings (k + 4)).en && !(vget (s.begun t).rings (k + 4)).side) = true)) :=
  ⟨⟨sent (mapped) 0x201 ([]), txn 0x201 ([]), [], _, by decide +kernel, admits (by decide +kernel), rfl⟩,
    ⟨sent (up 1) 0x202 ([3, 13, 0, 0]), txn 0x202 ([3, 13, 0, 0]), [3, 13, 0, 0], by decide +kernel, admits (by decide +kernel), by unfold zeroIn; decide +kernel, by decide +kernel⟩,
    ⟨sent (up 1) 0x601 ([15]), txn 0x601 ([15]), [15], 15, by decide +kernel, admits (by decide +kernel), by decide +kernel⟩,
    ⟨sent (up 1) 0x602 ([50, 1, 2, 0]), txn 0x602 ([50, 1, 2, 0]), [50, 1, 2, 0], by decide +kernel, admits (by decide +kernel), by unfold zeroIn; decide +kernel, by decide +kernel⟩,
    ⟨sent (up 1) 0x604 ([0, 0, 1, 0]), txn 0x604 ([0, 0, 1, 0]), [0, 0, 1, 0], by decide +kernel, admits (by decide +kernel), by unfold zeroIn; decide +kernel, by decide +kernel⟩,
    ⟨sent (up 1) 0x604 ([1, 0, 0, 0]), txn 0x604 ([1, 0, 0, 0]), [1, 0, 0, 0], by decide +kernel, admits (by decide +kernel), by unfold zeroIn; decide +kernel, by decide +kernel⟩,
    ⟨sent (up 1) 0x600 ([8, 4, 1, 0, 0, 0, 0x10, 0, 16, 0, 0, 0]), txn 0x600 ([8, 4, 1, 0, 0, 0, 0x10, 0, 16, 0, 0, 0]), [8, 4, 1, 0, 0, 0, 0x10, 0, 16, 0, 0, 0], 8, by decide +kernel, admits (by decide +kernel), by unfold zeroIn; decide +kernel, by decide +kernel⟩⟩

/-- The clauses of `Obligations.MemMonCommands` can be met. -/
theorem test_MemMonCommands :
    (∃ s : State, ∃ t : Txn, ∃ p : List Byte, p = payloadOf t ∧ s.Admits t 0x0E01 ∧ zeroIn p [(3, 0xFF)] ∧ byteAt p 0 ≤ byteAt p 1 ∧ byteAt p 1 ≤ 31 ∧ byteAt p 2 = 0 ∧ s.mem.test = none) ∧
    (∃ s : State, ∃ t : Txn, ∃ p : List Byte, ∃ m, p = payloadOf t ∧ s.Admits t 0x0E01 ∧ zeroIn p [(3, 0xFF)] ∧ byteAt p 0 ≤ byteAt p 1 ∧ byteAt p 1 ≤ 31 ∧ byteAt p 2 = 1 ∧ s.mem.test = some m) ∧
    (∃ s : State, ∃ t : Txn, ∃ p : List Byte, p = payloadOf t ∧ s.Admits t 0x0E02 ∧ zeroIn p [(0, 0xF8), (1, 0xFF), (2, 0xFF), (3, 0xFF)] ∧ byteAt p 0 ≠ 0 ∧ s.mem.scrubMask &&& byteAt p 0 = 0) ∧
    (∃ s : State, ∃ t : Txn, ∃ p : List Byte, ∃ off, ∃ n, p = payloadOf t ∧ s.Admits t 0x0E03 ∧ zeroIn p [(6, 0xFF), (7, 0xFF)] ∧ getLe p 0 4 = off ∧ getLe p 4 2 = n ∧ 1 ≤ n ∧ n ≤ 4000 ∧ off + n ≤ 1769472) ∧
    (∃ s : State, ∃ t : Txn, ∃ p : List Byte, ∃ off, ∃ n, p = payloadOf t ∧ s.Admits t 0x0E04 ∧ zeroIn p [(6, 0xFF), (7, 0xFF)] ∧ getLe p 0 4 = off ∧ getLe p 4 2 = n ∧ 1 ≤ n ∧ n ≤ 4000 ∧ off + n ≤ 1769472 ∧ p.length = 8 + n ∧ s.pwr.lowSupply = false) ∧
    (∃ s : State, ∃ t : Txn, ∃ p : List Byte, ∃ first, ∃ n, p = payloadOf t ∧ s.Admits t 0x0E05 ∧ getLe p 0 2 = first ∧ getLe p 2 2 = n ∧ first ≤ 431 ∧ first + n ≤ 432) ∧
    (∃ s : State, ∃ t : Txn, ∃ p : List Byte, p = payloadOf t ∧ s.Admits t 0x0F00 ∧ zeroIn p [(2, 0xF8), (3, 0xFF)] ∧ byteAt p 0 ≤ 15 ∧ byteAt p 1 ≤ 75) ∧
    (∃ s : State, ∃ t : Txn, ∃ p : List Byte, p = payloadOf t ∧ s.Admits t 0x0F03) :=
  ⟨⟨sent (up 1) 0xE01 ([0, 31, 0, 0]), txn 0xE01 ([0, 31, 0, 0]), [0, 31, 0, 0], by decide +kernel, admits (by decide +kernel), by unfold zeroIn; decide +kernel, by decide +kernel⟩,
    ⟨sent (testing) 0xE01 ([5, 5, 1, 0]), txn 0xE01 ([5, 5, 1, 0]), [5, 5, 1, 0], _, by decide +kernel, admits (by decide +kernel), by unfold zeroIn; decide +kernel, by decide +kernel, by decide +kernel, by decide +kernel, rfl⟩,
    ⟨sent (up 1) 0xE02 ([7, 0, 0, 0]), txn 0xE02 ([7, 0, 0, 0]), [7, 0, 0, 0], by decide +kernel, admits (by decide +kernel), by unfold zeroIn; decide +kernel, by decide +kernel⟩,
    ⟨sent (up 1) 0xE03 ([0xFF, 0xFF, 0x1A, 0, 1, 0, 0, 0]), txn 0xE03 ([0xFF, 0xFF, 0x1A, 0, 1, 0, 0, 0]), [0xFF, 0xFF, 0x1A, 0, 1, 0, 0, 0], 1769471, 1, by decide +kernel, admits (by decide +kernel), by unfold zeroIn; decide +kernel, by decide +kernel⟩,
    ⟨sent (up 1) 0xE04 ([0xFF, 0xFF, 0x1A, 0, 1, 0, 0, 0, 7]), txn 0xE04 ([0xFF, 0xFF, 0x1A, 0, 1, 0, 0, 0, 7]), [0xFF, 0xFF, 0x1A, 0, 1, 0, 0, 0, 7], 1769471, 1, by decide +kernel, admits (by decide +kernel), by unfold zeroIn; decide +kernel, by decide +kernel⟩,
    ⟨sent (up 1) 0xE05 ([0xAF, 1, 1, 0]), txn 0xE05 ([0xAF, 1, 1, 0]), [0xAF, 1, 1, 0], 431, 1, by decide +kernel, admits (by decide +kernel), by decide +kernel⟩,
    ⟨sent (up 1) 0xF00 ([15, 75, 7, 0]), txn 0xF00 ([15, 75, 7, 0]), [15, 75, 7, 0], by decide +kernel, admits (by decide +kernel), by unfold zeroIn; decide +kernel, by decide +kernel⟩,
    ⟨sent (up 1) 0xF03 ([]), txn 0xF03 ([]), [], by decide +kernel, admits (by decide +kernel)⟩⟩

/-- The clauses of `Obligations.LoadCommands` can be met. -/
theorem test_LoadCommands :
    (∃ s : State, ∃ t : Txn, ∃ p : List Byte, p = payloadOf t ∧ zeroIn p [(1, 0xFF), (2, 0xFF), (3, 0xFF)] ∧ s.Admits t 0x1001 ∧ byteAt p 0 = 0 ∧ p.length = 40 ∧ 1 ≤ getLe p 4 4 ∧ getLe p 4 4 ≤ 1048576 ∧ s.drumImages.load = none) ∧
    (∃ s : State, ∃ t : Txn, ∃ p : List Byte, ∃ l, p = payloadOf t ∧ zeroIn p [(1, 0xFF), (2, 0xFF), (3, 0xFF)] ∧ s.Admits t 0x1001 ∧ byteAt p 0 = 1 ∧ 9 ≤ p.length ∧ p.length ≤ 4008 ∧ s.drumImages.load = some l ∧ l.check = none ∧ getLe p 4 4 + (p.length - 8) ≤ l.length) ∧
    (∃ s : State, ∃ t : Txn, ∃ p : List Byte, ∃ l, p = payloadOf t ∧ zeroIn p [(1, 0xFF), (2, 0xFF), (3, 0xFF)] ∧ s.Admits t 0x1001 ∧ byteAt p 0 = 2 ∧ p.length = 4 ∧ s.drumImages.load = some l ∧ l.check = none) ∧
    (∃ s : State, ∃ t : Txn, ∃ p : List Byte, ∃ l, p = payloadOf t ∧ zeroIn p [(1, 0xFF), (2, 0xFF), (3, 0xFF)] ∧ s.Admits t 0x1001 ∧ byteAt p 0 = 3 ∧ p.length = 4 ∧ s.drumImages.load = some l ∧ l.check = none) ∧
    (∃ s : State, ∃ t : Txn, ∃ p : List Byte, p = payloadOf t ∧ zeroIn p [(1, 0xFF), (2, 0xFF), (3, 0xFF)] ∧ s.Admits t 0x1002 ∧ byteAt p 0 ≤ 1 ∧ (s.drumImages.slot (byteAt p 0 == 1)).valid = true ∧ s.drumImages.load = none) ∧
    (∃ s : State, ∃ t : Txn, ∃ p : List Byte, p = payloadOf t ∧ zeroIn p [(1, 0xFF), (2, 0xFF), (3, 0xFF)] ∧ s.Admits t 0x0B11 ∧ byteAt p 0 = 0 ∧ p.length = 40 ∧ 1 ≤ getLe p 4 4 ∧ getLe p 4 4 ≤ 1048576 ∧ s.domeImages.load = none ∧ s.sealed.state ≠ .sealed ∧ s.sealed.auditHold = false) ∧
    (∃ s : State, ∃ t : Txn, ∃ p : List Byte, ∃ l, p = payloadOf t ∧ zeroIn p [(1, 0xFF), (2, 0xFF), (3, 0xFF)] ∧ s.Admits t 0x0B11 ∧ byteAt p 0 = 1 ∧ 9 ≤ p.length ∧ p.length ≤ 4008 ∧ s.domeImages.load = some l ∧ l.check = none ∧ getLe p 4 4 + (p.length - 8) ≤ l.length ∧ s.sealed.state ≠ .sealed ∧ s.sealed.auditHold = false) ∧
    (∃ s : State, ∃ t : Txn, ∃ p : List Byte, ∃ l, p = payloadOf t ∧ zeroIn p [(1, 0xFF), (2, 0xFF), (3, 0xFF)] ∧ s.Admits t 0x0B11 ∧ byteAt p 0 = 2 ∧ p.length = 4 ∧ s.domeImages.load = some l ∧ l.check = none ∧ s.sealed.state ≠ .sealed ∧ s.sealed.auditHold = false) ∧
    (∃ s : State, ∃ t : Txn, ∃ p : List Byte, ∃ l, p = payloadOf t ∧ zeroIn p [(1, 0xFF), (2, 0xFF), (3, 0xFF)] ∧ s.Admits t 0x0B11 ∧ byteAt p 0 = 3 ∧ p.length = 4 ∧ s.domeImages.load = some l ∧ l.check = none) ∧
    (∃ s : State, ∃ t : Txn, ∃ p : List Byte, p = payloadOf t ∧ zeroIn p [(1, 0xFF), (2, 0xFF), (3, 0xFF)] ∧ s.Admits t 0x0B12 ∧ byteAt p 0 ≤ 1 ∧ (s.domeImages.slot (byteAt p 0 == 1)).valid = true ∧ s.domeImages.load = none ∧ s.sealed.auditHold = false) ∧
    (∃ s : State, ∃ t : Txn, ∃ p : List Byte, p = payloadOf t ∧ zeroIn p [(1, 0xFF), (2, 0xFF), (3, 0xFF)] ∧ s.Admits t 0x0B0C ∧ byteAt p 0 = 0 ∧ p.length = 44 ∧ getLe p 4 2 ≤ 256 ∧ getLe p 6 2 ≤ 4096 ∧ getLe p 8 4 = 8 * getLe p 4 2 + 8 * getLe p 6 2 ∧ s.zoneLoad = none ∧ s.sealed.state ≠ .sealed ∧ s.sealed.auditHold = false) ∧
    (∃ s : State, ∃ t : Txn, ∃ p : List Byte, ∃ l, p = payloadOf t ∧ zeroIn p [(1, 0xFF), (2, 0xFF), (3, 0xFF)] ∧ s.Admits t 0x0B0C ∧ byteAt p 0 = 1 ∧ 9 ≤ p.length ∧ p.length ≤ 4008 ∧ s.zoneLoad = some l ∧ l.check = none ∧ getLe p 4 4 + (p.length - 8) ≤ l.length ∧ s.sealed.state ≠ .sealed ∧ s.sealed.auditHold = false) ∧
    (∃ s : State, ∃ t : Txn, ∃ p : List Byte, ∃ l, p = payloadOf t ∧ zeroIn p [(1, 0xFF), (2, 0xFF), (3, 0xFF)] ∧ s.Admits t 0x0B0C ∧ byteAt p 0 = 2 ∧ p.length = 4 ∧ s.zoneLoad = some l ∧ l.check = none ∧ s.sealed.state ≠ .sealed ∧ s.sealed.auditHold = false) ∧
    (∃ s : State, ∃ t : Txn, ∃ p : List Byte, ∃ l, p = payloadOf t ∧ zeroIn p [(1, 0xFF), (2, 0xFF), (3, 0xFF)] ∧ s.Admits t 0x0B0C ∧ byteAt p 0 = 3 ∧ p.length = 4 ∧ s.zoneLoad = some l ∧ l.check = none) :=
  ⟨⟨sent (up 1) 0x1001 ([0, 0, 0, 0] ++ le 4 0x100000 ++ zeros 32), txn 0x1001 ([0, 0, 0, 0] ++ le 4 0x100000 ++ zeros 32), [0, 0, 0, 0] ++ le 4 0x100000 ++ zeros 32, by decide +kernel, by unfold zeroIn; decide +kernel, admits (by decide +kernel), by decide +kernel⟩,
    by refine ⟨sent (loading) 0x1001 ([1, 0, 0, 0, 199, 0, 0, 0, 9]), txn 0x1001 ([1, 0, 0, 0, 199, 0, 0, 0, 9]), [1, 0, 0, 0, 199, 0, 0, 0, 9], _, ?_, by unfold zeroIn; decide +kernel, admits (by decide +kernel), ?_, ?_, ?_, rfl, ?_⟩ <;> decide +kernel,
    ⟨sent (loading) 0x1001 ([2, 0, 0, 0]), txn 0x1001 ([2, 0, 0, 0]), [2, 0, 0, 0], _, by decide +kernel, by unfold zeroIn; decide +kernel, admits (by decide +kernel), by decide +kernel, by decide +kernel, rfl, by decide +kernel⟩,
    ⟨sent (loading) 0x1001 ([3, 0, 0, 0]), txn 0x1001 ([3, 0, 0, 0]), [3, 0, 0, 0], _, by decide +kernel, by unfold zeroIn; decide +kernel, admits (by decide +kernel), by decide +kernel, by decide +kernel, rfl, by decide +kernel⟩,
    ⟨sent (up 1) 0x1002 ([0, 0, 0, 0]), txn 0x1002 ([0, 0, 0, 0]), [0, 0, 0, 0], by decide +kernel, by unfold zeroIn; decide +kernel, admits (by decide +kernel), by decide +kernel⟩,
    ⟨sent (up 1) 0xB11 ([0, 0, 0, 0] ++ le 4 1 ++ zeros 32), txn 0xB11 ([0, 0, 0, 0] ++ le 4 1 ++ zeros 32), [0, 0, 0, 0] ++ le 4 1 ++ zeros 32, by decide +kernel, by unfold zeroIn; decide +kernel, admits (by decide +kernel), by decide +kernel⟩,
    by refine ⟨sent (loading) 0xB11 ([1, 0, 0, 0, 199, 0, 0, 0, 9]), txn 0xB11 ([1, 0, 0, 0, 199, 0, 0, 0, 9]), [1, 0, 0, 0, 199, 0, 0, 0, 9], _, ?_, by unfold zeroIn; decide +kernel, admits (by decide +kernel), ?_, ?_, ?_, rfl, ?_⟩ <;> decide +kernel,
    ⟨sent (loading) 0xB11 ([2, 0, 0, 0]), txn 0xB11 ([2, 0, 0, 0]), [2, 0, 0, 0], _, by decide +kernel, by unfold zeroIn; decide +kernel, admits (by decide +kernel), by decide +kernel, by decide +kernel, rfl, by decide +kernel⟩,
    ⟨sent (loading) 0xB11 ([3, 0, 0, 0]), txn 0xB11 ([3, 0, 0, 0]), [3, 0, 0, 0], _, by decide +kernel, by unfold zeroIn; decide +kernel, admits (by decide +kernel), by decide +kernel, by decide +kernel, rfl, by decide +kernel⟩,
    ⟨sent (up 1) 0xB12 ([0, 0, 0, 0]), txn 0xB12 ([0, 0, 0, 0]), [0, 0, 0, 0], by decide +kernel, by unfold zeroIn; decide +kernel, admits (by decide +kernel), by decide +kernel⟩,
    ⟨sent (up 1) 0xB0C ([0, 0, 0, 0] ++ le 2 1 ++ le 2 3 ++ le 4 32 ++ zeros 32), txn 0xB0C ([0, 0, 0, 0] ++ le 2 1 ++ le 2 3 ++ le 4 32 ++ zeros 32), [0, 0, 0, 0] ++ le 2 1 ++ le 2 3 ++ le 4 32 ++ zeros 32, by decide +kernel, by unfold zeroIn; decide +kernel, admits (by decide +kernel), by decide +kernel⟩,
    by refine ⟨sent (loading) 0xB0C ([1, 0, 0, 0, 199, 0, 0, 0, 9]), txn 0xB0C ([1, 0, 0, 0, 199, 0, 0, 0, 9]), [1, 0, 0, 0, 199, 0, 0, 0, 9], _, ?_, by unfold zeroIn; decide +kernel, admits (by decide +kernel), ?_, ?_, ?_, rfl, ?_⟩ <;> decide +kernel,
    ⟨sent (loading) 0xB0C ([2, 0, 0, 0]), txn 0xB0C ([2, 0, 0, 0]), [2, 0, 0, 0], _, by decide +kernel, by unfold zeroIn; decide +kernel, admits (by decide +kernel), by decide +kernel, by decide +kernel, rfl, by decide +kernel⟩,
    ⟨sent (loading) 0xB0C ([3, 0, 0, 0]), txn 0xB0C ([3, 0, 0, 0]), [3, 0, 0, 0], _, by decide +kernel, by unfold zeroIn; decide +kernel, admits (by decide +kernel), by decide +kernel, by decide +kernel, rfl, by decide +kernel⟩⟩

/-- The clauses of `Obligations.ChainSerialCommands` can be met. -/
theorem test_ChainSerialCommands :
    (∃ s : State, ∃ t : Txn, ∃ p : List Byte, p = payloadOf t ∧ s.Admits t 0x0C01 ∧ s.chain.head = true ∧ s.chain.enum = none) ∧
    (∃ s : State, ∃ t : Txn, ∃ p : List Byte, ∃ e, p = payloadOf t ∧ s.Admits t 0x0C01 ∧ s.chain.head = true ∧ s.chain.enum = some e) ∧
    (∃ s : State, ∃ t : Txn, ∃ p : List Byte, p = payloadOf t ∧ s.Admits t 0x0C02 ∧ zeroIn p [(0, 0xF0), (1, 0xFF), (4, 0xFF), (5, 0xFF), (6, 0xFF), (7, 0xFF)] ∧ getLe p 2 2 ≤ 10000) ∧
    (∃ s : State, ∃ t : Txn, ∃ p : List Byte, p = payloadOf t ∧ s.Admits t 0x0C05 ∧ zeroIn p [(2, 0xFF), (3, 0xFF)] ∧ (getLe p 0 2 = 0 ∨ 10 ≤ getLe p 0 2 ∧ getLe p 0 2 ≤ 10000) ∧ s.chain.head = true) ∧
    (∃ s : State, ∃ t : Txn, ∃ p : List Byte, ∃ u, p = payloadOf t ∧ s.Admits t 0x0D00 ∧ zeroIn p [(1, 0x80), (2, 0xF0), (7, 0xFF), (10, 0xFF), (11, 0xFF), (12, 0xFF), (13, 0xFF), (14, 0xFF), (15, 0xFF)] ∧ byteAt p 0 = u ∧ u ≤ 7 ∧ u ≠ 6 ∧ byteAt p 1 % 8 ≤ 4 ∧ byteAt p 1 / 8 % 8 ≤ 4 ∧ (bit (byteAt p 2) 3 = true → u = 7) ∧ (byteAt p 3 ≤ (if bit (byteAt p 2) 3 then 3 else 0)) ∧ getLe p 4 2 ≠ 0 ∧ (u = 7 → byteAt p 6 = 0) ∧ 1 ≤ byteAt p 8 ∧ byteAt p 8 ≤ 64 ∧ byteAt p 9 ≤ 63 ∧ (vget s.uarts u).sending = none) ∧
    (∃ s : State, ∃ t : Txn, ∃ p : List Byte, ∃ u, p = payloadOf t ∧ s.Admits t 0x0D01 ∧ byteAt p 0 = u ∧ u ≤ 7) ∧
    (∃ s : State, ∃ t : Txn, ∃ p : List Byte, ∃ u, p = payloadOf t ∧ s.Admits t 0x0D02 ∧ zeroIn p [(1, 0xFF)] ∧ byteAt p 0 = u ∧ u ≤ 7 ∧ u ≠ 6 ∧ getLe p 2 2 ≠ 0 ∧ (vget s.uarts u).txen = true ∧ (vget s.uarts u).sending = none ∧ (vget s.uarts u).brkReq = none) ∧
    (∃ s : State, ∃ t : Txn, ∃ p : List Byte, p = payloadOf t ∧ s.Admits t 0x0D03 ∧ zeroIn p [(1, 0xE0), (3, 0xFF), (21, 0xFF), (22, 0xFF), (23, 0xFF)] ∧ CanValid p) ∧
    (∃ s : State, ∃ t : Txn, ∃ p : List Byte, ∃ m, p = payloadOf t ∧ s.Admits t 0x0D04 ∧ byteAt p 0 = m ∧ m ≤ 1) ∧
    (∃ s : State, ∃ t : Txn, ∃ p : List Byte, ∃ n, p = payloadOf t ∧ s.Admits t 0x0D05 ∧ byteAt p 0 = n ∧ n ≤ 9 ∧ n ≠ 6) :=
  ⟨⟨sent ({ up 1 with chain := { head := true } }) 0xC01 ([]), txn 0xC01 ([]), [], by decide +kernel, admits (by decide +kernel), by decide +kernel⟩,
    ⟨sent ({ up 1 with chain := { head := true, enum := some { started := 0, cmds := [] } } }) 0xC01 ([]), txn 0xC01 ([]), [], _, by decide +kernel, admits (by decide +kernel), by decide +kernel, rfl⟩,
    ⟨sent (up 1) 0xC02 ([15, 0, 0x10, 0x27, 0, 0, 0, 0]), txn 0xC02 ([15, 0, 0x10, 0x27, 0, 0, 0, 0]), [15, 0, 0x10, 0x27, 0, 0, 0, 0], by decide +kernel, admits (by decide +kernel), by unfold zeroIn; decide +kernel, by decide +kernel⟩,
    ⟨sent ({ up 1 with chain := { head := true } }) 0xC05 ([10, 0, 0, 0]), txn 0xC05 ([10, 0, 0, 0]), [10, 0, 0, 0], by decide +kernel, admits (by decide +kernel), by unfold zeroIn; decide +kernel, by decide +kernel⟩,
    ⟨sent (up 1) 0xD00 ([7, 0x64, 15, 3, 1, 0, 0, 0, 64, 63, 0, 0, 0, 0, 0, 0]), txn 0xD00 ([7, 0x64, 15, 3, 1, 0, 0, 0, 64, 63, 0, 0, 0, 0, 0, 0]), [7, 0x64, 15, 3, 1, 0, 0, 0, 64, 63, 0, 0, 0, 0, 0, 0], 7, by decide +kernel, admits (by decide +kernel), by unfold zeroIn; decide +kernel, by decide +kernel⟩,
    ⟨sent (up 1) 0xD01 ([7]), txn 0xD01 ([7]), [7], 7, by decide +kernel, admits (by decide +kernel), by decide +kernel⟩,
    ⟨sent ({ up 1 with uarts := vset (up 1).uarts 7 { txen := true } }) 0xD02 ([7, 0, 1, 0]), txn 0xD02 ([7, 0, 1, 0]), [7, 0, 1, 0], 7, by decide +kernel, admits (by decide +kernel), by unfold zeroIn; decide +kernel, by decide +kernel⟩,
    ⟨sent (up 1) 0xD03 ([1, 0, 2, 0, 1, 0, 77, 0, 2, 1, 1, 13, 2, 1, 127, 4, 0, 0, 0, 1, 4, 0, 0, 0]), txn 0xD03 ([1, 0, 2, 0, 1, 0, 77, 0, 2, 1, 1, 13, 2, 1, 127, 4, 0, 0, 0, 1, 4, 0, 0, 0]), [1, 0, 2, 0, 1, 0, 77, 0, 2, 1, 1, 13, 2, 1, 127, 4, 0, 0, 0, 1, 4, 0, 0, 0], by decide +kernel, admits (by decide +kernel), by unfold zeroIn; decide +kernel, ⟨by decide +kernel, by decide +kernel, by decide +kernel, by decide +kernel, by decide +kernel, by decide +kernel, by decide +kernel⟩⟩,
    ⟨sent (up 1) 0xD04 ([1]), txn 0xD04 ([1]), [1], 1, by decide +kernel, admits (by decide +kernel), by decide +kernel⟩,
    ⟨sent (up 1) 0xD05 ([9]), txn 0xD05 ([9]), [9], 9, by decide +kernel, admits (by decide +kernel), by decide +kernel⟩⟩

/-- The clauses of `Obligations.InputCommands` can be met. -/
theorem test_InputCommands :
    (∃ s : State, ∃ t : Txn, ∃ p : List Byte, ∃ k, ∃ n, p = payloadOf t ∧ s.Admits t 0x0300 ∧ zeroIn p [(0, 0xF8), (1, 0xFC)] ∧ byteAt p 0 = k ∧ parsePort p = n ∧ PortValid k n ∧ s.mayChange (portFields k (s.port k).cfg n) ∧ s.profileRate ≠ 0) ∧
    (∃ s : State, ∃ t : Txn, ∃ p : List Byte, ∃ k, ∃ n, p = payloadOf t ∧ s.Admits t 0x0300 ∧ zeroIn p [(0, 0xF8), (1, 0xFC)] ∧ byteAt p 0 = k ∧ parsePort p = n ∧ PortValid k n ∧ s.mayChange (portFields k (s.port k).cfg n) ∧ s.profileRate = 0) ∧
    (∃ s : State, ∃ t : Txn, ∃ p : List Byte, ∃ k, p = payloadOf t ∧ s.Admits t 0x0301 ∧ byteAt p 0 = k ∧ k ≤ 7) ∧
    (∃ s : State, ∃ t : Txn, ∃ p : List Byte, ∃ m, p = payloadOf t ∧ s.Admits t 0x0302 ∧ byteAt p 0 = m ∧ m ≠ 0 ∧ (∀ k < 8, bit m k = true → (s.port k).cfg.enable = true ∧ (s.port k).lane ≠ .off)) ∧
    (∃ s : State, ∃ t : Txn, ∃ p : List Byte, ∃ k, ∃ n, p = payloadOf t ∧ s.Admits t 0x0303 ∧ zeroIn p [(1, 0xFF)] ∧ byteAt p 0 = k ∧ getLe p 2 2 = n ∧ k ≤ 7 ∧ 1 ≤ n ∧ n ≤ 1000 ∧ (s.port k).lane = .locked) ∧
    (∃ s : State, ∃ t : Txn, ∃ p : List Byte, ∃ k, ∃ n, p = payloadOf t ∧ s.Admits t 0x0304 ∧ byteAt p 0 = k ∧ getLe p 2 2 = n ∧ k ≤ 7 ∧ byteAt p 1 ≤ 1 ∧ 1 ≤ n ∧ (s.port k).lane = .locked ∧ (s.port k).spec = none) ∧
    (∃ s : State, ∃ t : Txn, ∃ p : List Byte, ∃ n, p = payloadOf t ∧ s.Admits t 0x0305 ∧ zeroIn p [(0, 0xF8), (9, 0xFF), (10, 0xFF), (11, 0xFF)] ∧ notchGiven p = n ∧ n.notch ≤ 3 ∧ n.mode ≤ 2 ∧ n.width ≤ 3 ∧ n.offset.natAbs ≤ 40000000 ∧ 6 ≤ n.thresh ∧ n.thresh ≤ 30) ∧
    (∃ s : State, ∃ t : Txn, ∃ p : List Byte, ∃ k, p = payloadOf t ∧ s.Admits t 0x0306 ∧ byteAt p 0 = k ∧ k ≤ 7) ∧
    (∃ s : State, ∃ t : Txn, ∃ p : List Byte, ∃ g, p = payloadOf t ∧ s.Admits t 0x0307 ∧ zeroIn p [(0, 0xF0), (1, 0xFF), (2, 0xFF), (3, 0xFF)] ∧ parseArray p = g ∧ g.ok = true ∧ s.mayChange (arrayFields s.input.array g)) ∧
    (∃ s : State, ∃ t : Txn, ∃ p : List Byte, ∃ a, ∃ b, p = payloadOf t ∧ s.Admits t 0x0309 ∧ zeroIn p [(2, 0xFE), (5, 0xFF), (6, 0xFF), (7, 0xFF)] ∧ byteAt p 3 = a ∧ byteAt p 4 = b ∧ 1 ≤ a ∧ a ≤ 254 ∧ a < b ∧ (a ≠ s.input.jCaution ∨ b ≠ s.input.jAlert) ∧ s.sealed.state ≠ .sealed ∧ s.profileRate ≠ 0 ∧ (s.sealed.canEnter (if a ≠ s.input.jCaution ∧ b ≠ s.input.jAlert then 2 else 1) = true)) ∧
    (∃ s : State, ∃ t : Txn, ∃ p : List Byte, p = payloadOf t ∧ s.Admits t 0x0309 ∧ zeroIn p [(2, 0xFE), (5, 0xFF), (6, 0xFF), (7, 0xFF)] ∧ byteAt p 3 = s.input.jCaution ∧ byteAt p 4 = s.input.jAlert ∧ 1 ≤ s.input.jCaution ∧ s.input.jCaution < s.input.jAlert ∧ s.profileRate ≠ 0) :=
  ⟨⟨sent (up 2) 0x300 (((up 2).port 0).cfg.bytes 0), txn 0x300 (((up 2).port 0).cfg.bytes 0), ((up 2).port 0).cfg.bytes 0, 0, _, by decide +kernel, admits (by decide +kernel), by unfold zeroIn; decide +kernel, by decide +kernel, rfl, ⟨by decide +kernel, by decide +kernel, by decide +kernel⟩, by unfold State.mayChange; decide +kernel, by decide +kernel⟩,
    ⟨sent (up 0) 0x300 (le 1 7 ++ [1, 0, 0, 0, 63, 32, 4] ++ le 4 1155000000), txn 0x300 (le 1 7 ++ [1, 0, 0, 0, 63, 32, 4] ++ le 4 1155000000), le 1 7 ++ [1, 0, 0, 0, 63, 32, 4] ++ le 4 1155000000, 7, _, by decide +kernel, admits (by decide +kernel), by unfold zeroIn; decide +kernel, by decide +kernel, rfl, ⟨by decide +kernel, by decide +kernel, by decide +kernel⟩, by unfold State.mayChange; decide +kernel, by decide +kernel⟩,
    ⟨sent (up 2) 0x301 ([7]), txn 0x301 ([7]), [7], 7, by decide +kernel, admits (by decide +kernel), by decide +kernel⟩,
    ⟨sent (locked 2) 0x302 ([0xFF]), txn 0x302 ([0xFF]), [0xFF], 255, by decide +kernel, admits (by decide +kernel), by decide +kernel⟩,
    ⟨sent (locked 2) 0x303 ([7, 0, 0xE8, 3]), txn 0x303 ([7, 0, 0xE8, 3]), [7, 0, 0xE8, 3], 7, 1000, by decide +kernel, admits (by decide +kernel), by unfold zeroIn; decide +kernel, by decide +kernel⟩,
    ⟨sent (locked 2) 0x304 ([0, 1, 1, 0]), txn 0x304 ([0, 1, 1, 0]), [0, 1, 1, 0], 0, 1, by decide +kernel, admits (by decide +kernel), by decide +kernel⟩,
    ⟨sent (up 2) 0x305 ([7, 3, 2, 3, 0, 0x5A, 0x62, 2, 30, 0, 0, 0]), txn 0x305 ([7, 3, 2, 3, 0, 0x5A, 0x62, 2, 30, 0, 0, 0]), [7, 3, 2, 3, 0, 0x5A, 0x62, 2, 30, 0, 0, 0], _, by decide +kernel, admits (by decide +kernel), by unfold zeroIn; decide +kernel, rfl, by decide +kernel⟩,
    ⟨sent (up 2) 0x306 ([7]), txn 0x306 ([7]), [7], 7, by decide +kernel, admits (by decide +kernel), by decide +kernel⟩,
    ⟨sent (up 2) 0x307 ([3, 0, 0, 0] ++ le 4 500 ++ zeros 32), txn 0x307 ([3, 0, 0, 0] ++ le 4 500 ++ zeros 32), [3, 0, 0, 0] ++ le 4 500 ++ zeros 32, _, by decide +kernel, admits (by decide +kernel), by unfold zeroIn; decide +kernel, rfl, by decide +kernel, by unfold State.mayChange; decide +kernel⟩,
    ⟨sent (up 2) 0x309 ([1, 0, 1, 1, 2, 0, 0, 0]), txn 0x309 ([1, 0, 1, 1, 2, 0, 0, 0]), [1, 0, 1, 1, 2, 0, 0, 0], 1, 2, by decide +kernel, admits (by decide +kernel), by unfold zeroIn; decide +kernel, by decide +kernel⟩,
    ⟨sent (up 2) 0x309 ([1, 0, 1, 24, 80, 0, 0, 0]), txn 0x309 ([1, 0, 1, 24, 80, 0, 0, 0]), [1, 0, 1, 24, 80, 0, 0, 0], by decide +kernel, admits (by decide +kernel), by unfold zeroIn; decide +kernel, by decide +kernel⟩⟩

/-- The clauses of `Obligations.AcqCommands` can be met. -/
theorem test_AcqCommands :
    (∃ s : State, ∃ t : Txn, ∃ p : List Byte, p = payloadOf t ∧ s.Admits t 0x0400 ∧ zeroIn p [(1, 0xF8), (3, 0xFC), (12, 0xFF), (13, 0xFF), (14, 0xFF), (15, 0xFF)] ∧ p.length = 24 ∧ byteAt p 0 = 0 ∧ bit (byteAt p 1) 2 = false ∧ byteAt p 2 = 0 ∧ byteAt p 4 ∈ [1, 2, 4, 5, 10, 20] ∧ byteAt p 4 * (coldJob p 0 0 0).nnc ≤ 1000 ∧ byteAt p 6 ≤ 8 ∧ 2 ≤ byteAt p 7 ∧ byteAt p 7 ≤ 9 ∧ 1 ≤ getLe p 8 2 ∧ getLe p 8 2 ≤ 1000 ∧ byteAt p 10 = 0 ∧ byteAt p 11 = 0 ∧ (if s.pwr.profile = 0 then byteAt p 1 % 4 = s.easel.sketch.antenna else (s.port (2 * (byteAt p 1 % 4))).lane ≠ .off ∨ (s.port (2 * (byteAt p 1 % 4) + 1)).lane ≠ .off)) ∧
    (∃ s : State, ∃ t : Txn, ∃ p : List Byte, ∃ f, p = payloadOf t ∧ s.Admits t 0x0401 ∧ zeroIn p [(1, 0xFF), (2, 0xFF), (3, 0xFF)] ∧ s.interp.inflight = [f] ∧ f.tag = byteAt p 0 ∧ f.opcode = 0x0400 ∧ s.easel.fix = none ∧ s.easel.capturing = none) ∧
    (∃ s : State, ∃ t : Txn, ∃ p : List Byte, ∃ id, ∃ u, p = payloadOf t ∧ s.Admits t 0x0402 ∧ zeroIn p [(0, 0xFC), (3, 0xFE), (6, 0xFF), (7, 0xFF)] ∧ byteAt p 1 ≤ 3 ∧ byteAt p 2 ≤ 1 ∧ (byteAt p 1 ≤ 1 → byteAt p 2 = 0) ∧ 1 ≤ getLe p 4 2 ∧ getLe p 4 2 ≤ captureLongest (byteAt p 1) ∧ s.pwr.profile ≠ 1 ∧ s.pwr.profile ≠ 3 ∧ (s.begun t).requestCapture (some s.interp.nextId) (byteAt p 0) (byteAt p 1) (byteAt p 2) (getLe p 4 2) (bit (byteAt p 3) 0) false = some (id, u)) ∧
    (∃ s : State, ∃ t : Txn, ∃ p : List Byte, ∃ x, p = payloadOf t ∧ s.Admits t 0x0403 ∧ (zeroIn p ([(2, 0xF8), (5, 0xF0)] ++ (List.range 8).map fun k => (24 + k, 0xFF))) ∧ byteAt p 0 = 0 ∧ byteAt p 1 = 0 ∧ byteAt p 3 ≤ 3 ∧ byteAt p 4 ≤ 1 ∧ byteAt p 5 ≠ 0 ∧ 2 ≤ getLe p 6 2 ∧ getLe p 6 2 ≤ 100 ∧ bit (byteAt p 2) 1 = false ∧ s.pwr.profile ≠ 1 ∧ s.pwr.profile ≠ 3 ∧ s.easel.fix = some x) ∧
    (∃ s : State, ∃ t : Txn, ∃ p : List Byte, ∃ n, p = payloadOf t ∧ s.Admits t 0x0405 ∧ zeroIn p [(0, 0xFC), (3, 0xFF)] ∧ watchGiven p = n ∧ 3 ≤ n.margin ∧ n.margin ≤ 20 ∧ 5 ≤ n.span ∧ n.span ≤ 40 ∧ s.mayChange (watchFields (s.easel.watch.pending.getD s.easel.watch.cfg) n)) ∧
    (∃ s : State, ∃ t : Txn, ∃ p : List Byte, ∃ c, p = payloadOf t ∧ s.Admits t 0x0408 ∧ zeroIn p [(1, 0xFF), (2, 0xFF), (3, 0xFF), (10, 0xFF), (11, 0xFF)] ∧ byteAt p 0 < 8 ∧ vget s.easel.captures (byteAt p 0) = some c ∧ c.writing = false ∧ 1 ≤ getLe p 8 2 ∧ getLe p 8 2 ≤ 4000 ∧ getLe p 4 4 + getLe p 8 2 ≤ captureBytes c.format (c.samples / 81840)) ∧
    (∃ s : State, ∃ t : Txn, ∃ p : List Byte, ∃ c, p = payloadOf t ∧ s.Admits t 0x0409 ∧ zeroIn p [(1, 0xFF), (2, 0xFF), (3, 0xFF)] ∧ byteAt p 0 < 8 ∧ vget s.easel.captures (byteAt p 0) = some c ∧ s.easel.inUse (byteAt p 0) = false) ∧
    (∃ s : State, ∃ t : Txn, ∃ p : List Byte, p = payloadOf t ∧ s.Admits t 0x0409 ∧ zeroIn p [(1, 0xFF), (2, 0xFF), (3, 0xFF)] ∧ byteAt p 0 = 255) ∧
    (∃ s : State, ∃ t : Txn, ∃ p : List Byte, ∃ c, p = payloadOf t ∧ s.Admits t 0x040A ∧ zeroIn p [(9, 0xFC), (12, 0xF0), (13, 0xFF), (14, 0xFF), (15, 0xFF)] ∧ sketchGiven p = c ∧ 1 ≤ c.interval ∧ c.interval ≤ 86400 ∧ 2 ≤ c.length ∧ c.length ≤ 100 ∧ c.antenna ≤ 3 ∧ c.format ≤ 1 ∧ c.rest ≤ 1 ∧ c.speed ≤ 1000 ∧ c.mask ≠ 0) :=
  ⟨⟨sent (locked 2) 0x400 ([0, 0, 0, 1, 1, 0, 8, 9, 0xE8, 3, 0, 0] ++ zeros 12), txn 0x400 ([0, 0, 0, 1, 1, 0, 8, 9, 0xE8, 3, 0, 0] ++ zeros 12), [0, 0, 0, 1, 1, 0, 8, 9, 0xE8, 3, 0, 0] ++ zeros 12, by decide +kernel, admits (by decide +kernel), by unfold zeroIn; decide +kernel, by decide +kernel⟩,
    ⟨sent ({ up 2 with interp := { inflight := [{ id := 4, tag := 9, ring := 1, opcode := 0x400, noReply := false, accepted := 0, dome := true }], nextId := 5 } }) 0x401 ([9, 0, 0, 0]), txn 0x401 ([9, 0, 0, 0]), [9, 0, 0, 0], _, by decide +kernel, admits (by decide +kernel), by unfold zeroIn; decide +kernel, rfl, by decide +kernel⟩,
    by refine ⟨sent (locked 2) 0x402 ([3, 1, 0, 0, 0x9A, 1, 0, 0]), txn 0x402 ([3, 1, 0, 0, 0x9A, 1, 0, 0]), [3, 1, 0, 0, 0x9A, 1, 0, 0], _, _, ?_, admits (by decide +kernel), by unfold zeroIn; decide +kernel, ?_, ?_, ?_, ?_, ?_, ?_, ?_, rfl⟩ <;> decide +kernel,
    by refine ⟨sent ((locked 2).modEasel fun e => { e with fix := some { cmd := none, existing := false, capture := none, keep := false, lower := false, antenna := 0, format := 0, mask := 7, length := 20 } }) 0x403 ([0, 0, 0, 3, 1, 15, 2, 0] ++ zeros 24), txn 0x403 ([0, 0, 0, 3, 1, 15, 2, 0] ++ zeros 24), [0, 0, 0, 3, 1, 15, 2, 0] ++ zeros 24, _, ?_, admits (by decide +kernel), by unfold zeroIn; decide +kernel, ?_, ?_, ?_, ?_, ?_, ?_, ?_, ?_, ?_, ?_, rfl⟩ <;> decide +kernel,
    by refine ⟨sent (up 2) 0x405 ([3, 3, 40, 0]), txn 0x405 ([3, 3, 40, 0]), [3, 3, 40, 0], _, ?_, admits (by decide +kernel), by unfold zeroIn; decide +kernel, rfl, ?_, ?_, ?_, ?_, by unfold State.mayChange; decide +kernel⟩ <;> decide +kernel,
    ⟨sent (snapped) 0x408 ([3, 0, 0, 0] ++ le 4 81839 ++ [1, 0, 0, 0]), txn 0x408 ([3, 0, 0, 0] ++ le 4 81839 ++ [1, 0, 0, 0]), [3, 0, 0, 0] ++ le 4 81839 ++ [1, 0, 0, 0], _, by decide +kernel, admits (by decide +kernel), by unfold zeroIn; decide +kernel, by decide +kernel, rfl, by decide +kernel⟩,
    ⟨sent (snapped) 0x409 ([3, 0, 0, 0]), txn 0x409 ([3, 0, 0, 0]), [3, 0, 0, 0], _, by decide +kernel, admits (by decide +kernel), by unfold zeroIn; decide +kernel, by decide +kernel, rfl, by decide +kernel⟩,
    ⟨sent (snapped) 0x409 ([255, 0, 0, 0]), txn 0x409 ([255, 0, 0, 0]), [255, 0, 0, 0], by decide +kernel, admits (by decide +kernel), by unfold zeroIn; decide +kernel, by decide +kernel⟩,
    ⟨sent (up 2) 0x40A (le 4 86400 ++ [100, 0, 3, 1, 1, 3, 0xE8, 3, 1, 0, 0, 0]), txn 0x40A (le 4 86400 ++ [100, 0, 3, 1, 1, 3, 0xE8, 3, 1, 0, 0, 0]), le 4 86400 ++ [100, 0, 3, 1, 1, 3, 0xE8, 3, 1, 0, 0, 0], _, by decide +kernel, admits (by decide +kernel), by unfold zeroIn; decide +kernel, rfl, by decide +kernel⟩⟩

/-- The clauses of `Obligations.TrkCommands` can be met. -/
theorem test_TrkCommands :
    (∃ s : State, ∃ t : Txn, ∃ p : List Byte, ∃ l, p = payloadOf t ∧ s.Admits t 0x0500 ∧ zeroIn p [(1, 0xFC), (10, 0xFF), (11, 0xFF)] ∧ parseLoop p = l ∧ LoopValid (byteAt p 0) l ∧ s.pwr.profile ≠ 0 ∧ s.pwr.profile ≠ 3) ∧
    (∃ s : State, ∃ t : Txn, ∃ p : List Byte, ∃ sig, ∃ l, p = payloadOf t ∧ s.Admits t 0x0501 ∧ byteAt p 0 = sig ∧ (signalRow sig).isSome = true ∧ vget s.trk.loops (signalIndex sig) = l) ∧
    (∃ s : State, ∃ t : Txn, ∃ p : List Byte, ∃ k, p = payloadOf t ∧ s.Admits t 0x0502 ∧ zeroIn p [(11, 0xFF), (15, 0xFF)] ∧ paletteGiven p = k ∧ PaletteValid k ∧ s.pwr.profile ≠ 0 ∧ s.pwr.profile ≠ 3) ∧
    (∃ s : State, ∃ t : Txn, ∃ p : List Byte, ∃ u, ∃ r, ∃ ch, ∃ k, p = payloadOf t ∧ s.Admits t 0x0504 ∧ zeroIn p [(3, 0xFF), (12, 0xFF), (13, 0xFF), (14, 0xFF), (15, 0xFF)] ∧ (s.begun t).serveQueue = u ∧ signalRow (byteAt p 0) = some r ∧ svOk (byteAt p 0) (byteAt p 1) = true ∧ byteAt p 2 = ch ∧ getLe p 4 4 < r.len * 1024 ∧ (u.pwr.profile = 2 ∨ u.pwr.profile = 1 ∧ r.upper = true ∧ (ch < 48 ∨ ch = 255)) ∧ u.holder r.anchor (byteAt p 1) = none ∧ (ch ≤ 191 ∧ (u.chan ch).anchor = none ∧ u.clusterUp (ch / 48) = true ∧ (u.chan ch).out = false ∧ k = ch ∨ ch = 255 ∧ u.chooseChannel = some k)) ∧
    (∃ s : State, ∃ t : Txn, ∃ p : List Byte, ∃ ch, p = payloadOf t ∧ s.Admits t 0x0505 ∧ zeroIn p [(1, 0xFF), (2, 0xFF), (3, 0xFF)] ∧ byteAt p 0 = ch ∧ ch ≤ 191 ∧ s.pwr.profile ≠ 0 ∧ s.pwr.profile ≠ 3 ∧ (s.chan ch).anchor.isSome = true) ∧
    (∃ s : State, ∃ t : Txn, ∃ p : List Byte, p = payloadOf t ∧ s.Admits t 0x0505 ∧ zeroIn p [(1, 0xFF), (2, 0xFF), (3, 0xFF)] ∧ byteAt p 0 = 255 ∧ s.pwr.profile ≠ 0 ∧ s.pwr.profile ≠ 3) ∧
    (∃ s : State, ∃ t : Txn, ∃ p : List Byte, ∃ ch, p = payloadOf t ∧ s.Admits t 0x0506 ∧ byteAt p 0 = ch ∧ ch ≤ 191) ∧
    (∃ s : State, ∃ t : Txn, ∃ p : List Byte, ∃ c, p = payloadOf t ∧ s.Admits t 0x0508 ∧ zeroIn p [(0, 0xFE), (1, 0xF8), (16, 0xFF), (17, 0xFF), (18, 0xFF), (19, 0xFF)] ∧ trkGiven p = c ∧ TrkValid c ∧ bit s.input.array.mask c.primary = true ∧ s.pwr.profile ≠ 0 ∧ s.pwr.profile ≠ 3) :=
  ⟨⟨sent (up 2) 0x500 (le 1 0 ++ [1, 4, 0, 10, 0, 0, 0, 1, 0, 0, 0]), txn 0x500 (le 1 0 ++ [1, 4, 0, 10, 0, 0, 0, 1, 0, 0, 0]), le 1 0 ++ [1, 4, 0, 10, 0, 0, 0, 1, 0, 0, 0], _, by decide +kernel, admits (by decide +kernel), by unfold zeroIn; decide +kernel, rfl, ⟨by decide +kernel, by decide +kernel, by decide +kernel⟩, by decide +kernel⟩,
    ⟨sent (up 2) 0x501 ([1]), txn 0x501 ([1]), [1], 1, _, by decide +kernel, admits (by decide +kernel), by decide +kernel, by decide +kernel, rfl⟩,
    ⟨sent (up 2) 0x502 ([160, 176, 192, 208, 240, 0, 16, 32, 48, 64, 96, 0, 20, 0, 3, 0]), txn 0x502 ([160, 176, 192, 208, 240, 0, 16, 32, 48, 64, 96, 0, 20, 0, 3, 0]), [160, 176, 192, 208, 240, 0, 16, 32, 48, 64, 96, 0, 20, 0, 3, 0], _, by decide +kernel, admits (by decide +kernel), by unfold zeroIn; decide +kernel, rfl, ⟨by decide +kernel, by decide +kernel, by decide +kernel⟩, by decide +kernel⟩,
    by refine ⟨sent (locked 2) 0x504 ([1, 5, 191, 0] ++ zeros 20), txn 0x504 ([1, 5, 191, 0] ++ zeros 20), [1, 5, 191, 0] ++ zeros 20, _, _, 191, 191, ?_, admits (by decide +kernel), by unfold zeroIn; decide +kernel, rfl, some_of (by decide +kernel), ?_, ?_, ?_, Or.inl (by decide +kernel), ?_, Or.inl (by decide +kernel)⟩ <;> decide +kernel,
    ⟨sent (tracking) 0x505 ([7, 0, 0, 0]), txn 0x505 ([7, 0, 0, 0]), [7, 0, 0, 0], 7, by decide +kernel, admits (by decide +kernel), by unfold zeroIn; decide +kernel, by decide +kernel⟩,
    ⟨sent (tracking) 0x505 ([255, 0, 0, 0]), txn 0x505 ([255, 0, 0, 0]), [255, 0, 0, 0], by decide +kernel, admits (by decide +kernel), by unfold zeroIn; decide +kernel, by decide +kernel⟩,
    ⟨sent (tracking) 0x506 ([191]), txn 0x506 ([191]), [191], 191, by decide +kernel, admits (by decide +kernel), by decide +kernel⟩,
    ⟨sent (up 2) 0x508 ([1, 7, 0, 246, 100, 0, 0xE8, 3, 20, 0, 100, 0, 1, 0, 40, 38, 0, 0, 0, 0]), txn 0x508 ([1, 7, 0, 246, 100, 0, 0xE8, 3, 20, 0, 100, 0, 1, 0, 40, 38, 0, 0, 0, 0]), [1, 7, 0, 246, 100, 0, 0xE8, 3, 20, 0, 100, 0, 1, 0, 40, 38, 0, 0, 0, 0], _, by decide +kernel, admits (by decide +kernel), by unfold zeroIn; decide +kernel, rfl, ⟨by decide +kernel, by decide +kernel, by decide +kernel⟩, by decide +kernel⟩⟩

/-- The clauses of `Obligations.NavTpCalCommands` can be met. -/
theorem test_NavTpCalCommands :
    (∃ s : State, ∃ t : Txn, ∃ p : List Byte, ∃ n, p = payloadOf t ∧ s.Admits t 0x0700 ∧ (zeroIn p ((3, 0xC0) :: (List.range 8).map fun k => (4 + k, 0xFF))) ∧ navGiven p = n ∧ n.rate ∈ [1, 2, 5, 10, 20] ∧ n.elev ≤ 45 ∧ 15 ≤ n.cn0 ∧ n.cn0 ≤ 45 ∧ n.use ≠ 0 ∧ s.mayChange (navFields s.nav.cfg n)) ∧
    (∃ s : State, ∃ t : Txn, ∃ p : List Byte, p = payloadOf t ∧ s.Admits t 0x0702 ∧ 1 ≤ getLe p 12 4 ∧ getLe p 12 4 ≤ 100000) ∧
    (∃ s : State, ∃ t : Txn, ∃ p : List Byte, p = payloadOf t ∧ s.Admits t 0x0703 ∧ zeroIn p [(10, 0xFF), (11, 0xFF)] ∧ 1 ≤ getLe p 20 4 ∧ getLe p 20 4 ≤ 10000000) ∧
    (∃ s : State, ∃ t : Txn, ∃ p : List Byte, p = payloadOf t ∧ s.Admits t 0x0704 ∧ zeroIn p [(3, 0xFF), (6, 0xFF), (7, 0xFF), (14, 0xFF), (15, 0xFF)] ∧ p.length = 16 + ceilDiv (getLe p 4 2) 8 ∧ (signalRow (byteAt p 0)).isSome = true ∧ svOk (byteAt p 0) (byteAt p 1) = true ∧ ((unitKinds (byteAt p 0) (byteAt p 1)).any fun k => k.1 == byteAt p 2 && k.2.1 == getLe p 4 2) = true) ∧
    (∃ s : State, ∃ t : Txn, ∃ p : List Byte, p = payloadOf t ∧ s.Admits t 0x0705) ∧
    (∃ s : State, ∃ t : Txn, ∃ p : List Byte, ∃ q, p = payloadOf t ∧ s.Admits t 0x0706 ∧ s.nav.solution = some q) ∧
    (∃ s : State, ∃ t : Txn, ∃ p : List Byte, ∃ n, p = payloadOf t ∧ s.Admits t 0x0800 ∧ zeroIn p [(22, 0xFF), (23, 0xFF)] ∧ IntegConfig.parse p = n ∧ IntegValid n ∧ s.mayChange (integFields s.nav.integ p)) ∧
    (∃ s : State, ∃ t : Txn, ∃ p : List Byte, ∃ n, p = payloadOf t ∧ s.Admits t 0x0900 ∧ zeroIn p [(1, 0xF0), (3, 0xFF), (26, 0xFF), (27, 0xFF), (28, 0xFF), (29, 0xFF), (30, 0xFF), (31, 0xFF)] ∧ byteAt p 0 ≤ 1 ∧ TpConfig.parse p = n ∧ TpValid n) ∧
    (∃ s : State, ∃ t : Txn, ∃ p : List Byte, ∃ g, p = payloadOf t ∧ s.Admits t 0x0901 ∧ byteAt p 0 = g ∧ g ≤ 1) ∧
    (∃ s : State, ∃ t : Txn, ∃ p : List Byte, ∃ n, p = payloadOf t ∧ s.Admits t 0x0902 ∧ zeroIn p [(4, 0xFF), (5, 0xFF), (6, 0xFF), (7, 0xFF)] ∧ getLe p 0 4 = n ∧ 10 ≤ n ∧ n ≤ 86400) ∧
    (∃ s : State, ∃ t : Txn, ∃ p : List Byte, ∃ g, p = payloadOf t ∧ s.Admits t 0x0904 ∧ byteAt p 0 = g ∧ g ≤ 1) ∧
    (∃ s : State, ∃ t : Txn, ∃ p : List Byte, p = payloadOf t ∧ s.Admits t 0x0A00 ∧ zeroIn p [(0, 0xFE), (1, 0xFF), (2, 0xFF), (3, 0xFF)] ∧ s.pwr.profile ≠ 3) ∧
    (∃ s : State, ∃ t : Txn, ∃ p : List Byte, ∃ n, p = payloadOf t ∧ s.Admits t 0x0A02 ∧ zeroIn p [(1, 0xFF), (52, 0xFF), (53, 0xFF), (54, 0xFF), (55, 0xFF)] ∧ CalConfig.parse p = n ∧ 1 ≤ n.deltaT ∧ n.deltaT ≤ 20 ∧ 1 ≤ n.glaze ∧ n.glaze ≤ 300 ∧ (∀ k < 8, (n.delays.getD k 0).natAbs ≤ 50000) ∧ s.mayChange (calFields s.cal.cfg p)) ∧
    (∃ s : State, ∃ t : Txn, ∃ p : List Byte, p = payloadOf t ∧ s.Admits t 0x0A04 ∧ zeroIn p [(1, 0xFF), (2, 0xFF), (3, 0xFF)] ∧ byteAt p 0 ≤ 1) :=
  ⟨by refine ⟨sent (up 2) 0x700 ([20, 45, 15, 1] ++ zeros 8), txn 0x700 ([20, 45, 15, 1] ++ zeros 8), [20, 45, 15, 1] ++ zeros 8, _, ?_, admits (by decide +kernel), by unfold zeroIn; decide +kernel, rfl, ?_, ?_, ?_, ?_, ?_, by unfold State.mayChange; decide +kernel⟩ <;> decide +kernel,
    ⟨sent (up 2) 0x702 (zeros 12 ++ [1, 0, 0, 0]), txn 0x702 (zeros 12 ++ [1, 0, 0, 0]), zeros 12 ++ [1, 0, 0, 0], by decide +kernel, admits (by decide +kernel), by decide +kernel⟩,
    ⟨sent (up 2) 0x703 (zeros 20 ++ le 4 10000000), txn 0x703 (zeros 20 ++ le 4 10000000), zeros 20 ++ le 4 10000000, by decide +kernel, admits (by decide +kernel), by unfold zeroIn; decide +kernel, by decide +kernel⟩,
    ⟨sent (up 2) 0x704 ([2, 5, 2, 0, 9, 0, 0, 0] ++ zeros 10), txn 0x704 ([2, 5, 2, 0, 9, 0, 0, 0] ++ zeros 10), [2, 5, 2, 0, 9, 0, 0, 0] ++ zeros 10, by decide +kernel, admits (by decide +kernel), by unfold zeroIn; decide +kernel, by decide +kernel⟩,
    ⟨sent (up 2) 0x705 ([]), txn 0x705 ([]), [], by decide +kernel, admits (by decide +kernel)⟩,
    ⟨sent ((up 2).modNav fun n => { n with solution := some (zeros 84) }) 0x706 ([]), txn 0x706 ([]), [], _, by decide +kernel, admits (by decide +kernel), rfl⟩,
    ⟨sent (up 2) 0x800 (({} : IntegConfig).bytes), txn 0x800 (({} : IntegConfig).bytes), ({} : IntegConfig).bytes, _, by decide +kernel, admits (by decide +kernel), by unfold zeroIn; decide +kernel, rfl, ⟨by decide +kernel, by decide +kernel, by decide +kernel, by decide +kernel, by decide +kernel, by decide +kernel⟩, by unfold State.mayChange; decide +kernel⟩,
    ⟨sent (up 2) 0x900 (({ en := true, width := 100 } : TpConfig).bytes 1), txn 0x900 (({ en := true, width := 100 } : TpConfig).bytes 1), ({ en := true, width := 100 } : TpConfig).bytes 1, _, by decide +kernel, admits (by decide +kernel), by unfold zeroIn; decide +kernel, by decide +kernel, rfl, ⟨by decide +kernel, by decide +kernel, by decide +kernel, by decide +kernel, by decide +kernel⟩⟩,
    ⟨sent (up 2) 0x901 ([1]), txn 0x901 ([1]), [1], 1, by decide +kernel, admits (by decide +kernel), by decide +kernel⟩,
    ⟨sent (up 2) 0x902 (le 4 86400 ++ zeros 4), txn 0x902 (le 4 86400 ++ zeros 4), le 4 86400 ++ zeros 4, 86400, by decide +kernel, admits (by decide +kernel), by unfold zeroIn; decide +kernel, by decide +kernel⟩,
    ⟨sent (up 2) 0x904 ([1]), txn 0x904 ([1]), [1], 1, by decide +kernel, admits (by decide +kernel), by decide +kernel⟩,
    ⟨sent (up 2) 0xA00 ([1, 0, 0, 0]), txn 0xA00 ([1, 0, 0, 0]), [1, 0, 0, 0], by decide +kernel, admits (by decide +kernel), by unfold zeroIn; decide +kernel, by decide +kernel⟩,
    by refine ⟨sent (up 2) 0xA02 (({ deltaT := 20, glaze := 1 } : CalConfig).bytes), txn 0xA02 (({ deltaT := 20, glaze := 1 } : CalConfig).bytes), ({ deltaT := 20, glaze := 1 } : CalConfig).bytes, _, ?_, admits (by decide +kernel), by unfold zeroIn; decide +kernel, rfl, ?_, ?_, ?_, ?_, ?_, by unfold State.mayChange; decide +kernel⟩ <;> decide +kernel,
    ⟨sent (up 2) 0xA04 ([1, 0, 0, 0]), txn 0xA04 ([1, 0, 0, 0]), [1, 0, 0, 0], by decide +kernel, admits (by decide +kernel), by unfold zeroIn; decide +kernel, by decide +kernel⟩⟩

/-- The clauses of `Obligations.DomeCommands` can be met. -/
theorem test_DomeCommands :
    (∃ s : State, ∃ t : Txn, ∃ p : List Byte, p = payloadOf t ∧ s.Admits t 0x0B01) ∧
    (∃ s : State, ∃ t : Txn, ∃ p : List Byte, p = payloadOf t ∧ s.Admits t 0x0B02 ∧ s.sealed.auditHold = false ∧ s.sealed.state ≠ .sealed ∧ s.sealed.loopOpen = false) ∧
    (∃ s : State, ∃ t : Txn, ∃ p : List Byte, ∃ f, ∃ n, p = payloadOf t ∧ s.Admits t 0x0B04 ∧ zeroIn p [(6, 0xFF), (7, 0xFF)] ∧ getLe p 0 4 = f ∧ f ≤ s.sealed.auditSeq ∧ byteAt p 4 = n ∧ 1 ≤ n ∧ n ≤ 60 ∧ byteAt p 5 ≤ 1) ∧
    (∃ s : State, ∃ t : Txn, ∃ p : List Byte, ∃ n, p = payloadOf t ∧ s.Admits t 0x0B05 ∧ getLe p 0 4 = n ∧ n < s.sealed.auditOffer ∧ s.sealed.auditAck < n ∧ s.sealed.overflowed = false) ∧
    (∃ s : State, ∃ t : Txn, ∃ p : List Byte, ∃ n, p = payloadOf t ∧ s.Admits t 0x0B05 ∧ getLe p 0 4 = n ∧ n < s.sealed.auditOffer ∧ n ≤ s.sealed.auditAck) ∧
    (∃ s : State, ∃ t : Txn, ∃ p : List Byte, ∃ f, ∃ n, p = payloadOf t ∧ s.Admits t 0x0B06 ∧ zeroIn p [(5, 0xFF), (6, 0xFF), (7, 0xFF)] ∧ getLe p 0 4 = f ∧ f ≤ s.sealed.storeSeq ∧ byteAt p 4 = n ∧ 1 ≤ n ∧ n ≤ 22) ∧
    (∃ s : State, ∃ t : Txn, ∃ p : List Byte, ∃ n, p = payloadOf t ∧ s.Admits t 0x0B07 ∧ getLe p 0 4 = n ∧ n < s.sealed.storeOffer ∧ s.sealed.storeAck < n ∧ s.sealed.hold = none) ∧
    (∃ s : State, ∃ t : Txn, ∃ p : List Byte, ∃ n, ∃ k, p = payloadOf t ∧ s.Admits t 0x0B07 ∧ getLe p 0 4 = n ∧ n < s.sealed.storeOffer ∧ s.sealed.storeAck < n ∧ s.sealed.hold = some k) ∧
    (∃ s : State, ∃ t : Txn, ∃ p : List Byte, ∃ n, p = payloadOf t ∧ s.Admits t 0x0B0A ∧ zeroIn p [(11, 0xFF)] ∧ odoGiven p = n ∧ OdoValid n ∧ s.mayChange (odoFields (s.sealed.odoNext.getD s.sealed.odo) n)) ∧
    (∃ s : State, ∃ t : Txn, ∃ p : List Byte, ∃ a, p = payloadOf t ∧ s.Admits t 0x0B0E ∧ s.sealed.hold = none ∧ s.pwr.lowSupply = false ∧ s.sealed.storeUnacked + s.sealed.due.length < 10239 ∧ s.markSolution = some a) ∧
    (∃ s : State, ∃ t : Txn, ∃ p : List Byte, p = payloadOf t ∧ s.Admits t 0x0B0F) ∧
    (∃ s : State, ∃ t : Txn, ∃ p : List Byte, ∃ f, p = payloadOf t ∧ s.Admits t 0x0B10 ∧ getLe p 0 4 = f ∧ (refclkSetting f).isSome = true ∧ s.mayChange [⟨0x0001, 255, s.boot.refclk, f⟩]) :=
  ⟨⟨sent (up 2) 0xB01 ([]), txn 0xB01 ([]), [], by decide +kernel, admits (by decide +kernel)⟩,
    ⟨sent ((up 2).modSeal fun v => { v with loopOpen := false }) 0xB02 ([]), txn 0xB02 ([]), [], by decide +kernel, admits (by decide +kernel), by decide +kernel⟩,
    ⟨sent (up 2) 0xB04 (le 4 1 ++ [60, 1, 0, 0]), txn 0xB04 (le 4 1 ++ [60, 1, 0, 0]), le 4 1 ++ [60, 1, 0, 0], 1, 60, by decide +kernel, admits (by decide +kernel), by unfold zeroIn; decide +kernel, by decide +kernel⟩,
    ⟨sent ((up 2).modSeal fun v => { v with auditSeq := 3, auditOffer := 3 }) 0xB05 (le 4 2), txn 0xB05 (le 4 2), le 4 2, 2, by decide +kernel, admits (by decide +kernel), by decide +kernel⟩,
    ⟨sent ((up 2).modSeal fun v => { v with auditSeq := 3, auditOffer := 3, auditAck := 2 }) 0xB05 (le 4 2), txn 0xB05 (le 4 2), le 4 2, 2, by decide +kernel, admits (by decide +kernel), by decide +kernel⟩,
    ⟨sent (up 2) 0xB06 (le 4 0 ++ [22, 0, 0, 0]), txn 0xB06 (le 4 0 ++ [22, 0, 0, 0]), le 4 0 ++ [22, 0, 0, 0], 0, 22, by decide +kernel, admits (by decide +kernel), by unfold zeroIn; decide +kernel, by decide +kernel⟩,
    ⟨sent ((up 2).modSeal fun v => { v with storeSeq := 3, storeOffer := 3 }) 0xB07 (le 4 2), txn 0xB07 (le 4 2), le 4 2, 2, by decide +kernel, admits (by decide +kernel), by decide +kernel⟩,
    ⟨sent ((up 2).modSeal fun v => { v with storeSeq := 3, storeOffer := 3, hold := some default }) 0xB07 (le 4 2), txn 0xB07 (le 4 2), le 4 2, 2, _, by decide +kernel, admits (by decide +kernel), by decide +kernel, by decide +kernel, by decide +kernel, rfl⟩,
    ⟨sent (up 2) 0xB0A ([200, 0, 88, 2, 60, 0, 0, 0, 1, 0, 10, 0]), txn 0xB0A ([200, 0, 88, 2, 60, 0, 0, 0, 1, 0, 10, 0]), [200, 0, 88, 2, 60, 0, 0, 0, 1, 0, 10, 0], _, by decide +kernel, admits (by decide +kernel), by unfold zeroIn; decide +kernel, rfl, ⟨by decide +kernel, by decide +kernel, by decide +kernel, by decide +kernel⟩, by unfold State.mayChange; decide +kernel⟩,
    ⟨sent (((up 2).modSeal fun v => { v with last := some default }).modNav fun n => { n with lastAccepted := true }) 0xB0E (zeros 16), txn 0xB0E (zeros 16), zeros 16, _, by decide +kernel, admits (by decide +kernel), by decide +kernel, by decide +kernel, by decide +kernel, rfl⟩,
    ⟨sent (up 2) 0xB0F (zeros 16), txn 0xB0F (zeros 16), zeros 16, by decide +kernel, admits (by decide +kernel)⟩,
    ⟨sent (up 2) 0xB10 (le 4 10230000), txn 0xB10 (le 4 10230000), le 4 10230000, 10230000, by decide +kernel, admits (by decide +kernel), by decide +kernel, by decide +kernel, by unfold State.mayChange; decide +kernel⟩⟩

/-- The clauses of `Obligations.AluResults` can be met. -/
theorem test_AluResults :
    (∃ i : Instr, ∃ c : CoreId, ∃ f : BitVec 26, ∃ un : Bool, ∃ g : Word → Word → Word, ∃ s : State, ∃ v, aluRow i = some (c, f, un, g) ∧ s.Issues c.val ∧ checkOperand aluModes f = none ∧ (v = if fMode f = 0 then (if un then BitVec.ofNat 32 (fImm f) else sext16 (fImm f)) else if fMode f = 1 then BitVec.ofNat 32 (fImm f * 65536) else (s.at_ c.val).reg (fReg f)) ∧ fMode f ≤ 2) ∧
    (∃ i : Instr, ∃ c : CoreId, ∃ f : BitVec 26, ∃ un : Bool, ∃ g : Word → Word → Word, ∃ s : State, ∃ v, ∃ u, aluRow i = some (c, f, un, g) ∧ s.Issues c.val ∧ checkOperand aluModes f = none ∧ 3 ≤ fMode f ∧ (s.fetched c.val).coreLoad c.val ((s.at_ c.val).ea (fMode f) (fImm f)) 4 = (u, .ok v)) :=
  ⟨⟨.add 7 8912896, 7, 8912896, _, _, running id, _, rfl, ⟨by decide +kernel, by decide +kernel, by decide +kernel⟩, by decide +kernel, rfl, by decide +kernel⟩,
    ⟨.xor 0 33619967, 0, 33619967, _, _, running id, _, _, rfl, ⟨by decide +kernel, by decide +kernel, by decide +kernel⟩, by decide +kernel, by decide +kernel, rfl⟩⟩

/-- The clauses of `Obligations.ShiftResults` can be met. -/
theorem test_ShiftResults :
    (∃ i : Instr, ∃ c : CoreId, ∃ b : Bool, ∃ r : BitVec 6, ∃ m : BitVec 16, ∃ g : Word → Nat → Word, ∃ s : State, shiftRow i = some (c, b, r, m, g) ∧ s.Issues c.val ∧ checkShift b r m = none) :=
  ⟨.ror 2 true 27 0, 2, true, 27, 0, _, running id, rfl, ⟨by decide +kernel, by decide +kernel, by decide +kernel⟩, by decide +kernel⟩

/-- The clauses of `Obligations.MoveResults` can be met. -/
theorem test_MoveResults :
    (∃ c : CoreId, ∃ s : State, s.Issues c.val) ∧
    (∃ i : Instr, ∃ c : CoreId, ∃ f : BitVec 26, ∃ v : Core → Word, ∃ s : State, ∃ k : Core, moveRow i = some (c, f, none, v) ∧ s.Issues c.val ∧ (s.at_ c.val).mayWrite (fReg f) = true ∧ (s.at_ c.val).setReg c.val (fReg f) (v (s.at_ c.val)) = .ok k) :=
  ⟨⟨7, running id, ⟨by decide +kernel, by decide +kernel, by decide +kernel⟩⟩,
    ⟨.ldi 1 8847368, 1, 8847368, _, running id, _, rfl, ⟨by decide +kernel, by decide +kernel, by decide +kernel⟩, by decide +kernel, ok_of (by decide +kernel)⟩⟩

/-- The clauses of `Obligations.Products` can be met. -/
theorem test_Products :
    (∃ c : CoreId, ∃ f : BitVec 26, ∃ s : State, ∃ v : Word, s.Issues c.val ∧ checkOperand [0, 2] f = none ∧ (v = if fMode f = 0 then sext16 (fImm f) else (s.at_ c.val).reg (fReg f))) ∧
    (∃ c : CoreId, ∃ f : BitVec 26, ∃ s : State, ∃ v : Word, s.Issues c.val ∧ checkOperand [0, 2] f = none ∧ (v = if fMode f = 0 then BitVec.ofNat 32 (fImm f) else (s.at_ c.val).reg (fReg f))) :=
  ⟨⟨7, 65535, running id, _, ⟨by decide +kernel, by decide +kernel, by decide +kernel⟩, by decide +kernel, rfl⟩,
    ⟨0, 8650752, running fun k => { k with sr := 0x200, pc := 0xFF0000 }, _, ⟨by decide +kernel, by decide +kernel, by decide +kernel⟩, by decide +kernel, rfl⟩⟩

/-- The clauses of `Obligations.MemoryAccesses` can be met. -/
theorem test_MemoryAccesses :
    (∃ i : Instr, ∃ c : CoreId, ∃ f : BitVec 26, ∃ n : Nat, ∃ sg : Bool, ∃ s : State, ∃ u : State, ∃ v : Nat, loadRow i = some (c, f, n, sg) ∧ s.Issues c.val ∧ checkMem f = none ∧ (s.fetched c.val).coreLoad c.val ((s.at_ c.val).ea (fMode f) (fImm f)) n = (u, .ok v)) ∧
    (∃ i : Instr, ∃ c : CoreId, ∃ f : BitVec 26, ∃ n : Nat, ∃ s : State, ∃ u : State, storeRow i = some (c, f, n) ∧ s.Issues c.val ∧ checkMem f = none ∧ (s.fetched c.val).coreStore c.val ((s.at_ c.val).ea (fMode f) (fImm f)) n ((s.at_ c.val).reg (fReg f)) = (u, .ok ())) ∧
    (∃ c : CoreId, ∃ f : BitVec 26, ∃ s : State, ∃ u : State, s.Issues c.val ∧ checkStack f = none ∧ (s.fetched c.val).coreStore c.val ((s.at_ c.val).dsp - 4) 4 ((s.at_ c.val).reg (fReg f)) = (u, .ok ())) ∧
    (∃ c : CoreId, ∃ f : BitVec 26, ∃ s : State, ∃ u : State, ∃ v : Nat, s.Issues c.val ∧ checkStack f = none ∧ fReg f < 3 ∧ (s.fetched c.val).coreLoad c.val (s.at_ c.val).dsp 4 = (u, .ok v)) ∧
    (∃ c : CoreId, ∃ f : BitVec 26, ∃ s : State, ∃ u : State, ∃ v : Nat, ∃ k : Core, s.Issues c.val ∧ checkStack f = none ∧ 3 ≤ fReg f ∧ (s.at_ c.val).mayWrite (fReg f) = true ∧ (s.fetched c.val).coreLoad c.val (s.at_ c.val).dsp 4 = (u, .ok v) ∧ (u.core c.val).setReg c.val (fReg f) (BitVec.ofNat 32 v) = .ok k) ∧
    (∃ c : CoreId, ∃ f : BitVec 26, ∃ s : State, ∃ u, ∃ e, s.Issues c.val ∧ checkStack f = none ∧ (s.at_ c.val).sr.getLsbD 3 = false ∧ (s.at_ c.val).mayWrite (fReg f) = true ∧ (s.fetched c.val).coreStore c.val ((s.at_ c.val).dsp - 4) 4 ((s.at_ c.val).reg (fReg f)) = (u, .error e)) ∧
    (∃ c : CoreId, ∃ f : BitVec 26, ∃ s : State, ∃ u, ∃ e, s.Issues c.val ∧ checkStack f = none ∧ (s.at_ c.val).sr.getLsbD 3 = false ∧ (s.at_ c.val).mayWrite (fReg f) = true ∧ (s.fetched c.val).coreLoad c.val (s.at_ c.val).dsp 4 = (u, .error e)) ∧
    (∃ c : CoreId, ∃ f : BitVec 26, ∃ s : State, ∃ i, i ∈ [Instr.push c f, Instr.pop c f] ∧ s.Issues c.val ∧ checkStack f = none ∧ (s.at_ c.val).sr.getLsbD 3 = false ∧ (s.at_ c.val).mayWrite (fReg f) = true ∧ (s.at_ c.val).sr.getLsbD 8 = false ∧ (s.at_ c.val).dsp.toNat % 4 ≠ 0) :=
  ⟨⟨.ldh 0 29425662, 0, 29425662, _, _, running id, _, _, rfl, ⟨by decide +kernel, by decide +kernel, by decide +kernel⟩, by decide +kernel, rfl⟩,
    ⟨.stb 7 12779519, 7, 12779519, _, running id, _, rfl, ⟨by decide +kernel, by decide +kernel, by decide +kernel⟩, by decide +kernel, rfl⟩,
    ⟨0, 1769472, running fun k => { k with dsp := 4 }, _, ⟨by decide +kernel, by decide +kernel, by decide +kernel⟩, by decide +kernel, rfl⟩,
    ⟨7, 131072, running id, _, _, ⟨by decide +kernel, by decide +kernel, by decide +kernel⟩, by decide +kernel, by decide +kernel, rfl⟩,
    ⟨0, 327680, running id, _, _, _, ⟨by decide +kernel, by decide +kernel, by decide +kernel⟩, by decide +kernel, by decide +kernel, by decide +kernel, rfl, ok_of (by decide +kernel)⟩,
    ⟨0, 458752, running id, _, _, ⟨by decide +kernel, by decide +kernel, by decide +kernel⟩, by decide +kernel, by decide +kernel, by decide +kernel, rfl⟩,
    ⟨0, 458752, running fun k => { k with dsp := 0x400000 }, _, _, ⟨by decide +kernel, by decide +kernel, by decide +kernel⟩, by decide +kernel, by decide +kernel, by decide +kernel, rfl⟩,
    ⟨0, 458752, running fun k => { k with dsp := 2 }, .pop 0 458752, by simp, ⟨by decide +kernel, by decide +kernel, by decide +kernel⟩, by decide +kernel⟩⟩

/-- The clauses of `Obligations.ControlTransfers` can be met. -/
theorem test_ControlTransfers :
    (∃ i : Instr, ∃ c : CoreId, ∃ taken : Core → Bool, ∃ dest : Core → BitVec 24, ∃ s : State, jumpRow i = some (c, none, taken, dest) ∧ s.Issues c.val) ∧
    (∃ i : Instr, ∃ c : CoreId, ∃ dest : Core → BitVec 24, ∃ s : State, callRow i = some (c, none, dest) ∧ s.Issues c.val ∧ (s.at_ c.val).ret.length < (s.at_ c.val).rsLimit) ∧
    (∃ c : CoreId, ∃ s : State, ∃ p : BitVec 24, ∃ r : List (BitVec 24), s.Issues c.val ∧ (s.at_ c.val).ret = p :: r) :=
  ⟨⟨.br 0 65535, 0, _, _, running id, rfl, ⟨by decide +kernel, by decide +kernel, by decide +kernel⟩⟩,
    ⟨.call 2 0xFFFFFF, 2, _, running fun k => { k with ret := List.replicate 31 0 }, rfl, ⟨by decide +kernel, by decide +kernel, by decide +kernel⟩, by decide +kernel⟩,
    ⟨2, running fun k => { k with ret := [5] }, 5, [], ⟨by decide +kernel, by decide +kernel, by decide +kernel⟩, by decide +kernel⟩⟩

/-- The clauses of `Obligations.LoopSetUp` can be met. -/
theorem test_LoopSetUp :
    (∃ c : CoreId, ∃ f : BitVec 26, ∃ s : State, ∃ d : Nat, s.Issues c.val ∧ (s.at_ c.val).sr.getLsbD 3 = false ∧ (d = if f.toNat / 2 ^ 22 % 4 ≠ 3 ∧ f.toNat / 1024 % 4096 ≠ 0 then 1 else 2) ∧ (d = 1 ∨ ∃ n, f.toNat / 2 ^ 24 ≤ n ∧ n < 4 ∧ (s.at_ c.val).active n = true)) ∧
    (∃ c : CoreId, ∃ f : BitVec 26, ∃ s : State, ∃ n : Nat, ∃ count : Word, ∃ e : BitVec 24, s.Issues c.val ∧ checkLoop f (s.at_ c.val) = none ∧ n = f.toNat / 2 ^ 24 ∧ (count = if f.toNat / 2 ^ 22 % 4 = 3 then BitVec.ofNat 32 (f.toNat / 1024 % 4096) else (s.at_ c.val).reg (f.toNat / 2 ^ 22 % 4)) ∧ e = (s.at_ c.val).pc + 1 + BitVec.ofNat 24 (f.toNat % 1024)) :=
  ⟨⟨1, 62915591, running fun k => { k with sr := 0x2000 }, 2, ⟨by decide +kernel, by decide +kernel, by decide +kernel⟩, by decide +kernel, by decide +kernel, Or.inr ⟨3, by decide +kernel⟩⟩,
    ⟨1, 50331647, running fun k => { k with sr := 0x400 }, _, _, _, ⟨by decide +kernel, by decide +kernel, by decide +kernel⟩, by decide +kernel, rfl, rfl, rfl⟩⟩

/-- The clauses of `Obligations.LoopEnds` can be met. -/
theorem test_LoopEnds :
    (∃ k : Core, ∃ n : Nat, ∃ e : BitVec 24, n < 4 ∧ k.active n = true ∧ vget k.le n = e ∧ (∀ m < 4, m ≠ n → (k.active m && vget k.le m == e) = false) ∧ 1 < (vget k.lc n).toNat) ∧
    (∃ k : Core, ∃ n : Nat, ∃ e : BitVec 24, n < 4 ∧ k.active n = true ∧ vget k.le n = e ∧ (∀ m < 4, m ≠ n → (k.active m && vget k.le m == e) = false) ∧ (vget k.lc n).toNat ≤ 1) :=
  ⟨by refine ⟨{ sr := 0x2000, pc := 9, held := false, lc := #v[0, 0, 0, 2], le := #v[9, 9, 9, 9] }, 3, 9, ?_, ?_, ?_, ?_, ?_⟩ <;> decide +kernel,
    by refine ⟨{ sr := 0x2000, pc := 9, held := false, lc := #v[0, 0, 0, 0], le := #v[9, 9, 9, 9] }, 3, 9, ?_, ?_, ?_, ?_, ?_⟩ <;> decide +kernel⟩

/-- The clauses of `Obligations.Waits` can be met. -/
theorem test_Waits :
    (∃ c : CoreId, ∃ s : State, ∃ u : State, s.fetched c.val = u ∧ s.Issues c.val) ∧
    (∃ c : CoreId, ∃ s : State, ∃ u : State, s.fetched c.val = u ∧ s.Issues c.val ∧ (u.core c.val).evr.getLsbD 0 = true) ∧
    (∃ c : CoreId, ∃ s : State, ∃ u : State, s.fetched c.val = u ∧ s.Issues c.val ∧ (u.core c.val).evr.getLsbD 0 = false) ∧
    (∃ c : CoreId, ∃ s : State, ∃ u : State, s.fetched c.val = u ∧ s.Issues c.val ∧ u.reached (u.core c.val).tcmp = true) ∧
    (∃ c : CoreId, ∃ s : State, ∃ u : State, s.fetched c.val = u ∧ s.Issues c.val ∧ u.reached (u.core c.val).tcmp = false) ∧
    (∃ c : CoreId, ∃ s : State, ∃ u : State, ∃ f, ∃ i, i ∈ [Instr.sev c f, Instr.wfe c f, Instr.waitt c f] ∧ s.fetched c.val = u ∧ s.Issues c.val ∧ f ≠ 0) ∧
    (∃ c : CoreId, ∃ s : State, ∃ u : State, ∃ f, ∃ i, i ∈ [Instr.sev c f, Instr.wfe c f, Instr.waitt c f] ∧ s.fetched c.val = u ∧ s.issues c.val = false) ∧
    (∃ c : CoreId, ∃ s : State, ∃ u : State, s.fetched c.val = u ∧ s.coreOn c.val = true ∧ (s.core c.val).wait = .wfe ∧ (s.core c.val).evr.getLsbD 0 = true) ∧
    (∃ c : CoreId, ∃ s : State, ∃ u : State, s.fetched c.val = u ∧ (s.coreOn c.val = false ∨ (s.core c.val).wait ≠ .wfe ∨ (s.core c.val).evr.getLsbD 0 = false)) ∧
    (∃ c : CoreId, ∃ s : State, ∃ u : State, s.fetched c.val = u ∧ s.coreOn c.val = true ∧ (s.core c.val).wait = .waitt ∧ s.reached (s.core c.val).tcmp = true) ∧
    (∃ c : CoreId, ∃ s : State, ∃ u : State, s.fetched c.val = u ∧ (s.coreOn c.val = false ∨ (s.core c.val).wait ≠ .waitt ∨ s.reached (s.core c.val).tcmp = false)) :=
  ⟨⟨2, running id, _, rfl, ⟨by decide +kernel, by decide +kernel, by decide +kernel⟩⟩,
    ⟨2, running fun k => { k with evr := 1 }, _, rfl, ⟨by decide +kernel, by decide +kernel, by decide +kernel⟩, by decide +kernel⟩,
    ⟨7, running fun k => { k with evr := 6 }, _, rfl, ⟨by decide +kernel, by decide +kernel, by decide +kernel⟩, by decide +kernel⟩,
    ⟨0, running fun k => { k with tcmp := 1000000000 }, _, rfl, ⟨by decide +kernel, by decide +kernel, by decide +kernel⟩, by decide +kernel⟩,
    ⟨0, running fun k => { k with tcmp := 1000000001 }, _, rfl, ⟨by decide +kernel, by decide +kernel, by decide +kernel⟩, by decide +kernel⟩,
    ⟨3, running id, _, 1, .waitt 3 1, by simp, rfl, ⟨by decide +kernel, by decide +kernel, by decide +kernel⟩, by decide +kernel⟩,
    ⟨0, running fun k => { k with wait := .wfe }, _, 0, .sev 0 0, by simp, rfl, by decide +kernel⟩,
    ⟨3, running fun k => { k with wait := .wfe, evr := 1 }, _, rfl, by decide +kernel⟩,
    ⟨3, running fun k => { k with wait := .wfe, evr := 6 }, _, rfl, Or.inr (Or.inr (by decide +kernel))⟩,
    ⟨0, running fun k => { k with wait := .waitt, tcmp := 1000000000 }, _, rfl, by decide +kernel⟩,
    ⟨0, running fun k => { k with wait := .waitt, tcmp := 1000000001 }, _, rfl, Or.inr (Or.inr (by decide +kernel))⟩⟩

/-- The clauses of `Obligations.ControlRegisters` can be met. -/
theorem test_ControlRegisters :
    (∃ c : CoreId, ∃ s : State, ∃ f, s.Issues c.val ∧ (s.at_ c.val).priv = 0 ∧ checkControl c.val f = none ∧ fReg f = 0 ∧ fImm f = 32) ∧
    (∃ c : CoreId, ∃ s : State, ∃ f, s.Issues c.val ∧ (s.at_ c.val).priv = 0 ∧ checkControl c.val f = none ∧ fReg f = 0 ∧ fImm f = 34) ∧
    (∃ c : CoreId, ∃ s : State, ∃ f, ∃ p, ∃ r, s.Issues c.val ∧ (s.at_ c.val).priv = 0 ∧ checkControl c.val f = none ∧ fReg f = 0 ∧ fImm f = 38 ∧ (s.at_ c.val).ret = r ++ [p]) ∧
    (∃ c : CoreId, ∃ s : State, ∃ f, s.Issues c.val ∧ (s.at_ c.val).priv = 0 ∧ checkControl c.val f = none ∧ fImm f = 37) ∧
    (∃ c : CoreId, ∃ s : State, ∃ f, s.Issues c.val ∧ (s.at_ c.val).priv = 0 ∧ checkControl c.val f = none ∧ fImm f = 36) ∧
    (∃ c : CoreId, ∃ s : State, s.Issues c.val ∧ (s.at_ c.val).priv = 0) :=
  ⟨⟨7, running id, 32, ⟨by decide +kernel, by decide +kernel, by decide +kernel⟩, by decide +kernel⟩,
    ⟨0, running id, 34, ⟨by decide +kernel, by decide +kernel, by decide +kernel⟩, by decide +kernel⟩,
    ⟨0, running fun k => { k with ret := [3, 4] }, 38, 4, [3], ⟨by decide +kernel, by decide +kernel, by decide +kernel⟩, by decide +kernel⟩,
    ⟨0, running id, 131109, ⟨by decide +kernel, by decide +kernel, by decide +kernel⟩, by decide +kernel⟩,
    ⟨0, running id, 65572, ⟨by decide +kernel, by decide +kernel, by decide +kernel⟩, by decide +kernel⟩,
    ⟨0, running id, ⟨by decide +kernel, by decide +kernel, by decide +kernel⟩, by decide +kernel⟩⟩

/-- The clauses of `Obligations.InterruptEntry` can be met. -/
theorem test_InterruptEntry :
    (∃ c : DrumCore, ∃ s : State, ∃ k : Core, ∃ n, (k = ((if (s.core c.val).wait = .waitt ∧ s.reached (s.core c.val).tcmp = true then s.complete c.val {} else s).core c.val)) ∧ s.coreOn c.val = true ∧ s.takeable c.val = some n) ∧
    (∃ c : DrumCore, ∃ s : State, ∃ k : Core, ∃ i, ∃ d, ∃ n, (k = ((if (s.core c.val).wait = .waitt ∧ s.reached (s.core c.val).tcmp = true then s.complete c.val {} else s).core c.val)) ∧ issued i = some d ∧ d.val = c.val ∧ s.issues c.val = true ∧ s.takeable c.val = some n) ∧
    (∃ c : DrumCore, ∃ s : State, ∃ k : Core, (k = ((if (s.core c.val).wait = .waitt ∧ s.reached (s.core c.val).tcmp = true then s.complete c.val {} else s).core c.val)) ∧ (s.coreOn c.val = false ∨ s.takeable c.val = none)) :=
  ⟨⟨2, { running (fun k => { k with sr := 4 }) with intc := vset (running id).intc 35 { prio := 1, prioNow := 1, swset := true, core := 2, coreNow := 2 } }, _, 35, rfl, by decide +kernel⟩,
    ⟨2, { running (fun k => { k with sr := 4 }) with intc := vset (running id).intc 35 { prio := 1, prioNow := 1, swset := true, core := 2, coreNow := 2 } }, _, .sev 2 0, 2, 35, rfl, by decide +kernel⟩,
    ⟨2, running id, _, rfl, Or.inr (by decide +kernel)⟩⟩

/-- The clauses of `Obligations.ProductLands` can be met. -/
theorem test_ProductLands :
    (∃ c : CoreId, ∃ s : State, ∃ p : Product, s.coreOn c.val = true ∧ (s.core c.val).products = [p]) :=
  ⟨0, running fun k => { k with products := [⟨3, 1, 2⟩] }, _, by decide +kernel, rfl⟩

/-- The clauses of `Obligations.RepeatedAdd` can be met. -/
theorem test_RepeatedAdd :
    (∃ c : CoreId, ∃ f : BitVec 26, ∃ w : Word, ∃ s : State, ∃ n : Nat, s.Issues c.val ∧ ((s.fetched c.val).fetchTrap c.val ((s.at_ c.val).pc + 1)).2 = none ∧ checkRep f = none ∧ w.toNat / 2 ^ 26 = 5 ∧ w.toNat / 2 ^ 16 % 1024 = 0 ∧ (s.at_ c.val).resume = none ∧ fMode f = 3 ∧ fImm f = n ∧ (∀ m < 4, (s.at_ c.val).active m = false)) :=
  by refine ⟨0, 12648447, 335544327, running id, _, ⟨by decide +kernel, by decide +kernel, by decide +kernel⟩, ?_, ?_, ?_, ?_, ?_, ?_, rfl, ?_⟩ <;> decide +kernel

/-- The clauses of `Obligations.TrapEntry` can be met. -/
theorem test_TrapEntry :
    (∃ c : CoreId, ∃ u : State, (u.core c.val).sr.getLsbD 3 = true) ∧
    (∃ c : CoreId, ∃ f : BitVec 26, ∃ s : State, s.Issues c.val ∧ f ≠ 0 ∧ (s.at_ c.val).sr.getLsbD 3 = true) ∧
    (∃ c : CoreId, ∃ f : BitVec 26, ∃ s : State, s.Issues c.val ∧ f ≠ 0 ∧ (s.at_ c.val).sr.getLsbD 3 = false) :=
  ⟨⟨7, running fun k => { k with sr := 8 }, by decide +kernel⟩,
    ⟨0, 1, running fun k => { k with sr := 8 }, ⟨by decide +kernel, by decide +kernel, by decide +kernel⟩, by decide +kernel⟩,
    ⟨7, 1, running id, ⟨by decide +kernel, by decide +kernel, by decide +kernel⟩, by decide +kernel⟩⟩

/-- The clauses of `Obligations.PrivilegeTraps` can be met. -/
theorem test_PrivilegeTraps :
    (∃ c : CoreId, ∃ s : State, s.Issues c.val ∧ (s.at_ c.val).sr.getLsbD 3 = false ∧ (s.at_ c.val).priv ≠ 0) ∧
    (∃ c : CoreId, ∃ f : BitVec 26, ∃ s : State, ∃ i, i ∈ [Instr.mfc c f, Instr.mtc c f] ∧ s.Issues c.val ∧ (s.at_ c.val).sr.getLsbD 3 = false ∧ (s.at_ c.val).priv ≠ 0 ∧ checkControl c.val f = none) ∧
    (∃ c : CoreId, ∃ f : BitVec 26, ∃ s : State, ∃ i, i ∈ [Instr.inp c f, Instr.outp c f] ∧ s.Issues c.val ∧ (s.at_ c.val).sr.getLsbD 3 = false ∧ (s.at_ c.val).priv ≠ 0 ∧ checkIo f = none ∧ (s.at_ c.val).priv = 2) :=
  ⟨⟨0, running fun k => { k with sr := 2 }, ⟨by decide +kernel, by decide +kernel, by decide +kernel⟩, by decide +kernel⟩,
    ⟨0, 47, running fun k => { k with sr := 1 }, .mtc 0 47, by simp, ⟨by decide +kernel, by decide +kernel, by decide +kernel⟩, by decide +kernel⟩,
    ⟨2, 16973823, running fun k => { k with sr := 2 }, .outp 2 16973823, by simp, ⟨by decide +kernel, by decide +kernel, by decide +kernel⟩, by decide +kernel⟩⟩

/-- The clauses of `Obligations.DomeIoRefused` can be met. -/
theorem test_DomeIoRefused :
    (∃ c : CoreId, ∃ f : BitVec 26, ∃ s : State, s.Issues c.val ∧ 3 ≤ c.val ∧ checkIo f = none ∧ (s.at_ c.val).priv = 0) :=
  ⟨3, 65535, running id, ⟨by decide +kernel, by decide +kernel, by decide +kernel⟩, by decide +kernel⟩

/-- The clauses of `Obligations.InOut` can be met. -/
theorem test_InOut :
    (∃ c : DrumCore, ∃ f : BitVec 26, ∃ s : State, ∃ k : CoreId, ∃ u, ∃ v, k.val = c.val ∧ checkIo f = none ∧ s.MayIn c ∧ (s.fetched c.val).ioRead ((s.at_ c.val).ioAddr f) = (u, .ok v)) ∧
    (∃ c : DrumCore, ∃ f : BitVec 26, ∃ s : State, ∃ k : CoreId, ∃ u, k.val = c.val ∧ checkIo f = none ∧ s.MayOut c ((s.at_ c.val).ioAddr f) ∧ (s.fetched c.val).ioWrite c.val (s.at_ c.val).priv ((s.at_ c.val).ioAddr f) ((s.at_ c.val).reg (fReg f)).toNat = .ok u) ∧
    (∃ c : DrumCore, ∃ f : BitVec 26, ∃ s : State, ∃ k : CoreId, ∃ u, ∃ a : BitVec 16, ∃ v : Word, k.val = c.val ∧ checkIo f = none ∧ s.MayOut c (BitVec.toNat a) ∧ (s.fetched c.val).ioWrite c.val (s.at_ c.val).priv a.toNat (BitVec.toNat v) = .ok u) :=
  ⟨⟨2, 512, running id, 2, _, _, by decide +kernel, by decide +kernel, ⟨⟨by decide +kernel, by decide +kernel, by decide +kernel⟩, by decide +kernel⟩, rfl⟩,
    ⟨0, 515, running id, 0, _, by decide +kernel, by decide +kernel, ⟨⟨by decide +kernel, by decide +kernel, by decide +kernel⟩, by decide +kernel⟩, rfl⟩,
    ⟨1, 515, running id, 1, _, 0x203, 7, by decide +kernel, by decide +kernel, ⟨⟨by decide +kernel, by decide +kernel, by decide +kernel⟩, by decide +kernel⟩, ok_of (by decide +kernel)⟩⟩

/-- The clauses of `Obligations.RegisterReads` can be met. -/
theorem test_RegisterReads :
    (∃ c : DrumCore, ∃ s : State, ∃ u : State, s.MayIn c ∧ s.fetched c.val = u) ∧
    (∃ c : DrumCore, ∃ s : State, ∃ u : State, s.MayIn c ∧ s.fetched c.val = u) ∧
    (∃ c : DrumCore, ∃ s : State, ∃ u : State, ∃ n : Fin 3, s.MayIn c ∧ s.fetched c.val = u ∧ u.offered n.val 0 = none) ∧
    (∃ c : DrumCore, ∃ s : State, ∃ u : State, ∃ n : Fin 3, ∃ k : Nat, s.MayIn c ∧ s.fetched c.val = u ∧ u.offered n.val 0 = some k) ∧
    (∃ c : DrumCore, ∃ s : State, ∃ u : State, ∃ n : Fin 7, s.MayIn c ∧ s.fetched c.val = u ∧ (vget u.uarts (drumUart n)).rx = []) ∧
    (∃ c : DrumCore, ∃ s : State, ∃ u : State, ∃ n : Fin 7, ∃ e : RxEntry, ∃ l : List RxEntry, s.MayIn c ∧ s.fetched c.val = u ∧ (vget u.uarts (drumUart n)).rx = e :: l) :=
  ⟨⟨2, running id, _, ⟨⟨by decide +kernel, by decide +kernel, by decide +kernel⟩, by decide +kernel⟩, rfl⟩,
    ⟨2, running id, _, ⟨⟨by decide +kernel, by decide +kernel, by decide +kernel⟩, by decide +kernel⟩, rfl⟩,
    ⟨0, running id, _, 2, ⟨⟨by decide +kernel, by decide +kernel, by decide +kernel⟩, by decide +kernel⟩, rfl, by decide +kernel⟩,
    ⟨0, { running id with intc := vset (running id).intc 0 { prio := 15, prioNow := 15, swset := true, core := 2, coreNow := 2 } }, _, 2, 0, ⟨⟨by decide +kernel, by decide +kernel, by decide +kernel⟩, by decide +kernel⟩, rfl, rfl⟩,
    ⟨0, running id, _, 6, ⟨⟨by decide +kernel, by decide +kernel, by decide +kernel⟩, by decide +kernel⟩, rfl, by decide +kernel⟩,
    ⟨0, { running id with uarts := vset (running id).uarts 7 { rx := [default] } }, _, 6, default, [], ⟨⟨by decide +kernel, by decide +kernel, by decide +kernel⟩, by decide +kernel⟩, rfl, by decide +kernel⟩⟩

/-- The clauses of `Obligations.RegisterWrites` can be met. -/
theorem test_RegisterWrites :
    (∃ c : DrumCore, ∃ s : State, ∃ u : State, ∃ n : Fin 3, s.fetched c.val = u ∧ s.MayOut c (0x2044 + n.val)) ∧
    (∃ c : DrumCore, ∃ s : State, ∃ u : State, ∃ n : Fin 7, s.fetched c.val = u ∧ s.MayOut c (0x1802 + 64 * drumUart n) ∧ (vget u.uarts (drumUart n)).tx.length < 64) ∧
    (∃ c : DrumCore, ∃ s : State, ∃ u : State, ∃ v : Word, ∃ n : Fin 7, s.fetched c.val = u ∧ s.MayOut c (0x1807 + 64 * drumUart n) ∧ 1 ≤ v.toNat % 128 ∧ v.toNat % 128 ≤ 64 ∧ bit v.toNat 25 = false) ∧
    (∃ c : DrumCore, ∃ s : State, ∃ u : State, ∃ v : Word, ∃ n : Fin 7, s.fetched c.val = u ∧ s.MayOut c (0x1807 + 64 * drumUart n) ∧ 1 ≤ v.toNat % 128 ∧ v.toNat % 128 ≤ 64 ∧ bit v.toNat 24 = false) ∧
    (∃ c : DrumCore, ∃ s : State, ∃ u : State, ∃ n : Fin 7, s.fetched c.val = u ∧ s.MayOut c (0x1808 + 64 * drumUart n)) ∧
    (∃ c : DrumCore, ∃ s : State, ∃ u : State, ∃ v : Word, ∃ m : Fin 2, s.fetched c.val = u ∧ s.MayOut c (0x1A06 + 256 * m.val) ∧ (vget u.cans m.val).en = true ∧ (v - (vget u.cans m.val).rxCons).toNat ≤ ((vget u.cans m.val).rxProd - (vget u.cans m.val).rxCons).toNat) ∧
    (∃ c : DrumCore, ∃ s : State, ∃ u : State, ∃ v : Word, ∃ m : Fin 2, s.fetched c.val = u ∧ s.MayOut c (0x1A07 + 256 * m.val) ∧ (vget u.cans m.val).en = true ∧ (v - (vget u.cans m.val).txProd).toNat + ((vget u.cans m.val).txProd - (vget u.cans m.val).txCons).toNat ≤ 2 ^ (vget u.cans m.val).txLog2.toNat) ∧
    (∃ c : DrumCore, ∃ s : State, ∃ u : State, ∃ v : Word, ∃ m : Fin 2, s.fetched c.val = u ∧ s.MayOut c (0x1A00 + 256 * m.val) ∧ v.toNat / 4 % 4 ≠ 3 ∧ bit v.toNat 0 = false) ∧
    (∃ c : DrumCore, ∃ s : State, ∃ u : State, ∃ v : Word, ∃ m : Fin 2, s.fetched c.val = u ∧ s.MayOut c (0x1A00 + 256 * m.val) ∧ v.toNat / 4 % 4 ≠ 3 ∧ bit v.toNat 0 = true ∧ (vget u.cans m.val).rxBase.toNat * 64 + 2 ^ (vget u.cans m.val).rxLog2.toNat * 96 ≤ 0x3E3000 ∧ (vget u.cans m.val).txBase.toNat * 64 + 2 ^ (vget u.cans m.val).txLog2.toNat * 96 ≤ 0x3E3000) ∧
    (∃ c : DrumCore, ∃ s : State, ∃ u : State, ∃ n : Fin 4, s.fetched c.val = u ∧ s.MayOut c (0x1002 + 4 * n.val)) ∧
    (∃ c : DrumCore, ∃ s : State, ∃ u : State, s.fetched c.val = u ∧ s.MayOut c 0x0200) ∧
    (∃ c : DrumCore, ∃ s : State, ∃ u : State, ∃ v : Word, ∃ k, s.fetched c.val = u ∧ s.MayOut c 0x0200 ∧ targetOf (v.toNat % 8) = some k) ∧
    (∃ c : DrumCore, ∃ s : State, ∃ u : State, ∃ v : Word, ∃ n : Fin 4, s.fetched c.val = u ∧ s.MayOut c (0x0130 + 4 * n.val) ∧ n.val ≠ 3 ∧ v.toNat % 4 ≠ 3 ∧ (v.toNat % 4 = 2 → (vget u.ltimers n.val).period ≠ 0)) ∧
    (∃ c : DrumCore, ∃ s : State, ∃ u : State, ∃ v : Word, ∃ n : Fin 3, s.fetched c.val = u ∧ s.MayOut c (0x0341 + 2 * n.val) ∧ v.toNat % 65536 = 0xC35A) ∧
    (∃ c : DrumCore, ∃ s : State, ∃ u : State, ∃ v : Word, ∃ n : Fin 16, s.fetched c.val = u ∧ s.MayOut c (0x1E00 + 4 * n.val) ∧ v.toNat % 256 ≤ 75) ∧
    (∃ c : DrumCore, ∃ s : State, ∃ u : State, s.fetched c.val = u ∧ s.MayOut c 0x0400) :=
  ⟨⟨2, running id, _, 2, rfl, ⟨⟨by decide +kernel, by decide +kernel, by decide +kernel⟩, by decide +kernel⟩⟩,
    ⟨2, { running id with uarts := vset (running id).uarts 7 { tx := List.replicate 63 0 } }, _, 6, rfl, ⟨⟨by decide +kernel, by decide +kernel, by decide +kernel⟩, by decide +kernel⟩, by decide +kernel⟩,
    ⟨2, running id, _, 0x01000040, 6, rfl, ⟨⟨by decide +kernel, by decide +kernel, by decide +kernel⟩, by decide +kernel⟩, by decide +kernel⟩,
    ⟨2, running id, _, 0x02000001, 6, rfl, ⟨⟨by decide +kernel, by decide +kernel, by decide +kernel⟩, by decide +kernel⟩, by decide +kernel⟩,
    ⟨2, running id, _, 6, rfl, ⟨⟨by decide +kernel, by decide +kernel, by decide +kernel⟩, by decide +kernel⟩⟩,
    ⟨2, { running id with cans := vset (running id).cans 1 { en := true } }, _, 0, 1, rfl, ⟨⟨by decide +kernel, by decide +kernel, by decide +kernel⟩, by decide +kernel⟩, by decide +kernel⟩,
    ⟨2, { running id with cans := vset (running id).cans 1 { en := true } }, _, 16, 1, rfl, ⟨⟨by decide +kernel, by decide +kernel, by decide +kernel⟩, by decide +kernel⟩, by decide +kernel⟩,
    ⟨2, { running id with cans := vset (running id).cans 1 { en := true } }, _, 8, 1, rfl, ⟨⟨by decide +kernel, by decide +kernel, by decide +kernel⟩, by decide +kernel⟩, by decide +kernel⟩,
    ⟨2, { running id with cans := vset (running id).cans 1 { en := true } }, _, 9, 1, rfl, ⟨⟨by decide +kernel, by decide +kernel, by decide +kernel⟩, by decide +kernel⟩, by decide +kernel⟩,
    ⟨2, running id, _, 3, rfl, ⟨⟨by decide +kernel, by decide +kernel, by decide +kernel⟩, by decide +kernel⟩⟩,
    ⟨2, running id, _, rfl, ⟨⟨by decide +kernel, by decide +kernel, by decide +kernel⟩, by decide +kernel⟩⟩,
    ⟨0, running id, _, 12, _, rfl, ⟨⟨by decide +kernel, by decide +kernel, by decide +kernel⟩, by decide +kernel⟩, rfl⟩,
    ⟨0, running id, _, 1, 2, rfl, ⟨⟨by decide +kernel, by decide +kernel, by decide +kernel⟩, by decide +kernel⟩, by decide +kernel⟩,
    ⟨0, running id, _, 0xC35A, 2, rfl, ⟨⟨by decide +kernel, by decide +kernel, by decide +kernel⟩, by decide +kernel⟩, by decide +kernel⟩,
    ⟨0, running id, _, 75, 15, rfl, ⟨⟨by decide +kernel, by decide +kernel, by decide +kernel⟩, by decide +kernel⟩, by decide +kernel⟩,
    ⟨0, running id, _, rfl, ⟨⟨by decide +kernel, by decide +kernel, by decide +kernel⟩, by decide +kernel⟩⟩⟩

/-- The clauses of `Obligations.RingRegisterWrites` can be met. -/
theorem test_RingRegisterWrites :
    (∃ c : DrumCore, ∃ n : Fin 16, ∃ s : State, ∃ u : State, ∃ v : Word, ∃ r : Ring, s.fetched c.val = u ∧ vget u.rings n.val = r ∧ s.MayOut c (0x0801 + 8 * n.val) ∧ 4 ≤ v.toNat % 16 ∧ v.toNat % 16 ≤ 12 ∧ (r.en = true → v.toNat % 16 = r.sizeLog2.toNat ∧ bit v.toNat 5 = r.side) ∧ (bit v.toNat 4 = true → r.base.toNat * 64 + 64 * 2 ^ (v.toNat % 16) ≤ 0x400000)) ∧
    (∃ c : DrumCore, ∃ n : Fin 16, ∃ s : State, ∃ u : State, ∃ v : Word, ∃ r : Ring, s.fetched c.val = u ∧ vget u.rings n.val = r ∧ s.MayOut c (0x0802 + 8 * n.val) ∧ r.en = true ∧ n.val < 4 ∧ r.side = true ∧ v ≠ r.prod ∧ (v - r.prod).toNat ≤ r.slots - r.usedByProducer) ∧
    (∃ c : DrumCore, ∃ n : Fin 16, ∃ s : State, ∃ u : State, ∃ v : Word, ∃ r : Ring, s.fetched c.val = u ∧ vget u.rings n.val = r ∧ s.MayOut c (0x0802 + 8 * n.val) ∧ r.en = true ∧ n.val = 15 ∧ (v - r.prod).toNat ≤ r.slots - r.usedByProducer) ∧
    (∃ c : DrumCore, ∃ n : Fin 16, ∃ s : State, ∃ u : State, ∃ v : Word, ∃ r : Ring, s.fetched c.val = u ∧ vget u.rings n.val = r ∧ s.MayOut c (0x0803 + 8 * n.val) ∧ r.en = true ∧ 4 ≤ n.val ∧ r.side = true ∧ (v - r.cons).toNat ≤ r.ready) :=
  ⟨⟨0, 15, { running id with rings := vset (running id).rings 15 { base := 0xF000 } }, _, 60, _, rfl, rfl, ⟨⟨by decide +kernel, by decide +kernel, by decide +kernel⟩, by decide +kernel⟩, by decide +kernel⟩,
    ⟨0, 3, { running id with rings := vset (running id).rings 3 { en := true, side := true } }, _, 16, _, rfl, rfl, ⟨⟨by decide +kernel, by decide +kernel, by decide +kernel⟩, by decide +kernel⟩, by decide +kernel⟩,
    ⟨0, 15, { running id with rings := vset (running id).rings 15 { en := true } }, _, 16, _, rfl, rfl, ⟨⟨by decide +kernel, by decide +kernel, by decide +kernel⟩, by decide +kernel⟩, by decide +kernel⟩,
    ⟨0, 4, { running id with rings := vset (running id).rings 4 { en := true, side := true } }, _, 0, _, rfl, rfl, ⟨⟨by decide +kernel, by decide +kernel, by decide +kernel⟩, by decide +kernel⟩, by decide +kernel⟩⟩

/-- The clauses of `Obligations.DmaControl` can be met. -/
theorem test_DmaControl :
    (∃ c : DrumCore, ∃ n : Fin 16, ∃ s : State, ∃ u : State, ∃ v : Word, ∃ d : DmaChannel, s.fetched c.val = u ∧ u.dmaCh n.val = d ∧ s.MayOut c (0x0C00 + 8 * n.val) ∧ v.toNat / 32 % 4 ≠ 3 ∧ ((s.at_ c.val).priv ≤ v.toNat / 32 % 4) ∧ d.state = .idle ∧ bit v.toNat 1 = false) ∧
    (∃ c : DrumCore, ∃ n : Fin 16, ∃ s : State, ∃ u : State, ∃ v : Word, ∃ d : DmaChannel, ∃ e, s.fetched c.val = u ∧ u.dmaCh n.val = d ∧ s.MayOut c (0x0C00 + 8 * n.val) ∧ v.toNat / 32 % 4 ≠ 3 ∧ ((s.at_ c.val).priv ≤ v.toNat / 32 % 4) ∧ d.state = .faulted ∧ d.desc = some e ∧ bit v.toNat 0 = false ∧ bit v.toNat 2 = false ∧ v.extractLsb' 3 2 = d.prio ∧ v.extractLsb' 5 2 = d.priv ∧ bit v.toNat 7 = d.xlate) ∧
    (∃ c : DrumCore, ∃ n : Fin 16, ∃ s : State, ∃ u : State, ∃ v : Word, ∃ d : DmaChannel, s.fetched c.val = u ∧ u.dmaCh n.val = d ∧ s.MayOut c (0x0C00 + 8 * n.val) ∧ v.toNat / 32 % 4 ≠ 3 ∧ ((s.at_ c.val).priv ≤ v.toNat / 32 % 4) ∧ d.state ≠ .idle ∧ bit v.toNat 0 = false ∧ bit v.toNat 1 = false ∧ v.extractLsb' 3 2 = d.prio ∧ v.extractLsb' 5 2 = d.priv ∧ bit v.toNat 7 = d.xlate) :=
  ⟨⟨0, 15, running id, _, 1, _, rfl, rfl, ⟨⟨by decide +kernel, by decide +kernel, by decide +kernel⟩, by decide +kernel⟩, by decide +kernel⟩,
    ⟨0, 15, (running id).modDma 15 fun k => { k with prio := 0, priv := 0, xlate := false, state := .faulted, desc := some default }, _, 2, _, _, rfl, rfl, ⟨⟨by decide +kernel, by decide +kernel, by decide +kernel⟩, by decide +kernel⟩, by decide +kernel, by decide +kernel, by decide +kernel, rfl, by decide +kernel⟩,
    ⟨0, 15, (running id).modDma 15 fun k => { k with prio := 0, priv := 0, xlate := false, state := .active }, _, 4, _, rfl, rfl, ⟨⟨by decide +kernel, by decide +kernel, by decide +kernel⟩, by decide +kernel⟩, by decide +kernel⟩⟩

/-- The clauses of `Obligations.LaneEvents` can be met. -/
theorem test_LaneEvents :
    (∃ l : LaneId, ∃ s : State, s.fast = true ∧ (s.lane l.num).st ≠ .up ∧ (s.lane l.num).st ≠ .off) ∧
    (∃ l : LaneId, ∃ s : State, s.fast = true ∧ (s.lane l.num).st = .training ∧ (s.lane l.num).lock = true) ∧
    (∃ l : LaneId, ∃ s : State, s.fast = true ∧ (s.lane l.num).st = .training ∧ (s.lane l.num).lock = true ∧ (s.lane l.num).queue = [] ∧ l = .chu ∧ s.chain.head = false) ∧
    (∃ l : LaneId, ∃ s : State, s.fast = true ∧ (s.lane l.num).st = .up) ∧
    (∃ l : LaneId, ∃ s : State, ∃ f, s.Receives l.num f ∧ f.frame.ftype = 9) ∧
    (∃ l : LaneId, ∃ s : State, ∃ f, s.Receives l.num f ∧ (f.frame.ftype = 0 ∨ 10 ≤ f.frame.ftype)) ∧
    (∃ l : LaneId, ∃ s : State, ∃ f, ∃ r, ∃ n : Fin 256, (s.lane l.num).replay = f :: r ∧ f.hseq = n.val) ∧
    (∃ l : LaneId, ∃ s : State, ∃ n : Fin 256, ∃ f, s.Replays l.num f ∧ f.hseq = n.val) ∧
    (∃ l : LaneId, ∃ s : State, ∃ f, s.Replays l.num f ∧ (s.lane l.num).st = .up ∧ f.sentDt + us 8 ≤ s.now) :=
  ⟨⟨.chd, chained (fun a => { a with st := .down }) (id), by decide +kernel⟩,
    ⟨.chd, chained (fun a => { a with st := .training, lock := true }) (id), by decide +kernel⟩,
    ⟨.chu, chained (fun a => { a with st := .training, lock := true }) (id), by decide +kernel⟩,
    ⟨.chu, chained (id) (id), by decide +kernel⟩,
    ⟨.chu, chained (id) (id), frame 9 0 [], ⟨by decide +kernel, by decide +kernel, by decide +kernel, by decide +kernel, by decide +kernel⟩, by decide +kernel⟩,
    ⟨.chd, chained (id) (id), frame 10 0 [], ⟨by decide +kernel, by decide +kernel, by decide +kernel, by decide +kernel, by decide +kernel⟩, by decide +kernel⟩,
    ⟨.chu, chained (fun a => { a with replay := [{ hseq := 255, frame := (frame 2 3 [1]).frame, own := none, sentDt := 0 }] }) (id), { hseq := 255, frame := (frame 2 3 [1]).frame, own := none, sentDt := 0 }, [], 255, by decide +kernel⟩,
    ⟨.chd, chained (fun a => { a with replays := 14, replay := [{ hseq := 255, frame := (frame 2 3 [1]).frame, own := none, sentDt := 0 }] }) (id), 255, { hseq := 255, frame := (frame 2 3 [1]).frame, own := none, sentDt := 0 }, ⟨by decide +kernel, by decide +kernel⟩, by decide +kernel⟩,
    ⟨.chd, chained (fun a => { a with replays := 14, replay := [{ hseq := 255, frame := (frame 2 3 [1]).frame, own := none, sentDt := 0 }] }) (id), { hseq := 255, frame := (frame 2 3 [1]).frame, own := none, sentDt := 0 }, ⟨by decide +kernel, by decide +kernel⟩, by decide +kernel⟩⟩

/-- The clauses of `Obligations.ChainUnits` can be met. -/
theorem test_ChainUnits :
    (∃ s : State, ∃ f, s.Receives 0 f ∧ f.frame.ftype = 1 ∧ f.frame.first = true ∧ f.frame.last = true ∧ f.frame.abandon = false ∧ s.chain.unnumbered = false ∧ f.frame.dev = s.chain.number ∧ f.frame.dev ≠ 127 ∧ s.chain.held = none ∧ s.lacksRoom f.frame = true) ∧
    (∃ s : State, ∃ f, s.Receives 0 f ∧ f.frame.ftype = 1 ∧ f.frame.first = true ∧ f.frame.last = true ∧ f.frame.abandon = false ∧ s.chain.unnumbered = false ∧ f.frame.dev = s.chain.number ∧ f.frame.dev ≠ 127 ∧ s.chain.held = none ∧ s.fillable f.frame.seg = false) ∧
    (∃ s : State, ∃ f, s.Receives 0 f ∧ f.frame.ftype = 1 ∧ f.frame.first = true ∧ f.frame.last = true ∧ f.frame.abandon = false ∧ s.chain.unnumbered = false ∧ f.frame.dev = s.chain.number ∧ f.frame.dev ≠ 127 ∧ s.chain.held = none ∧ s.lacksRoom f.frame = false ∧ s.fillable f.frame.seg = true ∧ slotsOf f.frame.seg.length ≤ (vget s.rings (selectedRing f.frame.seg)).free) ∧
    (∃ s : State, ∃ f, s.Receives 1 f ∧ f.frame.ftype = 2 ∧ f.frame.first = true ∧ f.frame.last = true ∧ f.frame.abandon = false ∧ s.chain.head = true) ∧
    (∃ s : State, s.chain.current = some true ∧ (s.lane 0).lastSeg + ms 1 ≤ s.now) ∧
    (∃ s : State, (s.lane 1).sending = true ∧ (s.lane 1).lastSeg + ms 1 ≤ s.now) ∧
    (∃ s : State, ∃ h, s.chain.held = some h ∧ h.since + us s.chain.downHold.toNat ≤ s.now) ∧
    (∃ s : State, ∃ n, ∃ b, ∃ k, s.drumUp = true ∧ s.chain.head = false ∧ s.laneUp 0 = true ∧ s.chain.current = none ∧ s.chain.hopUp = [] ∧ s.ownRing = some n ∧ s.ownUnit n = some (b, k)) ∧
    (∃ s : State, ∃ f, ∃ r, s.drumUp = true ∧ s.chain.head = false ∧ s.laneUp 0 = true ∧ s.chain.current = none ∧ s.chain.hopUp = f :: r ∧ s.ownRing = none) :=
  ⟨⟨{ chained (id) (fun c => { c with number := 126, unnumbered := false }) with rings := vset (up 2).rings 0 { vget (up 2).rings 0 with prod := 64 } }, frame 1 126 [], ⟨by decide +kernel, by decide +kernel, by decide +kernel, by decide +kernel, by decide +kernel⟩, by decide +kernel⟩,
    ⟨{ chained (id) (fun c => { c with number := 126, unnumbered := false }) with rings := vset (up 2).rings 0 { vget (up 2).rings 0 with en := false } }, frame 1 126 [], ⟨by decide +kernel, by decide +kernel, by decide +kernel, by decide +kernel, by decide +kernel⟩, by decide +kernel⟩,
    ⟨chained (id) (fun c => { c with number := 126, unnumbered := false }), frame 1 126 (zeros 20), ⟨by decide +kernel, by decide +kernel, by decide +kernel, by decide +kernel, by decide +kernel⟩, by decide +kernel⟩,
    ⟨chained (id) (fun c => { c with head := true }), frame 2 9 [3], ⟨by decide +kernel, by decide +kernel, by decide +kernel, by decide +kernel, by decide +kernel⟩, by decide +kernel⟩,
    ⟨chained (id) (fun c => { c with current := some true }), by decide +kernel⟩,
    ⟨chained (fun a => { a with sending := true }) (id), by decide +kernel⟩,
    ⟨chained (id) (fun c => { c with downHold := 0, held := some { frames := [], since := 1 } }), { frames := [], since := 1 }, rfl, by decide +kernel⟩,
    ⟨{ chained (id) (id) with rings := vset (up 2).rings 15 { en := true, prod := 1, prodT := 1 } }, 15, zeros 16, 1, by decide +kernel⟩,
    by refine ⟨chained (id) (fun c => { c with hopUp := [(frame 2 9 [3]).frame] }), _, _, ?_, ?_, ?_, ?_, rfl, ?_⟩ <;> decide +kernel⟩

/-- The clauses of `Obligations.Enumerations` can be met. -/
theorem test_Enumerations :
    (∃ s : State, s.drumUp = true ∧ s.chain.head = false ∧ 8184000 ≤ s.chain.headCount ∧ s.laneUp 0 = false) ∧
    (∃ s : State, ∃ f : RxFrame, s.Receives 0 f ∧ f.frame.ftype = 6 ∧ byteAt f.frame.seg 0 < 64) ∧
    (∃ s : State, ∃ f : RxFrame, s.Receives 0 f ∧ f.frame.ftype = 6 ∧ 64 ≤ byteAt f.frame.seg 0) ∧
    (∃ s : State, ∃ f : RxFrame, s.Receives 1 f ∧ f.frame.ftype = 7 ∧ s.chain.head = true) ∧
    (∃ s : State, ∃ f : RxFrame, s.Receives 1 f ∧ f.frame.ftype = 7 ∧ s.chain.head = false) ∧
    (∃ s : State, ∃ f : RxFrame, s.Receives 1 f ∧ f.frame.ftype = 8) ∧
    (∃ s : State, ∃ e, s.chain.enum = some e ∧ e.cmds = [] ∧ e.started + ms 10 ≤ s.now) ∧
    (∃ s : State, ∃ e, ∃ n, s.chain.enum = some e ∧ e.cmds = [n] ∧ e.started + ms 10 ≤ s.now) :=
  ⟨⟨chained (fun a => { a with st := .down }) (fun c => { c with headCount := 8184000 }), by decide +kernel⟩,
    ⟨chained (id) (id), frame 6 127 [63, 64, 0, 0, 7, 0, 0, 0], ⟨by decide +kernel, by decide +kernel, by decide +kernel, by decide +kernel, by decide +kernel⟩, by decide +kernel⟩,
    ⟨chained (id) (id), frame 6 127 [64, 65, 0, 0, 7, 0, 0, 0], ⟨by decide +kernel, by decide +kernel, by decide +kernel, by decide +kernel, by decide +kernel⟩, by decide +kernel⟩,
    ⟨chained (id) (fun c => { c with head := true }), frame 7 0 [3, 0, 0, 0], ⟨by decide +kernel, by decide +kernel, by decide +kernel, by decide +kernel, by decide +kernel⟩, by decide +kernel⟩,
    ⟨chained (id) (id), frame 7 0 [3, 1, 0, 0], ⟨by decide +kernel, by decide +kernel, by decide +kernel, by decide +kernel, by decide +kernel⟩, by decide +kernel⟩,
    ⟨chained (id) (id), frame 8 0 [0, 0, 0, 0], ⟨by decide +kernel, by decide +kernel, by decide +kernel, by decide +kernel, by decide +kernel⟩, by decide +kernel⟩,
    ⟨chained (id) (fun c => { c with enum := some { started := 1, cmds := [] } }), _, rfl, by decide +kernel⟩,
    ⟨chained (id) (fun c => { c with enum := some { started := 1, cmds := [5] } }), _, _, rfl, rfl, by decide +kernel⟩⟩

/-- The clauses of `Obligations.Alignment` can be met. -/
theorem test_Alignment :
    (∃ s : State, s.exchanges = true ∧ s.clk.nextExchange ≤ s.now ∧ s.clk.exchange = none) ∧
    (∃ s : State, ∃ f : RxFrame, s.Receives 1 f ∧ f.frame.ftype = 3 ∧ s.lastDevice = false) ∧
    (∃ s : State, ∃ f : RxFrame, ∃ e, s.Receives 0 f ∧ f.frame.ftype = 4 ∧ s.clk.exchange = some e ∧ (s.lane 0).bad = false) ∧
    (∃ s : State, ∃ f : RxFrame, ∃ e, ∃ t4, ∃ d, s.Receives 0 f ∧ f.frame.ftype = 5 ∧ s.clk.exchange = some e ∧ e.t4 = some (t4, d) ∧ s.clk.offsetHeld = false ∧ (s.lane 0).bad = false ∧ s.now ≤ e.started + ms 1 ∧ (byteAt f.frame.seg 10 = 0 ∨ byteAt f.frame.seg 10 = 3)) ∧
    (∃ s : State, ∃ e, s.clk.exchange = some e ∧ e.started + ms 1 ≤ s.now) ∧
    (∃ s : State, ∃ e, s.clk.lastExchange = some e ∧ s.chain.head = false ∧ s.drumUp = true ∧ e + 3 * second ≤ s.now) :=
  ⟨⟨chained (id) (fun c => { c with number := 3, unnumbered := false }), by decide +kernel⟩,
    ⟨chained (id) (id), frame 3 4 [5, 0, 0, 0], ⟨by decide +kernel, by decide +kernel, by decide +kernel, by decide +kernel, by decide +kernel⟩, by decide +kernel⟩,
    ⟨{ (chained (id) (id)) with clk := { (up 2).clk with exchange := some { started := 85899345920, t1 := 4, t4 := some (9, 2) } } }, frame 4 0 [5, 0, 0, 0], _, ⟨by decide +kernel, by decide +kernel, by decide +kernel, by decide +kernel, by decide +kernel⟩, by decide +kernel, rfl, by decide +kernel⟩,
    ⟨{ (chained (id) (id)) with clk := { (up 2).clk with exchange := some { started := 85899345920, t1 := 4, t4 := some (9, 2) } } }, frame 5 0 ([5, 0, 0, 0, 0, 0, 0, 0, 0, 0, 3] ++ zeros 20), _, 9, 2, ⟨by decide +kernel, by decide +kernel, by decide +kernel, by decide +kernel, by decide +kernel⟩, by decide +kernel, rfl, rfl, by decide +kernel⟩,
    ⟨{ (chained (id) (id)) with clk := { (up 2).clk with exchange := some { started := 1, t1 := 4, t4 := some (9, 2) } } }, _, rfl, by decide +kernel⟩,
    ⟨{ (chained (id) (id)) with clk := { (up 2).clk with lastExchange := some 1 } }, 1, by decide +kernel⟩⟩

/-- The clauses of `Obligations.HostPort` can be met. -/
theorem test_HostPort :
    (∃ s : State, ∃ n, s.hportServes = true ∧ 0 < n) ∧
    (∃ s : State, ∃ b, ∃ q, s.hportServes = true ∧ 7 ≤ b.length ∧ byteAt b 2 % 128 = 0 ∧ selectedRing b = q ∧ (vget s.rings q).en = true ∧ (vget s.rings q).side = false ∧ slotsOf b.length ≤ (vget s.rings q).free) ∧
    (∃ s : State, ∃ k : BitVec 8, ∃ q, ∃ r, s.hportServes = true ∧ k.toNat % 16 = q ∧ k.toNat / 16 % 8 = 0 ∧ 4 ≤ q ∧ vget s.rings q = r ∧ r.side = false) ∧
    (∃ s : State, s.hportServes = true) ∧
    (∃ s : State, ∃ k : BitVec 8, s.hportServes = true ∧ k.toNat ∉ [0x05, 0x75, 0x02, 0x32, 0x0B, 0x6B, 0x0C, 0x6C]) :=
  ⟨⟨{ (chained (id) (fun c => { c with head := true })) with hport := { ready := true } }, 1, by decide +kernel⟩,
    ⟨{ (chained (id) (fun c => { c with head := true })) with hport := { ready := true } }, packet 1 [], _, by decide +kernel, by decide +kernel, by decide +kernel, rfl, by decide +kernel⟩,
    ⟨{ (chained (id) (fun c => { c with head := true })) with hport := { ready := true } }, 15, _, _, by decide +kernel, rfl, by decide +kernel, by decide +kernel, rfl, by decide +kernel⟩,
    ⟨{ (chained (id) (fun c => { c with head := true })) with hport := { ready := true } }, by decide +kernel⟩,
    ⟨{ (chained (id) (fun c => { c with head := true })) with hport := { ready := true } }, 0x99, by decide +kernel⟩⟩

/-- The clauses of `Obligations.InterpreterAndMailbox` can be met. -/
theorem test_InterpreterAndMailbox :
    (∃ s : State, ∃ id, ∃ f, s.inflight? id = some f) ∧
    (∃ s : State, ∃ id, ∃ f, ∃ st : Status, s.inflight? id = some f ∧ f.noReply = true ∧ st = .ok) ∧
    (∃ s : State, ∃ id, ∃ f, ∃ st : Status, s.inflight? id = some f ∧ (f.noReply = false ∨ st ≠ .ok)) ∧
    (∃ s : State, ∃ t, ∃ st, ∃ d, framing t.bytes (t.bytes.length / 64) = some (st, d) ∧ s.takes t = true) ∧
    (∃ s : State, ∃ t, s.takes t = true ∧ framing t.bytes (t.bytes.length / 64) = none ∧ cmdRow (parseHeader t.bytes).opcode = none ∧ s.headerChecks t.ring.val t.bytes = some (.undefinedOpcode, 0)) ∧
    (∃ s : State, ∃ i, ∃ t, ∃ op, ∃ n, ∃ st, ∃ d, queryRow i = some (t, op, n) ∧ s.takes t = true ∧ framing t.bytes (t.bytes.length / 64) = none ∧ (parseHeader t.bytes).opcode = op ∧ s.headerChecks t.ring.val t.bytes = some (st, d)) ∧
    (∃ s : State, ∃ q : Fin 4, ∃ w, ∃ r, s.drumUp = true ∧ (vget s.rings (q.val + 4)).waiting = w :: r ∧ (vget s.rings (q.val + 4)).fitsPacket w.bytes.length = true) ∧
    (∃ s : State, ∃ a, ∃ r, s.sealed.nextOffer = some (a, r) ∧ s.drumUp = true ∧ s.domeUp = true ∧ s.recordFits 13 r.bytes.length = true) ∧
    (∃ s : State, ∃ o, ∃ r, s.mbx.out = o :: r ∧ s.drumUp = true ∧ s.recordFits o.ring o.payload.length = true) ∧
    (∃ s : State, s.domeUp = true) ∧
    (∃ s : State, s.fast = true ∧ s.mem.mailbox.wf = true) :=
  ⟨⟨{ up 2 with interp := { inflight := [{ id := 4, tag := 9, ring := 1, opcode := 0x400, noReply := true, accepted := 0, dome := true }], nextId := 5 } }, 4, _, rfl⟩,
    ⟨{ up 2 with interp := { inflight := [{ id := 4, tag := 9, ring := 1, opcode := 0x400, noReply := true, accepted := 0, dome := true }], nextId := 5 } }, 4, _, Status.ok, rfl, by decide +kernel⟩,
    ⟨{ up 2 with interp := { inflight := [{ id := 4, tag := 9, ring := 1, opcode := 0x400, noReply := true, accepted := 0, dome := true }], nextId := 5 } }, 4, _, Status.timeout, rfl, by decide +kernel⟩,
    ⟨{ up 2 with rings := vset (up 2).rings 0 { vget (up 2).rings 0 with prod := 1, arrivals := [⟨1, 1⟩] } }, { ring := 0, bytes := zeros 64 }, Status.crcError, 0, by decide +kernel⟩,
    ⟨sent (up 2) 0xF7F [], txn 0xF7F [], by decide +kernel⟩,
    ⟨sent (up 2) 0 [0], .sysNop (txn 0 [0]), _, _, _, Status.lengthInvalid, 0, rfl, by decide +kernel⟩,
    ⟨{ up 2 with rings := vset (up 2).rings 7 { vget (up 2).rings 7 with en := true, waiting := [{ bytes := [1], frees := none }] } }, 3, _, _, by decide +kernel, rfl, by decide +kernel⟩,
    ⟨{ up 2 with sealed := { (up 2).sealed with auditSeq := 1, main := [{ seq := 1, cause := 1, dt := 5, bytes := zeros 160 }] }, rings := vset (up 2).rings 13 { (vget (up 2).rings 13) with en := true } }, true, { seq := 1, cause := 1, dt := 5, bytes := zeros 160 }, by decide +kernel⟩,
    ⟨{ up 2 with mbx := { out := [{ ring := 13, rtype := 0, dt := 1, payload := [] }] }, rings := vset (up 2).rings 13 { (vget (up 2).rings 13) with en := true } }, _, _, rfl, by decide +kernel⟩,
    ⟨up 2, by decide +kernel⟩,
    ⟨up 2, by decide +kernel⟩⟩

/-- The clauses of `Obligations.InputEvents` can be met. -/
theorem test_InputEvents :
    (∃ s : State, ∃ p : Fin 8, ∃ q : Port, s.port p.val = q ∧ s.domeService = true ∧ q.lane = .locked ∧ q.window + 81840 ≤ s.clk.tick ∧ q.stuckCount < 9) ∧
    (∃ s : State, ∃ p : Fin 8, ∃ q : Port, ∃ i, s.port p.val = q ∧ s.domeService = true ∧ q.lane = .locked ∧ q.window + 81840 ≤ s.clk.tick ∧ q.live = true ∧ q.stuckCount = 9 ∧ sticks i = true) ∧
    (∃ s : State, ∃ p : Fin 8, ∃ q : Port, ∃ c : Int, ∃ e, s.port p.val = q ∧ q.lane = .locked ∧ s.fast = true ∧ q.eyeTick + 1024 ≤ s.clk.tick ∧ ((q.tap : Int) + c - q.trained).natAbs ≤ 8 ∧ e < 16) ∧
    (∃ s : State, ∃ p : Fin 8, ∃ q : Port, ∃ c : Int, ∃ e, s.port p.val = q ∧ q.lane = .locked ∧ s.fast = true ∧ q.eyeTick + 1024 ≤ s.clk.tick ∧ (8 < ((q.tap : Int) + c - q.trained).natAbs ∨ 16 ≤ e)) ∧
    (∃ s : State, ∃ p : Fin 8, ∃ q : Port, s.port p.val = q ∧ q.lane = .wait ∧ s.frontOn p.val = true ∧ q.waitFrom + us s.input.feStart ≤ s.now) ∧
    (∃ s : State, ∃ p : Fin 8, ∃ q : Port, ∃ t0, s.port p.val = q ∧ q.lane = .training ∧ q.step = .sweep t0 ∧ t0 + 4096 ≤ s.clk.tick ∧ s.clk.tick ≤ t0 + 4111) ∧
    (∃ s : State, ∃ p : Fin 8, ∃ q : Port, ∃ t0, ∃ l, s.port p.val = q ∧ q.lane = .training ∧ q.step = .verify t0 l ∧ t0 + l + 1024 ≤ s.clk.tick) ∧
    (∃ s : State, ∃ p : Fin 8, ∃ q : Port, ∃ t0, s.port p.val = q ∧ q.lane = .training ∧ q.step = .sweep t0 ∧ t0 + 4112 ≤ s.clk.tick) ∧
    (∃ s : State, ∃ p : Fin 8, ∃ q : Port, s.port p.val = q ∧ s.fast = true ∧ s.clk.tick % 16 = 0 ∧ (∀ f, s.input.frm = some f → f.slot ≠ s.clk.tick / 16) ∧ (List.range 8).find? (fun k => (s.port k).wantEnd || (s.port k).wantStart) = some p.val) ∧
    (∃ s : State, ∃ p : Fin 8, ∃ q : Port, s.port p.val = q ∧ s.fast = true ∧ s.clk.tick % 16 = 0 ∧ (∀ f, s.input.frm = some f → f.slot ≠ s.clk.tick / 16) ∧ (∀ k < 8, (s.port k).wantEnd = false ∧ (s.port k).wantStart = false) ∧ s.input.nextGain = some p.val) ∧
    (∃ s : State, ∃ p : Fin 8, ∃ q : Port, s.port p.val = q ∧ s.fast = true ∧ s.clk.tick % 16 = 0 ∧ (∀ f, s.input.frm = some f → f.slot ≠ s.clk.tick / 16) ∧ (∀ k < 8, (s.port k).wantEnd = false ∧ (s.port k).wantStart = false) ∧ s.input.nextGain = none) ∧
    (∃ s : State, ∃ p : Fin 8, ∃ q : Port, s.port p.val = q ∧ s.domeService = true ∧ s.now / second ≠ s.input.noiseAt) ∧
    (∃ s : State, ∃ p : Fin 8, ∃ q : Port, ∃ f : Int, ∃ w : Int, s.port p.val = q ∧ s.domeService = true ∧ s.freezes = false ∧ q.lane = .locked ∧ q.detector + 65536 ≤ s.clk.tick ∧ q.notchSets = [] ∧ (∀ k < 4, (vget q.notches k).engaged = false) ∧ (vget q.notches 0).mode = 1 ∧ 16 * (q.thresh : Int) ≤ w ∧ f.natAbs ≤ 40000000) ∧
    (∃ s : State, ∃ p : Fin 8, ∃ q : Port, ∃ j, ∃ used, s.port p.val = q ∧ q.spec = some j ∧ j.start + 1024 * j.blocks ≤ s.clk.tick ∧ used = j.blocks - (j.regain s.clk.tick).skipped) ∧
    (∃ s : State, ∃ p : Fin 8, ∃ q : Port, ∃ n : Fin 4, ∃ level, ∃ d, s.port p.val = q ∧ s.fast = true ∧ (vget s.evt n.val).en = true ∧ (vget s.evt n.val).selects level = true ∧ (vget s.evt n.val).last = some d ∧ s.clk.tick ≤ d + 4 ∧ s.pwr.phase ≠ .handshake ∧ s.pwr.phase ≠ .committed) ∧
    (∃ s : State, ∃ p : Fin 8, ∃ q : Port, ∃ n : Fin 4, ∃ level, ∃ cause, ∃ u, s.port p.val = q ∧ s.fast = true ∧ (vget s.evt n.val).en = true ∧ (vget s.evt n.val).selects level = true ∧ (∀ d, (vget s.evt n.val).last = some d → d + 4 < s.clk.tick) ∧ s.pwr.phase ≠ .handshake ∧ s.pwr.phase ≠ .committed ∧ s.claim 5 = (cause, u)) :=
  ⟨⟨port 0 fun q => { q with stuckCount := 8 }, 0, _, rfl, by decide +kernel⟩,
    ⟨port 7 fun q => { q with stuckCount := 9, live := true }, 7, _, (100 :: List.replicate 15 0), rfl, by decide +kernel⟩,
    ⟨port 7 fun q => { q with tap := 10, trained := 10 }, 7, _, -8, 15, rfl, by decide +kernel⟩,
    ⟨port 7 fun q => { q with tap := 10, trained := 10 }, 7, _, -8, 16, rfl, by decide +kernel⟩,
    ⟨port 7 fun q => { q with lane := .wait }, 7, _, rfl, by decide +kernel⟩,
    ⟨port 7 fun q => { q with lane := .training, step := .sweep 999995889 }, 7, _, 999995889, rfl, by decide +kernel⟩,
    ⟨port 0 fun q => { q with lane := .training, step := .verify 5 40 }, 0, _, 5, 40, rfl, by decide +kernel⟩,
    ⟨port 0 fun q => { q with lane := .training, step := .sweep 5 }, 0, _, 5, rfl, by decide +kernel⟩,
    ⟨port 5 fun q => { q with wantEnd := true }, 5, _, rfl, by decide +kernel, by decide +kernel, (by intro f h; cases h), by decide +kernel⟩,
    ⟨port 5 fun q => { q with wantGain := true }, 5, _, rfl, by decide +kernel, by decide +kernel, (by intro f h; cases h), by decide +kernel⟩,
    ⟨(locked 2), 5, _, rfl, by decide +kernel, by decide +kernel, (by intro f h; cases h), by decide +kernel⟩,
    ⟨(locked 2), 5, _, rfl, by decide +kernel⟩,
    ⟨(locked 2), 5, _, 40000000, 240, rfl, by decide +kernel⟩,
    ⟨port 6 fun q => { q with spec := some { cmd := 3, tap := 0, blocks := 1, start := 5 } }, 6, _, { cmd := 3, tap := 0, blocks := 1, start := 5 }, _, rfl, by decide +kernel, by decide +kernel, rfl⟩,
    ⟨{ locked 2 with evt := vset (up 2).evt 3 { en := true, edge := 2, last := some 999999996 } }, 0, _, 3, false, 999999996, rfl, by decide +kernel⟩,
    by refine ⟨{ locked 2 with evt := vset (up 2).evt 3 { en := true, edge := 2, last := some 999999995 } }, 0, _, 3, false, _, _, rfl, ?_, ?_, ?_, (by intro d h; cases h; decide +kernel), ?_, ?_, rfl⟩ <;> decide +kernel⟩

/-- The clauses of `Obligations.EaselEvents` can be met. -/
theorem test_EaselEvents :
    (∃ s : State, ∃ b : Fin 8, ∃ k, ∃ j, s.domeService = true ∧ vget s.easel.banks b.val = k ∧ k.job = some j.id ∧ s.easel.job j.id = some j ∧ j.kind = .search ∧ k.waits = false ∧ k.roundOver = false ∧ k.start + loadTicks + j.dwell ≤ s.clk.tick ∧ j.left = true) ∧
    (∃ s : State, ∃ b : Fin 8, ∃ k, ∃ j, ∃ i, s.domeService = true ∧ vget s.easel.banks b.val = k ∧ k.job = some j.id ∧ s.easel.job j.id = some j ∧ j.kind = .search ∧ k.waits = false ∧ k.roundOver = false ∧ k.start + loadTicks + j.dwell ≤ s.clk.tick ∧ j.left = false ∧ s.easel.held j.id = 1 ∧ j.derived = false ∧ i = { j with done := j.done + k.hyps, passes := j.passes + 1 }) ∧
    (∃ s : State, s.domeService = true) ∧
    (∃ s : State, ∃ r, ∃ l, s.domeService = true ∧ s.easel.reqs = r :: l ∧ s.easel.capturing = none ∧ s.poweredOn 4 = true ∧ s.cal.run = none ∧ (∀ k ∈ r.ports, (s.port k).captureReady = true)) ∧
    (∃ s : State, ∃ c, ∃ k, s.domeService = true ∧ s.easel.capturing = some c ∧ c.req.forFix = false ∧ c.start + c.req.length * 81840 ≤ s.clk.tick ∧ vget s.easel.captures c.req.id = some k) ∧
    (∃ s : State, ∃ c, s.domeService = true ∧ s.easel.capturing = some c ∧ c.req.forFix = true ∧ c.start + c.req.length * 81840 ≤ s.clk.tick ∧ s.pwr.profile ≠ 0 ∧ s.cal.run = none) ∧
    (∃ s : State, ∃ f, s.domeService = true ∧ s.easel.fix = some f ∧ f.stage = .solve ∧ s.trk.supRestart = none) :=
  ⟨⟨(locked 2).modEasel fun e => { e with jobs := [{ id := 9, kind := .search, cmd := some 4, dwell := 1000, hypUp := 1 }], banks := vset e.banks 7 { job := some 9, hyps := 5 } }, 7, _, { id := 9, kind := .search, cmd := some 4, dwell := 1000, hypUp := 1 }, by decide +kernel, rfl, by decide +kernel⟩,
    by refine ⟨(locked 2).modEasel fun e => { e with jobs := [{ id := 9, kind := .search, cmd := some 4, dwell := 1000, hypUp := 0 }], banks := vset e.banks 7 { job := some 9, hyps := 5 } }, 7, _, { id := 9, kind := .search, cmd := some 4, dwell := 1000, hypUp := 0 }, _, ?_, rfl, ?_, ?_, ?_, ?_, ?_, ?_, ?_, ?_, ?_, rfl⟩ <;> decide +kernel,
    ⟨(locked 2), by decide +kernel⟩,
    ⟨(port 0 fun q => { q with settled := true }).modEasel fun e => { e with reqs := [{ cmd := some 4, id := 7, antenna := 0, format := 2, band := 0, length := 20, forFix := false }] }, _, _, by decide +kernel, rfl, by decide +kernel⟩,
    ⟨(locked 2).modEasel fun e => { e with capturing := some { req := { cmd := some 4, id := 7, antenna := 3, format := 0, band := 0, length := 20, forFix := false }, start := 5 }, captures := vset e.captures 7 (some snap) }, _, _, by decide +kernel, rfl, by decide +kernel, by decide +kernel, rfl⟩,
    ⟨(locked 2).modEasel fun e => { e with capturing := some { req := { cmd := some 4, id := 7, antenna := 3, format := 0, band := 0, length := 20, forFix := true }, start := 5 } }, _, by decide +kernel, rfl, by decide +kernel⟩,
    ⟨(locked 2).modEasel fun e => { e with fix := some { cmd := some 4, existing := false, capture := none, keep := false, lower := false, antenna := 3, format := 0, mask := 7, length := 20, stage := .solve } }, _, by decide +kernel, rfl, by decide +kernel⟩⟩

/-- The clauses of `Obligations.ChannelEvents` can be met. -/
theorem test_ChannelEvents :
    (∃ s : State, ∃ ch : Fin 192, ∃ lower : Bool, ∃ c : Channel, ∃ l : TrkLane, s.chan ch.val = c ∧ c.lane lower = l ∧ s.pairRuns (ch.val / 48) = true ∧ c.anchor ≠ none ∧ c.out = false ∧ c.claimed = false ∧ l.signal ≠ 0 ∧ (l.st = .absent → s.bandOpen lower = true) ∧ c.releasing = true) ∧
    (∃ s : State, ∃ ch : Fin 192, ∃ lower : Bool, ∃ c : Channel, ∃ l : TrkLane, s.chan ch.val = c ∧ c.lane lower = l ∧ s.pairRuns (ch.val / 48) = true ∧ c.anchor ≠ none ∧ c.out = false ∧ c.claimed = false ∧ l.signal ≠ 0 ∧ (l.st = .absent → s.bandOpen lower = true) ∧ c.releasing = false ∧ c.retireAt.isSome = true) ∧
    (∃ s : State, ∃ ch : Fin 192, ∃ lower : Bool, ∃ c : Channel, ∃ l : TrkLane, ∃ d : Sums, s.chan ch.val = c ∧ c.lane lower = l ∧ s.pairRuns (ch.val / 48) = true ∧ c.anchor ≠ none ∧ c.out = false ∧ c.claimed = false ∧ l.signal ≠ 0 ∧ (l.st = .absent → s.bandOpen lower = true) ∧ c.releasing = false ∧ c.retireAt = none ∧ l.st ≠ .absent ∧ d.residueOk = false) ∧
    (∃ s : State, ∃ ch : Fin 192, ∃ lower : Bool, ∃ c : Channel, ∃ l : TrkLane, ∃ d : Sums, s.chan ch.val = c ∧ c.lane lower = l ∧ s.pairRuns (ch.val / 48) = true ∧ c.anchor ≠ none ∧ c.out = false ∧ c.claimed = false ∧ l.signal ≠ 0 ∧ (l.st = .absent → s.bandOpen lower = true) ∧ c.releasing = false ∧ c.retireAt = none ∧ s.withheld ch.val = true ∧ l.st ≠ .absent ∧ d.residueOk = true) ∧
    (∃ s : State, ∃ ch : Fin 192, ∃ lower : Bool, ∃ c : Channel, ∃ l : TrkLane, s.chan ch.val = c ∧ c.lane lower = l ∧ s.pairRuns (ch.val / 48) = true ∧ c.anchor ≠ none ∧ c.out = false ∧ c.claimed = false ∧ l.signal ≠ 0 ∧ (l.st = .absent → s.bandOpen lower = true) ∧ c.releasing = false ∧ c.retireAt = none ∧ s.withheld ch.val = false ∧ l.st = .absent) ∧
    (∃ s : State, ∃ ch : Fin 192, ∃ lower : Bool, ∃ c : Channel, ∃ l : TrkLane, ∃ d : Sums, s.chan ch.val = c ∧ c.lane lower = l ∧ s.pairRuns (ch.val / 48) = true ∧ c.anchor ≠ none ∧ c.out = false ∧ c.claimed = false ∧ l.signal ≠ 0 ∧ (l.st = .absent → s.bandOpen lower = true) ∧ c.releasing = false ∧ c.retireAt = none ∧ s.withheld ch.val = false ∧ l.st ≠ .absent ∧ l.convertTo = none ∧ d.residueOk = true ∧ d.prompts.length * primaryPeriod l.signal = l.now.t) ∧
    (∃ s : State, ∃ ch : Fin 192, ∃ lower : Bool, ∃ c : Channel, ∃ l : TrkLane, ∃ f, ∃ m, ∃ e, ∃ p, ∃ a, ∃ r, s.chan ch.val = c ∧ c.lane lower = l ∧ s.pairRuns (ch.val / 48) = true ∧ l.st = .pullIn ∧ l.check = some (f, m) ∧ f + ms 20 ≤ s.now ∧ l.checkSums = (e, p, a) ∧ signalRow l.signal = some r) ∧
    (∃ s : State, ∃ ch : Fin 192, ∃ lower : Bool, ∃ c : Channel, ∃ l : TrkLane, ∃ d, s.chan ch.val = c ∧ c.lane lower = l ∧ s.pairRuns (ch.val / 48) = true ∧ c.selfCheck = some d ∧ d ≤ s.now) ∧
    (∃ s : State, ∃ ch : Fin 192, ∃ lower : Bool, ∃ c : Channel, ∃ l : TrkLane, s.chan ch.val = c ∧ c.lane lower = l ∧ s.pairRuns (ch.val / 48) = true ∧ l.st = .pullIn ∧ l.check = none ∧ l.since + ms s.trk.cfg.pullIn ≤ s.now) ∧
    (∃ s : State, ∃ ch : Fin 192, ∃ lower : Bool, ∃ c : Channel, ∃ l : TrkLane, s.chan ch.val = c ∧ c.lane lower = l ∧ s.pairRuns (ch.val / 48) = true ∧ l.st = .sync ∧ l.converted = false ∧ l.since + ms s.trk.cfg.sync ≤ s.now) ∧
    (∃ s : State, ∃ ch : Fin 192, ∃ lower : Bool, ∃ c : Channel, ∃ l : TrkLane, ∃ b, s.chan ch.val = c ∧ c.lane lower = l ∧ s.pairRuns (ch.val / 48) = true ∧ (l.st = .sync ∨ l.st = .track) ∧ l.bad = some b ∧ b + ms s.trk.cfg.loss ≤ s.now) ∧
    (∃ s : State, ∃ ch : Fin 192, ∃ lower : Bool, ∃ c : Channel, ∃ l : TrkLane, ∃ f, s.chan ch.val = c ∧ c.lane lower = l ∧ s.pairRuns (ch.val / 48) = true ∧ c.state = 5 ∧ c.lostFrom = some f ∧ f + ms s.trk.cfg.coast ≤ s.now) ∧
    (∃ s : State, ∃ ch : Fin 192, ∃ lower : Bool, ∃ c : Channel, ∃ l : TrkLane, ∃ d, s.chan ch.val = c ∧ c.lane lower = l ∧ s.pairRuns (ch.val / 48) = true ∧ c.state = 6 ∧ c.reacqFrom = some d ∧ (d + s.trk.cfg.reacqTime * second ≤ s.now ∨ c.elevation < s.trk.cfg.elev)) ∧
    (∃ s : State, ∃ ch : Fin 192, ∃ lower : Bool, ∃ c : Channel, ∃ l : TrkLane, s.chan ch.val = c ∧ c.lane lower = l ∧ s.pairRuns (ch.val / 48) = true ∧ l.st = .lost ∧ l.checkedAt + ms 20 ≤ s.now) ∧
    (∃ s : State, ∃ ch : Fin 192, ∃ lower : Bool, ∃ c : Channel, ∃ l : TrkLane, ∃ r, ∃ p, s.chan ch.val = c ∧ c.lane lower = l ∧ s.pairRuns (ch.val / 48) = true ∧ l.st = .lost ∧ (c.lane (!lower)).st = .track ∧ l.reentry + 10 * second ≤ s.now ∧ signalRow l.signal = some r ∧ signalRow (c.lane (!lower)).signal = some p) ∧
    (∃ s : State, ∃ ch : Fin 192, ∃ lower : Bool, ∃ c : Channel, ∃ l : TrkLane, s.chan ch.val = c ∧ c.lane lower = l ∧ s.pairRuns (ch.val / 48) = true ∧ l.st = .track ∧ c.palette = true ∧ l.mpCount ≠ 0 ∧ l.mpFrom + ms s.trk.palette.avg ≤ s.now) :=
  ⟨⟨chan191 (fun l => { l with st := .track }) (fun c => { c with releasing := true }), 191, false, _, _, rfl, rfl, by decide +kernel⟩,
    ⟨chan191 (fun l => { l with st := .track }) (fun c => { c with retireAt := some (4, 5) }), 191, false, _, _, rfl, rfl, by decide +kernel⟩,
    ⟨chan191 (fun l => { l with st := .track }) (id), 191, false, _, _, dump false, rfl, rfl, by decide +kernel⟩,
    ⟨chan191 (fun l => { l with st := .track }) (fun c => { c with selfCheck := some 5, checkOwn := true }), 191, false, _, _, dump true, rfl, rfl, by decide +kernel⟩,
    ⟨chan191 (id) (id), 191, false, _, _, rfl, rfl, by decide +kernel⟩,
    ⟨chan191 (fun l => { l with st := .track }) (id), 191, false, _, _, dump true, rfl, rfl, by decide +kernel⟩,
    by refine ⟨chan191 (fun l => { l with st := .pullIn, check := some (5, 1), checkSums := (1, 9, 1) }) (id), 191, false, _, _, 5, 1, 1, 9, 1, _, rfl, rfl, ?_, ?_, ?_, ?_, ?_, some_of (by decide +kernel)⟩ <;> decide +kernel,
    ⟨chan191 (id) (fun c => { c with selfCheck := some 5 }), 191, false, _, _, 5, rfl, rfl, by decide +kernel⟩,
    ⟨chan191 (fun l => { l with st := .pullIn }) (id), 191, false, _, _, rfl, rfl, by decide +kernel⟩,
    ⟨chan191 (fun l => { l with st := .sync }) (id), 191, false, _, _, rfl, rfl, by decide +kernel⟩,
    ⟨chan191 (fun l => { l with st := .track, bad := some 9 }) (id), 191, false, _, _, 9, rfl, rfl, by decide +kernel, Or.inr (by decide +kernel), by decide +kernel⟩,
    ⟨chan191 (fun l => { l with st := .lost }) (fun c => { c with lostFrom := some 5 }), 191, false, _, _, 5, rfl, rfl, by decide +kernel⟩,
    ⟨chan191 (fun l => { l with st := .lost }) (fun c => { c with reacqFrom := some 5, elevation := -1 }), 191, false, _, _, 5, rfl, rfl, by decide +kernel, by decide +kernel, by decide +kernel, Or.inr (by decide +kernel)⟩,
    ⟨chan191 (fun l => { l with st := .lost }) (id), 191, false, _, _, rfl, rfl, by decide +kernel⟩,
    ⟨chan191 (fun l => { l with st := .lost }) (fun c => { c with lower := { st := .track, signal := 0x62 } }), 191, false, _, _, _, _, rfl, rfl, by decide +kernel, by decide +kernel, by decide +kernel, by decide +kernel, some_of (by decide +kernel), some_of (by decide +kernel)⟩,
    ⟨chan191 (fun l => { l with st := .track, mpCount := 1 }) (fun c => { c with palette := true }), 191, false, _, _, rfl, rfl, by decide +kernel⟩⟩

/-- The clauses of `Obligations.LoopPairs` can be met. -/
theorem test_LoopPairs :
    (∃ s : State, s.domeService = true) ∧
    (∃ s : State, ∃ pair : Fin 5, ∃ m, s.domeService = true ∧ pair.val < 4 ∧ s.clusterUp pair.val = true ∧ recent s.now (10 * second) (s.now :: (s.cluster pair.val).mismatches) = m) ∧
    (∃ s : State, ∃ pair : Fin 5, ∃ d, s.domeService = true ∧ pair.val < 4 ∧ (s.cluster pair.val).restart = some d) ∧
    (∃ s : State, ∃ d, s.domeService = true ∧ s.trk.supRestart = some d) :=
  ⟨⟨(locked 2), by decide +kernel⟩,
    ⟨(locked 2), 3, _, by decide +kernel, by decide +kernel, by decide +kernel, rfl⟩,
    ⟨{ locked 2 with trk := { (up 2).trk with clusters := vset (up 2).trk.clusters 3 { restart := some 5 } } }, 3, 5, by decide +kernel⟩,
    ⟨{ locked 2 with trk := { (up 2).trk with supRestart := some 5 } }, 5, by decide +kernel⟩⟩

/-- The clauses of `Obligations.EpochsAndRuns` can be met. -/
theorem test_EpochsAndRuns :
    (∃ s : State, s.epochDue = true ∧ s.trk.supRestart = none ∧ s.trk.supFrozen = false) ∧
    (∃ s : State, s.epochDue = true ∧ (s.trk.supRestart.isSome || s.trk.supFrozen) = true) ∧
    (∃ s : State, s.epochDue = false) ∧
    (∃ s : State, s.cal.run = none ∧ s.easel.watch.claimed.isSome = true ∧ s.epochDue = true) ∧
    (∃ s : State, ∃ r, s.cal.run = some r ∧ r.overdue = true ∧ r.released = false ∧ r.tick0 + 1636800 ≤ s.clk.tick) ∧
    (∃ r : CalRun, ∃ k : CalPeak, r.ports = [k.port]) ∧
    (∃ s : State, ∃ r, ∃ peaks, s.cal.run = some r ∧ r.released = false ∧ r.disturbed = none ∧ s.domeService = true ∧ r.tick0 + 1636799 ≤ s.clk.tick ∧ r.peakFault peaks = none) ∧
    (∃ s : State, ∃ r, ∃ peaks, ∃ reason, ∃ port, s.cal.run = some r ∧ r.released = false ∧ s.domeService = true ∧ (r.disturbed = some (reason, port) ∨ r.disturbed = none ∧ r.peakFault peaks = some (reason, port) ∧ r.tick0 + 409200 ≤ s.clk.tick)) ∧
    (∃ s : State, ∃ r, ∃ m, ∃ v, s.cal.run = some r ∧ r.released = true ∧ s.domeService = true ∧ s.pwr.lowSupply = false ∧ s.calCompute r m = v) ∧
    (∃ s : State, ∃ k, s.cal.ready = some k ∧ k.from_ ≠ 0 ∧ k.from_ ≤ s.now) :=
  ⟨⟨(locked 2), by decide +kernel⟩,
    ⟨{ locked 2 with trk := { (up 2).trk with supFrozen := true } }, by decide +kernel⟩,
    ⟨up 0, by decide +kernel⟩,
    ⟨(locked 2).modWatch fun w => { w with claimed := some 0 }, by decide +kernel⟩,
    ⟨calibrating fun r => { r with overdue := true }, _, rfl, by decide +kernel⟩,
    ⟨{ tick0 := 1, dt0 := 1, temp := 0, trigger := 1, profile := 2, overdue := false, cfg := {}, ports := [7], clusters := [], channels := [], mask := 0 }, { port := 7, peak := 1000, noise := 1, second := 99 }, by decide +kernel⟩,
    ⟨calibrating fun r => { r with ports := [7] }, _, [{ port := 7, peak := 1000, noise := 1, second := 99 }], rfl, by decide +kernel⟩,
    ⟨calibrating fun r => { r with ports := [7] }, _, [{ port := 7, peak := 1000, noise := 1, second := 100 }], 4, 7, rfl, by decide +kernel, by decide +kernel, Or.inr (by decide +kernel)⟩,
    ⟨calibrating fun r => { r with released := true }, _, { delays := [], sums := [], dtp := [] }, _, rfl, by decide +kernel, by decide +kernel, by decide +kernel, rfl⟩,
    ⟨(locked 2).modCal fun c => { c with ready := some { trigger := 1, from_ := 5 } }, _, rfl, by decide +kernel⟩⟩

/-- The clauses of `Obligations.TimePulses` can be met. -/
theorem test_TimePulses :
    (∃ s : State, ∃ g : Fin 2, ∃ k : Generator, ∃ temp, ∃ w, ∃ m, ∃ rate, ∃ last, ∃ leaps, ∃ off, ∃ p, ∃ n, s.gen g.val = k ∧ s.domeService = true ∧ k.st = .locked ∧ k.after = none ∧ (∀ a ∈ k.announced, a.leading = true) ∧ s.trk.supRestart = none ∧ s.tp.holdover = none ∧ (s.glazeDtp g.val).takeLimit = w ∧ w.pulseMap temp = some (m, rate) ∧ k.ideal = some last ∧ w.scaleNow g.val m = (leaps, off) ∧ w.nextPulse g.val m rate off (clampInt (-1) 1 (leaps - k.leaps)) false last = p ∧ p.step = none ∧ (s.clk.edge (p.at_ - s.clk.nowPs)).1 = n ∧ 4 ≤ n) ∧
    (∃ s : State, ∃ g : Fin 2, ∃ k : Generator, s.gen g.val = k ∧ (∃ a ∈ k.announced, a.leading = false)) ∧
    (∃ s : State, ∃ g : Fin 2, ∃ k : Generator, ∃ a, ∃ r, s.gen g.val = k ∧ s.fast = true ∧ k.announced = a :: r ∧ a.leading = false ∧ a.tick ≤ s.clk.tick) ∧
    (∃ s : State, ∃ g : Fin 2, ∃ k : Generator, ∃ a, ∃ r, s.gen g.val = k ∧ s.fast = true ∧ k.announced = a :: r ∧ a.leading = true ∧ a.trailing ≤ s.clk.tick) ∧
    (∃ s : State, ∃ g : Fin 2, ∃ k : Generator, ∃ q, s.gen g.val = k ∧ s.domeService = true ∧ s.tp.holdover = none ∧ s.tp.last = some q ∧ s.pwr.profile ≠ 0 ∧ q.map.ref + 2 * second ≤ s.now) ∧
    (∃ s : State, ∃ g : Fin 2, ∃ k : Generator, ∃ q, s.gen g.val = k ∧ s.tp.last = some q ∧ s.now < q.map.ref + 2 * second) ∧
    (∃ s : State, ∃ g : Fin 2, ∃ k : Generator, ∃ temp, ∃ h, ∃ rate, s.gen g.val = k ∧ s.domeService = true ∧ (s.heatHoldover temp).tp.holdover = some h ∧ (s.heatHoldover temp).holdRate h temp = rate ∧ s.nav.mapSecond ≠ some ((({ h.map with rate := rate } : TimeMap).gps s.now / 2 ^ 32).toNat)) ∧
    (∃ s : State, ∃ g : Fin 2, ∃ k : Generator, ∃ h, s.gen g.val = k ∧ s.domeService = true ∧ s.tp.holdover = some h ∧ h.limit = false ∧ h.ref + s.tp.limit * second ≤ s.now) :=
  ⟨by refine ⟨((locked 2).modNav fun n => { n with map := some { ref := 85899345920, week := 0, tow := 100, frac := 0, rate := 0, bound := 5, qualified := true, holdover := false, newSegment := false, segment := 0 } }).modTp fun t => { t with gens := vset t.gens 1 { vget t.gens 1 with st := .locked, cfg := { en := true, scale := 0 }, ideal := some (20000000000000, 100000000) } }, 1, _, 0, _, { ref := 85899345920, week := 0, tow := 100, frac := 0, rate := 0, bound := 5, qualified := true, holdover := false, newSegment := false, segment := 0 }, 0, (20000000000000, 100000000), 0, 0, _, _, rfl, ?_, ?_, ?_, ?_, ?_, ?_, rfl, ?_, ?_, ?_, rfl, ?_, rfl, ?_⟩ <;> decide +kernel,
    ⟨(locked 2).modTp fun t => { t with gens := vset t.gens 1 { vget t.gens 1 with announced := [{ tick := 5, trailing := 6, no := 9, leading := false }] } }, 1, _, rfl, by decide +kernel⟩,
    ⟨(locked 2).modTp fun t => { t with gens := vset t.gens 1 { vget t.gens 1 with announced := [{ tick := 5, trailing := 6, no := 9, leading := false }] } }, 1, _, { tick := 5, trailing := 6, no := 9, leading := false }, [], rfl, by decide +kernel⟩,
    ⟨(locked 2).modTp fun t => { t with gens := vset t.gens 1 { vget t.gens 1 with announced := [{ tick := 5, trailing := 6, no := 9, leading := true }] } }, 1, _, { tick := 5, trailing := 6, no := 9, leading := true }, [], rfl, by decide +kernel⟩,
    ⟨(locked 2).modTp fun t => { t with gens := vset t.gens 1 { vget t.gens 1 with st := .locked }, last := some { map := { ref := 5, week := 0, tow := 100, frac := 0, rate := 0, bound := 5, qualified := true, holdover := false, newSegment := false, segment := 0 }, temp := 0 } }, 0, _, { map := { ref := 5, week := 0, tow := 100, frac := 0, rate := 0, bound := 5, qualified := true, holdover := false, newSegment := false, segment := 0 }, temp := 0 }, rfl, by decide +kernel⟩,
    ⟨(locked 2).modTp fun t => { t with gens := vset t.gens 1 { vget t.gens 1 with st := .locked }, last := some { map := { ref := 85899345920, week := 0, tow := 100, frac := 0, rate := 0, bound := 5, qualified := true, holdover := false, newSegment := false, segment := 0 }, temp := 0 } }, 0, _, { map := { ref := 85899345920, week := 0, tow := 100, frac := 0, rate := 0, bound := 5, qualified := true, holdover := false, newSegment := false, segment := 0 }, temp := 0 }, rfl, by decide +kernel⟩,
    ⟨((locked 2).modNav fun n => { n with map := some { ref := 85899345920, week := 0, tow := 100, frac := 0, rate := 0, bound := 5, qualified := true, holdover := false, newSegment := false, segment := 0 } }).modTp fun t => { t with gens := vset t.gens 1 { vget t.gens 1 with st := .locked }, holdover := some { ref := 5, rate := 0, bound := 3, temp := 0, rq := 1, map := { ref := 85899345920, week := 0, tow := 100, frac := 0, rate := 0, bound := 5, qualified := true, holdover := false, newSegment := false, segment := 0 } } }, 0, _, 0, _, _, rfl, by decide +kernel, some_of (by decide +kernel), rfl, by decide +kernel⟩,
    ⟨((locked 2).modNav fun n => { n with map := some { ref := 85899345920, week := 0, tow := 100, frac := 0, rate := 0, bound := 5, qualified := true, holdover := false, newSegment := false, segment := 0 } }).modTp fun t => { t with gens := vset t.gens 1 { vget t.gens 1 with st := .locked }, limit := 10, holdover := some { ref := 5, rate := 0, bound := 3, temp := 0, rq := 1, map := { ref := 85899345920, week := 0, tow := 100, frac := 0, rate := 0, bound := 5, qualified := true, holdover := false, newSegment := false, segment := 0 } } }, 0, _, { ref := 5, rate := 0, bound := 3, temp := 0, rq := 1, map := { ref := 85899345920, week := 0, tow := 100, frac := 0, rate := 0, bound := 5, qualified := true, holdover := false, newSegment := false, segment := 0 } }, rfl, by decide +kernel⟩⟩

/-- The clauses of `Obligations.UartLines` can be met. -/
theorem test_UartLines :
    (∃ s : State, ∃ u : Fin 8, ∃ r : Uart, ∃ v : List Bool, vget s.uarts u.val = r ∧ s.fast = true ∧ v.length < 2 * v.count true) ∧
    (∃ s : State, ∃ u : Fin 8, ∃ r : Uart, ∃ v : List Bool, vget s.uarts u.val = r ∧ s.fast = true ∧ u.val ≠ 6 ∧ r.rxen = true ∧ r.rxLine = none ∧ r.breakActive = false ∧ 2 * v.count true ≤ v.length) ∧
    (∃ s : State, ∃ u : Fin 8, ∃ r : Uart, ∃ ch : UartChar, ∃ l : LineSettings, ∃ n : Nat, ∃ level : Nat → Bool, vget s.uarts u.val = r ∧ s.fast = true ∧ u.val ≠ 6 ∧ r.rxLine = some l ∧ r.breakActive = false ∧ n = l.dataBits + l.parityBits ∧ (∀ i, level i = highBit (ch.bits.getD i [])) ∧ r.rxStart + l.span (16 * n + 25) ≤ s.now + l.slack ∧ (∀ i ≤ n, level i = false)) ∧
    (∃ s : State, ∃ u : Fin 8, ∃ r : Uart, ∃ ch : UartChar, ∃ l : LineSettings, ∃ n : Nat, ∃ level : Nat → Bool, vget s.uarts u.val = r ∧ s.fast = true ∧ u.val ≠ 6 ∧ r.rxLine = some l ∧ r.breakActive = false ∧ n = l.dataBits + l.parityBits ∧ (∀ i, level i = highBit (ch.bits.getD i [])) ∧ r.rxStart + l.span (16 * n + 25) ≤ s.now + l.slack ∧ (∃ i ≤ n, level i = true)) ∧
    (∃ s : State, ∃ u : Fin 8, ∃ r : Uart, ∃ l, vget s.uarts u.val = r ∧ s.fast = true ∧ u.val ≠ 6 ∧ r.rxLine = some l ∧ r.breakActive = true ∧ r.rx.length < 64) ∧
    (∃ s : State, ∃ u : Fin 8, ∃ r : Uart, vget s.uarts u.val = r ∧ s.fast = true ∧ u.val = 6) ∧
    (∃ s : State, ∃ u : Fin 8, ∃ r : Uart, vget s.uarts u.val = r ∧ s.fast = true ∧ u.val ≠ 6 ∧ r.shifter.isSome = true ∧ r.sending = none ∧ r.brkReq = none ∧ r.txStart + r.txLine.span (16 * r.txLine.charBits) ≤ s.now + r.txLine.slack) ∧
    (∃ s : State, ∃ u : Fin 8, ∃ r : Uart, ∃ b, vget s.uarts u.val = r ∧ s.fast = true ∧ r.sending = some b ∧ r.brkReq = none ∧ r.txStart + r.txLine.span (16 * (b.length + 1)) ≤ s.now + r.txLine.slack) ∧
    (∃ s : State, ∃ u : Fin 8, ∃ r : Uart, ∃ z : State, vget s.uarts u.val = r ∧ s.fast = true ∧ z.pwr.phase.watches = true ∧ z.wakeEnabled (6 + u.val) = true ∧ (u.val = 7 → z.pwr.phase = .sleep → (vget z.uarts 7).line.slow = false)) :=
  ⟨⟨{ up 2 with uarts := vset (up 2).uarts 7 { rxen := true, txen := true } }, 7, _, [true], rfl, by decide +kernel⟩,
    ⟨{ up 2 with uarts := vset (up 2).uarts 0 { rxen := true, txen := true } }, 0, _, [true, false], rfl, by decide +kernel⟩,
    ⟨{ up 2 with uarts := vset (up 2).uarts 0 { rxen := true, txen := true, rxLine := some {} } }, 0, _, ⟨[]⟩, _, _, fun _ => false, rfl, by decide +kernel, by decide +kernel, rfl, by decide +kernel, rfl, (fun _ => rfl), by decide +kernel⟩,
    ⟨{ up 2 with uarts := vset (up 2).uarts 5 { rxen := true, txen := true, rxLine := some {} } }, 5, _, ⟨[[true]]⟩, _, _, fun i => highBit (UartChar.bits ⟨[[true]]⟩ |>.getD i []), rfl, by decide +kernel, by decide +kernel, rfl, by decide +kernel, rfl, (fun _ => rfl), by decide +kernel, ⟨0, by decide +kernel⟩⟩,
    ⟨{ up 2 with uarts := vset (up 2).uarts 7 { rxen := true, txen := true, rxLine := some {}, breakActive := true } }, 7, _, _, rfl, by decide +kernel, by decide +kernel, rfl, by decide +kernel⟩,
    ⟨up 2, 6, _, rfl, by decide +kernel⟩,
    ⟨{ up 2 with uarts := vset (up 2).uarts 7 { rxen := true, txen := true, shifter := some 511 } }, 7, _, rfl, by decide +kernel⟩,
    ⟨{ up 2 with uarts := vset (up 2).uarts 7 { rxen := true, txen := true, sending := some { length := 13, cmd := none } } }, 7, _, { length := 13, cmd := none }, rfl, by decide +kernel⟩,
    ⟨up 2, 0, _, let z := { up 2 with uarts := vset (up 2).uarts 0 { wake := true } }; { z with pwr := { z.pwr with phase := .deep } }, rfl, by decide +kernel⟩⟩

/-- The clauses of `Obligations.CanBuses` can be met. -/
theorem test_CanBuses :
    (∃ s : State, ∃ m : Fin 2, ∃ c : Can, ∃ f, ∃ i, vget s.cans m.val = c ∧ s.canOn m.val = true ∧ c.mode ≠ 2 ∧ c.filter f = some i ∧ (c.rxProd - c.rxCons).toNat < 2 ^ c.rxLog2.toNat) ∧
    (∃ s : State, ∃ m : Fin 2, ∃ c : Can, ∃ f, ∃ i, vget s.cans m.val = c ∧ s.canOn m.val = true ∧ c.mode ≠ 2 ∧ c.filter f = some i ∧ 2 ^ c.rxLog2.toNat ≤ (c.rxProd - c.rxCons).toNat) ∧
    (∃ s : State, ∃ m : Fin 2, ∃ c : Can, ∃ f, vget s.cans m.val = c ∧ s.canOn m.val = true ∧ c.filter f = none) ∧
    (∃ s : State, ∃ m : Fin 2, ∃ c : Can, vget s.cans m.val = c ∧ s.canOn m.val = true ∧ c.mode = 2) ∧
    (∃ s : State, ∃ m : Fin 2, ∃ c : Can, vget s.cans m.val = c ∧ s.canOn m.val = true ∧ c.mode ≠ 1 ∧ (c.mode = 2 → c.filter (s.canTxFrame m.val) = none) ∧ c.txProd ≠ c.txCons ∧ s.canRejects m.val = false) ∧
    (∃ s : State, ∃ m : Fin 2, ∃ c : Can, ∃ i, vget s.cans m.val = c ∧ s.canOn m.val = true ∧ c.mode = 2 ∧ c.filter (s.canTxFrame m.val) = some i ∧ (c.rxProd - c.rxCons).toNat < 2 ^ c.rxLog2.toNat ∧ c.txProd ≠ c.txCons ∧ s.canRejects m.val = false) ∧
    (∃ s : State, ∃ m : Fin 2, ∃ c : Can, vget s.cans m.val = c ∧ s.canOn m.val = true ∧ c.mode = 0 ∧ c.txProd ≠ c.txCons) ∧
    (∃ s : State, ∃ m : Fin 2, ∃ c : Can, vget s.cans m.val = c ∧ s.canOn m.val = true ∧ c.state ≠ 2) ∧
    (∃ s : State, ∃ m : Fin 2, ∃ c : Can, vget s.cans m.val = c ∧ s.canOn m.val = true) ∧
    (∃ s : State, ∃ m : Fin 2, ∃ c : Can, vget s.cans m.val = c ∧ s.canOn m.val = true) ∧
    (∃ s : State, ∃ m : Fin 2, ∃ c : Can, ∃ z : State, ∃ k : Can, vget s.cans m.val = c ∧ s.canOn m.val = true ∧ vget z.cans m.val = k ∧ z.fast = true ∧ k.en = true ∧ k.state = 2 ∧ k.autoRecover = true) ∧
    (∃ s : State, ∃ m : Fin 2, ∃ c : Can, ∃ z : State, vget s.cans m.val = c ∧ s.canOn m.val = true ∧ z.canOn m.val = false) ∧
    (∃ s : State, ∃ m : Fin 2, ∃ c : Can, ∃ z : State, vget s.cans m.val = c ∧ s.canOn m.val = true ∧ z.pwr.phase.watches = true ∧ z.wakeEnabled (14 + m.val) = true) :=
  ⟨⟨{ up 2 with cans := vset (up 2).cans 1 { en := true, busIdle := true, rxProd := 15 } }, 1, _, { id := 3, ide := true, rtr := false, dlc := 0, fdf := false, brs := false, esi := false, data := [] }, 255, rfl, by decide +kernel⟩,
    ⟨{ up 2 with cans := vset (up 2).cans 1 { en := true, busIdle := true, rxProd := 16 } }, 1, _, { id := 3, ide := true, rtr := false, dlc := 0, fdf := false, brs := false, esi := false, data := [] }, 255, rfl, by decide +kernel⟩,
    ⟨{ up 2 with cans := vset (up 2).cans 1 { en := true, busIdle := true, filters := vset (Vector.replicate 32 {}) 31 { en := true } } }, 1, _, { id := 3, ide := true, rtr := false, dlc := 0, fdf := false, brs := false, esi := false, data := [] }, rfl, by decide +kernel⟩,
    ⟨{ up 2 with cans := vset (up 2).cans 1 { en := true, busIdle := true, mode := 2 } }, 1, _, rfl, by decide +kernel⟩,
    ⟨{ up 2 with cans := vset (up 2).cans 1 { en := true, busIdle := true, txProd := 1 } }, 1, _, rfl, by decide +kernel⟩,
    ⟨{ up 2 with cans := vset (up 2).cans 1 { en := true, busIdle := true, mode := 2, txProd := 1, filters := vset (Vector.replicate 32 {}) 0 { en := true, mask := 0 } } }, 1, _, 0, rfl, by decide +kernel⟩,
    ⟨{ up 2 with cans := vset (up 2).cans 1 { en := true, busIdle := true, txProd := 1 } }, 1, _, rfl, by decide +kernel⟩,
    ⟨{ up 2 with cans := vset (up 2).cans 1 { en := true, busIdle := true } }, 1, _, rfl, by decide +kernel⟩,
    ⟨{ up 2 with cans := vset (up 2).cans 1 { en := true, busIdle := true } }, 1, _, rfl, by decide +kernel⟩,
    ⟨{ up 2 with cans := vset (up 2).cans 1 { en := true, busIdle := true } }, 1, _, rfl, by decide +kernel⟩,
    ⟨{ up 2 with cans := vset (up 2).cans 1 { en := true, busIdle := true } }, 1, _, { up 2 with cans := vset (up 2).cans 1 { en := true, busIdle := true, state := 2, autoRecover := true } }, _, rfl, by decide +kernel, rfl, by decide +kernel⟩,
    ⟨{ up 2 with cans := vset (up 2).cans 1 { en := true, busIdle := true } }, 1, _, up 2, rfl, by decide +kernel⟩,
    ⟨{ up 2 with cans := vset (up 2).cans 1 { en := true, busIdle := true } }, 1, _, let z := { up 2 with cans := vset (up 2).cans 1 { wake := true } }; { z with pwr := { z.pwr with phase := .sleep } }, rfl, by decide +kernel⟩⟩

/-- The clauses of `Obligations.Engines` can be met. -/
theorem test_Engines :
    (∃ s : State, ∃ n : Fin 16, ∃ c, ∃ d, ∃ u, ∃ w, ∃ vs, s.fast = true ∧ s.dmaChoice = some n.val ∧ s.dmaCh n.val = c ∧ c.state = .active ∧ s.dma.owner = n.val ∧ (∀ m < 16, m ≠ n.val → (s.dmaCh m).state = .idle) ∧ c.desc = some d ∧ c.held = none ∧ c.k + c.burst d < d.count ∧ s.dmaReads n.val d c.k (c.burst d) = (u, vs, none) ∧ u.dmaWrites n.val d c.k vs = (w, true) ∧ (w.dmaCh n.val).state = .active ∧ (w.dmaCh n.val).k < d.count ∧ w.dmaReady n.val = true) ∧
    (∃ s : State, ∃ n : Fin 16, ∃ c, ∃ d, ∃ u, ∃ w, ∃ vs, s.fast = true ∧ s.dmaChoice = some n.val ∧ s.dmaCh n.val = c ∧ c.state = .active ∧ s.dma.owner = n.val ∧ (∀ m < 16, m ≠ n.val → (s.dmaCh m).state = .idle) ∧ c.desc = some d ∧ c.held = none ∧ c.k + c.burst d < d.count ∧ s.dmaReads n.val d c.k (c.burst d) = (u, vs, none) ∧ u.dmaWrites n.val d c.k vs = (w, true) ∧ d.srcIo = false ∧ d.dstIo = false ∧ d.req = 0 ∧ 0 < c.burst d) ∧
    (∃ s : State, ∃ n : Fin 16, ∃ c, ∃ d, ∃ u, ∃ e, s.fast = true ∧ s.dmaChoice = some n.val ∧ s.dmaCh n.val = c ∧ c.state = .active ∧ s.dma.owner = n.val ∧ (∀ m < 16, m ≠ n.val → (s.dmaCh m).state = .idle) ∧ c.desc = some d ∧ c.held = none ∧ c.k < d.count ∧ 0 < c.burst d ∧ d.srcIo = false ∧ s.dmaElement n.val d c.k = (u, .error e)) ∧
    (∃ s : State, ∃ n : Fin 4, ∃ r, s.fast = true ∧ vget s.timers n.val = r ∧ r.en = true ∧ s.reached r.cmp = true ∧ s.pwr.handoverTick = none) ∧
    (∃ s : State, ∃ n : Fin 4, ∃ r, vget s.timers n.val = r ∧ s.reached r.cmp = false) ∧
    (∃ s : State, ∃ n : Fin 16, ∃ c, s.fast = true ∧ vget s.pmon.counters n.val = c ∧ c.en = true ∧ s.pmon.freeze = false ∧ c.value = 0xFFFF_FFFF_FFFF) ∧
    (∃ s : State, ∃ n : Fin 4, ∃ r, ∃ d, vget s.ltimers n.val = r ∧ r.armed = some d ∧ d ≤ s.now ∧ s.pwr.phase = .running ∧ (n.val = 3 → s.pwr.profile ≠ 0)) ∧
    (∃ s : State, ∃ n : Fin 4, ∃ d, (vget s.ltimers n.val).armed = some d ∧ s.now < d) ∧
    (∃ s : State, ∃ x, s.fast = true ∧ s.mem.test = some x ∧ x.due ≤ s.now ∧ x.next < x.lastBlock) ∧
    (∃ s : State, ∃ x, s.fast = true ∧ s.mem.test = some x ∧ x.due ≤ s.now ∧ x.next = x.lastBlock ∧ x.failed = 0) ∧
    (∃ s : State, ∃ g, ∃ x, s.fast = true ∧ (s.mem.scrubs.find? (fun y => y.target == g) = some x) ∧ x.start + us 100 ≤ s.now) ∧
    (∃ s : State, s.fast = true ∧ s.boot.stage = 2 ∧ s.boot.toClear = true) :=
  ⟨by refine ⟨moving id, 15, _, _, _, _, _, ?_, ?_, rfl, ?_, ?_, ?_, rfl, ?_, ?_, reads_of (by decide +kernel), writes_of (by decide +kernel), ?_⟩ <;> decide +kernel,
    by refine ⟨moving id, 15, _, _, _, _, _, ?_, ?_, rfl, ?_, ?_, ?_, rfl, ?_, ?_, reads_of (by decide +kernel), writes_of (by decide +kernel), ?_⟩ <;> decide +kernel,
    by refine ⟨moving fun d => { d with src := 0x7000000 }, 15, _, _, _, _, ?_, ?_, rfl, ?_, ?_, ?_, rfl, ?_, ?_, ?_, ?_, err_of (by decide +kernel)⟩ <;> decide +kernel,
    ⟨{ up 2 with timers := vset (up 2).timers 3 { en := true, cmp := 0x3B9ACA00 } }, 3, _, by decide +kernel, rfl, by decide +kernel⟩,
    ⟨{ up 2 with timers := vset (up 2).timers 3 { en := true, cmp := 0x3B9ACA01 } }, 3, _, rfl, by decide +kernel⟩,
    ⟨{ up 2 with pmon := { (up 2).pmon with counters := vset (up 2).pmon.counters 15 { en := true, value := 0xFFFFFFFFFFFF } } }, 15, _, by decide +kernel, rfl, by decide +kernel⟩,
    ⟨{ up 0 with ltimers := vset (up 2).ltimers 2 { (vget (up 2).ltimers 2) with armed := some 85899345920 } }, 2, _, 85899345920, rfl, by decide +kernel⟩,
    ⟨{ up 0 with ltimers := vset (up 2).ltimers 2 { (vget (up 2).ltimers 2) with armed := some 85899345921 } }, 2, 85899345921, by decide +kernel⟩,
    ⟨{ up 1 with mem := { (up 1).mem with test := some { lastBlock := 5, next := 4, cmd := 9, due := 0 } } }, { lastBlock := 5, next := 4, cmd := 9, due := 0 }, by decide +kernel⟩,
    ⟨{ up 1 with mem := { (up 1).mem with test := some { lastBlock := 5, next := 5, cmd := 9, due := 0 } } }, { lastBlock := 5, next := 5, cmd := 9, due := 0 }, by decide +kernel⟩,
    ⟨{ up 2 with mem := { (up 2).mem with scrubs := [{ target := 7, cmd := none, start := 5 }] } }, 7, { target := 7, cmd := none, start := 5 }, by decide +kernel⟩,
    ⟨{ up 2 with boot := { (up 2).boot with stage := 2, toClear := true } }, by decide +kernel⟩⟩

/-- The clauses of `Obligations.SealEvents` can be met. -/
theorem test_SealEvents :
    (∃ s : State, s.domeService = true ∧ s.pwr.phase = .running ∧ s.pwr.entry = none ∧ s.sealed.state = .sealed) ∧
    (∃ s : State, s.pwr.phase = .running ∧ s.sealed.state ≠ .sealed) ∧
    (∃ s : State, ∃ r, ∃ l, s.domeService = true ∧ s.pwr.lowSupply = false ∧ s.sealed.due = r :: l) ∧
    (∃ s : State, s.domeService = true ∧ s.sealed.integrating = true ∧ s.sealed.commitDt + 60 * second ≤ s.now) ∧
    (∃ s : State, ∃ d, s.sealed.u6Last = some d ∧ d + 60 * second ≤ s.now) ∧
    (∃ s : State, s.domeUp = true ∧ s.sealed.u6Resync = true) ∧
    (∃ s : State, ∃ b, ∃ st, ∃ d, s.domeUp = true ∧ s.sealed.u6Resync = false ∧ u6Checks s b = some (st, d)) ∧
    (∃ s : State, ∃ b, s.domeUp = true ∧ s.sealed.u6Resync = false ∧ u6Checks s b = none ∧ (parseHeader b).opcode = 0x0B0B ∧ (parseHeader b).noReply = false) ∧
    (∃ s : State, ∃ l, ∃ c, ∃ ok, s.drumImages.load = some l ∧ l.check = some c ∧ ok = true ∧ getLe l.bytes 0 4 = 0x4D555244 ∧ getLe l.bytes 4 4 = 2 ∧ covered l.got l.length = true ∧ s.drumImages.fused ≤ getLe l.bytes 16 4 ∧ sha256 l.bytes = l.sha) ∧
    (∃ s : State, ∃ l, ∃ c, s.drumImages.load = some l ∧ l.check = some c ∧ getLe l.bytes 0 4 = 0x4D555244 ∧ getLe l.bytes 4 4 = 2 ∧ covered l.got l.length = true) ∧
    (∃ s : State, ∃ l, ∃ c, s.domeImages.load = some l ∧ l.check = some c) ∧
    (∃ s : State, ∃ l, ∃ c, ∃ d, s.zoneLoad = some l ∧ l.check = some c ∧ l.zoneFault = some d) ∧
    (∃ s : State, ∃ l, ∃ c, s.zoneLoad = some l ∧ l.check = some c ∧ l.zoneFault = none) :=
  ⟨⟨(up 2).modSeal fun v => { v with state := .sealed, loopOpen := false }, by decide +kernel⟩,
    ⟨(up 2), by decide +kernel⟩,
    ⟨(up 2).modSeal fun v => { v with due := [{ kind := 1, cause := 1, dt := 5, flags := 0, verdict := 0, body := [] }] }, _, _, by decide +kernel, by decide +kernel, rfl⟩,
    ⟨{ up 2 with clk := { (up 2).clk with acc := 61 * 2 ^ 40 }, sealed := { (up 2).sealed with integrating := true } }, by decide +kernel⟩,
    ⟨{ up 2 with clk := { (up 2).clk with acc := 61 * 2 ^ 40 }, sealed := { (up 2).sealed with u6Last := some 5 } }, 5, by decide +kernel⟩,
    ⟨(up 2).modSeal fun v => { v with u6Resync := true }, by decide +kernel⟩,
    ⟨(up 2), [0], _, _, by decide +kernel, by decide +kernel, rfl⟩,
    ⟨(up 2), packetBytes 0x0B0B 0 5 0 0 0 [], by decide +kernel⟩,
    ⟨{ up 2 with drumImages := { (up 2).drumImages with load := some { length := 20, sha := sha256 (le 4 0x4D555244 ++ le 4 2 ++ zeros 8 ++ le 4 9), data := cells (le 4 0x4D555244 ++ le 4 2 ++ zeros 8 ++ le 4 9), got := [(0, 20)], check := some 3 } } }, _, 3, true, rfl, by decide +kernel⟩,
    ⟨{ up 2 with drumImages := { (up 2).drumImages with load := some { length := 20, sha := sha256 (le 4 0x4D555244 ++ le 4 2 ++ zeros 8 ++ le 4 9), data := cells (le 4 0x4D555244 ++ le 4 2 ++ zeros 8 ++ le 4 9), got := [(0, 20)], check := some 3 } } }, _, 3, rfl, by decide +kernel⟩,
    ⟨{ up 2 with domeImages := { (up 2).domeImages with load := some { length := 20, sha := sha256 (le 4 0x4D555244 ++ le 4 2 ++ zeros 8 ++ le 4 9), data := cells (le 4 0x4D555244 ++ le 4 2 ++ zeros 8 ++ le 4 9), got := [(0, 20)], check := some 3 } } }, _, 3, rfl, by decide +kernel⟩,
    ⟨{ up 2 with zoneLoad := some { length := 0, sha := [], counts := [0, 0], check := some 3 } }, _, 3, 16, rfl, by decide +kernel⟩,
    ⟨{ up 2 with zoneLoad := some { length := 0, sha := sha256 [], counts := [0, 0], check := some 3 } }, _, 3, rfl, by decide +kernel⟩⟩

/-- The clauses of `Obligations.Entries` can be met. -/
theorem test_Entries :
    (∃ s : State, ∃ e, ∃ p : Fin 9, ∃ q : Fin 9, ∃ d, s.pwr.phase = .handshake ∧ s.pwr.entry = some e ∧ vget e.answers p.val = .asked d ∧ s.refusal p.val e.req.target = none ∧ s.delays p.val = false ∧ q ≠ p ∧ vget e.answers q.val ≠ .granted) ∧
    (∃ s : State, ∃ e, ∃ f, ∃ p : Fin 9, ∃ d, s.pwr.phase = .handshake ∧ s.pwr.entry = some e ∧ vget e.answers p.val = .asked d ∧ s.refusal p.val e.req.target = none ∧ s.delays p.val = false ∧ (∀ q : Fin 9, q ≠ p → vget e.answers q.val = .granted) ∧ f = { e with answers := vset e.answers p.val .granted, delays := spanMs (s.now - e.accepted) }) ∧
    (∃ s : State, ∃ e, ∃ p : Fin 9, ∃ d, ∃ r, s.pwr.phase = .handshake ∧ s.pwr.entry = some e ∧ vget e.answers p.val = .asked d ∧ s.refusal p.val e.req.target = some r ∧ s.pwr.pendingReq = none ∧ s.pwr.pendingProfile = none) ∧
    (∃ s : State, ∃ e, ∃ p : Fin 9, ∃ d, ∃ n, s.pwr.phase = .handshake ∧ s.pwr.entry = some e ∧ vget e.answers p.val = .asked d ∧ s.delayAllowed p.val n = true) ∧
    (∃ s : State, ∃ e, ∃ p : Fin 9, ∃ d, s.pwr.phase = .handshake ∧ s.pwr.entry = some e ∧ vget e.answers p.val = .asked d ∧ d + ms 10 ≤ s.now ∧ (∀ (q : Fin 9) c, q < p → vget e.answers q.val = .asked c → s.now < c + ms 10) ∧ s.pwr.pendingReq = none ∧ s.pwr.pendingProfile = none) ∧
    (∃ s : State, ∃ e, ∃ p : Fin 9, ∃ d, s.pwr.phase = .handshake ∧ s.pwr.entry = some e ∧ vget e.answers p.val = .delayed d ∧ d ≤ s.now) ∧
    (∃ s : State, ∃ e, ∃ p : Fin 9, ∃ d, s.pwr.phase = .handshake ∧ s.pwr.entry = some e ∧ vget e.answers p.val = .delayed d ∧ e.accepted + ms e.req.delayMax ≤ s.now ∧ (∀ (q : Fin 9) c, q < p → vget e.answers q.val ≠ .delayed c) ∧ s.pwr.pendingReq = none ∧ s.pwr.pendingProfile = none) ∧
    (∃ s : State, ∃ e, s.pwr.phase = .committed ∧ s.pwr.entry = some e ∧ e.req.target = .sleep) ∧
    (∃ s : State, ∃ e, ∃ src, s.pwr.phase = .isolating ∧ s.pwr.entry = some e ∧ 3 ≤ s.pwr.slow ∧ src ∈ levelSources ∧ s.levelAsserted src = true ∧ s.wakeEnabled src = true) ∧
    (∃ s : State, ∃ e, s.pwr.phase = .isolating ∧ s.pwr.entry = some e ∧ 3 ≤ s.pwr.slow ∧ (∀ src, src ∈ levelSources → s.levelAsserted src = true → s.wakeEnabled src = false) ∧ e.req.target = .sleep ∧ s.pwr.wakeEvent = none) ∧
    (∃ s : State, ∃ e, s.pwr.phase = .isolating ∧ s.pwr.entry = some e ∧ 3 ≤ s.pwr.slow ∧ (∀ src, src ∈ levelSources → s.levelAsserted src = true → s.wakeEnabled src = false) ∧ (e.req.target = .deep ∨ e.req.target = .off) ∧ s.rlink.seq = none) ∧
    (∃ s : State, ∃ e, s.pwr.phase = .isolating ∧ s.pwr.entry = some e ∧ s.pwr.slow < 3) ∧
    (∃ s : State, s.pwr.phase = .sleep ∧ s.wakeEnabled 1 = true) ∧
    (∃ s : State, s.pwr.phase = .sleep ∧ s.wakeEnabled 3 = true) ∧
    (∃ s : State, ∃ l : LaneId, s.pwr.phase = .sleep ∧ s.wakeEnabled (4 + l.num) = true) ∧
    (∃ s : State, ∃ src, ∃ w, s.pwr.phase = .turningOff ∧ s.wakeEnabled src = true ∧ s.pwr.wakeEvent = w) ∧
    (∃ s : State, ∃ r, s.pwr.profileReq = some r ∧ s.domeService = true ∧ s.pwr.profile ≠ 0 ∧ s.atEpoch = true ∧ s.domainsReady r.profile = true ∧ s.rlink.point (profilePoint r.profile) ≤ s.rlink.volts) ∧
    (∃ s : State, ∃ d : Fin 10, ∃ p, (s.pwr.powerUps.find? (fun u => u.domain == d.val + 1) = some p) ∧ p.started + upTime (d.val + 1) ≤ s.now) ∧
    (∃ s : State, ∃ c : Fin 4, s.domeService = true ∧ s.poweredOn (5 + c.val) = true ∧ s.boot.clustersTested.toNat.testBit c.val = false ∧ vget s.boot.testFrom c.val + ms 150 ≤ s.now) ∧
    (∃ s : State, s.domeService = true ∧ s.atEpoch = true ∧ s.boot.complete = false ∧ s.boot.stageFiveDone = true ∧ s.domainsReady s.startupProfile = true ∧ (∀ c < 4, s.poweredOn (5 + c) = true → s.boot.clustersTested.toNat.testBit c = true) ∧ s.portsReady s.startupProfile = true) ∧
    (∃ s : State, ∃ d, s.boot.retryAt = some d ∧ d ≤ s.now ∧ s.domeService = true ∧ s.boot.stageFiveDone = false) :=
  ⟨⟨entering .handshake .off 8 (.asked 5) (.asked 5) (id), _, 8, 0, 5, by decide +kernel, rfl, by decide +kernel⟩,
    by refine ⟨entering .handshake .deep 0 (.asked 5) (.granted) (id), _, _, 0, 5, ?_, rfl, ?_, ?_, ?_, ?_, rfl⟩ <;> decide +kernel,
    ⟨entering .handshake .sleep 2 (.asked 5) (.granted) (fun q => { q with veto := 1 }), _, 2, 5, 2, by decide +kernel, rfl, by decide +kernel⟩,
    ⟨entering .handshake .sleep 8 (.asked 5) (.granted) (id), _, 8, 5, 255, by decide +kernel, rfl, by decide +kernel⟩,
    ⟨entering .handshake .sleep 0 (.asked 5) (.granted) (id), _, 0, 5, by decide +kernel, rfl, by decide +kernel, by decide +kernel, (by intro q c h; exact absurd h (by simp)), by decide +kernel⟩,
    ⟨entering .handshake .sleep 8 (.delayed 85899345920) (.granted) (id), _, 8, 85899345920, by decide +kernel, rfl, by decide +kernel⟩,
    ⟨entering .handshake .sleep 0 (.delayed 185899345920) (.granted) (id), _, 0, 185899345920, by decide +kernel, rfl, by decide +kernel, by decide +kernel, (by intro q c h; exact absurd h (by simp)), by decide +kernel⟩,
    ⟨entering .committed .sleep 0 (.granted) (.granted) (id), _, by decide +kernel, rfl, by decide +kernel⟩,
    ⟨entering .isolating .sleep 0 (.granted) (.granted) (fun q => { q with slow := 3, wakePin := true }), _, 1, by decide +kernel, rfl, by decide +kernel⟩,
    ⟨entering .isolating .sleep 0 (.granted) (.granted) (fun q => { q with slow := 3 }), _, by decide +kernel, rfl, by decide +kernel⟩,
    ⟨entering .isolating .off 0 (.granted) (.granted) (fun q => { q with slow := 3 }), _, by decide +kernel, rfl, by decide +kernel⟩,
    ⟨entering .isolating .off 0 (.granted) (.granted) (fun q => { q with slow := 2 }), _, by decide +kernel, rfl, by decide +kernel⟩,
    ⟨entering .sleep .sleep 0 (.granted) (.granted) (id), by decide +kernel⟩,
    ⟨entering .sleep .sleep 0 (.granted) (.granted) (id), by decide +kernel⟩,
    ⟨entering .sleep .sleep 0 (.granted) (.granted) (id), .chu, by decide +kernel⟩,
    ⟨entering .turningOff .deep 0 (.granted) (.granted) (id), 12, none, by decide +kernel⟩,
    ⟨(up 2).modPwr fun q => { q with profileReq := some { profile := 1, cmd := none } }, _, rfl, by decide +kernel⟩,
    ⟨(up 2).modPwr fun q => { q with powerUps := [{ domain := 10, started := 5 }] }, 9, _, rfl, by decide +kernel⟩,
    ⟨(up 2), 3, by decide +kernel⟩,
    ⟨(locked 2).modBoot fun b => { b with complete := false, clustersTested := 15 }, by decide +kernel⟩,
    ⟨(locked 2).modBoot fun b => { b with stageFiveDone := false, retryAt := some 5 }, 5, by decide +kernel⟩⟩

/-- The clauses of `Obligations.Regulator` can be met. -/
theorem test_Regulator :
    (∃ s : State, ∃ q, s.rlink.seq = some q ∧ q.at_ = .page) ∧
    (∃ s : State, ∃ q, s.rlink.seq = some q ∧ q.at_ = .main ∧ q.purpose ≠ .stageOneMode ∧ q.purpose ≠ .stageOneVolt) ∧
    (∃ s : State, ∃ q, s.rlink.seq = some q ∧ q.at_ = .main ∧ q.purpose = .stageOneMode ∧ s.rlink.queue = []) ∧
    (∃ s : State, ∃ q, s.rlink.seq = some q ∧ q.at_ = .main ∧ q.purpose = .stageOneVolt ∧ s.rlink.outputOn = false ∧ s.rlink.queue = [] ∧ s.rlink.state ≠ 3) ∧
    (∃ s : State, ∃ q, s.rlink.seq = some q ∧ q.retries < 3) ∧
    (∃ s : State, ∃ q, s.rlink.seq = some q ∧ q.retries < 3 ∧ q.at_ = .ack ∧ q.stop + us (100 * q.cfg.timeout.toNat) ≤ s.now) ∧
    (∃ s : State, ∃ q, s.rlink.seq = some q ∧ q.retries = 3 ∧ q.purpose = .wakeOn ∧ s.rlink.queue = [] ∧ s.rlink.state ≠ 3) ∧
    (∃ s : State, ∃ q, s.rlink.seq = some q ∧ q.retries = 3 ∧ q.purpose = .entryOff ∧ s.rlink.queue = [] ∧ s.rlink.state ≠ 3) ∧
    (∃ s : State, ∃ q, s.rlink.seq = some q ∧ q.at_ = .ack ∧ q.purpose = .stageOneOn ∧ s.rlink.queue = [] ∧ s.rlink.state ≠ 3 ∧ q.cfg.ackSrc ≠ 1) ∧
    (∃ s : State, ∃ q, s.rlink.seq = some q ∧ q.at_ = .ack ∧ q.purpose = .stageOneOn ∧ s.rlink.queue = [] ∧ s.rlink.state ≠ 3 ∧ q.cfg.ackSrc = 1) ∧
    (∃ s : State, ∃ q, ∃ w : BitVec 16, s.rlink.seq = some q ∧ q.at_ = .ack ∧ q.purpose = .stageOneOn ∧ s.rlink.queue = [] ∧ s.rlink.state ≠ 3 ∧ q.cfg.ackSrc ≠ 0 ∧ w.toNat.testBit 11 = false) ∧
    (∃ s : State, ∃ q, ∃ w : BitVec 16, s.rlink.seq = some q ∧ q.at_ = .ack ∧ q.purpose = .stageOneOn ∧ s.rlink.queue = [] ∧ s.rlink.state ≠ 3 ∧ q.cfg.ackSrc ≠ 0 ∧ w.toNat.testBit 11 = true) ∧
    (∃ s : State, ∃ q, s.rlink.seq = some q ∧ q.at_ = .ack ∧ q.purpose = .wakeOn ∧ s.rlink.queue = [] ∧ s.rlink.state ≠ 3 ∧ q.cfg.ackSrc ≠ 1) ∧
    (∃ s : State, ∃ q, s.rlink.seq = some q) ∧
    (∃ s : State, ∃ q, s.rlink.seq = some q ∧ q.at_ = .ack ∧ q.cfg.ackSrc ≠ 0) ∧
    (∃ s : State, ∃ d, ∃ w, s.rlink.retryAt = some d ∧ d ≤ s.now ∧ s.rlink.seq = none ∧ s.pwr.phase = .deep ∧ s.pwr.wakeEvent = some w) ∧
    (∃ s : State, ∃ d, s.rlink.retryAt = some d ∧ d ≤ s.now ∧ s.rlink.seq = none ∧ s.pwr.phase = .lantern) :=
  ⟨⟨linked (.setVcore 3 1) .page (id), _, rfl, by decide +kernel⟩,
    ⟨linked .profileRaise .main (id), _, rfl, by decide +kernel⟩,
    ⟨linked .stageOneMode .main (id), _, rfl, by decide +kernel⟩,
    ⟨linked .stageOneVolt .main (fun r => { r with outputOn := false }), _, rfl, by decide +kernel⟩,
    ⟨linked .stageFive .main (fun r => { r with seq := r.seq.map fun (q : RSequence) => { q with retries := 2 } }), _, rfl, by decide +kernel⟩,
    ⟨linked .stageFive .ack (fun r => { r with seq := r.seq.map fun (q : RSequence) => { q with retries := 2, stop := 5 } }), _, rfl, by decide +kernel⟩,
    ⟨linked .wakeOn .main (fun r => { r with seq := r.seq.map fun (q : RSequence) => { q with retries := 3 } }), _, rfl, by decide +kernel⟩,
    ⟨linked .entryOff .main (fun r => { r with seq := r.seq.map fun (q : RSequence) => { q with retries := 3 } }), _, rfl, by decide +kernel⟩,
    ⟨linked .stageOneOn .ack (fun r => { r with seq := r.seq.map fun (q : RSequence) => { q with cfg := { ackSrc := 0 } } }), _, rfl, by decide +kernel⟩,
    ⟨linked .stageOneOn .ack (fun r => { r with seq := r.seq.map fun (q : RSequence) => { q with cfg := { ackSrc := 1 } } }), _, rfl, by decide +kernel⟩,
    ⟨linked .stageOneOn .ack (id), _, 0xF7FF, rfl, by decide +kernel⟩,
    ⟨linked .stageOneOn .ack (id), _, 0x0800, rfl, by decide +kernel⟩,
    ⟨linked .wakeOn .ack (id), _, rfl, by decide +kernel⟩,
    ⟨linked .entryOff .ack (id), _, rfl⟩,
    ⟨linked .entryOff .ack (id), _, rfl, by decide +kernel⟩,
    ⟨(up 2).modPwr (fun q => { q with phase := .deep, wakeEvent := some ⟨1, 5, false⟩ }) |>.modRlink fun r => { r with retryAt := some 5 }, 5, _, by decide +kernel, by decide +kernel, by decide +kernel, by decide +kernel, rfl⟩,
    ⟨(up 2).modPwr (fun q => { q with phase := .lantern }) |>.modRlink fun r => { r with retryAt := some 5 }, 5, by decide +kernel⟩⟩

/-- The clauses of `Obligations.ClocksAndSupply` can be met. -/
theorem test_ClocksAndSupply :
    (∃ s : State, s.pwr.phase = .waking) ∧
    (∃ s : State, s.pwr.phase = .locked ∧ s.pwr.entry = none) ∧
    (∃ s : State, ∃ e, ∃ w, s.pwr.phase = .locked ∧ s.pwr.entry = some e ∧ e.failure = none ∧ e.req.target = .sleep ∧ s.pwr.wakeEvent = some w ∧ s.pwr.lostBanks = []) ∧
    (∃ s : State, ∃ e, ∃ f, s.pwr.phase = .locked ∧ s.pwr.entry = some e ∧ e.failure = some f ∧ f.reason = 6) ∧
    (∃ s : State, s.fast = true) ∧
    (∃ s : State, s.fast = false) ∧
    (∃ s : State, s.pwr.phase = .refclkLost ∧ s.pwr.entry = none) ∧
    (∃ s : State, s.pwr.lowSupply = false ∧ s.fast = false ∧ s.pwr.phase ≠ .unpowered ∧ s.pwr.phase ≠ .off ∧ s.pwr.phase ≠ .isolating) ∧
    (∃ s : State, ∃ e, s.pwr.lowSupply = false ∧ s.pwr.phase = .isolating ∧ s.pwr.entry = some e) ∧
    (∃ s : State, s.pwr.lowSupply = false ∧ s.domeService = true) ∧
    (∃ s : State, s.pwr.lowSupply = false ∧ s.domeService = true ∧ s.pwr.entry = none ∧ s.cal.run = none) ∧
    (∃ s : State, s.pwr.lowSupply = true ∧ s.pwr.entry = none) ∧
    (∃ s : State, ∃ off, (s.pwr.phase = (if off = true then .off else .unpowered))) ∧
    (∃ s : State, ∃ off, (s.pwr.phase ≠ (if off = true then .off else .unpowered))) :=
  ⟨⟨(up 2).modPwr fun q => { q with phase := .waking }, by decide +kernel⟩,
    ⟨(up 2).modPwr fun q => { q with phase := .locked }, by decide +kernel⟩,
    ⟨entering .locked .sleep 0 (.granted) (.granted) (fun q => { q with wakeEvent := some ⟨1, 5, false⟩ }), _, _, by decide +kernel, rfl, by decide +kernel, by decide +kernel, rfl, by decide +kernel⟩,
    ⟨entering .locked .off 0 (.granted) (.granted) (fun q => { q with entry := q.entry.map fun (e : Entry) => { e with failure := some ⟨6, 1, 5, false⟩ } }), _, _, by decide +kernel, rfl, rfl, by decide +kernel⟩,
    ⟨up 2, by decide +kernel⟩,
    ⟨(up 2).modPwr fun q => { q with phase := .sleep }, by decide +kernel⟩,
    ⟨(up 2).modPwr fun q => { q with phase := .refclkLost }, by decide +kernel⟩,
    ⟨(up 2).modPwr fun q => { q with phase := .deep }, by decide +kernel⟩,
    ⟨entering .isolating .sleep 0 (.granted) (.granted) (id), _, by decide +kernel, by decide +kernel, rfl⟩,
    ⟨up 2, by decide +kernel⟩,
    ⟨up 2, by decide +kernel⟩,
    ⟨(up 2).modPwr fun q => { q with lowSupply := true }, by decide +kernel⟩,
    ⟨(up 2).modPwr fun q => { q with phase := .off }, true, by decide +kernel⟩,
    ⟨up 2, false, by decide +kernel⟩⟩

/-- The clauses of `Obligations.Resets` can be met. -/
theorem test_Resets :
    (∃ s : State, s.boot.drum = .images ∧ s.fast = true ∧ s.drumImages.now.valid = true ∧ s.drumImages.fused ≤ s.drumImages.now.rollback ∧ (∀ d, s.drumImages.trial = some d → s.now ≤ d)) ∧
    (∃ s : State, s.boot.drum = .images ∧ s.fast = true ∧ s.boot.drumRejects = 0) ∧
    (∃ s : State, s.boot.drum = .images ∧ s.fast = true ∧ s.boot.drumRejects = 1) ∧
    (∃ s : State, s.boot.dome = .images ∧ s.fast = true ∧ s.domeImages.now.valid = true ∧ s.domeImages.fused ≤ s.domeImages.now.rollback ∧ (∀ d, s.domeImages.trial = some d → s.now ≤ d)) ∧
    (∃ s : State, s.boot.dome = .images ∧ s.fast = true ∧ s.boot.rejected = []) ∧
    (∃ s : State, s.pwr.phase = .running) ∧
    (∃ s : State, (s.pwr.phase = .unpowered ∨ s.pwr.phase = .off)) ∧
    (∃ s : State, ∃ p, s.domePlan = some p) ∧
    (∃ s : State, s.domePlan = none) ∧
    (∃ s : State, ∃ p, s.drumPlan = some p) ∧
    (∃ s : State, s.drumPlan = none) ∧
    (∃ s : State, s.fast = true ∧ s.boot.dome ≠ .lantern ∧ s.boot.resetDt + ms 250 ≤ s.now ∧ s.domeImages.trial = none) ∧
    (∃ s : State, ∃ d, s.fast = true ∧ s.boot.dome ≠ .lantern ∧ s.boot.resetDt + ms 250 ≤ s.now ∧ s.domeImages.trial = some d) ∧
    (∃ s : State, s.wdtExpired 0 = true ∧ s.drumImages.trial = none) ∧
    (∃ s : State, s.wdtExpired 0 = false) ∧
    (∃ s : State, ∃ n : Fin 3, n.val ≠ 0 ∧ s.wdtExpired n.val = true) :=
  ⟨⟨(up 2).modBoot fun b => { b with drum := .images }, by decide +kernel, by decide +kernel, by decide +kernel, by decide +kernel, (by intro d h; cases h)⟩,
    ⟨(up 2).modBoot fun b => { b with drum := .images }, by decide +kernel⟩,
    ⟨(up 2).modBoot fun b => { b with drum := .images, drumRejects := 1 }, by decide +kernel⟩,
    ⟨(up 2).modBoot fun b => { b with dome := .images }, by decide +kernel, by decide +kernel, by decide +kernel, by decide +kernel, (by intro d h; cases h)⟩,
    ⟨(up 2).modBoot fun b => { b with dome := .images }, by decide +kernel⟩,
    ⟨up 2, by decide +kernel⟩,
    ⟨(up 2).modPwr fun q => { q with phase := .off }, by decide +kernel⟩,
    ⟨{ up 2 with interp := { (up 2).interp with plans := [{ source := 1, dome := some 1000000000, drum := none, reply := none }] } }, _, rfl⟩,
    ⟨up 2, by decide +kernel⟩,
    ⟨{ up 2 with interp := { (up 2).interp with plans := [{ source := 1, dome := none, drum := some 1000000000, reply := none }] } }, _, rfl⟩,
    ⟨up 2, by decide +kernel⟩,
    ⟨up 2, by decide +kernel⟩,
    ⟨{ up 2 with domeImages := { (up 2).domeImages with trial := some 5 } }, 5, by decide +kernel⟩,
    ⟨{ up 2 with wdts := vset (up 2).wdts 0 { en := true } }, by decide +kernel⟩,
    ⟨{ up 2 with wdts := vset (up 2).wdts 0 { en := false } }, by decide +kernel⟩,
    ⟨{ up 2 with wdts := vset (up 2).wdts 2 { en := true } }, 2, by decide +kernel⟩⟩

/-- The clauses of `Obligations.EmptyQueueEndsTick` can be met. -/
theorem test_EmptyQueueEndsTick :
    (∃ s : State, s.pending = [] ∧ (s.pwr.phase = .unpowered ∨ s.pwr.phase = .off)) ∧
    (∃ s : State, s.pending = [] ∧ s.fast = false ∧ s.pwr.phase ≠ .unpowered ∧ s.pwr.phase ≠ .off) ∧
    (∃ s : State, s.pending = [] ∧ s.fast = true) :=
  ⟨⟨off, by decide +kernel, Or.inr (by decide +kernel)⟩,
    ⟨(up 2).modPwr fun q => { q with phase := .sleep }, by decide +kernel⟩,
    ⟨up 2, by decide +kernel⟩⟩

/-- The clauses of `Obligations.TimeRates` can be met. -/
theorem test_TimeRates :
    (∃ c : Clock, ∃ k : Nat, c.phase < 81840000 ∧ 73067776 + c.steer = k ∧ k ≤ 163680000) ∧
    (∃ c : Clock, c.phase < 81840000 ∧ 0 ≤ 73067776 + c.steer ∧ 73067776 + c.steer ≤ 163680000) ∧
    (∃ c : Clock, c.phase < 81840000 ∧ 0 ≤ 73067776 + c.steer ∧ 73067776 + c.steer ≤ 163680000 ∧ c.steer ≤ 8772224) ∧
    (∃ c : Clock, c.phase < 81840000 ∧ 0 ≤ 73067776 + c.steer ∧ 73067776 + c.steer ≤ 163680000 ∧ 8772224 ≤ c.steer) ∧
    (∃ c : Clock, c.phase < 81840000 ∧ c.steer = 0) ∧
    (∃ c : Clock, c.slowPhase < 32768) :=
  ⟨⟨{ epoch := 1, steer := -73067776 }, 0, by decide +kernel⟩,
    ⟨{ epoch := 1, steer := -73067776 }, by decide +kernel⟩,
    ⟨{ epoch := 1, steer := 8772224 }, by decide +kernel⟩,
    ⟨{ epoch := 1, steer := 90612224 }, by decide +kernel⟩,
    ⟨{ epoch := 1, phase := 81839999 }, by decide +kernel⟩,
    ⟨{ epoch := 1, slowPhase := 32767 }, by decide +kernel⟩⟩

/-- The clauses of `Obligations.ResetState` can be met. -/
theorem test_ResetState :
    (∃ s : State, s = State.reset) ∧
    (∃ s : State, s = State.reset) ∧
    (∃ s : State, ∃ n, n < 4 ∧ s = State.reset) ∧
    (∃ s : State, ∃ n, n < 16 ∧ s = State.reset) ∧
    (∃ s : State, ∃ n, n < 64 ∧ s = State.reset) ∧
    (∃ s : State, ∃ n, n < 3 ∧ s = State.reset) ∧
    (∃ s : State, ∃ p, p < 8 ∧ s = State.reset) ∧
    (∃ s : State, ∃ k, s = State.reset ∧ 0 < k ∧ k < 18) ∧
    (∃ s : State, ∃ a, a < 0x400000 ∧ s = State.reset) :=
  ⟨⟨State.reset, rfl⟩,
    ⟨State.reset, rfl⟩,
    ⟨State.reset, 3, by decide +kernel, rfl⟩,
    ⟨State.reset, 15, by decide +kernel, rfl⟩,
    ⟨State.reset, 63, by decide +kernel, rfl⟩,
    ⟨State.reset, 2, by decide +kernel, rfl⟩,
    ⟨State.reset, 7, by decide +kernel, rfl⟩,
    ⟨State.reset, 17, rfl, by decide +kernel⟩,
    ⟨State.reset, 4194303, by decide +kernel, rfl⟩⟩

/-- The clauses of `Obligations.MemoryCanonical` can be met. -/
theorem test_MemoryCanonical :
    (∃ s : State, ∃ t : State, s.memoryWf = true ∧ step s = .next t) :=
  ⟨up 2, _, by decide +kernel, next_of (by decide +kernel)⟩

/-- The clauses of `Obligations.TimeQueueAndAudit` can be met. -/
theorem test_TimeQueueAndAudit :
    (∃ c : Instr, ∃ q : List Instr, ∃ s : State, ∃ t : State, s.pending = c :: q ∧ step s = .next t) ∧
    (∃ c : Instr, ∃ q : List Instr, ∃ s : State, ∃ t : State, s.pending = c :: q ∧ step s = .next t ∧ (∀ a b, c ≠ .coldStart a b)) ∧
    (∃ run : Nat → State, ∃ n : Nat, (∀ k < n, step (run k) = .next (run (k + 1))) ∧ (∀ k, vget (run 0).sealed.counters k < 2 ^ 32)) ∧
    (∃ run : Nat → State, ∃ n : Nat, ∃ k : Nat, (∀ k < n, step (run k) = .next (run (k + 1))) ∧ (∀ k, vget (run 0).sealed.counters k < 2 ^ 32)) :=
  ⟨⟨.u6ActiveTimeout, _, awaiting .u6ActiveTimeout, _, rfl, next_of (by decide +kernel)⟩,
    ⟨.u6ActiveTimeout, _, awaiting .u6ActiveTimeout, _, rfl, next_of (by decide +kernel), (by intro a b h; cases h)⟩,
    ⟨fun _ => off, 5, fun _ _ => rfl, off_counters⟩,
    ⟨fun _ => off, 5, 17, fun _ _ => rfl, off_counters⟩⟩

/-- The clauses of `Obligations.FinialFrames` can be met. -/
theorem test_FinialFrames :
    (∃ i : Instr, ∃ c : CoreId, ∃ s : State, ∃ t : State, ownRow i = some c ∧ (s.core c.val).sr.getLsbD 3 = false ∧ exec i s = .next t) ∧
    (∃ i : Instr, ∃ c : CoreId, ∃ s : State, ∃ t : State, ∃ k : CoreId, ownRow i = some c ∧ (s.core c.val).sr.getLsbD 3 = false ∧ exec i s = .next t ∧ k ≠ c) ∧
    (∃ i : Instr, ∃ c : CoreId, ∃ s : State, ∃ t : State, ∃ k : Core, ∃ m : Core, plainRow i = some c ∧ s.core c.val = k ∧ k.sr.getLsbD 3 = false ∧ exec i s = .next t ∧ t.core c.val = m) ∧
    (∃ i : Instr, ∃ c : CoreId, ∃ s : State, ∃ t : State, ∃ k : Core, ∃ m : Core, plainRow i = some c ∧ s.core c.val = k ∧ k.sr.getLsbD 3 = false ∧ exec i s = .next t ∧ t.core c.val = m ∧ m.sr.getLsbD 3 = false) ∧
    (∃ i : Instr, ∃ c : CoreId, ∃ s : State, ∃ t : State, ∃ k : Core, ∃ m : Core, ∃ b, plainRow i = some c ∧ s.core c.val = k ∧ k.sr.getLsbD 3 = false ∧ exec i s = .next t ∧ t.core c.val = m ∧ m.sr.getLsbD 3 = false ∧ (¬ (10 ≤ b ∧ b < 14))) ∧
    (∃ i : Instr, ∃ c : CoreId, ∃ n : Nat, ∃ chk : Option Nat, ∃ ea : Core → Word, ∃ s : State, ∃ t : State, storing i = some (c, n, chk, ea) ∧ s.Issues c.val ∧ chk = none ∧ (s.core c.val).sr.getLsbD 3 = false ∧ exec i s = .next t) ∧
    (∃ i : Instr, ∃ c : CoreId, ∃ n : Nat, ∃ chk : Option Nat, ∃ ea : Core → Word, ∃ s : State, ∃ t : State, ∃ k : CoreId, storing i = some (c, n, chk, ea) ∧ s.Issues c.val ∧ chk = none ∧ (s.core c.val).sr.getLsbD 3 = false ∧ exec i s = .next t ∧ k ≠ c) ∧
    (∃ i : Instr, ∃ c : CoreId, ∃ n : Nat, ∃ chk : Option Nat, ∃ ea : Core → Word, ∃ s : State, ∃ t : State, ∃ la, ∃ u, ∃ pa, ∃ p, storing i = some (c, n, chk, ea) ∧ s.Issues c.val ∧ chk = none ∧ (s.core c.val).sr.getLsbD 3 = false ∧ exec i s = .next t ∧ (s.fetched c.val).linear c.val (ea (s.at_ c.val)) n = .ok la ∧ c.val < 3 ∧ (s.fetched c.val).corePhys c.val la .store = (u, .ok pa) ∧ placeOf pa = some p) ∧
    (∃ i : Instr, ∃ c : CoreId, ∃ n : Nat, ∃ chk : Option Nat, ∃ ea : Core → Word, ∃ s : State, ∃ t : State, ∃ la, ∃ u, ∃ pa, ∃ p, ∃ m, ∃ a, m ∈ [0, 2, 3, 4] ∧ storing i = some (c, n, chk, ea) ∧ s.Issues c.val ∧ chk = none ∧ (s.core c.val).sr.getLsbD 3 = false ∧ exec i s = .next t ∧ (s.fetched c.val).linear c.val (ea (s.at_ c.val)) n = .ok la ∧ c.val < 3 ∧ (s.fetched c.val).corePhys c.val la .store = (u, .ok pa) ∧ placeOf pa = some p ∧ (m ≠ p.mem ∨ a < p.off ∨ p.off + n ≤ a)) ∧
    (∃ i : Instr, ∃ c : CoreId, ∃ n : Nat, ∃ chk : Option Nat, ∃ ea : Core → Word, ∃ s : State, ∃ t : State, ∃ la, ∃ m, m ∈ [0, 2, 3, 4] ∧ storing i = some (c, n, chk, ea) ∧ s.Issues c.val ∧ chk = none ∧ (s.core c.val).sr.getLsbD 3 = false ∧ exec i s = .next t ∧ (s.fetched c.val).linear c.val (ea (s.at_ c.val)) n = .ok la ∧ 3 ≤ c.val) ∧
    (∃ i : Instr, ∃ c : CoreId, ∃ n : Nat, ∃ chk : Option Nat, ∃ ea : Core → Word, ∃ s : State, ∃ t : State, ∃ la, ∃ a, storing i = some (c, n, chk, ea) ∧ s.Issues c.val ∧ chk = none ∧ (s.core c.val).sr.getLsbD 3 = false ∧ exec i s = .next t ∧ (s.fetched c.val).linear c.val (ea (s.at_ c.val)) n = .ok la ∧ 3 ≤ c.val ∧ (a < la.toNat ∨ la.toNat + n ≤ a)) :=
  ⟨⟨.pop 7 327680, 7, running id, _, rfl, by decide +kernel, next_of (by decide +kernel)⟩,
    ⟨.pop 7 327680, 7, running id, _, 0, rfl, by decide +kernel, next_of (by decide +kernel), by decide +kernel⟩,
    ⟨.add 7 8912896, 7, running id, _, _, _, rfl, rfl, by decide +kernel, next_of (by decide +kernel), rfl⟩,
    ⟨.add 7 8912896, 7, running id, _, _, _, rfl, rfl, by decide +kernel, next_of (by decide +kernel), rfl, by decide +kernel⟩,
    ⟨.add 7 8912896, 7, running id, _, _, _, 14, rfl, rfl, by decide +kernel, next_of (by decide +kernel), rfl, by decide +kernel⟩,
    ⟨.stb 7 12779519, 7, _, _, _, running id, _, rfl, ⟨by decide +kernel, by decide +kernel, by decide +kernel⟩, by decide +kernel, by decide +kernel, next_of (by decide +kernel)⟩,
    ⟨.stb 7 12779519, 7, _, _, _, running id, _, 0, rfl, ⟨by decide +kernel, by decide +kernel, by decide +kernel⟩, by decide +kernel, by decide +kernel, next_of (by decide +kernel), by decide +kernel⟩,
    ⟨.stb 2 12779519, 2, _, _, _, running id, _, _, _, _, _, rfl, ⟨by decide +kernel, by decide +kernel, by decide +kernel⟩, by decide +kernel, by decide +kernel, next_of (by decide +kernel), ok_of (by decide +kernel), by decide +kernel, okPair_of (by decide +kernel), some_of (by decide +kernel)⟩,
    by refine ⟨.stb 2 12779519, 2, _, _, _, running id, _, _, _, _, _, 4, 0, ?_, rfl, ⟨by decide +kernel, by decide +kernel, by decide +kernel⟩, ?_, ?_, next_of (by decide +kernel), ok_of (by decide +kernel), ?_, okPair_of (by decide +kernel), some_of (by decide +kernel), ?_⟩ <;> decide +kernel,
    ⟨.stb 7 12779519, 7, _, _, _, running id, _, _, 4, by decide +kernel, rfl, ⟨by decide +kernel, by decide +kernel, by decide +kernel⟩, by decide +kernel, by decide +kernel, next_of (by decide +kernel), ok_of (by decide +kernel), by decide +kernel⟩,
    ⟨.stb 7 12779519, 7, _, _, _, running id, _, _, 0xFFFFF, rfl, ⟨by decide +kernel, by decide +kernel, by decide +kernel⟩, by decide +kernel, by decide +kernel, next_of (by decide +kernel), ok_of (by decide +kernel), by decide +kernel⟩⟩

end Sys2Proof.Tests
end

/-! # Accesses, traps and loops of the Finial cores

The attempt of an access, the entry of a trap and the double trap; then O27, O20 and O18. -/

namespace Sys2Proof.Machine

/-! ## What the attempt of an access leaves behind -/

/-- `t` differs from `s` at most in what the attempt of an access leaves behind: ECC marks and error counts, TLB entries,
performance counts and drawn values. The cores and the bytes of every memory are those of `s`. -/
structure State.Attempted (s t : State) : Prop where
  cores : t.cores = s.cores
  bytes : ∀ m, t.placeBytes m = s.placeBytes m

theorem State.Attempted.refl (s : State) : s.Attempted s := ⟨rfl, fun _ => rfl⟩

theorem State.Attempted.trans {s t u : State} (h : s.Attempted t) (g : t.Attempted u) : s.Attempted u :=
  ⟨g.cores.trans h.cores, fun m => (g.bytes m).trans (h.bytes m)⟩

theorem State.Attempted.core {s t : State} (h : s.Attempted t) (c : Nat) : t.core c = s.core c := by
  unfold State.core
  rw [h.cores]

theorem State.attempted_count (s : State) (n : Nat) : s.Attempted (s.count n) := ⟨rfl, fun _ => rfl⟩

theorem State.attempted_modMmu (s : State) (n : Nat) (f : Mmu → Mmu) : s.Attempted (s.modMmu n f) := ⟨rfl, fun _ => rfl⟩

theorem State.attempted_eccRead (s : State) (e : EccMark) (pa : Nat) : s.Attempted (s.modMem fun m => m.eccRead e pa) := by
  refine ⟨rfl, fun m => ?_⟩
  unfold State.placeBytes State.modMem Mem.eccRead
  cases e.double <;> rfl

theorem State.attempted_eccFound (s : State) (e : EccMark) (pa : Nat) : s.Attempted (s.eccFound e pa) := by
  have h := s.attempted_eccRead e pa
  unfold State.eccFound
  dsimp only
  split
  · exact h.trans (State.attempted_count ..)
  · exact h

theorem State.attempted_eccCheck (s : State) (p : Place) (pa : Nat) : s.Attempted (s.eccCheck p pa).1 := by
  unfold State.eccCheck
  split
  · exact .refl s
  · exact s.attempted_eccFound _ pa

theorem State.attempted_loadPlace (s : State) (p : Place) (pa n : Nat) : s.Attempted (s.loadPlace p pa n).1 := by
  have h := s.attempted_eccCheck p pa
  unfold State.loadPlace
  dsimp only
  split <;> exact h

theorem State.attempted_physRead (s : State) (pa n : Nat) : s.Attempted (s.physRead pa n).1 := by
  unfold State.physRead
  split
  · exact .refl s
  · exact s.attempted_loadPlace _ pa n

/-- A store that fails has written no byte. -/
theorem State.attempted_storePlace {s u : State} {p : Place} {pa : Nat} {bs : List Byte} {e : PhysFault}
    (h : s.storePlace p pa bs = (u, .error e)) : s.Attempted u := by
  unfold State.storePlace at h
  dsimp only at h
  split at h
  case isTrue => cases h; exact .refl s
  case isFalse =>
    cases hw : bs.length == 4 && p.alias_ == 0 <;> simp only [hw, if_true, if_false, Bool.false_eq_true] at h
    · split at h
      · cases h; exact s.attempted_eccCheck p pa
      · cases h
    · cases h

theorem State.attempted_physWrite {s u : State} {pa : Nat} {bs : List Byte} {e : PhysFault}
    (h : s.physWrite pa bs = (u, .error e)) : s.Attempted u := by
  unfold State.physWrite at h
  split at h
  · cases h; exact .refl s
  · exact State.attempted_storePlace h

theorem State.attempted_tlbInsert (s : State) (n : Nat) (e : TlbEntry) : s.Attempted (s.tlbInsert n e) := by
  unfold State.tlbInsert State.draw
  dsimp only
  split <;> exact ⟨rfl, fun _ => rfl⟩

theorem State.attempted_tableWord (s : State) (page index : Nat) : s.Attempted (s.tableWord page index).1 := by
  have h := s.attempted_physRead (page * 4096 + index * 4) 4
  unfold State.tableWord
  split
  · exact .refl s
  · split <;> rename_i e <;> rw [e] at h <;> exact h

theorem State.attempted_walk (s : State) (n va : Nat) : s.Attempted (s.walk n va).1 := by
  have h1 := s.attempted_tableWord (vget s.mmus n).root.toNat (va / 2 ^ 22)
  unfold State.walk
  dsimp only
  split <;> rename_i e1 <;> rw [e1] at h1
  · exact h1
  · rename_i t l1
    have h2 := h1.trans (t.attempted_tableWord (l1 / 4096) (va / 4096 % 1024))
    split
    · exact h1
    · split <;> rename_i e2 <;> rw [e2] at h2
      · exact h2
      · split <;> exact h2

theorem State.attempted_translate (s : State) (n va priv : Nat) (write : Bool) : s.Attempted (s.translate n va priv write).1 := by
  have h := (s.attempted_count (8 + n)).trans ((s.count (8 + n)).attempted_walk n va)
  unfold State.translate
  dsimp only
  split
  · exact .refl s
  · split
    · split <;> exact .refl s
    · split <;> rename_i e <;> rw [e] at h
      · exact h
      · split
        · exact h.trans (State.attempted_tlbInsert ..)
        · exact h

theorem State.attempted_corePhys (s : State) (c : Nat) (va : Word) (k : Kind) : s.Attempted (s.corePhys c va k).1 := by
  have h := s.attempted_translate c va.toNat (s.core c).priv (k == .store)
  unfold State.corePhys
  dsimp only
  split
  · exact .refl s
  · split <;> rename_i e <;> rw [e] at h
    · exact h
    · exact h
    · exact h
    · split <;> exact h

/-- A load, granted or not, changes no core and no byte of memory. -/
theorem State.attempted_coreLoad (s : State) (c : Nat) (ea : Word) (size : Nat) : s.Attempted (s.coreLoad c ea size).1 := by
  unfold State.coreLoad
  dsimp only
  split
  · exact .refl s
  · rename_i la _
    split
    · have h := s.attempted_loadPlace ⟨1, la.toNat, 0⟩ la.toNat size
      split <;> rename_i e <;> rw [e] at h <;> exact h
    · have h1 := s.attempted_corePhys c la .load
      split <;> rename_i e1 <;> rw [e1] at h1
      · exact h1
      · rename_i t pa
        have h2 := h1.trans (t.attempted_physRead pa size)
        split <;> rename_i e2 <;> rw [e2] at h2 <;> exact h2

/-- A store that traps has changed no core and no byte of memory. -/
theorem State.attempted_coreStore {s u : State} {c : Nat} {ea : Word} {size : Nat} {v : Word} {x : Trap}
    (h : s.coreStore c ea size v = (u, .error x)) : s.Attempted u := by
  unfold State.coreStore at h
  dsimp only at h
  split at h
  · cases h; exact .refl s
  · rename_i la _
    split at h
    · split at h
      · cases h
      · rename_i e; cases h; exact State.attempted_storePlace e
    · have h1 := s.attempted_corePhys c la .store
      split at h <;> rename_i e1 <;> rw [e1] at h1
      · cases h; exact h1
      · split at h
        · cases h
        · rename_i e2; cases h; exact h1.trans (State.attempted_physWrite e2)

/-- A fetch changes no core and no byte of memory. -/
theorem State.attempted_fetchTrap (s : State) (c : Nat) (pc : BitVec 24) : s.Attempted (s.fetchTrap c pc).1 := by
  unfold State.fetchTrap
  dsimp only
  split
  · exact .refl s
  · split
    · exact .refl s
    · split
      · exact .refl s
      · split
        · split
          · exact s.attempted_eccCheck _ _
          · exact .refl s
        · exact .refl s

@[simp] theorem State.placeBytes_fetched (s : State) (c m : Nat) : (s.fetched c).placeBytes m = s.placeBytes m :=
  (State.attempted_fetchTrap ..).bytes m

/-- An access to an address off its size's multiple, outside the segments, is unaligned (15 R532). -/
theorem State.linear_unaligned {s : State} {c size : Nat} {ea : Word} (hs : (s.core c).sr.getLsbD 8 = false) (h : ea.toNat % size ≠ 0) :
    s.linear c ea size = .error ⟨6, size, ea⟩ := by
  unfold State.linear
  simp only [hs, Bool.false_and, Bool.false_eq_true, if_false]
  exact if_pos h

theorem State.coreLoad_unaligned {s : State} {c size : Nat} {ea : Word} (hs : (s.core c).sr.getLsbD 8 = false) (h : ea.toNat % size ≠ 0) :
    s.coreLoad c ea size = (s, .error ⟨6, size, ea⟩) := by
  unfold State.coreLoad
  rw [State.linear_unaligned hs h]

theorem State.coreStore_unaligned {s : State} {c size : Nat} {ea v : Word} (hs : (s.core c).sr.getLsbD 8 = false) (h : ea.toNat % size ≠ 0) :
    s.coreStore c ea size v = (s, .error ⟨6, size, ea⟩) := by
  unfold State.coreStore
  rw [State.linear_unaligned hs h]

end Sys2Proof.Machine

namespace Sys2Proof.Machine

/-! ## The entry of a trap (15 R533–R535) -/

/-- A pending load lands in A, X or Y, and the slot is free; nothing else changes. -/
theorem Core.landSlot_frame (k : Core) :
    k.landSlot = { k with a := k.landSlot.a, x := k.landSlot.x, y := k.landSlot.y, slot := none } := by
  unfold Core.landSlot Core.land
  split
  · rename_i h; rw [← h]
  · dsimp only; split_ifs <;> rfl

@[simp] theorem Core.landSlot_dsp (k : Core) : k.landSlot.dsp = k.dsp := by rw [Core.landSlot_frame]
@[simp] theorem Core.landSlot_sr (k : Core) : k.landSlot.sr = k.sr := by rw [Core.landSlot_frame]
@[simp] theorem Core.landSlot_ls (k : Core) : k.landSlot.ls = k.ls := by rw [Core.landSlot_frame]
@[simp] theorem Core.landSlot_lc (k : Core) : k.landSlot.lc = k.lc := by rw [Core.landSlot_frame]
@[simp] theorem Core.landSlot_tvec (k : Core) : k.landSlot.tvec = k.tvec := by rw [Core.landSlot_frame]
@[simp] theorem Core.landSlot_slot (k : Core) : k.landSlot.slot = none := by rw [Core.landSlot_frame]

/-- A field of a word whose bits are all clear is 0. -/
theorem field_eq_zero {w : Word} {lo n : Nat} (h : ∀ j < n, w.getLsbD (lo + j) = false) : w.toNat / 2 ^ lo % 2 ^ n = 0 := by
  apply Nat.eq_of_testBit_eq
  intro j
  by_cases hj : j < n
  · have := h j hj
    simp_all [Nat.testBit_mod_two_pow, Nat.testBit_div_two_pow, BitVec.getLsbD, Nat.add_comm]
  · simp [Nat.testBit_mod_two_pow, hj]

section
variable (k : Core) (cause detail : Nat) (addr : Word) (tpc : BitVec 24) (rep : Option Word) (ipl : Option Nat)

@[simp] theorem Core.enter_a : (k.enter cause detail addr tpc rep ipl).a = k.landSlot.a := rfl
@[simp] theorem Core.enter_slot : (k.enter cause detail addr tpc rep ipl).slot = none := k.landSlot_slot
@[simp] theorem Core.enter_dsp : (k.enter cause detail addr tpc rep ipl).dsp = k.dsp := k.landSlot_dsp
@[simp] theorem Core.enter_ls : (k.enter cause detail addr tpc rep ipl).ls = k.ls := k.landSlot_ls
@[simp] theorem Core.enter_lc : (k.enter cause detail addr tpc rep ipl).lc = k.lc := k.landSlot_lc
@[simp] theorem Core.enter_tpc : (k.enter cause detail addr tpc rep ipl).tpc = tpc := rfl
@[simp] theorem Core.enter_taddr : (k.enter cause detail addr tpc rep ipl).taddr = addr := rfl

@[simp] theorem Core.enter_tcause :
    (k.enter cause detail addr tpc rep ipl).tcause = BitVec.ofNat 32 (cause + detail % 256 * 256) := rfl

@[simp] theorem Core.enter_pc : (k.enter cause detail addr tpc rep ipl).pc = k.tvec + BitVec.ofNat 24 (4 * cause) :=
  congrArg (· + BitVec.ofNat 24 (4 * cause)) k.landSlot_tvec

/-- A synchronous trap sets EXL and clears PRIV, IE and the loop levels; the other bits of SR stay (15 R535). -/
theorem Core.enter_sr_bit (j : Nat) :
    (k.enter cause detail addr tpc rep none).sr.getLsbD j =
      (decide (j = 3) || k.sr.getLsbD j && decide (j ∉ [0, 1, 2, 10, 11, 12, 13])) := by
  have h : (k.enter cause detail addr tpc rep none).sr = (k.sr &&& ~~~(0x3C07 : Word)) ||| 8 := by
    simp [Core.enter]
  rw [h]
  by_cases hj : j < 32
  · interval_cases j <;> simp
  · simp [BitVec.getLsbD_of_ge _ j (by omega : 32 ≤ j)]
    omega

/-- Outside a REP, TSR keeps SR with its REP bit clear (15 R535). -/
theorem Core.enter_tsr_bit (j : Nat) :
    (k.enter cause detail addr tpc none ipl).tsr.getLsbD j = (k.sr.getLsbD j && decide (j ≠ 14)) := by
  have h : (k.enter cause detail addr tpc none ipl).tsr = k.sr &&& ~~~(0x4000 : Word) := by
    simp [Core.enter]
  rw [h]
  by_cases hj : j < 32
  · interval_cases j <;> simp
  · simp [BitVec.getLsbD_of_ge _ j (by omega : 32 ≤ j)]

theorem Core.enter_exl : (k.enter cause detail addr tpc rep none).sr.getLsbD 3 = true := by
  rw [Core.enter_sr_bit]; rfl

theorem Core.enter_ie : (k.enter cause detail addr tpc rep none).sr.getLsbD 2 = false := by
  rw [Core.enter_sr_bit]; simp

theorem Core.enter_priv : (k.enter cause detail addr tpc rep none).sr.toNat % 4 = 0 := by
  have h : ∀ j < 2, (k.enter cause detail addr tpc rep none).sr.getLsbD (0 + j) = false := by
    intro j hj
    rw [Core.enter_sr_bit]
    interval_cases j <;> simp
  simpa using field_eq_zero h

theorem Core.enter_loops : (k.enter cause detail addr tpc rep none).sr.toNat / 1024 % 16 = 0 := by
  refine field_eq_zero (lo := 10) (n := 4) fun j hj => ?_
  rw [Core.enter_sr_bit]
  interval_cases j <;> simp

theorem Core.enter_tsr_rep : (k.enter cause detail addr tpc none ipl).tsr.getLsbD 14 = false := by
  rw [Core.enter_tsr_bit]; simp
end

/-- Counting a trap leaves its core. -/
theorem State.core_trapCount (s : State) (c : Nat) : (if c < 3 then s.count (12 + c) else s).core c = s.core c := by
  split <;> rfl

section
variable {s u : State} {c : Nat} (x : Trap) (p : BitVec 24) (r : Option Word)

/-- With EXL clear a trap is counted and enters the vector of its core (15 R533). -/
theorem State.trap_taken (hx : (s.core c).sr.getLsbD 3 = false) :
    s.trap c x p r = (if c < 3 then s.count (12 + c) else s).modCore c fun k => k.enter x.cause x.detail x.addr p r none := by
  unfold State.trap
  dsimp only
  rw [State.core_trapCount, hx, if_neg Bool.false_ne_true]

/-- A trap while EXL is 1 is counted and is a double trap (15 R536). -/
theorem State.trap_double (hx : (s.core c).sr.getLsbD 3 = true) :
    s.trap c x p r = (if c < 3 then s.count (12 + c) else s).doubleTrap c := by
  unfold State.trap
  dsimp only
  rw [State.core_trapCount, hx, if_pos rfl]

theorem State.core_trap (hc : c < 8) (hx : (s.core c).sr.getLsbD 3 = false) :
    (s.trap c x p r).core c = (s.core c).enter x.cause x.detail x.addr p r none := by
  rw [State.trap_taken x p r hx, State.core_modCore _ _ hc, State.core_trapCount]

theorem State.placeBytes_trap (hx : (s.core c).sr.getLsbD 3 = false) (m : Nat) : (s.trap c x p r).placeBytes m = s.placeBytes m := by
  rw [State.trap_taken x p r hx]
  split <;> rfl

/-- The trap of an instruction whose operation has only attempted an access: the core enters from the state of its issue. -/
theorem State.Attempted.core_trap (h : (s.fetched c).Attempted u) (hc : c < 8) (hx : (s.at_ c).sr.getLsbD 3 = false) :
    (u.trap c x p r).core c = (s.at_ c).enter x.cause x.detail x.addr p r none := by
  have hk : u.core c = s.at_ c := h.core c
  rw [State.core_trap x p r hc (hk ▸ hx), hk]

theorem State.Attempted.placeBytes_trap (h : (s.fetched c).Attempted u) (hx : (s.at_ c).sr.getLsbD 3 = false) (m : Nat) :
    (u.trap c x p r).placeBytes m = s.placeBytes m := by
  have hk : u.core c = s.at_ c := h.core c
  rw [State.placeBytes_trap x p r (hk ▸ hx), h.bytes, State.placeBytes_fetched]
end

/-! ## The reset of a double trap (15 R536, R542, 19 R618) -/

theorem forUpto_succ {σ : Type} (n : Nat) (f : Nat → σ → σ) (s : σ) : forUpto (n + 1) f s = f n (forUpto n f s) := by
  unfold forUpto
  rw [List.range_succ, List.foldl_append]
  rfl

/-- What a run of writes to the places `d` to `d + n - 1` leaves in one of them. -/
theorem vget_forUpto_vset {α : Type} [Inhabited α] {z d j : Nat} (g : Nat → α) (v : Vector α z) :
    ∀ {n : Nat}, j < n → j + d < z → vget (forUpto n (fun k v => vset v (k + d) (g k)) v) (j + d) = g j
  | 0, hn, _ => absurd hn (Nat.not_lt_zero j)
  | n + 1, hn, hz => by
    rw [forUpto_succ]
    by_cases h : j = n
    · rw [h, vget_vset_same _ _ (h ▸ hz)]
    · rw [vget_vset_other _ _ (by omega), vget_forUpto_vset g v (by omega) hz]

theorem coreAt_bare (n : Nat) (entry : BitVec 24) (held : Bool) : (coreAt n entry held).bare = true := by
  unfold coreAt Core.bare
  dsimp only
  split <;> decide

theorem State.core_coreReset (s : State) {n : Nat} (source : Nat) (h : n < 8) : (s.coreReset n source).core n = coreAt n 0xFF0080 false :=
  vget_vset_same _ _ h

/-- A reset of the Drum starts each of its cores at the boot ROM (19 R620). -/
theorem State.core_drumReset (s : State) (source : Nat) {n : Nat} (h : n < 3) : (s.drumReset source).core n = coreAt n 0xFF0000 false :=
  vget_forUpto_vset (d := 0) (fun k => coreAt k 0xFF0000 false) _ h (by omega)

/-- A reset of the Dome starts each of its pairs at the boot ROM (19 R629). -/
theorem State.core_domeReset (s : State) (source : Nat) (withDrum : Bool) {n : Nat} (h : n < 5) :
    (s.domeReset source withDrum).core (n + 3) = coreAt (n + 3) 0xFF0000 false :=
  vget_forUpto_vset (d := 3) (fun k => coreAt (k + 3) 0xFF0000 false) _ h (by omega)

/-- A reset of a Drum that is not already in one has its own source (19 R618). -/
theorem State.srcDrum_drumReset {s : State} (source : Nat) (h : s.boot.drum ≠ .images) : (s.drumReset source).boot.srcDrum = source := by
  have h' : (s.boot.drum == .images) = false := by simpa using h
  unfold State.drumReset
  simp only [h', Bool.false_and, Bool.false_eq_true, if_false]

theorem State.domeSource_domeReset {s : State} (source : Nat) (withDrum : Bool) (h : s.boot.dome ≠ .images) :
    (s.domeReset source withDrum).boot.domeSource = source := by
  have h' : (s.boot.dome == .images) = false := by simpa using h
  unfold State.domeReset
  simp only [h', Bool.false_and, Bool.false_eq_true, if_false]

theorem State.core_drumFailure (s : State) (source : Nat) {n : Nat} (h : n < 3) : (s.drumFailure source).core n = coreAt n 0xFF0000 false := by
  unfold State.drumFailure
  split <;> exact State.core_drumReset _ _ h

theorem State.core_domeFailure (s : State) (source : Nat) {n : Nat} (h : n < 5) :
    (s.domeFailure source).core (n + 3) = coreAt (n + 3) 0xFF0000 false := by
  unfold State.domeFailure
  split <;> exact State.core_domeReset _ _ _ h

/-- The double trap resets its core into Bare mode: D1 and D2 alone, D0 with the Drum, a pair with the Dome. -/
theorem State.core_doubleTrap (s : State) {c : Nat} (h : c < 8) :
    (s.doubleTrap c).core c = coreAt c (if c = 1 ∨ c = 2 then 0xFF0080 else 0xFF0000) false := by
  unfold State.doubleTrap
  by_cases h0 : c = 0
  · subst h0
    exact s.core_drumFailure 10 (by omega)
  by_cases h2 : c ≤ 2
  · rw [if_neg h0, if_pos h2, if_pos (by omega)]
    exact s.core_coreReset 13 h
  · obtain ⟨n, rfl⟩ : ∃ n, c = n + 3 := ⟨c - 3, by omega⟩
    rw [if_neg h0, if_neg h2, if_neg (by omega)]
    exact s.core_domeFailure 4 (by omega)

theorem State.srcD1_doubleTrap (s : State) : (s.doubleTrap 1).boot.srcD1 = 13 := rfl

theorem State.srcD2_doubleTrap (s : State) : (s.doubleTrap 2).boot.srcD2 = 13 := rfl

/-- With no new image on trial, the source of the Drum's reset is the double trap of D0. -/
theorem State.srcDrum_doubleTrap {s : State} (ht : s.drumImages.trial = none) (h : s.boot.drum ≠ .images) :
    (s.doubleTrap 0).boot.srcDrum = 10 := by
  unfold State.doubleTrap State.drumFailure
  rw [if_pos rfl, ht]
  exact State.srcDrum_drumReset 10 h

/-- With no new image on trial, the source of the Dome's reset is the double trap of a pair. -/
theorem State.domeSource_doubleTrap {s : State} {c : Nat} (hc : 3 ≤ c) (ht : s.domeImages.trial = none) (h : s.boot.dome ≠ .images) :
    (s.doubleTrap c).boot.domeSource = 4 := by
  unfold State.doubleTrap State.domeFailure
  rw [if_neg (by omega), if_neg (by omega), ht]
  exact State.domeSource_domeReset 4 false h

end Sys2Proof.Machine

namespace Sys2Proof.Machine

/-! ## Trap entry -/

theorem checkZ_reserved {f : BitVec 26} (h : f ≠ 0) : checkZ f = some 1 := by
  unfold checkZ
  rw [bne_iff_ne.2 h]
  rfl

/-- NOP with a reserved bit set is undefined, detail 1 (16 R557). -/
theorem exec_nop_reserved {c : CoreId} {f : BitVec 26} {s : State} (h : s.Issues c.val) (hf : f ≠ 0) :
    exec (.nop c f) s = .next ((s.fetched c.val).trap c.val ⟨3, 1, 0⟩ (s.at_ c.val).pc none) := by
  change s.issue c.val (fun _ => checkZ f) opNop = _
  exact State.issue_undefined h (checkZ_reserved hf)

/-- Settles O27: the double trap by the reset that each kind of core takes, the entry by the frame of `Core.enter`. -/
theorem trapEntry : Obligations.TrapEntry := by
  unfold Obligations.TrapEntry
  refine ⟨fun c u x p r hx => ⟨_, rfl, ?_⟩, fun c f s h hf _ => exec_nop_reserved h hf, fun c f s h hf hx => ?_⟩
  · rw [State.trap_double x p r hx]
    have hboot : (if c.val < 3 then u.count (12 + c.val) else u).boot = u.boot := by split <;> rfl
    have hdrum : (if c.val < 3 then u.count (12 + c.val) else u).drumImages = u.drumImages := by split <;> rfl
    have hdome : (if c.val < 3 then u.count (12 + c.val) else u).domeImages = u.domeImages := by split <;> rfl
    generalize (if c.val < 3 then u.count (12 + c.val) else u) = w at hboot hdrum hdome ⊢
    rw [← hboot, ← hdrum, ← hdome]
    have hcore := w.core_doubleTrap c.isLt
    refine ⟨?_, hcore, fun hc => ?_, fun hc => ?_, fun hc ht hb => ?_, fun hc ht hb => State.domeSource_doubleTrap hc ht hb⟩
    · rw [hcore]
      exact coreAt_bare ..
    · rw [hc]
      exact w.srcD1_doubleTrap
    · rw [hc]
      exact w.srcD2_doubleTrap
    · rw [hc]
      exact State.srcDrum_doubleTrap ht hb
  · have hcore := (State.Attempted.refl (s.fetched c.val)).core_trap ⟨3, 1, 0⟩ (s.at_ c.val).pc none c.isLt hx
    refine ⟨_, exec_nop_reserved h hf, ?_⟩
    rw [hcore]
    refine ⟨rfl, rfl, rfl, Core.enter_pc .., Core.enter_exl .., Core.enter_ie .., Core.enter_priv .., Core.enter_loops ..,
      fun j hj => ?_, Core.enter_tsr_rep .., rfl, Core.enter_slot ..⟩
    rw [Core.enter_tsr_bit, decide_eq_true hj, Bool.and_true]

/-! ## LOOP -/

/-- LOOP with a COUNT beside a register count is undefined with detail 1, and else one that names a level at or below an active
one with detail 2 (16 R557). -/
theorem checkLoop_eq (f : BitVec 26) (k : Core) :
    checkLoop f k =
      if f.toNat / 2 ^ 22 % 4 ≠ 3 ∧ f.toNat / 1024 % 4096 ≠ 0 then some 1
      else if ∃ n < 4, f.toNat / 2 ^ 24 ≤ n ∧ k.active n = true then some 2 else none := by
  have hany : ((List.range 4).any fun j => decide (f.toNat / 2 ^ 24 ≤ j) && k.active j) = true ↔
      ∃ n < 4, f.toNat / 2 ^ 24 ≤ n ∧ k.active n = true := by
    simp only [List.any_eq_true, List.mem_range, Bool.and_eq_true, decide_eq_true_eq]
  unfold checkLoop checkWord
  simp only [Bool.false_eq_true, if_false, Bool.and_eq_true, bne_iff_ne, hany]

/-- Settles O20: `checkLoop_eq` says which trap a refused LOOP takes; the loop registers are no part of a trap's entry. -/
theorem loopSetUp : Obligations.LoopSetUp := by
  unfold Obligations.LoopSetUp
  refine ⟨fun c f s d h hx hd hbad => ?_, fun c f s n count e h hchk hn hcount he => ?_⟩
  · have hundef : checkLoop f (s.at_ c.val) = some d := by
      rw [checkLoop_eq, hd]
      split
      case isTrue => rfl
      case isFalse hr =>
        rw [if_neg hr] at hd
        obtain ⟨n, hle, hlt, hact⟩ := hbad.resolve_left (by omega)
        exact if_pos ⟨n, hlt, hle, hact⟩
    have hcore := (State.Attempted.refl (s.fetched c.val)).core_trap ⟨3, d, 0⟩ (s.at_ c.val).pc none c.isLt hx
    refine ⟨_, State.issue_undefined (op := opLoop f) h hundef, ?_⟩
    rw [hcore]
    refine ⟨?_, Core.enter_ls .., Core.enter_lc ..⟩
    have hlt : d < 256 := by split at hd <;> omega
    rw [Core.enter_tcause, Nat.mod_eq_of_lt hlt]
  · subst hn hcount he
    exact State.issue_done (op := opLoop f) h hchk rfl

end Sys2Proof.Machine

namespace Sys2Proof.Machine

/-! ## Loads, stores, PUSH and POP -/

theorem exec_load {i : Instr} {c : CoreId} {f : BitVec 26} {n : Nat} {sg : Bool} (s : State) (h : loadRow i = some (c, f, n, sg)) :
    exec i s = s.issue c.val (fun _ => checkMem f) (opLoad n sg f) := by
  unfold loadRow at h
  split at h <;> cases h <;> rfl

theorem exec_store {i : Instr} {c : CoreId} {f : BitVec 26} {n : Nat} (s : State) (h : storeRow i = some (c, f, n)) :
    exec i s = s.issue c.val (fun _ => checkMem f) (opStore n f) := by
  unfold storeRow at h
  split at h <;> cases h <;> rfl

theorem exec_push (c : CoreId) (f : BitVec 26) (s : State) : exec (.push c f) s = s.issue c.val (fun _ => checkStack f) (opPush f) := rfl

theorem exec_pop (c : CoreId) (f : BitVec 26) (s : State) : exec (.pop c f) s = s.issue c.val (fun _ => checkStack f) (opPop f) := rfl

section
variable {s u : State} {c : Nat} {f : BitVec 26}

theorem opLoad_ok {n v : Nat} (sg : Bool) (h : s.coreLoad c ((s.core c).ea (fMode f) (fImm f)) n = (u, .ok v)) :
    opLoad n sg f c s = (u.modCore c fun k => k.postModify (fMode f) (fImm f),
      .ok { wrote := postRegs (fMode f)
            load := some { reg := fReg f, value := if sg then (if n = 1 then (BitVec.ofNat 8 v).signExtend 32 else
              (BitVec.ofNat 16 v).signExtend 32) else BitVec.ofNat 32 v } }) := by
  unfold opLoad
  rw [h]

theorem opStore_ok {n : Nat} (h : s.coreStore c ((s.core c).ea (fMode f) (fImm f)) n ((s.core c).reg (fReg f)) = (u, .ok ())) :
    opStore n f c s = (u.modCore c fun k => k.postModify (fMode f) (fImm f), .ok { wrote := postRegs (fMode f) }) := by
  unfold opStore
  dsimp only
  rw [h]

theorem opPush_ok (h : s.coreStore c ((s.core c).dsp - 4) 4 ((s.core c).reg (fReg f)) = (u, .ok ())) :
    opPush f c s = (u.modCore c fun k => { k with dsp := k.dsp - 4 }, .ok {}) := by
  unfold opPush
  dsimp only
  rw [h]

theorem opPush_fault {x : Trap} (h : s.coreStore c ((s.core c).dsp - 4) 4 ((s.core c).reg (fReg f)) = (u, .error x)) :
    opPush f c s = (u, .error (.trap x)) := by
  unfold opPush
  dsimp only
  rw [h]

theorem opPop_slot {v : Nat} (hr : fReg f < 3) (h : s.coreLoad c (s.core c).dsp 4 = (u, .ok v)) :
    opPop f c s = (u.modCore c fun k => { k with dsp := k.dsp + 4 }, .ok { load := some { reg := fReg f, value := BitVec.ofNat 32 v } }) := by
  have hm : (s.core c).mayWrite (fReg f) = true := by
    unfold Core.mayWrite
    rw [bne_iff_ne.2 (by omega), Bool.true_or]
  unfold opPop
  simp only [hm, Bool.not_true, Bool.false_eq_true, if_false, h, if_pos hr]

/-- POP into a register beyond A, X and Y: the register takes the word, then DSP moves. -/
theorem opPop_reg {v : Nat} {k : Core} (hr : 3 ≤ fReg f) (hm : (s.core c).mayWrite (fReg f) = true)
    (h : s.coreLoad c (s.core c).dsp 4 = (u, .ok v)) (hk : (u.core c).setReg c (fReg f) (BitVec.ofNat 32 v) = .ok k) :
    opPop f c s = ((u.modCore c fun _ => k).modCore c fun k => { k with dsp := k.dsp + 4 }, .ok {}) := by
  have hr' : ¬ fReg f < 3 := by omega
  have hcore : u.core c = s.core c := by
    have ha := s.attempted_coreLoad c (s.core c).dsp 4
    rw [h] at ha
    exact ha.core c
  have hw : u.writeReg c (fReg f) (BitVec.ofNat 32 v) = (u.modCore c fun _ => k, .ok {}) := by
    have hmu : (u.core c).mayWrite (fReg f) = true := hcore ▸ hm
    unfold State.writeReg
    simp only [hmu, hk, Bool.not_true, Bool.false_eq_true, if_false, if_neg hr']
  unfold opPop
  simp only [hm, Bool.not_true, Bool.false_eq_true, if_false, h, if_neg hr', hw]

theorem opPop_fault {x : Trap} (hm : (s.core c).mayWrite (fReg f) = true) (h : s.coreLoad c (s.core c).dsp 4 = (u, .error x)) :
    opPop f c s = (u, .error (.trap x)) := by
  unfold opPop
  simp only [hm, Bool.not_true, Bool.false_eq_true, if_false, h]

/-- An instruction whose operation traps after no more than an attempt enters its trap and keeps the bytes of memory. -/
theorem State.issue_attempt {chk : Core → Option Nat} {op : Operation} {x : Trap} (h : s.Issues c) (hlt : c < 8)
    (hx : (s.at_ c).sr.getLsbD 3 = false) (hc : chk (s.at_ c) = none) (ho : op c (s.fetched c) = (u, .error (.trap x)))
    (hu : (s.fetched c).Attempted u) :
    ∃ t, s.issue c chk op = .next t ∧ t.core c = (s.at_ c).enter x.cause x.detail x.addr (s.at_ c).pc none none ∧
      ∀ m, t.placeBytes m = s.placeBytes m :=
  ⟨_, State.issue_trap h hc ho, hu.core_trap x _ none hlt hx, hu.placeBytes_trap x _ none hx⟩

/-- Such an instruction leaves DSP and memory. -/
theorem State.issue_attempt_keeps {chk : Option Nat} {op : Operation} {x : Trap} (h : s.Issues c) (hlt : c < 8)
    (hx : (s.at_ c).sr.getLsbD 3 = false) (hc : chk = none) (ho : op c (s.fetched c) = (u, .error (.trap x)))
    (hu : (s.fetched c).Attempted u) :
    ∃ t, s.issue c (fun _ => chk) op = .next t ∧ (t.core c).dsp = (s.at_ c).dsp ∧ t.mem.sram = s.mem.sram ∧ t.mem.dome = s.mem.dome ∧
      t.mem.lantern = s.mem.lantern ∧ t.mem.mailbox = s.mem.mailbox ∧ t.mem.user = s.mem.user := by
  obtain ⟨t, ht, hcore, hbytes⟩ := State.issue_attempt (chk := fun _ => chk) h hlt hx hc ho hu
  refine ⟨t, ht, ?_, hbytes 0, hbytes 1, hbytes 2, hbytes 3, hbytes 4⟩
  rw [hcore, Core.enter_dsp]

/-- An unaligned word access takes cause 6 with the access size as detail (15 R532, R533). -/
theorem State.issue_unaligned {chk : Option Nat} {op : Operation} {a : Word} (h : s.Issues c) (hlt : c < 8)
    (hx : (s.at_ c).sr.getLsbD 3 = false) (hc : chk = none)
    (ho : op c (s.fetched c) = (s.fetched c, .error (.trap ⟨6, 4, a⟩))) :
    ∃ t, s.issue c (fun _ => chk) op = .next t ∧ (t.core c).tcause = 0x406 := by
  obtain ⟨t, ht, hcore, -⟩ := State.issue_attempt (chk := fun _ => chk) h hlt hx hc ho (.refl _)
  refine ⟨t, ht, ?_⟩
  rw [hcore, Core.enter_tcause]
  simp
end

/-- A word four below another is aligned with it. -/
theorem sub_four_unaligned {w : Word} (h : w.toNat % 4 ≠ 0) : (w - 4).toNat % 4 ≠ 0 := by
  bv_omega

/-- PUSH and POP at a DSP that is no multiple of 4 take the alignment trap, cause 6, with the size as detail (15 R532, R533). -/
theorem exec_stack_unaligned {c : CoreId} {f : BitVec 26} {s : State} {i : Instr} (h : s.Issues c.val) (hc : checkStack f = none)
    (hx : (s.at_ c.val).sr.getLsbD 3 = false) (hm : (s.at_ c.val).mayWrite (fReg f) = true) (hseg : (s.at_ c.val).sr.getLsbD 8 = false)
    (hd : (s.at_ c.val).dsp.toNat % 4 ≠ 0) (hi : i ∈ [Instr.push c f, Instr.pop c f]) :
    ∃ t, exec i s = .next t ∧ (t.core c.val).tcause = 0x406 := by
  simp only [List.mem_cons, List.not_mem_nil, or_false] at hi
  rcases hi with rfl | rfl
  · exact State.issue_unaligned h c.isLt hx hc (opPush_fault (State.coreStore_unaligned hseg (sub_four_unaligned hd)))
  · exact State.issue_unaligned h c.isLt hx hc (opPop_fault hm (State.coreLoad_unaligned hseg hd))

/-- Settles O18: each clause is one case of its operation; a fault has only attempted its access. -/
theorem memoryAccesses : Obligations.MemoryAccesses := by
  unfold Obligations.MemoryAccesses
  refine ⟨fun i c f n sg s u v hrow h hc hload => ?_, fun i c f n s u hrow h hc hstore => ?_, fun c f s u h hc hstore => ?_,
    fun c f s u v h hc hr hload => ?_, fun c f s u v k h hc hr hm hload hk => ?_, fun c f s h hc hx hm => ⟨fun u e hstore => ?_,
    fun u e hload => ?_, fun hseg hd i hi => exec_stack_unaligned h hc hx hm hseg hd hi⟩⟩
  · rw [exec_load s hrow]
    exact State.issue_done h hc (opLoad_ok sg hload)
  · rw [exec_store s hrow]
    exact State.issue_done h hc (opStore_ok hstore)
  · rw [exec_push]
    exact State.issue_done h hc (opPush_ok hstore)
  · rw [exec_pop]
    exact State.issue_done h hc (opPop_slot hr hload)
  · rw [exec_pop]
    exact State.issue_done h hc (opPop_reg hr hm hload hk)
  · exact State.issue_attempt_keeps h c.isLt hx hc (opPush_fault hstore) (State.attempted_coreStore hstore)
  · have hu := (s.fetched c.val).attempted_coreLoad c.val (s.at_ c.val).dsp 4
    rw [hload] at hu
    exact State.issue_attempt_keeps h c.isLt hx hc (opPop_fault hm hload) hu

end Sys2Proof.Machine

/-! # Every step, the tick and the reset

What every step keeps (O58, O59), the step itself (O1, O55), the rates of DT and TICK (O56) and the reset (O57). -/

namespace Sys2Proof.Machine

/-! ## What every step keeps -/

/-- A meaning that answers a state keeps what `Keeps` says. -/
theorem KeepsR.keeps {b : Bool} {s t : State} {r : Res} (h : KeepsR b s r) (e : r = .next t) : Keeps b s t := by
  cases h with
  | next h => cases e; exact h
  | refused => cases e

/-- Every step, on an empty queue or a command, keeps the memories' form and lets no audit counter go down. -/
theorem step_keeps {s t : State} (e : step s = .next t) :
    (s.memoryWf = true → t.memoryWf = true) ∧ s.sealed.auditSeq ≤ t.sealed.auditSeq ∧
      (s.sealed.counts32 → countersRise s.sealed.counters t.sealed.counters ∧ t.sealed.counts32) := by
  cases hq : s.pending with
  | nil =>
    have h := (step_keeps_empty hq).keeps e
    exact ⟨h.memory, h.auditSeq, h.counters⟩
  | cons c q =>
    have h := (step_keeps_front hq).keeps e
    exact ⟨h.memory, h.auditSeq, h.counters⟩

/-- Settles O58: the canonical form is one part of what every step keeps. -/
theorem memoryCanonical : Obligations.MemoryCanonical := by
  unfold Obligations.MemoryCanonical
  exact fun s t hw e => (step_keeps e).1 hw

/-- Only a cold start changes DT and TICK. -/
theorem timeless_of_ne {c : Instr} (h : ∀ a b, c ≠ .coldStart a b) : timeless c = true := by
  unfold timeless
  split
  · exact absurd rfl (h _ _)
  · rfl

/-- Over a run AUDIT_SEQ and the audit counters never go down (09 R316, R318). -/
theorem run_keeps_audit {run : Nat → State} : ∀ {n : Nat}, (∀ k < n, step (run k) = .next (run (k + 1))) →
    (run 0).sealed.counts32 →
    (run 0).sealed.auditSeq ≤ (run n).sealed.auditSeq ∧
      countersRise (run 0).sealed.counters (run n).sealed.counters ∧ (run n).sealed.counts32
  | 0, _, h => ⟨le_rfl, fun _ => le_rfl, h⟩
  | n + 1, hr, h => by
    obtain ⟨hs, hc, hb⟩ := run_keeps_audit (n := n) (fun k hk => hr k (by omega)) h
    obtain ⟨-, hs', hk⟩ := step_keeps (hr n (by omega))
    obtain ⟨hc', hb'⟩ := hk hb
    exact ⟨hs.trans hs', fun k => (hc k).trans (hc' k), hb'⟩

/-- Settles O59: the queue and time by `exec_keeps` for the one command, the audit counters by induction on the run. -/
theorem timeQueueAndAudit : Obligations.TimeQueueAndAudit := by
  unfold Obligations.TimeQueueAndAudit
  refine ⟨fun c q s t hq e => ?_, fun run n hr hb => ?_⟩
  · have h := (step_keeps_front hq).keeps e
    refine ⟨h.pending, fun hc => ?_⟩
    obtain ⟨hacc, htick⟩ := h.dt (timeless_of_ne hc)
    exact ⟨congrArg (fun a => a / 256 % 2 ^ 64) hacc, htick⟩
  · obtain ⟨hs, hc, hb'⟩ := run_keeps_audit hr hb
    exact ⟨hs, fun k => ⟨hc k, hb' k⟩⟩

/-! ## The step -/

/-- Settles O1: the branch of `step` for a queue that is not empty. -/
theorem stepRunsFront : Obligations.StepRunsFront := by
  unfold Obligations.StepRunsFront
  exact fun c q s => rfl

/-- What a register with write-one-to-clear fields reads as does not depend on what stood at the start of the tick. -/
theorem readBlock_w1c_start (s : State) (x : TickStart) :
    ∀ e ∈ w1cFields, (State.readBlock { s with start := x } e.1).map Prod.snd = (s.readBlock e.1).map Prod.snd := by
  intro e he
  unfold w1cFields at he
  simp only [List.range, List.range.loop, List.map_cons, List.map_nil, List.cons_append, List.nil_append] at he
  fin_cases he <;> rfl

/-- What stands at the start of a tick is judged by the registers, not by what stood before. -/
theorem State.tickStart_start (s : State) (x : TickStart) : State.tickStart { s with start := x } = s.tickStart := by
  have hbits : (w1cFields.filterMap fun e => (State.readBlock { s with start := x } e.1).bind fun r =>
      if r.2 &&& e.2 = 0 then none else some (e.1, r.2 &&& e.2)) =
      w1cFields.filterMap fun e => (s.readBlock e.1).bind fun r => if r.2 &&& e.2 = 0 then none else some (e.1, r.2 &&& e.2) := by
    refine List.filterMap_congr fun e he => ?_
    have h := readBlock_w1c_start s x e he
    generalize State.readBlock { s with start := x } e.1 = r at h ⊢
    generalize s.readBlock e.1 = q at h ⊢
    cases r <;> cases q <;> simp_all
  unfold State.tickStart
  rw [hbits]

/-- What the end of a tick leaves for the next: what stands at its start, no lane's earlier sums, the marks of the tick afresh, and the
pointers by which the rings are judged (00 R7, 11 R401). -/
structure State.TickBegun (t : State) : Prop where
  start : t.start = t.tickStart
  before : t.trk.before = []
  ranks : t.ranks = Vector.replicate 10 0
  took : t.interp.took = false
  handover : t.pwr.handoverTick = none
  rings : ∀ n < 16, (vget t.rings n).prodT = (vget t.rings n).prod ∧ (vget t.rings n).consT = (vget t.rings n).cons

theorem vget_map {α β : Type} [Inhabited α] [Inhabited β] {n i : Nat} (f : α → β) (v : Vector α n) (h : i < n) :
    vget (v.map f) i = f (vget v i) := by
  simp [vget, Vector.getD, h]

theorem State.fastTick_begun (s : State) : s.fastTick.TickBegun := by
  unfold State.fastTick
  extract_lets s1 s2 s3 a b c t
  exact ⟨(State.tickStart_start t t.tickStart).symm, rfl, rfl, rfl, rfl, fun n hn => by
    have h : vget t.rings n = (vget s3.rings n).tick := vget_map Ring.tick s3.rings hn
    rw [h]
    exact ⟨rfl, rfl⟩⟩

theorem step_empty {s : State} (h : s.pending = []) : step s = .next s.tickEnd := by
  unfold step
  rw [h]

/-- Settles O55: the three ways in which `State.tickEnd` ends a tick. -/
theorem emptyQueueEndsTick : Obligations.EmptyQueueEndsTick := by
  unfold Obligations.EmptyQueueEndsTick
  intro s hq
  rw [step_empty hq]
  unfold State.tickEnd
  refine ⟨fun hp => ?_, fun hf hu ho => ?_, fun hf => ?_⟩
  · have hf : s.fast = false := by
      unfold State.fast
      rcases hp with hp | hp <;> rw [hp] <;> rfl
    rw [hf]
    rcases hp with hp | hp <;> rw [hp] <;> rfl
  · rw [hf]
    split
    · contradiction
    · split
      · contradiction
      · contradiction
      · rfl
  · rw [hf]
    obtain ⟨hstart, hbefore, hranks, htook, hhand, hrings⟩ := s.fastTick_begun
    exact ⟨_, rfl, hstart, hbefore, hranks, htook, hhand, hrings⟩

/-! ## The rates of DT and TICK (03 R90, R92) -/

/-- A tick with the rate `k` of further units. -/
theorem Clock.tickOn_of {c : Clock} {k : Nat} (h : 73067776 + c.steer = k) :
    c.tickOn = { c with acc := c.acc + 13434 + (c.phase + k) / 81840000, phase := (c.phase + k) % 81840000
                        tick := (c.tick + 1) % 2 ^ 64 } := by
  unfold Clock.tickOn
  rw [h]
  rfl

/-- After `n` ticks: the further units that the even spread has carried, and the place in it. -/
theorem Clock.ticked_of {c : Clock} {k : Nat} (hp : c.phase < 81840000) (h : 73067776 + c.steer = k) : ∀ n : Nat,
    (c.ticked n).acc = c.acc + 13434 * n + (c.phase + k * n) / 81840000 ∧
    (c.ticked n).tick % 2 ^ 64 = (c.tick + n) % 2 ^ 64 ∧ (c.ticked n).steer = c.steer ∧
    (c.ticked n).phase = (c.phase + k * n) % 81840000
  | 0 => by
    refine ⟨?_, rfl, rfl, ?_⟩ <;> simp only [Clock.ticked, Nat.mul_zero, Nat.add_zero]
    · rw [Nat.div_eq_of_lt hp, Nat.add_zero]
    · rw [Nat.mod_eq_of_lt hp]
  | n + 1 => by
    obtain ⟨hacc, htick, hsteer, hphase⟩ := Clock.ticked_of hp h n
    have hk : 73067776 + (c.ticked n).steer = k := by rw [hsteer, h]
    rw [Clock.ticked, Clock.tickOn_of hk]
    dsimp only
    have hkn : k * (n + 1) = k * n + k := by ring
    rw [hacc, hphase, hkn]
    refine ⟨?_, ?_, hsteer, ?_⟩ <;> omega

theorem Clock.slowed_of {c : Clock} (hp : c.slowPhase < 32768) : ∀ n : Nat,
    (c.slowed n).acc = c.acc + 2 ^ 25 * n ∧
    (c.slowed n).tick % 2 ^ 64 = (c.tick + 2497 * n + (c.slowPhase + 18304 * n) / 32768) % 2 ^ 64 ∧
    (c.slowed n).slowPhase = (c.slowPhase + 18304 * n) % 32768
  | 0 => by
    simp only [Clock.slowed]
    omega
  | n + 1 => by
    obtain ⟨hacc, htick, hphase⟩ := Clock.slowed_of hp n
    rw [Clock.slowed, Clock.slowOn]
    dsimp only
    rw [hacc, hphase]
    omega

/-- One second in 81,840,000 unsteered ticks. -/
theorem Clock.ticked_second {c : Clock} (hp : c.phase < 81840000) (hs : c.steer = 0) {n : Nat} (hn : n = 81840000) :
    (c.ticked n).acc = c.acc + 2 ^ 40 ∧ (c.ticked n).phase = c.phase := by
  obtain ⟨hacc, -, -, hphase⟩ := Clock.ticked_of (k := 73067776) hp (by rw [hs]; rfl) n
  rw [hacc, hphase, hn]
  omega

/-- One second and 81,840,000 ticks in 32,768 edges. -/
theorem Clock.slowed_second {c : Clock} (hp : c.slowPhase < 32768) {n : Nat} (hn : n = 32768) :
    (c.slowed n).acc = c.acc + 2 ^ 40 ∧ (c.slowed n).tick % 2 ^ 64 = (c.tick + 81840000) % 2 ^ 64 := by
  obtain ⟨hacc, htick, -⟩ := Clock.slowed_of hp n
  rw [hacc, htick, hn]
  have : (c.slowPhase + 18304 * 32768) / 32768 = 18304 := by omega
  rw [this]
  omega

/-- An edge adds 2,497 or 2,498 ticks. -/
theorem Clock.slowOn_tick {c : Clock} (hp : c.slowPhase < 32768) :
    c.slowOn.tick = (c.tick + 2497) % 2 ^ 64 ∨ c.slowOn.tick = (c.tick + 2498) % 2 ^ 64 := by
  unfold Clock.slowOn
  dsimp only
  have : (c.slowPhase + 18304) / 32768 = 0 ∨ (c.slowPhase + 18304) / 32768 = 1 := by omega
  rcases this with h | h <;> rw [h]
  · exact Or.inl rfl
  · exact Or.inr rfl

/-- Settles O56: the sums of `Clock.ticked_of` and `Clock.slowed_of`. -/
theorem timeRates : Obligations.TimeRates := by
  unfold Obligations.TimeRates
  refine ⟨fun c n k hp hk _ => ?_, fun c hp h0 hk => ?_, fun c hp hs => Clock.ticked_second hp hs rfl, fun c hp => ?_⟩
  · obtain ⟨hacc, htick, hsteer, hphase⟩ := Clock.ticked_of hp hk n
    exact ⟨_, rfl, hacc, htick, hsteer, hphase⟩
  · obtain ⟨k, hk'⟩ := Int.eq_ofNat_of_zero_le h0
    rw [Clock.tickOn_of hk']
    dsimp only
    omega
  · obtain ⟨hacc, htick⟩ := Clock.slowed_second hp rfl
    exact ⟨rfl, Clock.slowOn_tick hp, hacc, htick⟩

/-! ## The reset -/

theorem vget_replicate {α : Type} [Inhabited α] {n i : Nat} (a : α) (h : i < n) : vget (Vector.replicate n a) i = a := by
  simp [vget, Vector.getD, h]

theorem vget_ofFn {α : Type} [Inhabited α] {n i : Nat} (f : Fin n → α) (h : i < n) : vget (Vector.ofFn f) i = f ⟨i, h⟩ := by
  simp [vget, Vector.getD, h]

/-- At reset every core is held in Bare mode, the Dome's at the level of a pair (15 R510). -/
theorem reset_core (c : CoreId) : State.reset.core c.val = coreAt c.val 0xFF0000 true :=
  vget_ofFn (fun i : Fin 8 => coreAt i.val 0xFF0000 true) c.isLt

theorem reset_core_facts : ∀ c : CoreId, (coreAt c.val 0xFF0000 true).bare = true ∧ (coreAt c.val 0xFF0000 true).priv = 0 ∧
    (coreAt c.val 0xFF0000 true).sr.getLsbD 15 = decide (3 ≤ c.val) := by decide

/-- Settles O57: the arrays of the reset state hold one value in each place; every other field is read off. -/
theorem resetState : Obligations.ResetState := by
  unfold Obligations.ResetState
  rintro s rfl
  refine ⟨rfl, rfl, rfl, rfl, rfl, rfl, rfl, fun c => ?_, fun n hn => ?_, fun n hn => ?_, fun n hn => ?_, fun n hn => ?_, fun p hp => ?_,
    rfl, rfl, rfl, rfl, rfl, rfl, rfl, fun k h0 hk => ?_, fun a _ => ?_⟩
  · rw [reset_core c]
    obtain ⟨hbare, hpriv, hpair⟩ := reset_core_facts c
    exact ⟨hbare, hpriv, rfl, rfl, rfl, rfl, hpair⟩
  · have h (i : Nat) (hi : i < 4) : vget State.reset.mmus i = {} ∧ vget State.reset.masters i = {} ∧ vget State.reset.timers i = {} :=
      ⟨vget_replicate _ hi, vget_replicate _ hi, vget_replicate _ hi⟩
    obtain ⟨hmmu, hmaster, htimer⟩ := h n hn
    rw [hmmu, hmaster, htimer]
    exact ⟨rfl, rfl, rfl, rfl⟩
  · have hring : vget State.reset.rings n = {} := vget_replicate _ hn
    have hdma : State.reset.dmaCh n = {} := vget_replicate _ hn
    rw [hring, hdma]
    exact ⟨rfl, rfl⟩
  · have hsource : vget State.reset.intc n = {} := vget_replicate _ hn
    rw [hsource]
  · interval_cases n <;> rfl
  · have hport : State.reset.port p = _ := vget_ofFn (fun i : Fin 8 => _) hp
    rw [hport]
  · exact (vget_ofFn (fun i : Fin 18 => if i.val = 0 then 1 else 0) hk).trans (if_neg (Nat.ne_of_gt h0))
  · rfl

end Sys2Proof.Machine

/-! # Results of the Finial instructions

What a completed instruction leaves in its core, then the rows of 16 R549–R556 (O14–O17, O19, O21). -/

namespace Sys2Proof.Machine

/-! ## One core of the state -/

section
variable (s u : State) {c : Nat}

theorem State.modCore_modCore (f g : Core → Core) (hc : c < 8) : (s.modCore c f).modCore c g = s.modCore c fun k => g (f k) := by
  unfold State.modCore vmod
  dsimp only
  rw [vget_vset_same _ _ hc]
  congr 1
  unfold vset
  exact Vector.setIfInBounds_setIfInBounds ..

theorem State.modCore_congr {f g : Core → Core} (h : f (s.core c) = g (s.core c)) : s.modCore c f = s.modCore c g := by
  unfold State.modCore vmod
  rw [show f (vget s.cores c) = g (vget s.cores c) from h]
end

/-! ## The end of an instruction -/

/-- What the end of an instruction with report `d` leaves in its core. -/
def Core.finish (k : Core) (d : Done) : Core :=
  let k := { k.endSlot d.wrote d.load with cycle := k.cycle + d.cycles, wait := .none, resume := none }
  match d.jump with
  | some p => { k with pc := p }
  | none => k.loopCheck k.pc (k.pc + 1)

theorem State.core_complete (s : State) {c : Nat} (d : Done) (hc : c < 8) : (s.complete c d).core c = (s.core c).finish d := by
  have h : ((s.modCore c fun k => k.finish d).core c) = (s.core c).finish d := State.core_modCore s _ hc
  unfold State.complete
  dsimp only
  split <;> exact h

theorem State.core_complete_other (s : State) {c j : Nat} (d : Done) (hj : j ≠ c) : (s.complete c d).core j = s.core j := by
  have h : ((s.modCore c fun k => k.finish d).core j) = s.core j := State.core_modCore_other s _ hj
  unfold State.complete
  dsimp only
  split <;> exact h

theorem State.complete_mem (s : State) (c : Nat) (d : Done) : (s.complete c d).mem = s.mem := by
  unfold State.complete
  dsimp only
  split <;> rfl

theorem State.complete_intc (s : State) (c : Nat) (d : Done) : (s.complete c d).intc = s.intc := by
  unfold State.complete
  dsimp only
  split <;> rfl

/-- A load that lands changes A, X and Y alone. -/
theorem Core.endSlot_frame (k : Core) (w : List Nat) (l : Option SlotLoad) :
    k.endSlot w l = { k with a := (k.endSlot w l).a, x := (k.endSlot w l).x, y := (k.endSlot w l).y, slot := l } := by
  unfold Core.endSlot Core.land
  split
  · rfl
  · split_ifs <;> rfl

/-- The loop check changes the counts, the loop levels of SR and the pc alone. -/
theorem Core.loopFrom_frame (e next : BitVec 24) : ∀ (n : Nat) (k : Core),
    k.loopFrom e next n = { k with lc := (k.loopFrom e next n).lc, sr := (k.loopFrom e next n).sr, pc := (k.loopFrom e next n).pc }
  | 0, k => rfl
  | n + 1, k => by
    unfold Core.loopFrom
    dsimp only
    split
    · split
      · rfl
      · exact Core.loopFrom_frame e next n _
    · exact Core.loopFrom_frame e next n k

theorem Core.loopCheck_frame (k : Core) (e next : BitVec 24) :
    k.loopCheck e next = { k with lc := (k.loopCheck e next).lc, sr := (k.loopCheck e next).sr, pc := (k.loopCheck e next).pc } :=
  Core.loopFrom_frame e next 4 k

/-- The end of an instruction leaves what neither the load slot nor the loop check concerns. -/
theorem Core.finish_frame (k : Core) (d : Done) :
    k.finish d = { k with
      a := (k.finish d).a, x := (k.finish d).x, y := (k.finish d).y, slot := d.load, cycle := k.cycle + d.cycles, wait := .none
      resume := none, lc := (k.finish d).lc, sr := (k.finish d).sr, pc := (k.finish d).pc } := by
  have he := k.endSlot_frame d.wrote d.load
  unfold Core.finish
  generalize k.endSlot d.wrote d.load = m at he ⊢
  dsimp only
  split
  · rw [he]
  · rw [Core.loopCheck_frame, he]

@[simp] theorem Core.finish_products (k : Core) (d : Done) : (k.finish d).products = k.products := by rw [Core.finish_frame]
@[simp] theorem Core.finish_mph (k : Core) (d : Done) : (k.finish d).mph = k.mph := by rw [Core.finish_frame]
@[simp] theorem Core.finish_mpl (k : Core) (d : Done) : (k.finish d).mpl = k.mpl := by rw [Core.finish_frame]

/-! ## Operands -/

section
variable {s u : State} {c : Nat} {f : BitVec 26} {un : Bool}

/-- The operand of modes 0 to 2 is an immediate or a register. -/
theorem State.operand_direct (h : fMode f ≤ 2) :
    s.operand c un f = (s, .ok (if fMode f = 0 then (if un then BitVec.ofNat 32 (fImm f) else sext16 (fImm f)) else if fMode f = 1 then
      BitVec.ofNat 32 (fImm f * 65536) else (s.core c).reg (fReg f))) := by
  unfold State.operand
  dsimp only
  split_ifs <;> first | rfl | omega

/-- The operand of modes 3 to 8 is a word of memory. -/
theorem State.operand_memory {v : Nat} (h : 3 ≤ fMode f) (hl : s.coreLoad c ((s.core c).ea (fMode f) (fImm f)) 4 = (u, .ok v)) :
    s.operand c un f = (u, .ok (BitVec.ofNat 32 v)) := by
  unfold State.operand
  dsimp only
  rw [if_neg (by omega), if_neg (by omega), if_neg (by omega), hl]

theorem Core.postModify_direct (k : Core) (n : Nat) {m : Nat} (h : m ≤ 2) : k.postModify m n = k := by
  unfold Core.postModify
  rw [if_neg (by omega), if_neg (by omega)]

theorem postRegs_direct {m : Nat} (h : m ≤ 2) : postRegs m = [] := by
  unfold postRegs
  rw [if_neg (by omega), if_neg (by omega)]

theorem opAlu_ok {g : Word → Word → Word} {v : Word} (h : s.operand c un f = (u, .ok v)) :
    opAlu un g f c s = (u.modCore c fun k => { k.postModify (fMode f) (fImm f) with a := g k.a v },
      .ok { wrote := 0 :: postRegs (fMode f), cycles := if fMode f < 3 then 1 else 2 }) := by
  unfold opAlu
  rw [h]

/-- A permitted write that the register accepts. -/
theorem State.writeReg_ok {n : Nat} {v : Word} {k : Core} (hm : (s.core c).mayWrite n = true) (hk : (s.core c).setReg c n v = .ok k) :
    s.writeReg c n v = (s.modCore c fun _ => k, .ok { wrote := if n < 3 then [n] else [] }) := by
  unfold State.writeReg
  rw [hm, hk]
  rfl

theorem opMul_ok {v : Word} (h : s.operand c un f = (u, .ok v)) :
    opMul un f c s = (u.product c (if un then (s.core c).a.setWidth 64 * v.setWidth 64 else (s.core c).a.signExtend 64 * v.signExtend 64),
      .ok {}) := by
  unfold opMul
  dsimp only
  rw [h]
end

/-! ## The rows -/

theorem exec_alu {i : Instr} {c : CoreId} {f : BitVec 26} {un : Bool} {g : Word → Word → Word} (s : State)
    (h : aluRow i = some (c, f, un, g)) : exec i s = s.issue c.val (fun _ => checkOperand aluModes f) (opAlu un g f) := by
  unfold aluRow at h
  split at h <;> cases h <;> rfl

/-- Settles O14: the operand by its mode, then `opAlu_ok`. -/
theorem aluResults : Obligations.AluResults := by
  unfold Obligations.AluResults
  intro i c f un g s hrow h hc
  rw [exec_alu s hrow]
  refine ⟨fun v hv hm => ?_, fun v u hm hload => ?_⟩
  · have ho := opAlu_ok (g := g) (State.operand_direct (s := s.fetched c.val) (c := c.val) (un := un) hm)
    rw [postRegs_direct hm, if_pos (by omega : fMode f < 3)] at ho
    rw [State.issue_done h hc ho, hv]
    simp only [Core.postModify_direct _ _ hm]
    rfl
  · have ho := opAlu_ok (g := g) (un := un) (State.operand_memory hm hload)
    rw [if_neg (by omega : ¬ fMode f < 3)] at ho
    exact State.issue_done h hc ho

theorem exec_shift {i : Instr} {c : CoreId} {b : Bool} {r : BitVec 6} {m : BitVec 16} {g : Word → Nat → Word} (s : State)
    (h : shiftRow i = some (c, b, r, m, g)) : exec i s = s.issue c.val (fun _ => checkShift b r m) (opShift g b r m) := by
  unfold shiftRow at h
  split at h <;> cases h <;> rfl

/-- A shift by the immediate is by less than 32: the rest of the field is reserved (16 R557). -/
theorem checkShift_imm {r : BitVec 6} {m : BitVec 16} (h : checkShift false r m = none) : m.toNat < 32 := by
  unfold checkShift checkWord at h
  by_contra hm
  have hd : m.toNat / 32 ≠ 0 := by omega
  simp [hd] at h

/-- Settles O15: the two sources of the count. -/
theorem shiftResults : Obligations.ShiftResults := by
  unfold Obligations.ShiftResults
  intro i c b r m g s hrow h hc
  rw [exec_shift s hrow]
  refine State.issue_done h hc ?_
  unfold opShift
  cases b
  · rw [Nat.mod_eq_of_lt (checkShift_imm hc)]
    rfl
  · rfl

theorem exec_move {i : Instr} {c : CoreId} {f : BitVec 26} {chk : Option Nat} {v : Core → Word} (s : State)
    (h : moveRow i = some (c, f, chk, v)) :
    exec i s = s.issue c.val (fun _ => chk) fun n s => s.writeReg n (fReg f) (v (s.core n)) := by
  unfold moveRow at h
  split at h <;> cases h <;> rfl

theorem exec_nop (c : CoreId) (f : BitVec 26) (s : State) : exec (.nop c f) s = s.issue c.val (fun _ => checkZ f) opNop := rfl

/-- Settles O16: a permitted write that is accepted. -/
theorem moveResults : Obligations.MoveResults := by
  unfold Obligations.MoveResults
  refine ⟨fun c s h => ?_, fun i c f v s k hrow h hm hk => ?_⟩
  · rw [exec_nop]
    exact State.issue_done h rfl rfl
  · rw [exec_move s hrow]
    exact State.issue_done h rfl (State.writeReg_ok hm hk)

/-! ## Products (15 R519) -/

/-- The two halves of a product make it up. -/
theorem product_halves (p : BitVec 64) : p.extractLsb' 32 32 ++ p.extractLsb' 0 32 = p := by
  rw [BitVec.extractLsb'_append_extractLsb'_eq_extractLsb' (by rfl)]
  simp

theorem product_unsigned (a v : Word) : (a.setWidth 64 * v.setWidth 64).toNat = a.toNat * v.toNat := by
  have h : a.toNat * v.toNat < 2 ^ 64 := lt_of_lt_of_eq (Nat.mul_lt_mul'' a.isLt v.isLt) (by norm_num)
  rw [BitVec.toNat_mul, BitVec.toNat_setWidth_of_le (by omega), BitVec.toNat_setWidth_of_le (by omega), Nat.mod_eq_of_lt h]

theorem product_signed (a v : Word) : (a.signExtend 64 * v.signExtend 64).toInt = a.toInt * v.toInt := by
  have bound (x : Word) : |x.toInt| ≤ 2 ^ 31 := by
    have h := x.two_mul_toInt_lt
    have h' := x.le_two_mul_toInt
    rw [abs_le]
    omega
  have h : |a.toInt * v.toInt| ≤ 2 ^ 31 * 2 ^ 31 := by
    rw [abs_mul]
    exact mul_le_mul (bound a) (bound v) (abs_nonneg _) (by norm_num)
  obtain ⟨hlo, hhi⟩ := abs_le.1 h
  rw [BitVec.toInt_mul, BitVec.toInt_signExtend_of_le (by omega), BitVec.toInt_signExtend_of_le (by omega)]
  apply Int.bmod_eq_of_le_mul_two <;> omega

section
variable (s : State) {c : Nat} (p : BitVec 64)

/-- In Bare mode the product is on its way, with the cycle of its issue. -/
theorem State.core_product_bare (hc : c < 8) (hb : (s.core c).bare = true) : (s.product c p).core c =
    { s.core c with products := (s.core c).products ++ [⟨(s.core c).cycle, p.extractLsb' 32 32, p.extractLsb' 0 32⟩] } :=
  (State.core_modCore s _ hc).trans (if_pos hb)

/-- In Service mode MPH and MPL hold the product at once. -/
theorem State.core_product_service (hc : c < 8) (hb : (s.core c).bare = false) : (s.product c p).core c =
    { s.core c with mph := p.extractLsb' 32 32, mpl := p.extractLsb' 0 32 } :=
  (State.core_modCore s _ hc).trans (if_neg (by rw [hb]; exact Bool.false_ne_true))
end

theorem checkOperand_mul {f : BitVec 26} (h : checkOperand [0, 2] f = none) : fMode f = 0 ∨ fMode f = 2 := by
  unfold checkOperand checkWord at h
  by_contra hm
  simp_all

/-- MUL and MULU: the product of A and the operand is on its way in Bare mode, and at once in MPH and MPL else. -/
theorem State.issue_mul {s : State} {c : CoreId} {f : BitVec 26} {un : Bool} {v : Word} {p : BitVec 64} (h : s.Issues c.val)
    (hc : checkOperand [0, 2] f = none)
    (hv : v = if fMode f = 0 then (if un then BitVec.ofNat 32 (fImm f) else sext16 (fImm f)) else (s.at_ c.val).reg (fReg f))
    (hp : p = if un then (s.at_ c.val).a.setWidth 64 * v.setWidth 64 else (s.at_ c.val).a.signExtend 64 * v.signExtend 64) :
    ∃ t, s.issue c.val (fun _ => checkOperand [0, 2] f) (opMul un f) = .next t ∧
      ((s.at_ c.val).bare = true → ∃ r, (t.core c.val).products = (s.at_ c.val).products ++ [r] ∧ r.issue = (s.at_ c.val).cycle ∧
        r.hi ++ r.lo = p) ∧
      ((s.at_ c.val).bare = false → (t.core c.val).mph ++ (t.core c.val).mpl = p) := by
  have ho : (s.fetched c.val).operand c.val un f = (s.fetched c.val, .ok v) := by
    rw [State.operand_direct (by have := checkOperand_mul hc; omega), hv]
    rcases checkOperand_mul hc with hm | hm <;> rw [hm] <;> rfl
  have hi := State.issue_done (chk := fun _ => checkOperand [0, 2] f) h hc (opMul_ok ho)
  have hi' : s.issue c.val (fun _ => checkOperand [0, 2] f) (opMul un f) = ((s.fetched c.val).product c.val p).done c.val {} := by
    rw [hi, hp]
    rfl
  refine ⟨_, hi', fun hb => ⟨⟨(s.at_ c.val).cycle, p.extractLsb' 32 32, p.extractLsb' 0 32⟩, ?_, rfl, product_halves p⟩, fun hb => ?_⟩
  · rw [State.core_complete _ _ c.isLt, State.core_product_bare _ _ c.isLt hb, Core.finish_products]
    rfl
  · rw [State.core_complete _ _ c.isLt, State.core_product_service _ _ c.isLt hb, Core.finish_mph, Core.finish_mpl]
    exact product_halves p

/-- Settles O17: `State.issue_mul` with the signed and with the unsigned product. -/
theorem mulProducts : Obligations.Products := by
  unfold Obligations.Products
  refine ⟨fun c f s v h hc hv => ?_, fun c f s v h hc hv => ?_⟩
  · obtain ⟨t, ht, hbare, hservice⟩ := State.issue_mul (un := false) h hc hv rfl
    refine ⟨t, ht, fun hb => ?_, fun hb => ?_⟩
    · obtain ⟨r, hr, hissue, hval⟩ := hbare hb
      exact ⟨r, hr, hissue, by rw [hval]; exact product_signed _ _⟩
    · rw [hservice hb]
      exact product_signed _ _
  · obtain ⟨t, ht, hbare, hservice⟩ := State.issue_mul (un := true) h hc hv rfl
    refine ⟨t, ht, fun hb => ?_, fun hb => ?_⟩
    · obtain ⟨r, hr, hissue, hval⟩ := hbare hb
      exact ⟨r, hr, hissue, by rw [hval]; exact product_unsigned _ _⟩
    · rw [hservice hb]
      exact product_unsigned _ _

/-! ## Transfers of control -/

theorem exec_jump {i : Instr} {c : CoreId} {chk : Option Nat} {taken : Core → Bool} {dest : Core → BitVec 24} (s : State)
    (h : jumpRow i = some (c, chk, taken, dest)) :
    exec i s = s.issue c.val (fun _ => chk) fun n s =>
      (s, .ok (if taken (s.core n) then { jump := some (dest (s.core n)), cycles := 2 } else {})) := by
  unfold jumpRow at h
  split at h <;> cases h <;> rfl

theorem exec_call {i : Instr} {c : CoreId} {chk : Option Nat} {dest : Core → BitVec 24} (s : State)
    (h : callRow i = some (c, chk, dest)) : exec i s = s.issue c.val (fun _ => chk) fun n s => s.call n (dest (s.core n)) := by
  unfold callRow at h
  split at h <;> cases h <;> rfl

theorem State.call_ok {s : State} {c : Nat} {p : BitVec 24} (h : (s.core c).ret.length < (s.core c).rsLimit) :
    s.call c p = (s.modCore c fun k => { k with ret := (k.pc + 1) :: k.ret }, .ok { jump := some p, cycles := 2 }) := by
  unfold State.call
  dsimp only
  rw [if_neg (by omega)]

theorem opRet_ok {s : State} {c : Nat} {p : BitVec 24} {r : List (BitVec 24)} (h : (s.core c).ret = p :: r) :
    opRet c s = (s.modCore c fun k => { k with ret := r }, .ok { jump := some p, cycles := 2 }) := by
  unfold opRet
  rw [h]

/-- Settles O19: jumps by their row, calls within LIMIT, RET from a return stack that is not empty. -/
theorem controlTransfers : Obligations.ControlTransfers := by
  unfold Obligations.ControlTransfers
  refine ⟨fun i c taken dest s hrow h => ?_, fun i c dest s hrow h hlim => ?_, fun c s p r h hret => ?_⟩
  · rw [exec_jump s hrow]
    exact State.issue_done h rfl rfl
  · rw [exec_call s hrow]
    exact State.issue_done h rfl (State.call_ok hlim)
  · change s.issue c.val (fun _ => checkZ 0) opRet = _
    exact State.issue_done h rfl (opRet_ok hret)

/-! ## Loop ends (15 R524, R525) -/

/-- Ending one level leaves the others active as they are. -/
theorem Core.active_setActive_other (k : Core) {m n : Nat} (on : Bool) (h : m ≠ n) : (k.setActive n on).active m = k.active m := by
  have hbit : (BitVec.ofNat 32 (2 ^ (10 + n)) : Word).getLsbD (10 + m) = false := by
    rw [BitVec.getLsbD_ofNat, Nat.testBit_two_pow_of_ne (by omega), Bool.and_false]
  unfold Core.active Core.setActive
  cases on
  · simp only [Bool.false_eq_true, if_false, BitVec.getLsbD_and, BitVec.getLsbD_not, hbit, Bool.not_false, Bool.and_true]
    by_cases hm : 10 + m < 32
    · simp [hm]
    · rw [BitVec.getLsbD_of_ge _ _ (by omega), Bool.false_and]
  · simp only [if_true, BitVec.getLsbD_or, hbit, Bool.or_false]

/-- No level ends at `e`: execution goes to `next`. -/
theorem Core.loopFrom_none {e next : BitVec 24} : ∀ {n : Nat} {k : Core}, (∀ m < n, (k.active m && vget k.le m == e) = false) →
    k.loopFrom e next n = { k with pc := next }
  | 0, _, _ => rfl
  | n + 1, k, h => by
    unfold Core.loopFrom
    rw [h n (by omega), if_neg (by decide)]
    exact Core.loopFrom_none fun m hm => h m (by omega)

/-- Of the levels below `d` one alone ends at `e`. -/
theorem Core.loopFrom_one {e next : BitVec 24} {n : Nat} : ∀ {d : Nat} {k : Core}, n < d → k.active n = true → vget k.le n = e →
    (∀ m < d, m ≠ n → (k.active m && vget k.le m == e) = false) →
    (1 < (vget k.lc n).toNat → k.loopFrom e next d = { k with lc := vset k.lc n (vget k.lc n - 1), pc := vget k.ls n }) ∧
    ((vget k.lc n).toNat ≤ 1 → k.loopFrom e next d = { ({ k with lc := vset k.lc n 0 }.setActive n false) with pc := next })
  | 0, _, hn, _, _, _ => absurd hn (Nat.not_lt_zero n)
  | d + 1, k, hn, ha, he, ho => by
    unfold Core.loopFrom
    by_cases h : d = n
    · subst h
      have hend : (k.active d && vget k.le d == e) = true := by rw [ha, he]; simp
      rw [hend, if_pos rfl]
      refine ⟨fun hc => if_pos hc, fun hc => ?_⟩
      dsimp only
      rw [if_neg (by omega)]
      refine Core.loopFrom_none fun m hm => ?_
      rw [Core.active_setActive_other _ _ (by omega)]
      exact ho m (by omega) (by omega)
    · rw [ho d (by omega) h, if_neg (by decide)]
      exact Core.loopFrom_one (by omega) ha he fun m hm => ho m (by omega)

/-- Settles O21: `Core.loopFrom_one` over the four levels. -/
theorem loopEnds : Obligations.LoopEnds := by
  unfold Obligations.LoopEnds
  exact fun k n e next hn ha he ho => Core.loopFrom_one hn ha he ho

end Sys2Proof.Machine

/-! # Waits, control registers, interrupts, REP and I/O of the Finial cores

O22–O26, O28–O30, and O60, which an interrupt refutes. -/

namespace Sys2Proof.Machine

/-! ## What precedes an instruction -/

/-- Every instruction begins with `State.atIssue` of its core. -/
theorem exec_atIssue {i : Instr} {c : CoreId} (h : issued i = some c) : ∃ go : State → Res, ∀ s, exec i s = s.atIssue c.val go := by
  unfold issued at h
  split at h
  case h_12 =>
    rename_i hwfe hwaitt hland
    unfold ownRow at h
    split at h <;> cases h
    case h_17.refl => exact absurd rfl (hland _)
    case h_35.refl => exact absurd rfl (hwfe _)
    case h_37.refl => exact absurd rfl (hwaitt _)
    all_goals exact ⟨_, fun _ => rfl⟩
  all_goals cases h
  all_goals exact ⟨_, fun _ => rfl⟩

theorem State.atIssue_off {s : State} {c : Nat} {go : State → Res} (h : s.issues c = false) : s.atIssue c go = .next s := by
  unfold State.atIssue
  rw [h]
  rfl

/-- A core whose operation meets the Dome's I/O space is refused (15 R542). -/
theorem State.issue_domeIo {s u : State} {c : Nat} {chk : Core → Option Nat} {op : Operation} (h : s.Issues c) (hc : chk (s.at_ c) = none)
    (ho : op c (s.fetched c) = (u, .error .domeIo)) : s.issue c chk op = .refused .domeIo := by
  unfold State.issue
  rw [State.atIssue_eq h]
  dsimp only
  unfold State.at_ at hc
  rw [hc]
  dsimp only
  rw [ho]

/-! ## Waits (15 R528–R530) -/

/-- One update of the cores below `n` that `p` names. -/
theorem forUpto_modCore (p : Nat → Bool) (g : Core → Core) (u : State) : ∀ n ≤ 8,
    (∃ cores, forUpto n (fun i s => if p i then s.modCore i g else s) u = { u with cores := cores }) ∧
    ∀ k, (forUpto n (fun i s => if p i then s.modCore i g else s) u).core k = if k < n ∧ p k = true then g (u.core k) else u.core k
  | 0, _ => ⟨⟨u.cores, rfl⟩, fun k => rfl⟩
  | n + 1, hn => by
    obtain ⟨⟨cores, hu⟩, hk⟩ := forUpto_modCore p g u n (by omega)
    rw [forUpto_succ]
    cases hp : p n
    · simp only [Bool.false_eq_true, if_false]
      refine ⟨⟨cores, hu⟩, fun k => ?_⟩
      rw [hk k]
      congr 1
      refine propext ⟨fun ⟨h, hpk⟩ => ⟨by omega, hpk⟩, fun ⟨h, hpk⟩ => ⟨?_, hpk⟩⟩
      rcases Nat.lt_succ_iff_lt_or_eq.1 h with h | rfl
      · exact h
      · rw [hp] at hpk; cases hpk
    · simp only [if_true]
      refine ⟨⟨_, by rw [hu]; rfl⟩, fun k => ?_⟩
      by_cases hkn : k = n
      · subst hkn
        rw [State.core_modCore _ _ (by omega), hk k, if_neg (by omega), if_pos ⟨by omega, hp⟩]
      · rw [State.core_modCore_other _ _ hkn, hk k]
        congr 1
        exact propext ⟨fun ⟨h, hpk⟩ => ⟨by omega, hpk⟩, fun ⟨h, hpk⟩ => ⟨by omega, hpk⟩⟩

/-- SEV sets EV and BY_SEV on the cores of its own part, and does nothing else (15 R528). -/
theorem opSev_eq (c : CoreId) (u : State) : ∃ t, opSev c.val u = (t, .ok {}) ∧ t = { u with cores := t.cores } ∧
    ∀ k : CoreId, t.core k.val =
      if decide (k.val < 3) = decide (c.val < 3) then { u.core k.val with evr := (u.core k.val).evr ||| 3 } else u.core k.val := by
  obtain ⟨⟨cores, hu⟩, hk⟩ := forUpto_modCore (fun i => decide (i < 3) == decide (c.val < 3)) (fun k => { k with evr := k.evr ||| 3 }) u 8 (by omega)
  refine ⟨_, rfl, by rw [hu], fun k => (hk k.val).trans ?_⟩
  simp only [beq_iff_eq, k.isLt, true_and]

section
variable {s : State} {c : Nat} {w : CoreWait} {ready : State → Bool} {end_ : Core → Core}

/-- A wait completes where what it waits for is there, else it stops the core's clock (15 R529, R530). -/
theorem State.wait_issued (h : s.Issues c) : s.wait c 0 w ready end_ = if ready (s.fetched c) then
    ((s.fetched c).modCore c end_).done c {} else .next ((s.fetched c).modCore c fun k => { k with wait := w, resume := none }) := by
  unfold State.wait
  rw [State.atIssue_eq h]
  rfl

theorem State.wait_reserved {f : BitVec 26} (h : s.Issues c) (hf : f ≠ 0) :
    s.wait c f w ready end_ = .next ((s.fetched c).trap c ⟨3, 1, 0⟩ ((s.fetched c).core c).pc none) := by
  unfold State.wait
  rw [State.atIssue_eq h, checkZ_reserved hf]
end

theorem exec_wfeComplete_eq (c : CoreId) (s : State) : exec (.wfeComplete c) s =
    if s.coreOn c.val && (s.core c.val).wait == .wfe && (s.core c.val).evr.getLsbD 0 then
      (s.modCore c.val fun k => { k with evr := k.evr &&& 6 }).done c.val {} else .next s := rfl

theorem exec_waittComplete_eq (c : CoreId) (s : State) : exec (.waittComplete c) s =
    if s.coreOn c.val && (s.core c.val).wait == .waitt && s.reached (s.core c.val).tcmp then s.done c.val {} else .next s := rfl

theorem exec_wfe (c : CoreId) (f : BitVec 26) (s : State) : exec (.wfe c f) s = s.wait c.val f .wfe (State.evSet c.val) Core.clearEv := rfl

theorem exec_waitt (c : CoreId) (f : BitVec 26) (s : State) :
    exec (.waitt c f) s = s.wait c.val f .waitt (fun s => s.reached (s.core c.val).tcmp) id := rfl

theorem State.modCore_id (s : State) (c : Nat) : s.modCore c id = s := by
  unfold State.modCore vmod vget vset
  have h : s.cores.setIfInBounds c (id (s.cores.getD c default)) = s.cores := by
    ext i hi
    simp only [Vector.getElem_setIfInBounds, id, Vector.getD]
    split
    · rename_i h; subst h; simp [hi]
    · rfl
  rw [h]

/-- Settles O22: SEV by its effect on the cores, the waits by `State.wait`, their ends by their conditions. -/
theorem waits : Obligations.Waits := by
  unfold Obligations.Waits
  rintro c s u rfl
  refine ⟨fun h => ?_, fun h hev => ?_, fun h hev => ?_, fun h hr => ?_, fun h hr => ?_, fun f h hf i hi => ?_, fun f h i hi => ?_,
    fun hon hw hev => ?_, fun hno => ?_, fun hon hw hr => ?_, fun hno => ?_⟩
  · obtain ⟨t, ht, hframe, hcores⟩ := opSev_eq c (s.fetched c.val)
    exact ⟨t, State.issue_done (chk := fun _ => checkZ 0) h rfl ht, hframe, hcores⟩
  · rw [exec_wfe, State.wait_issued h]
    exact if_pos hev
  · rw [exec_wfe, State.wait_issued h]
    exact if_neg (by unfold State.evSet; rw [hev]; decide)
  · rw [exec_waitt, State.wait_issued h, if_pos hr, State.modCore_id]
  · rw [exec_waitt, State.wait_issued h]
    exact if_neg (by rw [hr]; decide)
  · simp only [List.mem_cons, List.not_mem_nil, or_false] at hi
    rcases hi with rfl | rfl | rfl
    · exact State.issue_undefined (chk := fun _ => checkZ f) (op := opSev) h (checkZ_reserved hf)
    · exact State.wait_reserved h hf
    · exact State.wait_reserved h hf
  · simp only [List.mem_cons, List.not_mem_nil, or_false] at hi
    rcases hi with rfl | rfl | rfl <;> exact State.atIssue_off h
  · rw [exec_wfeComplete_eq, hon, hw, hev]
    rfl
  · rw [exec_wfeComplete_eq, if_neg]
    rcases hno with h | h | h
    · simp [h]
    · simp [h]
    · rw [h, Bool.and_false]
      decide
  · rw [exec_waittComplete_eq, hon, hw, hr]
    rfl
  · rw [exec_waittComplete_eq, if_neg]
    rcases hno with h | h | h <;> simp [h]

/-! ## Control registers (15 R512, R521) -/

/-- A write to A is always permitted and accepted. -/
theorem State.writeReg_a (s : State) (c : Nat) (v : Word) :
    s.writeReg c 0 v = (s.modCore c fun k => { k with a := v }, .ok { wrote := [0] }) :=
  State.writeReg_ok rfl rfl

section
variable {s u : State} {c : Nat} {f : BitVec 26} {n : Nat}

/-- MFC at privilege 0 of another register than RSB. -/
theorem opMfc_a {v : Core → Word} (hp : (s.core c).priv = 0) (hr : fReg f = 0) (hn : fImm f % 64 = n) (h38 : n ≠ 38)
    (hv : v (s.core c) = (if n = 32 then (s.core c).tpc.setWidth 32 else if n = 33 then (s.core c).tsr else if n = 34 then (s.core c).tcause
      else if n = 35 then (s.core c).taddr else if n = 36 then (s.core c).trc else if n = 37 then (s.core c).tvec.setWidth 32
      else if n % 2 = 0 then vget (s.core c).segBase ((n - 40) / 2) else vget (s.core c).segLimit ((n - 40) / 2))) :
    opMfc f c s = (s.modCore c fun k => { k with a := v k }, .ok { wrote := [0] }) := by
  unfold opMfc
  simp only [hp, hn, hr, ne_eq, not_true_eq_false, if_false, if_neg h38]
  rw [State.writeReg_a, ← hv]
  rfl

/-- MFC of RSB takes the oldest return address. -/
theorem opMfc_rsb {p : BitVec 24} {r : List (BitVec 24)} (hc : c < 8) (hp : (s.core c).priv = 0) (hr : fReg f = 0) (hn : fImm f % 64 = 38)
    (hret : (s.core c).ret = r ++ [p]) :
    opMfc f c s = (s.modCore c fun k => { k with ret := r, a := p.setWidth 32 }, .ok { wrote := [0] }) := by
  unfold opMfc
  simp only [hp, hn, hr, hret, ne_eq, not_true_eq_false, if_false, if_true, List.getLast?_append, List.getLast?_singleton,
    Option.some_or, Nat.reduceEqDiff]
  rw [State.writeReg_a, State.modCore_modCore _ _ _ hc]
  congr 1
  refine State.modCore_congr _ ?_
  rw [hret, List.dropLast_concat]

/-- MTC at privilege 0 where RSB has room. -/
theorem opMtc_ok {g : Core → Core} (hp : (s.core c).priv = 0) (hn : fImm f % 64 = n) (h38 : n ≠ 38)
    (hg : g (s.core c) = (if n = 32 then { s.core c with tpc := ((s.core c).reg (fReg f)).setWidth 24 }
      else if n = 33 then { s.core c with tsr := (s.core c).tsrValue c ((s.core c).reg (fReg f)) }
      else if n = 34 then { s.core c with tcause := (s.core c).reg (fReg f) &&& 0xFFFF }
      else if n = 35 then { s.core c with taddr := (s.core c).reg (fReg f) }
      else if n = 36 then { s.core c with trc := (s.core c).reg (fReg f) }
      else if n = 37 then { s.core c with tvec := ((s.core c).reg (fReg f)).setWidth 24 &&& 0xFFFFC0 }
      else if n % 2 = 0 then { s.core c with segBase := vset (s.core c).segBase ((n - 40) / 2) ((s.core c).reg (fReg f)) }
      else { s.core c with segLimit := vset (s.core c).segLimit ((n - 40) / 2) ((s.core c).reg (fReg f)) })) :
    opMtc f c s = (s.modCore c g, .ok {}) := by
  unfold opMtc
  simp only [hp, hn, ne_eq, not_true_eq_false, if_false, h38, false_and]
  congr 1
  exact State.modCore_congr _ hg.symm
end

theorem exec_mfc_done {s u : State} {c : CoreId} {f : BitVec 26} {d : Done} (h : s.Issues c.val) (hc : checkControl c.val f = none)
    (ho : opMfc f c.val (s.fetched c.val) = (u, .ok d)) : exec (.mfc c f) s = u.done c.val d :=
  State.issue_done (chk := fun _ => checkControl c.val f) h hc ho

theorem exec_mtc_done {s u : State} {c : CoreId} {f : BitVec 26} {d : Done} (h : s.Issues c.val) (hc : checkControl c.val f = none)
    (ho : opMtc f c.val (s.fetched c.val) = (u, .ok d)) : exec (.mtc c f) s = u.done c.val d :=
  State.issue_done (chk := fun _ => checkControl c.val f) h hc ho

/-- RETT at privilege 0 restores SR and pc (15 R535). -/
theorem exec_rett_ok {c : CoreId} {s : State} (h : s.Issues c.val) (hp : (s.at_ c.val).priv = 0) :
    ∃ t, exec (.rett c 0) s = .next t ∧ t.core c.val = (s.at_ c.val).rett c.val := by
  have hp' : ¬ ((s.fetched c.val).core c.val).priv ≠ 0 := fun hn => hn hp
  let u := (s.fetched c.val).modCore c.val fun k => k.rett c.val
  have hcore : u.core c.val = (s.at_ c.val).rett c.val := State.core_modCore _ _ c.isLt
  refine ⟨if c.val < 3 then u.count (2 + c.val) else u, (State.atIssue_eq h).trans (if_neg hp'), ?_⟩
  split <;> exact hcore

/-- SR after RETT: TSR's bits but for LOCKSTEP, which stays, and SEG, which Bare mode and the pairs lack. -/
theorem Core.rett_sr_bit (k : Core) (c : Nat) {j : Nat} (hj : j ≠ 8) (h15 : j ≤ 15) :
    (k.rett c).sr.getLsbD j = if j = 15 then k.sr.getLsbD 15 else k.tsr.getLsbD j := by
  unfold Core.rett
  dsimp only
  split <;> interval_cases j <;> first | contradiction | simp

/-- Settles O23: the register that each index names. -/
theorem controlRegisters : Obligations.ControlRegisters := by
  unfold Obligations.ControlRegisters
  intro c s h hp
  have hp' : ((s.fetched c.val).core c.val).priv = 0 := hp
  refine ⟨fun f hc hr hn => exec_mfc_done h hc (opMfc_a hp' hr (by rw [hn]) (by decide) rfl),
    fun f hc hr hn => exec_mfc_done h hc (opMfc_a (v := fun k => k.tcause) hp' hr (by rw [hn]) (by decide) rfl),
    fun f p r hc hr hn hret => exec_mfc_done h hc (opMfc_rsb c.isLt hp' hr (by rw [hn]) hret),
    fun f hc hn => exec_mtc_done h hc (opMtc_ok hp' (by rw [hn]) (by decide) rfl),
    fun f hc hn => exec_mtc_done h hc (opMtc_ok hp' (by rw [hn]) (by decide) rfl), ?_⟩
  obtain ⟨t, ht, hcore⟩ := exec_rett_ok h hp
  refine ⟨t, ht, ?_, ?_, fun j hj h8 => ?_, ?_⟩
  · rw [hcore]; rfl
  · rw [hcore, Core.rett_sr_bit _ _ (by decide) (by decide), if_pos rfl]
  · rw [hcore, Core.rett_sr_bit _ _ h8 (by omega), if_neg (by omega)]
  · rw [hcore]; rfl

end Sys2Proof.Machine

/-! # Interrupts, REP, privilege and I/O of the Finial cores

O24–O26, O28–O30, and O60, which an interrupt refutes. -/

namespace Sys2Proof.Machine

/-! ## The interrupt that a core takes (15 R537, R540) -/

theorem State.best_mem {s : State} {n : Nat} : ∀ {l : List Nat}, s.best l = some n → n ∈ l
  | [], h => by cases h
  | m :: r, h => by
    unfold State.best at h
    split at h
    · cases h
      exact List.mem_cons_self ..
    · rename_i k hk
      split at h <;> cases h
      · exact List.mem_cons_self ..
      · exact List.mem_cons_of_mem _ (State.best_mem hk)

/-- An interrupt that can be taken comes from one of the 64 sources. -/
theorem State.takeable_lt {s : State} {c n : Nat} (h : s.takeable c = some n) : n < 64 := by
  unfold State.takeable at h
  dsimp only at h
  split at h
  · exact List.mem_range.1 (List.mem_of_mem_filter (State.best_mem h))
  · cases h

/-! ## The entry of an interrupt -/

/-- A field of a word is the number whose bits it has. -/
theorem field_eq {w : Word} {lo n v : Nat} (hv : v < 2 ^ n) (h : ∀ j < n, w.getLsbD (lo + j) = v.testBit j) :
    w.toNat / 2 ^ lo % 2 ^ n = v := by
  apply Nat.eq_of_testBit_eq
  intro j
  by_cases hj : j < n
  · have := h j hj
    simp_all [Nat.testBit_mod_two_pow, Nat.testBit_div_two_pow, BitVec.getLsbD, Nat.add_comm]
  · rw [Nat.testBit_mod_two_pow, decide_eq_false hj, Bool.false_and]
    exact (Nat.testBit_lt_two_pow (hv.trans_le (Nat.pow_le_pow_right (by decide) (by omega)))).symm

@[simp] theorem Core.landSlot_pc (k : Core) : k.landSlot.pc = k.pc := by rw [Core.landSlot_frame]
@[simp] theorem Core.landSlot_ret (k : Core) : k.landSlot.ret = k.ret := by rw [Core.landSlot_frame]
@[simp] theorem Core.landSlot_evr (k : Core) : k.landSlot.evr = k.evr := by rw [Core.landSlot_frame]
@[simp] theorem Core.landSlot_trc (k : Core) : k.landSlot.trc = k.trc := by rw [Core.landSlot_frame]

/-- A load lands as it does whatever the event bits hold. -/
theorem Core.landSlot_setEvr (k : Core) (e : BitVec 3) : Core.landSlot { k with evr := e } = { k.landSlot with evr := e } := by
  unfold Core.landSlot Core.land
  dsimp only
  split
  · rfl
  · split_ifs <;> rfl

section
variable (k : Core) (cause detail : Nat) (addr : Word) (tpc : BitVec 24) (rep : Option Word) (ipl : Option Nat) {p : Nat}

@[simp] theorem Core.enter_x : (k.enter cause detail addr tpc rep ipl).x = k.landSlot.x := rfl
@[simp] theorem Core.enter_y : (k.enter cause detail addr tpc rep ipl).y = k.landSlot.y := rfl
@[simp] theorem Core.enter_ret : (k.enter cause detail addr tpc rep ipl).ret = k.ret := k.landSlot_ret
@[simp] theorem Core.enter_evr : (k.enter cause detail addr tpc rep ipl).evr = k.evr := k.landSlot_evr

@[simp] theorem Core.enter_trc : (k.enter cause detail addr tpc rep ipl).trc = rep.getD k.trc := by
  change rep.getD k.landSlot.trc = _
  rw [Core.landSlot_trc]

/-- An interrupt of priority `p` sets EXL and IPL and clears PRIV, IE and the loop levels (15 R535). -/
theorem Core.enter_sr_interrupt {j : Nat} (hj : j < 14) (h89 : j ∉ [8, 9]) :
    (k.enter cause detail addr tpc rep (some p)).sr.getLsbD j = (decide (j = 3) || decide (4 ≤ j) && p.testBit (j - 4)) := by
  have h : (k.enter cause detail addr tpc rep (some p)).sr =
      (((k.sr &&& ~~~(0x3C07 : Word)) ||| 8) &&& ~~~(0xF0 : Word)) ||| BitVec.ofNat 32 (p * 2 ^ 4) := by
    simp [Core.enter]
  rw [h]
  have hp (i : Nat) (hi : i < 32) : (BitVec.ofNat 32 (p * 2 ^ 4)).getLsbD i = (decide (4 ≤ i) && p.testBit (i - 4)) := by
    rw [BitVec.getLsbD_ofNat, Nat.testBit_mul_two_pow, decide_eq_true hi, Bool.true_and]
  rw [BitVec.getLsbD_or, hp j (by omega)]
  interval_cases j <;> simp at h89 ⊢

/-- TSR keeps SR, with its REP bit set where the interrupt falls into a REP (15 R526, R535). -/
theorem Core.enter_tsr (j : Nat) : (k.enter cause detail addr tpc rep ipl).tsr.getLsbD j =
    if j = 14 then rep.isSome else k.sr.getLsbD j := by
  have h : (k.enter cause detail addr tpc rep ipl).tsr = if rep.isSome then k.sr ||| 0x4000 else k.sr &&& ~~~(0x4000 : Word) := by
    simp [Core.enter]
  rw [h]
  by_cases hj : j < 32
  · cases rep <;> interval_cases j <;> simp
  · have h32 (w : Word) : w.getLsbD j = false := BitVec.getLsbD_of_ge w j (by omega)
    rw [h32, h32, if_neg (by omega)]

theorem Core.enter_interrupt_priv : (k.enter cause detail addr tpc rep (some p)).sr.toNat % 4 = 0 := by
  have h : ∀ j < 2, (k.enter cause detail addr tpc rep (some p)).sr.getLsbD (0 + j) = (0 : Nat).testBit j := by
    intro j hj
    rw [Core.enter_sr_interrupt _ _ _ _ _ _ (by omega) (by simp; omega)]
    interval_cases j <;> rfl
  simpa using field_eq (by decide) h

theorem Core.enter_interrupt_ipl (hp : p < 2 ^ 4) : (k.enter cause detail addr tpc rep (some p)).sr.toNat / 16 % 16 = p := by
  refine field_eq (lo := 4) (n := 4) hp fun j hj => ?_
  rw [Core.enter_sr_interrupt _ _ _ _ _ _ (by omega) (by simp; omega), decide_eq_false (by omega), decide_eq_true (by omega),
    Nat.add_sub_cancel_left, Bool.false_or, Bool.true_and]

theorem Core.enter_interrupt_loops (hp : p < 2 ^ 4) : (k.enter cause detail addr tpc rep (some p)).sr.toNat / 1024 % 16 = 0 := by
  refine field_eq (lo := 10) (n := 4) (by decide) fun j hj => ?_
  rw [Core.enter_sr_interrupt _ _ _ _ _ _ (by omega) (by simp; omega), decide_eq_false (by omega),
    Nat.testBit_lt_two_pow (hp.trans_le (Nat.pow_le_pow_right (by decide) (by omega))), Bool.and_false, Nat.zero_testBit, Bool.or_false]
end

/-- The core of an interrupt enters with the event bits of a source not seen before (15 R528). -/
theorem State.core_interrupt (s : State) {c n : Nat} (rep : Option Word) (hc : c < 8) : (s.interrupt c n rep).core c =
    Core.enter { s.core c with evr := if (vget s.intc n).sampled = true then (s.core c).evr else (s.core c).evr ||| 5 } 0x10 n 0 (s.core c).pc
      rep (some (vget s.intc n).prioNow.toNat) := by
  have h := State.core_modCore (State.count { s with intc := vmod s.intc n fun r => { r with sampled := true } } (15 + c))
    (fun k => Core.enter { k with evr := if !(vget s.intc n).sampled then k.evr ||| 5 else k.evr } 0x10 n 0 k.pc rep
      (some (vget s.intc n).prioNow.toNat)) hc
  refine h.trans ?_
  cases (vget s.intc n).sampled <;> rfl

theorem State.core_interrupt_other (s : State) {c n j : Nat} (rep : Option Word) (hj : j ≠ c) : (s.interrupt c n rep).core j = s.core j :=
  State.core_modCore_other _ _ hj

theorem State.sampled_interrupt (s : State) {c n : Nat} (rep : Option Word) (hn : n < 64) :
    (vget (s.interrupt c n rep).intc n).sampled = true :=
  congrArg IntSource.sampled (vget_vmod_same s.intc _ hn)

/-- The state in which core `c` takes an interrupt: a WAITT whose target is reached has completed (15 R543). -/
def State.waited (s : State) (c : Nat) : State :=
  if (s.core c).wait = .waitt ∧ s.reached (s.core c).tcmp = true then s.complete c {} else s

theorem exec_interruptEntry {s : State} {c : DrumCore} {n : Nat} (hon : s.coreOn c.val = true) (hn : s.takeable c.val = some n) :
    exec (.interruptEntry c) s = .next ((s.waited c.val).interrupt c.val n ((s.waited c.val).core c.val).resume) := by
  change execInterruptEntry c s = _
  unfold execInterruptEntry State.waited
  rw [hon, hn]
  simp only [Bool.not_true, Bool.false_eq_true, if_false, Bool.and_eq_true, beq_iff_eq]

theorem exec_interruptEntry_none {s : State} {c : DrumCore} (h : s.coreOn c.val = false ∨ s.takeable c.val = none) :
    exec (.interruptEntry c) s = .next s := by
  change execInterruptEntry c s = _
  unfold execInterruptEntry
  rcases h with h | h <;> rw [h]
  · rfl
  · split <;> rfl

theorem State.waited_intc (s : State) (c : Nat) : (s.waited c).intc = s.intc := by
  unfold State.waited
  split
  · exact State.complete_intc ..
  · rfl

theorem State.waited_mem (s : State) (c : Nat) : (s.waited c).mem = s.mem := by
  unfold State.waited
  split
  · exact State.complete_mem ..
  · rfl

theorem State.waited_other (s : State) {c j : Nat} (hj : j ≠ c) : (s.waited c).core j = s.core j := by
  unfold State.waited
  split
  · exact State.core_complete_other _ _ hj
  · rfl

/-- A core that issues does not wait. -/
theorem State.waited_issues {s : State} {c : Nat} (h : s.issues c = true) : s.waited c = s := by
  unfold State.waited
  rw [if_neg]
  rintro ⟨hw, -⟩
  unfold State.issues at h
  rw [hw, Bool.and_eq_true] at h
  exact absurd h.2 (by decide)

theorem State.coreOn_of_issues {s : State} {c : Nat} (h : s.issues c = true) : s.coreOn c = true := by
  unfold State.issues at h
  rw [Bool.and_eq_true] at h
  exact h.1

/-- Settles O24: the entry of the core by `State.core_interrupt`, an interrupt before an instruction by `State.atIssue`. -/
theorem interruptEntry : Obligations.InterruptEntry := by
  unfold Obligations.InterruptEntry
  intro c s k hk
  have hk' : (s.waited c.val).core c.val = k := hk.symm
  have hc8 : c.val < 8 := by omega
  refine ⟨fun n hon hn => ⟨_, exec_interruptEntry hon hn, ?_⟩, fun i d n hi hd hiss hn => ?_, fun h => exec_interruptEntry_none h⟩
  · have hlt := State.takeable_lt hn
    have hprio : (vget s.intc n).prioNow.toNat < 2 ^ 4 := (vget s.intc n).prioNow.isLt
    have hcore := (s.waited c.val).core_interrupt (n := n) ((s.waited c.val).core c.val).resume hc8
    rw [hk', State.waited_intc] at hcore
    rw [hk', hcore]
    have hland := k.landSlot_setEvr (if (vget s.intc n).sampled = true then k.evr else k.evr ||| 5)
    refine ⟨rfl, rfl, ?_, ?_, ?_, ?_, ?_, ?_, ?_, fun j hj => ?_, ?_, ?_, rfl, rfl, ?_, ?_, ?_, ?_, ?_, ?_, ?_, ?_, ?_, fun j hj => ?_⟩
    · rw [Core.enter_tcause, Nat.mod_eq_of_lt (by omega)]
    · exact Core.enter_pc ..
    · exact Core.enter_sr_interrupt _ _ _ _ _ _ (by decide) (by decide)
    · exact Core.enter_sr_interrupt _ _ _ _ _ _ (by decide) (by decide)
    · exact Core.enter_interrupt_priv ..
    · exact Core.enter_interrupt_ipl _ _ _ _ _ _ hprio
    · exact Core.enter_interrupt_loops _ _ _ _ _ _ hprio
    · rw [Core.enter_tsr, if_neg hj]
    · rw [Core.enter_tsr, if_pos rfl]
    · exact Core.enter_trc ..
    · exact Core.enter_evr ..
    · rw [Core.enter_a, hland]
    · rw [Core.enter_x, hland]
    · rw [Core.enter_y, hland]
    · exact Core.enter_slot ..
    · exact Core.enter_ret ..
    · exact Core.enter_dsp ..
    · exact State.sampled_interrupt _ _ hlt
    · exact State.waited_mem ..
    · rw [State.core_interrupt_other _ _ hj, State.waited_other _ hj]
  · obtain ⟨go, hgo⟩ := exec_atIssue hi
    rw [hgo, hd, State.atIssue_interrupt hiss hn, exec_interruptEntry (State.coreOn_of_issues hiss) hn, State.waited_issues hiss]

/-! ## Products on their way (15 R519) -/

theorem exec_bareMulProductLand {s : State} {c : CoreId} {p : Product} {r : List Product} (hon : s.coreOn c.val = true)
    (hp : (s.core c.val).products = p :: r) :
    exec (.bareMulProductLand c) s = .next (s.modCore c.val fun k => { k with cycle := max k.cycle (p.issue + 4) }.landProducts) := by
  change execBareMulProductLand c s = _
  unfold execBareMulProductLand
  rw [hon, hp]
  rfl

/-- One product that is due lands. -/
theorem Core.landProducts_one {k : Core} {p : Product} (hp : k.products = [p]) (hd : p.issue + 4 ≤ k.cycle) :
    k.landProducts = { k with mph := p.hi, mpl := p.lo, products := [] } := by
  unfold Core.landProducts
  rw [hp]
  simp [hd, Nat.not_lt.2 hd]

/-- Settles O25: the core's cycle is moved to the product's, and the product is due. -/
theorem productLands : Obligations.ProductLands := by
  unfold Obligations.ProductLands
  intro c s p hon hp
  refine ⟨_, exec_bareMulProductLand hon hp, ?_⟩
  have hland : Core.landProducts { s.core c.val with cycle := max (s.core c.val).cycle (p.issue + 4) } =
      { s.core c.val with cycle := max (s.core c.val).cycle (p.issue + 4), mph := p.hi, mpl := p.lo, products := [] } :=
    Core.landProducts_one hp (le_max_right _ _)
  rw [State.core_modCore _ _ c.isLt, hland]
  exact ⟨rfl, rfl, rfl, le_max_right _ _⟩

/-! ## REP (15 R526, 16 R556) -/

/-- Products that land change MPH and MPL alone. -/
theorem Core.landProducts_frame (k : Core) :
    k.landProducts = { k with mph := k.landProducts.mph, mpl := k.landProducts.mpl, products := k.landProducts.products } := by
  have h : ∀ (l : List Product) (m : Core), l.foldl (fun k p => { k with mph := p.hi, mpl := p.lo }) m =
      { m with mph := (l.foldl (fun k p => { k with mph := p.hi, mpl := p.lo }) m).mph
               mpl := (l.foldl (fun k p => { k with mph := p.hi, mpl := p.lo }) m).mpl } := by
    intro l
    induction l with
    | nil => exact fun m => rfl
    | cons p l ih => exact fun m => by rw [List.foldl_cons, ih]
  unfold Core.landProducts
  dsimp only
  rw [h]

/-- What an iteration of ADD with an immediate leaves in its core: A and the pc, a free slot, no loop active. -/
structure Core.Adds (k : Core) (a : Word) (pc : BitVec 24) : Prop where
  a : k.a = a
  pc : k.pc = pc
  slot : k.slot = none
  loops : ∀ m < 4, k.active m = false

theorem State.core_endRep (s : State) {c : Nat} (n : Nat) (hc : c < 8) :
    (s.endRep c n).core c = { (s.core c).loopCheck (s.core c).pc ((s.core c).pc + 2) with resume := none } := by
  have h := State.core_modCore s (fun k => { k.loopCheck k.pc (k.pc + 2) with resume := none }) hc
  unfold State.endRep
  dsimp only
  split <;> exact h

/-- `left` iterations of ADD with an immediate. -/
theorem State.iterate_add {c : Nat} {f : BitVec 26} (hc : c < 8) (hm : fMode f = 0) : ∀ (left done : Nat) (s : State) (a : Word) (pc : BitVec 24),
    (s.core c).Adds a pc → ∃ t, s.iterate c (opAdd f) done none left = .next t ∧
      (t.core c).a = a + BitVec.ofNat 32 left * sext16 (fImm f) ∧ (t.core c).pc = pc + 2
  | 0, done, s, a, pc, h => by
    refine ⟨_, rfl, ?_⟩
    have hend := Core.loopFrom_none (e := (s.core c).pc) (next := (s.core c).pc + 2) (n := 4) (k := s.core c) fun m hm => by
      rw [h.loops m hm, Bool.false_and]
    rw [State.core_endRep _ _ hc, Core.loopCheck, hend]
    exact ⟨by simp [h.a], by rw [h.pc]⟩
  | left + 1, done, s, a, pc, h => by
    have ho : opAdd f c (s.modCore c Core.landProducts) = ((s.modCore c Core.landProducts).modCore c fun k =>
        { k.postModify (fMode f) (fImm f) with a := k.a + sext16 (fImm f) },
          .ok { wrote := 0 :: postRegs (fMode f), cycles := if fMode f < 3 then 1 else 2 }) := by
      have hd := State.operand_direct (s := s.modCore c Core.landProducts) (c := c) (f := f) (un := false) (by omega)
      rw [if_pos hm] at hd
      exact opAlu_ok hd
    unfold State.iterate
    rw [if_neg (fun hn => absurd hn.1 nofun)]
    dsimp only
    rw [ho]
    dsimp only
    have hstep : ((((s.modCore c Core.landProducts).modCore c fun k =>
        { k.postModify (fMode f) (fImm f) with a := k.a + sext16 (fImm f) }).modCore c fun k =>
        { k.endSlot (0 :: postRegs (fMode f)) none with cycle := k.cycle + if fMode f < 3 then 1 else 2 }).core c).Adds
          (a + sext16 (fImm f)) pc := by
      rw [State.core_modCore _ _ hc, State.core_modCore _ _ hc, State.core_modCore _ _ hc, Core.landProducts_frame,
        Core.postModify_direct _ _ (by omega)]
      unfold Core.endSlot
      dsimp only
      rw [h.slot]
      exact ⟨by rw [h.a], h.pc, rfl, h.loops⟩
    obtain ⟨t, ht, hta, htpc⟩ := State.iterate_add hc hm left (done + 1) _ _ _ hstep
    refine ⟨t, ht, ?_, htpc⟩
    have hsucc : BitVec.ofNat 32 (left + 1) = BitVec.ofNat 32 left + 1 := BitVec.ofNat_add ..
    rw [hta, hsucc]
    ring

/-- The word ADD with an immediate. -/
theorem repeated_add {c : Nat} {w : Word} (h5 : w.toNat / 2 ^ 26 = 5) :
    repeated c w = some (checkOperand aluModes (w.setWidth 26), opAdd (w.setWidth 26)) := by
  unfold repeated
  rw [h5]
  rfl

theorem field_of_word {w : Word} (h : w.toNat / 2 ^ 16 % 1024 = 0) : fMode (w.setWidth 26) = 0 ∧ fReg (w.setWidth 26) = 0 ∧
    fImm (w.setWidth 26) = w.toNat % 65536 := by
  unfold fMode fReg fImm
  rw [BitVec.toNat_setWidth]
  omega

theorem exec_rep_add {c : CoreId} {f : BitVec 26} {w : Word} {s : State} (h : s.Issues c.val)
    (hfetch : ((s.fetched c.val).fetchTrap c.val ((s.at_ c.val).pc + 1)).2 = none) (hf : checkRep f = none) (h5 : w.toNat / 2 ^ 26 = 5)
    (h0 : w.toNat / 2 ^ 16 % 1024 = 0) (hr : (s.at_ c.val).resume = none) (h3 : fMode f = 3) :
    exec (.rep c f w none) s =
      ((((s.fetched c.val).fetchTrap c.val ((s.at_ c.val).pc + 1)).1.modCore c.val fun k =>
        { k.landSlot with cycle := k.cycle + 1, resume := none }).iterate c.val (opAdd (w.setWidth 26)) 0 none (fImm f)) := by
  obtain ⟨hm, hreg, -⟩ := field_of_word h0
  have hchk : checkOperand aluModes (w.setWidth 26) = none := by
    unfold checkOperand
    rw [hm, hreg]
    rfl
  have hcount : (BitVec.ofNat 32 (fImm f)).toNat = fImm f := by
    rw [BitVec.toNat_ofNat, Nat.mod_eq_of_lt]
    exact (Nat.mod_lt _ (by decide)).trans (by decide)
  refine (State.atIssue_eq h).trans ?_
  dsimp only
  rw [show (s.fetched c.val).fetchTrap c.val (((s.fetched c.val).core c.val).pc + 1) =
    (((s.fetched c.val).fetchTrap c.val ((s.at_ c.val).pc + 1)).1, none) from Prod.ext rfl hfetch]
  dsimp only
  rw [hf, repeated_add h5, hchk, show ((s.fetched c.val).core c.val).resume = none from hr]
  simp only [Option.or_none, Option.getD_none, if_pos h3, hcount, ite_self]

/-- Settles O26: an induction over the iterations. -/
theorem repeatedAdd : Obligations.RepeatedAdd := by
  unfold Obligations.RepeatedAdd
  intro c f w s n h hfetch hf h5 h0 hr h3 hn hl
  obtain ⟨hm, -, himm⟩ := field_of_word h0
  rw [exec_rep_add h hfetch hf h5 h0 hr h3, hn, ← himm]
  refine State.iterate_add c.isLt hm _ _ _ _ _ ?_
  have hcore : ((s.fetched c.val).fetchTrap c.val ((s.at_ c.val).pc + 1)).1.core c.val = s.at_ c.val :=
    (State.attempted_fetchTrap ..).core c.val
  rw [State.core_modCore _ _ c.isLt, hcore]
  refine ⟨rfl, ?_, (s.at_ c.val).landSlot_slot, fun m hm => ?_⟩
  · exact (s.at_ c.val).landSlot_pc
  · refine Eq.trans ?_ (hl m hm)
    unfold Core.active
    exact congrArg (BitVec.getLsbD · (10 + m)) (s.at_ c.val).landSlot_sr

/-! ## Privilege and I/O (15 R512, R515, R542) -/

/-- An instruction whose operation takes a trap at once enters its vector. -/
theorem State.issue_traps {s : State} {c : CoreId} {chk : Option Nat} {op : Operation} {cause detail n : Nat} {addr : Word} (h : s.Issues c.val)
    (hc : chk = none) (hx : (s.at_ c.val).sr.getLsbD 3 = false)
    (ho : op c.val (s.fetched c.val) = (s.fetched c.val, .error (.trap ⟨cause, detail, addr⟩))) (hn : n = cause + detail % 256 * 256) :
    ∃ t, s.issue c.val (fun _ => chk) op = .next t ∧ (t.core c.val).tcause = BitVec.ofNat 32 n ∧ (t.core c.val).taddr = addr := by
  refine ⟨_, State.issue_trap (chk := fun _ => chk) h hc ho, ?_⟩
  rw [State.core_trap _ _ _ c.isLt hx, hn]
  exact ⟨Core.enter_tcause .., Core.enter_taddr ..⟩

section
variable {s : State} {c : Nat} {f : BitVec 26}

theorem opMfc_denied (hp : (s.core c).priv ≠ 0) : opMfc f c s = (s, .error (.priv 3 (fImm f % 64))) := by
  unfold opMfc
  exact if_pos hp

theorem opMtc_denied (hp : (s.core c).priv ≠ 0) : opMtc f c s = (s, .error (.priv 3 (fImm f % 64))) := by
  unfold opMtc
  exact if_pos hp

theorem opIn_denied (hp : 2 ≤ (s.core c).priv) : opIn f c s = (s, .error (.priv 4 ((s.core c).ioAddr f))) := by
  unfold opIn State.doIn
  exact if_pos hp

theorem opOut_denied (hp : 2 ≤ (s.core c).priv) : opOut f c s = (s, .error (.priv 4 ((s.core c).ioAddr f))) := by
  unfold opOut State.doOut
  exact if_pos (Or.inl hp)
end

theorem exec_rett_denied {s : State} {c : CoreId} (h : s.Issues c.val) (hp : (s.at_ c.val).priv ≠ 0) :
    exec (.rett c 0) s = .next ((s.fetched c.val).trap c.val ⟨2, 5, 0⟩ (s.at_ c.val).pc none) := by
  have hp' : ((s.fetched c.val).core c.val).priv ≠ 0 := hp
  exact (State.atIssue_eq h).trans (if_pos hp')

theorem exec_mfc (c : CoreId) (f : BitVec 26) (s : State) : exec (.mfc c f) s = s.issue c.val (fun _ => checkControl c.val f) (opMfc f) := rfl
theorem exec_mtc (c : CoreId) (f : BitVec 26) (s : State) : exec (.mtc c f) s = s.issue c.val (fun _ => checkControl c.val f) (opMtc f) := rfl
theorem exec_inp (c : CoreId) (f : BitVec 26) (s : State) : exec (.inp c f) s = s.issue c.val (fun _ => checkIo f) (opIn f) := rfl
theorem exec_outp (c : CoreId) (f : BitVec 26) (s : State) : exec (.outp c f) s = s.issue c.val (fun _ => checkIo f) (opOut f) := rfl

/-- Settles O28: each privileged instruction is denied before it does anything. -/
theorem privilegeTraps : Obligations.PrivilegeTraps := by
  unfold Obligations.PrivilegeTraps
  intro c f s h hx hp
  refine ⟨⟨_, exec_rett_denied h hp, ?_⟩, fun hc i hi => ?_, fun hc h2 i hi => ?_⟩
  · rw [State.core_trap _ _ _ c.isLt hx, Core.enter_tcause, Core.enter_pc]
    exact ⟨rfl, rfl⟩
  · simp only [List.mem_cons, List.not_mem_nil, or_false] at hi
    rcases hi with rfl | rfl
    · rw [exec_mfc]
      exact State.issue_traps h hc hx (opMfc_denied hp) rfl
    · rw [exec_mtc]
      exact State.issue_traps h hc hx (opMtc_denied hp) rfl
  · simp only [List.mem_cons, List.not_mem_nil, or_false] at hi
    have hp2 : 2 ≤ ((s.fetched c.val).core c.val).priv := le_of_eq h2.symm
    rcases hi with rfl | rfl
    · rw [exec_inp]
      exact State.issue_traps h hc hx (opIn_denied hp2) rfl
    · rw [exec_outp]
      exact State.issue_traps h hc hx (opOut_denied hp2) rfl

/-- Settles O29: privilege 0 permits both, and cores 3 to 7 are the Dome's. -/
theorem domeIoRefused : Obligations.DomeIoRefused := by
  unfold Obligations.DomeIoRefused
  intro c f s h hc hf hp
  have hp' : ((s.fetched c.val).core c.val).priv = 0 := hp
  constructor
  · refine State.issue_domeIo (chk := fun _ => checkIo f) (op := opIn f) (u := s.fetched c.val) h hf ?_
    unfold opIn State.doIn
    rw [if_neg (by omega), if_pos hc]
  · refine State.issue_domeIo (chk := fun _ => checkIo f) (op := opOut f) (u := s.fetched c.val) h hf ?_
    unfold opOut State.doOut
    dsimp only
    rw [hp', if_neg (by omega), if_pos hc]

section
variable {s u : State} {c : DrumCore} {r a v : Nat} {w x : Word}

/-- A permitted IN of a Drum core that the register answers. -/
theorem State.doIn_ok (hp : (s.core c.val).priv < 2) (hr : s.ioRead a = (u, .ok w)) :
    s.doIn c.val r a = (u, .ok { load := some { reg := r, value := w }, cycles := 2 }) := by
  unfold State.doIn
  rw [if_neg (by omega), if_neg (by omega), hr]

/-- A permitted OUT of a Drum core that the register accepts. -/
theorem State.doOut_ok (hp : (s.core c.val).priv = 0 ∨ (s.core c.val).priv = 1 ∧ outPrivileged a = false)
    (hw : s.ioWrite c.val (s.core c.val).priv a x.toNat = .ok u) : s.doOut c.val a x = (u, .ok { cycles := 2 }) := by
  have hok : ¬ (2 ≤ (s.core c.val).priv ∨ (s.core c.val).priv = 1 ∧ outPrivileged a = true) := by
    rcases hp with hp | ⟨hp, ha⟩ <;> rw [hp]
    · omega
    · rw [ha]; simp
  unfold State.doOut
  dsimp only
  rw [if_neg hok, if_neg (by omega), hw]

/-- An OUT as a command of its own. -/
theorem State.outRow_done (h : s.MayOut c a) (hw : (s.fetched c.val).ioWrite c.val (s.at_ c.val).priv a x.toNat = .ok u) :
    s.outRow c.val a x = u.outDone c.val :=
  State.issue_done (chk := fun _ => none) (op := fun n s => s.doOut n a x) h.issues rfl (State.doOut_ok h.priv hw)

/-- An IN as a command of its own. -/
theorem State.inRow_done {r : AXY} (h : s.MayIn c) (hr : (s.fetched c.val).readBlock a = some (u, v)) :
    s.inRow c.val r.num a = u.inDone c.val r v := by
  have hio : (s.fetched c.val).ioRead a = (u, .ok (BitVec.ofNat 32 v)) := by
    unfold State.ioRead
    rw [hr]
  exact State.issue_done (chk := fun _ => none) (op := fun n s => s.doIn n r.num a) h.issues rfl (State.doIn_ok h.priv hio)
end

/-- Settles O30: `State.doIn_ok` and `State.doOut_ok`. -/
theorem inOut : Obligations.InOut := by
  unfold Obligations.InOut
  intro c f s k hk hf
  refine ⟨fun u v h hr => ?_, fun u h hw => ?_, fun u a v h hw => State.outRow_done h hw⟩
  · change s.issue k.val (fun _ => checkIo f) (opIn f) = _
    rw [hk]
    exact State.issue_done h.issues hf (State.doIn_ok h.priv hr)
  · change s.issue k.val (fun _ => checkIo f) (opOut f) = _
    rw [hk]
    exact State.issue_done h.issues hf (State.doOut_ok h.priv hw)

/-! ## An interrupt in an instruction's place marks its source (15 R528, R537) -/

/-- D0 in Service mode with interrupts enabled; software has forced source 0, of priority 1, which no tick has sampled yet. -/
def forcedSource : State :=
  { State.reset with
    pwr := { phase := .running, vin := 120 }
    cores := vset State.reset.cores 0 { sr := 4, pc := 0xFF0000, held := false }
    intc := vset State.reset.intc 0 { prioNow := 1, swset := true } }

theorem forcedSource_issues : forcedSource.issues 0 = true := by decide +kernel

theorem forcedSource_takeable : forcedSource.takeable 0 = some 0 := by decide +kernel

theorem forcedSource_exl : (forcedSource.core 0).sr.getLsbD 3 = false := by decide +kernel

theorem forcedSource_sampled : (vget forcedSource.intc 0).sampled = false := by decide +kernel

/-- Refutes O60: a NOP in whose place an interrupt is taken marks the source as sampled, in the interrupt controller. -/
theorem not_finialFrames : ¬ Obligations.FinialFrames := by
  unfold Obligations.FinialFrames
  rintro ⟨hown, -⟩
  obtain ⟨go, hgo⟩ := exec_atIssue (i := .nop 0 0) (c := 0) rfl
  have hexec : exec (.nop 0 0) forcedSource = .next (forcedSource.interrupt 0 0 (forcedSource.core 0).resume) :=
    (hgo forcedSource).trans (State.atIssue_interrupt forcedSource_issues forcedSource_takeable)
  obtain ⟨hframe, -⟩ := hown (.nop 0 0) 0 forcedSource _ rfl forcedSource_exl hexec
  have hintc : (forcedSource.interrupt 0 0 (forcedSource.core 0).resume).intc = forcedSource.intc := by
    unfold State.likeButCore at hframe
    rw [hframe]
  have hsampled := forcedSource.sampled_interrupt (c := 0) (forcedSource.core 0).resume (n := 0) (by decide)
  rw [hintc, forcedSource_sampled] at hsampled
  cases hsampled

end Sys2Proof.Machine

/-! # Registers: INs with an effect (O31)

The block that answers an address, the fields of a written word, then the reads. -/

namespace Sys2Proof.Machine

/-! ## The block that answers a read -/

section
variable (s : State) {a : Nat}

theorem State.readBlock_ring (h : 0x0800 ≤ a) (h' : a < 0x0A00) : s.readBlock a = s.readRing a := by
  unfold State.readBlock
  rw [if_neg (by omega), if_neg (by omega), if_neg (by omega), if_neg (by omega), if_pos h']

theorem State.readBlock_uart (h : 0x1800 ≤ a) (h' : a < 0x1A00) : s.readBlock a = s.readUart a := by
  unfold State.readBlock
  iterate 9 rw [if_neg (by omega)]
  rw [if_pos h']

theorem State.readBlock_pmon (h : 0x1E00 ≤ a) (h' : a < 0x2000) : s.readBlock a = s.readPmon a := by
  unfold State.readBlock
  iterate 12 rw [if_neg (by omega)]
  rw [if_pos h']

theorem State.readBlock_intc (h : 0x2000 ≤ a) (h' : a < 0x3000) : s.readBlock a = s.readIntc a := by
  unfold State.readBlock
  iterate 13 rw [if_neg (by omega)]
  rw [if_pos h']
end

/-! ## The reads with an effect -/

theorem toList_four (v : Vector Nat 4) : v.toList = [vget v 0, vget v 1, vget v 2, vget v 3] := by
  refine List.ext_getElem (by simp) fun i h _ => ?_
  have hi : i < 4 := by simpa using h
  interval_cases i <;> simp [vget, Vector.getD]

/-- The four bytes that EVT_STAT packs, each at most 255. -/
theorem packBytes (v : Vector Nat 4) {n : Nat} (hn : n < 4) :
    ((v.toList.map (min 255)).foldr (fun x a => x + 256 * a) 0) / 256 ^ n % 256 = min 255 (vget v n) := by
  rw [toList_four]
  simp only [List.map_cons, List.map_nil, List.foldr]
  interval_cases n <;> simp only [Nat.reducePow] <;> omega

theorem vget_zipWith {α β γ : Type} [Inhabited α] [Inhabited β] [Inhabited γ] {n i : Nat} (f : α → β → γ) (v : Vector α n) (w : Vector β n)
    (h : i < n) : vget (Vector.zipWith f v w) i = f (vget v i) (vget w i) := by
  simp [vget, Vector.getD, h]

/-- UART places run from 0 to 7 without 6. -/
theorem drumUart_lt (n : Fin 7) : drumUart n < 8 ∧ drumUart n ≠ 6 := by
  unfold drumUart
  split <;> omega

section
variable (u : State)

theorem State.readRing_drops {n : Nat} (hn : n < 16) : u.readBlock (0x0805 + 8 * n) =
    some (({ u with start := { u.start with drops := vset u.start.drops n 0 } } : State).modRing n
      (fun k => { k with drops := k.drops - vget u.start.drops n }), vget u.start.drops n) := by
  rw [State.readBlock_ring _ (by omega) (by omega)]
  unfold State.readRing
  have hplace : (0x0805 + 8 * n - 0x0800) / 8 = n := by omega
  have hoff : (0x0805 + 8 * n) % 8 = 5 := by omega
  rw [if_neg (by omega), if_pos (by omega)]
  simp only [hplace, hoff]
  rfl

theorem State.readIntc_claim {n : Nat} (hn : n < 3) : u.readBlock (0x2040 + n) = some (u.claimSource n) := by
  rw [State.readBlock_intc _ (by omega) (by omega)]
  unfold State.readIntc
  rw [if_neg (by omega), if_pos (by omega), Nat.add_sub_cancel_left]

theorem State.readUart_rxd (n : Fin 7) : u.readBlock (0x1803 + 64 * drumUart n) = match (vget u.uarts (drumUart n)).rx with
    | [] => some (u, 0)
    | e :: r => some (u.modUart (drumUart n) fun u => { u with rx := r, popDt := e.dt }, e.bits.toNat + 2 ^ 31) := by
  obtain ⟨hlt, h6⟩ := drumUart_lt n
  rw [State.readBlock_uart _ (by omega) (by omega)]
  unfold State.readUart
  have hplace : (0x1803 + 64 * drumUart n - 0x1800) / 64 = drumUart n := by omega
  have hoff : (0x1803 + 64 * drumUart n) % 64 = 3 := by omega
  simp only [hplace, hoff, if_neg h6]
  rfl

theorem State.readPmon_low {n : Nat} (hn : n < 16) : u.readBlock (0x1E01 + 4 * n) =
    some ({ u with pmon := { u.pmon with counters := vmod u.pmon.counters n fun k =>
      { k with high := BitVec.ofNat 16 (k.value.toNat / 2 ^ 32) } } }, (vget u.pmon.counters n).value.toNat % 2 ^ 32) := by
  rw [State.readBlock_pmon _ (by omega) (by omega)]
  unfold State.readPmon
  have hplace : (0x1E01 + 4 * n - 0x1E00) / 4 = n := by omega
  have hoff : (0x1E01 + 4 * n) % 4 = 1 := by omega
  rw [if_pos (by omega)]
  simp only [hplace, hoff]
  rfl

/-- EVT_STAT gives the merged counts of the tick's start and leaves what the tick has added (03 R105, 00 R7). -/
theorem State.readEvt_stat : ∃ v w, u.readBlock 0x1C04 = some (w, v) ∧
    (∀ n < 4, v / 256 ^ n % 256 = min 255 (vget u.start.merged n) ∧
      vget w.evt n = { vget u.evt n with merged := (vget u.evt n).merged - vget u.start.merged n }) ∧
    w = { u with evt := w.evt, start := { u.start with merged := Vector.replicate 4 0 } } := by
  exact ⟨_, _, rfl, fun n hn => ⟨packBytes _ hn, vget_zipWith (fun (e : EvtInput) d => { e with merged := added e.merged d }) _ _ hn⟩, rfl⟩
end

/-- Settles O31: each row by the block that answers its address. -/
theorem registerReads : Obligations.RegisterReads := by
  unfold Obligations.RegisterReads
  rintro c r s u h rfl
  refine ⟨State.inRow_done h rfl, ?_, State.inRow_done h rfl, fun n => State.inRow_done h (State.readRing_drops _ n.isLt),
    fun n hn => State.inRow_done h ?_, fun n k hn => State.inRow_done h ?_, fun n hn => State.inRow_done h ?_,
    fun n e l hn => State.inRow_done h ?_, fun n => State.inRow_done h (State.readPmon_low _ n.isLt)⟩
  · obtain ⟨v, w, hr, hv, hw⟩ := (s.fetched c.val).readEvt_stat
    exact ⟨v, w, State.inRow_done h hr, hv, hw⟩
  · rw [State.readIntc_claim _ n.isLt]
    unfold State.claimSource
    rw [hn]
  · rw [State.readIntc_claim _ n.isLt]
    unfold State.claimSource
    rw [hn]
  · rw [State.readUart_rxd, hn]
  · rw [State.readUart_rxd, hn]

end Sys2Proof.Machine

/-! # Registers: OUTs that act when written (O32–O34)

The fields of a written word and the block that takes an address, then the writes of registers, rings and DMA channels. -/

namespace Sys2Proof.Machine

/-! ## Fields of a word -/

section
variable {v w : Word} {i m k : Nat}

theorem ofNat_field (w : Word) (m k : Nat) : BitVec.ofNat k (w.toNat / 2 ^ m) = w.extractLsb' m k := by
  apply BitVec.eq_of_toNat_eq
  rw [BitVec.toNat_ofNat, BitVec.extractLsb'_toNat, Nat.shiftRight_eq_div_pow]

theorem ofNat_low (w : Word) (k : Nat) : BitVec.ofNat k w.toNat = w.setWidth k := BitVec.ofNat_toNat ..

theorem withBit_getLsbD (hi : i < 32) (j : Nat) : (withBit v i).getLsbD j = (v.getLsbD j || decide (j = i)) := by
  unfold withBit
  rw [BitVec.getLsbD_or, BitVec.getLsbD_ofNat, Nat.testBit_two_pow]
  by_cases hj : j < 32
  · rw [decide_eq_true hj, Bool.true_and]
    congr 1
    exact decide_eq_decide.2 eq_comm
  · rw [decide_eq_false hj, decide_eq_false (by omega : ¬ j = i), Bool.false_and]

theorem bit_withBit (hi : i < 32) (j : Nat) : bit (withBit v i).toNat j = (bit v.toNat j || decide (j = i)) := withBit_getLsbD hi j

theorem bit_withBit_same (hi : i < 32) : bit (withBit v i).toNat i = true := by
  rw [bit_withBit hi, decide_eq_true rfl, Bool.or_true]

theorem bit_withBit_other (hi : i < 32) {j : Nat} (hj : j ≠ i) : bit (withBit v i).toNat j = bit v.toNat j := by
  rw [bit_withBit hi, decide_eq_false hj, Bool.or_false]

/-- A bit that is set outside a field leaves the field. -/
theorem withBit_extract (hi : i < 32) (h : i < m ∨ m + k ≤ i) : (withBit v i).extractLsb' m k = v.extractLsb' m k := by
  apply BitVec.eq_of_getLsbD_eq
  intro j hj
  rw [BitVec.getLsbD_extractLsb', BitVec.getLsbD_extractLsb', withBit_getLsbD hi, decide_eq_false (by omega : ¬ m + j = i), Bool.or_false]

theorem withBit_setWidth (hi : i < 32) (h : k ≤ i) : (withBit v i).setWidth k = v.setWidth k := by
  apply BitVec.eq_of_getLsbD_eq
  intro j hj
  rw [BitVec.getLsbD_setWidth, BitVec.getLsbD_setWidth, withBit_getLsbD hi, decide_eq_false (by omega : ¬ j = i), Bool.or_false]

theorem mod_toNat (w : Word) (k : Nat) : w.toNat % 2 ^ k = (w.setWidth k).toNat := (BitVec.toNat_setWidth ..).symm

theorem field_toNat (w : Word) (m k : Nat) : w.toNat / 2 ^ m % 2 ^ k = (w.extractLsb' m k).toNat := by
  rw [BitVec.extractLsb'_toNat, Nat.shiftRight_eq_div_pow]

/-- OP of an invalidation; VPN and ASID stay (17 R575). -/
theorem invWord_op (v : Word) {op : Nat} (h : op < 3) : (invWord v op).toNat / 256 % 4 = op := by
  rw [show (256 : Nat) = 2 ^ 8 from rfl, show (4 : Nat) = 2 ^ 2 from rfl]
  refine field_eq (lo := 8) (n := 2) (by omega) fun j hj => ?_
  unfold invWord
  interval_cases op <;> interval_cases j <;> simp <;> decide

theorem invWord_vpn (v : Word) {op : Nat} (h : op < 3) : (invWord v op).extractLsb' 12 20 = v.extractLsb' 12 20 := by
  unfold invWord
  interval_cases op <;> ext j hj <;> interval_cases j <;> simp

theorem invWord_asid (v : Word) {op : Nat} (h : op < 3) : (invWord v op).setWidth 8 = v.setWidth 8 := by
  unfold invWord
  interval_cases op <;> ext j hj <;> interval_cases j <;> simp

/-- PWR_REQ with TARGET 0 keeps the other fields. -/
theorem runWord_fields (v : Word) : (v &&& 0xFFFFFFF8).toNat % 8 = 0 ∧ bit (v &&& 0xFFFFFFF8).toNat 3 = bit v.toNat 3 ∧
    (v &&& 0xFFFFFFF8).toNat / 65536 = v.toNat / 65536 := by
  refine ⟨?_, ?_, ?_⟩
  · have h := field_eq (w := v &&& 0xFFFFFFF8) (lo := 0) (n := 3) (v := 0) (by decide) fun j hj => by interval_cases j <;> simp
    simpa using h
  · change (v &&& 0xFFFFFFF8).getLsbD 3 = v.getLsbD 3
    simp
  · have h : (v &&& 0xFFFFFFF8).extractLsb' 16 16 = v.extractLsb' 16 16 := by
      ext j hj
      interval_cases j <;> simp
    have hw (w : Word) : w.toNat / 65536 = (w.extractLsb' 16 16).toNat := by
      rw [← field_toNat]
      omega
    rw [hw, hw, h]
end

/-! ## Entries written twice -/

section
variable {α : Type} [Inhabited α] {n i : Nat}

theorem vmod_vmod (v : Vector α n) (f g : α → α) (h : i < n) : vmod (vmod v i f) i g = vmod v i fun a => g (f a) := by
  unfold vmod
  rw [vget_vset_same _ _ h]
  unfold vset
  exact Vector.setIfInBounds_setIfInBounds ..

theorem vmod_congr {v : Vector α n} {f g : α → α} (h : f (vget v i) = g (vget v i)) : vmod v i f = vmod v i g := by
  unfold vmod
  rw [h]
end

/-! ## The block that takes a write -/

section
variable (u : State) (core priv : Nat) {a w : Nat}

/-- A register without write-one-to-clear fields takes the word as it is. -/
theorem State.clearable_none (h : (w1cFields.find? fun e => e.1 == a) = none) : u.clearable a w = w := by
  unfold State.clearable
  rw [h]

theorem State.ioWrite_aon (hc : u.clearable a w = w) (h : a < 0x0200) : u.ioWrite core priv a w = u.writeAon a w := by
  unfold State.ioWrite
  rw [hc]
  exact if_pos h

theorem State.ioWrite_pwr (hc : u.clearable a w = w) (h : 0x0200 ≤ a) (h' : a < 0x0300) : u.ioWrite core priv a w = u.writePwr a w := by
  unfold State.ioWrite
  rw [hc]
  dsimp only
  rw [if_neg (by omega), if_pos h']

theorem State.ioWrite_tim (hc : u.clearable a w = w) (h : 0x0300 ≤ a) (h' : a < 0x0400) : u.ioWrite core priv a w = u.writeTim a w := by
  unfold State.ioWrite
  rw [hc]
  dsimp only
  iterate 2 rw [if_neg (by omega)]
  rw [if_pos h']

theorem State.ioWrite_ring (hc : u.clearable a w = w) (h : 0x0800 ≤ a) (h' : a < 0x0A00) : u.ioWrite core priv a w = u.writeRing a w := by
  unfold State.ioWrite
  rw [hc]
  dsimp only
  iterate 4 rw [if_neg (by omega)]
  rw [if_pos h']

theorem State.ioWrite_dma (hc : u.clearable a w = w) (h : 0x0C00 ≤ a) (h' : a < 0x1000) :
    u.ioWrite core priv a w = u.writeDma priv a w := by
  unfold State.ioWrite
  rw [hc]
  dsimp only
  iterate 6 rw [if_neg (by omega)]
  rw [if_pos h']

theorem State.ioWrite_mmu (hc : u.clearable a w = w) (h : 0x1000 ≤ a) (h' : a < 0x1400) : u.ioWrite core priv a w = u.writeMmu a w := by
  unfold State.ioWrite
  rw [hc]
  dsimp only
  iterate 7 rw [if_neg (by omega)]
  rw [if_pos h']

theorem State.ioWrite_uart (hc : u.clearable a w = w) (h : 0x1800 ≤ a) (h' : a < 0x1A00) : u.ioWrite core priv a w = u.writeUart a w := by
  unfold State.ioWrite
  rw [hc]
  dsimp only
  iterate 9 rw [if_neg (by omega)]
  rw [if_pos h']

theorem State.ioWrite_can (hc : u.clearable a w = w) (h : 0x1A00 ≤ a) (h' : a < 0x1C00) : u.ioWrite core priv a w = u.writeCan a w := by
  unfold State.ioWrite
  rw [hc]
  dsimp only
  iterate 10 rw [if_neg (by omega)]
  rw [if_pos h']

theorem State.ioWrite_pmon (hc : u.clearable a w = w) (h : 0x1E00 ≤ a) (h' : a < 0x2000) : u.ioWrite core priv a w = u.writePmon a w := by
  unfold State.ioWrite
  rw [hc]
  dsimp only
  iterate 12 rw [if_neg (by omega)]
  rw [if_pos h']

theorem State.ioWrite_intc (hc : u.clearable a w = w) (h : 0x2000 ≤ a) (h' : a < 0x3000) : u.ioWrite core priv a w = u.writeIntc a w := by
  unfold State.ioWrite
  rw [hc]
  dsimp only
  iterate 13 rw [if_neg (by omega)]
  rw [if_pos h']
end

/-! ## Addresses without write-one-to-clear fields -/

theorem w1c_eoi : ∀ n : Fin 3, (w1cFields.find? fun e => e.1 == 0x2044 + n.val) = none := by decide
theorem w1c_uart : ∀ n : Fin 7, ∀ k ∈ [2, 7, 8], (w1cFields.find? fun e => e.1 == 0x1800 + k + 64 * drumUart n) = none := by decide
theorem w1c_can : ∀ m : Fin 2, ∀ k ∈ [0, 6, 7], (w1cFields.find? fun e => e.1 == 0x1A00 + k + 256 * m.val) = none := by decide
theorem w1c_inv : ∀ n : Fin 4, (w1cFields.find? fun e => e.1 == 0x1002 + 4 * n.val) = none := by decide
theorem w1c_ltim : ∀ n : Fin 4, (w1cFields.find? fun e => e.1 == 0x0130 + 4 * n.val) = none := by decide
theorem w1c_kick : ∀ n : Fin 3, (w1cFields.find? fun e => e.1 == 0x0341 + 2 * n.val) = none := by decide
theorem w1c_pmon : ∀ n : Fin 16, (w1cFields.find? fun e => e.1 == 0x1E00 + 4 * n.val) = none := by decide
theorem w1c_ring : ∀ n : Fin 16, ∀ k ∈ [1, 2, 3], (w1cFields.find? fun e => e.1 == 0x0800 + k + 8 * n.val) = none := by decide
theorem w1c_dma : ∀ n : Fin 16, (w1cFields.find? fun e => e.1 == 0x0C00 + 8 * n.val) = none := by decide

/-! ## The writes (15 R539, 14 R489–R501, 17 R570–R576, 18 R592, R608, 19 R630, 20 R636) -/

section
variable (u : State) (core priv : Nat) (v : Word)

theorem State.write_eoi (n : Fin 3) : u.ioWrite core priv (0x2044 + n.val) v.toNat =
    .ok { u with intc := vmod u.intc (v.toNat % 64) fun r => if r.coreNow.toNat = n.val then { r with active := false } else r } := by
  rw [State.ioWrite_intc _ _ _ (State.clearable_none _ (w1c_eoi n)) (by omega) (by omega)]
  unfold State.writeIntc
  rw [if_neg (by omega), if_neg (by omega), if_pos (by omega), Nat.add_sub_cancel_left]

theorem State.write_uart (n : Fin 7) {k w : Nat} (hk : k ∈ [2, 7, 8]) :
    u.ioWrite core priv (0x1800 + k + 64 * drumUart n) w = u.writeUart (0x1800 + k + 64 * drumUart n) w ∧
      (0x1800 + k + 64 * drumUart n - 0x1800) / 64 = drumUart n ∧ (0x1800 + k + 64 * drumUart n) % 64 = k ∧ drumUart n ≠ 6 := by
  obtain ⟨hlt, h6⟩ := drumUart_lt n
  have hk' : k ≤ 8 := by fin_cases hk <;> decide
  exact ⟨State.ioWrite_uart _ _ _ (State.clearable_none _ (w1c_uart n k hk)) (by omega) (by omega), by omega, by omega, h6⟩

theorem State.write_txd (n : Fin 7) (h : (vget u.uarts (drumUart n)).tx.length < 64) : u.ioWrite core priv (0x1802 + 64 * drumUart n) v.toNat =
    .ok ((u.modUart (drumUart n) fun q => { q with tx := q.tx ++ [v.setWidth 9] }).uartStart (drumUart n)) := by
  obtain ⟨hw, hplace, hoff, h6⟩ := u.write_uart core priv n (k := 2) (w := v.toNat) (by decide)
  refine hw.trans ?_
  unfold State.writeUart
  simp only [hplace, hoff, if_neg h6, if_neg (Nat.not_le.2 h), ofNat_low, Nat.reduceEqDiff, if_false, if_true]

theorem State.write_uartCtrl (n : Fin 7) {w : Word} (h1 : 1 ≤ w.toNat % 128) (h64 : w.toNat % 128 ≤ 64) :
    u.ioWrite core priv (0x1807 + 64 * drumUart n) w.toNat = .ok (u.modUart (drumUart n) fun q => q.writeCtrl w.toNat) := by
  obtain ⟨hw, hplace, hoff, h6⟩ := u.write_uart core priv n (k := 7) (w := w.toNat) (by decide)
  refine hw.trans ?_
  unfold State.writeUart
  have hok : ¬ (w.toNat % 128 < 1 ∨ 64 < w.toNat % 128) := by omega
  simp only [hplace, hoff, if_neg h6, if_neg hok, Nat.reduceEqDiff, Nat.reduceLT, if_false, if_true]

/-- UART_CTRL: thresholds, enables and the flushes. -/
theorem Uart.writeCtrl_eq (q : Uart) (w : Word) : q.writeCtrl w.toNat = { q with
    rxThresh := w.setWidth 7, txThresh := w.extractLsb' 8 6, inten := w.extractLsb' 16 5
    rx := if w.getLsbD 24 then [] else q.rx, tx := if w.getLsbD 25 then [] else q.tx
    txThr := q.txThr || (w.getLsbD 25 && decide ((w.extractLsb' 8 6).toNat < q.tx.length)) } := by
  unfold Uart.writeCtrl
  rw [show (256 : Nat) = 2 ^ 8 from rfl, show (65536 : Nat) = 2 ^ 16 from rfl]
  dsimp only
  rw [ofNat_low, ofNat_field, ofNat_field]
  rfl

theorem Uart.writeCtrl_flushRx {q : Uart} (h : bit v.toNat 25 = false) : q.writeCtrl (withBit v 24).toNat = { q with
    rx := [], rxThresh := v.setWidth 7, txThresh := v.extractLsb' 8 6, inten := v.extractLsb' 16 5 } := by
  have h24 : (withBit v 24).getLsbD 24 = true := bit_withBit_same (by decide)
  have h25 : (withBit v 24).getLsbD 25 = false := (bit_withBit_other (by decide) (by decide)).trans h
  rw [Uart.writeCtrl_eq, h24, h25, withBit_setWidth (by decide) (by decide), withBit_extract (by decide) (by decide),
    withBit_extract (by decide) (by decide), Bool.false_and, Bool.or_false]
  rfl

theorem Uart.writeCtrl_flushTx {q : Uart} (h : bit v.toNat 24 = false) : q.writeCtrl (withBit v 25).toNat = { q with
    tx := [], rxThresh := v.setWidth 7, txThresh := v.extractLsb' 8 6, inten := v.extractLsb' 16 5
    txThr := q.txThr || decide ((v.extractLsb' 8 6).toNat < q.tx.length) } := by
  have h25 : (withBit v 25).getLsbD 25 = true := bit_withBit_same (by decide)
  have h24 : (withBit v 25).getLsbD 24 = false := (bit_withBit_other (by decide) (by decide)).trans h
  rw [Uart.writeCtrl_eq, h24, h25, withBit_setWidth (by decide) (by decide), withBit_extract (by decide) (by decide),
    withBit_extract (by decide) (by decide), Bool.true_and]
  rfl

theorem State.write_break (n : Fin 7) : u.ioWrite core priv (0x1808 + 64 * drumUart n) (withBit v 16).toNat =
    .ok ((u.modUart (drumUart n) fun q => { q with brkLen := v.setWidth 16 }).requestBreak (drumUart n) (v.toNat % 65536) none) := by
  obtain ⟨hw, hplace, hoff, h6⟩ := u.write_uart core priv n (k := 8) (w := (withBit v 16).toNat) (by decide)
  refine hw.trans ?_
  have hlen : (withBit v 16).toNat % 65536 = v.toNat % 65536 := by
    rw [show (65536 : Nat) = 2 ^ 16 from rfl, mod_toNat, mod_toNat, withBit_setWidth (by decide) (by decide)]
  unfold State.writeUart
  simp only [hplace, hoff, if_neg h6, hlen, ofNat_low, withBit_setWidth (v := v) (i := 16) (k := 16) (by decide) (by decide),
    bit_withBit_same (v := v) (i := 16) (by decide), Nat.reduceEqDiff, Nat.reduceLT, if_false, if_true]

theorem State.write_can (m : Fin 2) {k w : Nat} (hk : k ∈ [0, 6, 7]) :
    u.ioWrite core priv (0x1A00 + k + 256 * m.val) w = u.writeCan (0x1A00 + k + 256 * m.val) w ∧
      (0x1A00 + k + 256 * m.val - 0x1A00) / 256 = m.val ∧ (0x1A00 + k + 256 * m.val) % 256 = k := by
  have hk' : k ≤ 7 := by fin_cases hk <;> decide
  exact ⟨State.ioWrite_can _ _ _ (State.clearable_none _ (w1c_can m k hk)) (by omega) (by omega), by omega, by omega⟩

theorem State.write_canRxCons (m : Fin 2) (hen : (vget u.cans m.val).en = true)
    (h : (v - (vget u.cans m.val).rxCons).toNat ≤ ((vget u.cans m.val).rxProd - (vget u.cans m.val).rxCons).toNat) :
    u.ioWrite core priv (0x1A06 + 256 * m.val) v.toNat = .ok (u.modCan m.val fun k => { k with rxCons := v }) := by
  obtain ⟨hw, hplace, hoff⟩ := u.write_can core priv m (k := 6) (w := v.toNat) (by decide)
  refine hw.trans ?_
  unfold State.writeCan
  simp only [hplace, hoff, hen, BitVec.ofNat_toNat, BitVec.setWidth_eq, decide_eq_false (Nat.not_lt.2 h), gt_iff_lt]
  rfl

theorem State.write_canTxProd (m : Fin 2) (hen : (vget u.cans m.val).en = true)
    (h : (v - (vget u.cans m.val).txProd).toNat + ((vget u.cans m.val).txProd - (vget u.cans m.val).txCons).toNat ≤
      2 ^ (vget u.cans m.val).txLog2.toNat) :
    u.ioWrite core priv (0x1A07 + 256 * m.val) v.toNat = .ok (u.modCan m.val fun k => { k with txProd := v }) := by
  obtain ⟨hw, hplace, hoff⟩ := u.write_can core priv m (k := 7) (w := v.toNat) (by decide)
  refine hw.trans ?_
  unfold State.writeCan
  have hroom : ¬ 2 ^ (vget u.cans m.val).txLog2.toNat - ((vget u.cans m.val).txProd - (vget u.cans m.val).txCons).toNat <
      (v - (vget u.cans m.val).txProd).toNat := by omega
  simp only [hplace, hoff, hen, BitVec.ofNat_toNat, BitVec.setWidth_eq, decide_eq_false hroom, gt_iff_lt]
  rfl

/-- The controller that CAN_CFG leaves. -/
def Can.configured (k : Can) (v : Nat) : Can :=
  let k := { k with fd := bit v 1, mode := BitVec.ofNat 2 (v / 4), autoRecover := bit v 4, wake := bit v 5, tdc := bit v 6 }
  if bit v 0 then (if k.en then k else k.start) else k.stop

theorem State.write_canCfg (m : Fin 2) (hm : v.toNat / 4 % 4 ≠ 3)
    (h : bit v.toNat 0 = true → (vget u.cans m.val).rxBase.toNat * 64 + 2 ^ (vget u.cans m.val).rxLog2.toNat * 96 ≤ 0x3E3000 ∧
      (vget u.cans m.val).txBase.toNat * 64 + 2 ^ (vget u.cans m.val).txLog2.toNat * 96 ≤ 0x3E3000) :
    u.ioWrite core priv (0x1A00 + 256 * m.val) v.toNat = .ok (u.modCan m.val fun k => k.configured v.toNat) := by
  obtain ⟨hw, hplace, hoff⟩ := u.write_can core priv m (k := 0) (w := v.toNat) (by decide)
  refine hw.trans ?_
  unfold State.writeCan
  simp only [hplace, hoff, if_true]
  unfold State.writeCanCfg canInside canOverlaps
  dsimp only
  rw [if_neg hm, if_neg]
  · rfl
  · cases hb : bit v.toNat 0
    · simp
    · obtain ⟨hr, ht⟩ := h hb
      simp
      omega

/-- What the counts' comparison with the limits leaves alone (14 R499). -/
theorem Can.setState_frame (k : Can) : k.setState = { k with
    state := k.setState.state, stateChg := k.setState.stateChg, busIdle := k.setState.busIdle, counts := k.setState.counts } := by
  unfold Can.setState
  extract_lets n
  clear_value n
  split <;> rfl

theorem Can.stop_fields (k : Can) : k.stop.en = false ∧ k.stop.rxProd = 0 ∧ k.stop.txProd = 0 ∧ k.stop.rxCons = 0 ∧ k.stop.txCons = 0 ∧
    k.stop.tec = 0 := by
  unfold Can.stop
  rw [Can.setState_frame]
  exact ⟨rfl, rfl, rfl, rfl, rfl, rfl⟩

theorem Can.start_fields (k : Can) : k.start.en = true ∧ k.start.fd = k.fd ∧ k.start.wake = k.wake := by
  unfold Can.start
  rw [Can.setState_frame]
  exact ⟨rfl, rfl, rfl⟩

theorem Can.configured_off {k : Can} {n : Nat} (h : bit n 0 = false) : (k.configured n).en = false ∧ (k.configured n).rxProd = 0 ∧
    (k.configured n).txProd = 0 ∧ (k.configured n).rxCons = 0 ∧ (k.configured n).txCons = 0 ∧ (k.configured n).tec = 0 := by
  unfold Can.configured
  simp only [h, Bool.false_eq_true, if_false]
  exact Can.stop_fields _

theorem Can.configured_on {k : Can} {n : Nat} (h : bit n 0 = true) : (k.configured n).en = true ∧ (k.configured n).fd = bit n 1 ∧
    (k.configured n).wake = bit n 5 := by
  unfold Can.configured
  simp only [h, if_true]
  split
  · next hen => exact ⟨hen, rfl, rfl⟩
  · exact Can.start_fields _

theorem State.write_inv (n : Fin 4) {op : Nat} (h : op < 3) : u.ioWrite core priv (0x1002 + 4 * n.val) (invWord v op).toNat =
    .ok (u.modMmu n.val fun m => { m with tlb := m.tlb.filter fun e =>
      if op = 0 then !(e.vpn == v.extractLsb' 12 20 && (e.global || e.asid == v.setWidth 8))
      else if op = 1 then e.global || e.asid != v.setWidth 8 else false }) := by
  rw [State.ioWrite_mmu _ _ _ (State.clearable_none _ (w1c_inv n)) (by omega) (by omega)]
  have hplace : (0x1002 + 4 * n.val - 0x1000) / 4 = n.val := by omega
  have hoff : (0x1002 + 4 * n.val) % 4 = 2 := by omega
  unfold State.writeMmu Mmu.invalidate
  rw [if_pos (by omega)]
  simp only [hplace, hoff, invWord_op v h, Nat.reduceEqDiff, if_false, if_true]
  rw [if_neg (by omega : ¬ op = 3), show (4096 : Nat) = 2 ^ 12 from rfl, ofNat_field, ofNat_low, invWord_vpn v h, invWord_asid v h]

theorem w1c_pwr : (w1cFields.find? fun e => e.1 == 0x0200) = none := by decide

theorem State.write_pwrReq {w : Word} {k : Target} (hk : targetOf (w.toNat % 8) = some k) : u.ioWrite core priv 0x0200 w.toNat =
    .ok (u.request { target := k, snapSr := bit w.toNat 3, from_ := .drum
                     delayMax := if w.toNat / 65536 = 0 then 1000 else w.toNat / 65536 }) := by
  rw [State.ioWrite_pwr _ _ _ (State.clearable_none _ w1c_pwr) (by decide) (by decide)]
  unfold State.writePwr
  rw [if_pos rfl, hk]

theorem State.write_ltim (n : Fin 4) (h3 : n.val ≠ 3) (hm : v.toNat % 4 ≠ 3) (hp : v.toNat % 4 = 2 → (vget u.ltimers n.val).period ≠ 0) :
    u.ioWrite core priv (0x0130 + 4 * n.val) v.toNat =
      .ok { u with ltimers := vmod u.ltimers n.val fun k => k.setMode (v.setWidth 2) } := by
  rw [State.ioWrite_aon _ _ _ (State.clearable_none _ (w1c_ltim n)) (by omega)]
  have hplace : (0x0130 + 4 * n.val - 0x0130) / 4 = n.val := by omega
  have hoff : (0x0130 + 4 * n.val) % 4 = 0 := by omega
  unfold State.writeAon
  rw [if_neg (by omega), if_pos (by omega)]
  dsimp only
  rw [hplace, if_neg h3, if_pos hoff, if_neg hm, if_neg fun h => hp h.1 h.2, ofNat_low]

theorem State.write_kick (n : Fin 3) (h : v.toNat % 65536 = 0xC35A) : u.ioWrite core priv (0x0341 + 2 * n.val) v.toNat =
    .ok { u with wdts := vmod u.wdts n.val fun w => w.kick u.now } := by
  rw [State.ioWrite_tim _ _ _ (State.clearable_none _ (w1c_kick n)) (by omega) (by omega)]
  have hplace : (0x0341 + 2 * n.val - 0x0340) / 2 = n.val := by omega
  unfold State.writeTim
  dsimp only
  rw [if_neg (by omega), if_neg (by omega), if_pos (by omega), if_pos (by omega), if_pos h, hplace]

theorem State.write_pmonClear (n : Fin 16) (h : v.toNat % 256 ≤ 75) : u.ioWrite core priv (0x1E00 + 4 * n.val) (withBit v 10).toNat =
    .ok { u with pmon := { u.pmon with counters := vmod u.pmon.counters n.val fun k =>
      { k with event := v.setWidth 8, en := bit v.toNat 8, ovie := bit v.toNat 9, value := 0 } } } := by
  rw [State.ioWrite_pmon _ _ _ (State.clearable_none _ (w1c_pmon n)) (by omega) (by omega)]
  have hplace : (0x1E00 + 4 * n.val - 0x1E00) / 4 = n.val := by omega
  have hev : (withBit v 10).toNat % 256 = v.toNat % 256 := by
    rw [show (256 : Nat) = 2 ^ 8 from rfl, mod_toNat, mod_toNat, withBit_setWidth (by decide) (by decide)]
  have hevent : BitVec.ofNat 8 (v.toNat % 256) = v.setWidth 8 := by
    rw [← ofNat_low]
    exact BitVec.eq_of_toNat_eq (by simp)
  unfold State.writePmon PerfCounter.configure
  dsimp only
  rw [if_pos (by omega), if_pos (by omega), hplace, hev, if_neg (by omega), bit_withBit_same (v := v) (by decide), hevent,
    bit_withBit_other (v := v) (by decide) (by decide), bit_withBit_other (v := v) (by decide) (by decide)]
  rfl

/-- The bits of the doorbell register that a write clears (00 R7). -/
theorem State.clearable_mbx (j : Nat) : bit (u.clearable 0x0400 (withBit v 1).toNat) j = if j = 0 ∨ j = 2 then
    bit v.toNat j && bit (u.stood 0x0400) j else bit (withBit v 1).toNat j := by
  have hfind : (w1cFields.find? fun e => e.1 == 0x0400) = some (0x0400, 5) := by decide
  have h5 : Nat.testBit 5 j = decide (j = 0 ∨ j = 2) := by
    match j with
    | 0 => decide
    | 1 => decide
    | 2 => decide
    | j + 3 =>
      rw [Nat.testBit_lt_two_pow (lt_of_lt_of_le (by decide : 5 < 2 ^ 3) (Nat.pow_le_pow_right (by decide) (by omega)))]
      simp
  have hw : bit (withBit v 1).toNat j = (bit v.toNat j || decide (j = 1)) := bit_withBit (by decide) j
  unfold State.clearable
  rw [hfind]
  dsimp only
  rw [hw]
  unfold bit at hw ⊢
  rw [Nat.testBit_xor, Nat.testBit_and, Nat.testBit_xor, Nat.testBit_and, hw, h5]
  split
  · next h =>
    rw [decide_eq_true h, decide_eq_false (by omega : ¬ j = 1)]
    cases v.toNat.testBit j <;> cases (u.stood 0x0400).testBit j <;> rfl
  · next h =>
    rw [decide_eq_false h]
    simp

theorem State.write_doorbell : u.ioWrite core priv 0x0400 (withBit v 1).toNat = .ok { u with mbx :=
    { u.mbx with dbOut := u.mbx.dbOut || core == 0, dbIn := if core = 0 then u.mbx.dbIn && !(bit v.toNat 0 && bit (u.stood 0x0400) 0) else u.mbx.dbIn
                 collide := u.mbx.collide && !(bit v.toNat 2 && bit (u.stood 0x0400) 2), collIe := bit v.toNat 3 } } := by
  unfold State.ioWrite State.writeMbx w1c
  dsimp only
  iterate 3 rw [if_neg (by decide)]
  rw [if_pos (by decide), if_pos rfl]
  simp only [State.clearable_mbx, bit_withBit_same (v := v) (i := 1) (by decide), bit_withBit_other (v := v) (i := 1) (j := 3) (by decide) (by decide)]
  by_cases h : core = 0 <;> simp [h]
end

/-- Settles O32: each row by the write of its register. -/
theorem registerWrites : Obligations.RegisterWrites := by
  unfold Obligations.RegisterWrites
  rintro c s u v rfl
  set p := (s.at_ c.val).priv
  have hflush (n : Fin 7) {w : Word} (hm : s.MayOut c (0x1807 + 64 * drumUart n)) (h1 : 1 ≤ w.toNat % 128) (h64 : w.toNat % 128 ≤ 64) :
      s.outRow c.val (0x1807 + 64 * drumUart n) w = ((s.fetched c.val).modUart (drumUart n) fun q => q.writeCtrl w.toNat).outDone c.val :=
    State.outRow_done hm (State.write_uartCtrl _ _ _ n h1 h64)
  have hthresh {i : Nat} (hi : i < 32) (h7 : 7 ≤ i) : (withBit v i).toNat % 128 = v.toNat % 128 := by
    rw [show (128 : Nat) = 2 ^ 7 from rfl, mod_toNat, mod_toNat, withBit_setWidth hi h7]
  refine ⟨fun n h => State.outRow_done h (State.write_eoi _ _ _ _ n), fun n h hr => State.outRow_done h (State.write_txd _ _ _ _ n hr),
    fun n h h1 h64 h25 => ?_, fun n h h1 h64 h24 => ?_, fun n h => State.outRow_done h (State.write_break _ _ _ _ n),
    fun m h hen hr => State.outRow_done h (State.write_canRxCons _ _ _ _ m hen hr),
    fun m h hen hr => State.outRow_done h (State.write_canTxProd _ _ _ _ m hen hr), fun m h hm h0 => ?_, fun m h hm h0 hr ht => ?_,
    fun n h => ⟨State.outRow_done h (State.write_inv _ _ _ _ n (op := 0) (by decide)),
      State.outRow_done h (State.write_inv _ _ _ _ n (op := 1) (by decide)), ?_⟩,
    fun h => ?_, fun k h hk => State.outRow_done h (State.write_pwrReq _ _ _ hk),
    fun n h h3 hm hp => State.outRow_done h (State.write_ltim _ _ _ _ n h3 hm hp), fun n h hk => ?_,
    fun n h he => State.outRow_done h (State.write_pmonClear _ _ _ _ n he), fun h => State.outRow_done h (State.write_doorbell _ _ _ _)⟩
  · rw [show exec (.uartFlushRx c n v) s = _ from hflush n (w := withBit v 24) h (by rwa [hthresh (by decide) (by decide)])
      (by rwa [hthresh (by decide) (by decide)])]
    simp only [Uart.writeCtrl_flushRx v h25]
  · rw [show exec (.uartFlushTx c n v) s = _ from hflush n (w := withBit v 25) h (by rwa [hthresh (by decide) (by decide)])
      (by rwa [hthresh (by decide) (by decide)])]
    simp only [Uart.writeCtrl_flushTx v h24]
  · obtain ⟨hen, hrp, htp, hrc, htc, htec⟩ := Can.configured_off (k := vget (s.fetched c.val).cans m.val) h0
    refine ⟨_, ?_, ?_, ?_, ?_, ?_, ?_, State.outRow_done h (State.write_canCfg _ _ _ _ m hm (by simp [h0]))⟩ <;>
    · rw [State.modCan_cans, vget_vmod_same _ _ m.isLt]
      assumption
  · obtain ⟨hen, hfd, hwake⟩ := Can.configured_on (k := vget (s.fetched c.val).cans m.val) h0
    refine ⟨_, ?_, ?_, ?_, State.outRow_done h (State.write_canCfg _ _ _ _ m hm fun _ => ⟨hr, ht⟩)⟩ <;>
    · rw [State.modCan_cans, vget_vmod_same _ _ m.isLt]
      assumption
  · refine (State.outRow_done h (State.write_inv _ _ _ v n (op := 2) (by decide))).trans ?_
    simp
  · obtain ⟨htarget, h3, hdelay⟩ := runWord_fields v
    have hw := State.write_pwrReq (s.fetched c.val) c.val p (w := v &&& 0xFFFFFFF8) (k := .run) (by rw [htarget]; rfl)
    rw [h3, hdelay] at hw
    exact State.outRow_done h hw
  · refine (State.outRow_done h (State.write_kick _ _ _ v n hk)).trans ?_
    unfold Watchdog.kick
    simp only [Bool.and_eq_true, decide_eq_true_eq]

end Sys2Proof.Machine

/-! # Writes of rings and DMA channels (O33, O34) -/

namespace Sys2Proof.Machine

section
variable (u : State) (core priv : Nat) (v : Word) (n : Fin 16)

theorem State.modDma_modDma (f g : DmaChannel → DmaChannel) {n : Nat} (hn : n < 16) :
    (u.modDma n f).modDma n g = u.modDma n fun r => g (f r) := by
  unfold State.modDma
  rw [vmod_vmod _ _ _ hn]

theorem State.dmaCh_modDma (f : DmaChannel → DmaChannel) {n : Nat} (hn : n < 16) : (u.modDma n f).dmaCh n = f (u.dmaCh n) :=
  vget_vmod_same _ _ hn

theorem State.modDma_congr {f g : DmaChannel → DmaChannel} {n : Nat} (h : f (u.dmaCh n) = g (u.dmaCh n)) : u.modDma n f = u.modDma n g := by
  unfold State.modDma
  rw [vmod_congr h]

/-! ## Rings (11 R400, R401) -/

theorem State.write_ring {k w : Nat} (hk : k ∈ [1, 2, 3]) : u.ioWrite core priv (0x0800 + k + 8 * n.val) w =
    if k = 1 then u.writeRingCfg n.val w else if k = 2 then u.writeProd n.val w else u.writeCons n.val w := by
  have hk' : 1 ≤ k ∧ k ≤ 3 := by fin_cases hk <;> decide
  rw [State.ioWrite_ring _ _ _ (State.clearable_none _ (w1c_ring n k hk)) (by omega) (by omega)]
  have hplace : (0x0800 + k + 8 * n.val - 0x0800) / 8 = n.val := by omega
  have hoff : (0x0800 + k + 8 * n.val) % 8 = k := by omega
  unfold State.writeRing
  rw [if_neg (by omega), if_pos (by omega)]
  simp only [hplace, hoff]
  rw [if_neg (by omega)]
  by_cases h1 : k = 1
  · rw [if_pos h1, if_pos h1]
  · by_cases h2 : k = 2
    · rw [if_neg h1, if_neg h1, if_pos h2, if_pos h2]
    · rw [if_neg h1, if_neg h1, if_neg h2, if_neg h2, if_pos (by omega : k = 3)]

/-- The ring that RING_CFG leaves. -/
def Ring.configured (r : Ring) (v : Nat) : Ring :=
  let above := r.above && v / 128 % 8192 == r.thresh.toNat
  let r := if bit v 4 then r.enable else r.disable
  { r with sizeLog2 := BitVec.ofNat 4 (v % 16), side := bit v 5, thresh := BitVec.ofNat 13 (v / 128), above := above && r.above }

theorem Ring.configured_fields (r : Ring) (h4 : v.toNat % 16 ≤ 12) : (r.configured v.toNat).en = bit v.toNat 4 ∧
    (r.configured v.toNat).side = bit v.toNat 5 ∧ (r.configured v.toNat).sizeLog2.toNat = v.toNat % 16 ∧
    (r.configured v.toNat).base = r.base ∧ (r.configured v.toNat).thresh = v.extractLsb' 7 13 := by
  have hsize : (BitVec.ofNat 4 (v.toNat % 16)).toNat = v.toNat % 16 := by
    rw [BitVec.toNat_ofNat]
    omega
  have hthresh : BitVec.ofNat 13 (v.toNat / 128) = v.extractLsb' 7 13 := ofNat_field v 7 13
  unfold Ring.configured
  cases hb : bit v.toNat 4
  · exact ⟨rfl, rfl, hsize, rfl, hthresh⟩
  · refine ⟨?_, rfl, hsize, ?_, hthresh⟩ <;>
    · simp only [if_true, Ring.enable]
      split <;> simp [*]

theorem State.writeRingCfg_ok {w : Nat} (h4 : 4 ≤ w % 16) (h12 : w % 16 ≤ 12)
    (hen : (vget u.rings n.val).en = true → w % 16 = (vget u.rings n.val).sizeLog2.toNat ∧ bit w 5 = (vget u.rings n.val).side)
    (hin : bit w 4 = true → (vget u.rings n.val).base.toNat * 64 + 64 * 2 ^ (w % 16) ≤ 0x400000) :
    u.writeRingCfg n.val w = .ok ((if bit w 4 then u else u.forgetSent n.val).modRing n.val fun r => r.configured w) := by
  unfold State.writeRingCfg Ring.inside
  dsimp only
  rw [if_neg (by omega), if_neg, if_neg]
  · rfl
  · simpa using hin
  · simpa [not_or] using hen

theorem State.writeProd_ok (hen : (vget u.rings n.val).en = true) (hn : n.val < 4 ∨ n.val = 15)
    (hside : n.val < 4 → (vget u.rings n.val).side = true)
    (hroom : (v - (vget u.rings n.val).prod).toNat ≤ (vget u.rings n.val).slots - (vget u.rings n.val).usedByProducer) :
    u.writeProd n.val v.toNat = .ok (let t := u.modRing n.val fun r => { r with prod := v }
      if n.val < 4 ∧ (v - (vget u.rings n.val).prod).toNat ≠ 0 then
        (t.claim 6).2.modRing n.val fun r =>
          { r with arrivals := r.arrivals ++ [{ slots := (v - (vget u.rings n.val).prod).toNat, tick := u.clk.tick }] }
      else t) := by
  unfold State.writeProd
  simp only [BitVec.ofNat_toNat, BitVec.setWidth_eq, gt_iff_lt, decide_eq_false (Nat.not_lt.2 hroom), hen]
  rw [if_neg]
  · split <;> rfl
  · rcases hn with hn | hn
    · simp [hside hn]; omega
    · simp [hn]

theorem State.writeCons_ok (hen : (vget u.rings n.val).en = true) (hn : 4 ≤ n.val) (hside : (vget u.rings n.val).side = true)
    (hready : (v - (vget u.rings n.val).cons).toNat ≤ (vget u.rings n.val).ready) :
    u.writeCons n.val v.toNat = .ok (u.modRing n.val fun k => { k with cons := v }) := by
  unfold State.writeCons
  simp only [BitVec.ofNat_toNat, BitVec.setWidth_eq, gt_iff_lt, decide_eq_false (Nat.not_lt.2 hready), hen, hside,
    decide_eq_false (Nat.not_lt.2 hn)]
  rfl
end

/-- Settles O33: each row by the write of the ring's register. -/
theorem ringRegisterWrites : Obligations.RingRegisterWrites := by
  unfold Obligations.RingRegisterWrites
  rintro c n s u v r rfl rfl
  refine ⟨fun h h4 h12 hen hin => ?_, fun h hen hn hside hv hroom => ?_, fun h hen hn hroom => ?_, fun h hen hn hside hready => ?_⟩
  · obtain ⟨ken, kside, ksize, kbase, kthresh⟩ := Ring.configured_fields v (vget (s.fetched c.val).rings n.val) h12
    refine ⟨_, ken, kside, ksize, kbase, kthresh, (State.outRow_done h ((State.write_ring _ _ _ n (k := 1) (by decide)).trans
      (State.writeRingCfg_ok _ n h4 h12 hen hin))).trans ?_⟩
    congr 1
    unfold State.modRing
    rw [vmod_congr (g := fun _ => (vget (s.fetched c.val).rings n.val).configured v.toNat)]
    cases bit v.toNat 4 <;> rfl
  · have hd : (v - (vget (s.fetched c.val).rings n.val).prod).toNat ≠ 0 := by
      intro h0
      exact hv (by rw [← sub_eq_zero]; exact BitVec.eq_of_toNat_eq h0)
    have hw := State.writeProd_ok (s.fetched c.val) v n hen (.inl hn) (fun _ => hside) hroom
    dsimp only at hw
    rw [if_pos ⟨hn, hd⟩] at hw
    exact State.outRow_done h ((State.write_ring _ _ _ n (k := 2) (by decide)).trans hw)
  · have hw := State.writeProd_ok (s.fetched c.val) v n hen (.inr hn) (fun h4 => by omega) hroom
    dsimp only at hw
    rw [if_neg (by omega)] at hw
    exact State.outRow_done h ((State.write_ring _ _ _ n (k := 2) (by decide)).trans hw)
  · exact State.outRow_done h ((State.write_ring _ _ _ n (k := 3) (by decide)).trans (State.writeCons_ok _ v n hen hn hside hready))

/-! ## DMA channels (17 R584, R585) -/

section
variable (u : State) (core priv : Nat) (v : Word) (n : Fin 16)

theorem State.write_dmaCtl {w : Nat} : u.ioWrite core priv (0x0C00 + 8 * n.val) w = u.writeDmaCtl n.val priv w := by
  rw [State.ioWrite_dma _ _ _ (State.clearable_none _ (w1c_dma n)) (by omega) (by omega)]
  have hplace : (0x0C00 + 8 * n.val - 0x0C00) / 8 = n.val := by omega
  unfold State.writeDma
  rw [if_pos (by omega), if_pos (by omega), hplace]

/-- The settings of a channel in a control word. -/
def DmaChannel.settings (d : DmaChannel) (v : Word) : DmaChannel :=
  { d with prio := v.extractLsb' 3 2, priv := v.extractLsb' 5 2, xlate := bit v.toNat 7, ie := v.extractLsb' 8 3 }

theorem DmaChannel.settings_withBit (d : DmaChannel) {i : Nat} (h : i < 3) : d.settings (withBit v i) = d.settings v := by
  unfold DmaChannel.settings
  rw [withBit_extract (by omega) (by omega), withBit_extract (by omega) (by omega), withBit_extract (by omega) (by omega),
    bit_withBit_other (by omega) (by omega)]

theorem DmaChannel.settings_same {d : DmaChannel} (h1 : v.extractLsb' 3 2 = d.prio) (h2 : v.extractLsb' 5 2 = d.priv)
    (h3 : bit v.toNat 7 = d.xlate) : d.settings v = { d with ie := v.extractLsb' 8 3 } := by
  unfold DmaChannel.settings
  rw [h1, h2, h3]

/-- A word that the control register accepts: the settings, then START, RESUME and ABORT (17 R585). -/
theorem State.writeDmaCtl_ok {w : Word} (h3 : w.toNat / 32 % 4 ≠ 3) (hp : priv ≤ w.toNat / 32 % 4)
    (hidle : (u.dmaCh n.val).state ≠ .idle → w.extractLsb' 3 2 = (u.dmaCh n.val).prio ∧ w.extractLsb' 5 2 = (u.dmaCh n.val).priv ∧
      bit w.toNat 7 = (u.dmaCh n.val).xlate ∧ bit w.toNat 0 = false)
    (hresume : bit w.toNat 1 = true → (u.dmaCh n.val).state = .faulted) :
    u.writeDmaCtl n.val priv w.toNat = .ok (
      let s := u.modDma n.val fun d => d.settings w
      let s := if bit w.toNat 0 then (s.modDma n.val fun c => { c with tokens := 0 }).dmaLoad n.val ((u.dmaCh n.val).addr.toNat * 32) else s
      let s := if bit w.toNat 1 then s.dmaResume n.val else s
      if bit w.toNat 2 && !((u.dmaCh n.val).state == .idle) then s.dmaAbort n.val else s) := by
  have hset (d : DmaChannel) : { d with prio := BitVec.ofNat 2 (w.toNat / 8), priv := BitVec.ofNat 2 (w.toNat / 32)
                                        xlate := bit w.toNat 7, ie := BitVec.ofNat 3 (w.toNat / 256) } = d.settings w := by
    have hprio : BitVec.ofNat 2 (w.toNat / 8) = w.extractLsb' 3 2 := ofNat_field w 3 2
    have hpriv : BitVec.ofNat 2 (w.toNat / 32) = w.extractLsb' 5 2 := ofNat_field w 5 2
    have hie : BitVec.ofNat 3 (w.toNat / 256) = w.extractLsb' 8 3 := ofNat_field w 8 3
    rw [hprio, hpriv, hie]
    rfl
  unfold State.writeDmaCtl
  dsimp only
  rw [if_neg h3, if_neg]
  · simp only [hset]
  · have hprio : w.toNat / 8 % 4 = (w.extractLsb' 3 2).toNat := field_toNat w 3 2
    have hpriv : w.toNat / 32 % 4 = (w.extractLsb' 5 2).toNat := field_toNat w 5 2
    rw [decide_eq_false (Nat.not_lt.2 hp)]
    by_cases hs : (u.dmaCh n.val).state = .idle
    · have h1 : bit w.toNat 1 = false := by
        by_contra h
        rw [hresume (by simpa using h)] at hs
        cases hs
      simp [hs, h1]
    · obtain ⟨e1, e2, e3, e4⟩ := hidle hs
      cases h1 : bit w.toNat 1
      · simp [hprio, hpriv, e1, e2, e3, e4]
      · simp [hprio, hpriv, e1, e2, e3, e4, hresume h1]
end

/-- Settles O34: the write of the control word with START, RESUME or ABORT set. -/
theorem dmaControl : Obligations.DmaControl := by
  unfold Obligations.DmaControl
  rintro c n s u v d rfl rfl h h3 hp
  have hpriv {i : Nat} (hi : i < 3) : (withBit v i).toNat / 32 % 4 = v.toNat / 32 % 4 := by
    have hf (w : Word) : w.toNat / 32 % 4 = (w.extractLsb' 5 2).toNat := field_toNat w 5 2
    rw [hf, hf, withBit_extract (by omega) (by omega)]
  refine ⟨fun hs h1 => ?_, fun e hs he h0 h2 e1 e2 e3 => ?_, fun hs h0 h1 e1 e2 e3 => ?_⟩
  · refine (State.outRow_done h ((State.write_dmaCtl _ _ _ n).trans (State.writeDmaCtl_ok (w := withBit v 0) _ _ n ?_ ?_ ?_ ?_))).trans ?_
    · rwa [hpriv (by decide)]
    · rwa [hpriv (by decide)]
    · exact fun h => absurd hs h
    · rw [bit_withBit_other (by decide) (by decide), h1]
      exact fun h => by cases h
    · simp only [bit_withBit_same (v := v) (i := 0) (by decide), bit_withBit_other (v := v) (i := 0) (j := 1) (by decide) (by decide), h1, hs,
        DmaChannel.settings_withBit v _ (by decide : 0 < 3), State.modDma_modDma _ _ _ n.isLt]
      simp
      rfl
  · have hne : ((s.fetched c.val).dmaCh n.val).state ≠ .idle := by simp [hs]
    refine (State.outRow_done h ((State.write_dmaCtl _ _ _ n).trans (State.writeDmaCtl_ok (w := withBit v 1) _ _ n ?_ ?_ ?_ ?_))).trans ?_
    · rwa [hpriv (by decide)]
    · rwa [hpriv (by decide)]
    · rw [withBit_extract (by decide) (by decide), withBit_extract (by decide) (by decide), bit_withBit_other (by decide) (by decide),
        bit_withBit_other (by decide) (by decide)]
      exact fun _ => ⟨e1, e2, e3, h0⟩
    · exact fun _ => hs
    · simp only [bit_withBit_same (v := v) (i := 1) (by decide), bit_withBit_other (v := v) (i := 1) (j := 0) (by decide) (by decide), h0,
        bit_withBit_other (v := v) (i := 1) (j := 2) (by decide) (by decide), h2, DmaChannel.settings_withBit v _ (by decide : 1 < 3)]
      simp only [Bool.false_eq_true, if_false, if_true, Bool.false_and]
      have hdesc : (((s.fetched c.val).modDma n.val fun d => d.settings v).dmaCh n.val).desc = some e := by
        rw [State.dmaCh_modDma _ _ n.isLt]
        exact he
      congr 1
      unfold State.dmaResume
      simp only [hdesc]
      rw [State.modDma_modDma _ _ _ n.isLt]
      exact State.modDma_congr _ (by rw [DmaChannel.settings_same v e1 e2 e3])
  · refine (State.outRow_done h ((State.write_dmaCtl _ _ _ n).trans (State.writeDmaCtl_ok (w := withBit v 2) _ _ n ?_ ?_ ?_ ?_))).trans ?_
    · rwa [hpriv (by decide)]
    · rwa [hpriv (by decide)]
    · rw [withBit_extract (by decide) (by decide), withBit_extract (by decide) (by decide), bit_withBit_other (by decide) (by decide),
        bit_withBit_other (by decide) (by decide)]
      exact fun _ => ⟨e1, e2, e3, h0⟩
    · rw [bit_withBit_other (by decide) (by decide), h1]
      exact fun h => by cases h
    · simp only [bit_withBit_same (v := v) (i := 2) (by decide), bit_withBit_other (v := v) (i := 2) (j := 0) (by decide) (by decide), h0,
        bit_withBit_other (v := v) (i := 2) (j := 1) (by decide) (by decide), h1, DmaChannel.settings_withBit v _ (by decide : 2 < 3)]
      have hne : (((s.fetched c.val).dmaCh n.val).state == .idle) = false := by simpa using hs
      simp only [hne, Bool.false_eq_true, if_false, if_true, Bool.not_false, Bool.and_true]
      congr 1
      unfold State.dmaAbort
      have hsame : (((s.fetched c.val).dmaCh n.val).settings v).state = ((s.fetched c.val).dmaCh n.val).state := rfl
      rw [State.dmaCh_modDma _ _ n.isLt, hsame, hne, if_neg (by decide), State.modDma_modDma _ _ _ n.isLt]
      exact State.modDma_congr _ (by rw [DmaChannel.settings_same v e1 e2 e3])

end Sys2Proof.Machine

/-! # Commands of the host that answer at once

How an admitted command runs, by the rule that matches its answer, and the lengths of its payload. -/

namespace Sys2Proof.Machine

/-! ## Lengths of payloads -/

@[simp] theorem length_le (k n : Nat) : (le k n).length = k := by
  induction k generalizing n with
  | zero => rfl
  | succ k ih => simp [le, ih]

@[simp] theorem length_leInt (k : Nat) (z : Int) : (leInt k z).length = k := length_le ..

@[simp] theorem length_zeros (k : Nat) : (zeros k).length = k := List.length_replicate

@[simp] theorem length_fit (k : Nat) (l : List Byte) : (fit k l).length = k := by
  simp [fit]

/-! ## The run of an admitted command -/

/-- The command as its meaning sees it. -/
abbrev State.asked (s : State) (t : Txn) : Cmd := ⟨s.interp.nextId, t.ring.val, (parseHeader t.bytes).noReply, payloadOf t⟩

section
variable {s u : State} {t : Txn} {op : Nat} {isRow : Nat → List Byte → Bool} {body : Body}

/-- The meaning answers OK. -/
theorem State.Admits.okay {f : State → State} {p : List Byte} (h : s.Admits t op) (hr : isRow op (payloadOf t) = true)
    (ho : (cmdRow op).isSome = true) (hb : body (s.asked t) (s.begun t) = (f (s.begun t), .okay p)) :
    hostCommand isRow body t s = s.okay t f p := by
  refine (hostCommand_admits h hr ho).trans ?_
  change (.next ((body (s.asked t) (s.begun t)).1.answer _ (body (s.asked t) (s.begun t)).2) : Res) = _
  rw [hb]
  rfl

/-- The meaning goes on. -/
theorem State.Admits.goesOn {f : State → State} (h : s.Admits t op) (hr : isRow op (payloadOf t) = true)
    (ho : (cmdRow op).isSome = true) (hb : body (s.asked t) (s.begun t) = (f (s.begun t), .running)) :
    hostCommand isRow body t s = s.goesOn t f := by
  refine (hostCommand_admits h hr ho).trans ?_
  change (.next ((body (s.asked t) (s.begun t)).1.answer _ (body (s.asked t) (s.begun t)).2) : Res) = _
  rw [hb]
  rfl

/-- The meaning answers by itself, or later. -/
theorem State.Admits.quiet (h : s.Admits t op) (hr : isRow op (payloadOf t) = true)
    (ho : (cmdRow op).isSome = true) (hb : body (s.asked t) (s.begun t) = (u, .quiet)) : hostCommand isRow body t s = .next u := by
  refine (hostCommand_admits h hr ho).trans ?_
  change (.next ((body (s.asked t) (s.begun t)).1.answer _ (body (s.asked t) (s.begun t)).2) : Res) = _
  rw [hb]
  rfl

/-- A query answers with its payload. -/
theorem State.Admits.query {g : State → List Byte} (h : s.Admits t op) (ho : (cmdRow op).isSome = true) :
    hostCommand (opIs op) (query g) t s = s.okay t id (g (s.begun t)) :=
  h.okay (f := id) (beq_self_eq_true _) ho rfl

/-- A query with a payload of length `n`. -/
theorem State.Admits.query_length {g : State → List Byte} {n : Nat} (h : s.Admits t op) (ho : (cmdRow op).isSome = true)
    (hg : ∀ u, (g u).length = n) : ∃ p, p.length = n ∧ hostCommand (opIs op) (Machine.query g) t s = s.okay t id p :=
  ⟨_, hg _, h.query ho⟩
end

/-! ## O2 and O3 -/

theorem length_captureEntry (u : State) (k : Nat) : (u.captureEntry k).length = 24 := by
  unfold State.captureEntry
  split <;> simp

theorem length_fwEntry (i : ImageSlot) (a o : Bool) : (fwEntry i a o).length = 48 := by
  simp [fwEntry]

theorem length_fwChecksum (u : State) : u.fwChecksum.length = 32 := length_fit ..

/-- The payload of each query has its row's length: its fields' lengths add up. -/
theorem queryRow_length {i : Instr} {t : Txn} {op n : Nat} {s : State} (hi : queryRow i = some (t, op, n)) (h : s.Admits t op) :
    ∃ p, p.length = n ∧ exec i s = s.okay t id p := by
  unfold queryRow at hi
  split at hi
  all_goals simp only [Option.some.injEq, Prod.mk.injEq, reduceCtorEq] at hi
  all_goals
    obtain ⟨rfl, rfl, rfl⟩ := hi
    refine h.query_length rfl fun u => ?_
  case h_14 =>
    rw [List.length_append]
    split <;> simp
  all_goals simp [identPayload, length_fwChecksum, length_captureEntry, length_fwEntry]

/-- Settles O2, by the lengths of the payloads' fields. -/
theorem queriesAnswer : Obligations.QueriesAnswer := by
  unfold Obligations.QueriesAnswer
  exact fun _ _ _ _ _ => queryRow_length

/-- Settles O3: each is a query, and a command that begins leaves the configurations. -/
theorem configurationsReadBack : Obligations.ConfigurationsReadBack := by
  unfold Obligations.ConfigurationsReadBack
  intro i t op f s hi h
  unfold readBackRow at hi
  split at hi
  all_goals simp only [Option.some.injEq, Prod.mk.injEq, reduceCtorEq] at hi
  all_goals
    obtain ⟨rfl, rfl, rfl⟩ := hi
    refine (h.query rfl).trans ?_
    simp only [State.begun_input, State.begun_easel, State.begun_trk, State.begun_nav, State.begun_cal, State.begun_sealed]

end Sys2Proof.Machine

/-! # The SYS, PWR, TIME, OUT, MEM and MON commands (O4–O6) -/

namespace Sys2Proof.Machine

/-! ## What replies leave unchanged -/

section
variable (s : State)

/-- Packets of replies change rings, the interpreter, Drum SRAM and the performance counters, nothing else. -/
theorem State.sendReply_eq (n : Nat) (bs : List Byte) (frees : Option Nat) : ∃ rings interp sram pmon,
    s.sendReply n bs frees = { s with rings := rings, interp := interp, mem := { s.mem with sram := sram }, pmon := pmon } := by
  unfold State.sendReply
  dsimp only
  split
  · cases frees <;> exact ⟨_, _, _, _, rfl⟩
  · exact ⟨_, _, _, _, rfl⟩

theorem State.finalReply_eq (id : Nat) (st : Status) (d : Nat) (p : List Byte) : ∃ rings interp sram pmon,
    s.finalReply id st d p = { s with rings := rings, interp := interp, mem := { s.mem with sram := sram }, pmon := pmon } := by
  unfold State.finalReply
  split
  · exact ⟨_, _, _, _, rfl⟩
  · split
    · exact ⟨_, _, _, _, rfl⟩
    · exact s.sendReply_eq ..

theorem State.acceptedReply_eq (id : Nat) : ∃ rings interp sram pmon,
    s.acceptedReply id = { s with rings := rings, interp := interp, mem := { s.mem with sram := sram }, pmon := pmon } := by
  unfold State.acceptedReply
  split
  · exact ⟨_, _, _, _, rfl⟩
  · exact s.sendReply_eq ..

@[simp] theorem State.finalReply_clk (id : Nat) (st : Status) (d : Nat) (p : List Byte) : (s.finalReply id st d p).clk = s.clk := by
  obtain ⟨_, _, _, _, e⟩ := s.finalReply_eq id st d p
  rw [e]

@[simp] theorem State.acceptedReply_pwr (id : Nat) : (s.acceptedReply id).pwr = s.pwr := by
  obtain ⟨_, _, _, _, e⟩ := s.acceptedReply_eq id
  rw [e]
end

/-! ## Fields of payloads -/

theorem byteAt_lt (p : List Byte) (k : Nat) : byteAt p k < 256 := BitVec.isLt _

theorem zeroIn_cons {p : List Byte} {k m : Nat} {l : List (Nat × Nat)} : zeroIn p ((k, m) :: l) ↔ byteAt p k &&& m = 0 ∧ zeroIn p l := by
  unfold zeroIn
  rw [firstReserved]
  by_cases h : byteAt p k &&& m = 0 <;> simp [h]

/-- A byte whose upper seven bits are reserved and 0. -/
theorem bit_zero_eq {n : Nat} (h : n &&& 0xFE = 0) (hn : n < 256) : bit n 0 = decide (n = 1) :=
  (by decide +kernel : ∀ n : Fin 256, n.val &&& 0xFE = 0 → bit n.val 0 = decide (n.val = 1)) ⟨n, hn⟩ h

theorem bitsOf_cons (b : Bool) (i : Nat) (l : List (Bool × Nat)) : bitsOf ((b, i) :: l) = b2n b * 2 ^ i + bitsOf l := by
  cases b <;> simp [bitsOf, b2n]

theorem bitsOf_nil : bitsOf [] = 0 := rfl

/-! ## SYS and PWR (12 R420, R423, 18 R611–R616) -/

section
variable {s : State} {t : Txn} {p : List Byte}

theorem exec_sysReset (h : s.Admits t 0x0003) (hz : zeroIn (payloadOf t) [(1, 0xFF), (2, 0xFF), (3, 0xFF)])
    (h1 : 1 ≤ byteAt (payloadOf t) 0) (h3 : byteAt (payloadOf t) 0 ≤ 3) :
    exec (.sysReset t) s = .next ((s.begun t).planReset (s.asked t) 6 (bit (byteAt (payloadOf t) 0) 1) (bit (byteAt (payloadOf t) 0) 0)) := by
  refine h.quiet (beq_self_eq_true _) rfl ((checked_pass ?_).trans rfl)
  simp only [firstBad_reserved, firstBad_range, firstBad_nil]
  refine ⟨hz, ?_, trivial⟩
  exact decide_eq_false (by omega)

/-- STORE keeps a profile for the next start (18 R611). -/
theorem storedProfile (u : State) (n : Nat) (c : Prop) [Decidable c] : (if c then u.modPwr fun q => { q with startup := some n } else u) =
    u.modPwr fun q => { q with startup := if c then some n else q.startup } := by
  split <;> rfl

/-- Settles O4, command by command. -/
theorem sysPwrCommands : Obligations.SysPwrCommands := by
  unfold Obligations.SysPwrCommands
  rintro s t p rfl
  refine ⟨fun h => h.okay (f := id) (beq_self_eq_true _) rfl rfl, fun h hz h1 h3 => ?_, fun h hz h2 hp hr => ?_, fun k h hz hk hp => ?_,
    fun h hz => ?_, fun h hw => ?_, fun h hz h3 h2 hper => ?_, fun h hz h2 hlo hhi hs hr hpt => ?_⟩
  · refine ⟨_, rfl, ?_, ?_, (exec_sysReset h hz h1 h3).trans rfl⟩ <;> dsimp only
    · rw [State.finalReply_clk, State.begun_clk]
      generalize byteAt (payloadOf t) 0 = n at h1 h3
      interval_cases n <;> rfl
    · generalize byteAt (payloadOf t) 0 = n at h1 h3
      interval_cases n
      all_goals
        simp [bit]
  · refine h.quiet (beq_self_eq_true _) rfl ((checked_pass ?_).trans ?_)
    · simp only [firstBad_reserved, firstBad_range, firstBad_cons, firstBad_nil, State.begun_pwr, decide_eq_false_iff_not, Nat.not_lt]
      exact ⟨hz, h2, by simpa using hp, trivial⟩
    · have hrun (u : State) (hu : u.pwr.phase = .running) (id : Nat) : (u.acceptedReply id).inTransition = false := by
        unfold State.inTransition
        rw [State.acceptedReply_pwr, hu]
        rfl
      dsimp only [State.asked]
      simp only [storedProfile, bit_zero_eq (zeroIn_cons.1 hz).1 (byteAt_lt ..), decide_eq_true_eq]
      rw [hrun _ (by simpa [State.modPwr] using hr)]
      rfl
  · refine h.quiet (beq_self_eq_true _) rfl ?_
    unfold bodyPwrEnter State.asked
    simp only [hk]
    refine (checked_pass ?_).trans ?_
    · simp only [firstBad_reserved, firstBad_cons, firstBad_nil, State.begun_pwr]
      exact ⟨hz, by simpa using hp, trivial⟩
    · simp only [bit_zero_eq (zeroIn_cons.1 hz).1 (byteAt_lt ..)]
      rfl
  · refine h.okay (f := fun u => u.modPwr fun q => q.setWakeEn (getLe (payloadOf t) 0 4)) (beq_self_eq_true _) rfl ((checked_pass ?_).trans rfl)
    simp only [firstBad_reserved, firstBad_nil]
    exact ⟨hz, trivial⟩
  · refine h.okay (f := id) (beq_self_eq_true _) rfl ((checked_pass ?_).trans ?_)
    · simp only [firstBad_cons, firstBad_nil, State.begun_pwr]
      exact ⟨by simpa using hw, trivial⟩
    · simp only [State.begun_pwr]
      rfl
  · refine h.okay (f := fun u => { u with ltimers := vmod u.ltimers (byteAt (payloadOf t) 0) (timerGiven (payloadOf t)) })
      (beq_self_eq_true _) rfl ((checked_pass ?_).trans rfl)
    simp only [firstBad_reserved, firstBad_range, firstBad_cons, firstBad_nil, decide_eq_false_iff_not, Nat.not_lt]
    refine ⟨hz, h3.le, h2, ?_, by simpa [State.asked] using h3.ne, trivial⟩
    split at hper
    · next hm => rw [if_pos hm]; exact decide_eq_false (by omega)
    · next hm => rw [if_neg hm]; simpa using hper
  · have hvolts : ¬ (getLe (payloadOf t) 2 2 < pointMin (byteAt (payloadOf t) 0) ∨ 900 < getLe (payloadOf t) 2 2) := by omega
    refine h.quiet (beq_self_eq_true _) rfl ((checked_pass ?_).trans (if_pos ?_))
    · simp only [firstBad_reserved, firstBad_range, firstBad_cons, firstBad_nil, decide_eq_false_iff_not, Nat.not_lt]
      refine ⟨hz, h2, hvolts, ?_, trivial⟩
      unfold State.inTransition
      simp [State.begun_rlink, State.begun_pwr, hs, hr]
    · unfold State.pointInForce at hpt ⊢
      rw [State.begun_boot, State.begun_pwr]
      exact hpt

/-! ## TIME and OUT (03 R117, 12 R425–R430) -/

/-- Settles O5, command by command. -/
theorem timeOutCommands : Obligations.TimeOutCommands := by
  unfold Obligations.TimeOutCommands
  rintro s t p rfl
  refine ⟨fun m h hm => ?_, fun h hz h3 he => ?_, fun n h hn h15 => ?_, fun h hz hm h2 => ?_, fun h hz h0 h1 => ?_, fun h hz h1 h0 => ?_,
    fun n h hz hn h8 h15 h13 hl4 hl12 hb64 hbl hth hen hov hres hpair => ?_⟩
  · refine h.okay (f := id) (beq_self_eq_true _) rfl ?_
    unfold bodyTimeGetMap
    rw [State.begun_nav, hm]
    rfl
  · refine h.okay (f := fun u => { u with evt := vmod u.evt (byteAt (payloadOf t) 0) fun e => e.configure (byteAt (payloadOf t) 1) })
      (beq_self_eq_true _) rfl ((checked_pass ?_).trans rfl)
    simp only [firstBad_reserved, firstBad_range, firstBad_nil, decide_eq_false_iff_not, Nat.not_lt]
    exact ⟨hz, h3, by simpa using he, trivial⟩
  · refine ⟨_, rfl, h.okay (f := id) (beq_self_eq_true _) rfl ((checked_pass ?_).trans ?_)⟩
    · simp only [firstBad_range, firstBad_nil, decide_eq_false_iff_not, Nat.not_lt]
      exact ⟨hn ▸ h15, trivial⟩
    · rw [hn]
      have hflags (a b c : Bool) : bitsOf [(a, 0), (b, 1), (c, 2)] = b2n a + 2 * b2n b + 4 * b2n c := by
        cases a <;> cases b <;> cases c <;> rfl
      simp only [hflags]
      rfl
  · refine h.okay (f := fun u => { u with interp := { u.interp with meas := byteAt (payloadOf t) 0, mpDetail := bit (byteAt (payloadOf t) 1) 0
                                                                    navMode := byteAt (payloadOf t) 2 } })
      (beq_self_eq_true _) rfl ((checked_pass ?_).trans rfl)
    simp only [firstBad_reserved, firstBad_range, firstBad_nil, decide_eq_false_iff_not, Nat.not_lt]
    exact ⟨hz, by simp only [List.contains_iff_mem.2 hm, Bool.not_true], h2, trivial⟩
  · refine h.okay (isRow := fun o q => o == 0x0604 && byteAt q 0 != 1) (body := bodyOutQ15LossAdd) (f := fun u => u.modRing 15 fun r => { r with
        pending := min 0xFFFF (r.pending + getLe (payloadOf t) 2 2), drops := min 0xFFFF_FFFF (r.drops + getLe (payloadOf t) 2 2) })
      (by simp [h0]) rfl ((checked_pass ?_).trans rfl)
    unfold q15Checks
    simp only [firstBad_reserved, firstBad_range, firstBad_nil, h0]
    exact ⟨hz, rfl, by simp; omega, trivial⟩
  · have hrow : opByte 0x0604 0 1 0x0604 (payloadOf t) = true := by simp [opByte, h1]
    refine h.okay (f := fun u => u.modRing 15 fun r => { r with pending := 0 }) hrow rfl ((checked_pass ?_).trans rfl)
    unfold q15Checks
    simp only [firstBad_reserved, firstBad_range, firstBad_nil, h1]
    exact ⟨hz, rfl, by simp [h0], trivial⟩
  · obtain ⟨k, hk, hlow, hhigh⟩ := hpair
    have hfar : ¬ n < 8 := by omega
    have hplace : ¬ (getLe (payloadOf t) 4 4 % 64 ≠ 0 ∨ 0x400000 < getLe (payloadOf t) 4 4 + 64 * 2 ^ byteAt (payloadOf t) 1) := by omega
    refine h.okay (f := fun u => { u.forgetSent n with rings := vmod u.rings n (ringGiven (payloadOf t)) })
      (beq_self_eq_true _) rfl ((checked_pass ?_).trans ?_)
    · simp only [firstBad_reserved, firstBad_range, firstBad_cons, firstBad_nil, decide_eq_false_iff_not, Nat.not_lt, hn, hov, hres, hfar,
        decide_false, Bool.false_and, Bool.and_false, Option.isSome_none]
      refine ⟨hz, h15, by omega, hplace, hth, trivial, trivial, ?_, trivial, trivial⟩
      rw [Bool.not_eq_false', List.any_eq_true]
      refine ⟨k, List.mem_range.2 hk, ?_⟩
      rw [if_neg (by omega), if_neg (by omega), hlow, hhigh]
      rfl
    · rw [hn, hen]
      simp only [h13, decide_false, Bool.false_and, Bool.false_eq_true, if_false]
      rfl

/-! ## MEM and MON (12 R431–R439) -/

theorem memTest_checks {p : List Byte} {r : List (Bool × Ans)} (hz : zeroIn p [(3, 0xFF)]) (h01 : byteAt p 0 ≤ byteAt p 1)
    (h31 : byteAt p 1 ≤ 31) (h2 : byteAt p 2 ≤ 1) (hr : firstBad r = none) : firstBad (memTestChecks p ++ r) = none := by
  unfold memTestChecks
  simp only [firstBad_append, firstBad_reserved, firstBad_range, firstBad_nil, decide_eq_false_iff_not, Nat.not_lt]
  exact ⟨⟨hz, by omega, by omega, h2, trivial⟩, hr⟩

/-- The fields OFFSET and LENGTH of the non-volatile memory (12 R434). -/
theorem nv_checks {p : List Byte} (hz : zeroIn p [(6, 0xFF), (7, 0xFF)]) (h1 : 1 ≤ getLe p 4 2) (h2 : getLe p 4 2 ≤ 4000)
    (h3 : getLe p 0 4 + getLe p 4 2 ≤ 1769472) : firstBad (nvChecks p) = none ∧ firstBad (nvRange p) = none := by
  unfold nvChecks nvRange nvSize
  simp only [firstBad_reserved, firstBad_cons, firstBad_range, firstBad_nil, decide_eq_false_iff_not, Nat.not_lt]
  exact ⟨⟨hz, h2, trivial⟩, h3, by simp; omega, trivial⟩

/-- Settles O6, command by command. -/
theorem memMonCommands : Obligations.MemMonCommands := by
  unfold Obligations.MemMonCommands
  rintro s t p rfl
  refine ⟨fun h hz h01 h31 h2 hm => ?_, fun m h hz h01 h31 h2 hm => ?_, fun h hz h0 hm => ?_, fun off n h hz ho hn h1 h4 hl => ?_,
    fun off n h hz ho hn h1 h4 hl hp hs => ?_, fun a n h ha hn h431 hl => ?_, fun h hz h0 h1 => ?_, fun h => ?_⟩
  · refine h.goesOn (isRow := fun o q => o == 0x0E01 && byteAt q 2 != 1) (body := bodyMemTestRun) (f := fun u => u.modMem fun m => { m with
        test := some { lastBlock := byteAt (payloadOf t) 1 * 128 + 127, next := byteAt (payloadOf t) 0 * 128, cmd := s.interp.nextId
                       due := s.now + us 64 } }) (by simp [h2]) rfl ((checked_pass ?_).trans ?_)
    · refine memTest_checks (p := payloadOf t) hz h01 h31 (by omega) ?_
      simp only [firstBad_cons, State.begun_mem, hm]
      exact ⟨rfl, rfl⟩
    · simp only [State.now, State.begun_clk]
  · have hrow : opByte 0x0E01 2 1 0x0E01 (payloadOf t) = true := by simp [opByte, h2]
    refine h.okay hrow rfl ((checked_pass ?_).trans ?_)
    · refine memTest_checks (p := payloadOf t) hz h01 h31 (by omega) ?_
      simp only [firstBad_cons, State.begun_mem, hm]
      exact ⟨rfl, rfl⟩
    · simp only [State.begun_mem, hm]
  · refine h.goesOn (f := fun u => u.modMem fun m => { m with
        scrubs := m.scrubs ++ [{ target := BitVec.ofNat 3 (byteAt (payloadOf t) 0), cmd := some s.interp.nextId, start := s.now }] })
      (beq_self_eq_true _) rfl ((checked_pass ?_).trans ?_)
    · simp only [firstBad_reserved, firstBad_range, firstBad_cons, firstBad_nil, State.begun_mem]
      exact ⟨hz, by simpa using h0, by simpa using hm, trivial⟩
    · simp only [State.now, State.begun_clk]
  · subst ho hn
    obtain ⟨hc, hr⟩ := nv_checks hz h1 h4 hl
    refine h.okay (f := id) (beq_self_eq_true _) rfl ((checked_pass (firstBad_append.2 ⟨hc, hr⟩)).trans ?_)
    rw [State.begun_mem]
    rfl
  · subst ho hn
    obtain ⟨hc, hr⟩ := nv_checks hz h1 h4 hl
    refine ⟨_, h.okay (f := fun u => u.modMem fun m => { m with user := m.user.writeN (getLe (payloadOf t) 0 4) ((payloadOf t).drop 8), wear := _ })
      (beq_self_eq_true _) rfl ((checked_pass ?_).trans rfl)⟩
    simp only [firstBad_append, firstBad_cons, firstBad_nil, State.begun_pwr]
    exact ⟨⟨⟨hc, by simp [hp], trivial⟩, hr⟩, hs, trivial⟩
  · subst ha hn
    refine h.okay (f := id) (beq_self_eq_true _) rfl ((checked_pass ?_).trans ?_)
    · simp only [firstBad_range, firstBad_nil, decide_eq_false_iff_not]
      exact ⟨by omega, trivial⟩
    · rw [State.begun_mem]
      rfl
  · refine h.okay (beq_self_eq_true _) rfl ((checked_pass ?_).trans rfl)
    simp only [firstBad_reserved, firstBad_range, firstBad_nil, decide_eq_false_iff_not, Nat.not_lt]
    exact ⟨hz, h0, h1, trivial⟩
  · exact ⟨_, by simp, h.okay (f := fun u => { u with free := u.free + 2 }) (beq_self_eq_true _) rfl rfl⟩
end

end Sys2Proof.Machine

/-! # Loads of images and of the zone table (O7) -/

namespace Sys2Proof.Machine

/-! ## The checks of a part (09 R351) -/

section
variable {p : List Byte} {r : List (Bool × Ans)} {n d : Nat}

theorem firstBad_begin {b : Nat} (h : n = b) : firstBad (partLength 0 b n :: r) = none ↔ firstBad r = none := by
  unfold partLength
  rw [if_pos rfl, firstBad_cons]
  simp [h]

theorem firstBad_data {b : Nat} (h9 : 9 ≤ n) (h : n ≤ 4008) : firstBad (partLength 1 b n :: r) = none ↔ firstBad r = none := by
  unfold partLength
  rw [if_neg (by decide), if_pos rfl, firstBad_cons, decide_eq_false (by omega)]
  simp

theorem firstBad_end {part b : Nat} (hp : 2 ≤ part) (h : n = 4) : firstBad (partLength part b n :: r) = none ↔ firstBad r = none := by
  unfold partLength
  rw [if_neg (by omega), if_neg (by omega), firstBad_cons]
  simp [h]

theorem firstBad_partReserved (hz : zeroIn p [(1, 0xFF), (2, 0xFF), (3, 0xFF)]) : firstBad (partReserved p :: r) = none ↔ firstBad r = none := by
  unfold partReserved
  rw [firstBad_reserved]
  exact and_iff_right hz

theorem firstBad_openAlready : firstBad (openAlready none d :: r) = none ↔ firstBad r = none := by
  unfold openAlready
  rw [firstBad_cons]
  exact and_iff_right rfl

theorem firstBad_notOpen {l : Load} (h : l.check = none) : firstBad (notOpen (some l) d :: r) = none ↔ firstBad r = none := by
  unfold notOpen
  rw [firstBad_cons]
  exact and_iff_right (Option.isSome_eq_false_iff.2 (Option.isNone_iff_eq_none.2 h))

theorem firstBad_loadData {l : Load} (h : getLe p 4 4 + (p.length - 8) ≤ l.length) :
    firstBad (loadData (some l) p :: r) = none ↔ firstBad r = none := by
  unfold loadData
  rw [firstBad_range]
  exact and_iff_right (decide_eq_false (by omega))

theorem firstBad_loadDenied {s : State} (h : s.sealed.state ≠ .sealed) (ha : s.sealed.auditHold = false) : firstBad (loadDenied s) = none := by
  unfold loadDenied
  simp only [firstBad_cons, firstBad_nil]
  exact ⟨by simpa using h, ha, trivial⟩
end

/-- The rows of a BEGIN part. -/
theorem beginRow_ok {op : Nat} {p : List Byte} (h : byteAt p 0 = 0) : beginRow op op p = true := by
  simp [beginRow, h]

theorem opByte_ok {op k v : Nat} {p : List Byte} (h : byteAt p k = v) : opByte op k v op p = true := by
  simp [opByte, h]

/-- Only the seal's state differs. -/
def State.SealOnly (s t : State) : Prop := t = { s with sealed := t.sealed }

theorem State.SealOnly.trans {s t u : State} (h : s.SealOnly t) (k : t.SealOnly u) : s.SealOnly u := by
  unfold State.SealOnly at *
  rw [h] at k
  exact k

theorem State.SealOnly.modSeal {s t : State} (h : s.SealOnly t) (f : Seal → Seal) : s.SealOnly (t.modSeal f) := h.trans rfl

theorem State.sealOnly_writeEntry (s : State) (ty cause dt : Nat) (co st : Bool) (d : List Byte) :
    s.SealOnly (s.writeEntry ty cause dt co st d) := by
  unfold State.writeEntry
  exact rfl

/-- An audit entry changes the seal's state, nothing else. -/
theorem State.sealOnly_audit (s : State) (ty : Nat) (row : Option Nat) (cause dt : Nat) (co st : Bool) (d : List Byte) :
    s.SealOnly (s.audit ty row cause dt co st d) := by
  unfold State.audit
  cases row
  all_goals
    extract_lets u u'
    have hu : s.SealOnly u := rfl
    have hu' : u.SealOnly u' := by
      dsimp only [u']
      split
      · exact State.sealOnly_writeEntry ..
      · exact rfl
    split
    · exact hu.trans (State.sealOnly_writeEntry ..)
    · exact (hu.trans hu').modSeal _

theorem State.audit_clk (s : State) (ty : Nat) (row : Option Nat) (cause dt : Nat) (co st : Bool) (d : List Byte) :
    (s.audit ty row cause dt co st d).clk = s.clk := by
  rw [s.sealOnly_audit ty row cause dt co st d]

/-- The Dome image selected by DOME_FW_ACTIVATE, its FW_UPDATE entered (09 R344). -/
def State.fwSelected (s : State) (b : Bool) : State :=
  let old := s.domeImages.now
  let new := s.domeImages.slot b
  let s := (s.claim 6).2.audit 0x000A (some 10) (s.claim 6).1 (s.claim 6).2.now false false
    (le 4 old.interp ++ le 4 new.interp ++ fit 8 new.sha ++ le 1 (b2n b))
  { s with domeImages := { s.domeImages with active := b, trial := some 0 } }

theorem State.fwSelected_clk (s : State) (b : Bool) : (s.fwSelected b).clk = s.clk :=
  (State.audit_clk ..).trans rfl

/-- An admitted command runs as its meaning says. -/
theorem State.Admits.runs {s : State} {t : Txn} {op : Nat} {isRow : Nat → List Byte → Bool} {body : Body} {r : State × Ans}
    (h : s.Admits t op) (hr : isRow op (payloadOf t) = true) (ho : (cmdRow op).isSome = true) (hb : body (s.asked t) (s.begun t) = r) :
    hostCommand isRow body t s = .next (r.1.answer s.interp.nextId r.2) := by
  subst hb
  exact hostCommand_admits h hr ho

/-- Settles O7, part by part. -/
theorem loadCommands : Obligations.LoadCommands := by
  unfold Obligations.LoadCommands
  rintro s t p rfl hz
  have hdenied (hs : s.sealed.state ≠ .sealed) (ha : s.sealed.auditHold = false) : firstBad (loadDenied (s.begun t)) = none :=
    firstBad_loadDenied (by rwa [State.begun_sealed]) (by rwa [State.begun_sealed])
  refine ⟨fun h h0 hp h1 hl ho => ?_, fun l h h1 h9 hp ho hc hl => ?_, fun l h h2 hp ho hc => ?_, fun l h h3 hp ho hc => ?_,
    fun h h1 hv ho => ?_, fun h h0 hp h1 hl ho hs ha => ?_, fun l h h1 h9 hp ho hc hl hs ha => ?_, fun l h h2 hp ho hc hs ha => ?_,
    fun l h h3 hp ho hc => ?_, fun h h1 hv ho ha => ?_, fun h h0 hp hn hv hl ho hs ha => ?_, fun l h h1 h9 hp ho hc hl hs ha => ?_,
    fun l h h2 hp ho hc hs ha => ?_, fun l h h3 hp ho hc => ?_⟩
  · rw [← State.begun_drumImages s t] at ho
    refine h.okay (beginRow_ok h0) rfl ((checked_pass ?_).trans rfl)
    rw [ho, firstBad_range, firstBad_begin hp, firstBad_partReserved hz, firstBad_range, firstBad_openAlready]
    exact ⟨decide_eq_false (by rw [h0]; decide), decide_eq_false (by dsimp only; omega), rfl⟩
  · rw [← State.begun_drumImages s t] at ho
    refine h.okay (opByte_ok h1) rfl ((checked_pass ?_).trans (by rw [ho]; rfl))
    rw [ho, firstBad_data h9 hp, firstBad_partReserved hz, firstBad_notOpen hc, firstBad_loadData hl]
    rfl
  · rw [← State.begun_drumImages s t] at ho
    refine h.goesOn (opByte_ok h2) rfl ((checked_pass ?_).trans (by rw [ho]; rfl))
    rw [ho, firstBad_end (by decide) hp, firstBad_partReserved hz, firstBad_notOpen hc]
    rfl
  · rw [← State.begun_drumImages s t] at ho
    refine h.okay (opByte_ok h3) rfl ((checked_pass ?_).trans rfl)
    rw [ho, firstBad_end (by decide) hp, firstBad_partReserved hz, firstBad_notOpen hc]
    rfl
  · rw [← State.begun_drumImages s t] at ho hv
    refine ⟨_, _, rfl, rfl, rfl, rfl, (h.quiet (beq_self_eq_true _) rfl ((checked_pass ?_).trans rfl)).trans rfl⟩
    rw [ho, firstBad_reserved, firstBad_range, firstBad_cons]
    exact ⟨hz, by rw [hv]; simpa using h1, rfl, rfl⟩
  · rw [← State.begun_domeImages s t] at ho
    refine h.okay (beginRow_ok h0) rfl ((checked_pass ?_).trans rfl)
    rw [firstBad_append, firstBad_append, firstBad_range, firstBad_begin hp, firstBad_partReserved hz, firstBad_range, ho, firstBad_openAlready]
    exact ⟨⟨⟨decide_eq_false (by rw [h0]; decide), decide_eq_false (by dsimp only; omega), rfl⟩, hdenied hs ha⟩, rfl⟩
  · rw [← State.begun_domeImages s t] at ho
    refine h.okay (opByte_ok h1) rfl ((checked_pass ?_).trans (by rw [ho]; rfl))
    rw [firstBad_append, firstBad_append, firstBad_data h9 hp, firstBad_partReserved hz, ho, firstBad_notOpen hc, firstBad_loadData hl]
    exact ⟨⟨rfl, hdenied hs ha⟩, rfl⟩
  · rw [← State.begun_domeImages s t] at ho
    refine h.goesOn (opByte_ok h2) rfl ((checked_pass ?_).trans (by rw [ho]; rfl))
    rw [firstBad_append, firstBad_append, firstBad_end (by decide) hp, firstBad_partReserved hz, ho, firstBad_notOpen hc]
    exact ⟨⟨rfl, hdenied hs ha⟩, rfl⟩
  · rw [← State.begun_domeImages s t] at ho
    refine h.okay (opByte_ok h3) rfl ((checked_pass ?_).trans rfl)
    rw [ho, firstBad_end (by decide) hp, firstBad_partReserved hz, firstBad_notOpen hc]
    rfl
  · rw [← State.begun_domeImages s t] at ho hv
    rw [← State.begun_sealed s t] at ha
    refine ⟨(s.begun t).fwSelected (byteAt (payloadOf t) 0 == 1), { source := 7, dome := some (s.clk.tick + 1), drum := none, reply := none },
      rfl, rfl, rfl, rfl, rfl, (h.runs (beq_self_eq_true _) rfl (checked_pass ?_)).trans ?_⟩
    · rw [ho, firstBad_reserved, firstBad_range, firstBad_cons, firstBad_cons]
      exact ⟨hz, by rw [hv]; simpa using h1, ha, rfl, rfl⟩
    · have hclk : ((s.begun t).fwSelected (byteAt (payloadOf t) 0 == 1)).clk.tick = s.clk.tick := by
        rw [State.fwSelected_clk, State.begun_clk]
      rw [← hclk]
      rfl
  · rw [← State.begun_zoneLoad s t] at ho
    refine h.okay (beginRow_ok h0) rfl ((checked_pass ?_).trans rfl)
    rw [firstBad_append, firstBad_append, firstBad_range, firstBad_begin hp, firstBad_partReserved hz, firstBad_range, firstBad_range,
      firstBad_range, ho, firstBad_openAlready]
    exact ⟨⟨⟨decide_eq_false (by rw [h0]; decide), decide_eq_false (by dsimp only; omega), decide_eq_false (by dsimp only; omega), by simpa using hl, rfl⟩,
      hdenied hs ha⟩, rfl⟩
  · rw [← State.begun_zoneLoad s t] at ho
    refine h.okay (opByte_ok h1) rfl ((checked_pass ?_).trans (by rw [ho]; rfl))
    rw [firstBad_append, firstBad_append, firstBad_data h9 hp, firstBad_partReserved hz, ho, firstBad_notOpen hc, firstBad_loadData hl]
    exact ⟨⟨rfl, hdenied hs ha⟩, rfl⟩
  · rw [← State.begun_zoneLoad s t] at ho
    refine h.goesOn (opByte_ok h2) rfl ((checked_pass ?_).trans (by rw [ho]; rfl))
    rw [firstBad_append, firstBad_append, firstBad_end (by decide) hp, firstBad_partReserved hz, ho, firstBad_notOpen hc]
    exact ⟨⟨rfl, hdenied hs ha⟩, rfl⟩
  · rw [← State.begun_zoneLoad s t] at ho
    refine h.okay (opByte_ok h3) rfl ((checked_pass ?_).trans rfl)
    rw [ho, firstBad_end (by decide) hp, firstBad_partReserved hz, firstBad_notOpen hc]
    rfl

end Sys2Proof.Machine

/-! # The CHAIN and SERIAL commands (O8) -/

namespace Sys2Proof.Machine

/-- The settings of SERIAL_SET_CAN pass their checks (14 R506). -/
theorem canChecks_ok {p : List Byte} (hz : zeroIn p [(1, 0xE0), (3, 0xFF), (21, 0xFF), (22, 0xFF), (23, 0xFF)]) (h : CanValid p) :
    firstBad (canChecks p) = none := by
  obtain ⟨hport, hmode, ⟨n1, n2, n3, n4, n5, n6, n7, n8, n9⟩, ⟨d1, d2, d3, d4, d5, d6, d7, d8, d9⟩, htdco, ⟨r1, r2, r3, r4⟩, hrx, htx⟩ := h
  unfold canChecks canInside canOverlaps
  simp only [firstBad_reserved, firstBad_range, firstBad_cons, firstBad_nil, decide_eq_false_iff_not, not_or, Nat.not_lt,
    Bool.not_eq_false', decide_eq_true_eq, Bool.or_eq_false_iff]
  exact ⟨hz, hport, hmode, ⟨n1, n2⟩, ⟨n3, n4⟩, ⟨n5, n6⟩, ⟨n7, n8⟩, ⟨d1, d2⟩, ⟨d3, d4⟩, ⟨d5, d6⟩, ⟨d7, d8⟩, htdco, ⟨r1, r2⟩, ⟨r3, r4⟩, n9, d9,
    by omega, by omega, ⟨hrx, htx⟩, trivial⟩

/-- Settles O8, command by command. -/
theorem chainSerialCommands : Obligations.ChainSerialCommands := by
  unfold Obligations.ChainSerialCommands
  rintro s t p rfl
  refine ⟨fun h hh he => ?_, fun e h hh he => ?_, fun h hz hd => ?_, fun h hz ht hh => ?_,
    fun u h hz hu h7 h6 hd hp hs hr hv hf h8 h64 h9 hb => ?_, fun u h hu h7 => ?_, fun u h hz hu h7 h6 hl htx hs hb => ?_, fun h hz hv => ?_,
    fun m h hm h1 => ?_, fun n h hn h9 h6 => ?_⟩
  · rw [← State.begun_chain s t] at hh he
    refine h.goesOn (beq_self_eq_true _) rfl ((checked_pass ?_).trans (by rw [he]))
    rw [firstBad_cons, hh]
    exact ⟨rfl, rfl⟩
  · rw [← State.begun_chain s t] at hh he
    refine h.goesOn (beq_self_eq_true _) rfl ((checked_pass ?_).trans (by rw [he]))
    rw [firstBad_cons, hh]
    exact ⟨rfl, rfl⟩
  · refine h.okay (beq_self_eq_true _) rfl ((checked_pass ?_).trans rfl)
    rw [firstBad_reserved, firstBad_range]
    exact ⟨hz, decide_eq_false (Nat.not_lt.2 hd), rfl⟩
  · rw [← State.begun_chain s t] at hh
    refine h.goesOn (beq_self_eq_true _) rfl ((checked_pass ?_).trans (by simp only [State.now, State.begun_clk]))
    rw [firstBad_reserved, firstBad_range, firstBad_cons, hh]
    exact ⟨hz, decide_eq_false (by dsimp only; omega), rfl, rfl⟩
  · rw [← State.begun_uarts s t] at hb
    refine h.okay (beq_self_eq_true _) rfl ((checked_pass ?_).trans ?_)
    · simp only [firstBad_reserved, firstBad_range, firstBad_cons, firstBad_nil, hu, hb, decide_eq_false_iff_not]
      refine ⟨hz, by omega, by omega, ?_, by omega, hv, ?_, by omega, by omega, rfl, trivial⟩
      · cases h3 : bit (byteAt (payloadOf t) 2) 3
        · rfl
        · simp [hs h3]
      · by_cases h7' : u = 7
        · simp [hf h7']
        · simp [h7']
    · simp only [State.now, State.begun_clk, hu]
      rfl
  · refine ⟨(if u = 6 then zeros 3 else le 1 (vget s.uarts u).rx.length ++ le 1 (vget s.uarts u).tx.length ++
      le 1 (bitsOf [((vget s.uarts u).breakActive, 0), ((vget s.uarts u).sending.isSome, 1), ((vget s.uarts u).txIdle, 2)])) ++ le 1 0,
      le 4 (if u = 6 then u6Fixed else vget s.uarts u).rate, ?_, length_le .., h.okay (f := id) (beq_self_eq_true _) rfl ((checked_pass ?_).trans ?_)⟩
    · split <;> simp
    · rw [firstBad_range, hu]
      exact ⟨decide_eq_false (by omega), rfl⟩
    · simp only [hu, State.begun_uarts, List.append_assoc]
      by_cases h6 : u = 6 <;> simp [h6]
  · rw [← State.begun_uarts s t] at htx hs hb
    subst hu
    refine h.quiet (beq_self_eq_true _) rfl ((checked_pass ?_).trans rfl)
    simp only [firstBad_reserved, firstBad_range, firstBad_cons, firstBad_nil, htx, hs, hb, decide_eq_false_iff_not]
    exact ⟨hz, by omega, hl, rfl, trivial⟩
  · refine h.okay (beq_self_eq_true _) rfl ((checked_pass (canChecks_ok hz hv)).trans ?_)
    dsimp only
    simp only [canGiven, Nat.mul_comm]
  · subst hm
    refine h.okay (f := id) (beq_self_eq_true _) rfl ((checked_pass ?_).trans ?_)
    · rw [firstBad_range]
      exact ⟨decide_eq_false (by dsimp only; omega), rfl⟩
    · simp only [State.begun_cans]
      rfl
  · subst hn
    refine ⟨_, ?_, h.okay (f := id) (beq_self_eq_true _) rfl ((checked_pass ?_).trans rfl)⟩
    · split <;> simp
    · rw [firstBad_range]
      exact ⟨decide_eq_false (by dsimp only; omega), rfl⟩

end Sys2Proof.Machine

/-! # The INPUT commands (O9)

What a beginning command leaves, and a module in service in which a command's statement fails. -/

namespace Sys2Proof.Machine

section
variable (s : State) (t : Txn)

@[simp] theorem State.begun_now : (s.begun t).now = s.now := by
  unfold State.now
  rw [State.begun_clk]

theorem State.begun_mayChange (l : List ParamField) : (s.begun t).mayChange l ↔ s.mayChange l := by
  unfold State.mayChange
  rw [State.begun_sealed]
end

/-! ## A module in service -/

/-- The module runs in a profile, every domain powered, both processors in service. -/
def inService (profile : Nat) : State :=
  { State.reset with
    pwr := { phase := .running, vin := 120, profile := profile, domains := 0x3FF }
    boot := { dome := .service, drum := .service, complete := true, stage := 6, stageFiveDone := true, toClear := false }
    clk := { epoch := 1, acc := 2 ^ 44, tick := 1000000000 }
    rings := startRings }

/-- The transaction of opcode `op` with payload `p` on Q0. -/
def asking (op : Nat) (p : List Byte) : Txn := { ring := 0, bytes := padSlots (packetBytes op 0 5 0 0 0 p) }

/-- It lies in Q0 since an earlier tick. -/
def State.withAsked (s : State) (t : Txn) : State :=
  let n := t.bytes.length / 64
  { s with
    mem := { s.mem with sram := s.mem.sram.writeN ((vget s.rings 0).base.toNat * 64) t.bytes }
    rings := vset s.rings 0 { vget s.rings 0 with prod := BitVec.ofNat 32 n, arrivals := [⟨n, 1⟩] } }

/-- What `State.Admits` asks, as one Boolean. -/
def State.admitted (s : State) (t : Txn) (op : Nat) : Bool :=
  s.takes t && framing t.bytes (t.bytes.length / 64) == none && (parseHeader t.bytes).opcode == op && s.headerChecks t.ring.val t.bytes == none &&
    (cmdRow op).all fun r => (s.begun t).notServed t.ring.val op (parseHeader t.bytes).len r == none

theorem State.admits_of {s : State} {t : Txn} {op : Nat} (h : s.admitted t op = true) : s.Admits t op := by
  unfold State.admitted at h
  simp only [Bool.and_eq_true, beq_iff_eq, Option.all_eq_true] at h
  obtain ⟨⟨⟨⟨htake, hframe⟩, hop⟩, hhead⟩, hserved⟩ := h
  exact ⟨htake, hframe, hop, hhead, fun r hr => hserved r hr⟩

/-! ## A training disturbs the calibration run that uses its port (02 R78, 10 R361 reason 8) -/

/-- Every lane is LOCKED, and a calibration run uses port 0. -/
def calibratedPort : State :=
  { inService 2 with
    input := { (inService 2).input with ports := (inService 2).input.ports.map fun (q : Port) => { q with cfg := { q.cfg with enable := true }, lane := .locked } }
    cal := { (inService 2).cal with run := some { tick0 := 1, dt0 := 1, temp := 0, trigger := 1, profile := 2, overdue := false, cfg := {}
                                                  ports := [0], clusters := [], channels := [], mask := 0 } } }.withAsked (asking 0x302 [1])

/-- What disturbed the run in progress. -/
def State.disturbance (s : State) : Option (Option (Nat × Nat)) := s.cal.run.map fun r => r.disturbed

/-- The run's disturbance after a command. -/
def Res.disturbance : Res → Option (Option (Nat × Nat))
  | .next t => t.disturbance
  | _ => none

theorem calibratedPort_disturbed : Res.disturbance (exec (.inputTrain (asking 0x302 [1])) calibratedPort) = some (some (8, 0)) := by decide +kernel

theorem calibratedPort_stated : Res.disturbance (calibratedPort.goesOn (asking 0x302 [1]) fun u =>
    forUpto 8 (fun k w => if bit 1 k && (calibratedPort.port k).lane != .training then w.trainAfresh k else w)
      (u.modInput fun i => { i with trains := i.trains ++ [{ cmd := calibratedPort.interp.nextId, mask := 1 }] })) = some none := by decide +kernel

/-- Refutes O9: INPUT_TRAIN of a port in use by a calibration run disturbs the run, of which the statement says nothing. -/
theorem not_inputCommands : ¬ Obligations.InputCommands := by
  unfold Obligations.InputCommands
  intro h
  obtain ⟨-, -, -, htrain, -⟩ := h calibratedPort (asking 0x302 [1]) [1] (by decide +kernel)
  have hexec := htrain 1 (State.admits_of (by decide +kernel)) (by decide +kernel) (by decide) (by decide +kernel)
  have hdist := congrArg Res.disturbance hexec
  rw [calibratedPort_disturbed, calibratedPort_stated] at hdist
  cases hdist

end Sys2Proof.Machine

/-! # The ACQ commands (O10)

What the end of a command's power on demand leaves of the Easel, and a module in which ACQ_ABORT starts the pass of another job. -/

namespace Sys2Proof.Machine

section
variable (s : State)

@[simp] theorem State.finalReply_easel (id : Nat) (st : Status) (d : Nat) (p : List Byte) : (s.finalReply id st d p).easel = s.easel := by
  obtain ⟨_, _, _, _, e⟩ := s.finalReply_eq id st d p
  rw [e]

theorem foldl_easel {α : Type} {f : State → α → State} (hf : ∀ (u : State) a, (f u a).easel = u.easel) (l : List α) (u : State) :
    (l.foldl f u).easel = u.easel := by
  induction l generalizing u with
  | nil => rfl
  | cons a l ih => exact (ih _).trans (hf u a)

theorem State.abortPortJobs_easel (p d : Nat) : (s.abortPortJobs p d).easel = s.easel := by
  unfold State.abortPortJobs
  refine (foldl_easel (fun u a => u.finalReply_easel ..) _ _).trans ?_
  simp only [State.modInput, State.modPort]
  split
  · exact foldl_easel (fun u a => u.finalReply_easel ..) _ _
  · exact (State.finalReply_easel ..).trans (foldl_easel (fun u a => u.finalReply_easel ..) _ _)

/-- Lanes that follow power change nothing of the Easel. -/
theorem State.syncPort_easel (powered : Bool) (d p : Nat) : (s.syncPort powered d p).easel = s.easel := by
  unfold State.syncPort
  dsimp only
  split
  · split
    · rfl
    · split <;> rfl
  · split
    · rfl
    · exact s.abortPortJobs_easel p d

theorem State.syncPorts_easel (powered : Bool) (d : Nat) : (s.syncPorts powered d).easel = s.easel :=
  foldl_easel (fun u p => u.syncPort_easel powered d p) _ s

@[simp] theorem State.powerDownIdle_easel : s.powerDownIdle.easel = s.easel := by
  unfold State.powerDownIdle
  dsimp only
  split
  · refine (State.syncPorts_easel ..).trans ?_
    split <;> split <;> split <;> rfl
  · split
    · split <;> rfl
    · rfl
end

/-! ## The banks that an ACQ_ABORT frees take up other work (04 R138, R157) -/

/-- The search of command number 4 with tag 9 holds all eight banks, and the reacquisition of channel 0 waits for one. -/
def searchingBoth : State :=
  { inService 2 with
    input := { (inService 2).input with ports := (inService 2).input.ports.map fun (q : Port) => { q with cfg := { q.cfg with enable := true }, lane := .locked } }
    interp := { (inService 2).interp with inflight := [{ id := 4, tag := 9, ring := 1, opcode := 0x400, noReply := false, accepted := 0, dome := true }], nextId := 5 }
    easel := { (inService 2).easel with banks := Vector.replicate 8 { job := some 0, hyps := 5 }
                                        jobs := [{ id := 0, kind := .search, cmd := some 4, dwell := 81840 },
                                                  { id := 1, kind := .reacq 0, cmd := none, dwell := 81840, hypUp := 5 }] } }.withAsked (asking 0x401 [9, 0, 0, 0])

/-- The jobs after a command. -/
def Res.jobs : Res → Option (List EaselJob)
  | .next t => some t.easel.jobs
  | _ => none

/-- The job that goes on has begun its pass: none of its five hypotheses is left to start. -/
theorem searchingBoth_jobs : Res.jobs (exec (.acqAbort (asking 0x401 [9, 0, 0, 0])) searchingBoth) =
    some [{ id := 1, kind := .reacq 0, cmd := none, dwell := 81840, hypUp := 0 }] := by decide +kernel

/-- Refutes O10: the bank that ACQ_ABORT frees starts the pass of another job, which thereby changes. -/
theorem not_acqCommands : ¬ Obligations.AcqCommands := by
  unfold Obligations.AcqCommands
  intro h
  obtain ⟨-, habort, -⟩ := h searchingBoth (asking 0x401 [9, 0, 0, 0]) [9, 0, 0, 0] (by decide +kernel)
  obtain ⟨u, hkept, -, hexec⟩ := habort _ (State.admits_of (by decide +kernel)) (by unfold zeroIn; decide +kernel) rfl (by decide) rfl rfl rfl
  have hjobs := congrArg Res.jobs hexec
  rw [searchingBoth_jobs] at hjobs
  simp only [Res.jobs, State.finalReply_easel, State.powerDownIdle_easel, Option.some.injEq] at hjobs
  have hmem := (hkept { id := 1, kind := .reacq 0, cmd := none, dwell := 81840, hypUp := 0 } (by rw [← hjobs]; exact List.mem_singleton_self _)).1
  exact absurd hmem (by decide +kernel)

end Sys2Proof.Machine

/-! # The TRK commands (O11) -/

namespace Sys2Proof.Machine

/-- In a profile that tracks a TRK command is not turned away (05 R199). -/
theorem firstBad_noTracking {s : State} (h0 : s.pwr.profile ≠ 0) (h3 : s.pwr.profile ≠ 3) (r : List (Bool × Ans)) :
    firstBad (s.noTracking :: r) = none ↔ firstBad r = none := by
  unfold State.noTracking
  rw [firstBad_cons]
  simp [h0, h3]

theorem foldl_keeps {σ α : Type} {f : σ → α → σ} {l : List α} (h : ∀ k ∈ l, ∀ u, f u k = u) (s : σ) : l.foldl f s = s := by
  induction l generalizing s with
  | nil => rfl
  | cons a l ih =>
    rw [List.foldl_cons, h a List.mem_cons_self]
    exact ih (fun k hk => h k (List.mem_cons_of_mem _ hk)) s

/-- A round over the numbers below `n` that acts at `m` alone. -/
theorem forUpto_single {σ : Type} {n m : Nat} (h : m < n) (f : Nat → σ → σ) (s : σ) :
    forUpto n (fun k s => if k = m then f k s else s) s = f m s := by
  unfold forUpto
  rw [← Nat.sub_add_cancel (Nat.succ_le_of_lt h), Nat.add_comm, Nat.succ_eq_add_one, List.range_add, List.foldl_append, List.range_succ,
    List.foldl_append, List.foldl_cons, List.foldl_nil, foldl_keeps (l := List.range m), foldl_keeps]
  · exact if_pos rfl
  · intro k hk u
    obtain ⟨i, -, rfl⟩ := List.mem_map.1 hk
    exact if_neg (by omega)
  · intro k hk u
    exact if_neg (List.mem_range.1 hk).ne

/-- The settings of TRK_SET_LOOP keep their ranges (05 R200). -/
theorem LoopValid.unbroken {sig : Nat} {l : LoopSet} (h : LoopValid sig l) :
    (if sig = 0 then signalTable.map (·.code) else [sig]).find? (fun k => !l.ok k) = none := by
  rw [List.find?_eq_none]
  intro k hk
  simp [h.limits k hk]

section
variable {s : State} {t : Txn}

theorem exec_trkSetLoop (h : s.Admits t 0x0500) (hz : zeroIn (payloadOf t) [(1, 0xFC), (10, 0xFF), (11, 0xFF)])
    (hv : LoopValid (byteAt (payloadOf t) 0) (parseLoop (payloadOf t))) (h0 : s.pwr.profile ≠ 0) (h3 : s.pwr.profile ≠ 3) :
    exec (.trkSetLoop t) s =
      s.okay t (fun u => u.modTrk fun k => { k with loopSets := k.loopSets ++ [(byteAt (payloadOf t) 0, parseLoop (payloadOf t))] }) [] := by
  refine h.okay (beq_self_eq_true _) rfl ((checked_pass ?_).trans rfl)
  obtain ⟨htp, hsp, hpll, hpll', hfll, hdll, hdll'⟩ := hv.ranges
  rw [← State.begun_pwr s t] at h0 h3
  simp only [firstBad_reserved, firstBad_range, firstBad_cons, firstBad_noTracking h0 h3, firstBad_nil, hv.unbroken, decide_eq_false_iff_not]
  refine ⟨hz, ?_, ?_, by omega, by omega, by omega, by omega, rfl, trivial⟩
  · rcases hv.signal with h | h
    · simp [h]
    · simp [Option.isNone_eq_false_iff.2 h]
  · simpa using htp

theorem exec_trkAssign {u : State} {r : SignalRow} {ch k : Nat} {p : List Byte} (hp : p = payloadOf t) (h : s.Admits t 0x0504)
    (hz : zeroIn p [(3, 0xFF), (12, 0xFF), (13, 0xFF), (14, 0xFF), (15, 0xFF)]) (hu : (s.begun t).serveQueue = u)
    (hr : signalRow (byteAt p 0) = some r) (hsv : svOk (byteAt p 0) (byteAt p 1) = true) (hch : byteAt p 2 = ch)
    (hcode : getLe p 4 4 < r.len * 1024) (hprof : u.pwr.profile = 2 ∨ u.pwr.profile = 1 ∧ r.upper = true ∧ (ch < 48 ∨ ch = 255))
    (hhold : u.holder r.anchor (byteAt p 1) = none)
    (hk : ch ≤ 191 ∧ (u.chan ch).anchor = none ∧ u.clusterUp (ch / 48) = true ∧ (u.chan ch).out = false ∧ k = ch ∨
      ch = 255 ∧ u.chooseChannel = some k) :
    exec (.trkAssign t) s = .next ((u.assign k r.anchor (byteAt p 1) (byteAt p 0)
      (codeAt r (byteAt p 1) (getLe p 4 4) (getLeInt p 8 4) (getLe p 16 8) u.now) (getLeInt p 8 4) false).finalReply
        s.interp.nextId .ok 0 (le 1 k ++ [0, 0, 0])) := by
  have hpick : (if ch = 255 then u.chooseChannel else if (u.chan ch).out then none else some ch) = some k := by
    rcases hk with ⟨hch, -, -, hout, rfl⟩ | ⟨rfl, hchoose⟩
    · rw [if_neg (by omega), hout]
      rfl
    · exact hchoose
  have hfree : (ch != 255 && ((u.chan ch).anchor.isSome || !u.clusterUp (ch / 48))) = false := by
    rcases hk with ⟨-, hanchor, hup, -⟩ | ⟨rfl, -⟩
    · rw [hanchor, hup]
      simp
    · rfl
  have hband : (u.pwr.profile == 1 && ((some r).any (fun r => !r.upper) || (ch != 255 && decide (ch ≥ 48)))) = false := by
    rcases hprof with h | ⟨-, hup, hlow⟩
    · simp [h]
    · rcases hlow with hlow | rfl
      · simp [hup, hlow]
      · simp [hup]
  have h0 : u.pwr.profile ≠ 0 := by omega
  have h3 : u.pwr.profile ≠ 3 := by omega
  subst hp hch hu
  refine (h.runs (beq_self_eq_true _) rfl (checked_pass ?_)).trans (by dsimp only; rw [hpick, hr]; rfl)
  dsimp only
  simp only [firstBad_reserved, firstBad_range, firstBad_cons, firstBad_nil, hr, hsv, hpick, hhold, hfree, hband,
    firstBad_noTracking h0 h3,
    decide_eq_false_iff_not]
  exact ⟨hz, rfl, rfl, by omega, Nat.not_le.2 hcode, rfl, rfl, trivial⟩

theorem exec_trkRelease_every (h : s.Admits t 0x0505) (hz : zeroIn (payloadOf t) [(1, 0xFF), (2, 0xFF), (3, 0xFF)])
    (hch : byteAt (payloadOf t) 0 ≤ 191 ∨ byteAt (payloadOf t) 0 = 255) (h0 : s.pwr.profile ≠ 0) (h3 : s.pwr.profile ≠ 3) :
    exec (.trkRelease t) s = s.okay t (forUpto 192 fun k u =>
      if k = byteAt (payloadOf t) 0 || byteAt (payloadOf t) 0 = 255 then u.release_ k else u) [] := by
  refine h.okay (beq_self_eq_true _) rfl ((checked_pass ?_).trans rfl)
  rw [← State.begun_pwr s t] at h0 h3
  simp only [firstBad_reserved, firstBad_range, firstBad_noTracking h0 h3, firstBad_nil, decide_eq_false_iff_not]
  exact ⟨hz, by omega, trivial⟩

theorem exec_trkRelease {ch : Nat} (h : s.Admits t 0x0505) (hz : zeroIn (payloadOf t) [(1, 0xFF), (2, 0xFF), (3, 0xFF)])
    (hch : byteAt (payloadOf t) 0 = ch) (hle : ch ≤ 191) (h0 : s.pwr.profile ≠ 0) (h3 : s.pwr.profile ≠ 3)
    (ha : (s.chan ch).anchor.isSome = true) :
    exec (.trkRelease t) s = s.okay t (fun u => if (s.chan ch).present = [] then u.goIdle ch
      else u.modTrk fun k => { k with channels := vmod k.channels ch fun c => { c with releasing := true } }) [] := by
  refine (exec_trkRelease_every h hz (by omega) h0 h3).trans ?_
  have hone : (s.begun t).release_ ch = if (s.chan ch).present = [] then (s.begun t).goIdle ch
      else (s.begun t).modTrk fun k => { k with channels := vmod k.channels ch fun c => { c with releasing := true } } := by
    have hchan : (s.begun t).chan ch = s.chan ch := congrArg (fun k : Tracking => vget k.channels ch) (State.begun_trk s t)
    unfold State.release_
    rw [hchan, Option.isNone_eq_false_iff.2 ha]
    simp [List.isEmpty_iff]
  unfold State.okay
  dsimp only
  rw [hch, ← hone, ← forUpto_single (show ch < 192 by omega) (fun k u => State.release_ u k) (s.begun t)]
  have h255 : decide (ch = 255) = false := decide_eq_false (by omega)
  simp [h255]
end

/-- Settles O11, command by command. -/
theorem trkCommands : Obligations.TrkCommands := by
  unfold Obligations.TrkCommands
  rintro s t p rfl
  refine ⟨fun l h hz hl hv h0 h3 => ?_, fun sig l h hsig hr hl => ?_, fun k h hz hk hv h0 h3 => ?_,
    fun u r ch k h hz hu hr hsv hch hcode hprof hhold hk => exec_trkAssign rfl h hz hu hr hsv hch hcode hprof hhold hk,
    fun ch h hz hch hle h0 h3 ha => exec_trkRelease h hz hch hle h0 h3 ha, fun h hz hch h0 h3 => ?_, fun ch h hch hle => ?_,
    fun c h hz hc hv hm h0 h3 => ?_⟩
  · subst hl
    exact exec_trkSetLoop h hz hv h0 h3
  · subst hsig hl
    refine h.okay (f := id) (beq_self_eq_true _) rfl ((checked_pass ?_).trans ?_)
    · rw [firstBad_range]
      exact ⟨Option.isNone_eq_false_iff.2 hr, rfl⟩
    · simp only [State.begun_trk]
      rfl
  · subst hk
    rw [← State.begun_pwr s t] at h0 h3
    refine h.okay (beq_self_eq_true _) rfl ((checked_pass ?_).trans rfl)
    obtain ⟨⟨hinc, hall, hmid⟩, havg, hacc⟩ := hv
    simp only [paletteGiven] at hinc hall hmid havg hacc
    simp only [firstBad_reserved, firstBad_range, firstBad_noTracking h0 h3, firstBad_nil, decide_eq_false_iff_not, hinc, hmid]
    refine ⟨hz, ?_, by omega, by omega, trivial⟩
    simpa using hall
  · refine (exec_trkRelease_every h hz (.inr hch) h0 h3).trans ?_
    simp [hch]
  · refine ⟨_, ?_, h.okay (f := id) (beq_self_eq_true _) rfl ((checked_pass ?_).trans (by
      subst hch
      simp only [State.chan, State.begun_trk, List.append_assoc]
      rfl))⟩
    · simp
    · rw [firstBad_range]
      exact ⟨decide_eq_false (by dsimp only; omega), rfl⟩
  · subst hc
    rw [← State.begun_pwr s t] at h0 h3
    refine h.okay (beq_self_eq_true _) rfl ((checked_pass ?_).trans rfl)
    obtain ⟨⟨ha, he, he'⟩, ⟨t1, t2, t3, t4, t5, t6, t7, t8, t9, t10⟩, l1, l2, l3, l4, l5⟩ := hv
    simp only [trkGiven] at *
    simp only [firstBad_reserved, firstBad_range, firstBad_noTracking h0 h3, firstBad_nil, decide_eq_false_iff_not, State.begun_input, hm]
    exact ⟨hz, by simpa using ha, by omega, by omega, by omega, by omega, by omega, by omega, by omega, by omega, trivial⟩

end Sys2Proof.Machine

/-! # The NAV, INTEG, TP and CAL commands (O12) -/

namespace Sys2Proof.Machine

/-! ## NAV_LOAD_UNIT (07 R276) -/

theorem firstBad_append_last {l : List (Bool × Ans)} {a : Ans} (h : firstBad l = none) : firstBad (l ++ [(true, a)]) = some a := by
  induction l with
  | nil => rfl
  | cons b l ih =>
    obtain ⟨c, d⟩ := b
    obtain ⟨rfl, hl⟩ := firstBad_cons.1 h
    exact ih hl

theorem checked_bad {s : State} {l : List (Bool × Ans)} {a : Ans} (k : State × Ans) (h : firstBad l = some a) : checked s l k = (s, a) := by
  unfold checked
  rw [h]

theorem firstBad_map {α : Type} {f : α → Bool × Ans} {l : List α} (h : ∀ k ∈ l, (f k).1 = false) : firstBad (l.map f) = none := by
  induction l with
  | nil => rfl
  | cons a l ih => exact firstBad_cons.2 ⟨h a List.mem_cons_self, ih fun k hk => h k (List.mem_cons_of_mem _ hk)⟩

/-- The checks of a unit but that of the verdict computed over it. -/
def unitChecks (p : List Byte) : List (Bool × Ans) :=
  [reservedPayload p [(3, 0xFF), (6, 0xFF), (7, 0xFF), (14, 0xFF), (15, 0xFF)],
   (decide (p.length ≠ 16 + ceilDiv (getLe p 4 2) 8), .err .lengthInvalid (16 + ceilDiv (getLe p 4 2) 8)),
   outOfRange (signalRow (byteAt p 0)).isNone 0, outOfRange (!svOk (byteAt p 0) (byteAt p 1)) 1,
   outOfRange (!((unitKinds (byteAt p 0) (byteAt p 1)).any fun k => k.1 == byteAt p 2)) 2,
   outOfRange (!((unitKinds (byteAt p 0) (byteAt p 1)).any fun k => k.1 == byteAt p 2 && k.2.1 == getLe p 4 2)) 4]

/-- The unit is heard, and its ephemeris and offsets taken. -/
def State.unitLoaded (p : List Byte) (u : State) : State :=
  let w := u.hear (byteAt p 0 / 16) (byteAt p 1) (p.drop 16)
  (match Config.loadedEphemeris p with
    | none => w
    | some k => w.putEph { signal := byteAt p 0, sv := byteAt p 1, loaded := true, till := u.now + k * second }).modNav fun n =>
      { n with decoded := putOffsets n.decoded (Config.loadedOffsets p) }

theorem bodyNavLoadUnit_eq (q : Cmd) (u : State) : bodyNavLoadUnit q u =
    checked u (unitChecks q.payload ++ [(decide (Config.loadedVerdict q.payload % 4 > 1), .err .paramRange (Config.loadedVerdict q.payload % 4))])
      (u.unitLoaded q.payload, .okay []) := rfl

/-- A unit of a length that its kind has is of a kind that its signal has. -/
theorem unitKind_any {l : List (Nat × Nat × Nat × Bool)} {k n : Nat} (h : (l.any fun u => u.1 == k && u.2.1 == n) = true) :
    (l.any fun u => u.1 == k) = true := by
  simp only [List.any_eq_true, Bool.and_eq_true] at h ⊢
  obtain ⟨u, hu, hk, -⟩ := h
  exact ⟨u, hu, hk⟩

theorem unitChecks_ok {p : List Byte} (hz : zeroIn p [(3, 0xFF), (6, 0xFF), (7, 0xFF), (14, 0xFF), (15, 0xFF)])
    (hlen : p.length = 16 + ceilDiv (getLe p 4 2) 8) (hsig : (signalRow (byteAt p 0)).isSome = true) (hsv : svOk (byteAt p 0) (byteAt p 1) = true)
    (hkind : ((unitKinds (byteAt p 0) (byteAt p 1)).any fun k => k.1 == byteAt p 2 && k.2.1 == getLe p 4 2) = true) :
    firstBad (unitChecks p) = none := by
  unfold unitChecks
  simp only [firstBad_reserved, firstBad_range, firstBad_cons, firstBad_nil, hsv, hkind, unitKind_any hkind]
  exact ⟨hz, decide_eq_false (not_not_intro hlen), Option.isNone_eq_false_iff.2 hsig, rfl, rfl, rfl, trivial⟩

section
variable {s : State} {t : Txn}

theorem exec_navLoadUnit (h : s.Admits t 0x0704) (hc : firstBad (unitChecks (payloadOf t)) = none) :
    exec (.navLoadUnit t) s =
      if Config.loadedVerdict (payloadOf t) % 4 > 1 then
        .next ((s.begun t).finalReply s.interp.nextId .paramRange (Config.loadedVerdict (payloadOf t) % 4) [])
      else s.okay t (State.unitLoaded (payloadOf t)) [] := by
  split
  next hv =>
    refine h.runs (r := (s.begun t, .err .paramRange (Config.loadedVerdict (payloadOf t) % 4))) (beq_self_eq_true _) rfl
      ((bodyNavLoadUnit_eq _ _).trans ?_)
    rw [decide_eq_true hv]
    exact checked_bad _ (firstBad_append_last hc)
  next hv =>
    refine h.okay (beq_self_eq_true _) rfl ((bodyNavLoadUnit_eq _ _).trans (checked_pass ?_))
    exact firstBad_append.2 ⟨hc, firstBad_cons.2 ⟨decide_eq_false hv, rfl⟩⟩

/-! ## The other commands -/

/-- The checks of TP_SET (08 R303). -/
theorem exec_tpSet {n : TpConfig} (h : s.Admits t 0x0900)
    (hz : zeroIn (payloadOf t) [(1, 0xF0), (3, 0xFF), (26, 0xFF), (27, 0xFF), (28, 0xFF), (29, 0xFF), (30, 0xFF), (31, 0xFF)])
    (hg : byteAt (payloadOf t) 0 ≤ 1) (hn : TpConfig.parse (payloadOf t) = n) (hv : TpValid n) :
    exec (.tpSet t) s = s.okay t (fun u => u.setTp (byteAt (payloadOf t) 0) n) [] := by
  subst hn
  refine h.okay (beq_self_eq_true _) rfl ((checked_pass ?_).trans rfl)
  obtain ⟨hscale, hperiod, ⟨w1, w2, w3⟩, ⟨d1, d2, d3⟩, s1, s2, s3, s4⟩ := hv
  simp only [firstBad_reserved, firstBad_range, firstBad_nil, decide_eq_false_iff_not, hperiod]
  exact ⟨hz, by omega, by omega, rfl, by omega, by omega, by omega, by omega, by omega, trivial⟩

theorem exec_calSetConfig {n : CalConfig} (h : s.Admits t 0x0A02)
    (hz : zeroIn (payloadOf t) [(1, 0xFF), (52, 0xFF), (53, 0xFF), (54, 0xFF), (55, 0xFF)]) (hn : CalConfig.parse (payloadOf t) = n)
    (h1 : 1 ≤ n.deltaT) (h20 : n.deltaT ≤ 20) (g1 : 1 ≤ n.glaze) (g3 : n.glaze ≤ 300) (hd : ∀ k < 8, (n.delays.getD k 0).natAbs ≤ 50000)
    (hm : s.mayChange (calFields s.cal.cfg (payloadOf t))) :
    exec (.calSetConfig t) s = s.okay t (fun u =>
      let w := (u.enterChanges (calFields s.cal.cfg (payloadOf t))).modCal fun c =>
        { c with cfg := n, alpha := c.alpha * n.glaze / max 1 s.cal.cfg.glaze }
      if (changedFields (pathFields s.cal.cfg (payloadOf t))).isEmpty then w else w.calTrigger 3) [] := by
  subst hn
  rw [← State.begun_mayChange s t] at hm
  rw [← State.begun_cal s t] at hm ⊢
  refine h.okay (beq_self_eq_true _) rfl ((checked_pass ?_).trans rfl)
  rw [firstBad_append, firstBad_append]
  refine ⟨⟨?_, ?_⟩, firstBad_sealed.2 hm⟩
  · simp only [firstBad_reserved, firstBad_range, firstBad_nil, decide_eq_false_iff_not]
    exact ⟨hz, by omega, by omega, trivial⟩
  · refine firstBad_map fun k hk => decide_eq_false (Nat.not_lt.2 (hd k (List.mem_range.1 hk)))
end

/-- Settles O12, command by command. -/
theorem navTpCalCommands : Obligations.NavTpCalCommands := by
  unfold Obligations.NavTpCalCommands
  rintro s t p rfl
  refine ⟨fun n h hz hn hr he hc hc' hu hm => ?_, fun h h1 h2 => ?_, fun h hz h1 h2 => ?_, fun h hz hl hsig hsv hk => ?_, fun h => ?_,
    fun q h hq => ?_, fun n h hz hn hv hm => ?_, fun n h hz hg hn hv => exec_tpSet h hz hg hn hv, fun g h hg h1 => ?_,
    fun n h hz hn h1 h2 => ?_, fun g h hg h1 => ?_, fun h hz h3 => ?_,
    fun n h hz hn h1 h20 g1 g3 hd hm => exec_calSetConfig h hz hn h1 h20 g1 g3 hd hm, fun h hz h1 => ?_⟩
  · subst hn
    rw [← State.begun_mayChange s t] at hm
    rw [← State.begun_nav s t] at hm ⊢
    refine h.okay (beq_self_eq_true _) rfl ((checked_pass ?_).trans rfl)
    rw [firstBad_append]
    refine ⟨?_, firstBad_sealed.2 hm⟩
    simp only [navGiven] at hr he hc hc' hu
    simp only [firstBad_reserved, firstBad_range, firstBad_nil, decide_eq_false_iff_not]
    exact ⟨hz, by simp only [List.contains_iff_mem.2 hr]; rfl, by omega, by omega, by simpa using hu, trivial⟩
  · refine h.okay (beq_self_eq_true _) rfl ((checked_pass ?_).trans (by rw [State.begun_now]))
    rw [firstBad_range]
    exact ⟨decide_eq_false (by dsimp only; omega), rfl⟩
  · refine h.okay (beq_self_eq_true _) rfl ((checked_pass ?_).trans rfl)
    rw [firstBad_reserved, firstBad_range]
    exact ⟨hz, decide_eq_false (by dsimp only; omega), rfl⟩
  · rw [exec_navLoadUnit h (unitChecks_ok hz hl hsig hsv hk)]
    simp only [State.okay, State.unitLoaded, State.begun_now] <;> rfl
  · refine ⟨_, ?_, h.query rfl⟩
    simp [List.length_flatMap, Nat.mul_comm]
    omega
  · rw [← State.begun_nav s t] at hq
    refine h.okay (f := id) (beq_self_eq_true _) rfl ?_
    unfold bodyNavGetSolution
    rw [hq]
    rfl
  · subst hn
    rw [← State.begun_mayChange s t] at hm
    rw [← State.begun_nav s t] at hm ⊢
    refine h.okay (beq_self_eq_true _) rfl ((checked_pass ?_).trans rfl)
    rw [firstBad_append]
    refine ⟨?_, firstBad_sealed.2 hm⟩
    obtain ⟨⟨a1, a2, a3, a4⟩, ⟨b1, b2, b3, b4, b5, b6, b7, b8⟩, ⟨c1, c2, c3, c4, c5, c6⟩, ⟨d1, d2, d3, d4⟩, ⟨e1, e2, e3, e4, e5, e6, e7⟩,
      f1, f2, f3, f4, f5, f6⟩ := hv
    simp only [firstBad_reserved, firstBad_range, firstBad_nil, decide_eq_false_iff_not]
    exact ⟨hz, by omega, by omega, by omega, by omega, by omega, by omega, by omega, by omega, by omega, by omega, by omega, by omega,
      by omega, by omega, by omega, by omega, by omega, trivial⟩
  · refine h.okay (f := id) (beq_self_eq_true _) rfl ((checked_pass ?_).trans ?_)
    · rw [firstBad_range]
      exact ⟨decide_eq_false (by dsimp only; omega), rfl⟩
    · subst hg
      simp only [State.gen, State.begun_tp]
      rfl
  · subst hn
    refine h.okay (beq_self_eq_true _) rfl ((checked_pass ?_).trans ?_)
    · rw [firstBad_reserved, firstBad_range]
      exact ⟨hz, decide_eq_false (by dsimp only; omega), rfl⟩
    · cases hruns : s.tp.gens.any (·.st.runs) <;> simp [State.modTp, State.takeLimit, hruns]
  · subst hg
    refine ⟨le 1 (s.gen _).lastFlags ++ le 1 (b2n ((s.gen _).cfg.en && (s.begun t).scalePending (s.gen _))), _, ?_, ?_, h.okay (f := id) (beq_self_eq_true _) rfl ((checked_pass ?_).trans (by
      simp only [State.gen, State.begun_tp, List.append_assoc]
      rfl))⟩
    · simp
    · simp
    · rw [firstBad_range]
      exact ⟨decide_eq_false (by dsimp only; omega), rfl⟩
  · refine h.goesOn (beq_self_eq_true _) rfl ((checked_pass ?_).trans rfl)
    rw [firstBad_reserved, firstBad_cons, State.begun_pwr]
    exact ⟨hz, by simpa using h3, rfl⟩
  · refine ⟨_, h.okay (f := id) (beq_self_eq_true _) rfl ((checked_pass ?_).trans (by
      simp only [State.begun_cal, List.append_assoc]
      rfl))⟩
    rw [firstBad_reserved, firstBad_range]
    exact ⟨hz, decide_eq_false (by dsimp only; omega), rfl⟩

end Sys2Proof.Machine

/-! # The DOME commands (O13) -/

namespace Sys2Proof.Machine

/-! ## What audit entries and records leave of the seal (09 R320, R331) -/

section
variable (s : State)

@[simp] theorem State.writeEntry_state (ty cause dt : Nat) (co st : Bool) (d : List Byte) :
    (s.writeEntry ty cause dt co st d).sealed.state = s.sealed.state := by
  simp only [State.writeEntry, State.modSeal]

/-- An audit entry leaves the seal's state. -/
@[simp] theorem State.audit_state (ty : Nat) (row : Option Nat) (cause dt : Nat) (co st : Bool) (d : List Byte) :
    (s.audit ty row cause dt co st d).sealed.state = s.sealed.state := by
  unfold State.audit
  extract_lets u u'
  have hu : u.sealed.state = s.sealed.state := by cases row <;> rfl
  have hu' : u'.sealed.state = u.sealed.state := by
    dsimp only [u']
    split
    · exact State.writeEntry_state ..
    · rfl
  split
  · exact (State.writeEntry_state ..).trans hu
  · exact hu'.trans hu

/-- A record that falls due leaves the seal's state. -/
@[simp] theorem State.recordDue_state (r : DueRecord) : (s.recordDue r).sealed.state = s.sealed.state := by
  unfold State.recordDue
  dsimp only
  split
  · rfl
  · split
    · split <;> rfl
    · split
      · exact State.audit_state ..
      · split <;> rfl

@[simp] theorem State.sealStateRecord_state (old : SealState) (cause dt : Nat) (co st : Bool) :
    (s.sealStateRecord old cause dt co st).sealed.state = s.sealed.state := State.recordDue_state ..
end

/-! ## DOME_SEAL, DOME_RECORD_ACK and DOME_MARK -/

/-- The seal closes: its entry and its record (09 R312). -/
def State.sealedNow (u : State) : State :=
  let w := (u.claim 6).2.modSeal fun v => { v with state := .sealed }
  (w.audit 0x0003 (some 2) (u.claim 6).1 w.now false false (le 4 (satAdd 0xFFFF_FFFF (vget w.sealed.counters 2) 1))).sealStateRecord
    u.sealed.state (u.claim 6).1
    (w.audit 0x0003 (some 2) (u.claim 6).1 w.now false false (le 4 (satAdd 0xFFFF_FFFF (vget w.sealed.counters 2) 1))).now false false

theorem State.sealedNow_state (u : State) : u.sealedNow.sealed.state = .sealed := by
  unfold State.sealedNow
  rw [State.sealStateRecord_state, State.audit_state]
  rfl

/-- The record of a mark `p` with the accepted solution `a` (09 R331 kind 5). -/
def State.markRecord (u : State) (p : List Byte) (a : Accepted) : DueRecord :=
  { kind := 5, cause := (u.claim 6).1, dt := u.now, flags := (u.claim 6).2.recordFlags a.sketch false false, verdict := u.nav.held
    body := fit 16 p ++ leInt 4 a.lat ++ leInt 4 a.lon ++ leInt 4 a.height ++ le 2 a.hpe ++ le 2 0 ++ le 8 u.sealed.measured ++
      le 8 u.sealed.bridged }

section
variable {s : State} {t : Txn}

theorem exec_domeSeal (h : s.Admits t 0x0B02) (ha : s.sealed.auditHold = false) (hs : s.sealed.state ≠ .sealed) (hl : s.sealed.loopOpen = false) :
    exec (.domeSeal t) s = s.okay t State.sealedNow [] := by
  rw [← State.begun_sealed s t] at ha hs hl
  refine h.okay (beq_self_eq_true _) rfl ((checked_pass ?_).trans rfl)
  simp only [firstBad_cons, firstBad_nil]
  exact ⟨ha, by simpa using hs, hl, trivial⟩

theorem exec_domeRecordAck {n : Nat} {k : Hold} (h : s.Admits t 0x0B07) (hn : getLe (payloadOf t) 0 4 = n) (ho : n < s.sealed.storeOffer)
    (ha : s.sealed.storeAck < n) (hk : s.sealed.hold = some k) :
    exec (.domeRecordAck t) s = s.okay t (fun u =>
      let v := (u.modSeal fun v => { v with storeAck := n }).claim 6
      (v.2.gapRecord v.1 1 (match s.sealed.brk with | none => k.worst | some b => max k.worst b.worst) k.start s.now k.measured k.bridged
        k.epoch).modSeal fun v => { v with hold := none, brk := v.brk.map fun b => { b with covered := true } }) [] := by
  subst hn
  rw [← State.begun_sealed s t] at ho ha hk ⊢
  rw [← State.begun_now s t]
  have hhold : ((s.begun t).modSeal fun v => { v with storeAck := getLe (payloadOf t) 0 4 }).sealed.hold = some k := hk
  refine h.okay (beq_self_eq_true _) rfl ((checked_pass ?_).trans ((if_neg (Nat.not_le.2 ha)).trans ?_))
  · rw [firstBad_range]
    exact ⟨decide_eq_false (Nat.not_le.2 ho), rfl⟩
  · dsimp only
    rw [hhold]
    rfl

theorem exec_domeMark {a : Accepted} (h : s.Admits t 0x0B0E) (hh : s.sealed.hold = none) (hl : s.pwr.lowSupply = false)
    (hr : s.sealed.storeUnacked + s.sealed.due.length < 10239) (ha : s.markSolution = some a) :
    exec (.domeMark t) s = s.okay t (fun u => (u.claim 6).2.recordDue (u.markRecord (payloadOf t) a))
      (le 4 (s.sealed.storeSeq + s.sealed.due.length + 1)) := by
  have hmark : (s.begun t).markSolution = some a := by
    unfold State.markSolution at ha ⊢
    rwa [State.begun_sealed, State.begun_nav]
  rw [← State.begun_sealed s t] at hh hr ⊢
  rw [← State.begun_pwr s t] at hl
  have hroom : ¬((s.begun t).sealed.hold.isSome || (s.begun t).pwr.lowSupply ||
      decide ((s.begun t).sealed.storeUnacked + (s.begun t).sealed.due.length ≥ 10239)) = true := by
    rw [hh, hl, decide_eq_false (Nat.not_le.2 hr)]
    exact Bool.false_ne_true
  refine h.okay (beq_self_eq_true _) rfl ((if_neg hroom).trans ?_)
  rw [hmark]
  rfl

theorem State.markRecord_body (u : State) (p : List Byte) (a : Accepted) : (u.markRecord p a).body.take 16 = fit 16 p := by
  unfold State.markRecord
  simp only [List.append_assoc]
  exact List.take_left' (length_fit ..)
end

/-- Settles O13, command by command. -/
theorem domeCommands : Obligations.DomeCommands := by
  unfold Obligations.DomeCommands
  rintro s t p rfl
  refine ⟨fun h => ?_, fun h ha hs hl => ⟨_, State.sealedNow_state _, exec_domeSeal h ha hs hl⟩, fun f n h hz hf hle hn h1 h60 hpin => ?_, fun n h hn ho ha hv => ?_, fun n h hn ho ha => ?_,
    fun f n h hz hf hle hn h1 h22 => ?_, fun n h hn ho ha hk => ?_, fun n k h hn ho ha hk => exec_domeRecordAck h hn ho ha hk,
    fun n h hz hn hv hm => ?_, fun a h hh hl hr ha =>
      ⟨_, rfl, s.begun_now t, State.markRecord_body .., exec_domeMark h hh hl hr ha⟩, fun h => ?_, fun f h hf hr hm => ?_⟩
  · exact h.query rfl
  · subst hf hn
    rw [← State.begun_sealed s t] at hle ⊢
    refine h.okay (f := id) (beq_self_eq_true _) rfl ((checked_pass ?_).trans rfl)
    simp only [firstBad_reserved, firstBad_range, firstBad_cons, firstBad_nil, decide_eq_false_iff_not]
    exact ⟨hz, by omega, by omega, by simp; omega, by omega, trivial⟩
  · subst hn
    rw [← State.begun_sealed s t] at ho ha hv
    refine h.okay (beq_self_eq_true _) rfl ((checked_pass ?_).trans ((if_neg (Nat.not_le.2 ha)).trans (if_neg (ne_true_of_eq_false hv))))
    rw [firstBad_range]
    exact ⟨decide_eq_false (Nat.not_le.2 ho), rfl⟩
  · subst hn
    rw [← State.begun_sealed s t] at ho ha
    refine h.okay (f := id) (beq_self_eq_true _) rfl ((checked_pass ?_).trans (if_pos ha))
    rw [firstBad_range]
    exact ⟨decide_eq_false (Nat.not_le.2 ho), rfl⟩
  · subst hf hn
    rw [← State.begun_sealed s t] at hle ⊢
    refine h.okay (f := id) (beq_self_eq_true _) rfl ((checked_pass ?_).trans rfl)
    simp only [firstBad_reserved, firstBad_range, firstBad_cons, firstBad_nil, decide_eq_false_iff_not]
    exact ⟨hz, by omega, by omega, by simp; omega, trivial⟩
  · subst hn
    rw [← State.begun_sealed s t] at ho ha hk
    refine h.okay (beq_self_eq_true _) rfl ((checked_pass ?_).trans ?_)
    · rw [firstBad_range]
      exact ⟨decide_eq_false (Nat.not_le.2 ho), rfl⟩
    · dsimp only
      rw [if_neg (Nat.not_le.2 ha)]
      simp only [State.modSeal, hk]
  · subst hn
    rw [← State.begun_mayChange s t] at hm
    rw [← State.begun_sealed s t] at hm ⊢
    refine h.okay (beq_self_eq_true _) rfl ((checked_pass ?_).trans rfl)
    rw [firstBad_append]
    refine ⟨?_, firstBad_sealed.2 hm⟩
    obtain ⟨h1, ⟨h2, h3⟩, h4, h5, h6, h7, h8⟩ := hv
    simp only [odoGiven] at h1 h2 h3 h4 h5 h6 h7 h8
    simp only [firstBad_reserved, firstBad_range, firstBad_nil, decide_eq_false_iff_not]
    exact ⟨hz, by omega, by omega, by omega, by omega, by omega, trivial⟩
  · refine ⟨_, _, ?_, ?_, h.okay (beq_self_eq_true _) rfl rfl⟩
    · exact length_fit ..
    · simp only [List.append_assoc]
      exact List.take_left' (length_fit ..)
  · subst hf
    rw [← State.begun_mayChange s t] at hm
    rw [← State.begun_boot s t] at hm ⊢
    refine h.okay (beq_self_eq_true _) rfl ((checked_pass ?_).trans rfl)
    rw [firstBad_append, firstBad_range]
    exact ⟨⟨Option.isNone_eq_false_iff.2 hr, rfl⟩, firstBad_sealed.2 hm⟩

end Sys2Proof.Machine

/-! # The Kakel lanes (O35) -/

namespace Sys2Proof.Machine

/-! ## Records of the Drum side -/

section
variable (s : State)

/-- A record offered to a ring changes rings, Drum SRAM and the performance counters, nothing else. -/
theorem State.offer_eq (n ty dt : Nat) (p : List Byte) : ∃ rings sram pmon,
    s.offer n ty dt p = { s with rings := rings, mem := { s.mem with sram := sram }, pmon := pmon } := by
  unfold State.offer
  dsimp only
  split
  · exact ⟨_, _, _, rfl⟩
  · split <;> exact ⟨_, _, _, rfl⟩

theorem State.chainAlign_eq (dt : Nat) : ∃ ranks rings sram pmon,
    s.chainAlign dt = { s with ranks := ranks, rings := rings, mem := { s.mem with sram := sram }, pmon := pmon } := by
  obtain ⟨r, m, p, e⟩ := (s.claim 6).2.offer_eq 10 ((s.claim 6).1 * 256 + 0x31) s.now
    (le 8 dt ++ leInt 8 s.clk.offset ++ leInt 4 s.clk.lastE ++ leInt 4 s.clk.lastH ++ le 1 s.alignCode ++
      le 1 s.number ++ le 2 0 ++ le 4 s.masterEpoch)
  exact ⟨_, r, m, p, e⟩

@[simp] theorem State.chainAlign_chain (dt : Nat) : (s.chainAlign dt).chain = s.chain := by
  obtain ⟨_, _, _, _, e⟩ := s.chainAlign_eq dt
  rw [e]

@[simp] theorem State.chainAlign_clk (dt : Nat) : (s.chainAlign dt).clk = s.clk := by
  obtain ⟨_, _, _, _, e⟩ := s.chainAlign_eq dt
  rw [e]

@[simp] theorem State.setAlign_chain (a : AlignState) : (s.setAlign a).chain = s.chain := by
  unfold State.setAlign
  split
  · rfl
  · exact State.chainAlign_chain ..

@[simp] theorem State.setAlign_clk (a : AlignState) : (s.setAlign a).clk = { s.clk with align := a } := by
  unfold State.setAlign
  split
  next h => rw [← h]
  next => exact State.chainAlign_clk ..

end

/-! ## One lane of two -/

theorem vmod_id {α : Type} {n : Nat} [Inhabited α] (v : Vector α n) (i : Nat) : vmod v i (fun a => a) = v := by
  unfold vmod vset vget
  refine Vector.ext fun j hj => ?_
  rw [Vector.getElem_setIfInBounds]
  split
  next h => simp [h, hj, Vector.getD]
  next => rfl

theorem LaneId.num_lt (l : LaneId) : l.num < 2 := by cases l <;> decide

section
variable (s : State) {l k : Nat} (f g : Lane → Lane)

theorem State.lane_modKakel_same (h : l < 2) : (s.modKakel l f).lane l = f (s.lane l) := vget_vmod_same _ _ h

theorem State.lane_modKakel_other (h : k ≠ l) : (s.modKakel l f).lane k = s.lane k := vget_vmod_other _ _ h

theorem State.modKakel_modKakel (h : l < 2) : (s.modKakel l f).modKakel l g = s.modKakel l fun a => g (f a) := by
  unfold State.modKakel State.modChain
  simp only [vmod_vmod _ _ _ h]

theorem State.modKakel_id : s.modKakel l (fun a => a) = s := by
  unfold State.modKakel State.modChain
  simp only [vmod_id]
end

/-! ## What sending changes (13 R460, R463) -/

/-- Only lane `l`, its state apart, and the performance counters differ. -/
def State.Sends (l : Nat) (s t : State) : Prop :=
  ∃ (f : Lane → Lane) (pmon : Pmon), (∀ a, (f a).st = a.st) ∧ t = { s.modKakel l f with pmon := pmon }

theorem State.Sends.refl {l : Nat} (s : State) : s.Sends l s := by
  refine ⟨fun a => a, s.pmon, fun _ => rfl, ?_⟩
  rw [State.modKakel_id]

theorem State.Sends.trans {l : Nat} {s t u : State} (hl : l < 2) (h : s.Sends l t) (k : t.Sends l u) : s.Sends l u := by
  obtain ⟨f, p, hf, rfl⟩ := h
  obtain ⟨g, q, hg, rfl⟩ := k
  refine ⟨fun a => g (f a), q, fun a => (hg _).trans (hf a), ?_⟩
  rw [← s.modKakel_modKakel f g hl]
  rfl

theorem State.Sends.mod {l : Nat} (s : State) (f : Lane → Lane) (h : ∀ a, (f a).st = a.st) : s.Sends l (s.modKakel l f) := ⟨f, _, h, rfl⟩

theorem foldl_related {σ α : Type} {R : σ → σ → Prop} (hrefl : ∀ s, R s s) (htrans : ∀ {s t u}, R s t → R t u → R s u) {f : σ → α → σ}
    (h : ∀ u a, R u (f u a)) (l : List α) (s : σ) : R s (l.foldl f s) := by
  induction l generalizing s with
  | nil => exact hrefl s
  | cons a l ih => exact htrans (h s a) (ih _)

section
variable {l : Nat} (s : State)

theorem State.sends_sendOne : s.Sends l (s.sendOne l) := by
  unfold State.sendOne
  dsimp only
  split
  · exact .refl s
  · split
    · exact .refl s
    · refine ⟨_, _, ?_, rfl⟩
      exact fun _ => rfl

theorem State.sends_pump (hl : l < 2) : s.Sends l (s.pump l) :=
  foldl_related .refl (.trans hl) (fun u _ => u.sends_sendOne) _ s

theorem State.sends_sendSingle (hl : l < 2) (ty : Nat) (p : List Byte) : s.Sends l (s.sendSingle l ty p) := by
  unfold State.sendSingle
  split
  · exact .refl s
  · refine .trans hl (.mod s _ ?_) (State.sends_pump _ hl)
    exact fun _ => rfl

theorem State.sendSingle_down (h : s.laneUp l = false) (ty : Nat) (p : List Byte) : s.sendSingle l ty p = s := by
  unfold State.sendSingle
  rw [h]
  rfl

/-- Nothing is queued, so nothing is sent. -/
theorem State.pump_idle (h : (s.lane l).queue = []) : s.pump l = s := by
  refine List.foldl_fixed' (fun _ => ?_) _
  unfold State.sendOne
  dsimp only
  rw [h]
end

/-! ## The counts of frames sent again (13 R480) -/

/-- Only the chain's counters and the performance counters differ. -/
def State.Tallies (s t : State) : Prop := ∃ (c : Vector Nat 18) (p : Pmon), t = { s with chain := { s.chain with counters := c }, pmon := p }

theorem State.Tallies.trans {s t u : State} (h : s.Tallies t) (k : t.Tallies u) : s.Tallies u := by
  obtain ⟨c, p, rfl⟩ := h
  obtain ⟨d, q, rfl⟩ := k
  exact ⟨d, q, rfl⟩

theorem State.tallies_foldl {α : Type} (k e : Nat) (l : List α) (s : State) : s.Tallies (l.foldl (fun s _ => (s.chainCount k).count e) s) :=
  foldl_related (fun _ => ⟨_, _, rfl⟩) .trans (fun _ _ => ⟨_, _, rfl⟩) l s

/-! ## What a device below or a head is told (13 R466) -/

/-- No lane's state, no role and no clock differs, nor CHD while it is not UP. -/
structure State.Tells (s t : State) : Prop where
  st : ∀ k, (t.lane k).st = (s.lane k).st
  chd : s.laneUp 1 = false → t.lane 1 = s.lane 1
  counters : ∀ j, j ≠ 17 → vget t.chain.counters j = vget s.chain.counters j
  role : t.chain.head = s.chain.head ∧ t.chain.number = s.chain.number ∧ t.chain.unnumbered = s.chain.unnumbered
  clk : t.clk = s.clk

theorem State.Tells.refl (s : State) : s.Tells s := ⟨fun _ => rfl, fun _ => rfl, fun _ _ => rfl, ⟨rfl, rfl, rfl⟩, rfl⟩

theorem State.Tells.trans {s t u : State} (h : s.Tells t) (k : t.Tells u) : s.Tells u where
  st j := (k.st j).trans (h.st j)
  chd hd := by
    have hs : t.laneUp 1 = s.laneUp 1 := by
      unfold State.laneUp
      rw [h.st]
    exact (k.chd (hs.trans hd)).trans (h.chd hd)
  counters j hj := (k.counters j hj).trans (h.counters j hj)
  role := ⟨k.role.1.trans h.role.1, k.role.2.1.trans h.role.2.1, k.role.2.2.trans h.role.2.2⟩
  clk := k.clk.trans h.clk

theorem State.Sends.lane_st {l k : Nat} {s t : State} (hl : l < 2) (h : s.Sends l t) : (t.lane k).st = (s.lane k).st := by
  obtain ⟨f, p, hf, rfl⟩ := h
  by_cases hk : k = l
  · subst hk
    exact (congrArg Lane.st (s.lane_modKakel_same f hl)).trans (hf _)
  · exact congrArg Lane.st (s.lane_modKakel_other f hk)

theorem State.Sends.lane_other {l k : Nat} {s t : State} (hk : k ≠ l) (h : s.Sends l t) : t.lane k = s.lane k := by
  obtain ⟨f, p, hf, rfl⟩ := h
  exact s.lane_modKakel_other f hk

theorem State.Sends.tells {l : Nat} {s t : State} (hl : l < 2) (h : s.Sends l t) (hd : s.laneUp 1 = false → t.lane 1 = s.lane 1) : s.Tells t where
  st _ := h.lane_st hl
  chd := hd
  counters _ _ := by
    obtain ⟨f, p, hf, rfl⟩ := h
    rfl
  role := by
    obtain ⟨f, p, hf, rfl⟩ := h
    exact ⟨rfl, rfl, rfl⟩
  clk := by
    obtain ⟨f, p, hf, rfl⟩ := h
    rfl

section
variable (s : State)

theorem State.tells_sendUp (ty : Nat) (p : List Byte) : s.Tells (s.sendSingle 0 ty p) :=
  (s.sends_sendSingle (by decide) ty p).tells (by decide) fun _ => (s.sends_sendSingle (by decide) ty p).lane_other (by decide)

theorem State.tells_sendDown (ty : Nat) (p : List Byte) : s.Tells (s.sendSingle 1 ty p) :=
  (s.sends_sendSingle (by decide) ty p).tells (by decide) fun h => by rw [s.sendSingle_down h]

theorem State.tells_startEnum (auto : Bool) (cmds : List Nat) : s.Tells (s.startEnum auto cmds) :=
  .trans (t := (s.modChain fun c => { c with enum := some { started := s.now, cmds := cmds }, enumAtStart := false }).chainCount 17)
    ⟨fun _ => rfl, fun _ => rfl, fun _ h => vget_vmod_other _ _ h, ⟨rfl, rfl, rfl⟩, rfl⟩ (State.tells_sendDown ..)

theorem State.tells_finalReply (id : Nat) (st : Status) (d : Nat) (p : List Byte) : s.Tells (s.finalReply id st d p) := by
  obtain ⟨_, _, _, _, e⟩ := s.finalReply_eq id st d p
  rw [e]
  exact ⟨fun _ => rfl, fun _ => rfl, fun _ _ => rfl, ⟨rfl, rfl, rfl⟩, rfl⟩

theorem State.tells_requestEnum : s.Tells s.requestEnum := by
  unfold State.requestEnum
  split
  · exact .trans (foldl_related .refl .trans (fun u _ => u.tells_finalReply ..) _ s) (State.tells_startEnum ..)
  · split
    · exact State.tells_startEnum ..
    · exact .refl s

theorem State.tells_chdChanged : s.Tells s.chdChanged := by
  unfold State.chdChanged
  split
  · split
    · exact State.tells_startEnum ..
    · exact s.tells_requestEnum
  · exact s.tells_sendUp ..
end

/-! ## A frame taken (13 R455, R460) -/

section
variable {s : State} {l : Nat} {f : RxFrame}

theorem State.Receives.receive (h : s.Receives l f) : s.receive l f = (s.received l f, some f.frame) := by
  obtain ⟨hfast, hup, ⟨hwhole, hcrc⟩, hseq, hgrant⟩ := h
  unfold State.receive
  simp only [hfast, hup, hwhole, hcrc, hseq]
  simp [hgrant]
  rfl
end

/-! ## A lane comes up (13 R456, R466) -/

/-- Lane `l` UP: its credits, its kept frames renumbered and sent again, and what waited. -/
def State.linked (s : State) (l : Nat) : State :=
  ((s.lane l).replay.foldl (fun s _ => (s.chainCount (2 + l)).count 50) (s.modKakel l fun a =>
    let a := a.renumber
    { a with st := .up, credits := 8 - min 8 a.replay.length, grants := 8, slept := false, replays := 0,
             replay := a.replay.map fun f => { f with sentDt := s.now } })).pump l

/-- What follows once the lane is UP: CHU ends the head role, and the number unless it only slept; a change of CHD is told. -/
def State.afterLinkUp (u : State) (slept : Bool) : LaneId → Res
  | .chu => if u.chain.head then .next ((u.modChain fun c => { c with head := false, unnumbered := true }).setAlign .unaligned)
      else if slept then .next u else .next (u.modChain fun c => { c with unnumbered := true })
  | .chd => .next u.chdChanged

theorem execLinkUp_eq (l : LaneId) (s : State) : execLinkUp l s =
    if !(s.fast && (s.lane l.num).st == .training && (s.lane l.num).lock) then .next s
    else (s.linked l.num).afterLinkUp (s.lane l.num).slept l := by
  cases l
  · unfold execLinkUp State.linked State.afterLinkUp
    rfl
  · unfold execLinkUp State.linked State.afterLinkUp
    rfl

theorem exec_linkUp {s : State} {l : LaneId} (hf : s.fast = true) (ht : (s.lane l.num).st = .training) (hl : (s.lane l.num).lock = true) :
    exec (.linkUp l) s = (s.linked l.num).afterLinkUp (s.lane l.num).slept l := by
  refine (execLinkUp_eq l s).trans (if_neg ?_)
  simp [hf, ht, hl]

/-- The lane as it comes UP, before what waited is sent. -/
def Lane.raised (a : Lane) (now : Nat) : Lane :=
  { a.renumber with st := .up, credits := 8 - min 8 a.renumber.replay.length, grants := 8, slept := false, replays := 0
                    replay := a.renumber.replay.map fun f => { f with sentDt := now } }

theorem Lane.renumber_queue (a : Lane) : a.renumber.queue = a.queue := by
  unfold Lane.renumber
  split <;> rfl

theorem Lane.renumber_replay_length (a : Lane) : a.renumber.replay.length = a.replay.length := by
  unfold Lane.renumber
  split
  · exact List.length_mapIdx
  · rfl

theorem State.linked_eq (s : State) (l : Nat) : ∃ c p, s.linked l =
    ({ s.modKakel l (·.raised s.now) with chain := { (s.modKakel l (·.raised s.now)).chain with counters := c }, pmon := p } : State).pump l := by
  obtain ⟨c, p, e⟩ := State.tallies_foldl (2 + l) 50 (s.lane l).replay (s.modKakel l (·.raised s.now))
  exact ⟨c, p, congrArg (State.pump · l) e⟩

theorem State.linked_st {s : State} {l : Nat} (hl : l < 2) : ((s.linked l).lane l).st = .up := by
  obtain ⟨c, p, e⟩ := s.linked_eq l
  rw [e, (State.sends_pump _ hl).lane_st hl]
  exact congrArg Lane.st (s.lane_modKakel_same _ hl)

theorem State.linked_head {s : State} {l : Nat} (hl : l < 2) : (s.linked l).chain.head = s.chain.head := by
  obtain ⟨c, p, e⟩ := s.linked_eq l
  obtain ⟨f, q, -, e'⟩ := State.sends_pump
    ({ s.modKakel l (·.raised s.now) with chain := { (s.modKakel l (·.raised s.now)).chain with counters := c }, pmon := p } : State) hl
  rw [e, e']
  rfl

/-- With nothing queued the lane stays as it came UP. -/
theorem State.linked_lane {s : State} {l : Nat} (hl : l < 2) (hq : (s.lane l).queue = []) : (s.linked l).lane l = (s.lane l).raised s.now := by
  obtain ⟨c, p, e⟩ := s.linked_eq l
  have hlane : (s.modKakel l (·.raised s.now)).lane l = (s.lane l).raised s.now := s.lane_modKakel_same _ hl
  rw [e, State.pump_idle]
  · exact hlane
  · exact (congrArg Lane.queue hlane).trans ((Lane.renumber_queue _).trans hq)

theorem State.afterLinkUp_st (u : State) (b : Bool) (l : LaneId) : ∃ t, u.afterLinkUp b l = .next t ∧ ∀ k, (t.lane k).st = (u.lane k).st := by
  cases l
  · unfold State.afterLinkUp
    dsimp only
    split
    · refine ⟨_, rfl, fun k => ?_⟩
      unfold State.lane
      rw [State.setAlign_chain]
      rfl
    · split <;> exact ⟨_, rfl, fun _ => rfl⟩
  · exact ⟨_, rfl, u.tells_chdChanged.st⟩

theorem State.afterLinkUp_lane {u : State} (h : u.chain.head = false) (b : Bool) : ∃ t, u.afterLinkUp b .chu = .next t ∧ t.lane 0 = u.lane 0 := by
  unfold State.afterLinkUp
  dsimp only
  rw [h, if_neg Bool.false_ne_true]
  split <;> exact ⟨_, rfl, rfl⟩

/-! ## A lane goes down (13 R456) -/

theorem exec_linkDown {s : State} {l : LaneId} {n : Nat} (hf : s.fast = true) (hu : (s.lane l.num).st = .up) :
    exec (.linkDown ⟨l, n⟩) s = .next ((s.lineErrors l.num n).linkFails l.num) := by
  refine if_pos ?_
  unfold State.laneUp
  rw [hf, hu]
  rfl

/-- The lane as it goes DOWN. -/
def Lane.dropped (a : Lane) : Lane := { a with st := .down, lock := false, replays := 0, slept := false }

theorem State.laneDown_eq {s : State} {l : Nat} (hu : (s.lane l).st = .up) : s.laneDown l =
    if l = 0 then ((s.modKakel l Lane.dropped).chainCount (4 + l)).modChain fun c => { c with headCount := 0 }
    else (s.modKakel l Lane.dropped).chainCount (4 + l) := by
  refine if_neg ?_
  simp [State.laneUp, hu]

/-- What LINK_DOWN leaves of its lane and of the other counters. -/
theorem State.laneDown_fields {s : State} {l : Nat} (hl : l < 2) (hu : (s.lane l).st = .up) : ((s.laneDown l).lane l).st = .down ∧
    ((s.laneDown l).lane l).replay = (s.lane l).replay ∧
    ∀ j, j ≠ 4 + l → vget (s.laneDown l).chain.counters j = vget s.chain.counters j := by
  have hlane : (s.modKakel l Lane.dropped).lane l = (s.lane l).dropped := s.lane_modKakel_same _ hl
  have hcount (j : Nat) (h : j ≠ 4 + l) : vget ((s.modKakel l Lane.dropped).chainCount (4 + l)).chain.counters j = vget s.chain.counters j :=
    vget_vmod_other _ _ h
  rw [State.laneDown_eq hu]
  split <;> exact ⟨congrArg Lane.st hlane, (congrArg Lane.replay hlane).trans rfl, hcount⟩

theorem State.linkFails_fields {s : State} {l : Nat} (hl : l < 2) (hu : (s.lane l).st = .up) : ((s.linkFails l).lane l).st = .down ∧
    ((s.linkFails l).lane l).replay = (s.lane l).replay ∧
    ∀ j, j ≠ 4 + l → j ≠ 17 → vget (s.linkFails l).chain.counters j = vget s.chain.counters j := by
  obtain ⟨hst, hreplay, hcount⟩ := State.laneDown_fields hl hu
  unfold State.linkFails
  split
  next h =>
    subst h
    have htold := (s.laneDown 1).tells_chdChanged
    have hchd : (s.laneDown 1).laneUp 1 = false := by
      unfold State.laneUp
      rw [hst]
      rfl
    exact ⟨(htold.st 1).trans hst, (congrArg Lane.replay (htold.chd hchd)).trans hreplay, fun j h4 h17 => (htold.counters j h17).trans (hcount j h4)⟩
  next => exact ⟨hst, hreplay, fun j h4 _ => hcount j h4⟩

/-! ## Frames sent again (13 R460) -/

section
variable (s : State) {l : Nat} (n : Nat)

theorem State.replayFrom_lane (hl : l < 2) : ((s.replayFrom l n).lane l).replays = (s.lane l).replays + 1 ∧
    ((s.replayFrom l n).lane l).replay.map (·.frame) = (s.lane l).replay.map (·.frame) := by
  unfold State.replayFrom
  extract_lets a p again t
  obtain ⟨c, q, e⟩ := State.tallies_foldl (2 + l) 50 again t
  rw [e]
  have hlane : t.lane l = _ := s.lane_modKakel_same _ hl
  refine ⟨congrArg Lane.replays hlane, (congrArg (fun a : Lane => a.replay.map (·.frame)) hlane).trans ?_⟩
  rw [List.map_map]
  refine List.map_congr_left fun f _ => ?_
  dsimp only [Function.comp]
  split <;> rfl

/-- An exchange that becomes void leaves the lanes. -/
theorem State.lane_voided (u : State) (void : Bool) : (if void = true then u.voidExchange else u).lane l = u.lane l := by
  cases void <;> rfl

/-- Fewer than 16 replays in a row leave the link UP. -/
theorem State.replayOn_lane (hl : l < 2) (hr : (s.lane l).replays < 15) : ((s.replayOn l n).lane l).replays = (s.lane l).replays + 1 ∧
    ((s.replayOn l n).lane l).replay.map (·.frame) = (s.lane l).replay.map (·.frame) := by
  have ht := s.replayFrom_lane n hl
  unfold State.replayOn
  dsimp only
  rw [if_neg (by rw [State.lane_voided]; omega), State.lane_voided]
  exact ht
end

/-- Settles O35, event by event. -/
theorem laneEvents : Obligations.LaneEvents := by
  unfold Obligations.LaneEvents
  intro l s
  have hl := LaneId.num_lt l
  refine ⟨fun hf hu ho => ?_, fun hf ht hk => ?_, fun hf ht hk hq he hh => ?_, fun n hf hu => ?_, fun f h hty => ?_, fun f h hty => ?_,
    fun f r n hr hn => ?_, fun n f h hn => ?_, fun f h hu hd => ?_, fun _ => rfl⟩
  · refine if_pos ?_
    simp [hf, hu, ho]
  · obtain ⟨t, e, hst⟩ := (s.linked l.num).afterLinkUp_st (s.lane l.num).slept l
    exact ⟨t, (exec_linkUp hf ht hk).trans e, (hst _).trans (State.linked_st hl)⟩
  · subst he
    obtain ⟨t, e, hlane⟩ := State.afterLinkUp_lane ((s.linked_head (l := 0) (by decide)).trans hh) (s.lane 0).slept
    refine ⟨t, (exec_linkUp hf ht hk).trans e, ?_⟩
    rw [hlane, State.linked_lane (l := 0) (by decide) hq]
    unfold Lane.raised
    simp [Lane.renumber_replay_length]
  · have hup : ((s.lineErrors l.num n).lane l.num).st = .up := hu
    obtain ⟨hst, hreplay, hcount⟩ := State.linkFails_fields hl hup
    refine ⟨_, exec_linkDown hf hu, hst, hreplay, (hcount _ (by omega) (by omega)).trans ?_⟩
    exact vget_vmod_same _ _ (by omega)
  · simp only [exec, execLinkSleep, h.receive, hty]
    rfl
  · simp only [exec, execReservedFrame, h.receive]
    refine if_pos ?_
    unfold reservedType
    rcases hty with h0 | h10 <;> simp [*]
  · have hany : (s.lane l.num).replay.any (fun f => f.hseq == n.val) = true := by simp [hr, hn]
    refine (if_pos hany).trans ?_
    rw [hr]
    simp only [splitReplay, hn]
    rfl
  · obtain ⟨r, hr⟩ := List.head?_eq_some_iff.1 h.first
    exact ⟨_, if_pos (by simp [hr, hn]), s.replayOn_lane n.val hl h.few⟩
  · obtain ⟨r, hr⟩ := List.head?_eq_some_iff.1 h.first
    refine ⟨_, ?_, s.replayOn_lane f.hseq hl h.few⟩
    simp only [exec, execReplayTimeout, hr]
    exact if_pos (by simp [State.laneUp, hu, hd])

end Sys2Proof.Machine

/-! # Units on the chain and enumeration (O36, O37) -/

namespace Sys2Proof.Machine

section
variable (s : State) (l : Nat) (f : RxFrame)

@[simp] theorem State.received_head : (s.received l f).chain.head = s.chain.head := rfl
@[simp] theorem State.received_lastDevice : (s.received l f).lastDevice = s.lastDevice := rfl
@[simp] theorem State.received_clk : (s.received l f).clk = s.clk := rfl
@[simp] theorem State.received_now : (s.received l f).now = s.now := rfl

theorem State.received_lane_other {k : Nat} (h : k ≠ l) : (s.received l f).lane k = s.lane k := vget_vmod_other _ _ h

theorem State.received_lacksRoom (fr : Frame) : (s.received 0 f).lacksRoom fr = s.lacksRoom fr := by
  have hup : (s.received 0 f).laneUp 1 = s.laneUp 1 := by
    unfold State.laneUp
    rw [s.received_lane_other 0 f (by decide)]
  unfold State.lacksRoom State.takesDown
  rw [hup]
  rfl
end

/-! ## Units for this device (13 R461, R462) -/

section
variable {s : State} {fr : Frame}

/-- A frame to this device's own number while nothing waits is not passed on. -/
theorem State.downFrame_own (hh : s.chain.held = none) (hu : s.chain.unnumbered = false) (hd : fr.dev = s.chain.number) (h127 : fr.dev ≠ 127) :
    s.downFrame fr = if s.lacksRoom fr then s.modChain fun c => { c with held := some { frames := [fr], since := s.now } } else s.gatherDown fr := by
  have htake : s.takesDown fr.dev = true := by simp [State.takesDown, hu, hd]
  have hpass : s.forwardsDown fr.dev = false := by
    unfold State.forwardsDown
    rw [hu, ← hd]
    simp [h127]
  unfold State.downFrame
  simp only [hh, htake, hpass]
  rfl

theorem State.gatherDown_refused (hf : fr.first = true) (h : s.fillable fr.seg = false) :
    s.gatherDown fr = (s.modKakel 0 fun a => { a with rx := none }).chainCount 11 := by
  unfold State.gatherDown
  rw [hf, h]
  rfl

theorem State.gatherDown_taken (hf : fr.first = true) (hl : fr.last = true) (ha : fr.abandon = false) (h : s.fillable fr.seg = true)
    (hr : slotsOf fr.seg.length ≤ (vget s.rings (selectedRing fr.seg)).free) :
    s.gatherDown fr = (s.modKakel 0 fun a => { a with rx := none }).arrive (selectedRing fr.seg) fr.seg := by
  have hone : assemble (s.lane 0).rx fr = (none, some { dev := fr.dev, ring := fr.ring, bytes := fr.seg }) := by
    simp [assemble, hf, hl, ha]
  have hfill : (s.modKakel 0 fun a => { a with rx := none }).fillable fr.seg = true := h
  unfold State.gatherDown
  rw [hf, h, hone]
  exact if_pos (Bool.and_eq_true_iff.2 ⟨hfill, decide_eq_true hr⟩)
end

theorem exec_down {s : State} {f : RxFrame} (h : s.Receives 0 f) (ht : f.frame.ftype = 1) :
    exec (.down f) s = .next ((s.received 0 f).downFrame f.frame) := by
  simp only [exec, execDown, h.receive, ht]
  rfl

theorem vmod_outside {α : Type} {n i : Nat} [Inhabited α] (v : Vector α n) (f : α → α) (h : n ≤ i) : vmod v i f = v := by
  unfold vmod vset
  refine Vector.ext fun j hj => ?_
  rw [Vector.getElem_setIfInBounds, if_neg (by omega)]

/-! ## The device's own output (13 R463) -/

theorem exec_arbitration_own {s : State} {n k : Nat} {b : List Byte} (hd : s.drumUp = true) (hh : s.chain.head = false) (hu : s.laneUp 0 = true)
    (hc : s.chain.current = none) (hq : s.chain.hopUp = []) (ho : s.ownRing = some n) (hb : s.ownUnit n = some (b, k)) :
    exec .unitBoundaryArbitration s = .next ((s.modChain fun c =>
      { c with forwarded := 0, sentSlots := vmod c.sentSlots n (· + k), robin := if n ≥ 8 then 8 + (n - 8 + 1) % 8 else c.robin }).sendFrames 0
        (unitFrames 2 s.number n (n, k) b)) := by
  simp only [exec, execUnitBoundaryArbitration, hd, hh, hu, hc, hq, ho, hb]
  rfl

theorem exec_arbitration_forward {s : State} {f : Frame} {r : List Frame} (hd : s.drumUp = true) (hh : s.chain.head = false)
    (hu : s.laneUp 0 = true) (hc : s.chain.current = none) (hq : s.chain.hopUp = f :: r) (ho : s.ownRing = none) :
    exec .unitBoundaryArbitration s = .next (s.modChain fun c => { c with forwarded := c.forwarded + 1, current := some true }).flowUp := by
  simp only [exec, execUnitBoundaryArbitration, hd, hh, hu, hc, hq, ho]
  rfl

/-- Settles O36, unit by unit. -/
theorem chainUnits : Obligations.ChainUnits := by
  unfold Obligations.ChainUnits
  intro s
  refine ⟨fun f h ht hf hl ha hu hd h127 hh => ?_, fun f h ht hf hl ha hd => ?_, fun hc hn => ?_, fun hs hn => ?_, fun h hh hn => ?_,
    fun n b k hd hh hu hc hq ho hb => ?_, fun f r hd hh hu hc hq ho => exec_arbitration_forward hd hh hu hc hq ho⟩
  · have hdown := (exec_down h ht).trans (congrArg Host.Outcome.next (State.downFrame_own (s := s.received 0 f) hh hu hd h127))
    rw [State.received_lacksRoom] at hdown
    refine ⟨fun hroom => ?_, fun hfill => ?_, fun hroom hfill hfree => ?_⟩
    · rw [hdown, hroom]
      rfl
    · have hroom : s.lacksRoom f.frame = false := by
        unfold State.lacksRoom
        rw [hfill]
        simp
      rw [hdown, hroom]
      exact congrArg Host.Outcome.next (State.gatherDown_refused hf hfill)
    · rw [hdown, hroom]
      exact congrArg Host.Outcome.next (State.gatherDown_taken hf hl ha hfill hfree)
  · have hlast : (s.received 1 f).lastDevice = false := by simp [State.lastDevice, hd]
    have hone (rx : Option PartUnit) : assemble rx f.frame = (none, some { dev := f.frame.dev, ring := f.frame.ring, bytes := f.frame.seg }) := by
      simp [assemble, hf, hl, ha]
    simp only [exec, execUp, h.receive, ht, hlast, State.received_head, hd, hone]
    rfl
  · refine ⟨_, if_pos ?_, rfl⟩
    simp [hc, LaneId.num, hn]
  · refine ⟨_, if_pos ?_, congrArg Lane.sending (State.lane_modKakel_same _ _ (by decide))⟩
    simp only [LaneId.num]
    simp [hs, hn]
  · simp only [exec, execDownHoldExpiry, hh]
    exact if_pos hn
  · refine ⟨_, exec_arbitration_own hd hh hu hc hq ho hb, rfl, ?_⟩
    by_cases hn : n < 16
    · rw [if_pos hn]
      exact vget_vmod_same _ _ hn
    · rw [if_neg hn]
      exact congrArg (fun v => vget v n) (vmod_outside s.chain.sentSlots (· + k) (Nat.not_lt.1 hn))

/-! ## Enumeration (13 R466–R468) -/

/-- The module becomes the head of its chain (13 R444, 03 R109). -/
def State.headed (s : State) : State :=
  let u := s.modChain fun c => { c with head := true, number := 0, unnumbered := false }
  State.setAlign { u with clk := { u.clk with offset := 0, steer := 0 } } .master

theorem exec_headTimeout {s : State} (hd : s.drumUp = true) (hh : s.chain.head = false) (hn : 8184000 ≤ s.chain.headCount) (hu : s.laneUp 0 = false) :
    exec .headTimeout s = .next (if s.headed.chain.enumAtStart && s.headed.laneUp 1 then s.headed.startEnum true [] else s.headed) :=
  if_pos (by simp [hd, hh, hn, hu])

theorem State.headed_role (s : State) : s.headed.chain.head = true ∧ s.headed.chain.number = 0 ∧ s.headed.chain.unnumbered = false ∧
    s.headed.clk.offset = 0 := by
  unfold State.headed
  simp

/-- The master's epoch comes with an ENUM, and is aligned to where it is new (13 R467). -/
def State.epochTaken (s : State) (e : Nat) : State :=
  let u : State := { s with clk := { s.clk with masterEpoch := e } }
  if decide (e ≠ s.clk.masterEpoch) then u.chainAlign u.now else u

theorem State.epochTaken_clk (s : State) (e : Nat) : (s.epochTaken e).clk = { s.clk with masterEpoch := e } := by
  unfold State.epochTaken
  dsimp only
  split
  · exact State.chainAlign_clk ..
  · rfl

/-- What the device becomes with the next free number, and the frame that it sends on (13 R467). -/
def State.numbered (u : State) (p : List Byte) : Res :=
  if byteAt p 0 ≥ 64 then
    .next ((u.modChain fun c => { c with unnumbered := true }).sendSingle 0 7 (le 1 64 ++ le 1 1 ++ le 1 (byteAt p 2) ++ le 1 0))
  else
    let changed := if u.chain.unnumbered || u.chain.number != byteAt p 0 then byteAt p 2 + 1 else byteAt p 2
    let v := u.modChain fun c => { c with number := byteAt p 0, unnumbered := false }
    if v.laneUp 1 then .next (v.sendSingle 1 6 (enumPayload (byteAt p 0 + 1) (bit (byteAt p 1) 0) changed (getLe p 4 4)))
    else .next ((v.modChain fun c => { c with length := byteAt p 0 + 1 }).sendSingle 0 7 (le 1 (byteAt p 0 + 1) ++ le 1 0 ++ le 1 changed ++ le 1 0))

theorem exec_enum {s : State} {f : RxFrame} (h : s.Receives 0 f) (ht : f.frame.ftype = 6) :
    exec (.enum f) s = ((s.received 0 f).epochTaken (getLe f.frame.seg 4 4)).numbered f.frame.seg := by
  simp only [exec, execEnum, h.receive, ht]
  rfl

theorem State.numbered_below {u : State} {p : List Byte} (h : byteAt p 0 < 64) :
    ∃ t, u.numbered p = .next t ∧ t.chain.number = byteAt p 0 ∧ t.chain.unnumbered = false ∧ t.clk = u.clk := by
  unfold State.numbered
  rw [if_neg (Nat.not_le.2 h)]
  dsimp only
  split
  · have htold := State.tells_sendDown (u.modChain fun c => { c with number := byteAt p 0, unnumbered := false }) 6
      (enumPayload (byteAt p 0 + 1) (bit (byteAt p 1) 0)
        (if u.chain.unnumbered || u.chain.number != byteAt p 0 then byteAt p 2 + 1 else byteAt p 2) (getLe p 4 4))
    exact ⟨_, rfl, htold.role.2.1, htold.role.2.2, htold.clk⟩
  · have htold := State.tells_sendUp ((u.modChain fun c => { c with number := byteAt p 0, unnumbered := false }).modChain fun c =>
      { c with length := byteAt p 0 + 1 }) 7 (le 1 (byteAt p 0 + 1) ++ le 1 0 ++
        le 1 (if u.chain.unnumbered || u.chain.number != byteAt p 0 then byteAt p 2 + 1 else byteAt p 2) ++ le 1 0)
    exact ⟨_, rfl, htold.role.2.1, htold.role.2.2, htold.clk⟩

theorem State.numbered_full {u : State} {p : List Byte} (h : 64 ≤ byteAt p 0) : ∃ t, u.numbered p = .next t ∧ t.chain.unnumbered = true := by
  unfold State.numbered
  rw [if_pos h]
  exact ⟨_, rfl, (State.tells_sendUp ..).role.2.2⟩

/-- Settles O37, frame by frame. -/
theorem enumerations : Obligations.Enumerations := by
  unfold Obligations.Enumerations
  intro s f
  refine ⟨fun hd hh hn hu => ?_, fun h ht hn => ?_, fun h ht hn => ?_, fun h ht hh => ?_, fun h ht hh => ?_, fun h ht => ?_,
    fun e he hc hn => ?_, fun e n he hc hn => ?_⟩
  · refine ⟨_, exec_headTimeout hd hh hn hu, ?_⟩
    obtain ⟨hhead, hnumber, hnum, hoffset⟩ := s.headed_role
    split
    · have htold := s.headed.tells_startEnum true []
      exact ⟨htold.role.1.trans hhead, htold.role.2.1.trans hnumber, htold.role.2.2.trans hnum, (congrArg Clock.offset htold.clk).trans hoffset⟩
    · exact ⟨hhead, hnumber, hnum, hoffset⟩
  · obtain ⟨t, e, hnumber, hnum, hclk⟩ := State.numbered_below (u := (s.received 0 f).epochTaken (getLe f.frame.seg 4 4)) hn
    refine ⟨t, (exec_enum h ht).trans e, hnumber, hnum, ?_⟩
    rw [hclk, State.epochTaken_clk]
  · obtain ⟨t, e, hnum⟩ := State.numbered_full (u := (s.received 0 f).epochTaken (getLe f.frame.seg 4 4)) hn
    exact ⟨t, (exec_enum h ht).trans e, hnum⟩
  · simp only [exec, execEnumEnd, h.receive, ht, State.received_head, hh]
    rfl
  · simp only [exec, execEnumEnd, h.receive, ht, State.received_head, hh]
    rfl
  · simp only [exec, execEnumReq, h.receive, ht, State.received_head, State.received_lastDevice]
    rw [apply_ite Host.Outcome.next, apply_ite Host.Outcome.next]
    rfl
  · simp only [exec, execEnumerationTimeout, he, hc]
    exact if_pos hn
  · simp only [exec, execEnumerationTimeout, he, hc]
    exact if_pos hn

end Sys2Proof.Machine

/-! # Alignment and the host port (O38, O39) -/

namespace Sys2Proof.Machine

/-! ## Alignment (13 R469, R470, 03 R110, R111) -/

theorem State.sendSingle_clk (s : State) {l : Nat} (hl : l < 2) (ty : Nat) (p : List Byte) : (s.sendSingle l ty p).clk = s.clk := by
  obtain ⟨_, _, -, e⟩ := s.sends_sendSingle hl ty p
  rw [e]
  rfl

theorem State.sendSingle_role (s : State) {l : Nat} (hl : l < 2) (ty : Nat) (p : List Byte) :
    (s.sendSingle l ty p).number = s.number ∧ (s.sendSingle l ty p).alignCode = s.alignCode ∧ (s.sendSingle l ty p).masterEpoch = s.masterEpoch := by
  obtain ⟨_, _, -, e⟩ := s.sends_sendSingle hl ty p
  rw [e]
  exact ⟨rfl, rfl, rfl⟩

theorem exec_alignExchangeDue {s : State} (a : Stamp) (he : s.exchanges = true) (hn : s.clk.nextExchange ≤ s.now) (hx : s.clk.exchange = none) :
    exec (.alignExchangeDue a) s = .next (State.sendSingle { s with clk := { s.clk with
      exchange := some { started := s.now, t1 := s.stampTime a }, nextExchange := s.now + second } } 0 3 (le 1 s.number ++ zeros 3)) :=
  if_pos (by simp [he, hn, hx])

theorem exec_alignReq {s : State} {f : RxFrame} (a b : Stamp) (h : s.Receives 1 f) (ht : f.frame.ftype = 3) (hl : s.lastDevice = false) :
    exec (.alignReq f a b) s = .next (((s.received 1 f).sendSingle 1 4 (le 1 s.number ++ zeros 3)).sendSingle
      1 5 (leInt 8 ((a.dt : Int) + s.clk.offset) ++ le 1 a.interp ++ le 1 b.interp ++ le 1 s.alignCode ++ le 1 s.number ++
        leInt 8 ((b.dt : Int) + s.clk.offset) ++ le 4 s.masterEpoch)) := by
  obtain ⟨hnumber, hcode, hepoch⟩ := (s.received 1 f).sendSingle_role (l := 1) (by decide) 4 (le 1 s.number ++ zeros 3)
  have hclk := (s.received 1 f).sendSingle_clk (l := 1) (by decide) 4 (le 1 s.number ++ zeros 3)
  simp only [exec, execAlignReq, h.receive, ht, State.received_lastDevice, hl]
  have hn : (s.received 1 f).number = s.number := rfl
  rw [hn, hclk, hnumber, hcode, hepoch]
  rfl

theorem exec_alignRsp {s : State} {f : RxFrame} {e : Exchange} (a : Stamp) (h : s.Receives 0 f) (ht : f.frame.ftype = 4)
    (he : s.clk.exchange = some e) (hb : (s.lane 0).bad = false) :
    ∃ t, exec (.alignRsp f a) s = .next t ∧ t.clk.exchange = some { e with t4 := some (s.stampTime a, a.dt) } := by
  simp only [exec, execAlignRsp, h.receive, ht, State.received_clk, he, hb]
  exact ⟨_, rfl, rfl⟩

/-- The follow-up completes an exchange while no offset is held: the offset steps (03 R110). -/
theorem exec_alignFup {s : State} {f : RxFrame} {e : Exchange} {t4 : Int} {d : Nat} (h : s.Receives 0 f) (ht : f.frame.ftype = 5)
    (he : s.clk.exchange = some e) (h4 : e.t4 = some (t4, d)) (hheld : s.clk.offsetHeld = false) (hb : (s.lane 0).bad = false)
    (hn : s.now ≤ e.started + ms 1) (hcode : byteAt f.frame.seg 10 = 0 ∨ byteAt f.frame.seg 10 = 3) :
    ∃ t, exec (.alignFup f) s = .next t ∧ t.clk.exchange = none ∧
        t.clk.offsetHeld = true ∧ t.clk.steer = 0 ∧ t.clk.lastExchange = some s.now ∧ t.clk.masterEpoch = getLe f.frame.seg 20 4 := by
  have hgood : ((s.lane 0).bad || decide ((s.received 0 f).now > e.started + ms 1) || (byteAt f.frame.seg 10 != 0 && byteAt f.frame.seg 10 != 3)) = false := by
    rw [hb, State.received_now, decide_eq_false (Nat.not_lt.2 hn)]
    rcases hcode with h0 | h3
    · simp [h0]
    · simp [h3]
  simp only [exec, execAlignFup, h.receive, ht, State.received_clk, he, h4]
  simp only [ne_eq, not_true_eq_false, hgood, hheld, Bool.not_false, Bool.true_or, Bool.false_eq_true, reduceIte]
  refine ⟨_, rfl, ?_⟩
  rw [State.chainAlign_clk]
  exact ⟨rfl, rfl, rfl, rfl, rfl⟩

/-- Settles O38, event by event. -/
theorem alignment : Obligations.Alignment := by
  unfold Obligations.Alignment
  intro s f a b
  refine ⟨fun he hn hx => ?_, fun h ht hl => exec_alignReq a b h ht hl, fun e h ht he hb => exec_alignRsp a h ht he hb,
    fun e t4 d h ht he h4 hheld hb hn hcode => ?_, fun e he hn => ?_, fun e he hh hd hn => ?_⟩
  · refine ⟨_, exec_alignExchangeDue a he hn hx, ?_⟩
    rw [State.sendSingle_clk _ (by decide)]
    exact ⟨rfl, rfl⟩
  · exact exec_alignFup h ht he h4 hheld hb hn hcode
  · simp only [exec, execAlignExchangeVoid, he]
    exact if_pos hn
  · simp only [exec, execUnalignedTimeout, he]
    rw [if_pos (by simp [hh, hd, hn])]
    refine ⟨_, rfl, ?_⟩
    rw [State.setAlign_clk]
    exact ⟨rfl, rfl⟩

/-! ## The host port (13 R447–R452) -/

theorem exec_readStatus {s : State} (quad : Bool) {n : Nat} (h : s.hportServes = true) (hn : 0 < n) :
    exec (.readStatus quad n) s = .next ((s.modHport fun h =>
      { h with wrOvf := h.wrOvf && !bit (s.stood 0x0A01) 0, downBusy := h.downBusy && !bit (s.stood 0x0A01) 1
               err := h.err && !bit (s.stood 0x0A01) 2, out := fit n s.statusBlock }).count 44) := by
  refine (if_pos h).trans ?_
  dsimp only
  rw [if_neg (by omega)]
  rfl

theorem exec_writePacket {s : State} (quad : Bool) {b : List Byte} {q : Nat} (h : s.hportServes = true) (hl : 7 ≤ b.length)
    (hd : byteAt b 2 % 128 = 0) (hq : selectedRing b = q) (hen : (vget s.rings q).en = true) (hside : (vget s.rings q).side = false)
    (hfree : slotsOf b.length ≤ (vget s.rings q).free) :
    exec (.writePacket quad b) s = .next (((s.modHport fun h => { h with out := [] }).count 44).arrive q b) := by
  subst hq
  have hring : (!(vget s.rings (selectedRing b)).en || (vget s.rings (selectedRing b)).side) = false := by
    rw [hen, hside]
    rfl
  have hroom : ¬(vget s.rings (selectedRing b)).free < slotsOf b.length := Nat.not_lt.2 hfree
  simp only [exec, execWritePacket, h, hd, State.count_rings, State.modHport_rings, hring]
  simp [Nat.not_lt.2 hl, hroom]

/-- Settles O39, instruction by instruction. -/
theorem hostPort : Obligations.HostPort := by
  unfold Obligations.HostPort
  intro s quad h
  refine ⟨fun n hn => exec_readStatus quad h hn, fun b q hl hd hq hen hside hfree => exec_writePacket quad h hl hd hq hen hside hfree,
    fun k n q r hk hz hq hr hside => ?_, fun n => ?_, fun k hk => ?_⟩
  · subst hk hr
    have hok : ¬(k.toNat / 16 % 8 ≠ 0 ∨ k.toNat % 16 < 4 ∨ (vget s.rings (k.toNat % 16)).side = true) := by
      simp [hside, hz, hq]
    refine ⟨_, (if_neg (by simp [h])).trans (if_neg hok), ?_⟩
    split
    · exact ⟨rfl, rfl⟩
    · exact ⟨rfl, congrArg Ring.cons (vget_vmod_same s.rings _ (Nat.mod_lt _ (by decide)))⟩
  · exact ⟨_, if_neg (by simp [h]), rfl, rfl⟩
  · exact if_pos (by simpa [h] using hk)

end Sys2Proof.Machine

/-! # The interpreter and the mailbox (O40) -/

namespace Sys2Proof.Machine

/-- A reply of 64 bytes to command 4 waits for Q4, and a reset of the Drum waits for that reply (12 R423). -/
def resetAfterReply : State :=
  { inService 2 with
    rings := vmod startRings 4 fun r => { r with waiting := [⟨List.replicate 64 0, some 4⟩] }
    interp := { (inService 2).interp with plans := [{ source := 6, dome := none, drum := some 0, reply := none, waits := some 4 }] } }

/-- The replies that planned resets still wait for, after a command. -/
def Res.planWaits : Res → Option (List (Option Nat))
  | .next t => some (t.interp.plans.map (·.waits))
  | _ => none

theorem resetAfterReply_released : Res.planWaits (exec (.replyRelease 0) resetAfterReply) = some [none] := by decide +kernel

theorem resetAfterReply_stated : Res.planWaits (.next ((((resetAfterReply.modRing 4 fun k => { k with waiting := [] }).produce 4
    (List.replicate 64 0)).count 54).endOption (some 4))) = some [some 4] := by decide +kernel

/-- Refutes O40: a reply released starts the count of a reset planned behind it, of which the statement says nothing. -/
theorem not_interpreterAndMailbox : ¬ Obligations.InterpreterAndMailbox := by
  unfold Obligations.InterpreterAndMailbox
  intro h
  obtain ⟨-, -, -, -, hrelease, -⟩ := h resetAfterReply
  have hexec := hrelease 0 ⟨List.replicate 64 0, some 4⟩ [] (by decide +kernel) (by decide +kernel) (by decide +kernel)
  have hplans := congrArg Res.planWaits hexec
  rw [resetAfterReply_released] at hplans
  exact absurd (hplans.trans resetAfterReply_stated) (by decide)

end Sys2Proof.Machine

/-! # Reports, rounds over the ports and what follows a lane out of lock

Replies and records leave the units alone, and what follows a lane out of lock leaves every lane as it is. -/

namespace Sys2Proof.Machine

/-! ## What replies, records and drawn values change -/

/-- From `s` to `t` only what replies, records, drawn values and counts change has changed. -/
def State.Reports (s t : State) : Prop :=
  t = { s with free := t.free, ranks := t.ranks, pmon := t.pmon, mem := { s.mem with sram := t.mem.sram }, rings := t.rings, interp := t.interp,
               mbx := t.mbx, evtHeld := t.evtHeld }

namespace State.Reports

theorem refl (s : State) : s.Reports s := rfl

theorem trans {s t u : State} (h : s.Reports t) (k : t.Reports u) : s.Reports u := by
  unfold State.Reports at *
  rw [h] at k
  exact k

section
variable {s t : State} (h : s.Reports t)
include h

theorem clk : t.clk = s.clk := by rw [h]
theorem cores : t.cores = s.cores := by rw [h]
theorem evt : t.evt = s.evt := by rw [h]
theorem pwr : t.pwr = s.pwr := by rw [h]
theorem boot : t.boot = s.boot := by rw [h]
theorem sealed : t.sealed = s.sealed := by rw [h]
theorem nav : t.nav = s.nav := by rw [h]
theorem input : t.input = s.input := by rw [h]
theorem easel : t.easel = s.easel := by rw [h]
theorem trk : t.trk = s.trk := by rw [h]
theorem tp : t.tp = s.tp := by rw [h]
end
end State.Reports

section
variable (s : State)

theorem State.reports_finalReply (id : Nat) (st : Status) (d : Nat) (p : List Byte) : s.Reports (s.finalReply id st d p) := by
  obtain ⟨_, _, _, _, e⟩ := s.finalReply_eq id st d p
  rw [e]
  rfl

theorem State.reports_finalOption (id : Option Nat) (st : Status) (d : Nat) (p : List Byte) : s.Reports (s.finalOption id st d p) := by
  cases id
  · exact .refl s
  · exact s.reports_finalReply ..

theorem State.reports_drumRecord (n c ty dt : Nat) (p : List Byte) : s.Reports (s.drumRecord n c ty dt p) := by
  unfold State.drumRecord
  obtain ⟨_, _, _, e⟩ := s.offer_eq n (c * 256 + ty) dt p
  rw [e]
  rfl

theorem State.reports_domeRecord (n c ty dt : Nat) (p : List Byte) : s.Reports (s.domeRecord n c ty dt p) := by
  unfold State.domeRecord
  dsimp only
  split <;> rfl

theorem State.reports_claim (r : Nat) : s.Reports (s.claim r).2 := rfl

theorem State.reports_notchEvent (p k e : Nat) : s.Reports (s.notchEvent p k e) := (s.reports_claim 9).trans (State.reports_domeRecord ..)

/-- Replies to a list of commands. -/
theorem State.reports_foldl {α : Type} {f : State → α → State} (h : ∀ u a, State.Reports u (f u a)) (l : List α) : s.Reports (l.foldl f s) :=
  foldl_related State.Reports.refl State.Reports.trans h l s
end

/-! ## Rounds over the ports -/

/-- A round in which the turn of `m` brings about `W` from `V`, and the turns of the others keep both. -/
theorem forUpto_turn {σ : Type} {n m : Nat} {f : Nat → σ → σ} {V W : σ → Prop} {s : σ} (hm : m < n) (h0 : V s)
    (keepV : ∀ k ≠ m, ∀ u, V u → V (f k u)) (turn : ∀ u, V u → W (f m u)) (keepW : ∀ k ≠ m, ∀ u, W u → W (f k u)) :
    W (forUpto n f s) := by
  have before (j : Nat) (hj : j ≤ m) : V (forUpto j f s) := by
    induction j with
    | zero => exact h0
    | succ j ih => rw [forUpto_succ]; exact keepV j (by omega) _ (ih (by omega))
  induction n with
  | zero => exact absurd hm (Nat.not_lt_zero m)
  | succ n ih =>
    rw [forUpto_succ]
    by_cases h : n = m
    · exact h ▸ turn _ (h ▸ before n h.le)
    · exact keepW n h _ (ih (by omega))

section
variable (s : State) {p k : Nat} (f : Port → Port)

theorem State.port_modPort_same (h : p < 8) : (s.modPort p f).port p = f (s.port p) := vget_vmod_same _ f h

theorem State.port_modPort_other (h : k ≠ p) : (s.modPort p f).port k = s.port k := vget_vmod_other _ f h
end

/-! ## Lanes that nothing moves -/

/-- What a port's lane is and counts. -/
def Port.line (q : Port) : PortState × Bool × Nat × Nat × TrainStep × Bool := (q.lane, q.stuck, q.retrains, q.failures, q.step, q.wantStart)

/-- Every lane is as it was. -/
structure State.LinesKept (s t : State) : Prop where
  line : ∀ k, (t.port k).line = (s.port k).line

namespace State.LinesKept

theorem refl (s : State) : s.LinesKept s := ⟨fun _ => rfl⟩

theorem trans {s t u : State} (h : s.LinesKept t) (g : t.LinesKept u) : s.LinesKept u := ⟨fun k => (g.line k).trans (h.line k)⟩

theorem of_input {s t : State} (h : t.input = s.input) : s.LinesKept t := ⟨fun k => by unfold State.port; rw [h]⟩

theorem of_reports {s t : State} (h : s.Reports t) : s.LinesKept t := of_input h.input

theorem foldl {α : Type} {f : State → α → State} (h : ∀ u a, State.LinesKept u (f u a)) (l : List α) (s : State) : s.LinesKept (l.foldl f s) :=
  foldl_related refl trans h l s

theorem forUpto {f : Nat → State → State} (h : ∀ k u, State.LinesKept u (f k u)) (n : Nat) (s : State) : s.LinesKept (forUpto n f s) :=
  foldl (fun u k => h k u) _ s
end State.LinesKept

/-- From `s` to `t` only settings of the inputs but for the lanes, and what reports change, has changed. -/
structure State.Notched (s t : State) : Prop where
  rest : t = { s with input := t.input, free := t.free, ranks := t.ranks, pmon := t.pmon, mem := { s.mem with sram := t.mem.sram }, rings := t.rings,
                      interp := t.interp, mbx := t.mbx, evtHeld := t.evtHeld }
  line : ∀ k, (t.port k).line = (s.port k).line

namespace State.Notched

theorem refl (s : State) : s.Notched s := ⟨rfl, fun _ => rfl⟩

theorem trans {s t u : State} (h : s.Notched t) (g : t.Notched u) : s.Notched u where
  rest := by
    have k := g.rest
    rw [h.rest] at k
    exact k
  line k := (g.line k).trans (h.line k)

theorem linesKept {s t : State} (h : s.Notched t) : s.LinesKept t := ⟨h.line⟩

theorem of_reports {s t : State} (h : s.Reports t) : s.Notched t where
  rest := by
    unfold State.Reports at h
    rw [h]
  line := (LinesKept.of_reports h).line

theorem foldl {α : Type} {f : State → α → State} (h : ∀ u a, State.Notched u (f u a)) (l : List α) (s : State) : s.Notched (l.foldl f s) :=
  foldl_related refl trans h l s

theorem forUpto {f : Nat → State → State} (h : ∀ k u, State.Notched u (f k u)) (n : Nat) (s : State) : s.Notched (forUpto n f s) :=
  foldl (fun u k => h k u) _ s

/-- A change of a port's other settings. -/
theorem modPort (s : State) (p : Nat) {f : Port → Port} (h : ∀ q, (f q).line = q.line) : s.Notched (s.modPort p f) where
  rest := rfl
  line k := by
    by_cases e : k = p
    · subst e
      by_cases hk : k < 8
      · rw [s.port_modPort_same f hk, h]
      · have : (s.modPort k f).port k = s.port k := by
          unfold State.modPort State.modInput State.port
          dsimp only
          rw [vmod_outside _ f (by omega)]
        rw [this]
    · rw [s.port_modPort_other f e]

section
variable {s t : State} (h : s.Notched t)
include h

theorem easel : t.easel = s.easel := by rw [h.rest]
theorem cal : t.cal = s.cal := by rw [h.rest]
theorem trk : t.trk = s.trk := by rw [h.rest]
theorem pwr : t.pwr = s.pwr := by rw [h.rest]
end
end State.Notched

section
variable (s : State)
open State.Notched (refl of_reports)

theorem State.notched_release (p k : Nat) : s.Notched (s.release p k) := by
  unfold State.release
  split
  · exact (State.Notched.modPort s p fun _ => by rfl).trans (of_reports (State.reports_notchEvent ..))
  · exact refl s

theorem State.notched_engage (p k : Nat) (c w : Int) : s.Notched (s.engage p k c w) :=
  (State.Notched.modPort s p fun _ => by rfl).trans (of_reports (State.reports_notchEvent ..))

theorem State.notched_moveNotch (p k : Nat) (c w : Int) : s.Notched (s.moveNotch p k c w) := by
  unfold State.moveNotch
  dsimp only
  split
  · exact ((State.Notched.modPort s p fun _ => by rfl).trans (of_reports (State.reports_notchEvent ..))).trans (.modPort _ p fun _ => by rfl)
  · exact .modPort s p fun _ => by rfl

theorem State.notched_applyNotch (p : Nat) (t : NotchSet) : s.Notched (s.applyNotch p t) := by
  unfold State.applyNotch
  extract_lets old u v
  have hu : s.Notched u := by
    dsimp only [u]
    split
    · exact s.notched_release ..
    · exact refl s
  have hv : s.Notched v := hu.trans (.modPort u p fun _ => by rfl)
  split
  · split
    · exact hv.trans (v.notched_moveNotch ..)
    · exact hv.trans (v.notched_engage ..)
  · exact hv

theorem State.notched_applyNotches (p : Nat) : s.Notched (s.applyNotches p) :=
  (State.Notched.modPort s p fun _ => by rfl).trans (.foldl (fun u t => u.notched_applyNotch p t) _ _)

theorem State.notched_lateReleases (p : Nat) : s.Notched (s.lateReleases p) := by
  refine .forUpto (fun k u => ?_) 4 s
  split
  · exact u.notched_release p k
  · exact refl u

theorem State.notched_freezeEvents (e : Nat) : s.Notched (forUpto 8 (fun p s => forUpto 4 (fun k s =>
    if (vget (s.port p).notches k).engaged then s.notchEvent p k e else s) s) s) := by
  refine .forUpto (fun p u => .forUpto (fun k v => ?_) 4 u) 8 s
  split
  · exact of_reports (v.reports_notchEvent ..)
  · exact refl v

/-- A change that every port takes and that leaves its lane. -/
theorem State.notched_ports {g : Inputs → Inputs} {f : Port → Port} (hg : (g s.input).ports = s.input.ports.map f)
    (h : ∀ q, (f q).line = q.line) : s.Notched (s.modInput g) where
  rest := rfl
  line k := by
    unfold State.port State.modInput
    dsimp only
    rw [hg]
    by_cases hk : k < 8
    · rw [vget_map f _ hk, h]
    · simp [vget, Vector.getD, hk]

theorem State.notched_setFrozen (f : Bool) : s.Notched (s.setFrozen f) := by
  unfold State.setFrozen
  split
  · exact refl s
  extract_lets u v
  have hu : s.Notched u := s.notched_freezeEvents _
  have hv : s.Notched v := hu.trans (u.notched_ports (f := fun q => { q with held := true }) rfl fun _ => rfl)
  split
  · exact hv
  · exact hv.trans (.forUpto (fun p w => (w.notched_lateReleases p).trans (State.notched_applyNotches _ p)) 8 v)

theorem State.notched_refreeze : s.Notched s.refreeze := s.notched_setFrozen _
end

section
variable (s : State)
open State.LinesKept (refl of_input of_reports)

/-- From `s` to `t` the Easel alone has changed. -/
def State.EaselOnly (s t : State) : Prop := t = { s with easel := t.easel }

theorem State.EaselOnly.trans {s t u : State} (h : s.EaselOnly t) (k : t.EaselOnly u) : s.EaselOnly u := by
  unfold State.EaselOnly at *
  rw [h] at k
  exact k

theorem State.easelOnly_startPass (b : Nat) (j : EaselJob) : s.EaselOnly (s.startPass b j) := by
  unfold State.startPass
  split <;> exact rfl

theorem State.easelOnly_assignBanks : s.EaselOnly s.assignBanks := by
  unfold State.assignBanks
  split
  · exact rfl
  · refine foldl_related (R := State.EaselOnly) (fun _ => rfl) State.EaselOnly.trans (fun u b => ?_) _ s
    dsimp only
    split
    · exact rfl
    · split
      · exact rfl
      · exact u.easelOnly_startPass b _

theorem State.easelOnly_dropJob (id : Nat) : s.EaselOnly (s.dropJob id) :=
  State.EaselOnly.trans (rfl : s.EaselOnly (s.modEasel _)) (State.easelOnly_assignBanks _)

theorem State.dropJob_input (id : Nat) : (s.dropJob id).input = s.input := by rw [s.easelOnly_dropJob id]

theorem State.linesKept_endFix (st : Status) (d : Nat) (p : List Byte) : s.LinesKept (s.endFix st d p) := by
  unfold State.endFix
  split
  · exact refl s
  · next f _ =>
    have h := State.LinesKept.foldl (fun u (j : EaselJob) => of_input (u.dropJob_input j.id)) (s.easel.jobs.filter fun j => j.kind == .sketch) s
    refine .trans (h.trans ?_) (of_reports (State.reports_finalOption ..))
    split
    · exact of_input rfl
    · split <;> exact of_input rfl

theorem State.linesKept_abandonCapture (p : Nat) : s.LinesKept (s.abandonCapture p) := by
  unfold State.abandonCapture
  split
  · exact refl s
  · next c _ =>
    extract_lets u
    have hu : s.LinesKept u := (of_input rfl : s.LinesKept (s.modEasel _)).trans (State.notched_refreeze _).linesKept
    split
    · split
      · exact hu
      · split
        · exact hu.trans (u.linesKept_endFix ..)
        · exact hu.trans (of_input rfl)
    · exact (hu.trans (of_input rfl : u.LinesKept (u.freeCapture c.req.id))).trans (of_reports (State.reports_finalOption ..))

theorem State.linesKept_failJobs (p : Nat) : s.LinesKept (s.failJobs p) := by
  unfold State.failJobs
  extract_lets uses
  refine .foldl (fun u j => ?_) _ s
  exact (of_reports (u.reports_finalOption ..)).trans (of_input (State.dropJob_input ..))

theorem State.linesKept_failFix (p : Nat) : s.LinesKept (s.failFix p) := by
  unfold State.failFix
  split
  · exact s.linesKept_endFix ..
  · exact refl s

theorem State.holdPasses_input : s.holdPasses.input = s.input := rfl

/-- What follows a lane out of lock moves no lane. -/
theorem State.linesKept_followLanes : s.LinesKept s.followLanes := by
  unfold State.followLanes
  extract_lets lost u v w
  have hu : s.LinesKept u := by
    dsimp only [u]
    split
    · exact refl s
    · split
      · exact refl s
      · exact s.linesKept_abandonCapture _
  have hv : u.LinesKept v := by
    dsimp only [v]
    split
    · exact refl u
    · split
      · exact refl u
      · exact of_input rfl
  have hw : v.LinesKept w := by
    refine .forUpto (fun k x => ?_) 8 v
    split
    · exact (x.linesKept_failJobs k).trans (State.linesKept_failFix _ k)
    · exact refl x
  exact ((hu.trans hv).trans hw).trans (of_input w.holdPasses_input)
end
end Sys2Proof.Machine

/-! # What the inputs do in time (O41) -/

namespace Sys2Proof.Machine

section
variable {s : State}

/-! ## AGC windows and the eye (02 R52, R58–R63) -/

theorem State.port_modPort (s : State) (p : Fin 8) (f : Port → Port) : (s.modPort p.val f).port p.val = f (s.port p.val) :=
  s.port_modPort_same f p.isLt

theorem State.reports_histograms (s : State) (p : Nat) (w : WindowCounts) (word : Nat) (changed : Bool) :
    (s.modPort p fun q => { q with hists := ((s.port p).hists.map (·.add w word changed)).filter fun h => decide (h.left > 0) }).Reports
      (s.histograms p w word changed) := by
  unfold State.histograms
  exact State.reports_foldl _ (fun u h => u.reports_finalReply ..) _

theorem State.Reports.port {s t : State} (h : s.Reports t) (k : Nat) : t.port k = s.port k := by
  unfold State.port
  rw [h.input]

/-- A port after its histogram jobs are served is the port but for them. -/
theorem State.histograms_port (s : State) (p : Fin 8) (w : WindowCounts) (word : Nat) (changed : Bool) :
    ∃ l, (s.histograms p.val w word changed).port p.val = { s.port p.val with hists := l } :=
  ⟨_, ((s.reports_histograms p.val w word changed).port p.val).trans (s.port_modPort p _)⟩

/-- What a window's end leaves in the port. -/
structure Port.Windowed (q r : Port) (tick : Nat) (agc : Nat) (stuck : Bool) : Prop where
  lane : r.lane = q.lane
  retrains : r.retrains = q.retrains
  window : r.window = tick
  live : r.live = (q.lane == .locked)
  held : r.held = false
  word : r.word = agc
  stuckCount : r.stuckCount = if stuck = true then q.stuckCount + 1 else 0

theorem State.window_port (s : State) (p : Fin 8) (i c : List Nat) :
    (s.port p.val).Windowed ((s.window p.val ⟨i, c⟩).port p.val) s.clk.tick
      ((s.port p.val).agc (WindowCounts.oriented ⟨i, c⟩ (s.port p.val).cfg.invert) (s.freezes || (s.port p.val).held)).1
      (sticks i || sticks (WindowCounts.oriented ⟨i, c⟩ (s.port p.val).cfg.invert).q) ∧
    (s.window p.val ⟨i, c⟩).input.autoRetrain = s.input.autoRetrain := by
  have hi : (WindowCounts.oriented ⟨i, c⟩ (s.port p.val).cfg.invert).i = i := by unfold WindowCounts.oriented; split <;> rfl
  unfold State.window
  extract_lets q w n power p256 sticking
  generalize hd : (if q.nref.isNone then s.draw else (0, s)) = d
  obtain ⟨free, u⟩ := d
  have hu : u.input = s.input ∧ u.clk = s.clk ∧ u.freezes = s.freezes := by
    split at hd <;> · cases hd; exact ⟨rfl, rfl, rfl⟩
  obtain ⟨hin, hclk, hfr⟩ := hu
  have hport : u.port p.val = q := by unfold State.port; rw [hin]; rfl
  dsimp only
  rw [hfr]
  generalize hv : u.modPort p.val _ = v
  obtain ⟨l, hl⟩ := v.histograms_port p w q.word (decide ((q.agc w (s.freezes || q.held)).1 ≠ q.word))
  rw [hl, (State.reports_histograms ..).input, ← hv, State.port_modPort, hport]
  refine ⟨⟨rfl, rfl, congrArg Clock.tick hclk, rfl, rfl, rfl, ?_⟩, (congrArg Inputs.autoRetrain hin :)⟩
  have e : sticking = (sticks i || sticks w.q) := congrArg (fun l => sticks l || sticks w.q) hi
  dsimp only
  rw [e]

theorem exec_agcWindow (p : Fin 8) (i w : List Nat) (hd : s.domeService = true) (hl : (s.port p.val).lane = .locked)
    (hw : (s.port p.val).window + 81840 ≤ s.clk.tick) : exec (.agcWindow p i w) s =
      if (s.port p.val).live = true ∧ i.sum ≠ 0 then
        (if 10 ≤ ((s.window p.val ⟨i, w⟩).port p.val).stuckCount then
          .next ((((s.window p.val ⟨i, w⟩).modPort p.val fun q => { q with stuck := true, stuckCount := 0 }).loseLock p.val).followLanes)
        else .next (s.window p.val ⟨i, w⟩))
      else .next (s.blankWindow p.val) := by
  refine (show exec (.agcWindow p i w) s = execAgcWindow p i w s from rfl).trans ?_
  unfold execAgcWindow
  have hn : ¬ s.clk.tick < (s.port p.val).window + 81840 := by omega
  simp only [hd, hl, hn, Bool.not_true, decide_false, Bool.or_false, beq_self_eq_true, Bool.and_true]
  rw [if_neg (by decide)]
  by_cases h : (s.port p.val).live = true ∧ i.sum ≠ 0
  · rw [if_pos h, if_neg (by simp [h])]
    simp only [ge_iff_le, decide_eq_true_eq]
  · rw [if_neg h, if_pos (by simpa [imp_iff_not_or] using h)]

/-- The port in the tick in which its lane leaves lock. -/
def Port.unlocked (q : Port) (tick : Nat) : Port :=
  { q with retrains := sat16 q.retrains, epochBlank := true, spec := q.spec.map (·.lose tick) }

theorem State.loseLock_eq (s : State) (p : Nat) : s.loseLock p = if s.input.autoRetrain = true
    then (s.modPort p fun q => q.unlocked s.clk.tick).trainAfresh p
    else (s.modPort p fun q => q.unlocked s.clk.tick).modPort p fun q => { q with lane := .failed } := rfl

/-- Lock is lost at a lane in use. -/
structure State.Unlocked (s t : State) (p : Nat) : Prop where
  retrains : (t.port p).retrains = sat16 (s.port p).retrains
  lane : (t.port p).lane = if s.input.autoRetrain then .training else .failed
  stuck : (t.port p).stuck = (s.port p).stuck

theorem State.loseLock_unlocked (s : State) (p : Fin 8) : s.Unlocked ((s.loseLock p.val).followLanes) p.val := by
  have h := (s.loseLock p.val).linesKept_followLanes.line p.val
  simp only [Port.line, Prod.mk.injEq] at h
  obtain ⟨hlane, hstuck, hretrains, -⟩ := h
  have key : ((s.loseLock p.val).port p.val).retrains = sat16 (s.port p.val).retrains ∧
      ((s.loseLock p.val).port p.val).lane = (if s.input.autoRetrain then .training else .failed) ∧
      ((s.loseLock p.val).port p.val).stuck = (s.port p.val).stuck := by
    rw [State.loseLock_eq]
    by_cases h : s.input.autoRetrain = true
    · rw [if_pos h, if_pos h]
      simp only [State.trainAfresh, State.train, State.port_modPort, Port.unlocked, and_self]
    · rw [if_neg h, if_neg h]
      simp only [State.port_modPort, Port.unlocked, and_self]
  obtain ⟨k1, k2, k3⟩ := key
  exact ⟨hretrains.trans k1, hlane.trans k2, hstuck.trans k3⟩

theorem sum_ne_zero_of_sticks {l : List Nat} (h : sticks l = true) : l.sum ≠ 0 := by
  obtain ⟨c, hc, h⟩ := List.any_eq_true.1 h
  have h := of_decide_eq_true h
  have := List.single_le_sum (fun _ _ => Nat.zero_le _) c hc
  omega

/-- A word that a freeze, MANUAL or HOLD keeps. -/
theorem Port.agc_held (q : Port) (w : WindowCounts) {held : Bool} (h : held = true ∨ q.cfg.mode = 1) : (q.agc w held).1 = q.word := by
  unfold Port.agc
  dsimp only
  rw [if_pos (by simpa using h)]

theorem Port.agc_manual (q : Port) (w : WindowCounts) (h : q.cfg.mode = 2) : (q.agc w false).1 = q.cfg.manual := by
  simp [Port.agc, h]

theorem Port.agc_saturated (q : Port) (w : WindowCounts) (h : q.cfg.mode = 0) (hs : saturates w.i = true) :
    (q.agc w false).1 = (clampInt q.cfg.agcMin q.cfg.agcMax ((q.word : Int) - 4)).toNat := by
  simp [Port.agc, Port.autoWord, h, hs, Int.sub_eq_add_neg]

/-- The window of a lane in use, short of the tenth that sticks. -/
theorem agcWindow_moves (p : Fin 8) (i w : List Nat) (hd : s.domeService = true) (hl : (s.port p.val).lane = .locked)
    (hw : (s.port p.val).window + 81840 ≤ s.clk.tick) (hs : (s.port p.val).stuckCount < 9) (q : Port) (hq : s.port p.val = q) :
    ∃ t, exec (.agcWindow p i w) s = .next t ∧ (t.port p.val).window = s.clk.tick ∧ (t.port p.val).lane = .locked ∧
        (t.port p.val).live = true ∧ (t.port p.val).held = false ∧
        (q.live = false ∨ s.freezes = true ∨ q.held = true ∨ q.cfg.mode = 1 → (t.port p.val).word = q.word) ∧
        (q.live = true → i.sum ≠ 0 → s.freezes = false → q.held = false →
          (q.cfg.mode = 2 → (t.port p.val).word = q.cfg.manual) ∧
          (q.cfg.mode = 0 → saturates i = true →
            (t.port p.val).word = (clampInt q.cfg.agcMin q.cfg.agcMax ((q.word : Int) - 4)).toNat)) := by
  rw [exec_agcWindow p i w hd hl hw]
  subst hq
  by_cases h : (s.port p.val).live = true ∧ i.sum ≠ 0
  · obtain ⟨hwin, -⟩ := s.window_port p i w
    rw [if_pos h, if_neg (by have := hwin.stuckCount; split at this <;> omega)]
    refine ⟨_, rfl, hwin.window, hwin.lane.trans hl, by rw [hwin.live, hl]; rfl, hwin.held, ?_, fun _ _ hf hh => ⟨fun hm => ?_, fun hm hsat => ?_⟩⟩
    · rintro (hn | hf | hh | hm)
      · exact absurd h.1 (by simp [hn])
      all_goals exact hwin.word.trans (Port.agc_held _ _ (by simp [*]))
    · rw [hwin.word, hf, hh]
      exact Port.agc_manual _ _ hm
    · rw [hwin.word, hf, hh]
      exact Port.agc_saturated _ _ hm (by unfold WindowCounts.oriented; split <;> exact hsat)
  · rw [if_neg h]
    unfold State.blankWindow
    extract_lets t
    obtain ⟨l, ht⟩ := t.histograms_port p { i := List.replicate 16 0, q := List.replicate 16 0 } (t.port p.val).word false
    refine ⟨_, rfl, ?_⟩
    rw [ht, State.port_modPort]
    exact ⟨rfl, hl, by rw [hl]; rfl, rfl, fun _ => rfl, fun hv hi => absurd ⟨hv, hi⟩ h⟩

theorem agcWindow_sticks (p : Fin 8) (i w : List Nat) (hd : s.domeService = true) (hl : (s.port p.val).lane = .locked)
    (hw : (s.port p.val).window + 81840 ≤ s.clk.tick) (hv : (s.port p.val).live = true) (hs : (s.port p.val).stuckCount = 9)
    (hi : sticks i = true) : ∃ t, exec (.agcWindow p i w) s = .next t ∧ (t.port p.val).stuck = true ∧
      (t.port p.val).retrains = sat16 (s.port p.val).retrains ∧
        (t.port p.val).lane = if s.input.autoRetrain then .training else .failed := by
  obtain ⟨hwin, hauto⟩ := s.window_port p i w
  rw [exec_agcWindow p i w hd hl hw, if_pos ⟨hv, sum_ne_zero_of_sticks hi⟩, if_pos (by simp [hwin.stuckCount, hs, hi])]
  generalize s.window p.val ⟨i, w⟩ = u at hwin hauto ⊢
  have h := State.loseLock_unlocked (u.modPort p.val fun q => { q with stuck := true, stuckCount := 0 }) p
  refine ⟨_, rfl, ?_, ?_, ?_⟩
  · rw [h.stuck, State.port_modPort]
  · rw [h.retrains, State.port_modPort, hwin.retrains]
  · rw [h.lane]
    exact congrArg (fun a : Bool => if a = true then PortState.training else .failed) hauto

theorem exec_eyeTrackUpdate (p : Fin 8) (c : Int) (e : Nat) (hl : (s.port p.val).lane = .locked) (hf : s.fast = true)
    (ht : (s.port p.val).eyeTick + 1024 ≤ s.clk.tick) : exec (.eyeTrackUpdate p c e) s =
      if 8 < (((s.port p.val).tap : Int) + c - (s.port p.val).trained).natAbs ∨ 16 ≤ e then .next (s.loseLock p.val).followLanes
      else .next (s.modPort p.val fun r =>
        { r with tap := (clampInt 0 63 ((r.tap : Int) + clampInt (-1) 1 c)).toNat, eyeTick := s.clk.tick }) := by
  refine (show exec (.eyeTrackUpdate p c e) s = execEyeTrackUpdate p c e s from rfl).trans ?_
  unfold execEyeTrackUpdate
  have hn : ¬ s.clk.tick < (s.port p.val).eyeTick + 1024 := by omega
  simp only [hl, hf, hn, bne_self_eq_false, Bool.not_true, decide_false, Bool.or_false, Bool.false_eq_true, reduceIte, gt_iff_lt, ge_iff_le,
    Bool.or_eq_true, decide_eq_true_eq]

/-! ## Training (02 R48–R52) -/

/-- A lane in WAIT whose front end has had its time. -/
def State.FrontEndReady (p : Nat) (u : State) : Prop :=
  (u.port p).lane = .wait ∧ u.frontOn p = true ∧ (u.port p).waitFrom + us u.input.feStart ≤ u.now

/-- A lane whose first attempt begins. -/
def State.TrainsAfresh (p : Nat) (u : State) : Prop := (u.port p).lane = .training ∧ (u.port p).wantStart = true ∧ (u.port p).failures = 0

theorem State.port_trainAfresh_same (u : State) (p : Fin 8) : (u.trainAfresh p.val).port p.val =
    { u.port p.val with failures := 0, lane := .training, step := .startFrame, wantStart := true, epochBlank := true } := by
  unfold State.trainAfresh State.train
  rw [State.port_modPort, State.port_modPort]

theorem State.port_trainAfresh_other (u : State) {p k : Nat} (h : k ≠ p) : (u.trainAfresh p).port k = u.port k :=
  (State.port_modPort_other _ _ h).trans (u.port_modPort_other _ h)

theorem feStart_trains (p : Fin 8) (hl : (s.port p.val).lane = .wait) (hf : s.frontOn p.val = true)
    (hw : (s.port p.val).waitFrom + us s.input.feStart ≤ s.now) : ∃ t, exec .feStartDelayExpiry s = .next t ∧
      (t.port p.val).lane = .training ∧ (t.port p.val).wantStart = true ∧ (t.port p.val).failures = 0 := by
  refine ⟨_, rfl, forUpto_turn (V := State.FrontEndReady p.val) (W := State.TrainsAfresh p.val) p.isLt ⟨hl, hf, hw⟩ (fun k hk u hu => ?_)
    (fun u hu => ?_) (fun k hk u hu => ?_)⟩
  · dsimp only
    split
    · unfold State.FrontEndReady
      rw [u.port_trainAfresh_other (Ne.symm hk)]
      exact hu
    · exact hu
  · obtain ⟨h1, h2, h3⟩ := hu
    dsimp only
    rw [if_pos (by simp [h1, h2, h3])]
    unfold State.TrainsAfresh
    rw [u.port_trainAfresh_same]
    exact ⟨rfl, rfl, rfl⟩
  · dsimp only
    split
    · unfold State.TrainsAfresh
      rw [u.port_trainAfresh_other (Ne.symm hk)]
      exact hu
    · exact hu

theorem exec_trainingMarker (p : Fin 8) (t0 : Nat) (good : BitVec 64) (hl : (s.port p.val).lane = .training)
    (hs : (s.port p.val).step = .sweep t0) (h1 : t0 + 4096 ≤ s.clk.tick) (h2 : s.clk.tick ≤ t0 + 4111) :
    exec (.trainingMarker p good) s = .next (s.modPort p.val fun r =>
        { r with step := .verify t0 (s.clk.tick - t0), latency := s.clk.tick - t0 - 4096, tap := (eyeCentre good).getD r.tap }) := by
  refine (show exec (.trainingMarker p good) s = execTrainingMarker p good s from rfl).trans ?_
  unfold execTrainingMarker
  rw [hl, hs]
  exact if_pos (by simp only [Bool.and_eq_true, decide_eq_true_eq]; omega)

theorem exec_trainingVerifyEnd (p : Fin 8) (t0 l : Nat) (ok : Bool) (hl : (s.port p.val).lane = .training)
    (hs : (s.port p.val).step = .verify t0 l) (h : t0 + l + 1024 ≤ s.clk.tick) : exec (.trainingVerifyEnd p ok) s =
      .next (s.modPort p.val fun r => { r with step := if ok then .endFrame t0 else .spoiled t0, wantEnd := r.wantEnd || ok }) := by
  refine (show exec (.trainingVerifyEnd p ok) s = execTrainingVerifyEnd p ok s from rfl).trans ?_
  unfold execTrainingVerifyEnd
  rw [hl, hs]
  refine (if_neg (by omega)).trans (congrArg (fun f => Host.Outcome.next (s.modPort p.val f)) (funext fun r => ?_))
  cases ok
  · exact congrArg (fun w => { r with step := .spoiled t0, wantEnd := w }) (Bool.or_false _).symm
  · exact congrArg (fun w => { r with step := .endFrame t0, wantEnd := w }) (Bool.or_true _).symm

theorem State.linesKept_finishTrains (u : State) : u.LinesKept u.finishTrains := by
  unfold State.finishTrains
  extract_lets settled ended v
  have hv : u.LinesKept v := ⟨fun _ => rfl⟩
  exact hv.trans (.foldl (fun x t => .of_reports (x.reports_finalReply ..)) ended v)

theorem State.LinesKept.port {s t : State} (h : s.LinesKept t) (p : Nat) :
    (t.port p).lane = (s.port p).lane ∧ (t.port p).failures = (s.port p).failures := by
  have h := h.line p
  simp only [Port.line, Prod.mk.injEq] at h
  obtain ⟨hlane, -, -, hfailures, -⟩ := h
  exact ⟨hlane, hfailures⟩

theorem State.failAttempt_port (u : State) (p : Fin 8) : ((u.failAttempt p.val).port p.val).failures = (u.port p.val).failures + 1 ∧
    ((u.failAttempt p.val).port p.val).lane = if 2 ≤ (u.port p.val).failures then .failed else .training := by
  unfold State.failAttempt
  extract_lets v
  have hv : v.port p.val = { u.port p.val with failures := (u.port p.val).failures + 1, wantEnd := false } := u.port_modPort p _
  have hc : 3 ≤ (v.port p.val).failures ↔ 2 ≤ (u.port p.val).failures := by rw [hv]; exact Nat.succ_le_succ_iff
  by_cases h : 2 ≤ (u.port p.val).failures
  · rw [if_pos h, if_pos (hc.2 h)]
    obtain ⟨hl, hf⟩ := (State.linesKept_finishTrains (v.modPort p.val fun q => { q with lane := .failed, wantStart := false })).port p.val
    rw [hl, hf, State.port_modPort, hv]
    exact ⟨rfl, rfl⟩
  · rw [if_neg h, if_neg (fun g => h (hc.1 g))]
    unfold State.train
    rw [State.port_modPort, hv]
    exact ⟨rfl, rfl⟩

theorem trainingTimeout_fails (p : Fin 8) (t0 : Nat) (hl : (s.port p.val).lane = .training) (hs : (s.port p.val).step = .sweep t0)
    (h : t0 + 4112 ≤ s.clk.tick) : ∃ t, exec (.trainingAttemptTimeout p) s = .next t ∧
      (t.port p.val).failures = (s.port p.val).failures + 1 ∧
      (t.port p.val).lane = if 2 ≤ (s.port p.val).failures then .failed else .training := by
  have he : exec (.trainingAttemptTimeout p) s = .next (s.failAttempt p.val).followLanes := by
    refine (show exec (.trainingAttemptTimeout p) s = execTrainingAttemptTimeout p s from rfl).trans ?_
    unfold execTrainingAttemptTimeout
    rw [hl, hs]
    exact if_pos h
  obtain ⟨hlane, hfailures⟩ := ((s.failAttempt p.val).linesKept_followLanes).port p.val
  obtain ⟨k1, k2⟩ := s.failAttempt_port p
  exact ⟨_, he, hfailures.trans k1, hlane.trans k2⟩

/-! ## FRM (02 R45–R47) -/

/-- What the slot that begins in this tick carries. -/
theorem exec_frmFrame (hf : s.fast = true) (h16 : s.clk.tick % 16 = 0) (hnew : ∀ f, s.input.frm = some f → f.slot ≠ s.clk.tick / 16) :
    exec .frmFrame s = match (List.range 8).find? fun p => (s.port p).wantEnd || (s.port p).wantStart with
      | some p => if (s.port p).wantEnd = true
        then .next ((s.modPort p fun q => { q with wantEnd := false, step := match q.step with
              | .endFrame t0 => .closing t0 (s.clk.tick + 16)
              | st => st }).modInput fun i => { i with frm := some ⟨s.clk.tick / 16, frmBits 2 p 0⟩ })
        else .next ((s.modPort p fun q => { q with wantStart := false, step := .sweep (s.clk.tick + 15) }).modInput fun i =>
              { i with frm := some ⟨s.clk.tick / 16, frmBits 1 p 0⟩ })
      | none => match s.input.nextGain with
        | none => .next (s.modInput fun i => { i with frm := some ⟨s.clk.tick / 16, List.replicate 16 false⟩ })
        | some p => .next (((s.modPort p fun q => { q with wantGain := false }).modInput fun i => { i with lastGain := p }).modInput fun i =>
              { i with frm := some ⟨s.clk.tick / 16, frmBits 0 p (s.port p).word⟩ }) := by
  refine (show exec .frmFrame s = execFrmFrame s from rfl).trans ?_
  have hany : s.input.frm.any (fun f => f.slot == s.clk.tick / 16) = false := by
    cases h : s.input.frm with
    | none => rfl
    | some f => simpa using hnew f h
  exact if_neg (by simp [hf, h16, hany])

theorem frmFrame_training (p : Fin 8) (hf : s.fast = true) (h16 : s.clk.tick % 16 = 0)
    (hnew : ∀ f, s.input.frm = some f → f.slot ≠ s.clk.tick / 16)
    (h : (List.range 8).find? (fun k => (s.port k).wantEnd || (s.port k).wantStart) = some p.val) : ∃ t, exec .frmFrame s = .next t ∧
      t.input.frm = some ⟨s.clk.tick / 16, frmBits (if (s.port p.val).wantEnd then 2 else 1) p.val 0⟩ := by
  rw [exec_frmFrame hf h16 hnew, h]
  by_cases hw : (s.port p.val).wantEnd = true
  · exact ⟨_, if_pos hw, by rw [if_pos hw]; rfl⟩
  · exact ⟨_, if_neg hw, by rw [if_neg hw]; rfl⟩

theorem noneTrains (h : ∀ k < 8, (s.port k).wantEnd = false ∧ (s.port k).wantStart = false) :
    (List.range 8).find? (fun k => (s.port k).wantEnd || (s.port k).wantStart) = none := by
  rw [List.find?_eq_none]
  intro k hk
  obtain ⟨h1, h2⟩ := h k (List.mem_range.1 hk)
  simp [h1, h2]

/-! ## The noise floor (02 R70) -/

/-- N_REF after a second falls at once and rises by at most 0.05 dB, not above the lowest power, nor 3 dB above the stored value. -/
theorem nrefNext_rises (r m : Int) (stored : Option Int) (h : r < 75 * m) : r ≤ nrefNext (some r) stored m ∧
    nrefNext (some r) stored m ≤ 75 * m ∧ nrefNext (some r) stored m ≤ r + 16 ∧
    ∀ v, stored = some v → nrefNext (some r) stored m ≤ max r (75 * v + 57600) := by
  unfold nrefNext
  dsimp only
  rw [if_neg (by omega)]
  cases stored with
  | none => exact ⟨by simp; omega, by simp, by simp, fun v hv => nomatch hv⟩
  | some v =>
    refine ⟨le_max_left _ _, ?_, ?_, fun w hw => ?_⟩
    · dsimp only; omega
    · dsimp only; omega
    · cases hw
      dsimp only
      omega

/-- The port after a second, with the stored N_REF. -/
def Port.secondOver (stored : Option Int) (q : Port) : Port :=
  match q.minP with
  | none => q
  | some m => { q with nref := some (nrefNext q.nref stored m), minP := none }

/-- The stored N_REF of a port. -/
def State.storedNref (s : State) (p : Nat) : Option Int := (vget s.cal.slots (b2n s.cal.inForce)).values.nref.getD p none

theorem noiseFloor_port (p : Fin 8) (hd : s.domeService = true) (h : s.now / second ≠ s.input.noiseAt) :
    ∃ t, exec .noiseFloorUpdate s = .next t ∧ t.input.noiseAt = s.now / second ∧ t.port p.val = (s.port p.val).secondOver (s.storedNref p.val) := by
  refine ⟨forUpto 8 (fun k u => u.modPort k (Port.secondOver (u.storedNref k))) (s.modInput fun i => { i with noiseAt := s.now / second }), ?_, ?_⟩
  · refine (show exec .noiseFloorUpdate s = execNoiseFloorUpdate s from rfl).trans ?_
    exact if_neg (by simp [hd, h])
  · refine forUpto_turn (V := fun u : State => u.input.noiseAt = s.now / second ∧ u.port p.val = s.port p.val ∧ u.cal = s.cal)
      (W := fun u : State => u.input.noiseAt = s.now / second ∧ u.port p.val = (s.port p.val).secondOver (s.storedNref p.val)) p.isLt ?_
      (fun k hk u hu => ?_) (fun u hu => ?_) (fun k hk u hu => ?_)
    · exact ⟨rfl, rfl, rfl⟩
    · rw [u.port_modPort_other _ (Ne.symm hk)]
      exact hu
    · obtain ⟨hn, hp, hc⟩ := hu
      rw [u.port_modPort, hp, State.storedNref, hc]
      exact ⟨hn, rfl⟩
    · rw [u.port_modPort_other _ (Ne.symm hk)]
      exact hu

/-! ## Notches, spectral jobs and event inputs (02 R64, R66–R68, 03 R102–R106) -/

theorem State.modPort_self (u : State) (p : Nat) {f : Port → Port} (h : f (u.port p) = u.port p) : u.modPort p f = u := by
  unfold State.modPort State.modInput
  dsimp only
  rw [show vmod u.input.ports p f = u.input.ports from (congrArg (vset u.input.ports p) h).trans (vmod_id ..)]

theorem State.applyNotches_none (u : State) (p : Nat) (h : (u.port p).notchSets = []) : u.applyNotches p = u := by
  unfold State.applyNotches
  rw [h]
  exact u.modPort_self p (congrArg (fun l => { u.port p with notchSets := l }) h.symm)

theorem State.follow_free (u : State) (p k : Nat) (line : Int × Int) (h : (vget (u.port p).notches k).engaged = false) :
    u.follow p k line = u := by
  unfold State.follow
  exact if_pos (by simp [h])

theorem Port.free_notches {q : Port} (h : ∀ k < 4, (vget q.notches k).engaged = false) (k : Nat) : (vget q.notches k).engaged = false := by
  by_cases hk : k < 4
  · exact h k hk
  · simp [vget, Vector.getD, hk]
    rfl

theorem Port.covers_none {q : Port} (h : ∀ k < 4, (vget q.notches k).engaged = false) (f : Int) : q.covers f = false := by
  unfold Port.covers
  rw [List.any_eq_false]
  intro n hn
  obtain ⟨k, hk, rfl⟩ := List.mem_iff_getElem.1 hn
  have hk : k < 4 := by simpa using hk
  have := h k hk
  simp only [vget, Vector.getD] at this
  simp_all

theorem Port.newLine_single {q : Port} {f w : Int} (hw : 16 * (q.thresh : Int) ≤ w) (hr : (f.natAbs : Int) ≤ notchReach)
    (hc : q.covers f = false) : q.newLine [(f, w)] = some (f, w) := by
  unfold Port.newLine
  have hin : (decide (16 * (q.thresh : Int) ≤ w) && decide ((f.natAbs : Int) ≤ notchReach) && !q.covers f) = true := by
    rw [hc, decide_eq_true hw, decide_eq_true hr]
    rfl
  simp only [List.filter_cons, hin, reduceIte, List.filter_nil, List.foldl_cons, List.foldl_nil]

theorem exec_lineDetectorUpdate (p : Fin 8) (f w : Int) (own : List (Int × Int)) (hd : s.domeService = true) (hf : s.freezes = false)
    (hl : (s.port p.val).lane = .locked) (ht : (s.port p.val).detector + 65536 ≤ s.clk.tick) (hs : (s.port p.val).notchSets = [])
    (hn : ∀ k < 4, (vget (s.port p.val).notches k).engaged = false) (hm : (vget (s.port p.val).notches 0).mode = 1)
    (hw : 16 * ((s.port p.val).thresh : Int) ≤ w) (hr : f.natAbs ≤ 40000000) :
    exec (.lineDetectorUpdate p [(f, w)] own) s = .next ((s.modPort p.val fun r => { r with detector := s.clk.tick }).engage p.val 0 f w) := by
  refine (show exec (.lineDetectorUpdate p [(f, w)] own) s = execLineDetectorUpdate p [(f, w)] own s from rfl).trans ?_
  refine (if_neg (by simp [hd, hf, hl]; omega)).trans ?_
  extract_lets a b c q
  have ha : a.port p.val = { s.port p.val with detector := s.clk.tick } := s.port_modPort p _
  have hb : b = a := a.applyNotches_none p.val (by rw [ha]; exact hs)
  have hfree (k : Nat) : (vget (a.port p.val).notches k).engaged = false := by
    rw [ha]
    exact Port.free_notches hn k
  have hc : c = a := by
    dsimp only [c]
    rw [hb]
    exact List.foldl_fixed' (fun k => a.follow_free p.val k _ (hfree k)) _
  have hq : q = { s.port p.val with detector := s.clk.tick } := by dsimp only [q]; rw [hc, ha]
  clear_value q
  have hline : q.newLine [(f, w)] = some (f, w) :=
    Port.newLine_single (by rw [hq]; exact hw) (by unfold notchReach; omega) (Port.covers_none (by rw [hq]; exact hn) f)
  have hfirst : (List.range 4).find? (fun k => (vget q.notches k).mode == 1 && !(vget q.notches k).engaged) = some 0 := by
    refine List.find?_cons_of_pos ?_
    rw [hq]
    simp [hm, hn 0 (by decide)]
  rw [hline, hfirst, hc]

theorem exec_spectrumJobComplete (p : Fin 8) (j : SpectrumJob) (power : List Nat) (used : Nat) (hj : (s.port p.val).spec = some j)
    (ht : j.start + 1024 * j.blocks ≤ s.clk.tick) (hu : used = j.blocks - (j.regain s.clk.tick).skipped) :
    exec (.spectrumJobComplete p power) s =
      .next (({ s with free := if used = 0 then s.free + 1024 else s.free }.modPort p.val fun r => { r with spec := none }).finalReply
        j.cmd .ok 0 (le 1 p.val ++ le 1 j.tap ++ le 2 used ++ spectrumBins power used s.free)) := by
  refine (show exec (.spectrumJobComplete p power) s = execSpectrumJobComplete p power () s from rfl).trans ?_
  unfold execSpectrumJobComplete
  rw [hj]
  dsimp only
  rw [if_neg (by omega), ← hu]
  by_cases h : used = 0
  · rw [if_pos h, if_pos h]
    rfl
  · rw [if_neg h, if_neg h]
    rfl

/-- The record of an edge waits where the epoch in progress holds records back (03 R106). -/
def State.edgeTold (s : State) (cause : Nat) (u : State) (p : List Byte) : State :=
  if s.epochHeld then u.holdRecord cause 0x01 s.now p else u.drumRecord 11 cause 0x01 s.now p

theorem State.edgeTold_evt (s : State) (cause : Nat) (u : State) (p : List Byte) : (s.edgeTold cause u p).evt = u.evt := by
  unfold State.edgeTold
  split
  · rfl
  · exact (u.reports_drumRecord ..).evt

theorem State.edgeTold_clk (s : State) (cause : Nat) (u : State) (p : List Byte) : (s.edgeTold cause u p).clk = u.clk := by
  unfold State.edgeTold
  split
  · rfl
  · exact (u.reports_drumRecord ..).clk

/-- FLAGS of an EVT_EDGE record: bit 2 says that edges were merged before. -/
theorem evtPayload_before (k : Nat) (level : Bool) (interp : Nat) (e : EvtInput) : (byteAt (evtPayload k level false interp e) 1).testBit 2 = e.before := by
  have h : byteAt (evtPayload k level false interp e) 1 = bitsOf [(level, 0), (false, 1), (e.before, 2)] % 256 := rfl
  rw [h]
  cases level <;> cases e.before <;> rfl

section
variable (n : Fin 4) (level : Bool) (interp : Fin 64) (hf : s.fast = true) (he : (vget s.evt n.val).en = true)
  (hsel : (vget s.evt n.val).selects level = true) (h1 : s.pwr.phase ≠ .handshake) (h2 : s.pwr.phase ≠ .committed)
include hf he hsel h1 h2

theorem exec_evtEdge_merged (hm : (vget s.evt n.val).last.any (fun t => decide (s.clk.tick ≤ t + 4)) = true) :
    exec (.evtEdge n level interp) s = .next { s with evt := vset s.evt n.val { (vget s.evt n.val).merge with level := level } } := by
  refine (show exec (.evtEdge n level interp) s = execEvtEdge n level interp s from rfl).trans ?_
  unfold execEvtEdge
  extract_lets e put u
  have hu : u = s := if_neg (by simp [h1, h2])
  rw [if_pos hf, hu, if_neg (by simp [e, he, hsel])]
  exact if_pos hm

theorem exec_evtEdge_stamped (hm : ¬ (vget s.evt n.val).last.any (fun t => decide (s.clk.tick ≤ t + 4)) = true) {cause : Nat} {v : State}
    (hc : s.claim 5 = (cause, v)) : exec (.evtEdge n level interp) s =
      .next (State.count { s.edgeTold cause v (evtPayload n.val level false interp.val (vget s.evt n.val)) with
        evt := vset s.evt n.val ((vget s.evt n.val).stamp s.clk.tick level false) } (70 + n.val)) := by
  have hv : v = (s.claim 5).2 := by rw [hc]
  have hevt := s.edgeTold_evt cause v (evtPayload n.val level false interp.val (vget s.evt n.val))
  have hclk := congrArg Clock.tick (s.edgeTold_clk cause v (evtPayload n.val level false interp.val (vget s.evt n.val)))
  rw [show v.evt = s.evt by rw [hv]; rfl] at hevt
  rw [show v.clk = s.clk by rw [hv]; rfl] at hclk
  refine (show exec (.evtEdge n level interp) s = execEvtEdge n level interp s from rfl).trans ?_
  unfold execEvtEdge
  extract_lets e put u
  have hu : u = s := if_neg (by simp [h1, h2])
  rw [if_pos hf, hu, if_neg (by simp [e, he, hsel]), if_neg hm, hc]
  dsimp only
  rw [show v.epochHeld = s.epochHeld by rw [hv]; rfl, show v.now = s.now by rw [hv]; rfl]
  exact congrArg₂ (fun w tick => Host.Outcome.next (State.count
    { s.edgeTold cause v (evtPayload n.val level false interp.val (vget s.evt n.val)) with
      evt := vset w n.val ((vget s.evt n.val).stamp tick level false) } (70 + n.val))) hevt hclk
end
end

/-- Settles O41, event by event. -/
theorem inputEvents : Obligations.InputEvents := by
  unfold Obligations.InputEvents
  rintro s p q rfl
  refine ⟨fun i w hd hl hw hs => agcWindow_moves p i w hd hl hw hs _ rfl, fun i w hd hl hw hv hs hi => agcWindow_sticks p i w hd hl hw hv hs hi,
    fun c e hl hf ht hn he => ?_, fun c e hl hf ht h => ?_, fun hl hf hw => feStart_trains p hl hf hw,
    fun t0 good hl hs h1 h2 => exec_trainingMarker p t0 good hl hs h1 h2, fun t0 l ok hl hs h => exec_trainingVerifyEnd p t0 l ok hl hs h,
    fun t0 hl hs h => trainingTimeout_fails p t0 hl hs h, fun hf h16 hnew => ⟨fun h => frmFrame_training p hf h16 hnew h, fun h hg => ?_, fun h hg => ?_⟩,
    fun hd hn => ?_, fun f w own hd hf hl ht hs hn hm hw hr => exec_lineDetectorUpdate p f w own hd hf hl ht hs hn hm hw hr,
    fun j power used hj ht hu => exec_spectrumJobComplete p j power used hj ht hu, fun n level interp d hf he hsel hlast hd h1 h2 => ?_,
    fun n level interp cause u hf he hsel hlast h1 h2 hc => ?_⟩
  · rw [exec_eyeTrackUpdate p c e hl hf ht]
    exact if_neg (by omega)
  · have hu := s.loseLock_unlocked p
    rw [exec_eyeTrackUpdate p c e hl hf ht, if_pos h]
    exact ⟨_, rfl, hu.retrains, hu.lane⟩
  · rw [exec_frmFrame hf h16 hnew, noneTrains h, hg]
    exact ⟨_, rfl, rfl, rfl⟩
  · rw [exec_frmFrame hf h16 hnew, noneTrains h, hg]
  · obtain ⟨t, ht, hat, hport⟩ := noiseFloor_port p hd hn
    refine ⟨t, ht, hat, fun hm => by rw [hport, Port.secondOver, hm], fun m hm => ?_⟩
    rw [hport, Port.secondOver, hm]
    refine ⟨rfl, fun hr => congrArg (fun n => some (nrefNext n _ m)) hr, fun r hr => ?_⟩
    rw [hr]
    exact ⟨fun h => congrArg some (if_pos h), fun h => ⟨_, rfl, nrefNext_rises r m _ h⟩⟩
  · exact exec_evtEdge_merged n level interp hf he hsel h1 h2 (by simp [hlast, hd])
  · have hm : ¬ (vget s.evt n.val).last.any (fun t => decide (s.clk.tick ≤ t + 4)) = true := by
      cases hl : (vget s.evt n.val).last with
      | none => exact Bool.false_ne_true
      | some d => simpa using hlast d hl
    exact ⟨_, exec_evtEdge_stamped n level interp hf he hsel h1 h2 hm hc, evtPayload_before .., rfl⟩
end Sys2Proof.Machine

/-! # Passes, candidates, captures and Sketch fixes (O42) -/

namespace Sys2Proof.Machine

/-! ## What lanes that follow power change -/

/-- From `s` to `t` only the inputs, power and what reports change has changed. -/
def State.Powers (s t : State) : Prop :=
  t = { s with input := t.input, pwr := t.pwr, free := t.free, ranks := t.ranks, pmon := t.pmon, mem := { s.mem with sram := t.mem.sram },
               rings := t.rings, interp := t.interp, mbx := t.mbx, evtHeld := t.evtHeld }

namespace State.Powers

theorem refl (s : State) : s.Powers s := rfl

theorem trans {s t u : State} (h : s.Powers t) (k : t.Powers u) : s.Powers u := by
  unfold State.Powers at *
  rw [h] at k
  exact k

theorem of_reports {s t : State} (h : s.Reports t) : s.Powers t := by
  unfold State.Reports State.Powers at *
  rw [h]

theorem foldl {α : Type} {f : State → α → State} (h : ∀ u a, State.Powers u (f u a)) (l : List α) (s : State) : s.Powers (l.foldl f s) :=
  foldl_related refl trans h l s

section
variable {s t : State} (h : s.Powers t)
include h

theorem nav : t.nav = s.nav := by rw [h]
theorem trk : t.trk = s.trk := by rw [h]
theorem boot : t.boot = s.boot := by rw [h]
end
end State.Powers

section
variable (s : State)

theorem State.powers_modPort (p : Nat) (f : Port → Port) : s.Powers (s.modPort p f) := rfl

theorem State.powers_finalReply (id : Nat) (st : Status) (d : Nat) (p : List Byte) : s.Powers (s.finalReply id st d p) :=
  .of_reports (s.reports_finalReply ..)

theorem State.powers_abortPortJobs (p d : Nat) : s.Powers (s.abortPortJobs p d) := by
  unfold State.abortPortJobs
  extract_lets q u v w gone x
  have hu : s.Powers u := .foldl (fun u h => u.powers_finalReply ..) _ s
  have hv : u.Powers v := by
    dsimp only [v]
    split
    · exact .refl u
    · exact u.powers_finalReply ..
  exact ((hu.trans hv).trans (rfl : v.Powers x)).trans (.foldl (fun u t => u.powers_finalReply ..) _ x)

theorem State.powers_syncPort (powered : Bool) (d p : Nat) : s.Powers (s.syncPort powered d p) := by
  unfold State.syncPort
  extract_lets q u
  split
  · split
    · exact .refl s
    · split <;>
      · unfold State.Powers
        rfl
  · split
    · exact .refl s
    · exact (s.powers_abortPortJobs p d).trans (State.powers_modPort _ p _)

theorem State.powers_syncPorts (powered : Bool) (d : Nat) : s.Powers (s.syncPorts powered d) :=
  .foldl (fun u p => u.powers_syncPort powered d p) _ s

theorem State.powers_powerDownIdle : s.Powers s.powerDownIdle := by
  have off (u : State) (b : Bool) (d : Nat) : u.Powers (if b then u.modPwr fun p => { p with domains := p.domains &&& ~~~domainBit d } else u) := by
    split
    · unfold State.Powers
      rfl
    · exact .refl u
  unfold State.powerDownIdle
  extract_lets e busy taking off' u v live w
  split
  · exact (((off s _ 3).trans (off u _ 4)).trans (off v _ 9)).trans (w.powers_syncPorts ..)
  · split
    · exact off s _ 3
    · exact .refl s
end

/-! ## Jobs keep what they have counted -/

/-- Every job of `e` has in `f` done the same, and has the same candidates. -/
def Easel.CountsKept (e f : Easel) : Prop :=
  ∀ id j, e.job id = some j → ∃ i, f.job id = some i ∧ i.done = j.done ∧ i.passes = j.passes ∧ i.cands = j.cands

namespace Easel.CountsKept

theorem refl (e : Easel) : e.CountsKept e := fun _ j h => ⟨j, h, rfl, rfl, rfl⟩

theorem trans {e f g : Easel} (h : e.CountsKept f) (k : f.CountsKept g) : e.CountsKept g := fun id j hj => by
  obtain ⟨i, hi, hd, hp, hc⟩ := h id j hj
  obtain ⟨l, hl, hd', hp', hc'⟩ := k id i hi
  exact ⟨l, hl, hd'.trans hd, hp'.trans hp, hc'.trans hc⟩

theorem of_jobs {e f : Easel} (h : f.jobs = e.jobs) : e.CountsKept f := fun id j hj => ⟨j, by unfold Easel.job at *; rw [h]; exact hj, rfl, rfl, rfl⟩
end Easel.CountsKept

/-- The job of a number after a change of the jobs that keeps their numbers. -/
theorem Easel.job_modJob (e : Easel) (id k : Nat) {f : EaselJob → EaselJob} (h : ∀ j, (f j).id = j.id) :
    (e.modJob id f).job k = (e.job k).map fun j => if j.id = id then f j else j := by
  unfold Easel.job Easel.modJob
  rw [List.find?_map]
  congr 1
  refine congrArg (fun p => List.find? p e.jobs) (funext fun j => ?_)
  dsimp only [Function.comp]
  split
  · rw [h]
  · rfl

theorem Easel.countsKept_modJob (e : Easel) (id : Nat) {f : EaselJob → EaselJob} (h : ∀ j, (f j).id = j.id)
    (hf : ∀ j, (f j).done = j.done ∧ (f j).passes = j.passes ∧ (f j).cands = j.cands) : e.CountsKept (e.modJob id f) := fun k j hj => by
  refine ⟨_, by rw [e.job_modJob id k h, hj]; rfl, ?_⟩
  dsimp only
  split
  · exact hf j
  · exact ⟨rfl, rfl, rfl⟩

/-- A job that is added stands behind the others. -/
theorem Easel.countsKept_append (e : Easel) (l : List EaselJob) (n : Nat) : e.CountsKept { e with jobs := e.jobs ++ l, nextJob := n } :=
  fun k j hj => ⟨j, by unfold Easel.job at *; rw [List.find?_append, hj]; rfl, rfl, rfl, rfl⟩

section
variable (s : State)
open Easel.CountsKept (refl of_jobs)

theorem State.countsKept_startPass (b : Nat) (j : EaselJob) : s.easel.CountsKept (s.startPass b j).easel := by
  unfold State.startPass
  split
  · next n lower done rest _ =>
    exact (s.easel.countsKept_modJob j.id (f := fun j => { j with parts := rest }) (fun _ => rfl) fun _ => ⟨rfl, rfl, rfl⟩).trans (of_jobs rfl)
  · refine (s.easel.countsKept_modJob j.id (fun i => ?_) fun i => ?_).trans (of_jobs rfl)
    · split <;> rfl
    · split <;> exact ⟨rfl, rfl, rfl⟩

theorem countsKept_forUpto {f : Nat → State → State} (h : ∀ (k : Nat) (u : State), u.easel.CountsKept (f k u).easel) (n : Nat) :
    s.easel.CountsKept (forUpto n f s).easel :=
  foldl_related (R := fun s t : State => s.easel.CountsKept t.easel) (fun s => refl s.easel) .trans (fun u k => h k u) _ s

theorem State.countsKept_assignBanks : s.easel.CountsKept s.assignBanks.easel := by
  unfold State.assignBanks
  split
  · exact refl _
  · refine countsKept_forUpto s (fun b u => ?_) 8
    dsimp only
    split
    · exact refl _
    · split
      · exact refl _
      · exact u.countsKept_startPass b _

theorem State.countsKept_visit : s.easel.CountsKept s.visit.easel := by
  unfold State.visit
  split
  · exact refl _
  · extract_lets c u again wraps v
    split
    · exact refl _
    · have hv : s.easel.CountsKept v.easel := by
        dsimp only [v]
        split <;> exact of_jobs rfl
      split
      · exact hv
      · exact hv.trans (v.easel.countsKept_append _ _)

theorem State.countsKept_fillWatch : s.easel.CountsKept s.fillWatch.easel := by
  unfold State.fillWatch
  extract_lets u
  have hu : s.easel.CountsKept u.easel := by
    dsimp only [u]
    split <;> exact of_jobs rfl
  refine hu.trans (countsKept_forUpto u (fun _ v => ?_) 8)
  split
  · exact v.countsKept_visit.trans (State.countsKept_assignBanks _)
  · exact refl _
end

/-! ## A pass without a peak ends (04 R127, R131) -/

theorem EaselJob.peaks_nil (j : EaselJob) (lower : Bool) (dt : Nat) : j.peaks lower dt [] = [] := rfl

/-- No peak is new to a search's list. -/
theorem noneNew (cs : List Candidate) :
    (cs.filter fun c => !cs.any fun d => d.peak == c.peak && bit d.flags 1 == bit c.flags 1) = [] := by
  rw [List.filter_eq_nil_iff]
  intro c hc
  simp only [Bool.not_eq_true, Bool.not_eq_false', List.any_eq_true]
  exact ⟨c, hc, by simp⟩

theorem State.searchPass_nil {s : State} {id : Nat} {j : EaselJob} (h : s.easel.job id = some j) :
    s.searchPass id [] = s.modEasel fun e => e.modJob id fun k => { k with cands := j.cands } := by
  unfold State.searchPass
  rw [h]
  dsimp only
  rw [show peaksByRho [] = [] from rfl, List.foldl_nil, noneNew]
  rfl

section
variable {s : State} (b : Fin 8) {k : Bank} {j : EaselJob} (hd : s.domeService = true) (hk : vget s.easel.banks b.val = k)
  (hj : k.job = some j.id) (he : s.easel.job j.id = some j) (hs : j.kind = .search) (hw : k.waits = false) (hr : k.roundOver = false)
  (ht : k.start + loadTicks + j.dwell ≤ s.clk.tick)

/-- The job once its pass is counted. -/
def EaselJob.counted (j : EaselJob) (k : Bank) : EaselJob := { j with done := j.done + k.hyps, passes := j.passes + 1 }

/-- The Easel once bank `b` has ended its pass of job `j`. -/
def State.passCounted (s : State) (b : Nat) (k : Bank) (j : EaselJob) : State :=
  s.modEasel fun e => (e.endPass b j).modJob j.id fun i => i.counted k

/-- What a pass of the job, where it is still there, has found acts. -/
def State.passJudged (s : State) (k : Bank) (cells : List Cell) (job : Option EaselJob) : Res :=
  match job with
  | none => .next s
  | some j => .next (s.passPeaks j (j.peaks k.lower k.dt cells) (j.trackedSum k.lower k.dt cells)).assignBanks.fillWatch

theorem Easel.endPass_jobs (e : Easel) (b : Nat) (j : EaselJob) : (e.endPass b j).jobs = e.jobs := by
  unfold Easel.endPass
  dsimp only
  split <;> rfl

include he in
theorem State.passCounted_job : (s.passCounted b.val k j).easel.job j.id = some (j.counted k) := by
  refine ((s.easel.endPass b.val j).job_modJob j.id j.id (f := fun i => i.counted k) fun _ => rfl).trans ?_
  have : (s.easel.endPass b.val j).job j.id = some j := by
    unfold Easel.job at *
    rw [Easel.endPass_jobs]
    exact he
  rw [this]
  exact congrArg some (if_pos rfl)

include hd hk hj he hs hw hr ht in
theorem exec_bankPassEnd : exec (.bankPassEnd b []) s =
    .next ((((s.passCounted b.val k j).modEasel fun e => e.modJob j.id fun i => { i with cands := j.cands }).searchAdvance
      j.id).assignBanks.fillWatch) := by
  refine (show exec (.bankPassEnd b []) s = execBankPassEnd b [] s from rfl).trans ?_
  have hjob := State.passCounted_job b (k := k) he
  unfold execBankPassEnd
  rw [hk]
  dsimp only
  rw [hj, Option.bind_some, he]
  dsimp only
  rw [if_neg (by simp [hd, hw, hr]; omega)]
  refine (show _ = (s.passCounted b.val k j).passJudged k [] ((s.passCounted b.val k j).easel.job j.id) from rfl).trans ?_
  rw [hjob]
  unfold State.passJudged
  have hkind : (j.counted k).kind = .search := hs
  dsimp only [State.passPeaks]
  rw [hkind, EaselJob.peaks_nil]
  dsimp only
  rw [State.searchPass_nil (id := (j.counted k).id) hjob]
  rfl

theorem State.searchAdvance_working {u : State} {id : Nat} {i : EaselJob} (h : u.easel.job id = some i) (hl : i.left = true) :
    u.searchAdvance id = u := by
  unfold State.searchAdvance
  rw [h]
  exact if_pos (by simp [Easel.working, hl])

/-- A job without a part that gave way and without a grid has no pass to come. -/
theorem State.loadJob_nil (u : State) {i : EaselJob} (h : (i.hypUp = 0 ∧ i.hypLo = 0) ∧ i.parts = []) : (u.loadJob i []).left = false := by
  unfold State.loadJob
  rw [show gridTotals [] = (0, 0) from rfl]
  dsimp only
  split <;> simp [EaselJob.left, h]

theorem State.searchAdvance_over {u : State} {id : Nat} {i : EaselJob} (h : u.easel.job id = some i) (hid : i.id = id) (hl : i.left = false)
    (hh : u.easel.held id = 0) (hd : i.derived = false) :
    u.searchAdvance id = ((u.dropJob id).finalOption i.cmd .ok 0 i.reply).powerDownIdle := by
  unfold State.searchAdvance
  rw [h]
  dsimp only
  rw [if_neg (by simp [Easel.working, hl, hid, hh]), hd, Bool.and_false, if_neg Bool.false_ne_true, 
    if_neg fun hc => Bool.false_ne_true ((u.loadJob_nil (by simpa [EaselJob.left] using hl)).symm.trans hc)]

/-- No bank holds the job once the only one that did is free. -/
theorem Easel.noBank {e : Easel} {id : Nat} (hb : (vget e.banks b.val).job = some id) (h1 : e.held id = 1) :
    ∀ x ∈ (vset e.banks b.val {}).toList, x.job ≠ some id := by
  have hget : e.banks.toList[b.val]'(by simp) = vget e.banks b.val := by simp [vget, Vector.getD]
  have hcount : (vset e.banks b.val ({} : Bank)).toList.countP (fun x => x.job == some id) = 0 := by
    have hset : (vset e.banks b.val ({} : Bank)).toList = e.banks.toList.set b.val {} := by simp [vset, Vector.toList_setIfInBounds]
    unfold Easel.held at h1
    rw [← List.countP_eq_length_filter] at h1
    rw [hset, List.countP_set (by simp), h1, hget, hb]
    simp
  intro x hx hid
  exact List.countP_eq_zero.1 hcount x hx (by simp [hid])

/-- The pass of the only bank that a job holds ends: it holds none. -/
theorem Easel.held_endPass {e : Easel} (hb : (vget e.banks b.val).job = some j.id) (h1 : e.held j.id = 1) : (e.endPass b.val j).held j.id = 0 := by
  have hnone := Easel.noBank b hb h1
  have hwaits : ((List.range 8).any fun k => k != b.val && (vget e.banks k).job == some j.id && !(vget e.banks k).roundOver) = false := by
    rw [List.any_eq_false]
    intro k hk hc
    simp only [Bool.and_eq_true, bne_iff_ne, ne_eq, beq_iff_eq] at hc
    obtain ⟨⟨hne, hid⟩, -⟩ := hc
    rw [← vget_vset_other e.banks ({} : Bank) hne] at hid
    refine hnone _ ?_ hid
    have : k < 8 := List.mem_range.1 hk
    simp [vget, Vector.getD, this]
  unfold Easel.endPass Easel.held
  dsimp only
  rw [hwaits, Bool.and_false, if_neg Bool.false_ne_true, List.length_eq_zero_iff, List.filter_eq_nil_iff]
  intro x hx
  rw [Vector.toList_map, List.mem_map] at hx
  obtain ⟨y, hy, rfl⟩ := hx
  split
  · simp
  · simpa using hnone y hy

/-- A job that is dropped is dropped whatever it had counted. -/
theorem State.dropJob_modJob (u : State) (id : Nat) {f : EaselJob → EaselJob} (h : ∀ j, j.id = id → (f j).id = id) :
    (u.modEasel fun e => e.modJob id f).dropJob id = u.dropJob id := by
  have hjobs : (u.easel.jobs.map fun j => if j.id = id then f j else j).filter (fun j => j.id != id) = u.easel.jobs.filter fun j => j.id != id := by
    induction u.easel.jobs with
    | nil => rfl
    | cons j l ih =>
      rw [List.map_cons]
      by_cases hj : j.id = id
      · rw [if_pos hj, List.filter_cons_of_neg (by simp [h j hj]), List.filter_cons_of_neg (by simp [hj]), ih]
      · rw [if_neg hj, List.filter_cons_of_pos (by simp [hj]), List.filter_cons_of_pos (by simp [hj]), ih]
  unfold State.dropJob State.modEasel Easel.modJob
  dsimp only
  rw [hjobs]

include hd hk hj he hs hw hr ht in
theorem bankPass_counts (hl : j.left = true) : ∃ t, exec (.bankPassEnd b []) s = .next t ∧
    ∃ i, t.easel.job j.id = some i ∧ i.done = j.done + k.hyps ∧ i.passes = j.passes + 1 ∧ i.cands = j.cands := by
  refine ⟨_, exec_bankPassEnd b hd hk hj he hs hw hr ht, ?_⟩
  have hjob : ((s.passCounted b.val k j).modEasel fun e => e.modJob j.id fun i => { i with cands := j.cands }).easel.job j.id =
      some { j.counted k with cands := j.cands } := by
    refine (Easel.job_modJob _ j.id j.id (f := fun i => { i with cands := j.cands }) fun _ => rfl).trans ?_
    rw [State.passCounted_job b he]
    exact congrArg some (if_pos rfl)
  rw [State.searchAdvance_working hjob hl]
  obtain ⟨i, hi, h1, h2, h3⟩ := ((State.countsKept_assignBanks _).trans (State.countsKept_fillWatch _)) j.id _ hjob
  exact ⟨i, hi, h1, h2, h3⟩

include hd hk hj he hs hw hr ht in
theorem bankPass_completes (hl : j.left = false) (h1 : s.easel.held j.id = 1) (hder : j.derived = false) : exec (.bankPassEnd b []) s =
    .next (((((s.modEasel fun e => (e.endPass b.val j).modJob j.id fun _ => j.counted k).dropJob
      j.id).finalOption j.cmd .ok 0 (j.counted k).reply).powerDownIdle).assignBanks.fillWatch) := by
  rw [exec_bankPassEnd b hd hk hj he hs hw hr ht]
  have hjob : ((s.passCounted b.val k j).modEasel fun e => e.modJob j.id fun i => { i with cands := j.cands }).easel.job j.id =
      some { j.counted k with cands := j.cands } := by
    refine (Easel.job_modJob _ j.id j.id (f := fun i => { i with cands := j.cands }) fun _ => rfl).trans ?_
    rw [State.passCounted_job b he]
    exact congrArg some (if_pos rfl)
  rw [State.searchAdvance_over hjob rfl hl (Easel.held_endPass b (by rw [hk]; exact hj) h1) hder]
  have hcands := (s.passCounted b.val k j).dropJob_modJob j.id (f := fun i => { i with cands := j.cands }) fun _ h => h
  have hcounted : (s.passCounted b.val k j).dropJob j.id = (s.modEasel fun e => e.endPass b.val j).dropJob j.id :=
    (s.modEasel fun e => e.endPass b.val j).dropJob_modJob j.id fun _ h => h
  have hgiven : (s.modEasel fun e => (e.endPass b.val j).modJob j.id fun _ => j.counted k).dropJob j.id =
      (s.modEasel fun e => e.endPass b.val j).dropJob j.id :=
    (s.modEasel fun e => e.endPass b.val j).dropJob_modJob j.id fun _ _ => rfl
  rw [hcands, hcounted, hgiven]
  rfl
end

/-! ## Candidates, captures and Sketch fixes (04 R135, R141–R149) -/

section
variable {s : State} (hd : s.domeService = true)

theorem State.dropped_queue (u : State) (w : Waiting) (f : Candidate → Candidate) :
    (u.dropCandidate.markCandidate w.job w.peak 8 f).easel.queue = u.easel.queue ∧
    (u.dropCandidate.markCandidate w.job w.peak 8 f).easel.dropped = sat16 u.easel.dropped := by
  unfold State.markCandidate
  split <;> exact ⟨rfl, rfl⟩

include hd in
theorem queueTimeout_drops : ∃ t, exec .handoverQueueTimeout s = .next t ∧
    t.easel.queue = s.easel.queue.filter (fun w => decide (s.now < w.since + second)) ∧
      ∀ w, s.easel.queue = [w] → w.since + second ≤ s.now → t.easel.dropped = sat16 s.easel.dropped := by
  refine ⟨_, (show exec .handoverQueueTimeout s = execHandoverQueueTimeout s from rfl).trans (if_neg (by simp [hd])), ?_, fun w hq hw => ?_⟩
  · refine Eq.trans (foldl_related (R := fun u v : State => v.easel.queue = u.easel.queue) (fun _ => rfl) (fun h k => k.trans h)
      (fun u w => (u.dropped_queue w _).1) _ _) ?_
    exact congrArg (fun p => List.filter p s.easel.queue) (funext fun w => by rw [← decide_not]; exact decide_eq_decide.2 not_le)
  · rw [hq, List.filter_cons_of_pos (by simpa using hw)]
    exact (State.dropped_queue _ w _).2

theorem State.freezes_of_capture (u : State) (h : u.easel.capturing.isSome = true) : u.freezes = true := by
  unfold State.freezes
  rw [h]
  rfl

theorem State.setFrozen_true (u : State) : (u.setFrozen true).input.frozen = true := by
  unfold State.setFrozen
  split
  · next h => exact beq_iff_eq.1 h
  · rfl

theorem State.tempTrigger_cal (u : State) (temp : Int) : ∃ c, u.tempTrigger temp = { u with nav := { u.nav with temperature := temp }, cal := c } := by
  unfold State.tempTrigger
  extract_lets v far
  split
  · unfold State.calTrigger
    split
    · exact ⟨_, rfl⟩
    · split <;> exact ⟨_, rfl⟩
    · exact ⟨_, rfl⟩
  · exact ⟨_, rfl⟩

include hd in
theorem captureStart_starts {r : CaptureReq} {l : List CaptureReq} (temp : Int) (hq : s.easel.reqs = r :: l) (hc : s.easel.capturing = none)
    (hp : s.poweredOn 4 = true) (hr : s.cal.run = none) (hready : ∀ k ∈ r.ports, (s.port k).captureReady = true) :
    ∃ t, exec (.captureStart temp) s = .next t ∧ t.easel.reqs = l ∧
        t.easel.capturing = some { req := r, start := s.clk.tick } ∧ t.input.frozen = true ∧ t.nav.temperature = temp := by
  have he : exec (.captureStart temp) s = execCaptureStart temp s := rfl
  unfold execCaptureStart at he
  rw [hq] at he
  dsimp -zeta only at he
  rw [if_neg (by simp [hd, hc, hp, hr]; exact hready)] at he
  extract_lets u l' on v w at he
  have hw : w.easel = v.easel := by
    dsimp only [w]
    split <;> rfl
  have hfreeze : w.refreeze.input.frozen = true := by
    unfold State.refreeze
    rw [State.freezes_of_capture w (by rw [hw]; rfl)]
    exact w.setFrozen_true
  obtain ⟨c, ht⟩ := w.refreeze.tempTrigger_cal temp
  have heasel : w.refreeze.easel = v.easel := w.notched_refreeze.easel.trans hw
  rw [ht] at he
  refine ⟨_, he, ?_, ?_, hfreeze, rfl⟩
  · exact congrArg Easel.reqs heasel
  · exact congrArg Easel.capturing heasel

/-- The Easel once the samples of a capture are written. -/
def Easel.written (e : Easel) (c : Capturing) (upper lower : List Byte) : Easel :=
  { e with
    capturing := none
    captures := vset e.captures c.req.id ((vget e.captures c.req.id).map fun k => { k with
      writing := false, data := captureData c.req.format c.req.band (c.req.length * 81840) upper lower }) }

include hd in
theorem captureEnd_ends {c : Capturing} {k : Capture} (upper lower : List Byte) (hc : s.easel.capturing = some c) (hf : c.req.forFix = false)
    (ht : c.start + c.req.length * 81840 ≤ s.clk.tick) (hk : vget s.easel.captures c.req.id = some k) :
    ∃ t, exec (.captureEnd ⟨upper, lower⟩) s = .next t ∧ t.easel.capturing = none ∧ vget t.easel.captures c.req.id = some { k with
      writing := false, data := captureData c.req.format c.req.band (c.req.length * 81840) upper lower } := by
  have he : exec (.captureEnd ⟨upper, lower⟩) s = execCaptureEnd ⟨upper, lower⟩ s := rfl
  unfold execCaptureEnd at he
  rw [hc] at he
  dsimp only at he
  rw [if_neg (by simp [hd]; omega), hf, if_neg Bool.false_ne_true] at he
  have heasel : ((s.modEasel fun e => e.written c upper lower).refreeze.finalOption c.req.cmd .ok 0
      (le 1 c.req.id ++ le 1 c.req.format ++ zeros 2 ++ le 8 (match vget (s.easel.written c upper lower).captures c.req.id with
        | none => 0
        | some k => k.dt) ++ le 4 (c.req.length * 81840))).powerDownIdle.easel = s.easel.written c upper lower := by
    rw [State.powerDownIdle_easel, (State.reports_finalOption ..).easel, (State.notched_refreeze _).easel]
    rfl
  have hid : c.req.id < 8 := by
    by_contra h
    rw [show vget s.easel.captures c.req.id = none by simp [vget, Vector.getD, h]; rfl] at hk
    cases hk
  refine ⟨_, he, ?_, ?_⟩
  · exact congrArg Easel.capturing heasel
  · refine (congrArg (fun e : Easel => vget e.captures c.req.id) heasel).trans ?_
    unfold Easel.written
    rw [vget_vset_same _ _ hid, hk]
    rfl

include hd in
theorem captureEnd_solves {c : Capturing} (upper lower : List Byte) (hc : s.easel.capturing = some c) (hf : c.req.forFix = true)
    (ht : c.start + c.req.length * 81840 ≤ s.clk.tick) (hp : s.pwr.profile ≠ 0) (hr : s.cal.run = none) :
    exec (.captureEnd ⟨upper, lower⟩) s = .next ((s.modEasel fun e => e.written c upper lower).refreeze.sketchBegin.powerDownIdle) := by
  have he : exec (.captureEnd ⟨upper, lower⟩) s = execCaptureEnd ⟨upper, lower⟩ s := rfl
  unfold execCaptureEnd at he
  rw [hc] at he
  dsimp -zeta only at he
  extract_lets r v run w dt at he
  rw [if_neg (by simp [hd]; omega), if_pos hf] at he
  have hprofile : decide (v.pwr.profile = 0) = false := decide_eq_false hp
  have hw : w = v.refreeze := by
    have hrun : run = false := by
      dsimp only [run]
      rw [hprofile, Bool.false_and, Bool.false_and]
    dsimp only [w]
    rw [if_neg (by rw [hrun]; exact Bool.false_ne_true), if_neg (by rw [hprofile]; exact Bool.false_ne_true)]
  rw [hw, show v.refreeze.cal.run = none from (congrArg Cal.run v.notched_refreeze.cal).trans hr] at he
  exact he

/-! ## The solve step of a fix (07 R263, 04 R148) -/

theorem foldl_keep {σ α β : Type} (g : σ → β) {f : σ → α → σ} (h : ∀ u a, g (f u a) = g u) (l : List α) (u : σ) : g (l.foldl f u) = g u :=
  foldl_related (R := fun s t => g t = g s) (fun _ => rfl) (fun h k => k.trans h) h l u

theorem State.endFix_fix (u : State) (st : Status) (d : Nat) (p : List Byte) : (u.endFix st d p).easel.fix = none ∧ (u.endFix st d p).nav = u.nav := by
  unfold State.endFix
  split
  · next h => exact ⟨h, rfl⟩
  · next f hf =>
    extract_lets v w x
    have hv : v.nav = u.nav := foldl_keep State.nav (f := fun s (j : EaselJob) => s.dropJob j.id) (fun s j => by rw [s.easelOnly_dropJob j.id]) _ u
    have hx : x.easel.fix = none ∧ x.nav = u.nav := by
      dsimp only [x]
      split
      · exact ⟨rfl, hv⟩
      · split <;> exact ⟨rfl, hv⟩
    have h := x.reports_finalOption f.cmd st d p
    exact ⟨(congrArg Easel.fix h.easel).trans hx.1, h.nav.trans hx.2⟩

include hd in
theorem sketchFix_completes {f : SketchFix} (sol : SolveIn) (coarse : Int) (hf : s.easel.fix = some f) (hs : f.stage = .solve)
    (ht : s.trk.supRestart = none) : ∃ t, exec (.sketchFixComplete sol coarse) s = .next t ∧ t.easel.fix = none ∧
      (f.anchors.length < 5 → t.nav = s.nav) := by
  have he : exec (.sketchFixComplete sol coarse) s = execSketchFixComplete sol coarse s := rfl
  unfold execSketchFixComplete at he
  rw [hf] at he
  dsimp -zeta only at he
  rw [if_neg (by simp [hd, hs, ht])] at he
  extract_lets dt j result reply v w at he
  have hend := w.endFix_fix .ok 0 reply
  refine ⟨_, he, ?_, fun h => ?_⟩
  · rw [State.powerDownIdle_easel]
    exact hend.1
  · have hresult : result = 1 := if_pos (Or.inl h)
    rw [(w.endFix .ok 0 reply).powers_powerDownIdle.nav, hend.2]
    dsimp only [w, v]
    rw [hresult]
    rfl
end

/-- Settles O42, event by event. -/
theorem easelEvents : Obligations.EaselEvents := by
  unfold Obligations.EaselEvents
  intro s hd
  refine ⟨fun b k j hk hj he hs hw hr ht hl => bankPass_counts b hd hk hj he hs hw hr ht hl, fun b k j i hk hj he hs hw hr ht hl h1 hder hi => ?_,
    queueTimeout_drops hd, fun r l temp hq hc hp hr hready => captureStart_starts hd temp hq hc hp hr hready,
    fun c k upper lower hc hf ht hk => captureEnd_ends hd upper lower hc hf ht hk,
    fun c upper lower hc hf ht hp hr => captureEnd_solves hd upper lower hc hf ht hp hr,
    fun f sol coarse hf hs ht => sketchFix_completes hd sol coarse hf hs ht⟩
  subst hi
  exact bankPass_completes b hd hk hj he hs hw hr ht hl h1 hder
end Sys2Proof.Machine

/-! # What happens to the tracking channels in time (O43) -/

namespace Sys2Proof.Machine

/-! ## Channels after an update -/

/-- `d` is `c` but for the dates of its states. -/
def Channel.Dated (c d : Channel) : Prop :=
  d = { c with since := d.since, lostFrom := d.lostFrom, reacqFrom := d.reacqFrom, expiring := d.expiring, tracked := d.tracked }

namespace Channel.Dated

variable {c d : Channel} (h : c.Dated d)
include h

theorem anchor : d.anchor = c.anchor := by rw [h]
theorem noConvert : d.noConvert = c.noConvert := by rw [h]
theorem residues : d.residues = c.residues := by rw [h]
theorem selfCheck : d.selfCheck = c.selfCheck := by rw [h]
theorem failing : d.failing = c.failing := by rw [h]
theorem retireAt : d.retireAt = c.retireAt := by rw [h]
theorem lane (lower : Bool) : d.lane lower = c.lane lower := by rw [h]; rfl
end Channel.Dated

theorem Channel.settle_dated (c : Channel) (now : Nat) : c.Dated (c.settle now) := by
  unfold Channel.settle
  split
  · split <;> exact rfl
  · exact rfl

section
variable (s : State) (ch : Fin 192) (f : Channel → Channel)

theorem State.chan_modChan : (f (s.chan ch.val)).Dated ((s.modChan ch.val f).chan ch.val) := by
  have h : (s.modChan ch.val f).chan ch.val = _ := vget_vset_same s.trk.channels _ ch.isLt
  have hs := (f (s.chan ch.val)).settle_dated s.now
  rw [h]
  unfold Channel.Dated at *
  split
  · exact hs
  · dsimp only
    rw [hs]

theorem State.lane_modLane (lower : Bool) (g : TrkLane → TrkLane) :
    ((s.modLane ch.val lower g).chan ch.val).lane lower = g ((s.chan ch.val).lane lower) := by
  refine ((s.chan_modChan ch fun c => c.modLane lower g).lane lower).trans ?_
  unfold Channel.modLane Channel.setLane Channel.lane
  cases lower <;> rfl

theorem State.goIdle_state : ((s.goIdle ch.val).chan ch.val).state = 0 := by
  unfold State.goIdle
  extract_lets u
  have h := (u.chan_modChan ch Channel.blank).anchor
  unfold Channel.state
  rw [h]
  rfl
end

/-- LOST and REACQ are states of a channel all of whose lanes are lost. -/
theorem Channel.allLost_of_state {c : Channel} (h : 5 ≤ c.state) : c.anchor.isNone = false ∧ c.present.isEmpty = false ∧ c.allLost = true := by
  unfold Channel.state at h
  by_cases h1 : c.anchor.isNone = true
  · simp [h1] at h
  by_cases h2 : c.present.isEmpty = true
  · simp [h1, h2] at h
  refine ⟨Bool.eq_false_iff.2 h1, Bool.eq_false_iff.2 h2, ?_⟩
  by_contra h3
  rw [if_neg h1, if_neg h2, if_neg h3] at h
  have hcode (l : List Nat) (hl : ∀ k ∈ l, k ≤ 4) (m : Nat) (hm : m ≤ 4) : l.foldl max m ≤ 4 := by
    induction l generalizing m with
    | nil => exact hm
    | cons a l ih => exact ih (fun k hk => hl k (List.mem_cons_of_mem _ hk)) _ (max_le hm (hl a List.mem_cons_self))
  have := hcode ((c.present.filter (·.st != .lost)).map (·.st.code)) (fun k hk => by
    obtain ⟨l, hl, rfl⟩ := List.mem_map.1 hk
    have hl := (List.mem_filter.1 hl).2
    cases hst : l.st <;> simp [hst, TrkState.code] at hl ⊢) 0 (by omega)
  omega

/-! ## Requests that are withdrawn and channels that go to IDLE (05 R185, R198) -/

section
variable (s : State) (ch : Nat)

theorem State.withdrawReacq_trk : (s.withdrawReacq ch).trk = s.trk := by
  unfold State.withdrawReacq
  split
  · rfl
  · rw [(State.powers_powerDownIdle _).trk, s.easelOnly_dropJob]

theorem State.goIdle_pullInFails : (s.goIdle ch).trk.pullInFails = s.trk.pullInFails := by
  unfold State.goIdle
  extract_lets u
  have hu : u.trk = s.trk := by
    dsimp only [u]
    split
    · exact s.withdrawReacq_trk ch
    · rfl
  rw [← hu]
  rfl

theorem State.goIdle_other {k : Nat} (h : k ≠ ch) : (s.goIdle ch).chan k = s.chan k := by
  unfold State.goIdle
  extract_lets u
  have hu : u.trk = s.trk := by
    dsimp only [u]
    split
    · exact s.withdrawReacq_trk ch
    · rfl
  exact (vget_vset_other _ _ h).trans (congrArg (fun t : Tracking => vget t.channels k) hu)
end

/-! ## A channel that asks the Easel for its satellite (04 R137, 05 R198) -/

/-- Every job of `e` stands in `f` with its kind. -/
def Easel.KindsKept (e f : Easel) : Prop := ∀ j ∈ e.jobs, ∃ i ∈ f.jobs, i.kind = j.kind

theorem Easel.KindsKept.trans {e f g : Easel} (h : e.KindsKept f) (k : f.KindsKept g) : e.KindsKept g := fun j hj => by
  obtain ⟨i, hi, e1⟩ := h j hj
  obtain ⟨l, hl, e2⟩ := k i hi
  exact ⟨l, hl, e2.trans e1⟩

theorem Easel.kindsKept_of_jobs {e f : Easel} (h : f.jobs = e.jobs) : e.KindsKept f := fun j hj => ⟨j, h ▸ hj, rfl⟩

theorem Easel.kindsKept_modJob (e : Easel) (id : Nat) {f : EaselJob → EaselJob} (h : ∀ j, (f j).kind = j.kind) : e.KindsKept (e.modJob id f) :=
  fun j hj => ⟨_, List.mem_map_of_mem hj, by split <;> [exact h j; rfl]⟩

section
variable (s : State)

theorem State.kindsKept_startPass (b : Nat) (j : EaselJob) : s.easel.KindsKept (s.startPass b j).easel := by
  unfold State.startPass
  split
  · next n lower done rest _ =>
    exact (s.easel.kindsKept_modJob j.id (f := fun j => { j with parts := rest }) fun _ => rfl).trans (Easel.kindsKept_of_jobs rfl)
  · refine (s.easel.kindsKept_modJob j.id (fun i => ?_)).trans (Easel.kindsKept_of_jobs rfl)
    split <;> rfl

theorem State.kindsKept_assignBanks : s.easel.KindsKept s.assignBanks.easel := by
  unfold State.assignBanks
  split
  · exact fun j hj => ⟨j, hj, rfl⟩
  · refine foldl_related (R := fun s t : State => s.easel.KindsKept t.easel) (fun _ j hj => ⟨j, hj, rfl⟩) (fun h k => h.trans k) (fun u b => ?_) _ s
    dsimp only
    split
    · exact fun j hj => ⟨j, hj, rfl⟩
    · split
      · exact fun j hj => ⟨j, hj, rfl⟩
      · exact u.kindsKept_startPass b _

theorem State.discardPass_keeps (b : Nat) : s.easel.KindsKept (s.discardPass b).easel ∧ s.EaselOnly (s.discardPass b) := by
  unfold State.discardPass
  dsimp only
  split
  · exact ⟨fun j hj => ⟨j, hj, rfl⟩, rfl⟩
  · next id _ =>
    refine ⟨(s.easel.kindsKept_modJob id (fun i => ?_)).trans (Easel.kindsKept_of_jobs rfl), rfl⟩
    split
    · rfl
    · split <;> rfl

theorem State.reacqBank_keeps : s.easel.KindsKept s.reacqBank.easel ∧ s.EaselOnly s.reacqBank := by
  unfold State.reacqBank
  split
  · exact ⟨s.kindsKept_assignBanks, s.easelOnly_assignBanks⟩
  · dsimp only
    split
    · exact ⟨fun j hj => ⟨j, hj, rfl⟩, rfl⟩
    · split
      · exact ⟨fun j hj => ⟨j, hj, rfl⟩, rfl⟩
      · next b _ =>
        obtain ⟨h1, h2⟩ := s.discardPass_keeps b
        exact ⟨h1.trans (State.kindsKept_assignBanks _), h2.trans (State.easelOnly_assignBanks _)⟩

theorem State.powerEasel_trk : s.powerEasel.trk = s.trk := by
  unfold State.powerEasel
  split
  · rfl
  · refine foldl_keep State.trk (fun u d => ?_) _ s
    split <;> rfl

variable (ch signal sv code : Nat) (doppler : Int) (out antenna : Nat)

theorem State.requestReacq_trk : (s.requestReacq ch signal sv code doppler out antenna).trk = s.trk := by
  unfold State.requestReacq
  split
  · rfl
  · dsimp only
    rw [(State.reacqBank_keeps _).2]
    exact s.powerEasel_trk

theorem State.requestReacq_job (h : (signalRow signal).isSome = true) :
    ∃ j ∈ (s.requestReacq ch signal sv code doppler out antenna).easel.jobs, j.kind = .reacq ch := by
  unfold State.requestReacq
  split
  · next hn => exact absurd h (by simp [hn])
  · next r _ =>
    extract_lets g j
    obtain ⟨i, hi, hk⟩ := (State.reacqBank_keeps (s.powerEasel.addJob (j.load g))).1 { j.load g with id := s.powerEasel.easel.nextJob }
      (List.mem_append_right _ List.mem_cons_self)
    exact ⟨i, hi, hk⟩
end

/-- A channel whose coasting time is over is dated in REACQ. -/
theorem State.chan_reacquiring (s : State) (ch : Fin 192) {c : Channel} (hc : s.chan ch.val = c) (hl : c.allLost = true)
    (hf : c.lostFrom.isSome = true) : ((s.modChan ch.val fun c => { c with reacqFrom := some s.now }).chan ch.val).reacqFrom = some s.now := by
  have hsettle : Channel.settle { c with reacqFrom := some s.now } s.now = { c with reacqFrom := some s.now } := by
    have hlost : Channel.allLost { c with reacqFrom := some s.now } = true := hl
    unfold Channel.settle
    rw [if_pos hlost]
    exact if_neg (by simp [Option.isSome_iff_ne_none.1 hf])
  have h : (s.modChan ch.val fun c => { c with reacqFrom := some s.now }).chan ch.val = _ := vget_vset_same s.trk.channels _ ch.isLt
  rw [h, hc]
  dsimp only
  rw [hsettle]
  split <;> rfl

/-! ## The dump of a lane (05 R181–R192) -/

section
variable {s : State} (ch : Fin 192) (lower : Bool) (d : Sums)

/-- A lane's dump reaches its loop pair. -/
structure State.Dumps (s : State) (ch : Nat) (lower : Bool) : Prop where
  runs : s.pairRuns (ch / 48) = true
  anchor : (s.chan ch).anchor ≠ none
  out : (s.chan ch).out = false
  claimed : (s.chan ch).claimed = false
  signal : ((s.chan ch).lane lower).signal ≠ 0
  opens : ((s.chan ch).lane lower).st = .absent → s.bandOpen lower = true

/-- What a dump that reaches its loop pair does. -/
theorem exec_accumulationDump (h : s.Dumps ch.val lower) : exec (.accumulationDump ch lower d) s =
    if (s.chan ch.val).releasing = true then .next (s.goIdle ch.val)
    else if (s.chan ch.val).retireAt.isSome = true then .next (s.retire ch.val)
    else if (((s.chan ch.val).lane lower).st != .absent && !d.residueOk) = true then
      .next ((s.residueFailure ch.val lower d.pilot).withholdDump ch.val lower d true)
    else if s.withheld ch.val = true then .next (s.withholdDump ch.val lower d true)
    else if (((s.chan ch.val).lane lower).st != .absent &&
        decide (d.prompts.length * primaryPeriod ((s.chan ch.val).lane lower).signal ≠ ((s.chan ch.val).lane lower).now.t)) = true then .next s
    else .next (s.modLane ch.val lower fun _ => s.takeDump (s.chan ch.val) lower d) := by
  have hup : s.pairUp (ch.val / 48) = true := by
    have := h.runs
    unfold State.pairRuns at this
    exact (Bool.and_eq_true_iff.1 this).1
  have hanchor : (s.chan ch.val).anchor.isNone = false := Option.isNone_eq_false_iff.2 (Option.isSome_iff_ne_none.2 h.anchor)
  have hopen : (((s.chan ch.val).lane lower).st == .absent && !s.bandOpen lower) = false := by
    by_cases ha : ((s.chan ch.val).lane lower).st = .absent
    · rw [h.opens ha, Bool.not_true, Bool.and_false]
    · rw [beq_eq_false_iff_ne.2 ha, Bool.false_and]
  refine (show exec (.accumulationDump ch lower d) s = execAccumulationDump ch lower d s from rfl).trans ?_
  unfold execAccumulationDump
  dsimp only
  rw [hup, hanchor, h.out, h.claimed, decide_eq_false h.signal, hopen, h.runs]
  simp only [Bool.not_true, Bool.or_self, Bool.false_eq_true, reduceIte, Bool.true_and]

/-- The channel once a residue failure is noted. -/
def Channel.faulted (c : Channel) (lower pilot own : Bool) (cause now : Nat) : Channel :=
  let rs := Machine.recent now second (now :: c.recent)
  let c := c.modLane lower fun l => { l with residue := true }
  { c with residues := sat16 c.residues, recent := rs
           retireAt := match c.retireAt with | some r => some r | none => if rs.length ≥ 3 then some (cause, now) else none
           selfCheck := some (match c.selfCheck with | none => now + ms 1 | some d => d)
           checkOwn := own, failing := c.failing ++ [⟨lower, pilot, cause, now⟩] }

theorem Channel.lane_modLane (c : Channel) (lower : Bool) (g : TrkLane → TrkLane) : (c.modLane lower g).lane lower = g (c.lane lower) := by
  cases lower <;> rfl

theorem Channel.faulted_lane (c : Channel) (lower pilot own : Bool) (cause now : Nat) :
    (c.faulted lower pilot own cause now).lane lower = { c.lane lower with residue := true } := by
  cases lower <;> rfl

/-- A change of a lane leaves what the channel holds itself. -/
theorem Channel.modLane_own (c : Channel) (lower : Bool) (g : TrkLane → TrkLane) :
    c.modLane lower g = { c with upper := (c.modLane lower g).upper, lower := (c.modLane lower g).lower } := by
  cases lower <;> rfl

theorem State.residueFailure_eq (s : State) (ch : Nat) (lower pilot : Bool) : s.residueFailure ch lower pilot =
    ((s.claim 3).2.modTrk fun t => { t with residueTotal := sat16 t.residueTotal }).modChan ch fun c =>
      c.faulted lower pilot (s.cluster (ch / 48)).spares.isEmpty (s.claim 3).1 s.now := rfl

/-- A withheld accumulation marks its lane. -/
theorem State.withholdDump_chan (u : State) (ch : Fin 192) (lower : Bool) (d : Sums) : ∃ l : TrkLane,
    ((u.withholdDump ch.val lower d true).chan ch.val).lane lower = { l with residue := true } ∧ l.prompts = ((u.chan ch.val).lane lower).prompts ∧
      l.doppler = ((u.chan ch.val).lane lower).doppler ∧ l.st = ((u.chan ch.val).lane lower).st := by
  refine ⟨((u.chan ch.val).lane lower).withhold (u.chan ch.val).sv d.prompts.length (((u.chan ch.val).lane lower).index (u.chan ch.val).sv u.now), ?_, rfl, rfl, rfl⟩
  unfold State.withholdDump
  rw [(u.chan_modChan ch _).lane, Channel.lane_modLane, Bool.or_true]

theorem State.withholdDump_own (u : State) (ch : Fin 192) (lower : Bool) (d : Sums) (mark : Bool) :
    ((u.withholdDump ch.val lower d mark).chan ch.val).residues = (u.chan ch.val).residues ∧
    ((u.withholdDump ch.val lower d mark).chan ch.val).selfCheck = (u.chan ch.val).selfCheck ∧
    ((u.withholdDump ch.val lower d mark).chan ch.val).failing = (u.chan ch.val).failing ∧
    ((u.withholdDump ch.val lower d mark).chan ch.val).retireAt = (u.chan ch.val).retireAt := by
  unfold State.withholdDump
  have h := u.chan_modChan ch fun c => c.modLane lower fun l =>
    { l.withhold c.sv d.prompts.length (l.index c.sv u.now) with residue := l.residue || mark }
  rw [h.residues, h.selfCheck, h.failing, h.retireAt, Channel.modLane_own]
  exact ⟨rfl, rfl, rfl, rfl⟩

theorem Channel.faulted_own (c : Channel) (lower pilot own : Bool) (cause now : Nat) :
    (c.faulted lower pilot own cause now).residues = sat16 c.residues ∧
    (c.faulted lower pilot own cause now).selfCheck = some (c.selfCheck.getD (now + ms 1)) ∧
    (c.faulted lower pilot own cause now).failing = c.failing ++ [⟨lower, pilot, cause, now⟩] ∧
    (c.retireAt = none → (c.faulted lower pilot own cause now).retireAt =
      if 3 ≤ (Machine.recent now second (now :: c.recent)).length then some (cause, now) else none) := by
  unfold Channel.faulted
  dsimp only
  rw [Channel.modLane_own]
  refine ⟨rfl, ?_, rfl, fun h => ?_⟩
  · cases c.selfCheck <;> rfl
  · dsimp only
    rw [h]

/-- A residue failure is noted, and its accumulation withheld. -/
theorem residueFailure_notes (hr : (s.chan ch.val).retireAt = none) :
    (((s.residueFailure ch.val lower d.pilot).withholdDump ch.val lower d true).chan ch.val).residues = sat16 (s.chan ch.val).residues ∧
    (((s.residueFailure ch.val lower d.pilot).withholdDump ch.val lower d true).chan ch.val).selfCheck =
      some ((s.chan ch.val).selfCheck.getD (s.now + ms 1)) ∧
    (((s.residueFailure ch.val lower d.pilot).withholdDump ch.val lower d true).chan ch.val).failing =
      (s.chan ch.val).failing ++ [⟨lower, d.pilot, (s.claim 3).1, s.now⟩] ∧
    (((s.residueFailure ch.val lower d.pilot).withholdDump ch.val lower d true).chan ch.val).retireAt =
      (if 3 ≤ (recent s.now second (s.now :: (s.chan ch.val).recent)).length then some ((s.claim 3).1, s.now) else none) ∧
    ((((s.residueFailure ch.val lower d.pilot).withholdDump ch.val lower d true).chan ch.val).lane lower).residue = true ∧
    ((((s.residueFailure ch.val lower d.pilot).withholdDump ch.val lower d true).chan ch.val).lane lower).prompts =
      ((s.chan ch.val).lane lower).prompts ∧
    ((((s.residueFailure ch.val lower d.pilot).withholdDump ch.val lower d true).chan ch.val).lane lower).doppler =
      ((s.chan ch.val).lane lower).doppler := by
  have hf := State.chan_modChan ((s.claim 3).2.modTrk fun t => { t with residueTotal := sat16 t.residueTotal }) ch fun c =>
    c.faulted lower d.pilot (s.cluster (ch.val / 48)).spares.isEmpty (s.claim 3).1 s.now
  rw [← s.residueFailure_eq ch.val lower d.pilot] at hf
  have hf : ((s.chan ch.val).faulted lower d.pilot (s.cluster (ch.val / 48)).spares.isEmpty (s.claim 3).1 s.now).Dated
      ((s.residueFailure ch.val lower d.pilot).chan ch.val) := hf
  obtain ⟨f1, f2, f3, f4⟩ := (s.chan ch.val).faulted_own lower d.pilot (s.cluster (ch.val / 48)).spares.isEmpty (s.claim 3).1 s.now
  obtain ⟨o1, o2, o3, o4⟩ := (s.residueFailure ch.val lower d.pilot).withholdDump_own ch lower d true
  obtain ⟨l, hl, hp, hdop, -⟩ := (s.residueFailure ch.val lower d.pilot).withholdDump_chan ch lower d
  rw [o1, o2, o3, o4, hl, hf.residues, hf.selfCheck, hf.failing, hf.retireAt]
  rw [hf.lane, Channel.faulted_lane] at hp hdop
  exact ⟨f1, f2, f3, f4 hr, rfl, hp, hdop⟩
end

/-! ## A loop update (05 R181–R187) -/

namespace TrkLane

variable (l : TrkLane) (d : Sums) (sv now : Nat)

/-- Glaze changes the loop's parameters alone. -/
theorem update_eq (target : LoopNow) (index : Nat) : ∃ n t r, l.update target sv index now = { l with now := n, nextT := t, ramp := r } := by
  unfold TrkLane.update
  extract_lets m
  have hm : ∃ n t r, m = { l with now := n, nextT := t, ramp := r } := by
    dsimp only [m]
    split
    · exact ⟨_, _, _, rfl⟩
    · split <;> exact ⟨_, _, _, rfl⟩
  obtain ⟨n, t, r, e⟩ := hm
  rw [e]
  split
  · exact ⟨_, _, _, rfl⟩
  · split <;> exact ⟨_, _, _, rfl⟩

theorem addPrompts_eq (ps : List (Int × Int)) : ∃ p w f, l.addPrompts ps = { l with prompts := p, windows := w, fresh := f } := by
  unfold TrkLane.addPrompts
  dsimp only
  split <;> exact ⟨_, _, _, rfl⟩

/-- What a loop update leaves of the lane. -/
theorem updated_eq : ∃ p w f lp dop c ca dt, l.updated d sv now =
    { l with prompts := p, windows := w, fresh := f, loop := lp, doppler := dop, code := c, carrier := ca, codeDt := dt, sums := d } := by
  unfold TrkLane.updated
  obtain ⟨p, w, f, e⟩ := (l.drive (l.measure d sv (l.index sv now)) sv now).addPrompts_eq d.prompts
  rw [e]
  exact ⟨_, _, _, _, _, _, _, _, rfl⟩

/-- What a transition leaves: the Doppler and the conversion that waits. -/
def Steered (m : TrkLane) : Prop := m.doppler = l.doppler ∧ m.convertTo = l.convertTo

theorem renumber_eq (index k n : Nat) : ∃ c y, l.renumber index k n = { l with code := c, synced := y } := by
  unfold TrkLane.renumber
  split <;> exact ⟨_, _, rfl⟩

/-- PULL_IN past its side-peak check, in phase 2, whose conditions have held: SYNC, where they still hold. -/
theorem stepPullIn_ready (e : LoopIn) (cfg : TrkConfig) {p g : Nat} (hc : l.check = none) (hp : l.phase2 = some p) (hg : l.good = some g)
    (hn : g + ms 100 ≤ now) (hs : l.st = .pullIn) : (l.stepPullIn d e cfg now).st = if l.readyToSync cfg = true then .sync else .pullIn := by
  unfold TrkLane.stepPullIn
  rw [hc]
  dsimp -zeta only
  extract_lets u good v
  have hu : u = l := if_neg (by simp [hp])
  by_cases h : l.readyToSync cfg = true
  · have hgood : good = some g := by
      dsimp only [good]
      rw [hu, hp, h, hg]
      rfl
    have hdue : (some g).any (fun g => decide (now ≥ g + ms 100)) = true := by
      rw [Option.any_some]
      exact decide_eq_true hn
    rw [if_pos h, hgood, if_pos hdue]
    rfl
  · have hgood : good = none := by
      dsimp only [good]
      rw [hu]
      exact if_neg (by simp [h])
    rw [if_neg h, hgood, if_neg (by simp)]
    exact (congrArg TrkLane.st hu).trans hs

theorem stepPullIn_steered (e : LoopIn) (cfg : TrkConfig) : l.Steered (l.stepPullIn d e cfg now) := by
  unfold TrkLane.stepPullIn
  split
  · exact ⟨rfl, rfl⟩
  · extract_lets u good v
    have hu : l.Steered u := by
      dsimp only [u]
      split <;> exact ⟨rfl, rfl⟩
    split <;> exact hu

/-- SYNC goes on to TRACK once synchronisation is complete. -/
theorem stepSync_cases (e : LoopIn) (index : Nat) (predicted : Option Nat) (cfg : TrkConfig) :
    l.Steered (l.stepSync e index predicted cfg sv now) ∧
    (l.stepSync e index predicted cfg sv now).st =
      (if ((l.addSign sv index e.sum).syncFound sv index predicted).isSome = true then .track else l.st) ∧
    (((l.addSign sv index e.sum).syncFound sv index predicted).isSome = true →
      (l.stepSync e index predicted cfg sv now).amb = 1 ∧ (l.stepSync e index predicted cfg sv now).restarts = (l.restarts + 1) % 4) := by
  unfold TrkLane.stepSync
  dsimp only
  cases (l.addSign sv index e.sum).syncFound sv index predicted with
  | none => exact ⟨⟨rfl, rfl⟩, rfl, fun h => nomatch h⟩
  | some x =>
    obtain ⟨k, n⟩ := x
    obtain ⟨c, y, hr⟩ := (l.addSign sv index e.sum).renumber_eq index k n
    dsimp only
    rw [hr]
    exact ⟨⟨rfl, rfl⟩, rfl, fun _ => ⟨rfl, rfl⟩⟩

/-- TRACK goes on, with a restart where the slip detector finds one. -/
theorem stepTrack_cases (e : LoopIn) (index : Nat) (target : LoopNow) (cfg : TrkConfig) :
    l.Steered (l.stepTrack d e index target cfg sv now) ∧ (l.stepTrack d e index target cfg sv now).st = l.st ∧
    (l.stepTrack d e index target cfg sv now).restarts =
      if slipLimit l.signal < e.phase.natAbs ∧ l.slips = true then (l.restarts + 1) % 4 else l.restarts := by
  unfold TrkLane.stepTrack
  extract_lets past u restarted v w
  have hv : l.Steered v ∧ v.st = l.st ∧ v.restarts = if slipLimit l.signal < e.phase.natAbs ∧ l.slips = true then (l.restarts + 1) % 4 else l.restarts := by
    by_cases h : slipLimit l.signal < e.phase.natAbs ∧ l.slips = true
    · have hvv : v = { u.restart now with slips := true } := if_pos (Bool.and_eq_true_iff.2 ⟨decide_eq_true h.1, h.2⟩)
      rw [hvv, if_pos h]
      exact ⟨⟨rfl, rfl⟩, rfl, rfl⟩
    · have hvv : v = { u with slips := past } := if_neg fun g => h ⟨of_decide_eq_true (Bool.and_eq_true_iff.1 g).1, (Bool.and_eq_true_iff.1 g).2⟩
      rw [hvv, if_neg h]
      exact ⟨⟨rfl, rfl⟩, rfl, rfl⟩
  obtain ⟨n, t, r, hu⟩ := v.update_eq sv now target index
  have hw : ∃ b n t r, w = { v with bad := b, now := n, nextT := t, ramp := r } := by
    dsimp only [w]
    rw [hu]
    exact ⟨_, _, _, _, rfl⟩
  obtain ⟨b, n, t, r, hw⟩ := hw
  rw [hw]
  exact hv
end TrkLane

section
variable {s : State} {c : Channel} {lower : Bool} (d : Sums)

/-- What the pair takes of a dump after a lane's step: the arms of the Palette set; no conversion waits. -/
theorem State.takeDump_running (ha : (c.lane lower).st ≠ .absent) (hl : (c.lane lower).st ≠ .lost) :
    ∃ target, ∀ m, m = (c.lane lower).step d ((c.lane lower).measure d c.sv ((c.lane lower).index c.sv s.now)) ((c.lane lower).index c.sv s.now)
        (s.overlayPlace (c.lane lower).signal c.sv) target s.trk.cfg c.sv s.now → m.convertTo = none →
      (s.takeDump c lower d).st = m.st ∧ (s.takeDump c lower d).doppler = m.doppler ∧ (s.takeDump c lower d).amb = m.amb ∧
        (s.takeDump c lower d).restarts = m.restarts := by
  refine ⟨(vget s.trk.loops (signalIndex (c.lane lower).signal)).target (c.lane lower).signal c.sv, fun m hm hn => ?_⟩
  have arms (u : Bool) (p : Int × Int) : ∃ q : TrkLane, (if u then m.addArms d p else m) = q ∧ q.convertTo = m.convertTo ∧ q.st = m.st ∧
      q.doppler = m.doppler ∧ q.amb = m.amb ∧ q.restarts = m.restarts := by
    cases u <;> exact ⟨_, rfl, rfl, rfl, rfl, rfl, rfl⟩
  have hstay (q : TrkLane) (h : q.convertTo = none) (i : Nat) : q.tryConvert c.sv i s.now = q := by
    unfold TrkLane.tryConvert
    rw [h]
  unfold State.takeDump
  dsimp only
  cases hst : (c.lane lower).st with
  | absent => exact absurd hst ha
  | lost => exact absurd hst hl
  | pullIn | sync | track =>
    dsimp only
    rw [← hm]
    obtain ⟨q, e, hq, h⟩ := arms (c.palette && m.st == .track) ((c.lane lower).measure d c.sv ((c.lane lower).index c.sv s.now)).sum
    rw [e, hstay q (hq.trans hn), ite_self]
    exact h

/-- A step is the update and what its state makes of it. -/
theorem TrkLane.step_eq (l : TrkLane) (sv now : Nat) (predicted : Option Nat) (target : LoopNow) (cfg : TrkConfig) :
    l.step d (l.measure d sv (l.index sv now)) (l.index sv now) predicted target cfg sv now =
      match l.st with
      | .pullIn => (l.updated d sv now).stepPullIn d (l.measure d sv (l.index sv now)) cfg now
      | .sync => (l.updated d sv now).stepSync (l.measure d sv (l.index sv now)) (l.index sv now) predicted cfg sv now
      | .track => (l.updated d sv now).stepTrack d (l.measure d sv (l.index sv now)) (l.index sv now) target cfg sv now
      | _ => l.updated d sv now := by
  have hst : (l.updated d sv now).st = l.st := by
    obtain ⟨_, _, _, _, _, _, _, _, e⟩ := l.updated_eq d sv now
    rw [e]
  rw [← hst]
  rfl

/-- A step of a running lane keeps the Doppler of its update, and the conversion that waits. -/
theorem TrkLane.step_steered (l : TrkLane) (sv now : Nat) (predicted : Option Nat) (target : LoopNow) (cfg : TrkConfig) :
    (l.updated d sv now).Steered (l.step d (l.measure d sv (l.index sv now)) (l.index sv now) predicted target cfg sv now) := by
  rw [l.step_eq]
  split
  · exact TrkLane.stepPullIn_steered ..
  · exact (TrkLane.stepSync_cases ..).1
  · exact (TrkLane.stepTrack_cases ..).1
  · exact ⟨rfl, rfl⟩

/-- A lane's update in PULL_IN, SYNC or TRACK. -/
structure State.Updates (s : State) (l m : TrkLane) (d : Sums) (sv : Nat) : Prop where
  doppler : m.doppler = (l.updated d sv s.now).doppler
  pullIn : ∀ p g, l.st = .pullIn → l.check = none → l.phase2 = some p → l.good = some g → g + ms 100 ≤ s.now →
    m.st = if (l.updated d sv s.now).readyToSync s.trk.cfg = true then .sync else .pullIn
  sync : l.st = .sync → m.st = (if (l.syncPlace d sv s).isSome = true then .track else .sync) ∧
    ((l.syncPlace d sv s).isSome = true → m.amb = 1 ∧ m.restarts = (l.restarts + 1) % 4)
  track : l.st = .track → m.st = .track ∧ m.restarts =
    if slipLimit l.signal < (l.measure d sv (l.index sv s.now)).phase.natAbs ∧ l.slips = true then (l.restarts + 1) % 4 else l.restarts

theorem State.takeDump_updates (ha : (c.lane lower).st ≠ .absent) (hl : (c.lane lower).st ≠ .lost) (hc : (c.lane lower).convertTo = none) :
    s.Updates (c.lane lower) (s.takeDump c lower d) d c.sv := by
  obtain ⟨target, h⟩ := State.takeDump_running (s := s) d ha hl
  obtain ⟨hsd, hsc⟩ := (c.lane lower).step_steered d c.sv s.now (s.overlayPlace (c.lane lower).signal c.sv) target s.trk.cfg
  obtain ⟨p, w, f, lp, dop, co, ca, dt, e⟩ := (c.lane lower).updated_eq d c.sv s.now
  obtain ⟨h1, h2, h3, h4⟩ := h _ rfl (hsc.trans (by rw [e]; exact hc))
  rw [(c.lane lower).step_eq] at h1 h2 h3 h4
  refine ⟨?_, fun p g hst hch hp hg hn => ?_, fun hst => ?_, fun hst => ?_⟩
  · rw [(c.lane lower).step_eq] at hsd
    exact h2.trans hsd
  · rw [h1, hst]
    exact TrkLane.stepPullIn_ready _ d s.now _ _ (by rw [e]; exact hch) (by rw [e]; exact hp) (by rw [e]; exact hg) hn (by rw [e]; exact hst)
  · rw [hst] at h1 h3 h4
    obtain ⟨-, k1, k2⟩ := ((c.lane lower).updated d c.sv s.now).stepSync_cases c.sv s.now
      ((c.lane lower).measure d c.sv ((c.lane lower).index c.sv s.now)) ((c.lane lower).index c.sv s.now) (s.overlayPlace (c.lane lower).signal c.sv) s.trk.cfg
    refine ⟨h1.trans (k1.trans ?_), fun hs => ?_⟩
    · rw [show ((c.lane lower).updated d c.sv s.now).st = .sync by rw [e]; exact hst]
      rfl
    · obtain ⟨k3, k4⟩ := k2 hs
      exact ⟨h3.trans k3, h4.trans (k4.trans (by rw [e]))⟩
  · rw [hst] at h1 h4
    obtain ⟨-, k1, k2⟩ := ((c.lane lower).updated d c.sv s.now).stepTrack_cases d c.sv s.now
      ((c.lane lower).measure d c.sv ((c.lane lower).index c.sv s.now)) ((c.lane lower).index c.sv s.now) target s.trk.cfg
    refine ⟨h1.trans (k1.trans (by rw [e]; exact hst)), h4.trans (k2.trans ?_)⟩
    rw [e]

theorem State.takeDump_absent (h : (c.lane lower).st = .absent) :
    (s.takeDump c lower d).st = .pullIn ∧ (s.takeDump c lower d).since = s.now := by
  unfold State.takeDump
  dsimp only
  rw [h]
  exact ⟨rfl, rfl⟩

theorem TrkLane.steer_st (l o : TrkLane) (sv now : Nat) : (l.steer o sv now).st = l.st := by
  unfold TrkLane.steer
  split <;> rfl

theorem TrkLane.steer_doppler {l o : TrkLane} {r p : SignalRow} (sv now : Nat) (hr : signalRow l.signal = some r) (hp : signalRow o.signal = some p) :
    (l.steer o sv now).doppler = rnd (o.doppler * carrierOf r sv) (carrierOf p sv) := by
  unfold TrkLane.steer
  rw [hr, hp]

/-- A LOST lane follows the other lane in TRACK, or coasts. -/
theorem State.takeDump_lost_eq (h : (c.lane lower).st = .lost) : s.takeDump c lower d =
    if (c.lane (!lower)).st = .track then
      { (c.lane lower).addPrompts d.prompts with sums := d }.steer (c.lane (!lower)) c.sv s.now
    else { (c.lane lower).addPrompts d.prompts with sums := d }.coast c.sv s.now := by
  unfold State.takeDump
  dsimp only
  rw [h]
  simp only [beq_iff_eq]

theorem State.takeDump_lost (h : (c.lane lower).st = .lost) : (s.takeDump c lower d).st = .lost ∧
    ((c.lane (!lower)).st ≠ .track → (s.takeDump c lower d).doppler =
      (c.lane lower).loop.freq + (c.lane lower).loop.rate * (c.lane lower).now.t / 1000) ∧
    (∀ r p, (c.lane (!lower)).st = .track → signalRow (c.lane lower).signal = some r → signalRow (c.lane (!lower)).signal = some p →
      (s.takeDump c lower d).doppler = rnd ((c.lane (!lower)).doppler * carrierOf r c.sv) (carrierOf p c.sv)) := by
  obtain ⟨p, w, f, e⟩ := (c.lane lower).addPrompts_eq d.prompts
  rw [State.takeDump_lost_eq d h, e]
  by_cases ht : (c.lane (!lower)).st = .track
  · rw [if_pos ht]
    exact ⟨(TrkLane.steer_st ..).trans h, fun hn => absurd ht hn, fun r p _ hr hp => TrkLane.steer_doppler _ _ hr hp⟩
  · rw [if_neg ht]
    exact ⟨h, fun _ => rfl, fun _ _ hn => absurd hn ht⟩
end

/-! ## The side-peak check and the self-check (05 R175, R191) -/

theorem signalRow_chips {code : Nat} {r : SignalRow} (h : signalRow code = some r) : 0 < r.chips :=
  (by decide : ∀ r ∈ signalTable, 0 < r.chips) r (List.mem_of_find?_eq_some h)

theorem codeSpan_pos {code : Nat} {r : SignalRow} (h : signalRow code = some r) : 0 < codeSpan r := by
  have := signalRow_chips h
  unfold codeSpan codeUnit
  omega

theorem TrkLane.shiftCode_code {l : TrkLane} {r : SignalRow} (h : signalRow l.signal = some r) (z : Int) :
    (l.shiftCode z).code = ((l.code + z * codeUnit) % (codeSpan r : Nat)).toNat := by
  unfold TrkLane.shiftCode
  rw [h]

section
variable {s : State} {ch : Fin 192} {lower : Bool} {l : TrkLane} (hl : (s.chan ch.val).lane lower = l) (hp : s.pairRuns (ch.val / 48) = true)
include hl hp

/-- The move, in half chips of the early arm, that a side-peak check asks for. -/
def TrkLane.sideMove (l : TrkLane) : Int :=
  if dbAbove l.checkSums.1 l.checkSums.2.1 3 1 &&
      (!dbAbove l.checkSums.2.2 l.checkSums.2.1 3 1 || decide (l.checkSums.1 ≥ l.checkSums.2.2)) then 1
  else if dbAbove l.checkSums.2.2 l.checkSums.2.1 3 1 then -1 else 0

/-- The lane once its side-peak check has moved it by `move` half chips of the early arm. -/
def TrkLane.checked (l : TrkLane) (move : Int) (again : Bool) (moves now : Nat) : TrkLane :=
  { l.shiftCode (move * 512) with
    check := if again then some (now, moves + 1) else none, checkSums := (0, 0, 0), since := if again then l.since else now
    now := { l.now with d := if again then l.now.d else pullInSpacing l.signal } }

theorem exec_sidePeakCheckEnd {f m : Nat} (hs : l.st = .pullIn) (hc : l.check = some (f, m)) (hf : f + ms 20 ≤ s.now) :
    exec (.sidePeakCheckEnd ch lower) s =
      .next (s.modLane ch.val lower fun k => k.checked l.sideMove (decide (l.sideMove ≠ 0) && decide (m + 1 < 2)) m s.now) := by
  refine (show exec (.sidePeakCheckEnd ch lower) s = execSidePeakCheckEnd ch lower s from rfl).trans ?_
  unfold execSidePeakCheckEnd
  dsimp only
  rw [hl, hs, hc]
  dsimp only
  rw [hp, if_neg (by simp; omega)]
  rfl

theorem sidePeak_moves {f m e p a : Nat} {r : SignalRow} (hs : l.st = .pullIn) (hc : l.check = some (f, m)) (hf : f + ms 20 ≤ s.now)
    (hsum : l.checkSums = (e, p, a)) (hr : signalRow l.signal = some r) : ∃ t, exec (.sidePeakCheckEnd ch lower) s = .next t ∧
      (dbAbove e p 3 1 = false → dbAbove a p 3 1 = false → ((t.chan ch.val).lane lower).check = none ∧
        ((t.chan ch.val).lane lower).code = l.code % codeSpan r ∧ ((t.chan ch.val).lane lower).since = s.now) ∧
      (dbAbove e p 3 1 = true → dbAbove a p 3 1 = false → ((t.chan ch.val).lane lower).code = (l.code + 512 * codeUnit) % codeSpan r ∧
        ((t.chan ch.val).lane lower).check = if m = 0 then some (s.now, 1) else none) ∧
      (dbAbove e p 3 1 = false → dbAbove a p 3 1 = true →
        (((t.chan ch.val).lane lower).code : Int) = ((l.code : Int) - 512 * codeUnit) % (codeSpan r : Int)) := by
  refine ⟨_, exec_sidePeakCheckEnd hl hp hs hc hf, ?_⟩
  rw [State.lane_modLane, hl]
  have hcode (move : Int) (again : Bool) : (l.checked move again m s.now).code = ((l.code + move * 512 * codeUnit) % (codeSpan r : Nat)).toNat :=
    TrkLane.shiftCode_code hr _
  have hmove : l.sideMove = if (dbAbove e p 3 1 && (!dbAbove a p 3 1 || decide (e ≥ a))) = true then 1 else if dbAbove a p 3 1 = true then -1 else 0 := by
    unfold TrkLane.sideMove
    rw [hsum]
  refine ⟨fun he ha => ?_, fun he ha => ?_, fun he ha => ?_⟩
  · have h0 : l.sideMove = 0 := by rw [hmove, he, ha]; rfl
    rw [h0, hcode]
    refine ⟨rfl, ?_, rfl⟩
    rw [Int.zero_mul, Int.zero_mul, Int.add_zero, ← Int.natCast_mod, Int.toNat_natCast]
  · have h1 : l.sideMove = 1 := by rw [hmove, he, ha]; rfl
    rw [h1, hcode]
    refine ⟨?_, ?_⟩
    · rw [Int.one_mul, show ((l.code : Int) + 512 * (codeUnit : Nat)) = ((l.code + 512 * codeUnit : Nat) : Int) by push_cast; rfl, ← Int.natCast_mod,
        Int.toNat_natCast]
    · by_cases hm : m = 0
      · subst hm
        rfl
      · rw [if_neg hm]
        exact if_neg (by simp; omega)
  · have h1 : l.sideMove = -1 := by rw [hmove, he, ha]; rfl
    rw [h1, hcode, Int.toNat_of_nonneg (Int.emod_nonneg _ (by have := codeSpan_pos hr; omega))]
    congr 1
end

theorem TrkLane.revert_fields {l : TrkLane} {r : SignalRow} (sv now : Nat) (h : signalRow l.signal = some r) :
    (l.revert sv now).converted = false ∧ (l.revert sv now).signal = r.anchor ∧ (l.revert sv now).doppler = l.anchorDoppler := by
  unfold TrkLane.revert
  rw [h]
  exact ⟨rfl, rfl, rfl⟩

section
variable {s : State} {ch : Fin 192} {c : Channel} (hc : s.chan ch.val = c) (hp : s.pairRuns (ch.val / 48) = true)
include hc hp

theorem selfCheck_completes {d : Nat} (pass : Bool) (hd : c.selfCheck = some d) (hn : d ≤ s.now) : ∃ t, exec (.selfCheckComplete ch pass) s = .next t ∧
    (t.chan ch.val).selfCheck = none ∧ (t.chan ch.val).failing = [] ∧ (t.chan ch.val).retireAt.isSome = (c.retireAt.isSome || !pass) := by
  have he : exec (.selfCheckComplete ch pass) s = execSelfCheckComplete ch pass s := rfl
  unfold execSelfCheckComplete at he
  rw [hc, hd] at he
  dsimp -zeta only at he
  rw [hp, if_neg (by simp; omega)] at he
  extract_lets u r due v at he
  have hu : s.Reports u := s.reports_foldl (fun w n => w.reports_domeRecord ..) _
  have hchan : v.chan ch.val = c := by
    have hv : v.trk = s.trk := by
      dsimp only [v]
      split
      · exact hu.trk
      · exact hu.trk
    unfold State.chan
    rw [hv]
    exact hc
  have hdue : due = (!pass && c.retireAt.isNone) := by
    dsimp only [due]
    unfold State.chan at hc ⊢
    rw [hu.trk, hc]
  have h := v.chan_modChan ch fun k => { k with selfCheck := none, failing := [], retireAt := if due then some (r.1, v.now) else k.retireAt }
  refine ⟨_, he, h.selfCheck, h.failing, ?_⟩
  rw [h.retireAt, hchan, hdue]
  cases pass <;> cases c.retireAt <;> rfl

/-! ## Time limits (05 R185, R186, R198) -/

theorem exec_pullInTimeout {lower : Bool} (hs : (c.lane lower).st = .pullIn) (hk : (c.lane lower).check = none)
    (ht : (c.lane lower).since + ms s.trk.cfg.pullIn ≤ s.now) : exec (.pullInTimeout ch lower) s =
      if (c.lane lower).converted = true then .next (s.modChan ch.val fun c => { c.modLane lower (·.revert c.sv s.now) with noConvert := true })
      else if c.tracked = true then .next (s.modLane ch.val lower (·.enterLost s.now))
      else if c.state = 2 then .next ((s.modTrk fun t => { t with pullInFails := sat16 t.pullInFails }).goIdle ch.val)
      else .next (s.modLane ch.val lower (·.enterLost s.now)) := by
  refine (show exec (.pullInTimeout ch lower) s = execPullInTimeout ch lower s from rfl).trans ?_
  unfold execPullInTimeout
  dsimp only
  rw [hc, if_neg (by simp [hs, hk, hp]; omega)]

theorem pullInTimeout_ends {lower : Bool} (hs : (c.lane lower).st = .pullIn) (hk : (c.lane lower).check = none)
    (ht : (c.lane lower).since + ms s.trk.cfg.pullIn ≤ s.now) : ∃ t, exec (.pullInTimeout ch lower) s = .next t ∧
      (∀ r, (c.lane lower).converted = true → signalRow (c.lane lower).signal = some r → (t.chan ch.val).noConvert = true ∧
        ((t.chan ch.val).lane lower).converted = false ∧ ((t.chan ch.val).lane lower).signal = r.anchor ∧
        ((t.chan ch.val).lane lower).doppler = (c.lane lower).anchorDoppler) ∧
      ((c.lane lower).converted = false → c.tracked = true ∨ c.state ≠ 2 → ((t.chan ch.val).lane lower).st = .lost) ∧
      ((c.lane lower).converted = false → c.tracked = false → c.state = 2 →
        (t.chan ch.val).state = 0 ∧ t.trk.pullInFails = sat16 s.trk.pullInFails) := by
  rw [exec_pullInTimeout hc hp hs hk ht]
  by_cases hv : (c.lane lower).converted = true
  · rw [if_pos hv]
    refine ⟨_, rfl, fun r _ hr => ?_, fun hn => absurd hv (by simp [hn]), fun hn => absurd hv (by simp [hn])⟩
    have h := s.chan_modChan ch fun c => { c.modLane lower (·.revert c.sv s.now) with noConvert := true }
    refine ⟨h.noConvert, ?_⟩
    rw [h.lane, hc]
    have hlane : Channel.lane { c.modLane lower (·.revert c.sv s.now) with noConvert := true } lower = (c.lane lower).revert c.sv s.now := by
      cases lower <;> rfl
    rw [hlane]
    exact TrkLane.revert_fields c.sv s.now hr
  · rw [if_neg hv]
    by_cases htr : c.tracked = true
    · rw [if_pos htr]
      refine ⟨_, rfl, fun _ h => absurd h hv, fun _ _ => ?_, fun _ hn => absurd htr (by simp [hn])⟩
      rw [s.lane_modLane]
      rfl
    · rw [if_neg htr]
      by_cases h2 : c.state = 2
      · rw [if_pos h2]
        refine ⟨_, rfl, fun _ h => absurd h hv, fun _ h => absurd h (by simp [htr, h2]), fun _ _ _ => ⟨State.goIdle_state _ ch, ?_⟩⟩
        rw [State.goIdle_pullInFails]
        rfl
      · rw [if_neg h2]
        refine ⟨_, rfl, fun _ h => absurd h hv, fun _ _ => ?_, fun _ _ hn => absurd hn h2⟩
        rw [s.lane_modLane]
        rfl

theorem exec_syncTimeout {lower : Bool} (hs : (c.lane lower).st = .sync) (hv : (c.lane lower).converted = false)
    (ht : (c.lane lower).since + ms s.trk.cfg.sync ≤ s.now) :
    exec (.syncTimeout ch lower) s = .next (s.modLane ch.val lower (·.enterLost s.now)) := by
  refine (show exec (.syncTimeout ch lower) s = execSyncTimeout ch lower s from rfl).trans ?_
  unfold execSyncTimeout
  dsimp only
  rw [hc, if_neg (by simp [hs, hp]; omega), hv]
  rfl

theorem exec_lossTimeExpiry {lower : Bool} {b : Nat} (hs : (c.lane lower).st = .sync ∨ (c.lane lower).st = .track)
    (hb : (c.lane lower).bad = some b) (ht : b + ms s.trk.cfg.loss ≤ s.now) :
    exec (.lossTimeExpiry ch lower) s = .next (s.modLane ch.val lower (·.enterLost s.now)) := by
  refine (show exec (.lossTimeExpiry ch lower) s = execLossTimeExpiry ch lower s from rfl).trans ?_
  unfold execLossTimeExpiry
  dsimp only
  rw [hc, hb]
  obtain hs | hs := hs
  all_goals
    rw [hs]
    exact if_pos (by rw [hp, Bool.true_and]; exact decide_eq_true ht)

omit hp in
theorem lostCoast_expires {f : Nat} (hs : c.state = 5) (hf : c.lostFrom = some f) (ht : f + ms s.trk.cfg.coast ≤ s.now) :
    ∃ t, exec (.lostCoastExpiry ch) s = .next t ∧
      (s.trk.cfg.reacq = false → (t.chan ch.val).state = 0) ∧
      (s.trk.cfg.reacq = true → (t.chan ch.val).reacqFrom = some s.now ∧
        ((signalRow (c.lane c.leadLower).signal).isSome = true → ∃ j ∈ t.easel.jobs, j.kind = .reacq ch.val)) := by
  have he : exec (.lostCoastExpiry ch) s = execLostCoastExpiry ch s := rfl
  unfold execLostCoastExpiry at he
  rw [hc] at he
  extract_lets c' u l at he
  split at he
  case h_2 hno => exact absurd hf (hno f hs)
  next g _ hg =>
  obtain rfl : f = g := Option.some.inj (hf.symm.trans hg)
  rw [if_neg (by omega)] at he
  have hu : (u.chan ch.val).reacqFrom = some s.now := s.chan_reacquiring ch hc (Channel.allLost_of_state hs.ge).2.2 (by rw [hf]; rfl)
  by_cases hr : s.trk.cfg.reacq = true
  · rw [if_pos hr] at he
    refine ⟨_, he, fun hn => absurd hr (by simp [hn]), fun _ => ⟨?_, fun hrow => ?_⟩⟩
    · unfold State.chan
      rw [u.requestReacq_trk]
      exact hu
    · exact u.requestReacq_job _ _ _ _ _ _ _ hrow
  · rw [if_neg hr] at he
    exact ⟨_, he, fun _ => s.goIdle_state ch, fun hn => absurd hn hr⟩

/-- A lane in LOST whose prediction carries its satellite again goes back to PULL_IN. -/
theorem lostLane_checks {lower : Bool} (hs : (c.lane lower).st = .lost) (ht : (c.lane lower).checkedAt + ms 20 ≤ s.now) :
    ∃ t, exec (.lostLaneCheck ch lower) s = .next t ∧ ((t.chan ch.val).lane lower).st =
        if 100 ≤ (c.lane lower).prompts.length * primaryPeriod (c.lane lower).signal ∧
            cn0AtLeast (some (cn0Window (c.lane lower).prompts (primaryPeriod (c.lane lower).signal))) (s.trk.cfg.lossMin + 3) = true
          then .pullIn else .lost := by
  have he : exec (.lostLaneCheck ch lower) s = execLostLaneCheck ch lower () s := rfl
  unfold execLostLaneCheck at he
  rw [hc] at he
  extract_lets l u at he
  rw [if_neg (by simp [l, hs, hp]; omega)] at he
  by_cases h : 100 ≤ l.prompts.length * primaryPeriod l.signal ∧
      cn0AtLeast (some (cn0Window l.prompts (primaryPeriod l.signal))) (s.trk.cfg.lossMin + 3) = true
  · rw [if_pos (by simpa using h)] at he
    refine ⟨_, he, ?_⟩
    rw [u.lane_modLane, if_pos h]
    rfl
  · rw [if_neg (by simpa using h)] at he
    refine ⟨_, he, ?_⟩
    rw [s.lane_modLane, if_neg h, hc]
    exact hs

theorem lostLane_reenters {lower : Bool} {r p : SignalRow} (hs : (c.lane lower).st = .lost) (ho : (c.lane (!lower)).st = .track)
    (ht : (c.lane lower).reentry + 10 * second ≤ s.now) (hr : signalRow (c.lane lower).signal = some r)
    (hrp : signalRow (c.lane (!lower)).signal = some p) : ∃ t, exec (.lostLaneReentry ch lower) s = .next t ∧
        ((t.chan ch.val).lane lower).st = .pullIn ∧ ((t.chan ch.val).lane lower).doppler =
          rnd ((c.lane (!lower)).doppler * carrierOf r c.sv) (carrierOf p c.sv) := by
  have he : exec (.lostLaneReentry ch lower) s = execLostLaneReentry ch lower s := rfl
  unfold execLostLaneReentry at he
  rw [hc] at he
  extract_lets c' l o at he
  rw [if_neg (by simp [l, o, c', hs, ho, hp]; omega)] at he
  refine ⟨_, he, ?_⟩
  rw [s.lane_modLane, hc]
  exact ⟨rfl, TrkLane.steer_doppler c.sv s.now hr hrp⟩

/-! ## The multipath fit (05 R177, R178) -/

omit hc hp in
/-- Every model that the constraints allow has at most two reflections within R177's bounds. -/
theorem allowedFits_ok (n : Nat) (l : List PathFit) : ∀ f ∈ allowedFits n l, f.reflections.length ≤ 2 ∧
    ∀ r ∈ f.reflections, 4 ≤ r.1 ∧ r.1 ≤ 192 ∧ r.2.natAbs * 100 ≤ 95 * 128 := by
  induction l generalizing n with
  | nil => exact fun f hf => nomatch hf
  | cons g l ih =>
    intro f hf
    unfold allowedFits at hf
    split at hf
    · next h =>
      obtain rfl | hf := List.mem_cons.1 hf
      · unfold fitOk at h
        simp only [Bool.and_eq_true, decide_eq_true_eq, List.all_eq_true] at h
        obtain ⟨hn, hlen, hall⟩ := h
        exact ⟨by omega, fun r hr => by obtain ⟨⟨h1, h2⟩, h3⟩ := hall r hr; exact ⟨h1, h2, h3⟩⟩
      · exact ih _ f hf
    · exact nomatch hf

omit hc hp in
theorem chooseFit_mem {fits : List PathFit} {accept : Nat} {cn0 : Option (Nat × Nat)} {f : PathFit} (h : chooseFit fits accept cn0 = some f) : f ∈ fits := by
  unfold chooseFit at h
  match fits, h with
  | [a], h => cases h; exact List.mem_cons_self
  | a :: b :: r, h =>
    dsimp only at h
    split at h
    · cases h; exact List.mem_cons_self
    · match r, h with
      | [], h => cases h; simp
      | c :: r, h =>
        dsimp only at h
        split at h <;> · cases h; simp

/-- The lane after its multipath fit. -/
def TrkLane.fitTaken (l : TrkLane) (fit : Option PathFit) (now : Nat) : TrkLane :=
  match fit with
  | none => { l with mp := [], mpCount := 0, mpFrom := now }
  | some f => { l with mp := [], mpCount := 0, mpFrom := now, los := f.los, reflections := f.reflections, residual := min 255 f.residual }

theorem multipath_fits {lower : Bool} (hs : (c.lane lower).st = .track) (hpal : c.palette = true) (hm : (c.lane lower).mpCount ≠ 0)
    (ht : (c.lane lower).mpFrom + ms s.trk.palette.avg ≤ s.now) : ∃ t,
      exec (.multipathFit ch lower) s = .next t ∧ ((t.chan ch.val).lane lower).mpCount = 0 ∧ t.trk.epochs.mpDue = true ∧
        ((t.chan ch.val).lane lower).los = (match (c.lane lower).fitted s with | none => (c.lane lower).los | some f => f.los) ∧
        (((t.chan ch.val).lane lower).reflections = (c.lane lower).reflections ∨ ((t.chan ch.val).lane lower).reflections.length ≤ 2 ∧
          ∀ r ∈ ((t.chan ch.val).lane lower).reflections, 4 ≤ r.1 ∧ r.1 ≤ 192 ∧ r.2.natAbs * 100 ≤ 95 * 128) := by
  have he : exec (.multipathFit ch lower) s = execMultipathFit ch lower () s := rfl
  unfold execMultipathFit at he
  rw [hc] at he
  extract_lets c' l fits u v at he
  rw [if_neg (by simp [l, c', hs, hpal, hp, hm]; omega)] at he
  have hlane : ((u.chan ch.val).lane lower) = (c.lane lower).fitTaken ((c.lane lower).fitted s) s.now := by
    refine (s.lane_modLane ch lower _).trans ?_
    rw [hc]
    unfold TrkLane.fitTaken
    have hfit : (c.lane lower).fitted s = chooseFit fits s.trk.palette.accept (c.lane lower).windows.head? := rfl
    rewrite [hfit]
    dsimp only <;> cases chooseFit fits s.trk.palette.accept (c.lane lower).windows.head? <;> rfl
  refine ⟨_, he, ?_⟩
  have hgoal : ((c.lane lower).fitTaken ((c.lane lower).fitted s) s.now).mpCount = 0 ∧
      ((c.lane lower).fitTaken ((c.lane lower).fitted s) s.now).los = (match (c.lane lower).fitted s with | none => (c.lane lower).los | some f => f.los) ∧
      (((c.lane lower).fitTaken ((c.lane lower).fitted s) s.now).reflections = (c.lane lower).reflections ∨
        ((c.lane lower).fitTaken ((c.lane lower).fitted s) s.now).reflections.length ≤ 2 ∧
          ∀ r ∈ ((c.lane lower).fitTaken ((c.lane lower).fitted s) s.now).reflections, 4 ≤ r.1 ∧ r.1 ≤ 192 ∧ r.2.natAbs * 100 ≤ 95 * 128) := by
    cases hfit : (c.lane lower).fitted s with
    | none => exact ⟨rfl, rfl, .inl rfl⟩
    | some f => exact ⟨rfl, rfl, .inr (allowedFits_ok 0 _ f (chooseFit_mem hfit))⟩
  rw [← hlane] at hgoal
  obtain ⟨h1, h2, h3⟩ := hgoal
  exact ⟨h1, rfl, h2, h3⟩

/-! ## The time limit of REACQ (05 R198) -/

omit hc hp in
/-- The end of the tick takes a channel in REACQ that expires back to IDLE. -/
theorem State.expireReacq_state (u : State) (he : (u.chan ch.val).expiring = true) (h6 : (u.chan ch.val).state = 6) :
    (u.expireReacq.chan ch.val).state = 0 := by
  have other {k : Nat} (hk : k ≠ ch.val) (v : State) :
      (if ((v.chan k).expiring && (v.chan k).state == 6) = true then v.goIdle k else v).chan ch.val = v.chan ch.val := by
    split
    · exact v.goIdle_other k hk.symm
    · rfl
  unfold State.expireReacq
  refine forUpto_turn (V := fun v : State => (v.chan ch.val).expiring = true ∧ (v.chan ch.val).state = 6) (W := fun v : State => (v.chan ch.val).state = 0)
    ch.isLt ⟨he, h6⟩ (fun k hk v hv => ?_) (fun v hv => ?_) (fun k hk v hv => ?_)
  · rw [other hk v]
    exact hv
  · rw [if_pos (by rw [hv.1, hv.2]; rfl)]
    exact v.goIdle_state ch
  · rw [other hk v]
    exact hv

omit hp in
theorem reacq_times_out {d : Nat} (hs : c.state = 6) (hd : c.reacqFrom = some d)
    (ht : d + s.trk.cfg.reacqTime * second ≤ s.now ∨ c.elevation < s.trk.cfg.elev) : ∃ t, exec (.reacqTimeout ch) s = .next t ∧
      (t.chan ch.val).state = 6 ∧ (t.chan ch.val).expiring = true ∧ (t.expireReacq.chan ch.val).state = 0 := by
  have he : exec (.reacqTimeout ch) s = execReacqTimeout ch s := rfl
  unfold execReacqTimeout at he
  rw [hc] at he
  extract_lets c' at he
  split at he
  case h_2 hno => exact absurd hd (hno d hs)
  next g _ hg =>
  obtain rfl : d = g := Option.some.inj (hd.symm.trans hg)
  rw [if_pos (by rw [Bool.or_eq_true]; exact ht.imp decide_eq_true decide_eq_true)] at he
  have hchan (u : State) (hu : u = s.modTrk fun t => { t with channels := vmod t.channels ch.val fun c => { c with expiring := true } }) :
      u.chan ch.val = { c with expiring := true } := by
    subst hu hc
    exact vget_vmod_same _ _ ch.isLt
  refine ⟨_, he, ?_, ?_, State.expireReacq_state _ ?_ ?_⟩ <;> rw [hchan _ rfl]
  · exact hs
  · exact hs
end

/-- Settles O43, event by event. -/
theorem channelEvents : Obligations.ChannelEvents := by
  unfold Obligations.ChannelEvents
  rintro s ch lower c l rfl rfl hruns
  refine ⟨fun d ha ho hcl hsig hopen => ?_, fun f m e p a r hs hchk hf hsum hr => sidePeak_moves rfl hruns hs hchk hf hsum hr,
    fun d pass => selfCheck_completes rfl hruns pass, pullInTimeout_ends rfl hruns, exec_syncTimeout rfl hruns,
    fun b => exec_lossTimeExpiry rfl hruns, fun f => lostCoast_expires rfl, fun d => reacq_times_out rfl,
    lostLane_checks rfl hruns, fun r p hs ho ht => lostLane_reenters rfl hruns hs ho ht, multipath_fits rfl hruns⟩
  have he := exec_accumulationDump ch lower d ⟨hruns, ha, ho, hcl, hsig, hopen⟩
  refine ⟨fun hrel => ?_, fun hrel hret => ?_, fun hrel hret hst hres => ?_, fun hrel hret hw hst hres => ?_, fun hrel hret hw hst => ?_,
    fun hrel hret hw hst hconv hres hlen => ?_⟩
  · exact he.trans (if_pos hrel)
  · rw [if_neg (by simp [hrel]), if_pos hret] at he
    exact he
  all_goals rw [if_neg (by simp [hrel]), if_neg (by simp [hret])] at he
  · rw [if_pos (by simp [hst, hres])] at he
    exact ⟨_, he, residueFailure_notes ch lower d hret⟩
  · rw [if_neg (by simp [hres]), if_pos hw] at he
    obtain ⟨m, hm, hp, -, h⟩ := s.withholdDump_chan ch lower d
    exact ⟨_, he, by rw [hm], by rw [hm, ← hp], by rw [hm, ← h]⟩
  · rw [if_neg (by simp [hst]), if_neg (by simp [hw]), if_neg (by simp [hst])] at he
    refine ⟨_, he, ?_⟩
    rw [s.lane_modLane]
    exact State.takeDump_absent d hst
  · rw [if_neg (by simp [hres]), if_neg (by simp [hw]), if_neg (by simp [hlen])] at he
    refine ⟨_, he, ?_⟩
    rw [s.lane_modLane]
    by_cases hl : ((s.chan ch.val).lane lower).st = .lost
    · refine ⟨fun hn => absurd hl hn, ?_, ?_, ?_, fun _ => State.takeDump_lost d hl⟩ <;> simp [hl]
    · have h := State.takeDump_updates (s := s) d hst hl hconv
      exact ⟨fun _ => h.doppler, h.pullIn, h.sync, h.track, fun hn => absurd hn hl⟩
end Sys2Proof.Machine

/-! # Loop pairs: checkpoints, mismatches, restarts (O44) -/

namespace Sys2Proof.Machine

/-! ## Domains that stay off -/

/-- What the pairs count and what the supervisor pair awaits. -/
def Tracking.pairs (t : Tracking) : Nat × Option Nat × Bool := (t.lockstep, t.supRestart, t.supFrozen)

/-- The cores stand, nothing happens to the pairs, and no domain comes on. -/
structure State.StaysOff (s t : State) : Prop where
  cores : t.cores = s.cores
  boot : t.boot = s.boot
  pairs : t.trk.pairs = s.trk.pairs
  off : ∀ d, s.poweredOn d = false → t.poweredOn d = false

namespace State.StaysOff

theorem refl (s : State) : s.StaysOff s := ⟨rfl, rfl, rfl, fun _ h => h⟩

theorem trans {s t u : State} (h : s.StaysOff t) (k : t.StaysOff u) : s.StaysOff u :=
  ⟨k.cores.trans h.cores, k.boot.trans h.boot, k.pairs.trans h.pairs, fun d hd => k.off d (h.off d hd)⟩

theorem of_pwr {s t : State} (hc : t.cores = s.cores) (hb : t.boot = s.boot) (hl : t.trk.pairs = s.trk.pairs)
    (h : t.pwr = s.pwr) : s.StaysOff t :=
  ⟨hc, hb, hl, fun d hd => by unfold State.poweredOn at *; rw [h]; exact hd⟩

theorem of_reports {s t : State} (h : s.Reports t) : s.StaysOff t := of_pwr h.cores h.boot (congrArg Tracking.pairs h.trk) h.pwr

theorem of_sealOnly {s t : State} (h : s.SealOnly t) : s.StaysOff t := by
  unfold State.SealOnly at h
  rw [h]
  exact of_pwr rfl rfl rfl rfl

theorem lockstep {s t : State} (h : s.StaysOff t) : t.trk.lockstep = s.trk.lockstep := congrArg (·.1) h.pairs
theorem supRestart {s t : State} (h : s.StaysOff t) : t.trk.supRestart = s.trk.supRestart := congrArg (·.2.1) h.pairs
theorem supFrozen {s t : State} (h : s.StaysOff t) : t.trk.supFrozen = s.trk.supFrozen := congrArg (·.2.2) h.pairs

theorem foldl {α : Type} {f : State → α → State} (h : ∀ u a, State.StaysOff u (f u a)) (l : List α) (s : State) : s.StaysOff (l.foldl f s) :=
  foldl_related refl trans h l s
end State.StaysOff

section
variable (s : State)
open State.StaysOff (of_pwr of_reports)

theorem State.syncPort_pwr (powered : Bool) (d p : Nat) : (s.syncPort powered d p).pwr = s.pwr := by
  have habort : (s.abortPortJobs p d).pwr = s.pwr := by
    unfold State.abortPortJobs
    extract_lets q u v w gone x
    have replies {α : Type} (f : α → Nat) (l : List α) (y : State) : (l.foldl (fun y a => y.finalReply (f a) .aborted d []) y).pwr = y.pwr :=
      (State.reports_foldl y (fun y a => y.reports_finalReply (f a) .aborted d []) l).pwr
    have hv : v.pwr = u.pwr := by
      dsimp only [v]
      split
      · rfl
      · exact (u.reports_finalReply ..).pwr
    exact (replies _ gone x).trans (hv.trans (replies _ q.hists s))
  unfold State.syncPort
  extract_lets q u
  split
  · split
    · rfl
    · split <;> rfl
  · split
    · rfl
    · exact habort

theorem State.staysOff_powerDownIdle : s.StaysOff s.powerDownIdle := by
  have off (u : State) (b : Bool) (k : Nat) : u.StaysOff (if b then u.modPwr fun p => { p with domains := p.domains &&& ~~~domainBit k } else u) := by
    split
    · refine ⟨rfl, rfl, rfl, fun d hd => ?_⟩
      unfold State.poweredOn State.modPwr at *
      rw [bne_eq_false_iff_eq] at *
      dsimp only
      rw [BitVec.and_assoc, BitVec.and_comm (~~~domainBit k), ← BitVec.and_assoc, hd]
      exact BitVec.zero_and
    · exact .refl u
  have sync (u : State) : u.StaysOff (u.syncPorts false 6) := by
    have h := u.powers_syncPorts false 6
    refine of_pwr ?_ h.boot (congrArg Tracking.pairs h.trk) (foldl_keep State.pwr (fun u p => u.syncPort_pwr false 6 p) _ u)
    unfold State.Powers at h
    rw [h]
  unfold State.powerDownIdle
  extract_lets e busy taking off' u v live w
  split
  · exact (((off s _ 3).trans (off u _ 4)).trans (off v _ 9)).trans (sync w)
  · split
    · exact off s _ 3
    · exact .refl s

theorem State.staysOff_modChan (ch : Nat) (f : Channel → Channel) : s.StaysOff (s.modChan ch f) := of_pwr rfl rfl rfl rfl

theorem State.staysOff_goIdle (ch : Nat) : s.StaysOff (s.goIdle ch) := by
  unfold State.goIdle
  extract_lets u
  refine .trans ?_ (u.staysOff_modChan ch _)
  dsimp only [u]
  split
  · unfold State.withdrawReacq
    split
    · exact .refl s
    · next j _ =>
      refine .trans ?_ (State.staysOff_powerDownIdle _)
      have h := s.easelOnly_dropJob j.id
      exact of_pwr (by rw [h]) (by rw [h]) (by rw [h]) (by rw [h])
  · exact .refl s

theorem State.staysOff_carry (ch dest : Nat) : s.StaysOff (s.carry ch dest) :=
  (s.staysOff_modChan dest _).trans (State.staysOff_goIdle _ ch)

theorem State.staysOff_audit (ty : Nat) (row : Option Nat) (cause dt : Nat) (co st : Bool) (d : List Byte) :
    s.StaysOff (s.audit ty row cause dt co st d) := .of_sealOnly (s.sealOnly_audit ty row cause dt co st d)

theorem State.staysOff_retire (ch : Nat) : s.StaysOff (s.retire ch) := by
  have away (u : State) (c : Option Nat) : u.StaysOff (match c with | some dest => u.carry ch dest | none => u.goIdle ch) := by
    cases c
    · exact u.staysOff_goIdle ch
    · exact u.staysOff_carry ch _
  unfold State.retire
  generalize (s.chan ch).retireAt.getD (48, s.now) = r
  obtain ⟨cause, dt⟩ := r
  extract_lets c k old next u v left detail w x y
  have hu : s.StaysOff u := of_reports (s.reports_foldl (fun u n => u.reports_domeRecord ..) _)
  have hv : u.StaysOff v := of_pwr rfl rfl rfl rfl
  clear_value next
  have hw : v.StaysOff x := by
    dsimp only [x]
    cases next
    case some => exact v.staysOff_modChan ch _
    case none =>
      refine (v.staysOff_modChan ch _ : v.StaysOff w).trans ?_
      dsimp -zeta only
      split
      · exact away w _
      · exact w.staysOff_goIdle ch
  exact (((hu.trans hv).trans hw).trans ((of_pwr rfl rfl rfl rfl : x.StaysOff y).trans (of_reports (y.reports_domeRecord ..)))).trans (State.staysOff_audit ..)

theorem State.staysOff_carryAll (lost : List Nat) : s.StaysOff (s.carryAll lost).1 := by
  unfold State.carryAll
  extract_lets due u mine trk r
  have hu : s.StaysOff u := .foldl (fun u ch => u.staysOff_retire ch) _ s
  have hr : u.StaysOff r.1 := by
    refine foldl_related (R := fun a b : State × Nat × Nat => a.1.StaysOff b.1) (fun a => .refl a.1) (fun h k => h.trans k) (fun a ch => ?_) trk (u, 0, 0)
    split
    · exact a.1.staysOff_carry ch _
    · exact a.1.staysOff_goIdle ch
  exact (hu.trans hr).trans (foldl_related (R := fun a b : State × Nat × Nat => a.1.StaysOff b.1) (fun a => .refl a.1) (fun h k => h.trans k)
    (fun a ch => a.1.staysOff_goIdle ch) _ r)

/-- What a run loses with a cluster: its channels there. -/
theorem State.loseRunCluster_clusters (c : Nat) : (s.loseRunCluster c).trk.clusters = s.trk.clusters ∧ (s.loseRunCluster c).trk.lockstep = s.trk.lockstep := by
  unfold State.loseRunCluster
  split
  · exact ⟨rfl, rfl⟩
  · exact ⟨foldl_keep (fun u : State => u.trk.clusters) (f := State.unclaim) (fun u ch => rfl) _ _, foldl_keep (fun u : State => u.trk.lockstep) (f := State.unclaim) (fun u ch => rfl) _ _⟩

theorem State.staysOff_unclaim (ch : Nat) : s.StaysOff (s.unclaim ch) := s.staysOff_modChan ch _

theorem State.staysOff_loseRunCluster (c : Nat) : s.StaysOff (s.loseRunCluster c) := by
  unfold State.loseRunCluster
  split
  · exact .refl s
  · extract_lets mine u
    exact (of_pwr rfl rfl rfl rfl : s.StaysOff u).trans (.foldl (fun u ch => u.staysOff_unclaim ch) mine u)

/-- A failed cluster's bit is set, and its domain is off. -/
theorem State.failCluster_off (c cause : Nat) : (s.failCluster c cause).cores = s.cores ∧
    (s.failCluster c cause).trk.lockstep = s.trk.lockstep ∧
    (s.failCluster c cause).boot.clustersFailed = s.boot.clustersFailed ||| BitVec.ofNat 4 (2 ^ c) ∧ (s.failCluster c cause).poweredOn (5 + c) = false := by
  unfold State.failCluster
  extract_lets u v w x
  have hu : s.StaysOff u := s.staysOff_audit ..
  have hr := x.staysOff_carryAll [c]
  generalize x.carryAll [c] = r at hr ⊢
  obtain ⟨y, carried, dropped⟩ := r
  have hx : w.StaysOff (y.domeRecord 11 cause 0x23 y.now (le 1 c ++ le 1 carried ++ le 1 dropped ++ zeros 5)) :=
    ((w.staysOff_loseRunCluster c).trans hr).trans (of_reports (y.reports_domeRecord ..))
  have hw : w.poweredOn (5 + c) = false := by
    unfold State.poweredOn
    rw [bne_eq_false_iff_eq]
    dsimp only [w, State.modPwr]
    ext i
    simp
  exact ⟨hx.cores.trans hu.cores, hx.lockstep.trans hu.lockstep, (congrArg Boot.clustersFailed hx.boot).trans (congrArg (fun b : Boot => b.clustersFailed ||| _) hu.boot), hx.off _ hw⟩
end

/-! ## The checkpoint (05 R193) -/

section
variable (s : State)

theorem State.cluster_modCluster_same {k : Nat} (f : Cluster → Cluster) (hk : k < 4) : (s.modCluster k f).cluster k = f (s.cluster k) :=
  vget_vmod_same _ f hk

theorem State.cluster_modCluster_other {c k : Nat} (f : Cluster → Cluster) (h : k ≠ c) : (s.modCluster c f).cluster k = s.cluster k :=
  vget_vmod_other _ f h

theorem State.cluster_setChannels (g : Vector Channel 192 → Vector Channel 192) (k : Nat) :
    (s.modTrk fun t => { t with channels := g t.channels }).cluster k = s.cluster k := rfl

theorem checkpoint_saves : ∃ t, exec .loopStateCheckpoint s = .next t ∧ ∀ k < 4, (t.cluster k).checkpoint =
      (if s.pairRuns k = true ∧ (s.cluster k).checkpoint + ms 1 ≤ s.now then s.now else (s.cluster k).checkpoint) ∧
      ∀ ch < 192, ch / 48 = k → t.chan ch =
        if s.pairRuns k = true ∧ (s.cluster k).checkpoint + ms 1 ≤ s.now then (s.chan ch).save else s.chan ch := by
  have he : exec .loopStateCheckpoint s = execLoopStateCheckpoint s := rfl
  unfold execLoopStateCheckpoint at he
  extract_lets written t save at he
  have hw (k : Nat) : written k = true ↔ s.pairRuns k = true ∧ (s.cluster k).checkpoint + ms 1 ≤ s.now := by
    dsimp only [written]
    rw [Bool.and_eq_true, decide_eq_true_eq]
  have hkeep (k : Nat) (u : State) : (if written k = true then u.modCluster k fun c => { c with checkpoint := u.now } else u).clk = u.clk ∧
      (if written k = true then u.modCluster k fun c => { c with checkpoint := u.now } else u).trk.channels = u.trk.channels := by
    split <;> exact ⟨rfl, rfl⟩
  have hclk : t.trk.channels = s.trk.channels := foldl_keep (fun u : State => u.trk.channels) (fun u k => (hkeep k u).2) _ s
  refine ⟨_, he, fun k hk => ⟨?_, fun ch hch hc => ?_⟩⟩
  · have ht : (t.cluster k).checkpoint = if written k = true then s.now else (s.cluster k).checkpoint := by
      refine forUpto_turn (V := fun u : State => u.cluster k = s.cluster k ∧ u.clk = s.clk)
        (W := fun u : State => (u.cluster k).checkpoint = if written k = true then s.now else (s.cluster k).checkpoint) hk ⟨rfl, rfl⟩
        (fun j hj u hu => ?_) (fun u hu => ?_) (fun j hj u hu => ?_)
      · refine ⟨?_, (hkeep j u).1.trans hu.2⟩
        split
        · exact (u.cluster_modCluster_other _ hj.symm).trans hu.1
        · exact hu.1
      · split
        · rw [u.cluster_modCluster_same _ hk]
          exact congrArg Clock.dt hu.2
        · rw [hu.1]
      · split
        · rw [u.cluster_modCluster_other _ hj.symm]
          exact hu
        · exact hu
    rw [t.cluster_setChannels (fun v => Vector.ofFn (save v)) k, ht]
    by_cases h : written k = true
    · rw [if_pos h, if_pos ((hw k).1 h)]
    · rw [if_neg h, if_neg (mt (hw k).2 h)]
  · refine (vget_ofFn _ hch).trans ?_
    have hc' : vget t.trk.channels ch = s.chan ch := by
      rw [hclk]
      rfl
    dsimp only [save]
    rw [hc', hc]
    by_cases h : written k = true
    · rw [if_pos h, if_pos ((hw k).1 h)]
    · rw [if_neg h, if_neg (mt (hw k).2 h)]

/-! ## Mismatches (05 R193, R194, 15 R542) -/

theorem Core.lockstep_enters (k : Core) : k.lockstep.pc = 0xFF0100 ∧ k.lockstep.bare = true := by
  exact ⟨rfl, (BitVec.getLsbD_or ..).trans (Bool.or_eq_true_iff.2 (.inr (by decide)))⟩

theorem State.staysOff_lockstepRecords (c : Nat) : s.StaysOff (s.lockstepRecords c) := by
  unfold State.lockstepRecords
  generalize hu : (s.modCluster c fun k => { k with notes := [], restart := none }) = u
  have h : s.StaysOff u := by
    subst hu
    exact .of_pwr rfl rfl rfl rfl
  exact h.trans (.of_reports (u.reports_foldl (fun u n => u.reports_domeRecord ..) _))

theorem pairMismatch_restarts (pair : Fin 5) {m : List Nat} (hd : s.domeService = true) (hp : pair.val < 4) (hu : s.clusterUp pair.val = true)
    (hm : recent s.now (10 * second) (s.now :: (s.cluster pair.val).mismatches) = m) : ∃ t, exec (.lockstepMismatch pair) s = .next t ∧
      t.trk.lockstep = sat16 s.trk.lockstep ∧ (vget t.cores (4 + pair.val)).pc = 0xFF0100 ∧ (vget t.cores (4 + pair.val)).bare = true ∧
      (m.length < 3 → (t.cluster pair.val).restart = some s.now ∧ (t.cluster pair.val).frozen = true ∧ (t.cluster pair.val).mismatches = m) ∧
      (3 ≤ m.length → t.boot.clustersFailed = s.boot.clustersFailed ||| BitVec.ofNat 4 (2 ^ pair.val) ∧ t.poweredOn (5 + pair.val) = false) := by
  have he : exec (.lockstepMismatch pair) s = execLockstepMismatch pair s := rfl
  unfold execLockstepMismatch at he
  extract_lets p before m' at he
  rw [if_neg (by simp [hd, hu, p])] at he
  have hm' : m' = m := (congrArg (fun l => recent s.now (10 * second) (s.now :: l)) (if_pos hp)).trans hm
  have hr := s.reports_claim 3
  generalize s.claim 3 = r at he hr
  obtain ⟨cause, u⟩ := r
  dsimp -zeta only at he
  extract_lets v w at he
  rw [if_pos hp, hm', show p = pair.val from rfl] at he
  have hv : s.StaysOff v := (State.StaysOff.of_reports hr).trans (u.staysOff_audit ..)
  have hclk : v.clk = s.clk := (u.audit_clk ..).trans hr.clk
  have hcore : (vget w.cores (4 + pair.val)) = (vget v.cores (4 + pair.val)).lockstep := by
    dsimp only [w, State.modCore]
    rw [show pairCore p = 4 + pair.val from if_pos hp]
    exact vget_vmod_same _ _ (by omega)
  unfold State.clusterMismatch at he
  extract_lets x y at he
  have hy : y.trk.lockstep = sat16 s.trk.lockstep := congrArg sat16 hv.lockstep
  by_cases h3 : 3 ≤ m.length
  · rw [if_pos h3] at he
    have hz := y.staysOff_lockstepRecords pair.val
    obtain ⟨f1, f2, f3, f4⟩ := (y.lockstepRecords pair.val).failCluster_off pair.val cause
    have hpc := f1.trans hz.cores
    refine ⟨_, he, (f2.trans hz.lockstep).trans hy, ?_, ?_, fun hn => absurd h3 (by omega), fun _ => ⟨f3.trans ?_, f4⟩⟩
    · rw [hpc]
      exact (congrArg Core.pc hcore).trans (Core.lockstep_enters _).1
    · rw [hpc]
      exact (congrArg Core.bare hcore).trans (Core.lockstep_enters _).2
    · rw [hz.boot]
      exact congrArg (fun b : Boot => b.clustersFailed ||| _) hv.boot
  · rw [if_neg h3] at he
    obtain ⟨c1, c2⟩ := y.loseRunCluster_clusters pair.val
    have hk : (y.loseRunCluster pair.val).cluster pair.val = y.cluster pair.val := congrArg (fun v => vget v pair.val) c1
    have hy4 := x.cluster_modCluster_same (fun k =>
      { k with mismatches := m, restart := some x.now, frozen := true, notes := k.notes ++ [⟨x.now, cause, m.length, x.now - k.checkpoint⟩] }) hp
    have hnow : x.now = s.now := congrArg Clock.dt hclk
    have hpc := (y.staysOff_loseRunCluster pair.val).cores
    refine ⟨_, he, c2.trans hy, ?_, ?_, fun _ => ?_, fun hn => absurd hn h3⟩
    · rw [hpc]
      exact (congrArg Core.pc hcore).trans (Core.lockstep_enters _).1
    · rw [hpc]
      exact (congrArg Core.bare hcore).trans (Core.lockstep_enters _).2
    · rw [hk, show y.cluster pair.val = _ from hy4]
      exact ⟨congrArg some hnow, rfl, rfl⟩

theorem State.staysOff_of_easelOnly {t : State} (h : s.EaselOnly t) : s.StaysOff t := by
  unfold State.EaselOnly at h
  rw [h]
  exact .of_pwr rfl rfl rfl rfl

theorem State.staysOff_refreeze : s.StaysOff s.refreeze := by
  have h := s.notched_refreeze
  exact .of_pwr (by rw [h.rest]) (by rw [h.rest]) (congrArg Tracking.pairs h.trk) h.pwr

theorem State.staysOff_calAbort (trigger reason port : Nat) : s.StaysOff (s.calAbort trigger reason port) := by
  unfold State.calAbort
  extract_lets u v
  have hu : s.StaysOff u := by
    dsimp only [u]
    unfold State.calRelease
    split
    · exact .refl s
    · split
      · exact .refl s
      · extract_lets w x
        have hx : s.StaysOff x := .of_pwr rfl rfl rfl rfl
        exact ((hx.trans (.foldl (fun u ch => u.staysOff_unclaim ch) _ x)).trans (State.staysOff_refreeze _)).trans
          (State.staysOff_of_easelOnly _ (State.easelOnly_assignBanks _))
  have hv : s.StaysOff v := hu.trans (.of_pwr rfl rfl rfl rfl)
  unfold State.answerCal
  extract_lets cmds w
  have hw : s.StaysOff w := hv.trans (.of_pwr rfl rfl rfl rfl)
  exact (hw.trans (.of_reports (w.reports_foldl (fun u id => u.reports_finalReply ..) cmds))).trans (State.staysOff_refreeze _)

theorem State.staysOff_endFix (st : Status) (d : Nat) (p : List Byte) : s.StaysOff (s.endFix st d p) := by
  unfold State.endFix
  split
  · exact .refl s
  · next f _ =>
    extract_lets u v w
    have hv : s.StaysOff v := (State.StaysOff.foldl (fun u (j : EaselJob) => u.staysOff_of_easelOnly (u.easelOnly_dropJob j.id)) _ s).trans
      (.of_pwr rfl rfl rfl rfl)
    have hw : v.StaysOff w := by
      dsimp only [w]
      split
      · exact .refl v
      · split
        · exact .refl v
        · exact .of_pwr rfl rfl rfl rfl
    exact (hv.trans hw).trans (.of_reports (w.reports_finalOption ..))

theorem supervisorMismatch_restarts (hd : s.domeService = true) : ∃ t, exec (.lockstepMismatch 4) s = .next t ∧ t.trk.supRestart = some s.now ∧
    t.trk.supFrozen = true ∧ (vget t.cores 3).pc = 0xFF0100 := by
  have he : exec (.lockstepMismatch 4) s = execLockstepMismatch 4 s := rfl
  unfold execLockstepMismatch at he
  extract_lets p before m at he
  have hp : p = 4 := rfl
  rw [if_neg (by simp [hd, hp])] at he
  have hr := s.reports_claim 3
  generalize s.claim 3 = r at he hr
  obtain ⟨cause, u⟩ := r
  dsimp -zeta only at he
  extract_lets v w at he
  rw [if_neg (by simp [hp])] at he
  have hclk : v.clk = s.clk := (u.audit_clk ..).trans hr.clk
  have hcore : vget w.cores 3 = (vget v.cores 3).lockstep := vget_vmod_same v.cores Core.lockstep (by omega : 3 < 8)
  unfold State.supervisorMismatch at he
  extract_lets x y at he
  have hnow : x.trk.supRestart = some s.now := congrArg (fun c : Clock => some c.dt) hclk
  have key (z : State) (h : x.StaysOff z) (he : exec (.lockstepMismatch 4) s = .next z) : ∃ t, exec (.lockstepMismatch 4) s = .next t ∧
      t.trk.supRestart = some s.now ∧ t.trk.supFrozen = true ∧ (vget t.cores 3).pc = 0xFF0100 := by
    refine ⟨z, he, h.supRestart.trans hnow, h.supFrozen, ?_⟩
    rw [h.cores]
    exact (congrArg Core.pc hcore).trans (Core.lockstep_enters _).1
  have hy : x.StaysOff y := by
    dsimp only [y]
    split
    · exact .refl x
    · exact x.staysOff_calAbort ..
  split at he
  · exact key _ hy he
  · split at he
    · exact key _ hy he
    · split at he
      · exact key _ (hy.trans (y.staysOff_endFix ..)) he
      · refine key _ ?_ he
        exact hy.trans (.of_pwr rfl rfl rfl rfl)

/-! ## The end of a restart (05 R195, R198, 08 R302) -/

theorem State.lockstepRecords_trk (c : Nat) :
    (s.lockstepRecords c).trk = (s.modCluster c fun k => { k with notes := [], restart := none }).trk := by
  unfold State.lockstepRecords
  generalize (s.modCluster c fun k => { k with notes := [], restart := none }) = u
  exact (u.reports_foldl (fun u n => u.reports_domeRecord ..) _).trk

/-- A lane in use takes its saved loop state. -/
theorem TrkLane.restore_saved {l : TrkLane} {saved : Option Saved} {k : Saved} (hk : saved = some k) (h : l.st ≠ .absent) :
    (l.restore saved).loop = { k.loop with last := none } ∧ (l.restore saved).now = k.now := by
  unfold TrkLane.restore
  rw [hk]
  dsimp only
  rw [if_neg (by simp [h])]
  exact ⟨rfl, rfl⟩

theorem pairRestart_completes (pair : Fin 5) {d : Nat} (hd : s.domeService = true) (hp : pair.val < 4) (hr : (s.cluster pair.val).restart = some d) :
    ∃ t, exec (.loopPairRestartComplete pair) s = .next t ∧
      (t.cluster pair.val).restart = none ∧ (t.cluster pair.val).notes = [] ∧ ∀ ch < 192, ch / 48 = pair.val →
        ((s.chan ch).selfCheck.isSome = true → (t.chan ch).selfCheck = some (s.now + ms 1)) ∧
        ∀ k, (s.chan ch).savedUpper = some k → (s.chan ch).upper.st ≠ .absent →
          (t.chan ch).upper.loop = { k.loop with last := none } ∧ (t.chan ch).upper.now = k.now := by
  have he : exec (.loopPairRestartComplete pair) s = execLoopPairRestartComplete pair s := rfl
  unfold execLoopPairRestartComplete at he
  extract_lets p back held u at he
  rw [if_neg (by simp [hd]), if_pos hp, if_neg (by simp [p, hr]), show p = pair.val from rfl] at he
  generalize hv : (s.modTrk fun t => { t with channels := Vector.ofFn (back t.channels) }) = v at he
  have hchan {ch : Nat} (hch : ch < 192) (hc : ch / 48 = pair.val) : v.chan ch = (s.chan ch).restarted s.now := by
    subst hv
    exact (vget_ofFn _ hch).trans (if_pos hc)
  have hrec := v.lockstepRecords_trk pair.val
  have hk := v.cluster_modCluster_same (fun k => { k with notes := [], restart := none }) hp
  have hclu : (v.lockstepRecords pair.val).cluster pair.val = { v.cluster pair.val with notes := [], restart := none } :=
    (congrArg (fun t : Tracking => vget t.clusters pair.val) hrec).trans hk
  refine ⟨_, he, congrArg Cluster.restart hclu, congrArg Cluster.notes hclu, fun ch hch hc => ?_⟩
  have hcc : (v.lockstepRecords pair.val).chan ch = (s.chan ch).restarted s.now :=
    (congrArg (fun t : Tracking => vget t.channels ch) hrec).trans (hchan hch hc)
  rw [hcc]
  refine ⟨fun hs => ?_, fun k hk hst => ?_⟩
  · obtain ⟨d, hd⟩ := Option.isSome_iff_exists.1 hs
    exact congrArg (Option.map fun _ => s.now + ms 1) hd
  · exact TrkLane.restore_saved hk hst

theorem supervisorRestart_completes {d : Nat} (hd : s.domeService = true) (hr : s.trk.supRestart = some d) :
    ∃ t, exec (.loopPairRestartComplete 4) s = .next t ∧ t.trk.supRestart = none ∧ t.tp.late = [] := by
  have he : exec (.loopPairRestartComplete 4) s = execLoopPairRestartComplete 4 s := rfl
  unfold execLoopPairRestartComplete at he
  extract_lets p back held u at he
  have hp : p = 4 := rfl
  rw [if_neg (by simp [hd]), if_neg (by simp [hp]), if_neg (by simp [hr])] at he
  have h := u.reports_foldl (fun s r => s.reports_domeRecord 10 r.1 0x32 r.2.1 r.2.2) held
  exact ⟨_, he, congrArg Tracking.supRestart h.trk, congrArg (fun t => t.late) h.tp⟩
end

/-- Settles O44, event by event. -/
theorem loopPairs : Obligations.LoopPairs := by
  unfold Obligations.LoopPairs
  intro s hd
  exact ⟨checkpoint_saves s, fun pair m hp hu hm => pairMismatch_restarts s pair hd hp hu hm, supervisorMismatch_restarts s hd,
    fun pair d hp hr => pairRestart_completes s pair hd hp hr, fun d hr => supervisorRestart_completes s hd hr⟩
end Sys2Proof.Machine

/-! # Epochs and calibration runs (O45) -/

namespace Sys2Proof.Machine

/-! ## What leaves the grid of epochs alone -/

/-- The rate of the epochs and the last grid point taken stand. -/
structure State.GridKept (s t : State) : Prop where
  rate : t.trk.epochs.rate = s.trk.epochs.rate
  point : t.trk.epochs.point = s.trk.epochs.point

namespace State.GridKept

theorem refl (s : State) : s.GridKept s := ⟨rfl, rfl⟩

theorem trans {s t u : State} (h : s.GridKept t) (k : t.GridKept u) : s.GridKept u := ⟨k.rate.trans h.rate, k.point.trans h.point⟩

theorem of_epochs {s t : State} (h : t.trk.epochs = s.trk.epochs) : s.GridKept t := ⟨by rw [h], by rw [h]⟩

theorem of_trk {s t : State} (h : t.trk = s.trk) : s.GridKept t := of_epochs (congrArg Tracking.epochs h)

theorem of_reports {s t : State} (h : s.Reports t) : s.GridKept t := of_trk h.trk

theorem of_easelOnly {s t : State} (h : s.EaselOnly t) : s.GridKept t := of_trk (by rw [h])

theorem foldl {α : Type} {f : State → α → State} (h : ∀ u a, State.GridKept u (f u a)) (l : List α) (s : State) : s.GridKept (l.foldl f s) :=
  foldl_related refl trans h l s

theorem forUpto {f : Nat → State → State} (h : ∀ k u, State.GridKept u (f k u)) (n : Nat) (s : State) : s.GridKept (forUpto n f s) :=
  foldl (fun u k => h k u) _ s
end State.GridKept

section
variable (s : State)
open State.GridKept (refl of_epochs of_trk of_reports of_easelOnly)

theorem State.gridKept_modChan (ch : Nat) (f : Channel → Channel) : s.GridKept (s.modChan ch f) := of_epochs rfl

theorem State.gridKept_modEasel (f : Easel → Easel) : s.GridKept (s.modEasel f) := of_trk rfl
theorem State.gridKept_modWatch (f : Watch → Watch) : s.GridKept (s.modWatch f) := of_trk rfl
theorem State.gridKept_modCal (f : Cal → Cal) : s.GridKept (s.modCal f) := of_trk rfl
theorem State.gridKept_unclaim (ch : Nat) : s.GridKept (s.unclaim ch) := s.gridKept_modChan ch _

theorem State.gridKept_calTrigger (k : Nat) : s.GridKept (s.calTrigger k) := by
  unfold State.calTrigger
  split
  · exact of_trk rfl
  · split <;> exact of_trk rfl
  · exact refl s

theorem State.gridKept_goIdle (ch : Nat) : s.GridKept (s.goIdle ch) := by
  unfold State.goIdle
  extract_lets u
  refine .trans ?_ (u.gridKept_modChan ch _)
  dsimp only [u]
  split
  · exact of_trk (s.withdrawReacq_trk ch)
  · exact refl s

theorem State.gridKept_endFix (st : Status) (d : Nat) (p : List Byte) : s.GridKept (s.endFix st d p) := by
  unfold State.endFix
  split
  · exact refl s
  · next f _ =>
    extract_lets u v w
    have hv : s.GridKept v := (State.GridKept.foldl (fun u (j : EaselJob) => of_easelOnly (u.easelOnly_dropJob j.id)) _ s).trans (of_trk rfl)
    have hw : v.GridKept w := by
      dsimp only [w]
      split
      · exact refl v
      · split <;> exact of_trk rfl
    exact (hv.trans hw).trans (of_reports (w.reports_finalOption ..))

/-! ### What follows the lanes -/

theorem State.gridKept_refreeze : s.GridKept s.refreeze := of_trk s.notched_refreeze.trk

theorem State.gridKept_abandonCapture (p : Nat) : s.GridKept (s.abandonCapture p) := by
  unfold State.abandonCapture
  split
  · exact refl s
  · next c _ =>
    extract_lets u
    have hu : s.GridKept u := (of_trk rfl : s.GridKept (s.modEasel _)).trans (State.gridKept_refreeze _)
    split
    · split
      · exact hu
      · split
        · exact hu.trans (u.gridKept_endFix ..)
        · exact hu.trans (of_trk rfl)
    · exact (hu.trans (of_trk rfl : u.GridKept (u.freeCapture c.req.id))).trans (of_reports (State.reports_finalOption ..))

theorem State.gridKept_failJobs (p : Nat) : s.GridKept (s.failJobs p) := by
  unfold State.failJobs
  extract_lets uses
  exact .foldl (fun u j => (of_reports (u.reports_finalOption ..)).trans (of_easelOnly (State.easelOnly_dropJob ..))) _ s

theorem State.gridKept_failFix (p : Nat) : s.GridKept (s.failFix p) := by
  unfold State.failFix
  split
  · exact s.gridKept_endFix ..
  · exact refl s

theorem State.gridKept_holdPasses : s.GridKept s.holdPasses := of_trk rfl

theorem State.gridKept_followLanes : s.GridKept s.followLanes := by
  unfold State.followLanes
  extract_lets lost u v w
  have hu : s.GridKept u := by
    dsimp only [u]
    split
    · exact refl s
    · split
      · exact refl s
      · exact s.gridKept_abandonCapture _
  have hv : u.GridKept v := by
    dsimp only [v]
    split
    · exact refl u
    · split
      · exact refl u
      · exact of_trk rfl
  have hw : v.GridKept w := by
    refine .forUpto (fun p t => ?_) 8 v
    split
    · exact (t.gridKept_failJobs p).trans (State.gridKept_failFix _ p)
    · exact refl t
  exact ((hu.trans hv).trans hw).trans w.gridKept_holdPasses

/-! ### The settings of the boundary -/

theorem State.gridKept_setPort (p : Nat) (n : PortConfig) : s.GridKept (s.setPort p n) := by
  unfold State.setPort
  extract_lets o drop u v
  have hdrop (k : Nat) (t : State) : t.GridKept (drop k t) := by
    dsimp only [drop]
    split
    · exact refl t
    · split
      · exact of_trk rfl
      · exact of_trk (t.notched_release p k).trk
  have hu : s.GridKept u := by
    dsimp only [u]
    split
    · exact .forUpto (fun k t => hdrop k t) 4 s
    · exact refl s
  have hq : u.GridKept (u.modPort p fun q => { q with cfg := n }) := of_trk rfl
  have hs : State.GridKept _ v := of_trk (State.powers_syncPort (u.modPort p fun q => { q with cfg := n }) false 5 p).trk
  have hv : s.GridKept v := (hu.trans hq).trans hs
  split
  · exact hv
  · exact hv.trans (v.gridKept_calTrigger 3)

theorem State.gridKept_applyPorts : s.GridKept s.applyPorts := by
  unfold State.applyPorts
  extract_lets l u
  refine (of_trk rfl : s.GridKept u).trans (.foldl (fun v t => ?_) l u)
  exact (v.gridKept_setPort t.port t.cfg).trans (of_reports (State.reports_finalReply ..))

theorem State.gridKept_applyArray : s.GridKept s.applyArray := by
  unfold State.applyArray
  split
  · exact refl s
  · extract_lets changed u
    split
    · exact (of_trk rfl : s.GridKept u).trans (u.gridKept_calTrigger 3)
    · exact of_trk rfl

theorem State.gridKept_applyThresholds : s.GridKept s.applyThresholds := by
  unfold State.applyThresholds
  split <;> exact of_trk rfl

theorem Tracking.setLoops_epochs (l : List (Nat × LoopSet)) (t : Tracking) : (l.foldl (fun t p => t.setLoop p.1 p.2) t).epochs = t.epochs :=
  foldl_keep Tracking.epochs (fun t p => by unfold Tracking.setLoop; split <;> rfl) l t

theorem State.gridKept_applyLoops : s.GridKept s.applyLoops := by
  unfold State.applyLoops
  extract_lets sets u
  refine (of_epochs (Tracking.setLoops_epochs ..) : s.GridKept u).trans (.foldl (fun v p => ?_) sets u)
  exact of_epochs rfl

theorem State.gridKept_closeBands : s.GridKept s.closeBands := by
  unfold State.closeBands
  extract_lets shut
  refine .forUpto (fun ch t => ?_) 192 s
  extract_lets c u l v
  split
  · exact refl t
  · have hv : t.GridKept v := t.gridKept_modChan ch _
    split
    · exact hv.trans (v.gridKept_goIdle ch)
    · exact hv

theorem State.gridKept_switchPrimary : s.GridKept s.switchPrimary := by
  unfold State.switchPrimary
  split
  · exact refl s
  · exact of_epochs rfl

theorem State.gridKept_lockRestarts : s.GridKept s.lockRestarts := of_epochs rfl

theorem State.gridKept_boundarySettings : s.GridKept s.boundarySettings := by
  unfold State.boundarySettings
  extract_lets u v w x
  have hu : s.GridKept u := of_epochs rfl
  have hv : u.GridKept v := (((((u.gridKept_switchPrimary.trans (State.gridKept_lockRestarts _)).trans (State.gridKept_applyPorts _)).trans
    (State.gridKept_applyArray _)).trans (State.gridKept_applyThresholds _)).trans (State.gridKept_applyLoops _))
  have hw : v.GridKept w := by
    dsimp only [w]
    split
    · exact of_epochs rfl
    · exact refl v
  exact (((hu.trans hv).trans hw).trans (of_epochs rfl : w.GridKept x)).trans (x.gridKept_closeBands.trans (State.gridKept_followLanes _))

/-! ### The records of an epoch -/

theorem State.gridKept_multipathRecord (cause : Nat) : s.GridKept (s.multipathRecord cause) := by
  unfold State.multipathRecord
  extract_lets e es u
  split
  · exact refl s
  · split
    · exact ⟨rfl, rfl⟩
    · split
      · exact refl s
      · exact (of_reports (s.reports_domeRecord ..) : s.GridKept u).trans ⟨rfl, rfl⟩

theorem State.gridKept_laneSymbols (cause ch : Nat) (lower : Bool) : s.GridKept (s.laneSymbols cause ch lower) := by
  unfold State.laneSymbols
  extract_lets c l set out u
  split
  · exact refl s
  · split
    · exact of_epochs rfl
    · split
      · exact refl s
      · exact (of_reports (s.reports_domeRecord ..) : s.GridKept u).trans (of_epochs rfl)

theorem State.gridKept_symbolRecords (cause : Nat) : s.GridKept (s.symbolRecords cause) := by
  unfold State.symbolRecords
  refine .forUpto (fun ch t => ?_) 192 s
  split
  · exact refl t
  · exact (t.gridKept_laneSymbols cause ch false).trans (State.gridKept_laneSymbols _ cause ch true)

theorem State.gridKept_interferenceRecord (cause : Nat) : s.GridKept (s.interferenceRecord cause) := by
  unfold State.interferenceRecord
  extract_lets n u
  exact (of_trk rfl : s.GridKept u).trans (of_reports (u.reports_domeRecord ..))

theorem State.gridKept_epochRecords (cause : Nat) (step : Bool) (units : List (List Byte)) : s.GridKept (s.epochRecords cause step units) := by
  unfold State.epochRecords
  extract_lets u v w
  have hu : s.GridKept u := of_reports (s.reports_domeRecord ..)
  have hw : v.GridKept w := by
    dsimp only [w]
    split
    · exact refl v
    · exact of_reports (v.reports_foldl (fun u b => u.reports_domeRecord ..) units)
  exact ((hu.trans (u.gridKept_multipathRecord cause)).trans hw).trans ((w.gridKept_symbolRecords cause).trans (State.gridKept_interferenceRecord _ cause))

theorem State.gridKept_mapAtEpoch (cause : Nat) : s.GridKept (s.mapAtEpoch cause) := by
  have hwrite (m : TimeMap) : s.GridKept (s.writeMap m cause s.now false) := by
    unfold State.writeMap
    extract_lets bs u n v w
    have hu : s.GridKept u := of_reports (s.reports_domeRecord ..)
    have hw : v.GridKept w := by
      dsimp only [w]
      split <;> exact of_trk rfl
    split
    · exact ((hu.trans (of_trk rfl : u.GridKept v)).trans hw).trans (of_trk rfl)
    · exact (hu.trans (of_trk rfl : u.GridKept v)).trans hw
  unfold State.mapAtEpoch
  split
  · exact refl s
  · split
    · exact refl s
    · split
      · exact hwrite _
      · exact refl s

/-! ### Background work -/

theorem State.gridKept_twinEvent (k : Nat) (t : Twin) : s.GridKept (s.twinEvent k t) :=
  of_reports ((s.reports_claim 9).trans (State.reports_domeRecord ..))

theorem State.gridKept_followTwins : s.GridKept s.followTwins := by
  unfold State.followTwins
  extract_lets gone lost u
  refine (of_trk rfl : s.GridKept u).trans (.foldl (fun v t => ?_) lost u)
  split
  · exact v.gridKept_twinEvent ..
  · exact refl v

theorem State.gridKept_suspendPass (b : Nat) : s.GridKept (s.suspendPass b) := by
  unfold State.suspendPass
  extract_lets k
  split <;> exact of_trk rfl

theorem State.gridKept_yieldWatch : s.GridKept s.yieldWatch := by
  unfold State.yieldWatch
  split
  · exact refl s
  · refine .forUpto (fun b t => ?_) 8 s
    split
    · split
      · exact (t.gridKept_suspendPass b).trans (of_easelOnly (State.easelOnly_assignBanks _))
      · exact refl t
    · exact refl t

theorem State.gridKept_giveTo (ch : Nat) (p : Peak) : s.GridKept (s.giveTo ch p) := by
  unfold State.giveTo
  extract_lets c start u
  split
  · exact refl s
  · split
    · exact (of_trk (s.withdrawReacq_trk ch) : s.GridKept (s.withdrawReacq ch)).trans (State.gridKept_modChan _ ch _)
    · repeat' split
      all_goals exact of_epochs rfl

theorem State.gridKept_suspect (ch : Nat) (p : Peak) (tracked source : Nat) : s.GridKept (s.suspect ch p tracked source) := by
  unfold State.suspect
  extract_lets anchor t u
  have hu : s.GridKept u := s.gridKept_twinEvent ..
  split
  · exact hu.trans (u.gridKept_modWatch _)
  · exact hu

theorem State.gridKept_assign (ch anchor sv signal code : Nat) (doppler : Int) (twin : Bool) : s.GridKept (s.assign ch anchor sv signal code doppler twin) := by
  unfold State.assign
  extract_lets lower
  exact s.gridKept_modChan ch _

theorem State.gridKept_dropCandidate : s.GridKept s.dropCandidate := of_trk rfl

theorem State.gridKept_handOver (p : Peak) (antenna : Nat) (job : Option Nat) : s.GridKept (s.handOver p antenna job).1 := by
  unfold State.handOver
  split
  · exact refl s
  · extract_lets q
    split
    · exact refl s
    · split
      · split
        · exact s.gridKept_giveTo _ q
        · dsimp -zeta only
          exact s.gridKept_suspect _ q q.sum 1
      · split
        · dsimp only
          exact s.gridKept_assign ..
        · split
          · dsimp -zeta only
            exact s.gridKept_modEasel _
          · dsimp -zeta only
            exact s.gridKept_dropCandidate

theorem State.gridKept_markCandidate (job : Option Nat) (p : Peak) (m : Nat) (f : Candidate → Candidate) : s.GridKept (s.markCandidate job p m f) := by
  unfold State.markCandidate
  split
  · exact refl s
  · exact s.gridKept_modEasel _

theorem State.gridKept_serveQueue : s.GridKept s.serveQueue := by
  refine .foldl (fun t w => ?_) _ s
  dsimp only
  split
  · exact refl t
  · split
    · exact refl t
    · exact ((t.gridKept_modEasel _).trans (State.gridKept_handOver _ ..)).trans (State.gridKept_markCandidate _ ..)

theorem State.gridKept_calAbort (trigger reason port : Nat) : s.GridKept (s.calAbort trigger reason port) := by
  unfold State.calAbort
  extract_lets u v
  have hu : s.GridKept u := by
    dsimp only [u]
    unfold State.calRelease
    split
    · exact refl s
    · split
      · exact refl s
      · extract_lets w x
        have hx : s.GridKept x := of_trk rfl
        exact ((hx.trans (.foldl (fun u ch => u.gridKept_unclaim ch) _ x)).trans (State.gridKept_refreeze _)).trans
          (of_easelOnly (State.easelOnly_assignBanks _))
  have hv : s.GridKept v := hu.trans (of_trk rfl)
  unfold State.answerCal
  extract_lets cmds w
  have hw : s.GridKept w := hv.trans (of_trk rfl)
  exact (hw.trans (of_reports (w.reports_foldl (fun u id => u.reports_finalReply ..) cmds))).trans (State.gridKept_refreeze _)

theorem State.gridKept_discardPass (b : Nat) : s.GridKept (s.discardPass b) := by
  unfold State.discardPass
  extract_lets k
  split <;> exact of_trk rfl

theorem State.gridKept_calStart (overdue : Bool) : s.GridKept (s.calStart overdue) := by
  unfold State.calStart
  split
  · exact refl s
  · extract_lets ports u shared v clusters channels late w x y
    have hu : s.GridKept u := of_trk rfl
    split
    · exact hu.trans (u.gridKept_calAbort ..)
    · have hv : u.GridKept v := by
        dsimp only [v]
        split
        · exact .forUpto (fun b t => t.gridKept_discardPass b) 8 u
        · exact refl u
      have hw : v.GridKept w := by
        refine .foldl (fun t ch => ?_) channels v
        exact of_epochs rfl
      have hx : w.GridKept x := by
        dsimp only [x]
        split <;> exact of_trk rfl
      exact ((((hu.trans hv).trans hw).trans hx).trans (of_trk rfl : x.GridKept y)).trans y.gridKept_refreeze

theorem State.gridKept_lateClaims : s.GridKept s.lateClaims := by
  unfold State.lateClaims
  extract_lets due u
  refine (of_trk rfl : s.GridKept u).trans (.foldl (fun t c => ?_) due u)
  split
  · exact refl t
  · exact t.gridKept_modChan ..

theorem State.gridKept_calBoundary : s.GridKept s.calBoundary := by
  unfold State.calBoundary
  extract_lets u due v
  have hu : s.GridKept u := s.gridKept_lateClaims
  split
  · exact hu
  · have hv : s.GridKept v := by
      dsimp only [v]
      split
      · exact hu.trans (of_trk rfl)
      · exact hu
    split
    · exact hv.trans (v.gridKept_calStart true)
    · split
      · exact hv.trans (v.gridKept_modCal _)
      · exact hv.trans (v.gridKept_calStart false)

theorem State.gridKept_visit : s.GridKept s.visit := by
  unfold State.visit
  split
  · exact refl s
  · extract_lets c u again wraps v
    split
    · exact of_trk rfl
    · have hv : s.GridKept v := by
        dsimp only [v]
        split <;> exact of_trk rfl
      split
      · exact hv
      · exact hv.trans (v.gridKept_modEasel _)

theorem State.gridKept_watchBoundary : s.GridKept s.watchBoundary := by
  have hset (t : State) (b : Bool) : t.GridKept (if b then t else t.watchSettings) := by
    split <;> exact of_trk rfl
  have hfill (t : State) : t.GridKept t.fillWatch := by
    unfold State.fillWatch
    extract_lets u
    refine (hset t _).trans (.forUpto (fun _ v => ?_) 8 u)
    split
    · exact v.gridKept_visit.trans (of_easelOnly (State.easelOnly_assignBanks _))
    · exact refl v
  unfold State.watchBoundary
  extract_lets u v calHolds held w x y
  have hv : s.GridKept v := (of_trk rfl : s.GridKept u).trans (hset u _)
  split
  · exact hv
  · split
    · exact (hv.trans (v.gridKept_modWatch _)).trans (hfill _)
    · split
      · have hx : v.GridKept x := (of_trk rfl : v.GridKept w).trans (w.gridKept_discardPass 7)
        have hz : x.GridKept y := by
          dsimp only [y]
          split
          · exact refl x
          · exact x.gridKept_visit
        split
        · exact (hv.trans hx).trans hz
        · exact ((hv.trans hx).trans hz).trans (of_easelOnly (State.easelOnly_startPass ..))
      · exact hv.trans (v.gridKept_modWatch _)

theorem State.gridKept_backgroundAtEpoch : s.GridKept s.backgroundAtEpoch := by
  unfold State.backgroundAtEpoch
  extract_lets u
  refine s.gridKept_followTwins.trans ?_
  split
  · exact ((u.gridKept_calBoundary.trans (State.gridKept_yieldWatch _)).trans (State.gridKept_serveQueue _)).trans (State.gridKept_watchBoundary _)
  · exact ((u.gridKept_yieldWatch.trans (State.gridKept_serveQueue _)).trans (State.gridKept_calBoundary _)).trans (State.gridKept_watchBoundary _)

theorem State.gridKept_heatHoldover (temp : Int) : s.GridKept (s.heatHoldover temp) := of_trk rfl

theorem State.gridKept_glaze : s.GridKept s.glaze := s.gridKept_modCal _

/-- At a whole second the profile's rate comes into force. -/
theorem State.applyRate_rate (hw : s.wholeSecond = true) : s.applyRate.trk.epochs.rate = s.profileRate := by
  unfold State.applyRate
  extract_lets i u j
  have hu : u.wholeSecond = true := hw
  rw [if_pos hu]
  rfl

theorem State.countEpoch_point : s.countEpoch.endInterval.trk.epochs.point = some s.gridAt := rfl

/-- An epoch without a solution takes its grid point at the rate that it brings into force. -/
theorem State.epoch_point (temp : Int) (sol : Option SolveIn) (hd : s.solutionDue = false) (hw : s.wholeSecond = true) :
    ∃ p, (s.epoch temp [] sol).trk.epochs.point = some p ∧ p.2.2 = s.profileRate := by
  obtain ⟨cause, u, hc, hu⟩ : ∃ c u, s.claim 4 = (c, u) ∧ u = { s with ranks := vmod s.ranks 4 (· + 1) } := ⟨_, _, rfl, rfl⟩
  have hdue : u.solutionDue = false := by
    rw [hu]
    exact hd
  have hrate : u.applyRate.trk.epochs.rate = s.profileRate := by
    rw [hu]
    exact State.applyRate_rate _ hw
  unfold State.epoch
  rw [hc]
  dsimp -zeta only
  extract_lets step due fit v w x y z
  have hv : u.applyRate.GridKept v := by
    obtain ⟨c, e⟩ := u.applyRate.tempTrigger_cal temp
    have h : u.applyRate.GridKept (u.applyRate.tempTrigger temp) := by
      rw [e]
      exact of_trk rfl
    exact h.trans (State.gridKept_heatHoldover _ temp)
  have hw : v.GridKept w := v.gridKept_boundarySettings.trans (State.gridKept_glaze _)
  have hx : w.GridKept x := w.gridKept_epochRecords cause step []
  have hy : y = x := if_neg (by rw [show due = false from hdue]; exact Bool.false_ne_true)
  have hm : u.applyRate.GridKept (y.mapAtEpoch cause) := ((hv.trans hw).trans (hy ▸ hx)).trans (y.gridKept_mapAtEpoch cause)
  exact ⟨_, z.gridKept_backgroundAtEpoch.point.trans (y.mapAtEpoch cause).countEpoch_point, hm.rate.trans hrate⟩
end

/-- In FULL, at the whole second at which epochs fall to a rate of 1 Hz from 10 Hz (06 R209); no solution falls there. -/
def rateFalls : State :=
  { inService 2 with
    clk := { (inService 2).clk with acc := 2 ^ 40 }
    interp := { (inService 2).interp with meas := 1 }
    nav := { (inService 2).nav with cfg := { (inService 2).nav.cfg with rate := 0 } }
    trk := { (inService 2).trk with epochs := { (inService 2).trk.epochs with rate := 10 } } }

theorem rateFalls_due : rateFalls.epochDue = true ∧ rateFalls.trk.supRestart = none ∧ rateFalls.trk.supFrozen = false ∧
    rateFalls.solutionDue = false ∧ rateFalls.wholeSecond = true ∧ rateFalls.profileRate = 1 ∧ rateFalls.gridAt.2.2 = 10 := by decide +kernel

/-- Refutes O45: an epoch that brings a new rate into force is counted by its grid point at that rate, not at the rate before. -/
theorem not_epochsAndRuns : ¬ Obligations.EpochsAndRuns := by
  unfold Obligations.EpochsAndRuns
  intro h
  obtain ⟨hepoch, -⟩ := h rateFalls
  obtain ⟨hdue, hrestart, hfrozen, hsol, hwhole, hrate, hgrid⟩ := rateFalls_due
  obtain ⟨t, he, -, -, -, hpoint, -⟩ := hepoch 0 [] none hdue hrestart hfrozen
  obtain ⟨p, hp, hpr⟩ := rateFalls.epoch_point 0 none hsol hwhole
  have hx : exec (.measurementEpoch 0 [] none) rateFalls = .next (rateFalls.epoch 0 [] none) := by
    refine (show exec (.measurementEpoch 0 [] none) rateFalls = execMeasurementEpoch 0 [] none () rateFalls from rfl).trans ?_
    unfold execMeasurementEpoch
    rw [hdue, hrestart, hfrozen]
    rfl
  have ht : t = rateFalls.epoch 0 [] none := Host.Outcome.next.inj (he.symm.trans hx)
  rw [← ht, hpoint] at hp
  rw [← Option.some.inj hp] at hpr
  exact absurd (hgrid.symm.trans (hpr.trans hrate)) (by decide)
end Sys2Proof.Machine

/-! # Time pulses and holdover (O46) -/

namespace Sys2Proof.Machine

/-! ## The generators' states (08 R289, R301, R302) -/

section
variable (s : State) {g : Nat}

theorem State.gen_modGen_same (f : Generator → Generator) (h : g < 2) : (s.modGen g f).gen g = f (s.gen g) := vget_vmod_same _ f h

theorem State.gen_modGen_other {j : Nat} (f : Generator → Generator) (h : j ≠ g) : (s.modGen g f).gen j = s.gen j := vget_vmod_other _ f h

theorem State.modGen_modGen (f f' : Generator → Generator) (h : g < 2) : (s.modGen g f).modGen g f' = s.modGen g fun k => f' (f k) :=
  congrArg (fun v => s.modTp fun t => { t with gens := v }) (vmod_vmod s.tp.gens f f' h)

theorem State.modGen_congr {f f' : Generator → Generator} (h : f (s.gen g) = f' (s.gen g)) : s.modGen g f = s.modGen g f' :=
  congrArg (fun v => s.modTp fun t => { t with gens := v }) (vmod_congr h)

theorem State.modGen_self {f : Generator → Generator} (h : f (s.gen g) = s.gen g) : s.modGen g f = s :=
  (s.modGen_congr (f' := fun k => k) h).trans (congrArg (fun v => s.modTp fun t => { t with gens := v }) (vmod_id s.tp.gens g))

theorem State.modGen_tp {t u : State} (h : t.tp = u.tp) (f : Generator → Generator) : (t.modGen g f).tp = (u.modGen g f).tp := by
  unfold State.modGen State.modTp
  dsimp only
  rw [h]

theorem State.reports_stateRecord (old : TpState) (cause n : Nat) (b : Bool) : s.Reports (s.stateRecord g old cause n b) :=
  (s.reports_claim 4).trans (State.reports_domeRecord ..)

theorem State.enterTp_tp (st : TpState) (cause : Nat) : (s.enterTp g st cause).tp = (s.modGen g fun k => { k with st := st }).tp := by
  unfold State.enterTp
  extract_lets old
  split
  · next h =>
    rw [s.modGen_self (show { s.gen g with st := st } = s.gen g from (eq_of_beq h) ▸ rfl)]
  · exact (State.reports_stateRecord ..).tp

/-- A generator without announced pulses once what waited for that has come into force. -/
def Generator.settled (k : Generator) : Generator :=
  match k.after with
  | none => { k with polarity := k.cfg.polarity, after := none }
  | some (st, _) => { { k with polarity := k.cfg.polarity, after := none, st := st }.realign with good := 0 }

theorem State.settleTp_tp (hg : g < 2) : (s.settleTp g).tp =
    (if (s.gen g).announced = [] then s.modGen g Generator.settled else s).tp := by
  unfold State.settleTp
  extract_lets k u
  by_cases h : k.announced = []
  · rw [if_neg (by simp [h]), if_pos h]
    split
    · next ha =>
      refine congrArg State.tp (s.modGen_congr ?_)
      unfold Generator.settled
      rw [show (s.gen g).after = none from ha]
    · next st cause ha =>
      refine (State.modGen_tp (u.enterTp_tp st cause) _).trans (congrArg State.tp ?_)
      rw [u.modGen_modGen _ _ hg, s.modGen_modGen _ _ hg]
      refine s.modGen_congr ?_
      unfold Generator.settled
      rw [show (s.gen g).after = some (st, cause) from ha]
  · rw [if_pos (by simpa using h), if_neg h]
end

section
variable {s : State} (g : Fin 2)

/-! ## Edges -/

theorem exec_tpLeadingEdge {a : Announced} {r : List Announced} (hf : s.fast = true) (ha : (s.gen g.val).announced = a :: r) (hl : a.leading = false)
    (ht : a.tick ≤ s.clk.tick) : exec (.tpLeadingEdge g) s = .next (s.modGen g.val fun k =>
      { k with high := true, lastNo := a.no, announced := k.announced.map fun b => if b.no = a.no then { b with leading := true } else b }) := by
  refine (show exec (.tpLeadingEdge g) s = execTpLeadingEdge g s from rfl).trans ?_
  unfold execTpLeadingEdge
  rw [ha, List.find?_cons_of_pos (by simp [hl])]
  exact if_neg (by simp [hf, ht])

theorem exec_tpTrailingEdge {a : Announced} {r : List Announced} (hf : s.fast = true) (ha : (s.gen g.val).announced = a :: r) (hl : a.leading = true)
    (ht : a.trailing ≤ s.clk.tick) :
    exec (.tpTrailingEdge g) s = .next ((s.modGen g.val fun k => { k with high := false, announced := r }).settleTp g.val) := by
  refine (show exec (.tpTrailingEdge g) s = execTpTrailingEdge g s from rfl).trans ?_
  unfold execTpTrailingEdge
  rw [ha]
  exact if_neg (by simp [hf, hl, ht])

theorem tpTrailing_ends {a : Announced} {r : List Announced} (hf : s.fast = true) (ha : (s.gen g.val).announced = a :: r) (hl : a.leading = true)
    (ht : a.trailing ≤ s.clk.tick) : ∃ t, exec (.tpTrailingEdge g) s = .next t ∧
      (t.gen g.val).high = false ∧ (t.gen g.val).announced = r ∧ (r = [] → (t.gen g.val).polarity = (s.gen g.val).cfg.polarity) ∧
      (r = [] → (s.gen g.val).after = none → (t.gen g.val).st = (s.gen g.val).st) ∧
      ∀ st c, r = [] → (s.gen g.val).after = some (st, c) → (t.gen g.val).st = st := by
  refine ⟨_, exec_tpTrailingEdge g hf ha hl ht, ?_⟩
  have hu := s.gen_modGen_same (fun k => { k with high := false, announced := r }) g.isLt
  generalize (s.modGen g.val fun k => { k with high := false, announced := r }) = u at hu ⊢
  have hgen : (u.settleTp g.val).gen g.val = if r = [] then (u.gen g.val).settled else u.gen g.val := by
    have h := congrArg (fun t : Pulses => vget t.gens g.val) (u.settleTp_tp g.isLt)
    rw [hu] at h
    by_cases hr : r = []
    · rw [if_pos hr] at h ⊢
      exact h.trans (u.gen_modGen_same _ g.isLt)
    · rw [if_neg hr] at h ⊢
      exact h
  rw [hgen, hu]
  unfold Generator.settled
  by_cases hr : r = []
  · rw [if_pos hr]
    cases hk : (s.gen g.val).after with
    | none => exact ⟨rfl, rfl, fun _ => rfl, fun _ _ => rfl, fun _ _ _ h => nomatch h⟩
    | some x => exact ⟨rfl, rfl, fun _ => rfl, (fun _ h => nomatch h), fun _ _ _ h => by cases h; rfl⟩
  · rw [if_neg hr]
    exact ⟨rfl, rfl, fun h => absurd h hr, fun h => absurd h hr, fun _ _ h => absurd h hr⟩

/-! ## Announcements (08 R287–R300) -/

/-- A generator in LOCKED outside holdover is as an announcement finds it. -/
theorem pulseFound (temp : Int) (hst : (s.gen g.val).st = .locked) (hh : s.tp.holdover = none) :
    (s.heatHoldover temp).pulseState g.val = s := by
  have hheat : s.heatHoldover temp = s := by
    have : ({ s.tp with holdover := s.tp.holdover.map fun h => { h with dtMax := max h.dtMax (temp - h.temp).natAbs } } : Pulses) = s.tp := by
      rw [hh]
      exact congrArg (fun h => { s.tp with holdover := h }) hh.symm
    exact congrArg (fun t => { s with tp := t }) this
  rw [hheat]
  unfold State.pulseState
  rw [hst, hh]

/-- The pulse `p` is announced: its edge is the `n`th core cycle from the tick's start. -/
structure State.Announced (s t : State) (g : Nat) (p : PulsePlan) (n : Int) : Prop where
  limit : t.tp.limit = s.tp.limit
  no : (t.gen g).no = (s.gen g).no + 1
  ideal : (t.gen g).ideal = some (p.at_, p.scale)
  remain : (t.gen g).remain = p.after
  announced : ∃ a, (t.gen g).announced = (s.gen g).announced ++ [a] ∧ a.no = (s.gen g).no + 1 ∧ a.tick = s.clk.tick + (n / 4).toNat ∧ a.leading = false

theorem State.fixPulse_announced (s : State) (p : PulsePlan) (n : Int) (trailing flags bound : Nat) (hn : 4 ≤ n) :
    s.Announced (s.fixPulse g.val p false (4 * s.clk.tick + n.toNat) trailing flags bound) g.val p n := by
  have h := s.gen_modGen_same (fun k =>
    { k with
      announced := k.announced ++ [⟨(4 * s.clk.tick + n.toNat) / 4, trailing / 4, (4 * s.clk.tick + n.toNat) % 4, trailing % 4, k.no + 1, false⟩]
      no := k.no + 1, next := some p.scale, ideal := some (p.at_, p.scale), leaps := p.leaps, remain := p.after
      step := p.step, slewing := p.slewing
      slews := if p.slewing && !k.slewing then sat16 k.slews else k.slews
      steps := if p.stepped then sat16 k.steps else k.steps
      omitted := match k.step with | some (_, true) => if p.stepped then sat16 k.omitted else k.omitted | _ => k.omitted
      lastFlags := flags, lastBound := bound }) g.isLt
  refine ⟨rfl, congrArg Generator.no h, congrArg Generator.ideal h, congrArg Generator.remain h, _, congrArg Generator.announced h, rfl, ?_, rfl⟩
  dsimp only
  omega

theorem State.Announced.of_reports {s t u : State} {g : Nat} {p : PulsePlan} {n : Int} (h : s.Announced t g p n) (k : t.Reports u) : s.Announced u g p n := by
  have hg : u.gen g = t.gen g := congrArg (fun t : Pulses => vget t.gens g) k.tp
  exact ⟨(congrArg Pulses.limit k.tp).trans h.limit, hg ▸ h.no, hg ▸ h.ideal, hg ▸ h.remain, hg ▸ h.announced⟩

/-- A pulse of a LOCKED generator without a step is announced. -/
theorem State.announcePulse_locked (s : State) (p : PulsePlan) (rate leap : Int) (hst : (s.gen g.val).st = .locked) (hstep : p.step = none)
    (hn : 4 ≤ (s.clk.edge (p.at_ - s.clk.nowPs)).1) :
    s.Announced (s.announcePulse g.val p rate leap false) g.val p (s.clk.edge (p.at_ - s.clk.nowPs)).1 := by
  unfold State.announcePulse
  generalize s.clk.edge (p.at_ - s.clk.nowPs) = e at hn ⊢
  obtain ⟨core, qerr⟩ := e
  dsimp -zeta only
  extract_lets n k bound limit u v past st late flags trailing payload cause dt w
  rw [if_neg (by omega)]
  have hu : u = s := if_neg (by simp [k, hst])
  have hv : v = s := by
    refine (if_neg Bool.false_ne_true).trans ?_
    rw [hu]
    unfold State.stepRecord
    rw [hstep]
  have hw := v.fixPulse_announced g p core (4 * v.clk.tick + trailing) flags (bound32 bound) hn
  rw [if_neg Bool.false_ne_true]
  have hwt : s.Announced w g.val p core := by
    rw [hv] at hw
    have hvc : v = s := hv
    clear_value v
    subst hvc
    exact hw
  exact hwt.of_reports (w.reports_domeRecord ..)

theorem tpPulse_announces {w : State} {m : TimeMap} {rate : Int} {last : Int × Nat} {leaps off n : Int} {p : PulsePlan} (temp : Int)
    (hd : s.domeService = true) (hst : (s.gen g.val).st = .locked) (ha : (s.gen g.val).after = none)
    (hl : ∀ a ∈ (s.gen g.val).announced, a.leading = true) (hr : s.trk.supRestart = none) (hh : s.tp.holdover = none)
    (hw : (s.glazeDtp g.val).takeLimit = w) (hm : w.pulseMap temp = some (m, rate)) (hi : (s.gen g.val).ideal = some last)
    (hs : w.scaleNow g.val m = (leaps, off))
    (hp : w.nextPulse g.val m rate off (clampInt (-1) 1 (leaps - (s.gen g.val).leaps)) false last = p) (hstep : p.step = none)
    (hn : (s.clk.edge (p.at_ - s.clk.nowPs)).1 = n) (h4 : 4 ≤ n) : ∃ t, exec (.tpPulse g temp) s = .next t ∧
      t.tp.limit = s.tp.limitNext.getD s.tp.limit ∧ (t.gen g.val).no = (s.gen g.val).no + 1 ∧ (t.gen g.val).ideal = some (p.at_, p.scale) ∧
          (t.gen g.val).remain = p.after ∧ ∃ a, (t.gen g.val).announced = (s.gen g.val).announced ++ [a] ∧ a.no = (s.gen g.val).no + 1 ∧
            a.tick = s.clk.tick + (n / 4).toNat ∧ a.leading = false := by
  have he : exec (.tpPulse g temp) s = execTpPulse g temp () () s := rfl
  have hgen : w.gen g.val = s.gen g.val := by
    subst hw
    rfl
  have hclk : w.clk = s.clk := by
    subst hw
    rfl
  have hlimit : w.tp.limit = s.tp.limitNext.getD s.tp.limit := by
    subst hw
    rfl
  unfold execTpPulse at he
  rw [pulseFound g temp hst hh, hr, hw] at he
  extract_lets k frozen u coast at he
  rw [if_neg (by simp [k, hd, hst, ha, TpState.runs]; exact hl)] at he
  rw [show u = w from rfl, hm] at he
  dsimp -zeta only at he
  rw [hs] at he
  extract_lets first leap at he
  rw [hgen, hi] at he
  dsimp -zeta only at he
  have hcoast : (coast && (frozen || k.step.isNone)) = false := by
    refine Bool.and_eq_false_iff.2 (.inl ?_)
    dsimp only [coast, u, frozen]
    rw [if_neg (by simp), hgen, hst]
    rfl
  rw [hcoast, show leap = clampInt (-1) 1 (leaps - (s.gen g.val).leaps) from rfl, hp] at he
  extract_lets q at he
  have hq : 4 ≤ (w.clk.edge (p.at_ - w.clk.nowPs)).1 := by
    rw [hclk, hn]
    exact h4
  have h := w.announcePulse_locked g { q with leaps := leaps } rate leap (by rw [hgen]; exact hst) hstep hq
  obtain ⟨a, ha1, ha2, ha3, ha4⟩ := h.announced
  rw [hgen] at ha1 ha2
  rw [hclk] at ha3
  refine ⟨_, he, h.limit.trans hlimit, h.no.trans (by rw [hgen]), h.ideal, h.remain, a, ha1, ha2, ?_, ha4⟩
  rw [ha3]
  exact congrArg (fun x : Int => s.clk.tick + (x / 4).toNat) hn

theorem exec_holdoverStart {q : Qualified} (rq : Nat) (hd : s.domeService = true) (hh : s.tp.holdover = none) (hq : s.tp.last = some q)
    (hp : s.pwr.profile ≠ 0) (ht : q.map.ref + 2 * second ≤ s.now) : exec (.holdoverStart rq) s = .next (s.modTp fun t =>
        { t with
          entered := sat16 t.entered
          holdover := some { ref := q.map.ref, rate := q.map.rate, bound := q.map.bound, temp := q.temp, rq := rq, map := q.map } }) := by
  refine (show exec (.holdoverStart rq) s = execHoldoverStart rq s from rfl).trans ?_
  unfold execHoldoverStart
  rw [hh, hq]
  exact if_neg (by simp [hd, hp]; omega)

theorem exec_holdoverStart_early {q : Qualified} (rq : Nat) (hq : s.tp.last = some q) (ht : s.now < q.map.ref + 2 * second) :
    exec (.holdoverStart rq) s = .next s := by
  refine (show exec (.holdoverStart rq) s = execHoldoverStart rq s from rfl).trans ?_
  unfold execHoldoverStart
  rw [hq]
  cases s.tp.holdover with
  | none => exact if_pos (by simp [ht])
  | some h => rfl

/-- What a DT_MAP record brings into force. -/
theorem State.writeMap_nav (s : State) (m : TimeMap) (cause dt : Nat) (sketch : Bool) : (s.writeMap m cause dt sketch).nav.map = some m := by
  unfold State.writeMap
  extract_lets bs u n v w
  have hw : w.nav.map = some m := by
    dsimp only [w]
    split <;> rfl
  split <;> exact hw

theorem holdoverDtMap_extrapolates {h : Holdover} {rate : Int} (temp : Int) (hd : s.domeService = true) (hh : (s.heatHoldover temp).tp.holdover = some h)
    (hr : (s.heatHoldover temp).holdRate h temp = rate)
    (hm : s.nav.mapSecond ≠ some ((({ h.map with rate := rate } : TimeMap).gps s.now / 2 ^ 32).toNat)) :
      ∃ t n, exec (.holdoverDtMap temp) s = .next t ∧ t.nav.map = some n ∧ n.ref = s.now ∧ n.rate = rate ∧ n.holdover = true ∧
        n.segment = h.map.segment ∧ t.tp.holdover = some { h with map := n } ∧
        (h.ref + s.tp.limit * second ≤ s.now → n.qualified = false) := by
  have he : exec (.holdoverDtMap temp) s = execHoldoverDtMap temp s := rfl
  unfold execHoldoverDtMap at he
  extract_lets u at he
  rw [hh] at he
  dsimp -zeta only at he
  rw [show u.holdRate h temp = rate from hr] at he
  extract_lets k x b n at he
  rw [if_neg (by simp [hd]; exact hm)] at he
  refine ⟨_, n, he, State.writeMap_nav .., rfl, rfl, rfl, rfl, rfl, fun hlim => ?_⟩
  refine Bool.and_eq_false_iff.2 (.inl (Bool.and_eq_false_iff.2 (.inr (decide_eq_false ?_))))
  omega

/-! ## The limit of holdover (08 R296) -/

theorem State.thenEnter_tp (s : State) (st : TpState) (cause : Nat) : (s.thenEnter g.val st cause).tp =
    (if (s.gen g.val).announced = [] then s.modGen g.val fun k => { k with after := some (st, cause) }.settled
      else s.modGen g.val fun k => { k with after := some (st, cause) }).tp := by
  unfold State.thenEnter
  rw [State.settleTp_tp _ g.isLt, s.gen_modGen_same _ g.isLt]
  by_cases h : (s.gen g.val).announced = []
  · rw [if_pos h, if_pos h, s.modGen_modGen _ _ g.isLt]
  · rw [if_neg h, if_neg h]

/-- A generator at the limit of holdover. -/
def State.limitGen (k : Nat) (s : State) : State :=
  if (s.gen k).cfg.limitStop && (s.gen k).st.runs then s.thenEnter k .stopped 4 else s

theorem State.limitGen_tp (s : State) : ∃ f, (State.limitGen g.val s).tp = (s.modGen g.val f).tp := by
  unfold State.limitGen
  split
  · rw [s.thenEnter_tp g]
    split <;> exact ⟨_, rfl⟩
  · exact ⟨fun k => k, congrArg State.tp (s.modGen_self rfl).symm⟩

theorem State.limitGen_holdover (s : State) : (State.limitGen g.val s).tp.holdover = s.tp.holdover := by
  obtain ⟨f, h⟩ := s.limitGen_tp g
  rw [h]
  rfl

theorem State.limitGen_other (s : State) {j : Nat} (hj : j ≠ g.val) : (State.limitGen g.val s).gen j = s.gen j := by
  obtain ⟨f, h⟩ := s.limitGen_tp g
  exact (congrArg (fun t : Pulses => vget t.gens j) h).trans (s.gen_modGen_other f hj)

/-- A generator as the limit of holdover leaves it. -/
def Generator.limited (k : Generator) : Generator :=
  if (k.cfg.limitStop && k.st.runs) = true then
    if k.announced = [] then { k with after := some (.stopped, 4) }.settled else { k with after := some (.stopped, 4) }
  else k

theorem State.limitGen_same (s : State) : (State.limitGen g.val s).gen g.val = (s.gen g.val).limited := by
  unfold State.limitGen Generator.limited
  split
  · have h := congrArg (fun t : Pulses => vget t.gens g.val) (s.thenEnter_tp g .stopped 4)
    refine Eq.trans h ?_
    split <;> exact s.gen_modGen_same _ g.isLt
  · rfl

theorem State.limitGens_gen (s : State) : (forUpto 2 State.limitGen s).gen g.val = (s.gen g.val).limited := by
  have hrun : forUpto 2 State.limitGen s = State.limitGen (1 : Fin 2).val (State.limitGen (0 : Fin 2).val s) := rfl
  rw [hrun]
  obtain rfl | rfl : g = 0 ∨ g = 1 := by omega
  · exact (State.limitGen_other 1 _ (by decide)).trans (s.limitGen_same 0)
  · rw [State.limitGen_same 1, s.limitGen_other 0 (by decide)]

theorem State.limitGens_holdover (s : State) : (forUpto 2 State.limitGen s).tp.holdover = s.tp.holdover :=
  (State.limitGen_holdover 1 _).trans (s.limitGen_holdover 0)

theorem holdLimit_reached {h : Holdover} (hd : s.domeService = true) (hh : s.tp.holdover = some h) (hl : h.limit = false)
    (ht : h.ref + s.tp.limit * second ≤ s.now) : ∃ t,
      exec .holdLimitReached s = .next t ∧ t.tp.holdover = some { h with limit := true } ∧
        ((s.gen g.val).cfg.limitStop = true → (s.gen g.val).st.runs = true → (s.gen g.val).announced = [] → (t.gen g.val).st = .stopped) ∧
        ((s.gen g.val).cfg.limitStop = true → (s.gen g.val).st.runs = true → (s.gen g.val).announced ≠ [] → (t.gen g.val).after = some (.stopped, 4)) ∧
        ((s.gen g.val).cfg.limitStop = false → (t.gen g.val).st = (s.gen g.val).st) := by
  have he : exec .holdLimitReached s = execHoldLimitReached s := rfl
  unfold execHoldLimitReached at he
  rw [hh] at he
  dsimp -zeta only at he
  extract_lets u at he
  rw [if_neg (by simp [hd, hl]; omega)] at he
  have hu : u.tp.holdover = some { h with limit := true } := by
    dsimp only [u, State.modTp]
    rw [hh]
    rfl
  have hg : u.gen g.val = s.gen g.val := rfl
  have hgen := u.limitGens_gen g
  rw [hg] at hgen
  refine ⟨_, he, u.limitGens_holdover.trans hu, fun hs hr ha => ?_, fun hs hr ha => ?_, fun hs => ?_⟩
  · refine (congrArg Generator.st hgen).trans ?_
    unfold Generator.limited
    rw [if_pos (by rw [hs, hr]; rfl), if_pos ha]
    rfl
  · refine (congrArg Generator.after hgen).trans ?_
    unfold Generator.limited
    rw [if_pos (by rw [hs, hr]; rfl), if_neg ha]
  · refine (congrArg Generator.st hgen).trans ?_
    unfold Generator.limited
    rw [if_neg (by rw [hs]; exact Bool.false_ne_true)]
end

/-- Settles O46, event by event. -/
theorem timePulses : Obligations.TimePulses := by
  unfold Obligations.TimePulses
  rintro s g k rfl
  refine ⟨fun temp w m rate last leaps off p n hd hst ha hl hr hh hw hm hi hs hp hstep hn h4 =>
      tpPulse_announces g temp hd hst ha hl hr hh hw hm hi hs hp hstep hn h4, fun temp ha => ?_, fun a r hf ha hl ht => ?_,
    fun a r => tpTrailing_ends g, fun q rq hd hh hq hp ht => exec_holdoverStart rq hd hh hq hp ht, fun q rq => exec_holdoverStart_early rq,
    fun temp h rate => holdoverDtMap_extrapolates temp, fun h => holdLimit_reached g⟩
  · refine (show exec (.tpPulse g temp) s = execTpPulse g temp () () s from rfl).trans ?_
    unfold execTpPulse
    refine if_pos ?_
    obtain ⟨a, ha, hl⟩ := ha
    rw [Bool.or_eq_true]
    exact .inr (List.any_eq_true.2 ⟨a, ha, by rw [hl]; rfl⟩)
  · have h := s.gen_modGen_same (fun k : Generator =>
      { k with high := true, lastNo := a.no, announced := k.announced.map fun b => if b.no = a.no then { b with leading := true } else b }) g.isLt
    exact ⟨_, exec_tpLeadingEdge g hf ha hl ht, congrArg Generator.high h, congrArg Generator.lastNo h, rfl⟩
end Sys2Proof.Machine

/-! # The lines of the UARTs (O47) -/

namespace Sys2Proof.Machine

/-! ## The bits of an entry (14 R487) -/

theorem bitsOf_append (k l : List (Bool × Nat)) : bitsOf (k ++ l) = bitsOf k + bitsOf l := by
  unfold bitsOf
  rw [List.map_append, List.sum_append]

/-- The bits that `f` gives at the places 0 to `n` − 1. -/
theorem bitsOf_range (f : Nat → Bool) (n : Nat) : bitsOf (((List.range n).map f).zip (List.range n)) < 2 ^ n ∧
    ∀ i, (bitsOf (((List.range n).map f).zip (List.range n))).testBit i = (decide (i < n) && f i) := by
  induction n with
  | zero => exact ⟨Nat.one_pos, fun i => Nat.zero_testBit i⟩
  | succ n ih =>
    obtain ⟨hlt, hbit⟩ := ih
    have hsum : bitsOf (((List.range (n + 1)).map f).zip (List.range (n + 1))) =
        2 ^ n * b2n (f n) + bitsOf (((List.range n).map f).zip (List.range n)) := by
      rw [List.range_succ, List.map_append, List.zip_append (by rw [List.length_map]), bitsOf_append, Nat.add_comm]
      exact congrArg (· + _) ((bitsOf_cons (f n) n []).trans (by rw [bitsOf_nil, Nat.mul_comm]; rfl))
    rw [hsum]
    refine ⟨?_, fun i => ?_⟩
    · cases f n <;> simp [b2n, Nat.pow_succ] <;> omega
    · rw [Nat.testBit_two_pow_mul_add _ hlt, hbit]
      by_cases h : i < n
      · rw [if_pos h, decide_eq_true h, decide_eq_true (by omega)]
      · rw [if_neg h]
        by_cases e : i = n
        · subst e
          cases f i <;> simp [b2n]
        · rw [decide_eq_false (by omega : ¬ i < n + 1), Bool.false_and]
          have hone : Nat.testBit 1 (i - n) = false := Nat.testBit_lt_two_pow (Nat.one_lt_two_pow (by omega))
          cases f n
          · exact Nat.zero_testBit _
          · exact hone

/-- An entry's character and its flags. -/
theorem entryBits {c : Nat} (hc : c < 2 ^ 16) (p st dr w : Bool) {e : BitVec 22}
    (he : e = BitVec.ofNat 22 (c + bitsOf [(p, 16), (st, 17), (false, 20)] + bitsOf [(dr, 19), (w, 21)])) :
    (∀ i < 16, e.getLsbD i = c.testBit i) ∧ e.getLsbD 16 = p ∧ e.getLsbD 17 = st ∧ e.getLsbD 18 = false ∧ e.getLsbD 19 = dr ∧
      e.getLsbD 20 = false ∧ e.getLsbD 21 = w := by
  have hsum : c + bitsOf [(p, 16), (st, 17), (false, 20)] + bitsOf [(dr, 19), (w, 21)] =
      2 ^ 16 * (b2n p + 2 * b2n st + 8 * b2n dr + 32 * b2n w) + c := by
    simp only [bitsOf_cons, bitsOf_nil]
    rw [show b2n false = 0 from rfl]
    omega
  rw [hsum] at he
  have hbit (i : Nat) (hi : i < 22) : e.getLsbD i = if i < 16 then c.testBit i else (b2n p + 2 * b2n st + 8 * b2n dr + 32 * b2n w).testBit (i - 16) := by
    rw [he, BitVec.getLsbD_ofNat, decide_eq_true hi, Bool.true_and, Nat.testBit_two_pow_mul_add _ hc]
  have hflags : ∀ p st dr w : Bool, (b2n p + 2 * b2n st + 8 * b2n dr + 32 * b2n w).testBit 0 = p ∧
      (b2n p + 2 * b2n st + 8 * b2n dr + 32 * b2n w).testBit 1 = st ∧ (b2n p + 2 * b2n st + 8 * b2n dr + 32 * b2n w).testBit 2 = false ∧
      (b2n p + 2 * b2n st + 8 * b2n dr + 32 * b2n w).testBit 3 = dr ∧ (b2n p + 2 * b2n st + 8 * b2n dr + 32 * b2n w).testBit 4 = false ∧
      (b2n p + 2 * b2n st + 8 * b2n dr + 32 * b2n w).testBit 5 = w := by decide
  obtain ⟨h0, h1, h2, h3, h4, h5⟩ := hflags p st dr w
  exact ⟨fun i hi => (hbit i (by omega)).trans (if_pos hi), (hbit 16 (by omega)).trans h0, (hbit 17 (by omega)).trans h1,
    (hbit 18 (by omega)).trans h2, (hbit 19 (by omega)).trans h3, (hbit 20 (by omega)).trans h4, (hbit 21 (by omega)).trans h5⟩

/-! ## Receiving (14 R486–R488) -/

section
variable {s : State} {u : Fin 8}

theorem State.uart_modUart (s : State) (u : Fin 8) (f : Uart → Uart) : vget (s.modUart u.val f).uarts u.val = f (vget s.uarts u.val) :=
  vget_vmod_same _ f u.isLt

theorem isDrumUart_of_ne {n : Nat} (h : n ≠ 6) : isDrumUart n = true := bne_iff_ne.2 h

theorem State.uartRuns_fast (h : s.fast = true) (n : Nat) : s.uartRuns n = true := by
  unfold State.uartRuns
  rw [h, Bool.true_or]

/-- While the fast clocks run no received character wakes the device. -/
theorem State.slowWoken_fast (h : s.fast = true) (r : Uart) : s.slowWoken r = s := by
  unfold State.slowWoken
  refine if_neg fun hw => ?_
  have hp := eq_of_beq (Bool.and_eq_true_iff.1 hw).1
  unfold State.fast at h
  rw [hp] at h
  exact nomatch h

theorem State.slowWoken_modUart {t : State} (h : t.fast = true) (n : Nat) (f : Uart → Uart) (r : Uart) : (t.modUart n f).slowWoken r = t.modUart n f :=
  State.slowWoken_fast (s := t.modUart n f) h r

theorem exec_uartStartEdge_false (v : List Bool) (h : v.length < 2 * v.count true) : exec (.uartStartEdge u v) s = .next s := by
  refine (show exec (.uartStartEdge u v) s = execUartStartEdge u v s from rfl).trans ?_
  unfold execUartStartEdge
  exact if_neg (by simp [highBit, h])

theorem exec_uartStartEdge (v : List Bool) (hf : s.fast = true) (hu : u.val ≠ 6) (hr : (vget s.uarts u.val).rxen = true)
    (hl : (vget s.uarts u.val).rxLine = none) (hb : (vget s.uarts u.val).breakActive = false) (h : 2 * v.count true ≤ v.length) :
    exec (.uartStartEdge u v) s = .next (s.modUart u.val fun k => { k with rxLine := some (k.lineAt s.now), rxStart := s.now }) := by
  refine (show exec (.uartStartEdge u v) s = execUartStartEdge u v s from rfl).trans ?_
  unfold execUartStartEdge
  exact if_pos (by simp [isDrumUart_of_ne hu, State.uartRuns_fast hf, hr, hl, hb, highBit, h])

/-- An entry that finds room. -/
theorem Uart.receive_room {k : Uart} (b dt : Nat) (h : k.rx.length < 64) : (k.receive b dt).rx =
    k.rx ++ [{ bits := BitVec.ofNat 22 (b + bitsOf [(k.dropped, 19), (k.wokeNext, 21)]), dt := dt }] ∧ (k.receive b dt).dropped = false := by
  unfold Uart.receive
  rw [if_neg (by omega)]
  exact ⟨rfl, rfl⟩

theorem Uart.receive_full {k : Uart} (b dt : Nat) (h : 64 ≤ k.rx.length) :
    k.receive b dt = { k with dropped := true, overrun := true, nDropped := sat16 k.nDropped } := if_pos h

/-- The level of a bit: the majority of its samples. -/
def charLevel (ch : UartChar) (i : Nat) : Bool := highBit (ch.bits.getD i [])

/-- The parity bit received is not the one that the data ask for. -/
def parityWrong (ch : UartChar) (l : LineSettings) : Bool :=
  l.parityBits == 1 && charLevel ch l.dataBits != l.parityOf ((List.range l.dataBits).map (charLevel ch))

/-- The entry of a character received while the fast clocks run, but for the flags that the FIFO gives it. -/
def charEntry (ch : UartChar) (l : LineSettings) : Nat :=
  bitsOf (((List.range l.dataBits).map (charLevel ch)).zip (List.range l.dataBits)) +
    bitsOf [(parityWrong ch l, 16), (!charLevel ch (l.dataBits + l.parityBits), 17), (false, 20)]

/-- The character's stop-bit decision is reached on a line in use. -/
structure State.Decides (s : State) (u : Fin 8) (l : LineSettings) : Prop where
  fast : s.fast = true
  drum : u.val ≠ 6
  line : (vget s.uarts u.val).rxLine = some l
  noBreak : (vget s.uarts u.val).breakActive = false
  due : (vget s.uarts u.val).rxStart + l.span (16 * (l.dataBits + l.parityBits) + 25) ≤ s.now + l.slack

theorem allLow_iff (f : Nat → Bool) (n : Nat) : (!f n && (List.range n).all fun i => !f i) = true ↔ ∀ i ≤ n, f i = false := by
  rw [Bool.and_eq_true, List.all_eq_true]
  simp only [List.mem_range, Bool.not_eq_true']
  refine ⟨fun ⟨hn, h⟩ i hi => ?_, fun h => ⟨h n le_rfl, fun i hi => h i hi.le⟩⟩
  obtain hi | rfl := Nat.lt_or_eq_of_le hi
  · exact h i hi
  · exact hn

section
variable {l : LineSettings} (ch : UartChar) (h : s.Decides u l)
include h

/-- A character whose bits are all low begins a break. -/
theorem State.uartReceive_low (hlow : ∀ i ≤ l.dataBits + l.parityBits, charLevel ch i = false) :
    s.uartReceive u.val ch = s.modUart u.val fun k => { k with breakActive := true } := by
  unfold State.uartReceive
  extract_lets r level v
  rw [show r.rxLine = some l from h.line]
  dsimp -zeta only
  extract_lets n m data stop parityErr bits
  rw [if_neg (by simp [r, n, m, isDrumUart_of_ne h.drum, State.uartRuns_fast h.fast, h.noBreak, h.due])]
  exact if_pos ((allLow_iff level (n + m)).2 hlow)

/-- Another character enters the receive FIFO. -/
theorem State.uartReceive_entry (hhigh : ∃ i ≤ l.dataBits + l.parityBits, charLevel ch i = true) : (s.uartReceive u.val ch).pwr = s.pwr ∧
    ∃ p f, vget (s.uartReceive u.val ch).uarts u.val =
      { (vget s.uarts u.val).receive (charEntry ch l) s.now with rxLine := none, nRx := sat32 (vget s.uarts u.val).nRx, nParity := p, nFraming := f } := by
  unfold State.uartReceive
  extract_lets r level v
  rw [show r.rxLine = some l from h.line]
  dsimp -zeta only
  extract_lets n m data stop parityErr bits
  rw [if_neg (by simp [r, n, m, isDrumUart_of_ne h.drum, State.uartRuns_fast h.fast, h.noBreak, h.due])]
  have hl : ¬ (!stop && (List.range (n + m)).all fun i => !level i) = true := fun hn => by
    obtain ⟨i, hi, he⟩ := hhigh
    exact Bool.eq_false_iff.1 ((allLow_iff level (n + m)).1 hn i hi) he
  have hbits : bits = charEntry ch l := by
    have hv : v.fast = true := h.fast
    dsimp only [bits]
    rw [hv]
    rfl
  rw [if_neg hl, hbits]
  exact ⟨rfl, _, _, v.uart_modUart u _⟩
end

theorem uartCharacter_breaks {l : LineSettings} (ch : UartChar) (h : s.Decides u l) (hlow : ∀ i ≤ l.dataBits + l.parityBits, charLevel ch i = false) :
    exec (.uartCharacterReceived u ch) s = .next (s.modUart u.val fun k => { k with breakActive := true }) := by
  refine congrArg Host.Outcome.next ?_
  rw [State.uartReceive_low ch h hlow]
  exact State.slowWoken_modUart h.fast ..

theorem uartCharacter_enters {l : LineSettings} (ch : UartChar) (h : s.Decides u l) (hhigh : ∃ i ≤ l.dataBits + l.parityBits, charLevel ch i = true) :
    ∃ t, exec (.uartCharacterReceived u ch) s = .next t ∧ (vget t.uarts u.val).rxLine = none ∧
      (vget t.uarts u.val).nRx = sat32 (vget s.uarts u.val).nRx ∧
      ((vget s.uarts u.val).rx.length < 64 → (vget t.uarts u.val).rx = (vget s.uarts u.val).rx ++
        [⟨BitVec.ofNat 22 (charEntry ch l + bitsOf [((vget s.uarts u.val).dropped, 19), ((vget s.uarts u.val).wokeNext, 21)]), s.now⟩] ∧
        (vget t.uarts u.val).dropped = false) ∧
      (64 ≤ (vget s.uarts u.val).rx.length → (vget t.uarts u.val).rx = (vget s.uarts u.val).rx ∧ (vget t.uarts u.val).dropped = true ∧
        (vget t.uarts u.val).overrun = true ∧ (vget t.uarts u.val).nDropped = sat16 (vget s.uarts u.val).nDropped) := by
  obtain ⟨hpwr, p, f, e⟩ := State.uartReceive_entry ch h hhigh
  have hf : (s.uartReceive u.val ch).fast = true := (congrArg (fun p : Pwr => p.phase.fast) hpwr).trans h.fast
  refine ⟨_, rfl, ?_⟩
  rw [State.slowWoken_fast hf, e]
  refine ⟨rfl, rfl, fun hr => Uart.receive_room _ _ hr, fun hr => ?_⟩
  rw [Uart.receive_full _ _ hr]
  exact ⟨rfl, rfl, rfl, rfl⟩

/-- The bits of a character's entry. -/
theorem charEntry_bits (ch : UartChar) (l : LineSettings) (dr w : Bool) {e : BitVec 22}
    (he : e = BitVec.ofNat 22 (charEntry ch l + bitsOf [(dr, 19), (w, 21)])) :
    (∀ i < l.dataBits, e.getLsbD i = charLevel ch i) ∧ (∀ i < 16, l.dataBits ≤ i → e.getLsbD i = false) ∧ e.getLsbD 16 = parityWrong ch l ∧
      e.getLsbD 17 = !charLevel ch (l.dataBits + l.parityBits) ∧ e.getLsbD 18 = false ∧ e.getLsbD 19 = dr ∧ e.getLsbD 20 = false ∧ e.getLsbD 21 = w := by
  obtain ⟨hlt, hbit⟩ := bitsOf_range (charLevel ch) l.dataBits
  have hd : l.dataBits ≤ 12 := by
    have := l.dbits.isLt
    unfold LineSettings.dataBits
    omega
  obtain ⟨hc, h⟩ := entryBits (hlt.trans_le (Nat.pow_le_pow_right Nat.two_pos (by omega))) (parityWrong ch l) (!charLevel ch (l.dataBits + l.parityBits)) dr w he
  exact ⟨fun i hi => by rw [hc i (by omega), hbit, decide_eq_true hi, Bool.true_and],
    fun i hi hn => by rw [hc i hi, hbit, decide_eq_false (by omega), Bool.false_and], h⟩

theorem uartBreak_ends {l : LineSettings} (hf : s.fast = true) (hu : u.val ≠ 6) (hl : (vget s.uarts u.val).rxLine = some l)
    (hb : (vget s.uarts u.val).breakActive = true) (hr : (vget s.uarts u.val).rx.length < 64) :
    ∃ t, exec (.uartBreakReceived u) s = .next t ∧
      (vget t.uarts u.val).breakActive = false ∧ (vget t.uarts u.val).breakEnd = true ∧
      ∃ e : RxEntry, (vget t.uarts u.val).rx = (vget s.uarts u.val).rx ++ [e] ∧ e.dt = s.now ∧ e.bits = BitVec.ofNat 22
        (min 65535 ((s.now - (vget s.uarts u.val).rxStart) / max 1 (l.span 16)) +
          bitsOf [(true, 18), ((vget s.uarts u.val).dropped, 19), ((vget s.uarts u.val).wokeNext, 21)]) := by
  have hbreak : s.uartBreak u.val = (s.claim 7).2.modUart u.val fun k =>
      { k.receive (min 65535 ((s.now - (vget s.uarts u.val).rxStart) / max 1 (l.span 16)) + bitsOf [(true, 18), (false, 20)]) s.now with
        breakActive := false, rxLine := none, breakEnd := true, nBreaksRx := sat16 k.nBreaksRx } := by
    unfold State.uartBreak
    extract_lets r v length bits
    have hbits : bits = min 65535 ((s.now - (vget s.uarts u.val).rxStart) / max 1 (l.span 16)) + bitsOf [(true, 18), (false, 20)] := by
      dsimp only [bits, length]
      rw [show v.fast = true from hf, show r.rxLine = some l from hl]
      rfl
    rw [if_neg (by simp [r, isDrumUart_of_ne hu, State.uartRuns_fast hf, hb]), hbits]
    rfl
  refine ⟨_, rfl, ?_⟩
  rw [hbreak, State.slowWoken_modUart (t := (s.claim 7).2) hf, State.uart_modUart]
  refine ⟨rfl, rfl, _, (Uart.receive_room _ _ hr).1, rfl, ?_⟩
  dsimp only
  simp only [bitsOf_cons, bitsOf_nil]
  congr 1
  rw [show b2n false = 0 from rfl]
  omega

/-! ## Sending (14 R485, R489) -/

theorem State.uart_uartStart (s : State) (u : Fin 8) : vget (s.uartStart u.val).uarts u.val = ((vget s.uarts u.val).startNext s.now).1 := by
  unfold State.uartStart
  extract_lets r v
  have hv : vget v.uarts u.val = r.1 := s.uart_modUart u fun _ => r.1
  split
  · exact hv
  · next id _ =>
    obtain ⟨_, _, _, _, e⟩ := v.acceptedReply_eq id
    rw [e]
    exact hv

/-- A free transmitter without a break to send takes the next character. -/
theorem Uart.startNext_idle {k : Uart} (now : Nat) (hs : k.shifter = none) (hb : k.sending = none) (hq : k.brkReq = none) :
    (k.startNext now).1.nTx = k.nTx ∧ (k.startNext now).1.shifter = (if k.txen then k.tx.head? else none) ∧
      (k.startNext now).1.tx = (if k.txen then k.tx.tail else k.tx) := by
  unfold Uart.startNext
  rw [if_neg (by simp [hs, hb]), hq]
  dsimp only
  cases hx : k.txen with
  | false => exact ⟨rfl, hs, rfl⟩
  | true =>
    rw [if_neg (by simp)]
    cases ht : k.tx with
    | nil => exact ⟨rfl, hs, ht⟩
    | cons c r => exact ⟨rfl, rfl, congrArg List.tail ht⟩

/-- What a transmitter starts is no break where none waits. -/
theorem Uart.startNext_noBreak {k : Uart} (now : Nat) (hb : k.sending = none) (hq : k.brkReq = none) : (k.startNext now).1.sending = none ∧
    (k.startNext now).1.breakEnd = k.breakEnd ∧ (k.startNext now).1.nBreaksTx = k.nBreaksTx := by
  unfold Uart.startNext
  split
  · exact ⟨hb, rfl, rfl⟩
  · rw [hq]
    dsimp only
    split
    · exact ⟨hb, rfl, rfl⟩
    · split
      · exact ⟨hb, rfl, rfl⟩
      · exact ⟨hb, rfl, rfl⟩

theorem uartCharacter_sent (hf : s.fast = true) (hu : u.val ≠ 6) (hs : (vget s.uarts u.val).shifter.isSome = true)
    (hb : (vget s.uarts u.val).sending = none) (hq : (vget s.uarts u.val).brkReq = none)
    (ht : (vget s.uarts u.val).txStart + (vget s.uarts u.val).txLine.span (16 * (vget s.uarts u.val).txLine.charBits) ≤
      s.now + (vget s.uarts u.val).txLine.slack) : ∃ t, exec (.uartCharacterSent u) s = .next t ∧
      (vget t.uarts u.val).nTx = sat32 (vget s.uarts u.val).nTx ∧
      (vget t.uarts u.val).shifter = (if (vget s.uarts u.val).txen then (vget s.uarts u.val).tx.head? else none) ∧
      (vget t.uarts u.val).tx = if (vget s.uarts u.val).txen then (vget s.uarts u.val).tx.tail else (vget s.uarts u.val).tx := by
  have he : exec (.uartCharacterSent u) s = execUartCharacterSent u s := rfl
  unfold execUartCharacterSent at he
  extract_lets v at he
  rw [if_neg hu, if_pos (by simp [State.uartRuns_fast hf, hs, Uart.sentBits, ht])] at he
  refine ⟨_, he, ?_⟩
  have hk : vget (v.modUart u.val fun r => { r with shifter := none, nTx := sat32 r.nTx }).uarts u.val =
      { vget s.uarts u.val with shifter := none, nTx := sat32 (vget s.uarts u.val).nTx } := v.uart_modUart u _
  rw [State.uart_uartStart, hk]
  exact Uart.startNext_idle _ rfl hb hq

theorem uartBreak_sent {b : SendBreak} (hf : s.fast = true) (hb : (vget s.uarts u.val).sending = some b) (hq : (vget s.uarts u.val).brkReq = none)
    (ht : (vget s.uarts u.val).txStart + (vget s.uarts u.val).txLine.span (16 * (b.length + 1)) ≤ s.now + (vget s.uarts u.val).txLine.slack) :
      ∃ t, exec (.uartBreakSent u) s = .next t ∧ (vget t.uarts u.val).sending = none ∧
      (vget t.uarts u.val).breakEnd = true ∧ (vget t.uarts u.val).nBreaksTx = sat16 (vget s.uarts u.val).nBreaksTx := by
  have he : exec (.uartBreakSent u) s = execUartBreakSent u s := rfl
  unfold execUartBreakSent at he
  rw [hb] at he
  dsimp -zeta only at he
  extract_lets v w at he
  rw [if_neg (by simp [State.uartRuns_fast hf, Uart.sentBits, ht])] at he
  have hv : vget v.uarts u.val =
      { vget s.uarts u.val with sending := none, breakEnd := true, nBreaksTx := sat16 (vget s.uarts u.val).nBreaksTx } := s.uart_modUart u _
  have hw : w.uarts = v.uarts := by
    dsimp only [w]
    split
    · rfl
    · next id _ =>
      have h := v.reports_finalReply id .ok 0 []
      unfold State.Reports at h
      rw [h]
  refine ⟨_, he, ?_⟩
  rw [State.uart_uartStart, hw, hv]
  exact Uart.startNext_noBreak _ rfl hq
end

/-- Settles O47, event by event. -/
theorem uartLines : Obligations.UartLines := by
  unfold Obligations.UartLines
  rintro s u r rfl hf
  refine ⟨exec_uartStartEdge_false, fun v hu hr hl hb hv => exec_uartStartEdge v hf hu hr hl hb hv, fun ch l n level hu hl hb hn hlevel ht => ?_,
    fun l hu hl hb hr => uartBreak_ends hf hu hl hb hr, fun h6 => ?_, fun hu hs hb hq ht => uartCharacter_sent hf hu hs hb hq ht,
    fun b hb hq ht => uartBreak_sent hf hb hq ht, fun z hw he h7 => ?_⟩
  · obtain rfl : level = charLevel ch := funext hlevel
    subst hn
    have h : s.Decides u l := ⟨hf, hu, hl, hb, ht⟩
    refine ⟨uartCharacter_breaks ch h, fun hhigh => ?_⟩
    obtain ⟨t, he, h1, h2, h3, h4⟩ := uartCharacter_enters ch h hhigh
    refine ⟨t, he, h1, h2, fun hr => ?_, h4⟩
    obtain ⟨hrx, hdrop⟩ := h3 hr
    obtain ⟨b1, b2, b3, b4, b5, b6, b7, b8⟩ := charEntry_bits ch l _ _ rfl
    exact ⟨_, hrx, rfl, b1, b2, b3, b4, b5, b6, b7, b8, hdrop⟩
  · refine (show exec (.uartCharacterSent u) s = execUartCharacterSent u s from rfl).trans ?_
    unfold execUartCharacterSent
    exact if_pos h6
  · refine (show exec (.uartWakeEdge u) z = execUartWakeEdge u z from rfl).trans ?_
    unfold execUartWakeEdge
    extract_lets slow7
    have hs : slow7 = false := by
      refine Bool.eq_false_iff.2 fun h => ?_
      obtain ⟨h, hp⟩ := Bool.and_eq_true_iff.1 h
      obtain ⟨hu, hl⟩ := Bool.and_eq_true_iff.1 h
      exact Bool.eq_false_iff.1 (h7 (eq_of_beq hu) (eq_of_beq hp)) hl
    exact if_neg (by rw [hw, hs, he]; decide)
end Sys2Proof.Machine

/-! # The seal loop, signing, the inspection port and load checks (O50) -/

namespace Sys2Proof.Machine

/-! ## What an entry leaves of the seal (09 R318, R320) -/

/-- From `s` to `t` only the audit trail and its counters have changed. -/
def State.Entered (s t : State) : Prop :=
  t = { s with sealed := { s.sealed with
    main := t.sealed.main, pinned := t.sealed.pinned, auditSeq := t.sealed.auditSeq, counters := t.sealed.counters
    overflowed := t.sealed.overflowed, notEntered := t.sealed.notEntered, notEnteredDt := t.sealed.notEnteredDt } }

theorem State.Entered.trans {s t u : State} (h : s.Entered t) (k : t.Entered u) : s.Entered u := by
  unfold State.Entered at *
  rw [h] at k
  exact k

section
variable {s t : State} (h : s.Entered t)
include h

theorem State.Entered.table : t.sealed.table = s.sealed.table := by rw [h]
theorem State.Entered.due : t.sealed.due = s.sealed.due := by rw [h]
theorem State.Entered.storeSeq : t.sealed.storeSeq = s.sealed.storeSeq := by rw [h]
theorem State.Entered.records : t.sealed.records = s.sealed.records := by rw [h]
end

section
variable (s : State) (ty cause dt : Nat) (co st : Bool) (d : List Byte)

theorem State.entered_writeEntry : s.Entered (s.writeEntry ty cause dt co st d) := by
  dsimp only [State.Entered, State.writeEntry, State.modSeal]

theorem State.entered_audit (row : Option Nat) : s.Entered (s.audit ty row cause dt co st d) := by
  unfold State.audit
  cases row
  all_goals
    extract_lets u u'
    have hu : s.Entered u := rfl
    have hu' : u.Entered u' := by
      dsimp only [u']
      split
      · exact State.entered_writeEntry ..
      · exact rfl
    have hv : u'.Entered (u'.modSeal fun v => { v with
        counters := vmod v.counters 17 sat32, overflowed := true, notEntered := v.notEntered + 1, notEnteredDt := dt }) := rfl
    split
    · exact hu.trans (State.entered_writeEntry ..)
    · exact (hu.trans hu').trans hv

/-- An entry's own counter and those of the entries and of the overflows are all that advance. -/
theorem State.writeEntry_counter {k : Nat} (h0 : k ≠ 0) :
    vget (s.writeEntry ty cause dt co st d).sealed.counters k = vget s.sealed.counters k := by
  unfold State.writeEntry
  exact vget_vmod_other _ _ h0

theorem State.audit_counter (row : Option Nat) {k : Nat} (h0 : k ≠ 0) (h17 : k ≠ 17) :
    vget (s.audit ty row cause dt co st d).sealed.counters k =
      vget (match row with | none => s.sealed.counters | some r => vmod s.sealed.counters r sat32) k := by
  unfold State.audit
  extract_lets u u'
  have hu : u.sealed.counters = (match row with | none => s.sealed.counters | some r => vmod s.sealed.counters r sat32) := by
    cases row <;> rfl
  have hu' : vget u'.sealed.counters k = vget u.sealed.counters k := by
    dsimp only [u']
    split
    · exact State.writeEntry_counter _ _ _ _ _ _ _ h0
    · rfl
  rw [← hu]
  split
  · exact State.writeEntry_counter _ _ _ _ _ _ _ h0
  · exact (vget_vmod_other _ _ h17).trans hu'

theorem State.audit_counter_own {r : Nat} (h0 : r ≠ 0) (h17 : r < 17) :
    vget (s.audit ty (some r) cause dt co st d).sealed.counters r = sat32 (vget s.sealed.counters r) :=
  (s.audit_counter ty cause dt co st d (some r) h0 h17.ne).trans (vget_vmod_same _ _ (by omega))

theorem State.audit_counter_other {r k : Nat} (h0 : k ≠ 0) (h17 : k ≠ 17) (h : k ≠ r) :
    vget (s.audit ty (some r) cause dt co st d).sealed.counters k = vget s.sealed.counters k :=
  (s.audit_counter ty cause dt co st d (some r) h0 h17).trans (vget_vmod_other _ _ h)
end

/-! ## The seal loop (09 R311) -/

section
variable {s : State}

/-- A record that falls due leaves the loop and every counter of an event but RECORD_HOLD. -/
theorem State.recordDue_loop (s : State) (r : DueRecord) : (s.recordDue r).sealed.loopOpen = s.sealed.loopOpen ∧
    ∀ k, k ≠ 0 → k ≠ 13 → k ≠ 17 → vget (s.recordDue r).sealed.counters k = vget s.sealed.counters k := by
  unfold State.recordDue
  extract_lets v u
  have hu : u.sealed.loopOpen = s.sealed.loopOpen := by
    dsimp only [u]
    rw [s.entered_audit]
  split
  · exact ⟨rfl, fun _ _ _ _ => rfl⟩
  · split
    · split <;> exact ⟨rfl, fun _ _ _ _ => rfl⟩
    · split
      · exact ⟨hu, fun k h0 h13 h17 => State.audit_counter_other _ _ _ _ _ _ _ h0 h17 h13⟩
      · split <;> exact ⟨rfl, fun _ _ _ _ => rfl⟩

/-- What follows when the loop opens in SEALED. -/
theorem State.sealOpened_sealed (dt : Nat) (co st : Bool) (h : s.sealed.state = .sealed) : (s.sealOpened dt co st).sealed.state = .opened ∧
    (s.sealOpened dt co st).sealed.loopOpen = s.sealed.loopOpen ∧
    vget (s.sealOpened dt co st).sealed.counters 1 = sat32 (vget s.sealed.counters 1) := by
  unfold State.sealOpened
  rw [if_neg (by simp [h])]
  dsimp -zeta only
  extract_lets u v
  have hv : v.sealed.loopOpen = s.sealed.loopOpen := by
    dsimp only [v]
    rw [u.entered_audit]
    rfl
  have hr := v.recordDue_loop
  exact ⟨(v.sealStateRecord_state ..).trans (u.audit_state ..), (hr _).1.trans hv,
    ((hr _).2 1 (by decide) (by decide) (by decide)).trans (u.audit_counter_own _ _ _ _ _ _ (by decide) (by decide))⟩

/-- In RUN a wake source does nothing. -/
theorem State.wakeOn_running (src : Nat) (h : s.pwr.phase = .running) : s.wakeOn src = s := by
  unfold State.wakeOn
  split
  · rfl
  · rw [h]

/-- The state in which the open loop is judged in RUN. -/
def State.loopOpened (s : State) : State :=
  (s.modSeal fun v => { v with loopOpen := true }).modPwr fun p => { p with sealLevel := true }

theorem exec_sealLoopOpen (hp : s.pwr.phase = .running) : exec .sealLoopOpen s =
    if s.sealed.state != .sealed then .next s.loopOpened
    else if s.domeService && !s.domeGranted then .next (s.loopOpened.sealOpened s.now false false)
    else if s.sealed.latched.isNone then .next (s.loopOpened.modSeal fun v => { v with latched := some (s.now, !s.fast) })
    else .next s.loopOpened := by
  have he : exec .sealLoopOpen s = execSealLoopOpen s := rfl
  unfold execSealLoopOpen at he
  rw [if_neg (by rw [hp]; decide)] at he
  extract_lets u v at he
  have hv : v = s.loopOpened := State.wakeOn_running 2 hp
  clear_value v
  subst hv
  rw [he]
  refine if_congr Iff.rfl rfl (if_congr Iff.rfl rfl ?_)
  exact if_neg (by rw [show s.loopOpened.pwr.phase = .running from hp]; exact Bool.false_ne_true)

theorem sealLoopOpen_sealed (hd : s.domeService = true) (hp : s.pwr.phase = .running) (he : s.pwr.entry = none) (hs : s.sealed.state = .sealed) :
    ∃ t, exec .sealLoopOpen s = .next t ∧ t.sealed.loopOpen = true ∧ t.sealed.state = .opened ∧
      vget t.sealed.counters 1 = sat32 (vget s.sealed.counters 1) := by
  have hg : s.domeGranted = false := by unfold State.domeGranted; rw [he]; rfl
  obtain ⟨h1, h2, h3⟩ := State.sealOpened_sealed (s := s.loopOpened) s.now false false hs
  refine ⟨_, ?_, h2, h1, h3⟩
  rw [exec_sealLoopOpen hp, if_neg (by rw [hs]; decide), if_pos (by rw [hd, hg]; rfl)]

theorem sealLoopOpen_unsealed (hp : s.pwr.phase = .running) (hs : s.sealed.state ≠ .sealed) : ∃ t, exec .sealLoopOpen s = .next t ∧
    t.sealed.loopOpen = true ∧ t.sealed.state = s.sealed.state :=
  ⟨_, (exec_sealLoopOpen hp).trans (if_pos (by simpa using hs)), rfl, rfl⟩

/-! ## Signing and the odometer (09 R324, R332) -/

theorem State.length_recordBody (v : State) (r : DueRecord) : (v.recordBody r).length = 112 := by
  unfold State.recordBody
  simp only [List.length_append, length_le, length_fit]

/-- The newest of a list survives its shortening. -/
theorem mem_drop_append {α : Type} (l : List α) (x : α) {n : Nat} (h : 0 < n) : x ∈ (l ++ [x]).drop ((l ++ [x]).length - n) := by
  rw [List.drop_append_of_le_length (by rw [List.length_append, List.length_singleton]; omega)]
  exact List.mem_append_right _ (List.mem_singleton_self x)

theorem signatureComplete_signs {r : DueRecord} {l : List DueRecord} (hd : s.domeService = true) (hl : s.pwr.lowSupply = false)
    (hdue : s.sealed.due = r :: l) : ∃ t, exec .signatureComplete s = .next t ∧
      t.sealed.due = l ∧ t.sealed.storeSeq = s.sealed.storeSeq + 1 ∧ ∃ x : Stored, x ∈ t.sealed.records ∧ x.seq = s.sealed.storeSeq + 1 ∧
        x.dt = r.dt ∧ x.bytes.take 112 = (s.recordBody r).take 112 := by
  have he : exec .signatureComplete s = .next s.signOldest := rfl
  unfold State.signOldest at he
  rw [hdue] at he
  dsimp -zeta only at he
  rw [if_neg (by simp [hd, hl])] at he
  extract_lets body bytes n w at he
  have hx : ({ seq := n, cause := r.cause, dt := r.dt, bytes := bytes } : Stored) ∈ w.sealed.records := by
    dsimp only [w, State.modSeal]
    exact mem_drop_append _ _ (by decide)
  have hbytes : bytes.take 112 = (s.recordBody r).take 112 := by
    have hb : body = s.recordBody r := rfl
    clear_value body
    subst hb
    exact List.take_append_of_le_length (s.length_recordBody r).ge
  have hdue : w.sealed.due = l := rfl
  have hseq : w.sealed.storeSeq = s.sealed.storeSeq + 1 := rfl
  refine ⟨_, he, ?_⟩
  clear_value w
  split
  · have hw := w.entered_audit 0x000E r.cause w.now false false (le 4 n ++ le 1 (byteAt r.body 0)) (some 14)
    rw [hw.due, hw.storeSeq, hw.records]
    exact ⟨hdue, hseq, _, hx, rfl, rfl, hbytes⟩
  · exact ⟨hdue, hseq, _, hx, rfl, rfl, hbytes⟩

theorem exec_odometerCommit (hd : s.domeService = true) (hi : s.sealed.integrating = true) (ht : s.sealed.commitDt + 60 * second ≤ s.now) :
    exec .odometerCommit s = .next s.commitOdo := by
  refine (show exec .odometerCommit s = execOdometerCommit s from rfl).trans (if_pos ?_)
  rw [hd, hi, decide_eq_true ht]
  rfl

/-! ## The inspection port (09 R340–R342) -/

theorem exec_u6ActiveTimeout {d : Nat} (hl : s.sealed.u6Last = some d) (ht : d + 60 * second ≤ s.now) :
    exec .u6ActiveTimeout s = .next { s with sealed := { s.sealed with u6Last := none } } := by
  refine (show exec .u6ActiveTimeout s = execU6ActiveTimeout s from rfl).trans ?_
  unfold execU6ActiveTimeout
  rw [hl]
  exact if_pos ht

/-- A packet has arrived at the inspection port. -/
def State.u6Heard (s : State) : State := { s with sealed := { s.sealed with u6Last := some s.now } }

theorem exec_u6Packet_resync (b : List Byte) (hd : s.domeUp = true) (hr : s.sealed.u6Resync = true) :
    exec (.u6Packet b) s = .next s.u6Heard := by
  refine (show exec (.u6Packet b) s = execU6Packet b s from rfl).trans ?_
  unfold execU6Packet
  rw [if_neg (by rw [hd]; decide)]
  exact if_pos hr

/-- Outside a resynchronisation the checks decide. -/
theorem exec_u6Packet (b : List Byte) (hd : s.domeUp = true) (hr : s.sealed.u6Resync = false) : exec (.u6Packet b) s =
    match u6Checks s b with
    | some (st, d) => .next (s.u6Heard.modSeal fun v =>
        { v with u6Tx := v.u6Tx ++ u6Reply s b true st d [], u6Resync := d == 0xFFFF || st == .crcError })
    | none =>
      match u6Body (parseHeader b).opcode with
      | none => .next s.u6Heard
      | some body =>
        let r := body { id := 0, ring := 0, noReply := (parseHeader b).noReply, payload := (parseHeader b).payload } s.u6Heard
        match r.2 with
        | .final st d p =>
          if (parseHeader b).noReply && st == .ok then .next r.1
          else .next (r.1.modSeal fun v => { v with u6Tx := v.u6Tx ++ u6Reply r.1 b false st d p })
        | _ => .next r.1 := by
  refine (show exec (.u6Packet b) s = execU6Packet b s from rfl).trans ?_
  unfold execU6Packet
  rw [if_neg (by rw [hd]; decide)]
  exact if_neg (ne_true_of_eq_false hr)

theorem u6Packet_refused {b : List Byte} {st : Status} {d : Nat} (hd : s.domeUp = true) (hr : s.sealed.u6Resync = false)
    (hc : u6Checks s b = some (st, d)) : ∃ t, exec (.u6Packet b) s = .next t ∧
      t.sealed.u6Last = some s.now ∧ t.sealed.u6Tx = s.sealed.u6Tx ++ u6Reply s b true st d [] ∧
      (t.sealed.u6Resync = true ↔ d = 0xFFFF ∨ st = .crcError) := by
  refine ⟨_, (exec_u6Packet b hd hr).trans (by rw [hc]), rfl, rfl, ?_⟩
  exact (Bool.or_eq_true_iff).trans (or_congr beq_iff_eq beq_iff_eq)

theorem u6Packet_odoConfig {b : List Byte} (hd : s.domeUp = true) (hr : s.sealed.u6Resync = false) (hc : u6Checks s b = none)
    (ho : (parseHeader b).opcode = 0x0B0B) (hn : (parseHeader b).noReply = false) :
    exec (.u6Packet b) s = .next { s with sealed := { s.sealed with
      u6Last := some s.now, u6Tx := s.sealed.u6Tx ++ u6Reply s b false .ok 0 s.sealed.odo.bytes } } := by
  have hbody : u6Body 0x0B0B = some bodyDomeGetOdoConfig := rfl
  rw [exec_u6Packet b hd hr, hc, ho, hbody, hn]
  exact if_neg Bool.false_ne_true

/-! ## Load checks (09 R328, R343, 12 R441) -/

theorem State.Reports.domeImages {t : State} (h : s.Reports t) : t.domeImages = s.domeImages := by rw [h]

theorem State.Reports.zoneLoad {t : State} (h : s.Reports t) : t.zoneLoad = s.zoneLoad := by rw [h]

/-- A load's check that has come to its end. -/
theorem exec_loadCommitCheckEnd {w : Fin 3} {l : Load} {c : Nat} (ok z : Bool)
    (hl : (if w = 0 then s.domeImages.load else if w = 1 then s.zoneLoad else s.drumImages.load) = some l) (hc : l.check = some c) :
    exec (.loadCommitCheckEnd w ok z) s = .next (if w = 0 then s.domeFwCommitEnd l c ok z
      else if w = 1 then s.zoneCommitEnd l c else s.drumFwCommitEnd l c ok) := by
  refine (show exec (.loadCommitCheckEnd w ok z) s = execLoadCommitCheckEnd w ok z s from rfl).trans ?_
  unfold execLoadCommitCheckEnd
  rw [hl]
  dsimp only
  rw [hc]

theorem Images.setSlot_other (i : Images) (v : ImageSlot) : (i.setSlot (!i.active) v).load = i.load ∧ (i.setSlot (!i.active) v).active = i.active ∧
    (if i.active then (i.setSlot (!i.active) v).a else (i.setSlot (!i.active) v).b) = v := by
  unfold Images.setSlot
  cases i.active <;> exact ⟨rfl, rfl, rfl⟩

section
variable {l : Load} {c : Nat} (hc : l.check = some c)
include hc

theorem drumFwCommit_accepted {ok : Bool} (z : Bool) (hl : s.drumImages.load = some l) (hok : ok = true) (hm : getLe l.bytes 0 4 = 0x4D555244)
    (hv : getLe l.bytes 4 4 = 2) (hg : covered l.got l.length = true) (hf : s.drumImages.fused ≤ getLe l.bytes 16 4) (hs : sha256 l.bytes = l.sha) :
    ∃ u : State, exec (.loadCommitCheckEnd 2 ok z) s = .next (u.finalReply c .ok 0 []) ∧ u.drumImages.load = none ∧
      u.drumImages.active = s.drumImages.active ∧ (if s.drumImages.active then u.drumImages.a else u.drumImages.b) =
        { valid := true, interp := getLe l.bytes 8 4, customer := getLe l.bytes 12 4, length := l.length, sha := l.sha
          rollback := getLe l.bytes 16 4, data := l.data } := by
  have he := exec_loadCommitCheckEnd (w := 2) ok z hl hc
  rw [if_neg (by decide), if_neg (by decide)] at he
  unfold State.drumFwCommitEnd at he
  extract_lets i b detail u slot at he
  have hd : detail = 0 := by
    dsimp only [detail]
    rw [if_neg (by simp [hg]), if_neg (by simp [b, hm, hv]), if_neg (by simp [hok]), if_neg (Nat.not_lt.2 hf), if_neg (by simp [b, hs])]
  rw [if_pos hd] at he
  exact ⟨_, he, Images.setSlot_other { i with load := none } slot⟩

theorem drumFwCommit_unsigned (z : Bool) (hl : s.drumImages.load = some l) (hm : getLe l.bytes 0 4 = 0x4D555244) (hv : getLe l.bytes 4 4 = 2)
    (hg : covered l.got l.length = true) : exec (.loadCommitCheckEnd 2 false z) s =
      .next ({ s with drumImages := { s.drumImages with load := none } }.finalReply c .fault 1 []) := by
  have he := exec_loadCommitCheckEnd (w := 2) false z hl hc
  rw [if_neg (by decide), if_neg (by decide)] at he
  unfold State.drumFwCommitEnd at he
  extract_lets i b detail u slot at he
  have hd : detail = 1 := by
    dsimp only [detail]
    rw [if_neg (by simp [hg]), if_neg (by simp [b, hm, hv]), if_pos (by rfl)]
  rw [if_neg (by rw [hd]; decide), hd] at he
  exact he

theorem domeFwCommit_unsigned (hl : s.domeImages.load = some l) : ∃ t, exec (.loadCommitCheckEnd 0 false true) s = .next t ∧
    t.domeImages = { s.domeImages with load := none } ∧ vget t.sealed.counters 11 = sat32 (vget s.sealed.counters 11) := by
  have he := exec_loadCommitCheckEnd (w := 0) false true hl hc
  rw [if_pos rfl] at he
  unfold State.domeFwCommitEnd at he
  extract_lets i reason u slot v at he
  have hr : reason = 1 := rfl
  rw [if_neg (by rw [hr]; decide)] at he
  have hw := ((u.claim 9).2.audit 0x000B (some 11) (u.claim 9).1 (u.claim 9).2.now false false (le 1 reason ++ le 1 (b2n (!i.active))))
    |>.reports_finalReply c .fault reason []
  refine ⟨_, he, hw.domeImages.trans ?_, (congrArg (vget · 11) (congrArg Seal.counters hw.sealed)).trans (State.audit_counter_own _ _ _ _ _ _ _ (by decide) (by decide))⟩
  rw [State.entered_audit]
  rfl

theorem zoneCommit_faulty {d : Nat} (ok z : Bool) (hl : s.zoneLoad = some l) (hd : l.zoneFault = some d) :
    exec (.loadCommitCheckEnd 1 ok z) s = .next ({ s with zoneLoad := none }.finalReply c .paramRange d []) := by
  have he := exec_loadCommitCheckEnd (w := 1) ok z hl hc
  rw [if_neg (by decide), if_pos rfl] at he
  unfold State.zoneCommitEnd at he
  rw [hd] at he
  exact he

theorem zoneCommit_accepted (ok z : Bool) (hl : s.zoneLoad = some l) (hd : l.zoneFault = none) : ∃ t, exec (.loadCommitCheckEnd 1 ok z) s = .next t ∧
    t.zoneLoad = none ∧ t.sealed.table.generation = s.sealed.table.generation + 1 ∧ t.sealed.table.sha = l.sha ∧
    t.sealed.zones.length = t.sealed.table.polygons.length := by
  have he := exec_loadCommitCheckEnd (w := 1) ok z hl hc
  rw [if_neg (by decide), if_pos rfl] at he
  unfold State.zoneCommitEnd at he
  rw [hd] at he
  dsimp -zeta only at he
  extract_lets u ps v w at he
  have hw := w.reports_finalReply c .ok 0 []
  have hv := (u.claim 9).2.entered_audit 0x0010 (u.claim 9).1 (u.claim 9).2.now false false
    (le 2 ps.length ++ le 2 (l.counts.getD 1 0) ++ fit 16 l.sha) (some 16)
  refine ⟨_, he, hw.zoneLoad.trans ?_, ?_⟩
  · exact (congrArg State.zoneLoad hv).trans rfl
  · rw [hw.sealed]
    exact ⟨congrArg (fun x => x.generation + 1) hv.table, rfl, List.length_map _⟩
end
end

/-- Settles O50, event by event. -/
theorem sealEvents : Obligations.SealEvents := by
  unfold Obligations.SealEvents
  intro s
  exact ⟨sealLoopOpen_sealed, sealLoopOpen_unsealed, rfl, fun r l => signatureComplete_signs, exec_odometerCommit, rfl, fun d => exec_u6ActiveTimeout,
    exec_u6Packet_resync, fun b st d => u6Packet_refused, fun b => u6Packet_odoConfig,
    fun l c ok z hl hc hok hm hv hg hf hs => drumFwCommit_accepted hc z hl hok hm hv hg hf hs,
    fun l c z hl hc hm hv hg => drumFwCommit_unsigned hc z hl hm hv hg, fun l c hl hc => domeFwCommit_unsigned hc hl,
    fun l c d ok z hl hc hd => zoneCommit_faulty hc ok z hl hd, fun l c ok z hl hc hd => zoneCommit_accepted hc ok z hl hd⟩
end Sys2Proof.Machine

/-! # Transactions with the regulator (O52) -/

namespace Sys2Proof.Machine

/-- With nothing waiting the link is ready once its sequence has ended. -/
theorem Rlink.finish_idle {r : Rlink} (hq : r.queue = []) :
    r.finish = { r with seq := none, state := if r.state = 3 then 3 else 1 } := by
  unfold Rlink.finish
  dsimp only
  rw [hq]

/-- A sequence begins at once where none is in progress. -/
theorem Rlink.start_idle {r : Rlink} (p : RPurpose) (v : Nat) (h : r.seq = none) : r.start p v =
    { r with seq := some { purpose := p, volts := v, cfg := r.cfg, at_ := r.opening }, state := if p == .stageOneMode then r.state else 2 } := by
  unfold Rlink.start
  exact if_neg (by rw [h]; exact Bool.false_ne_true)

section
variable {s : State} {q : RSequence}

/-! ## Transactions -/

section
variable (hq : s.rlink.seq = some q)
include hq

theorem rlinkTransactionEnd_page (m : Option (BitVec 8)) (ha : q.at_ = .page) :
    exec (.rlinkTransactionEnd m) s = .next ((s.sent q).modRlink fun r => { r with seq := some { q with at_ := .main } }) := by
  refine (show exec (.rlinkTransactionEnd m) s = execRlinkTransactionEnd m s from rfl).trans ?_
  unfold execRlinkTransactionEnd
  rw [hq]
  dsimp only
  rw [ha]
  rfl

/-- What follows the transaction of the command itself. -/
theorem rlinkTransactionEnd_main (m : Option (BitVec 8)) (ha : q.at_ = .main) : exec (.rlinkTransactionEnd m) s =
    match q.purpose, m with
    | .stageOneMode, some m =>
      if voutModeOk m then .next (((s.sent q).modRlink fun r => { r with voutMode := m, n := m.setWidth 5, state := 1 }).sequenceDone q [])
      else .next ((s.sent q).modRlink fun r => { r with voutMode := m, n := m.setWidth 5, seq := none, state := 3 }).stageOneFailed
    | .stageOneMode, none => .next (s.sent q)
    | .stageOneVolt, _ =>
      if s.rlink.outputOn then .next ((s.sent q).modRlink fun r => { r with seq := some { q with at_ := .ack, stop := s.now } })
      else .next ((s.sent q).sequenceDone q [])
    | _, _ => .next ((s.sent q).modRlink fun r => { r with seq := some { q with at_ := .ack, stop := s.now } }) := by
  refine (show exec (.rlinkTransactionEnd m) s = execRlinkTransactionEnd m s from rfl).trans ?_
  unfold execRlinkTransactionEnd
  rw [hq]
  dsimp only
  rw [ha]
  cases q.purpose <;> cases m <;> rfl

theorem rlinkTransactionEnd_awaits (m : Option (BitVec 8)) (ha : q.at_ = .main) (h1 : q.purpose ≠ .stageOneMode) (h2 : q.purpose ≠ .stageOneVolt) :
    exec (.rlinkTransactionEnd m) s = .next ((s.sent q).modRlink fun r => { r with seq := some { q with at_ := .ack, stop := s.now } }) := by
  refine (rlinkTransactionEnd_main hq m ha).trans ?_
  split
  · contradiction
  · contradiction
  · contradiction
  · rfl

theorem rlinkTransactionEnd_mode (m : BitVec 8) (ha : q.at_ = .main) (hp : q.purpose = .stageOneMode) (he : s.rlink.queue = []) :
    ∃ t, exec (.rlinkTransactionEnd (some m)) s = .next t ∧ t.rlink.voutMode = m ∧ t.rlink.n = m.setWidth 5 ∧
      (m.toNat / 32 = 0 → 16 ≤ m.toNat % 32 → m.toNat % 32 ≤ 24 → t.rlink.state = 2 ∧
        t.rlink.seq = some { purpose := .stageOneVolt, volts := s.rlink.vBare, cfg := s.rlink.cfg, at_ := s.rlink.opening }) ∧
      (m.toNat / 32 ≠ 0 ∨ m.toNat % 32 < 16 ∨ 24 < m.toNat % 32 →
        t.rlink.state = 3 ∧ t.rlink.seq = none ∧ t.rlink.retryAt = some (s.now + second)) := by
  have h := rlinkTransactionEnd_main hq (some m) ha
  rw [hp] at h
  dsimp only at h
  have hok : voutModeOk m = true ↔ m.toNat / 32 = 0 ∧ 16 ≤ m.toNat % 32 ∧ m.toNat % 32 ≤ 24 := by
    simp [voutModeOk, and_assoc]
  by_cases hm : voutModeOk m = true
  · obtain ⟨h0, h1, h2⟩ := hok.1 hm
    rw [if_pos hm] at h
    unfold State.sequenceDone at h
    rw [hp] at h
    dsimp only [State.modRlink, State.rlinkStart] at h
    rw [Rlink.finish_idle (by exact he)] at h
    exact ⟨_, h, rfl, rfl, fun _ _ _ => ⟨rfl, rfl⟩, fun hbad => by omega⟩
  · rw [if_neg hm] at h
    exact ⟨_, h, rfl, rfl, fun h0 h1 h2 => absurd (hok.2 ⟨h0, h1, h2⟩) hm, fun _ => ⟨rfl, rfl, rfl⟩⟩

theorem rlinkTransactionEnd_volt (m : Option (BitVec 8)) (ha : q.at_ = .main) (hp : q.purpose = .stageOneVolt) (ho : s.rlink.outputOn = false)
    (he : s.rlink.queue = []) : ∃ t, exec (.rlinkTransactionEnd m) s = .next t ∧ t.rlink.volts = q.volts ∧
      t.rlink.seq = some { purpose := .stageOneOn, volts := 0, cfg := s.rlink.cfg, at_ := s.rlink.opening } := by
  have h := rlinkTransactionEnd_main hq m ha
  rw [hp] at h
  dsimp only at h
  rw [if_neg (ne_true_of_eq_false ho)] at h
  unfold State.sequenceDone at h
  rw [hp] at h
  dsimp only [State.sent, State.modRlink, State.rlinkStart] at h
  rw [Rlink.finish_idle (by exact he)] at h
  exact ⟨_, h, rfl, rfl⟩

/-! ## Failures (18 R604) -/

theorem rlinkNack_retries (hr : q.retries < 3) : exec .rlinkNack s = .next ((s.sent q).modRlink fun r =>
    { r with seq := some { q with retries := q.retries + 1, at_ := q.cfg.opening, lastNack := true }, retries := sat16 r.retries }) := by
  refine (show exec .rlinkNack s = execRlinkNack s from rfl).trans ?_
  unfold execRlinkNack
  rw [hq]
  exact congrArg _ (if_pos hr)

theorem rlinkNack_fails (hr : q.retries = 3) : exec .rlinkNack s = .next ((s.sent q).sequenceFailed { q with lastNack := true }) := by
  refine (show exec .rlinkNack s = execRlinkNack s from rfl).trans ?_
  unfold execRlinkNack
  rw [hq]
  exact congrArg _ (if_neg (by omega))

theorem rlinkNack_wakeOn (hr : q.retries = 3) (hp : q.purpose = .wakeOn) (he : s.rlink.queue = []) (h3 : s.rlink.state ≠ 3) :
    ∃ t, exec .rlinkNack s = .next t ∧ t.pwr = { s.pwr with phase := .deep, rlinkRetry := true } ∧ t.rlink.seq = none ∧ t.rlink.state = 1 ∧
      t.rlink.faults = sat8 s.rlink.faults ∧ t.rlink.retryAt = some (s.now + second) := by
  have h := rlinkNack_fails hq hr
  unfold State.sequenceFailed at h
  rw [hp] at h
  dsimp only [State.sent, State.modRlink, State.modPwr] at h
  rw [Rlink.finish_idle (by exact he)] at h
  exact ⟨_, h, rfl, rfl, if_neg h3, rfl, rfl⟩

theorem rlinkNack_entryOff (hr : q.retries = 3) (hp : q.purpose = .entryOff) (he : s.rlink.queue = []) : ∃ t, exec .rlinkNack s = .next t ∧
    t.pwr.phase = .turningBack ∧ t.rlink.seq = some { purpose := .entryBack, volts := 0, cfg := s.rlink.cfg, at_ := s.rlink.opening } ∧
    ∀ e, s.pwr.entry = some e → t.pwr.entry = some { e with failure := some ⟨7, 255, s.now, true⟩ } := by
  have h := rlinkNack_fails hq hr
  unfold State.sequenceFailed at h
  rw [hp] at h
  dsimp only [State.sent, State.modRlink, State.modPwr, State.rlinkStart] at h
  rw [Rlink.finish_idle (by exact he)] at h
  exact ⟨_, h, rfl, rfl, fun e hs => congrArg (Option.map _) hs⟩

/-! ## Acknowledgements -/

theorem Rlink.awaiting_ack (ha : q.at_ = .ack) : s.rlink.awaiting = some q := by
  unfold Rlink.awaiting
  rw [hq]
  exact if_pos (beq_iff_eq.2 ha)

theorem rlinkAttemptTimeout_retries (ha : q.at_ = .ack) (hr : q.retries < 3) (ht : q.stop + us (100 * q.cfg.timeout.toNat) ≤ s.now) :
    exec .rlinkAttemptTimeout s = .next (s.modRlink fun r =>
      { r with seq := some { q with retries := q.retries + 1, at_ := q.cfg.opening, lastNack := false }, retries := sat16 r.retries }) := by
  refine (show exec .rlinkAttemptTimeout s = execRlinkAttemptTimeout s from rfl).trans ?_
  unfold execRlinkAttemptTimeout
  rw [Rlink.awaiting_ack hq ha]
  dsimp only
  rw [if_pos ht]
  exact congrArg _ (if_pos hr)
end

section
variable (hw : s.rlink.awaiting = some q)
include hw

/-- PGOOD acknowledges, unless the link is to be polled alone. -/
theorem rlinkAck_pgood (banks : List (Nat × Nat × Nat)) : exec (.rlinkAck none banks) s =
    if q.cfg.ackSrc = 1 then .next (s.modRlink fun r => { r with pgood := !q.purpose.isOff })
    else .next ((s.modRlink fun r => { r with pgood := !q.purpose.isOff }).sequenceDone q banks) := by
  refine (show exec (.rlinkAck none banks) s = execRlinkAck none banks s from rfl).trans ?_
  unfold execRlinkAck
  rw [hw]

/-- A poll acknowledges by bit 11 of STATUS_WORD. -/
theorem rlinkAck_poll (w : BitVec 16) (banks : List (Nat × Nat × Nat)) (h0 : q.cfg.ackSrc ≠ 0) : exec (.rlinkAck (some w) banks) s =
    if w.toNat.testBit 11 == q.purpose.isOff then .next (((s.sent q).modRlink fun r => { r with status := w }).sequenceDone q banks)
    else .next ((s.sent q).modRlink fun r => { r with status := w }) := by
  refine (show exec (.rlinkAck (some w) banks) s = execRlinkAck (some w) banks s from rfl).trans ?_
  unfold execRlinkAck
  rw [hw]
  exact if_neg h0

theorem exec_rlinkPoll (h0 : q.cfg.ackSrc ≠ 0) (w : BitVec 16) :
    exec (.rlinkPoll w) s = .next ((s.sent q).modRlink fun r => { r with status := w }) := by
  refine (show exec (.rlinkPoll w) s = execRlinkPoll w s from rfl).trans ?_
  unfold execRlinkPoll
  rw [hw]
  exact if_neg h0
end

/-- Stage 1's VCORE is on. -/
theorem State.sequenceDone_stageOneOn (banks : List (Nat × Nat × Nat)) (hp : q.purpose = .stageOneOn) (he : s.rlink.queue = []) :
    (s.sequenceDone q banks).pwr = { s.pwr with phase := .waking } ∧
    (s.sequenceDone q banks).rlink = { s.rlink with seq := none, state := if s.rlink.state = 3 then 3 else 1, outputOn := true } := by
  unfold State.sequenceDone
  rw [hp]
  dsimp only [State.modRlink, State.modPwr]
  rw [Rlink.finish_idle (by exact he)]
  exact ⟨rfl, rfl⟩

theorem State.sequenceDone_wakeOn (hp : q.purpose = .wakeOn) :
    (s.sequenceDone q []).pwr = { s.pwr with phase := .waking, lostBanks := [] } ∧ (s.sequenceDone q []).rlink.outputOn = true ∧
    (s.sequenceDone q []).mem = { s.mem with
      lostDrum := 0, lostDome := 0, lostCluster := 0, lostEasel := false, lostLantern := false, lostMbx := false, lost := false } := by
  unfold State.sequenceDone
  rw [hp]
  exact ⟨rfl, rfl, rfl⟩

/-! ## The wire (18 R603) -/

theorem sent_wire (q : RSequence) : ∃ w, (s.sent q).rlink.wire = some w ∧ w.addr = q.cfg.addr ∧ w.pec = q.cfg.pec ∧
    (q.at_ = .page → w.code = 0 ∧ w.data = le 1 q.cfg.page.toNat) ∧ (q.at_ = .ack → w.code = 0x79 ∧ w.data = []) ∧
    (q.at_ = .main →
      (q.purpose = .stageOneMode → w.code = 0x20 ∧ w.data = []) ∧
      (q.purpose = .stageOneOn ∨ q.purpose = .entryBack ∨ q.purpose = .wakeOn → w.code = 1 ∧ w.data = [0x80]) ∧
      (q.purpose = .entryOff → w.code = 1 ∧ w.data = [0]) ∧
      (q.purpose = .stageOneVolt ∨ q.purpose = .stageFive ∨ q.purpose = .profileRaise ∨ q.purpose = .profileLower →
        w.code = 0x21 ∧ w.data = le 2 (voutWord s.rlink.n q.volts))) := by
  refine ⟨_, rfl, rfl, rfl, fun h => ?_, fun h => ?_, fun h => ⟨fun hp => ?_, ?_, fun hp => ?_, ?_⟩⟩
  · simp only [Rlink.transaction, h, and_self]
  · simp only [Rlink.transaction, h, and_self]
  · simp only [Rlink.transaction, h, hp, and_self]
  · rintro (hp | hp | hp) <;> simp only [Rlink.transaction, h, hp, and_self]
  · simp only [Rlink.transaction, h, hp, and_self]
  · rintro (hp | hp | hp | hp) <;> simp only [Rlink.transaction, h, hp, and_self]

/-! ## Retries each second (18 R601, 19 R622) -/

theorem rlinkRetry_deep {d : Nat} {w : WakeEvent} (hr : s.rlink.retryAt = some d) (hd : d ≤ s.now) (hs : s.rlink.seq = none)
    (hp : s.pwr.phase = .deep) (hw : s.pwr.wakeEvent = some w) : ∃ t, exec .rlinkRetry s = .next t ∧
      t.pwr = { s.pwr with wakeEvent := some w, wakeSlow := s.pwr.slow, phase := .wakingOn } ∧ t.rlink.retryAt = none ∧
      t.rlink.seq = some { purpose := .wakeOn, volts := 0, cfg := s.rlink.cfg, at_ := s.rlink.opening } := by
  have he : exec .rlinkRetry s = execRlinkRetry s := rfl
  unfold execRlinkRetry at he
  rw [hr] at he
  dsimp only at he
  rw [if_neg (by simp [hs, hd]), hp, hw] at he
  dsimp only at he
  unfold State.beginWake at he
  dsimp only at he
  rw [if_pos (by simpa [State.modRlink, State.modPwr] using hp)] at he
  dsimp only [State.modRlink, State.modPwr, State.rlinkStart] at he
  rw [Rlink.start_idle _ _ (by exact hs)] at he
  exact ⟨_, he, rfl, rfl, rfl⟩

theorem exec_stage1Retry {d : Nat} (hr : s.rlink.retryAt = some d) (hd : d ≤ s.now) (hs : s.rlink.seq = none) (hp : s.pwr.phase = .lantern) :
    ∃ t, exec .stage1Retry s = .next t ∧ t.rlink.retryAt = none ∧
      t.rlink.seq = some { purpose := .stageOneMode, volts := 0, cfg := s.rlink.cfg, at_ := s.rlink.opening } := by
  have he : exec .stage1Retry s = execStage1Retry s := rfl
  unfold execStage1Retry at he
  rw [hr] at he
  dsimp only at he
  rw [if_pos (by simp [hs, hp, hd])] at he
  dsimp only [State.modRlink, State.rlinkStart] at he
  rw [Rlink.start_idle _ _ (by exact hs)] at he
  exact ⟨_, he, rfl, rfl⟩
end

/-- Settles O52: first what a sequence in progress meets, then the retries each second. -/
theorem regulator : Obligations.Regulator := by
  unfold Obligations.Regulator
  intro s
  refine ⟨fun q hq => ⟨rlinkTransactionEnd_page hq, rlinkTransactionEnd_awaits hq, rlinkTransactionEnd_mode hq,
      fun m ha hp ho he _ => rlinkTransactionEnd_volt hq m ha hp ho he,
      fun hr => ⟨rlinkNack_retries hq hr, fun ha => rlinkAttemptTimeout_retries hq ha hr⟩, rlinkNack_wakeOn hq,
      fun hr hp he _ => rlinkNack_entryOff hq hr hp he, fun ha hp he h3 => ?_, fun ha hp _ _ h1 => ?_, sent_wire q,
      fun ha => exec_rlinkPoll (Rlink.awaiting_ack hq ha)⟩,
    fun d w => rlinkRetry_deep, fun d => exec_stage1Retry⟩
  · have hw := Rlink.awaiting_ack hq ha
    have hoff : q.purpose.isOff = false := by rw [hp]; rfl
    refine ⟨fun h1 => ?_, fun h1 => ?_, fun w h0 => ⟨fun hb => ?_, fun hb => ?_⟩⟩
    · obtain ⟨hpwr, hrl⟩ := (s.modRlink fun r => { r with pgood := !q.purpose.isOff }).sequenceDone_stageOneOn [] hp he
      refine ⟨_, (rlinkAck_pgood hw []).trans (if_neg h1), hpwr, ?_⟩
      rw [hrl]
      exact ⟨rfl, congrArg (!·) hoff, rfl, if_neg h3⟩
    · rw [rlinkAck_pgood hw [], if_pos h1, hoff]
      rfl
    · obtain ⟨hpwr, hrl⟩ := ((s.sent q).modRlink fun r => { r with status := w }).sequenceDone_stageOneOn [] hp he
      refine ⟨_, (rlinkAck_poll hw w [] h0).trans (if_pos (by rw [hb, hoff]; rfl)), hpwr, ?_⟩
      rw [hrl]
      exact ⟨rfl, rfl⟩
    · exact (rlinkAck_poll hw w [] h0).trans (if_neg (by rw [hb, hoff]; decide))
  · exact ⟨_, (rlinkAck_pgood (Rlink.awaiting_ack hq ha) []).trans (if_neg h1), State.sequenceDone_wakeOn hp⟩
end Sys2Proof.Machine

/-! # Entries into power states and what ends them (O51) -/

namespace Sys2Proof.Machine

/-! ## What the participants' acts leave alone -/

/-- From `s` to `t` only the chain and the performance counters have changed. -/
def State.ChainOnly (s t : State) : Prop := t = { s with chain := t.chain, pmon := t.pmon }

theorem State.ChainOnly.trans {s t u : State} (h : s.ChainOnly t) (k : t.ChainOnly u) : s.ChainOnly u := by
  unfold State.ChainOnly at *
  rw [h] at k
  exact k

theorem State.Sends.chainOnly {l : Nat} {s t : State} (h : s.Sends l t) : s.ChainOnly t := by
  obtain ⟨f, p, _, rfl⟩ := h
  exact rfl

theorem State.chainOnly_sendLinkSleep (s : State) (cause : Nat) : s.ChainOnly (s.sendLinkSleep cause) :=
  (State.sends_sendSingle s (by decide) 9 _).chainOnly.trans (State.sends_sendSingle _ (by decide) 9 _).chainOnly

/-- What participant `p` does before it grants (18 R591, 13 R457). -/
def State.readied (s : State) (p : Nat) : State := if p = 0 then s.commitOdo else if p = 6 then s.sendLinkSleep 0 else s

theorem State.readied_keeps (s : State) (p : Nat) : (s.readied p).pwr = s.pwr ∧ (s.readied p).clk = s.clk := by
  unfold State.readied
  split
  · exact ⟨rfl, rfl⟩
  · split
    · rw [s.chainOnly_sendLinkSleep 0]
      exact ⟨rfl, rfl⟩
    · exact ⟨rfl, rfl⟩

/-- A test holds of every element of a vector's list when it holds at each place. -/
theorem all_toList {α : Type} [Inhabited α] {n : Nat} (v : Vector α n) (f : α → Bool) : v.toList.all f = true ↔ ∀ i : Fin n, f (vget v i.val) = true := by
  simp only [List.all_eq_true, Vector.mem_toList_iff, Vector.mem_iff_getElem]
  constructor
  · intro h i
    exact h _ ⟨i.val, i.isLt, by simp [vget, Vector.getD]⟩
  · rintro h _ ⟨i, hi, rfl⟩
    simpa [vget, Vector.getD, hi] using h ⟨i, hi⟩

/-- The first of nine for which a test holds. -/
theorem find?_range_first {f : Nat → Bool} (p : Fin 9) (h : f p.val = true) (hlt : ∀ q : Fin 9, q < p → f q.val = false) :
    (List.range 9).find? f = some p.val := by
  rw [List.find?_range_eq_some]
  refine ⟨h, List.mem_range.2 p.isLt, fun j hj => ?_⟩
  have := hlt ⟨j, hj.trans p.isLt⟩ hj
  simp [this]

section
variable {s : State} {e : Entry}

/-! ## Answers (18 R593) -/

theorem State.asking_some {a : Answer} {p : Nat} (hp : s.pwr.phase = .handshake) (he : s.pwr.entry = some e) (ha : vget e.answers p = a) :
    s.asking p = some (e, a) := by
  unfold State.asking
  rw [if_pos (beq_iff_eq.2 hp), he, ← ha]
  rfl

theorem State.commitEntry_setAnswer (v : State) (e f : Entry) (p : Nat) (a : Answer) : (v.setAnswer e p a).commitEntry f =
    ((({ v with pwr := { v.pwr with phase := .committed, entry := some { f with delays := spanMs (v.now - f.accepted) } } } : State).abortEasel
      6).stopMeasurement 8).stopPulses := rfl

section
variable {p : Fin 9} {d : Nat} (ha : s.asking p.val = some (e, .asked d))
include ha

/-- A participant with nothing in its way grants; the last one commits the entry. -/
theorem exec_entryGrant (hr : s.refusal p.val e.req.target = none) (hd : s.delays p.val = false) : exec (.entryGrant p) s =
    .next (if (vset e.answers p.val .granted).toList.all (· == .granted)
      then ((s.readied p.val).setAnswer e p.val .granted).commitEntry { e with answers := vset e.answers p.val .granted }
      else (s.readied p.val).setAnswer e p.val .granted) := by
  refine (show exec (.entryGrant p) s = execEntryGrant p s from rfl).trans ?_
  unfold execEntryGrant
  rw [ha]
  dsimp only
  rw [if_neg (by rw [hr, hd]; decide)]
  rfl

theorem entryGrant_other {q : Fin 9} (hr : s.refusal p.val e.req.target = none) (hd : s.delays p.val = false) (hq : q ≠ p)
    (hw : vget e.answers q.val ≠ .granted) : exec (.entryGrant p) s =
      .next ((if p.val = 0 then s.commitOdo else if p.val = 6 then s.sendLinkSleep 0 else s).setAnswer e p.val .granted) := by
  refine (exec_entryGrant ha hr hd).trans (congrArg _ (if_neg ?_))
  rw [all_toList]
  intro h
  have := h q
  rw [vget_vset_other _ _ (Fin.val_ne_of_ne hq)] at this
  exact hw (eq_of_beq this)

theorem entryGrant_last {f : Entry} (hr : s.refusal p.val e.req.target = none) (hd : s.delays p.val = false)
    (hall : ∀ q : Fin 9, q ≠ p → vget e.answers q.val = .granted)
    (hf : f = { e with answers := vset e.answers p.val .granted, delays := spanMs (s.now - e.accepted) }) : exec (.entryGrant p) s =
      .next (((({ (if p.val = 0 then s.commitOdo else if p.val = 6 then s.sendLinkSleep 0 else s) with
        pwr := { s.pwr with phase := .committed, entry := some f } } : State).abortEasel 6).stopMeasurement 8).stopPulses) := by
  refine (exec_entryGrant ha hr hd).trans (congrArg _ ((if_pos ?_).trans ?_))
  · rw [all_toList]
    intro q
    by_cases hq : q = p
    · rw [hq, vget_vset_same _ _ p.isLt]
      rfl
    · rw [vget_vset_other _ _ (Fin.val_ne_of_ne hq), hall q hq]
      rfl
  · obtain ⟨hp, hc⟩ := s.readied_keeps p.val
    have hn : (s.readied p.val).now = s.now := congrArg Clock.dt hc
    subst hf
    rw [State.commitEntry_setAnswer, hn, hp]
    rfl

theorem exec_entryDelay {n : Nat} (hn : s.delayAllowed p.val n = true) :
    exec (.entryDelay p n) s = .next (s.setAnswer e p.val (.delayed (s.now + ms n))) := by
  refine (show exec (.entryDelay p n) s = execEntryDelay p n s from rfl).trans ?_
  unfold execEntryDelay
  rw [ha]
  exact if_pos hn
end

theorem exec_entryDelayExpiry {p : Fin 9} {d : Nat} (ha : s.asking p.val = some (e, .delayed d)) (hd : d ≤ s.now) :
    exec (.entryDelayExpiry p) s = .next (s.setAnswer e p.val (.asked s.now)) := by
  refine (show exec (.entryDelayExpiry p) s = execEntryDelayExpiry p s from rfl).trans ?_
  unfold execEntryDelayExpiry
  rw [ha]
  exact if_pos hd

/-! ## Failures (18 R594) -/

theorem State.startPending_none (h1 : s.pwr.pendingReq = none) (h2 : s.pwr.pendingProfile = none) : s.startPending = s := by
  unfold State.startPending
  rw [h1, h2]
  exact ite_self _

theorem State.reports_answerRequest (s : State) (r : EntryReq) (st : Status) (d b n : Nat) : s.Reports (s.answerRequest r st d b n) := by
  unfold State.answerRequest
  split
  · exact s.reports_finalReply ..
  · exact .refl s

theorem State.rejoin_pwr (s : State) (e : Entry) : (s.rejoin e).pwr = s.pwr := by
  unfold State.rejoin
  split <;> rfl

/-- Power as a failed entry leaves it. -/
theorem State.endFailure_pwr (s : State) (e : Entry) (f : EntryFailure) (h0 : f.reason ≠ 0) : (s.endFailure e f).pwr = { s.pwr with
    phase := .running, entry := none, wakeEvent := none, lastReason := f.reason, windowTimers := 0
    lastBlock := if f.block = 255 then 15 else f.block, entryFail := true, failed := sat16 s.pwr.failed } := by
  unfold State.endFailure
  rw [if_neg h0]
  have hu := s.rejoin_pwr e
  extract_lets u st
  have hr := u.reports_claim 9
  generalize u.claim 9 = r at hr ⊢
  obtain ⟨cause, v⟩ := r
  have hw := hr.trans ((v.reports_domeRecord 11 cause 0x12 f.dt
    (le 1 e.req.target.code ++ le 1 f.reason ++ le 1 f.block ++ le 1 0 ++ le 4 e.delays)).trans
    (State.reports_answerRequest _ e.req st (if f.reason = 4 then 0 else f.reason) f.block e.delays))
  dsimp only [State.modPwr]
  rw [hw.pwr, hu]

/-- In the handshake an entry that fails leaves the device in RUN. -/
theorem State.failEntry_handshake {r b : Nat} (n : Bool) (hp : s.pwr.phase = .handshake) (he : s.pwr.entry = some e) (h0 : r ≠ 0) (hb : b ≠ 255)
    (h1 : s.pwr.pendingReq = none) (h2 : s.pwr.pendingProfile = none) : (s.failEntry r b n).pwr = { s.pwr with
      phase := .running, entry := none, wakeEvent := none, lastReason := r, windowTimers := 0, lastBlock := b
      entryFail := true, failed := sat16 s.pwr.failed } := by
  have hfast : s.fast = true := by unfold State.fast; rw [hp]; rfl
  unfold State.failEntry
  rw [he]
  dsimp -zeta only
  extract_lets f e'
  rw [if_pos hfast]
  have h := s.endFailure_pwr e' f h0
  rw [State.startPending_none (by rw [h]; exact h1) (by rw [h]; exact h2), h]
  exact congrArg (fun k => { s.pwr with
      phase := .running, entry := none, wakeEvent := none, lastReason := r, windowTimers := 0, lastBlock := k
      entryFail := true, failed := sat16 s.pwr.failed }) (if_neg hb)

section
variable (hp : s.pwr.phase = .handshake) (he : s.pwr.entry = some e) (h1 : s.pwr.pendingReq = none) (h2 : s.pwr.pendingProfile = none)
include hp he h1 h2

theorem entryRefuse_fails {p : Fin 9} {d r : Nat} (ha : vget e.answers p.val = .asked d) (hr : s.refusal p.val e.req.target = some r) :
    ∃ t, exec (.entryRefuse p) s = .next t ∧ t.pwr = { s.pwr with
      phase := .running, entry := none, wakeEvent := none, lastReason := r, windowTimers := 0, lastBlock := p.val
      entryFail := true, failed := sat16 s.pwr.failed } := by
  have hx : exec (.entryRefuse p) s = execEntryRefuse p s := rfl
  unfold execEntryRefuse at hx
  rw [State.asking_some hp he ha] at hx
  dsimp only at hx
  rw [hr] at hx
  have h0 : r ≠ 0 := by
    rintro rfl
    unfold State.refusal at hr
    split at hr
    · split at hr
      · simp at hr
      · split at hr <;> simp at hr
    · split at hr
      · split at hr <;> simp at hr
      · split at hr
        · split at hr <;> simp at hr
        · simp at hr
  exact ⟨_, hx, State.failEntry_handshake false hp he h0 (by omega) h1 h2⟩

theorem entryNoAnswer_fails {p : Fin 9} {d : Nat} (ha : vget e.answers p.val = .asked d) (hd : d + ms 10 ≤ s.now)
    (hlt : ∀ (q : Fin 9) c, q < p → vget e.answers q.val = .asked c → s.now < c + ms 10) : ∃ t, exec (.entryNoAnswer p) s = .next t ∧
      t.pwr.phase = .running ∧ t.pwr.entry = none ∧ t.pwr.lastReason = 4 ∧ t.pwr.lastBlock = p.val := by
  have hx : exec (.entryNoAnswer p) s = execEntryNoAnswer p s := rfl
  unfold execEntryNoAnswer at hx
  extract_lets silent at hx
  have hs (q : Nat) : silent q = match vget e.answers q with
      | .asked t => decide (s.now ≥ t + ms 10)
      | _ => false := by
    dsimp only [silent]
    rw [State.asking_some hp he rfl]
    cases vget e.answers q <;> rfl
  have hsp : silent p.val = true := by
    rw [hs, ha]
    exact decide_eq_true hd
  have hsq (q : Fin 9) (hq : q < p) : silent q.val = false := by
    rw [hs]
    cases hc : vget e.answers q.val with
    | asked c => exact decide_eq_false (Nat.not_le.2 (hlt q c hq hc))
    | granted => rfl
    | delayed c => rfl
  rw [if_pos hsp, find?_range_first p hsp hsq] at hx
  refine ⟨_, hx, ?_⟩
  rw [State.failEntry_handshake false hp he (by decide) (by omega) h1 h2]
  exact ⟨rfl, rfl, rfl, rfl⟩

theorem entryDelayLimit_fails {p : Fin 9} {d : Nat} (ha : vget e.answers p.val = .delayed d) (hd : e.accepted + ms e.req.delayMax ≤ s.now)
    (hlt : ∀ (q : Fin 9) c, q < p → vget e.answers q.val ≠ .delayed c) : ∃ t, exec .entryDelayLimit s = .next t ∧
      t.pwr.phase = .running ∧ t.pwr.entry = none ∧ t.pwr.lastReason = 5 ∧ t.pwr.lastBlock = p.val := by
  have hx : exec .entryDelayLimit s = execEntryDelayLimit s := rfl
  unfold execEntryDelayLimit at hx
  extract_lets late at hx
  have hs (q : Nat) : late q = match vget e.answers q with
      | .delayed _ => decide (s.now ≥ e.accepted + ms e.req.delayMax)
      | _ => false := by
    dsimp only [late]
    rw [State.asking_some hp he rfl]
    cases vget e.answers q <;> rfl
  have hlp : late p.val = true := by
    rw [hs, ha]
    exact decide_eq_true hd
  have hlq (q : Fin 9) (hq : q < p) : late q.val = false := by
    rw [hs]
    cases hc : vget e.answers q.val with
    | asked c => rfl
    | granted => rfl
    | delayed c => exact absurd hc (hlt q c hq)
  rw [find?_range_first p hlp hlq] at hx
  refine ⟨_, hx, ?_⟩
  rw [State.failEntry_handshake false hp he (by decide) (by omega) h1 h2]
  exact ⟨rfl, rfl, rfl, rfl⟩
end
end

section
variable {s : State}

/-! ## S0 and isolation (18 R595–R597) -/

theorem entryS0_sleep {e : Entry} (hp : s.pwr.phase = .committed) (he : s.pwr.entry = some e) (ht : e.req.target = .sleep) :
    exec .entryS0 s = .next (State.silence ((s.newSegment.modChain fun c =>
      { c with lanes := c.lanes.map fun (l : Lane) =>
          if l.st = .asleep ∨ l.st = .off then l else
            { l with st := .down, lock := false, slept := true, replay := l.replay.filter (·.frame.ftype != 9)
                     queue := l.queue.filter (·.frame.ftype != 9) } }).modPwr fun p =>
      { p with phase := .isolating, s0Dt := s.now, slow := 0, wakeEvent := none, windowTimers := 0, idle := false
               domains := p.domains &&& ~~~domainBit 9 })) := by
  refine (show exec .entryS0 s = execEntryS0 s from rfl).trans ?_
  unfold execEntryS0
  rw [hp, he]
  dsimp only
  rw [if_neg (by simp [ht])]
  simp only [Bool.or_eq_true, beq_iff_eq]
  rfl

theorem State.fast_of_phase {p : Phase} (hp : s.pwr.phase = p) : s.fast = p.fast := congrArg Phase.fast hp

section
variable {e : Entry} (hp : s.pwr.phase = .isolating) (he : s.pwr.entry = some e)
include hp he

/-- The level sources decide once three slow cycles have passed. -/
theorem exec_isolationEnd : exec .isolationEnd s =
    if s.pwr.slow < 3 then .next s
    else if levelSources.any fun src => s.levelAsserted src && s.wakeEnabled src then .next (s.failEntry 6 255 false)
    else if e.req.target == .sleep then .next (s.completeEntry e)
    else .next ((s.modPwr fun p => { p with phase := .turningOff }).rlinkStart .entryOff 0) := by
  refine (show exec .isolationEnd s = execIsolationEnd s from rfl).trans ?_
  unfold execIsolationEnd
  rw [hp, he]

theorem isolationEnd_source {src : Nat} (hs : 3 ≤ s.pwr.slow) (hm : src ∈ levelSources) (ha : s.levelAsserted src = true)
    (hw : s.wakeEnabled src = true) : exec .isolationEnd s = .next (s.modPwr fun p =>
      { p with entry := some { e with failure := some ⟨6, 255, s.now, false⟩ }, phase := .waking }) := by
  rw [exec_isolationEnd hp he, if_neg (Nat.not_lt.2 hs), if_pos (List.any_eq_true.2 ⟨src, hm, by rw [ha, hw]; rfl⟩)]
  unfold State.failEntry
  rw [he]
  dsimp only
  rw [if_neg (by rw [State.fast_of_phase hp]; decide), if_neg (by rw [hp]; decide)]

theorem isolationEnd_quiet (hs : 3 ≤ s.pwr.slow) (hq : ∀ src, src ∈ levelSources → s.levelAsserted src = true → s.wakeEnabled src = false) :
    exec .isolationEnd s = if e.req.target == .sleep then .next (s.completeEntry e)
      else .next ((s.modPwr fun p => { p with phase := .turningOff }).rlinkStart .entryOff 0) := by
  rw [exec_isolationEnd hp he, if_neg (Nat.not_lt.2 hs)]
  refine if_neg fun h => ?_
  obtain ⟨src, hm, hb⟩ := List.any_eq_true.1 h
  obtain ⟨ha, hw⟩ := Bool.and_eq_true_iff.1 hb
  rw [hq src hm ha] at hw
  exact Bool.false_ne_true hw

theorem isolationEnd_sleeps (hs : 3 ≤ s.pwr.slow) (hq : ∀ src, src ∈ levelSources → s.levelAsserted src = true → s.wakeEnabled src = false)
    (ht : e.req.target = .sleep) (hw : s.pwr.wakeEvent = none) : exec .isolationEnd s = .next (s.modPwr fun p =>
      { p with phase := .sleep, lastReason := 0, lastBlock := 15, lastDone := s.now, windowTimers := 0
               completed := satAdd 0xFFFF_FFFF p.completed 1 }) := by
  rw [isolationEnd_quiet hp he hs hq, if_pos (beq_iff_eq.2 ht)]
  unfold State.completeEntry
  rw [ht]
  dsimp only
  rw [if_neg (by decide)]
  dsimp only [State.modPwr]
  rw [hw]

theorem isolationEnd_turnsOff (hs : 3 ≤ s.pwr.slow) (hq : ∀ src, src ∈ levelSources → s.levelAsserted src = true → s.wakeEnabled src = false)
    (ht : e.req.target = .deep ∨ e.req.target = .off) (hr : s.rlink.seq = none) : ∃ t : State, exec .isolationEnd s = .next t ∧
      t.pwr = { s.pwr with phase := .turningOff } ∧ t.rlink.state = 2 ∧
      t.rlink.seq = some { purpose := .entryOff, volts := 0, cfg := s.rlink.cfg, at_ := s.rlink.opening } := by
  have hx := isolationEnd_quiet hp he hs hq
  rw [if_neg (by rcases ht with h | h <;> rw [h] <;> decide)] at hx
  dsimp only [State.modPwr, State.rlinkStart, State.modRlink] at hx
  rw [Rlink.start_idle _ _ hr] at hx
  exact ⟨_, hx, rfl, rfl, rfl⟩
end

/-! ## Wake sources (18 R596, R601) -/

/-- In SLEEP a wake source that is enabled wakes the device. -/
theorem State.wakeOn_sleep (src : Nat) (hp : s.pwr.phase = .sleep) (hw : s.wakeEnabled src = true) : s.wakeOn src =
    s.modPwr fun p => { p with wakeEvent := some ⟨src, s.now, false⟩, wakeSlow := p.slow, phase := .waking } := by
  unfold State.wakeOn
  rw [if_neg (by rw [hw]; decide), hp]
  dsimp only
  unfold State.beginWake
  dsimp only
  exact if_neg (by dsimp only [State.modPwr]; rw [hp]; decide)

theorem wakePin_sleep (hp : s.pwr.phase = .sleep) (hw : s.wakeEnabled 1 = true) : exec (.wakePin true) s = .next (s.modPwr fun p =>
    { p with wakePin := true, wakeEvent := some ⟨1, s.now, false⟩, wakeSlow := p.slow, phase := .waking }) := by
  refine (show exec (.wakePin true) s = execWakePin true s from rfl).trans ?_
  unfold execWakePin
  dsimp only
  rw [if_pos rfl, State.wakeOn_sleep 1 (by exact hp) (by exact hw)]
  rfl

theorem hportWakeEdge_sleep (hp : s.pwr.phase = .sleep) (hw : s.wakeEnabled 3 = true) : exec .hportWakeEdge s = .next (s.modPwr fun p =>
    { p with wakeEvent := some ⟨3, s.now, false⟩, wakeSlow := p.slow, phase := .waking }) := by
  refine (show exec .hportWakeEdge s = execHportWakeEdge s from rfl).trans ?_
  unfold execHportWakeEdge
  rw [if_neg (by rw [hp, hw]; decide), State.wakeOn_sleep 3 hp hw]

theorem kakelWakeActivity_sleep (l : LaneId) (hp : s.pwr.phase = .sleep) (hw : s.wakeEnabled (4 + l.num) = true) :
    exec (.kakelWakeActivity l) s = .next (s.modPwr fun p =>
      { p with wakeEvent := some ⟨4 + l.num, s.now, false⟩, wakeSlow := p.slow, phase := .waking }) := by
  refine (show exec (.kakelWakeActivity l) s = execKakelWakeActivity l s from rfl).trans ?_
  unfold execKakelWakeActivity
  rw [if_pos (by rw [hp]; decide), State.wakeOn_sleep _ hp hw]

theorem wakeOn_turningOff {src : Nat} {w : Option WakeEvent} (hp : s.pwr.phase = .turningOff) (hw : s.wakeEnabled src = true)
    (he : s.pwr.wakeEvent = w) : ∃ t : State, s.wakeOn src = t ∧ t.pwr.wakeEvent = some (w.getD ⟨src, s.now, true⟩) ∧ t.pwr.phase = .turningOff := by
  refine ⟨_, rfl, ?_⟩
  unfold State.wakeOn
  rw [if_neg (by rw [hw]; decide), hp]
  dsimp only
  cases w with
  | none => rw [if_pos (by rw [he]; rfl)]; exact ⟨rfl, hp⟩
  | some v => rw [if_neg (by simp [he])]; exact ⟨he, hp⟩

/-! ## Profiles, domains and clusters (01 R27, 18 R589, 19 R627) -/

theorem profileChangeEffect_done {r : ProfileReq} (hr : s.pwr.profileReq = some r) (hd : s.domeService = true) (h0 : s.pwr.profile ≠ 0)
    (ha : s.atEpoch = true) (hready : s.domainsReady r.profile = true) (hv : s.rlink.point (profilePoint r.profile) ≤ s.rlink.volts) :
    exec .profileChangeEffect s =
      .next (((s.modPwr fun p => { p with profileReq := none }).enterProfile r.profile).finalOption r.cmd .ok 0 []) := by
  refine (show exec .profileChangeEffect s = execProfileChangeEffect s from rfl).trans ?_
  unfold execProfileChangeEffect
  rw [hr]
  dsimp only
  rw [if_neg h0, if_pos (by rw [hd, ha, hready, decide_eq_true hv]; rfl)]

theorem State.syncPorts_pwr (powered : Bool) (d : Nat) : (s.syncPorts powered d).pwr = s.pwr :=
  foldl_keep State.pwr (fun u p => u.syncPort_pwr powered d p) _ s

theorem domainBit_on (m : BitVec 10) (d : Fin 10) : ((m ||| domainBit (d.val + 1)) &&& domainBit (d.val + 1) != 0) = true := by
  have h : (m ||| domainBit (d.val + 1)) &&& domainBit (d.val + 1) = domainBit (d.val + 1) := by
    ext i
    simp only [BitVec.getElem_and, BitVec.getElem_or]
    cases (domainBit (d.val + 1))[i] <;> simp
  rw [h]
  clear h
  revert d
  decide

section
variable {d : Fin 10} {p : PowerUp} (hf : s.pwr.powerUps.find? (fun u => u.domain == d.val + 1) = some p)
  (ht : p.started + upTime (d.val + 1) ≤ s.now)
include hf ht

theorem domainPowerUpComplete_pass : ∃ t, exec (.domainPowerUpComplete d true) s = .next t ∧ t.poweredOn (d.val + 1) = true ∧
    t.pwr.powerUps = s.pwr.powerUps.filter fun u => u.domain != d.val + 1 := by
  have he : exec (.domainPowerUpComplete d true) s = execDomainPowerUpComplete d true s := rfl
  unfold execDomainPowerUpComplete at he
  extract_lets n u v w x at he
  rw [hf] at he
  dsimp -zeta only at he
  rw [if_neg (Nat.not_lt.2 ht), if_pos rfl] at he
  have hw : w.pwr = v.pwr := by
    dsimp only [w]
    split
    · exact State.syncPorts_pwr true 6
    · rfl
  refine ⟨_, he, ?_⟩
  have hpwr : (if 5 ≤ n && n ≤ 8 then w.modBoot fun b => { b with testFrom := vset b.testFrom (n - 5) w.now } else w).pwr = v.pwr := by
    split <;> exact hw
  unfold State.poweredOn
  rw [hpwr]
  exact ⟨domainBit_on _ d, rfl⟩

theorem domainPowerUpComplete_fail : ∃ t, exec (.domainPowerUpComplete d false) s = .next t ∧ t.poweredOn (d.val + 1) = s.poweredOn (d.val + 1) ∧
    t.pwr.failedDomains = s.pwr.failedDomains ||| domainBit (d.val + 1) ∧ t.boot.retryAt = some (s.boot.retryAt.getD (s.now + 10 * second)) := by
  have he : exec (.domainPowerUpComplete d false) s = execDomainPowerUpComplete d false s := rfl
  unfold execDomainPowerUpComplete at he
  extract_lets n u v w x at he
  rw [hf] at he
  dsimp -zeta only at he
  rw [if_neg (Nat.not_lt.2 ht), if_neg Bool.false_ne_true] at he
  refine ⟨_, he, ?_⟩
  cases hr : s.boot.retryAt with
  | none =>
    rw [if_pos (by exact congrArg Option.isNone hr), Option.getD_none]
    exact ⟨rfl, rfl, rfl⟩
  | some k =>
    rw [if_neg (by exact (congrArg Option.isNone hr).trans_ne Bool.false_ne_true), Option.getD_some]
    exact ⟨rfl, rfl, hr⟩
end

theorem clusterBit_on : ∀ c : Fin 4, (BitVec.ofNat 4 (2 ^ c.val)).getLsbD c.val = true := by decide

section
variable {c : Fin 4} (hd : s.domeService = true) (hp : s.poweredOn (5 + c.val) = true) (hc : s.boot.clustersTested.toNat.testBit c.val = false)
  (ht : vget s.boot.testFrom c.val + ms 150 ≤ s.now)
include hd hp hc ht

/-- A cluster's self-test ends. -/
theorem exec_clusterSelfTestComplete (pass : Bool) : exec (.clusterSelfTestComplete c pass) s =
    .next (if pass then s.modBoot fun b => { b with clustersTested := b.clustersTested ||| BitVec.ofNat 4 (2 ^ c.val) }
      else ((s.modBoot fun b => { b with clustersTested := b.clustersTested ||| BitVec.ofNat 4 (2 ^ c.val) }).claim 3).2.failCluster c.val
        ((s.modBoot fun b => { b with clustersTested := b.clustersTested ||| BitVec.ofNat 4 (2 ^ c.val) }).claim 3).1) := by
  refine (show exec (.clusterSelfTestComplete c pass) s = execClusterSelfTestComplete c pass s from rfl).trans ?_
  unfold execClusterSelfTestComplete
  exact if_neg (by rw [hd, hp, hc, decide_eq_false (Nat.not_lt.2 ht)]; decide)

theorem clusterSelfTest_fail : ∃ t, exec (.clusterSelfTestComplete c false) s = .next t ∧ t.boot.clustersFailed.toNat.testBit c.val = true ∧
    t.poweredOn (5 + c.val) = false := by
  refine ⟨_, exec_clusterSelfTestComplete hd hp hc ht false, ?_⟩
  rw [if_neg Bool.false_ne_true]
  obtain ⟨_, _, h3, h4⟩ := State.failCluster_off ((s.modBoot fun b => { b with clustersTested := b.clustersTested ||| BitVec.ofNat 4 (2 ^ c.val) }).claim 3).2 c.val
    ((s.modBoot fun b => { b with clustersTested := b.clustersTested ||| BitVec.ofNat 4 (2 ^ c.val) }).claim 3).1
  refine ⟨?_, h4⟩
  rw [h3, BitVec.testBit_toNat, BitVec.getLsbD_or, clusterBit_on, Bool.or_true]
end

theorem startupComplete_starts (hd : s.domeService = true) (ha : s.atEpoch = true) (hc : s.boot.complete = false) (h5 : s.boot.stageFiveDone = true)
    (hr : s.domainsReady s.startupProfile = true)
    (ht : ∀ c < 4, s.poweredOn (5 + c) = true → s.boot.clustersTested.toNat.testBit c = true) (hp : s.portsReady s.startupProfile = true) :
    ∃ t : State, exec .startupComplete s = .next (t.enterProfile s.startupProfile).startCalibration ∧
      t.boot = { s.boot with complete := true, stage := 6, retryAt := none } ∧ t.pwr = s.pwr := by
  have he : exec .startupComplete s = execStartupComplete s := rfl
  unfold execStartupComplete at he
  extract_lets profile tested u at he
  have htested : tested = true := by
    refine List.all_eq_true.2 fun c hm => ?_
    cases h : s.poweredOn (5 + c) with
    | false => rfl
    | true => exact ht c (List.mem_range.1 hm) h
  rw [if_pos (by rw [hd, ha, hc, h5, hr, htested, hp]; rfl)] at he
  have hu := u.reports_claim 9
  generalize u.claim 9 = r at he hu
  obtain ⟨cause, v⟩ := r
  have hv := hu.trans (v.reports_domeRecord 11 cause 0x13 v.now (le 1 profile ++ le 1 v.boot.clustersFailed.toNat ++ zeros 2))
  exact ⟨_, he, hv.boot, hv.pwr⟩

theorem exec_earlyDomainRetry {d : Nat} (hr : s.boot.retryAt = some d) (ht : d ≤ s.now) (hd : s.domeService = true) (h5 : s.boot.stageFiveDone = false) :
    exec .earlyDomainRetry s = .next ((s.modBoot fun b => { b with retryAt := none }).rlinkStart .stageFive s.rlink.vFull) := by
  refine (show exec .earlyDomainRetry s = execEarlyDomainRetry s from rfl).trans ?_
  unfold execEarlyDomainRetry
  rw [hr]
  dsimp only
  rw [if_neg (by rw [hd]; simpa using ht), if_pos (by simpa [State.modBoot] using h5)]
  rfl
end

/-- Settles O51: the handshake, S0 and isolation, wakes, then profiles, domains and clusters. -/
theorem entries : Obligations.Entries := by
  unfold Obligations.Entries
  intro s
  refine ⟨fun e p q d hp he ha hr hd => entryGrant_other (State.asking_some hp he ha) hr hd,
    fun e f p d hp he ha hr hd => entryGrant_last (State.asking_some hp he ha) hr hd,
    fun e p d r hp he ha hr h1 h2 => entryRefuse_fails hp he h1 h2 ha hr,
    fun e p d hp he ha => ⟨fun n => exec_entryDelay (State.asking_some hp he ha), fun hd hlt h1 h2 => entryNoAnswer_fails hp he h1 h2 ha hd hlt⟩,
    fun e p d hp he ha => ⟨exec_entryDelayExpiry (State.asking_some hp he ha), fun hd hlt h1 h2 => entryDelayLimit_fails hp he h1 h2 ha hd hlt⟩,
    fun e => entryS0_sleep,
    fun e hp he hs => ⟨fun src => isolationEnd_source hp he hs, fun hq => ⟨isolationEnd_sleeps hp he hs hq, isolationEnd_turnsOff hp he hs hq⟩⟩,
    fun e hp he hs => (exec_isolationEnd hp he).trans (if_pos hs),
    fun hp => ⟨wakePin_sleep hp, hportWakeEdge_sleep hp, fun l => kakelWakeActivity_sleep l hp⟩,
    fun src w => wakeOn_turningOff, fun r => profileChangeEffect_done,
    fun d p hf ht => ⟨domainPowerUpComplete_pass hf ht, domainPowerUpComplete_fail hf ht⟩,
    fun c hd hp hc ht => ⟨exec_clusterSelfTestComplete hd hp hc ht true, clusterSelfTest_fail hd hp hc ht⟩,
    startupComplete_starts, fun d => exec_earlyDomainRetry⟩
end Sys2Proof.Machine

/-! # A handover does not mark U7 in slow mode (O53)

14 R491: U7 with a slow line keeps receiving in SLEEP, and the handover leaves its WOKEN bit as it stands; the statement has it set. -/

namespace Sys2Proof.Machine

/-! ## What leaves the UARTs alone -/

/-- The UARTs and the pin's reset that waits are as they were. -/
structure State.UartsKept (s t : State) : Prop where
  uarts : t.uarts = s.uarts
  pinReset : t.pwr.pinReset = s.pwr.pinReset

namespace State.UartsKept

theorem refl (s : State) : s.UartsKept s := ⟨rfl, rfl⟩

theorem trans {s t u : State} (h : s.UartsKept t) (k : t.UartsKept u) : s.UartsKept u :=
  ⟨k.uarts.trans h.uarts, k.pinReset.trans h.pinReset⟩

theorem of_reports {s t : State} (h : s.Reports t) : s.UartsKept t := ⟨by rw [h], by rw [h]⟩

theorem of_powers {s t : State} (h : s.Powers t) (hp : t.pwr = s.pwr) : s.UartsKept t := ⟨by rw [h], by rw [hp]⟩
end State.UartsKept

section
variable (s : State)
open State.UartsKept (refl of_reports of_powers)

theorem State.uartsKept_finalOption (id : Option Nat) (st : Status) (d : Nat) (p : List Byte) : s.UartsKept (s.finalOption id st d p) :=
  of_reports (s.reports_finalOption ..)

theorem State.uartsKept_syncPorts (powered : Bool) (d : Nat) : s.UartsKept (s.syncPorts powered d) :=
  of_powers (s.powers_syncPorts ..) (State.syncPorts_pwr powered d)

theorem State.uartsKept_powerDomains (ds : List Nat) : s.UartsKept (s.powerDomains ds) := by
  refine foldl_related refl .trans (fun u d => ?_) ds s
  split
  · exact refl u
  · exact ⟨rfl, rfl⟩

theorem State.uartsKept_powerDownIdle : s.UartsKept s.powerDownIdle := by
  have off (u : State) (b : Bool) (d : Nat) : u.UartsKept (if b then u.modPwr fun p => { p with domains := p.domains &&& ~~~domainBit d } else u) := by
    split
    · exact ⟨rfl, rfl⟩
    · exact refl u
  unfold State.powerDownIdle
  extract_lets e busy taking off' u v live w
  split
  · exact (((off s _ 3).trans (off u _ 4)).trans (off v _ 9)).trans (w.uartsKept_syncPorts ..)
  · split
    · exact off s _ 3
    · exact refl s

/-! ## Measurement resumes, and what waits begins -/

theorem State.uartsKept_requestCapture {cmd : Option Nat} {a f b l id : Nat} {old fix : Bool} {t : State}
    (h : s.requestCapture cmd a f b l old fix = some (id, t)) : s.UartsKept t := by
  unfold State.requestCapture at h
  split at h
  · simp at h
  · extract_lets c r u at h
    obtain ⟨_, rfl⟩ := Prod.mk.inj (Option.some.inj h)
    split
    · exact (⟨rfl, rfl⟩ : s.UartsKept u).trans (u.uartsKept_powerDomains _)
    · exact ⟨rfl, rfl⟩

theorem State.sketchChecks_state (mask : Nat) (host : Option (Nat × Int × Int × Int)) (speed : Nat) : (s.sketchChecks mask host speed).2.2 = s.draw.2 := by
  unfold State.sketchChecks
  generalize s.draw = r
  obtain ⟨k, u⟩ := r
  dsimp -zeta only
  extract_lets at_ pred pos
  clear_value at_ pred pos
  split
  · rfl
  · split
    · rfl
    · split
      · rfl
      · split
        · rfl
        · split <;> rfl

theorem State.uartsKept_startScheduled : s.UartsKept s.startScheduled := by
  unfold State.startScheduled
  extract_lets u c v none_
  have hnone (w : State) : w.UartsKept (none_ w) := ⟨rfl, rfl⟩
  have hv : s.UartsKept v := ⟨rfl, rfl⟩
  have hw := v.sketchChecks_state c.mask none c.speed
  generalize v.sketchChecks c.mask none c.speed = r at hw ⊢
  obtain ⟨o, n, w⟩ := r
  obtain rfl : w = v.draw.2 := hw
  have hd : s.UartsKept v.draw.2 := hv.trans ⟨rfl, rfl⟩
  split
  · next e =>
    obtain ⟨_, e⟩ := Prod.mk.inj e
    obtain ⟨_, rfl⟩ := Prod.mk.inj e
    exact hd.trans (hnone _)
  · next e =>
    obtain ⟨_, e⟩ := Prod.mk.inj e
    obtain ⟨_, rfl⟩ := Prod.mk.inj e
    split
    · exact hd.trans (hnone _)
    · next hr => exact (hd.trans (State.uartsKept_requestCapture _ hr)).trans ⟨rfl, rfl⟩

theorem State.uartsKept_resumeMeasurement : s.UartsKept s.resumeMeasurement := by
  unfold State.resumeMeasurement
  split
  · exact refl s
  · extract_lets u v
    have hu : s.UartsKept u := (⟨rfl, rfl⟩ : s.UartsKept s.resumeEpochs).trans (State.uartsKept_syncPorts _ true 6)
    have hv : u.UartsKept v := by
      dsimp only [v]
      split
      · exact u.uartsKept_startScheduled
      · exact refl u
    split
    · exact (hu.trans hv).trans v.uartsKept_powerDownIdle
    · exact hu.trans hv

theorem State.uartsKept_startProfile (r : ProfileReq) : s.UartsKept (s.startProfile r) := by
  unfold State.startProfile
  extract_lets u
  split
  · exact ⟨rfl, rfl⟩
  · exact (⟨rfl, rfl⟩ : s.UartsKept u).trans (u.uartsKept_powerDomains _)

theorem State.uartsKept_withdrawProfile (next : Nat) : s.UartsKept (s.withdrawProfile next) := by
  unfold State.withdrawProfile
  split
  · exact refl s
  · next r _ =>
    extract_lets now keep cut u v
    have hu : s.UartsKept u := (s.uartsKept_finalOption r.cmd .aborted 1 []).trans ⟨rfl, rfl⟩
    have hv : u.UartsKept v := by
      dsimp only [v]
      split
      · exact ⟨rfl, rfl⟩
      · exact refl u
    split
    · exact (hu.trans hv).trans v.uartsKept_powerDownIdle
    · exact hu.trans hv

theorem State.uartsKept_requestProfile (p : Nat) (cmd : Option Nat) : s.UartsKept (s.requestProfile p cmd) := by
  unfold State.requestProfile
  dsimp only
  split
  · exact (s.uartsKept_withdrawProfile p).trans (State.uartsKept_finalOption ..)
  · exact (s.uartsKept_withdrawProfile p).trans (State.uartsKept_startProfile ..)

theorem State.uartsKept_endFailure (e : Entry) (f : EntryFailure) (h0 : f.reason ≠ 0) : s.UartsKept (s.endFailure e f) := by
  unfold State.endFailure
  rw [if_neg h0]
  have hu : s.UartsKept (s.rejoin e) := by
    unfold State.rejoin
    split
    · exact ⟨rfl, rfl⟩
    · exact refl s
  extract_lets u st
  have hr := u.reports_claim 9
  generalize u.claim 9 = r at hr ⊢
  obtain ⟨cause, v⟩ := r
  have hw := hr.trans ((v.reports_domeRecord 11 cause 0x12 f.dt
    (le 1 e.req.target.code ++ le 1 f.reason ++ le 1 f.block ++ le 1 0 ++ le 4 e.delays)).trans
    (State.reports_answerRequest _ e.req st (if f.reason = 4 then 0 else f.reason) f.block e.delays))
  exact (hu.trans (of_reports hw)).trans ⟨rfl, rfl⟩

theorem State.uartsKept_startPending : s.UartsKept s.startPending := by
  unfold State.startPending
  split
  · exact refl s
  · split
    · extract_lets u
      have hu : s.UartsKept u := ⟨rfl, rfl⟩
      split
      · exact hu.trans (of_reports (u.reports_answerRequest ..))
      · split
        · exact hu.trans (u.uartsKept_endFailure _ _ (Nat.succ_ne_zero 6))
        · exact hu.trans ⟨rfl, rfl⟩
    · exact (⟨rfl, rfl⟩ : s.UartsKept (s.modPwr fun p => { p with pendingProfile := none })).trans (State.uartsKept_requestProfile ..)
    · exact refl s
end

/-! ## A wake by U7 in slow mode -/

/-- Whether U7 is marked in the state that follows. -/
def u7Woken : Res → Bool
  | .next t => (vget t.uarts 7).woken
  | _ => false

/-- The last slow edge before the handover of a wake from SLEEP by U7, whose line is slow. -/
def slowWake : State := { State.reset with
  pwr := { State.reset.pwr with
    phase := .locked
    wakeEvent := some ⟨13, 0, false⟩
    entry := some { req := { target := .sleep, snapSr := false, delayMax := 0, from_ := .drum }, accepted := 0, answers := Vector.replicate 9 .granted } }
  uarts := vmod State.reset.uarts 7 fun u => { u with line := { u.line with slow := true } } }

/-- Records that waited enter their ring. -/
theorem State.reports_releaseHeld (s : State) : s.Reports s.releaseHeld := by
  unfold State.releaseHeld
  split
  · exact .refl s
  · refine State.Reports.trans (t := { s with evtHeld := [] }) rfl (State.reports_foldl _ (fun u o => ?_) _)
    obtain ⟨_, _, _, e⟩ := u.offer_eq o.ring o.rtype o.dt o.payload
    rw [e]
    rfl

section
open State.UartsKept (refl of_reports)

/-- Where nothing was latched during the sleep and no bank was lost, the wake leaves the UARTs as the logic of the handover has set them. -/
theorem State.uartsKept_endWake (s : State) (e : Entry) (hp : s.sealed.pfLatched = none) (hl : s.sealed.latched = none)
    (hb : s.pwr.lostBanks = []) : s.UartsKept (s.endWake e) := by
  have hlatch : s.latchedEntries = s := by
    unfold State.latchedEntries
    dsimp only
    rw [hp, hl]
    dsimp only
    rw [hp]
  unfold State.endWake
  dsimp -zeta only
  rw [hlatch]
  extract_lets w pf u banks flags from_ v x y m z a b
  have hv : s.UartsKept v := of_reports ((u.reports_claim 9).trans (State.reports_domeRecord ..))
  have hx : v.UartsKept x := ⟨rfl, rfl⟩
  have hy : x.UartsKept y := of_reports x.reports_releaseHeld
  have hz : y.UartsKept z := by
    dsimp only [z]
    split
    · exact ⟨rfl, rfl⟩
    · exact refl y
  have ha : z.UartsKept a := (z.uartsKept_powerDomains _).trans (State.uartsKept_resumeMeasurement _)
  have hban : b = a := by
    have hbanks : banks = [] := hb
    dsimp only [b]
    rw [hbanks]
    rfl
  rw [hban]
  exact (((((hv.trans hx).trans hy).trans hz).trans ha)).trans (of_reports (a.reports_answerRequest ..))
end

/-- The state as the logic of the handover leaves it. -/
def State.handedOver (s : State) : State := s.linkWakes.modPwr fun p => { p with domains := p.domains ||| domainBit 9, handoverTick := some s.clk.tick }

/-- The handover of a wake: the entry that ends well. -/
theorem exec_handover_wake {s : State} {e : Entry} (hp : s.pwr.phase = .locked) (he : s.pwr.entry = some e) (hf : e.failure = none) :
    exec .handover s = .next (if (s.handedOver.endWake e).pwr.pinReset
      then ((s.handedOver.endWake e).modPwr fun p => { p with pinReset := false }).stageOne else (s.handedOver.endWake e).startPending) := by
  refine (show exec .handover s = execHandover s from rfl).trans ?_
  unfold execHandover
  rw [if_neg (by rw [hp]; decide)]
  extract_lets u v
  rw [show v.pwr.entry = some e from he]
  dsimp only
  rw [hf]
  exact (apply_ite _ _ _ _).symm

theorem slowWake_unmarked : u7Woken (exec .handover slowWake) = false := by
  have hk := slowWake.handedOver.uartsKept_endWake
    { req := { target := .sleep, snapSr := false, delayMax := 0, from_ := .drum }, accepted := 0, answers := Vector.replicate 9 .granted } rfl rfl rfl
  rw [exec_handover_wake rfl rfl rfl, if_neg (by rw [hk.pinReset]; decide)]
  have h : (vget slowWake.handedOver.uarts 7).woken = false := by decide +kernel
  exact (congrArg (fun v => (vget v 7).woken) ((State.uartsKept_startPending _).uarts.trans hk.uarts)).trans h

/-- A state that a handover leads to by way of `u` has the UARTs of `u` where no reset by the pin waits. -/
theorem handover_uarts {u : State} {r : EntryReq} {b n : Nat} (hp : u.pwr.pinReset = false) :
    u7Woken (.next (if (u.resumeMeasurement.answerRequest r .ok 0 b n).pwr.pinReset = true
      then State.stageOne { u.resumeMeasurement.answerRequest r .ok 0 b n with
        pwr := { (u.resumeMeasurement.answerRequest r .ok 0 b n).pwr with pinReset := false } }
      else (u.resumeMeasurement.answerRequest r .ok 0 b n).startPending)) = (vget u.uarts 7).woken := by
  have hv := u.uartsKept_resumeMeasurement.trans (.of_reports (State.reports_answerRequest _ r .ok 0 b n))
  rw [if_neg (by rw [hv.pinReset, hp]; exact Bool.false_ne_true)]
  exact congrArg (fun v => (vget v 7).woken) ((State.uartsKept_startPending _).uarts.trans hv.uarts)

/-- Refutes O53: a slow U7 that wakes the device is not marked at the handover. -/
theorem not_clocksAndSupply : ¬ Obligations.ClocksAndSupply := by
  unfold Obligations.ClocksAndSupply
  intro h
  obtain ⟨_, _, hwake, _⟩ := h slowWake
  obtain ⟨u, v, rfl, he, _, _, _, _, _, _, _, hpin, _, hmark, _⟩ := hwake _ ⟨13, 0, false⟩ rfl rfl rfl rfl rfl rfl
  have hu : (vget u.uarts 7).woken = true := hmark 7 (by decide) (by decide) rfl
  have hr := (congrArg u7Woken he).trans (handover_uarts hpin)
  rw [slowWake_unmarked, hu] at hr
  exact Bool.false_ne_true hr
end Sys2Proof.Machine

/-! # Image checks and the resets of the parts (O54) -/

namespace Sys2Proof.Machine

/-! ## What a reset of the Dome leaves (19 R629) -/

/-- From `s` to `t` only the pulses, the mailbox and the places in the tick have changed. -/
structure State.Pulsed (s t : State) : Prop where
  rest : t = { s with tp := t.tp, mbx := t.mbx, ranks := t.ranks }

theorem State.Pulsed.refl (s : State) : s.Pulsed s := ⟨rfl⟩

theorem State.Pulsed.trans {s t u : State} (h : s.Pulsed t) (k : t.Pulsed u) : s.Pulsed u := by
  have hk := k.rest
  rw [h.rest] at hk
  exact ⟨hk⟩

section
variable (s : State)

theorem State.pulsed_domeRecord (n c ty dt : Nat) (p : List Byte) : s.Pulsed (s.domeRecord n c ty dt p) := by
  unfold State.domeRecord
  dsimp only
  split <;> exact ⟨rfl⟩

theorem State.pulsed_stateRecord (g : Nat) (old : TpState) (cause n : Nat) (b : Bool) : s.Pulsed (s.stateRecord g old cause n b) := by
  unfold State.stateRecord
  extract_lets k age
  exact (⟨rfl⟩ : s.Pulsed (s.claim 4).2).trans (State.pulsed_domeRecord ..)

theorem State.pulsed_modTp (f : Pulses → Pulses) : s.Pulsed (s.modTp f) := ⟨rfl⟩

theorem State.pulsed_stopPulses : s.Pulsed s.stopPulses := by
  unfold State.stopPulses
  refine .trans (foldl_related (R := State.Pulsed) .refl .trans (fun w g => ?_) _ s) (State.pulsed_modTp _ _)
  beta_reduce
  extract_lets k n old st v
  have hv : w.Pulsed v := w.pulsed_modTp _
  split
  · exact hv
  · exact hv.trans (v.pulsed_stateRecord ..)

/-- What a run of writes to the places `d` to `d + n - 1` leaves in any other. -/
theorem vget_forUpto_vset_out {α : Type} [Inhabited α] {z d j : Nat} (g : Nat → α) (v : Vector α z) : ∀ {n : Nat}, j < d ∨ d + n ≤ j →
    vget (forUpto n (fun k v => vset v (k + d) (g k)) v) j = vget v j
  | 0, _ => rfl
  | n + 1, h => by
    rw [forUpto_succ, vget_vset_other _ _ (by omega), vget_forUpto_vset_out g v (by omega)]

/-- What a reset of the Dome sets and what it leaves. -/
theorem State.domeReset_facts (src : Nat) (x : Bool) : (s.domeReset src x).boot.dome = .images ∧ (s.domeReset src x).pwr.profile = 3 ∧
    (s.domeReset src x).mem = s.mem ∧ (s.domeReset src x).rings = s.rings ∧ (s.domeReset src x).boot.drum = s.boot.drum ∧
    (s.domeReset src x).sealed.main = s.sealed.main ∧ (s.domeReset src x).sealed.state = s.sealed.state ∧ (s.domeReset src x).sealed.due = [] ∧
    (s.domeReset src x).sealed.measured = s.sealed.commit.measured ∧ (s.domeReset src x).rlink = s.rlink ∧
    (∀ k < 3, vget (s.domeReset src x).cores k = vget s.cores k) ∧
    ∀ k, 3 ≤ k → k < 8 → vget (s.domeReset src x).cores k = coreAt k 0xFF0000 false := by
  have hcores (k : Nat) (h3 : 3 ≤ k) (h8 : k < 8) : vget (s.domeReset src x).cores k = coreAt k 0xFF0000 false := by
    obtain ⟨n, rfl⟩ : ∃ n, k = n + 3 := ⟨k - 3, by omega⟩
    exact s.core_domeReset src x (by omega)
  refine ⟨rfl, rfl, ?_⟩
  have h := s.pulsed_stopPulses.rest
  unfold State.domeReset at hcores ⊢
  generalize s.stopPulses = u at h hcores ⊢
  rw [h] at hcores ⊢
  exact ⟨rfl, rfl, rfl, rfl, rfl, rfl, rfl, rfl, fun k hk =>
    vget_forUpto_vset_out (d := 3) (fun k => coreAt (k + 3) 0xFF0000 false) _ (by omega), hcores⟩

/-! ## What a reset of the Drum leaves (19 R620, R628) -/

/-- What a reset of the Drum sets and what it leaves. -/
theorem State.drumReset_facts (src : Nat) : (s.drumReset src).boot.drum = .images ∧ (s.drumReset src).boot.dome = s.boot.dome ∧
    (s.drumReset src).interp.inflight = [] ∧ (s.drumReset src).sealed = s.sealed ∧ (s.drumReset src).mmus = Vector.replicate 4 {} ∧
    (s.drumReset src).dma = {} ∧ (s.drumReset src).intc = Vector.replicate 64 {} ∧
    (∀ k < 3, vget (s.drumReset src).cores k = coreAt k 0xFF0000 false) ∧
    (∀ k, 3 ≤ k → k < 8 → vget (s.drumReset src).cores k = vget s.cores k) ∧
    (s.drumReset src).rings = Vector.replicate 16 {} ∧ (s.drumReset src).mem.sram = s.mem.sram ∧ (s.drumReset src).rlink = s.rlink := by
  have hcores (k : Nat) (h3 : k < 3) : vget (s.drumReset src).cores k = coreAt k 0xFF0000 false := s.core_drumReset src h3
  unfold State.drumReset at hcores ⊢
  have hs : s.ChainOnly (if s.fast then s.sendLinkSleep 1 else s) := by
    split
    · exact s.chainOnly_sendLinkSleep 1
    · exact rfl
  unfold State.ChainOnly at hs
  generalize (if s.fast then s.sendLinkSleep 1 else s) = u at hs hcores ⊢
  rw [hs] at hcores ⊢
  exact ⟨rfl, rfl, rfl, rfl, rfl, rfl, rfl, hcores, fun k h3 _ => vget_forUpto_vset_out (d := 0) (fun k => coreAt k 0xFF0000 false) _ (by omega), rfl, rfl, rfl⟩
end

section
variable {s : State}

/-! ## Image checks (19 R623–R625) -/

/-- The check of a slot of the Drum. -/
theorem exec_imageCheck_drum (ok : Bool) (r : Nat) (hb : s.boot.drum = .images) (hf : s.fast = true) : exec (.imageCheckComplete false ok r) s =
    if ok && s.drumImages.now.valid && decide (s.drumImages.now.rollback ≥ s.drumImages.fused) &&
        !(match s.drumImages.trial with | none => false | some d => decide (s.now > d)) then .next (s.drumStart false)
    else if s.boot.drumRejects + 1 ≥ 2 then .next (State.drumStart { s with
      drumImages := { s.drumImages with active := !s.drumImages.active, trial := none }
      boot := { s.boot with drumRejects := s.boot.drumRejects + 1 } } true)
    else .next { s with
      drumImages := { s.drumImages with active := !s.drumImages.active, trial := none }
      boot := { s.boot with drumRejects := s.boot.drumRejects + 1 } } := by
  refine (show exec (.imageCheckComplete false ok r) s = execImageCheckComplete false ok r s from rfl).trans ?_
  unfold execImageCheckComplete
  rw [if_neg Bool.false_ne_true, if_neg (by rw [hb, hf]; decide)]
  rfl

/-- The check of a slot of the Dome. -/
theorem exec_imageCheck_dome (ok : Bool) (r : Nat) (hb : s.boot.dome = .images) (hf : s.fast = true) : exec (.imageCheckComplete true ok r) s =
    if ok && s.domeImages.now.valid && decide (s.domeImages.now.rollback ≥ s.domeImages.fused) &&
        !(match s.domeImages.trial with | none => false | some d => decide (s.now > d)) then .next (s.domeStart false)
    else if (s.boot.rejected ++ [(s.domeImages.active, r)]).length ≥ 2 then .next (State.domeStart { s with
      domeImages := { s.domeImages with active := !s.domeImages.active, trial := none }
      boot := { s.boot with rejected := s.boot.rejected ++ [(s.domeImages.active, r)] } } true)
    else .next { s with
      domeImages := { s.domeImages with active := !s.domeImages.active, trial := none }
      boot := { s.boot with rejected := s.boot.rejected ++ [(s.domeImages.active, r)] } } := by
  refine (show exec (.imageCheckComplete true ok r) s = execImageCheckComplete true ok r s from rfl).trans ?_
  unfold execImageCheckComplete
  rw [if_pos rfl, if_neg (by rw [hb, hf]; decide)]
  rfl

/-- A slot that is valid, new enough and in time passes. -/
theorem Images.passes {i : Images} (hv : i.now.valid = true) (hr : i.fused ≤ i.now.rollback) (ht : ∀ d, i.trial = some d → s.now ≤ d) :
    (true && i.now.valid && decide (i.now.rollback ≥ i.fused) && !(match i.trial with | none => false | some d => decide (s.now > d))) = true := by
  rw [hv, decide_eq_true hr]
  cases h : i.trial with
  | none => rfl
  | some d => simpa using ht d h

/-- Where the cores of the Drum start from its image. -/
theorem State.drumStart_cores (s : State) : ∃ a b, (s.drumStart false).cores =
    vmod (vmod (vmod s.cores 0 (·.service 0xF8C00)) 1 (·.service a)) 2 (·.service b) := ⟨_, _, rfl⟩

/-- Without an image D1 and D2 are held. -/
theorem State.drumStart_held (s : State) : (s.drumStart true).cores =
    vmod (vmod s.cores 1 fun c => { c with held := true }) 2 fun c => { c with held := true } := rfl

theorem imageCheck_drumPasses (r : Nat) (hb : s.boot.drum = .images) (hf : s.fast = true) (hv : s.drumImages.now.valid = true)
    (hr : s.drumImages.fused ≤ s.drumImages.now.rollback) (ht : ∀ d, s.drumImages.trial = some d → s.now ≤ d) :
    ∃ t, exec (.imageCheckComplete false true r) s = .next t ∧ t.boot.drum = .service ∧ t.rings = startRings ∧ t.hport.ready = true ∧
      t.interp.recovery = false ∧ t.drumImages.fused = s.drumImages.now.rollback ∧ (vget t.cores 0).pc = 0xF8C00 ∧ (vget t.cores 0).sr = 0 := by
  refine ⟨_, (exec_imageCheck_drum true r hb hf).trans (if_pos (Images.passes hv hr ht)), ?_⟩
  obtain ⟨a, b, hc⟩ := s.drumStart_cores
  rw [hc, vget_vmod_other _ _ (by decide), vget_vmod_other _ _ (by decide), vget_vmod_same _ _ (by decide)]
  exact ⟨rfl, rfl, rfl, rfl, max_eq_right hr, rfl, rfl⟩

theorem imageCheck_drumOther (r : Nat) (hb : s.boot.drum = .images) (hf : s.fast = true) (h0 : s.boot.drumRejects = 0) :
    exec (.imageCheckComplete false false r) s = .next { s with
      drumImages := { s.drumImages with active := !s.drumImages.active, trial := none }
      boot := { s.boot with drumRejects := 1 } } := by
  rw [exec_imageCheck_drum false r hb hf, h0]
  rfl

theorem imageCheck_drumRecovers (r : Nat) (hb : s.boot.drum = .images) (hf : s.fast = true) (h1 : s.boot.drumRejects = 1) :
    ∃ t, exec (.imageCheckComplete false false r) s = .next t ∧ t.boot.drum = .noImage ∧ t.interp.recovery = true ∧
      (vget t.cores 1).held = true ∧ (vget t.cores 2).held = true := by
  have he := exec_imageCheck_drum false r hb hf
  rw [if_neg (by simp), if_pos (by rw [h1])] at he
  refine ⟨_, he, rfl, rfl, ?_, ?_⟩
  · rw [State.drumStart_held, vget_vmod_other _ _ (by decide), vget_vmod_same _ _ (by decide)]
  · rw [State.drumStart_held, vget_vmod_same _ _ (by decide)]

theorem imageCheck_domePasses (r : Nat) (hb : s.boot.dome = .images) (hf : s.fast = true) (hv : s.domeImages.now.valid = true)
    (hr : s.domeImages.fused ≤ s.domeImages.now.rollback) (ht : ∀ d, s.domeImages.trial = some d → s.now ≤ d) :
    exec (.imageCheckComplete true true r) s = .next (s.domeStart false) :=
  (exec_imageCheck_dome true r hb hf).trans (if_pos (Images.passes hv hr ht))

theorem imageCheck_domeOther (r : Nat) (hb : s.boot.dome = .images) (hf : s.fast = true) (h0 : s.boot.rejected = []) :
    exec (.imageCheckComplete true false r) s = .next { s with
      domeImages := { s.domeImages with active := !s.domeImages.active, trial := none }
      boot := { s.boot with rejected := [(s.domeImages.active, r)] } } := by
  rw [exec_imageCheck_dome false r hb hf, h0]
  rfl

/-! ## RESET_N (19 R618, R632) -/

theorem pinReset_running (hp : s.pwr.phase = .running) : ∃ t, exec .pinReset s = .next t ∧ t.pwr.phase = .lantern ∧ t.pwr.entry = none ∧
    t.boot.stage = 1 ∧ t.boot.dome = .lantern ∧ t.boot.drum = .lantern ∧ t.rings = Vector.replicate 16 {} ∧ t.mem.sram = s.mem.sram ∧
    t.rlink.seq = some { purpose := .stageOneMode, volts := 0, cfg := s.rlink.cfg, at_ := s.rlink.opening } ∧
    ∀ k < 8, vget t.cores k = coreAt k 0xFF0000 false := by
  have he : exec .pinReset s = execPinReset s := rfl
  unfold execPinReset at he
  rw [hp] at he
  obtain ⟨_, _, hmem, _, _, _, _, _, _, hlink, _, hdome⟩ := s.domeReset_facts 2 true
  obtain ⟨_, _, _, _, _, _, _, hdrum, hrest, hrings, hsram, hrl⟩ := (s.domeReset 2 true).drumReset_facts 2
  refine ⟨_, he, ?_⟩
  unfold State.stageOne
  generalize (s.domeReset 2 true).drumReset 2 = u at hdrum hrest hrings hsram hrl ⊢
  rw [hmem] at hsram
  rw [hlink] at hrl
  have hcores (k : Nat) (hk : k < 8) : vget u.cores k = coreAt k 0xFF0000 false := by
    by_cases h3 : k < 3
    · exact hdrum k h3
    · exact (hrest k (by omega) hk).trans (hdome k (by omega) hk)
  refine ⟨rfl, rfl, rfl, rfl, rfl, hrings, hsram, ?_, hcores⟩
  rw [← hrl]
  rfl

theorem pinReset_unpowered (hp : s.pwr.phase = .unpowered ∨ s.pwr.phase = .off) : exec .pinReset s = .next s := by
  refine (show exec .pinReset s = execPinReset s from rfl).trans ?_
  unfold execPinReset
  rcases hp with h | h <;> rw [h]

/-! ## Resets by command (12 R423, R424) -/

theorem exec_domeReset (s : State) : exec .domeReset s = .next (s.domePlan.elim s fun p => s.domeReset p.source p.drum.isSome) := by
  refine (show exec .domeReset s = execDomeReset s from rfl).trans ?_
  unfold execDomeReset
  cases s.domePlan <;> rfl

theorem exec_drumReset (s : State) : exec .drumReset s = .next (s.drumPlan.elim s fun p => s.drumReset p.source) := by
  refine (show exec .drumReset s = execDrumReset s from rfl).trans ?_
  unfold execDrumReset
  cases s.drumPlan <;> rfl

/-! ## Watchdogs (19 R624, R630, R631) -/

theorem exec_domeWdtExpiry (hf : s.fast = true) (hb : s.boot.dome ≠ .lantern) (ht : s.boot.resetDt + ms 250 ≤ s.now) :
    exec .domeWdtExpiry s = .next (s.domeFailure 3) := by
  refine (show exec .domeWdtExpiry s = execDomeWdtExpiry s from rfl).trans (if_pos ?_)
  rw [hf, decide_eq_true ht, bne_iff_ne.2 hb]
  rfl

theorem domeWdtExpiry_proven (hf : s.fast = true) (hb : s.boot.dome ≠ .lantern) (ht : s.boot.resetDt + ms 250 ≤ s.now)
    (hn : s.domeImages.trial = none) : exec .domeWdtExpiry s = .next (s.domeReset 3 false) := by
  refine (exec_domeWdtExpiry hf hb ht).trans (congrArg _ (if_neg ?_))
  rw [hn]
  exact Bool.false_ne_true

theorem domeWdtExpiry_trial {d : Nat} (hf : s.fast = true) (hb : s.boot.dome ≠ .lantern) (ht : s.boot.resetDt + ms 250 ≤ s.now)
    (hd : s.domeImages.trial = some d) : exec .domeWdtExpiry s =
      .next ({ s with domeImages := { s.domeImages with active := !s.domeImages.active, trial := none } }.domeReset 8 false) := by
  refine (exec_domeWdtExpiry hf hb ht).trans (congrArg _ (if_pos ?_))
  rw [hd]
  rfl

theorem drumWdtExpiry_proven (hw : s.wdtExpired 0 = true) (hn : s.drumImages.trial = none) : exec .drumWdtExpiry s =
    .next ({ s with wdts := vmod s.wdts 0 fun w => { w with expired := true } }.drumReset 9) := by
  refine (show exec .drumWdtExpiry s = execDrumWdtExpiry s from rfl).trans ((if_pos hw).trans (congrArg _ (if_neg ?_)))
  rw [show (s.markExpired 0).drumImages.trial = none from hn]
  exact Bool.false_ne_true

theorem coreWdtExpiry_resets {n : Fin 3} (h0 : n.val ≠ 0) (hw : s.wdtExpired n.val = true) : ∃ t, exec (.coreWdtExpiry n) s = .next t ∧
    t.cores = vset s.cores n.val (coreAt n.val 0xFF0080 false) ∧ (vget t.wdts n.val).expired = true ∧ (vget t.wdts n.val).since = s.now ∧
    (if n.val = 1 then t.boot.srcD1 = 12 else t.boot.srcD2 = 12) ∧ t.mem = s.mem ∧ t.rings = s.rings := by
  have he : exec (.coreWdtExpiry n) s = .next ((s.markExpired n.val).coreReset n.val 12) :=
    (show exec (.coreWdtExpiry n) s = execCoreWdtExpiry n s from rfl).trans (if_pos ⟨h0, hw⟩)
  have h2 : vget ((s.markExpired n.val).coreReset n.val 12).wdts n.val = { vget s.wdts n.val with expired := true, since := s.now } :=
    (vget_vmod_same _ _ n.isLt).trans (congrArg (fun w : Watchdog => { w with since := s.now }) (vget_vmod_same s.wdts _ n.isLt))
  refine ⟨_, he, rfl, by rw [h2], by rw [h2], ?_, rfl, rfl⟩
  unfold State.coreReset
  dsimp only
  split <;> rfl
end

/-- Settles O54: image checks, RESET_N, resets by command, their reach, then the watchdogs. -/
theorem resets : Obligations.Resets := by
  unfold Obligations.Resets
  intro s
  refine ⟨imageCheck_drumPasses, imageCheck_drumOther, imageCheck_drumRecovers, imageCheck_domePasses, imageCheck_domeOther, pinReset_running,
    pinReset_unpowered, fun p h => by rw [exec_domeReset, h, Option.elim_some],
    fun h => by rw [exec_domeReset, h, Option.elim_none], fun p h => by rw [exec_drumReset, h, Option.elim_some],
    fun h => by rw [exec_drumReset, h, Option.elim_none], fun src x => ⟨_, rfl, ?_⟩, fun src => ⟨_, rfl, ?_⟩,
    domeWdtExpiry_proven, fun d => domeWdtExpiry_trial, drumWdtExpiry_proven,
    fun hw => (show exec .drumWdtExpiry s = execDrumWdtExpiry s from rfl).trans (if_neg (ne_true_of_eq_false hw)), fun n => coreWdtExpiry_resets⟩
  · obtain ⟨h1, h2, h3, h4, h5, h6, h7, h8, h9, _, h10⟩ := s.domeReset_facts src x
    exact ⟨h1, h2, h3, h4, h5, h6, h7, h8, h9, h10⟩
  · obtain ⟨h1, h2, h3, h4, h5, h6, h7, h8, h9, _⟩ := s.drumReset_facts src
    exact ⟨h1, h2, h3, h4, h5, h6, h7, h8, h9⟩
end Sys2Proof.Machine
